-- ==== Sys2Proof/Word.lean ====
section
/-! DEFINITION. The word types of the device. -/

namespace Sys2Proof

/-- One byte. -/
abbrev Byte := BitVec 8

/-- A nib core register (R229: the ALU acts on 64 bits). -/
abbrev Word := BitVec 64

end Sys2Proof
end

