-- ==== Sys2Proof/Syntax.lean ====
section
/-! DEFINITION. The commands the device takes, with their operands. -/

namespace Sys2Proof

/-- A half of the device: K is half 0, Q is half 1 (01, "Halves and castling links"). -/
inductive Half where
  | k
  | q
deriving DecidableEq, Repr

/-- The other half. -/
def Half.other : Half → Half
  | .k => .q
  | .q => .k

/-- The half's number (01: K is half 0, Q is half 1). -/
def Half.num : Half → Nat
  | .k => 0
  | .q => 1

/-- A management session (R389): a PF0 mailbox, a Synrok peer on one half, or an MCTP source on one medium. -/
inductive Session where
  | mbox (port : Fin 4)
  | synrok (half : Half) (peer : Nat)
  | mctp (half : Half) (medium eid : Nat)
deriving DecidableEq, Repr

/-- Who sends a request: its session, and the key it is authenticated with, if any (R389, R397). -/
structure Who where
  sess : Session
  key  : Option (Fin 8)
deriving DecidableEq, Repr

/-- A function of a host port, by the function number of R42: 0 to 3 are PF0 to PF3, 4 to 259 the VFs of PF1 and
260 to 515 the VFs of PF2. -/
structure FnRef where
  port : Fin 4
  num  : Fin 516
deriving DecidableEq, Repr

/-- A queue frame, window register or doorbell block, by the function whose BAR0 reaches it and its number there (R44). -/
structure QRef where
  fn    : FnRef
  frame : Nat
deriving DecidableEq, Repr

/-- The status a PCIe completion carries, with the data of a good one (R55). -/
inductive CplStatus where
  | ok (data : List Byte)
  | unsupported
  | abort
  | poisoned
  | malformed
deriving DecidableEq, Repr

/-- What the device reads for one operand of the hops of a descriptor chain: the bytes, and, where an access failed, that
it did, after those bytes (R134). -/
structure HopData where
  bytes  : List Byte
  failed : Bool
deriving DecidableEq, Repr

/-- A request that arrives at an arbiter: the requester, its direction on a host port (true: host to device), and the
device time of its arrival (R136, R139, R141). -/
structure ArbArrival where
  req    : Nat
  toDev  : Bool
  since  : Nat
deriving DecidableEq, Repr

/-- What a frame on a management link port is addressed to (R160). -/
inductive MgmtFrame where
  | ownUnicast
  | arpBroadcast
  | neighbourMulticast
  | otherFrame
deriving DecidableEq, Repr

/-- A nib thread: unit 0 to 3 are K.NIB0 to K.NIB3 and 4 to 7 Q.NIB0 to Q.NIB3; slot 0 to 63 (R214). -/
structure Th where
  unit : Fin 8
  slot : Fin 64
deriving DecidableEq, Repr

/-- The register number of a nib instruction's field (R227). -/
abbrev Reg := BitVec 5

/-- The class of a nib thread that receives frames (R219). -/
inductive NibClass where
  | dispatch
  | exception
deriving DecidableEq, Repr

/-- The kind of a RoCE request packet (R274, R285). -/
inductive RoceOp where
  | send
  | write
  | read
  | cas
  | fadd
deriving DecidableEq, Repr

/-- A received frame for the RDMA transport, as the fields of it that R276, R288, R295 to R305 use. `first` and `last`
are the packet's place in its message, `total` the length of a READ or of the whole WRITE, `order` the ORDER bit. -/
structure RocePkt where
  roce    : Bool
  slice   : Nat
  destQp  : Nat
  srcQp   : Nat
  op      : RoceOp
  first   : Bool
  last    : Bool
  imm     : Option (BitVec 32)
  ackReq  : Bool
  order   : Bool
  psn     : BitVec 24
  rkey    : BitVec 32
  va      : BitVec 64
  total   : Nat
  swap    : BitVec 64
  compare : BitVec 64
  qKey    : BitVec 32
  payload : List Byte
  ipv4    : Bool
  icrcOk  : Bool
  ce      : Bool
  atomicResult : Option (BitVec 64)
deriving DecidableEq, Repr

/-- What a responder sends back (R295, R299 to R302). -/
inductive RoceAnswer where
  | ack
  | nakSequence
  | nakRnr (timer : Nat)
  | nakAccess
  | nakInvalid
  | nakOperational
  | readData (data : List Byte) (last : Bool)
  | atomicData (old : BitVec 64)
deriving DecidableEq, Repr

/-- A response packet for a requester QP, named by its wire number (R300). -/
structure RoceResp where
  qp     : Nat
  psn    : BitVec 24
  answer : RoceAnswer
deriving DecidableEq, Repr

/-- Where an admin command of the storage service comes from: the admin queue whose oldest unstarted command it is, or the
NS_CMD object (R339). -/
inductive AdminSrc where
  | queue (stq : Nat)
  | mgmt (w : Who) (cmd : BitVec 512)
deriving DecidableEq, Repr

/-- How the decoder of R347 finds a line: without error, correctable (naming the failing device), or not correctable. -/
inductive DramErr where
  | clean
  | correctable (device : Nat)
  | uncorrectable
deriving DecidableEq, Repr

/-- The consumer of a DRAM line (R348). -/
inductive DramUser where
  | writeBuffer (nsid granule : Nat)
  | nsMap (nsid : Nat)
  | qpContext (qp : Nat)
  | tableSpill
  | nibOverflow (t : Th)
  | other
deriving DecidableEq, Repr

/-- A drive found below a root port: its slot, capacity, LBA size and serial number (R66, R342). -/
structure DriveId where
  slot     : Fin 16
  capacity : Nat
  lba4k    : Bool
  serial   : BitVec 160
deriving DecidableEq, Repr

/-- A unit by its half and its index 0 to 16 (R15). -/
structure UnitRef where
  half  : Half
  index : Fin 17
deriving DecidableEq, Repr


/-- The commands of the OX1600: one constructor for each row of the table, with the operands the step needs from
outside. Each docstring names the row and the rule that governs it. -/
inductive Instr where
  /-- Row VIN_RISE (R440). -/
  | vinRise (mv : Nat)
  /-- Row VIN_DIP (R441). -/
  | vinDip (mv : Nat)
  /-- Row PWRGOOD_RISE_PORN_HIGH (R441). -/
  | pwrgoodRisePornHigh (straps : BitVec 8)
  /-- Row PORN_RELEASE (R367). -/
  | pornRelease (straps : BitVec 8)
  /-- Row PAYLOAD_HASH_CHECK (R367). -/
  | payloadHashCheck (pass : Bool)
  /-- Row PORN_ASSERT (R442). -/
  | pornAssert (orderly : Bool)
  /-- Row GOVERNOR_SAMPLE (R22). -/
  | governorSample (h : Half) (deciC : Int)
  /-- Row LIFE_RECORD_HOURLY (R27). -/
  | lifeRecordHourly
  /-- Row THERMAL_STOP (R452). -/
  | thermalStop (h : Half)
  /-- Row PACE_MODE_WRITE (R23). -/
  | paceModeWrite (w : Who) (v : BitVec 8)
  /-- Row PERST_ASSERT (R65). -/
  | perstAssert (p : Fin 4)
  /-- Row LINK_DL_DOWN (R65). -/
  | linkDlDown (p : Fin 4)
  /-- Row LINK_DL_UP (R65). -/
  | linkDlUp (p : Fin 4) (rate width : Nat) (flit : Bool)
  /-- Row BME_CLEAR (R61). -/
  | bmeClear (f : FnRef)
  /-- Row BME_SET (R61). -/
  | bmeSet (f : FnRef)
  /-- Row FLR_INITIATE (R63). -/
  | flrInitiate (f : FnRef)
  /-- Row FLR_DONE (R63). -/
  | flrDone (f : FnRef)
  /-- Row D3HOT_ENTRY (R58). -/
  | d3hotEntry (f : FnRef)
  /-- Row D0_RETURN (R58). -/
  | d0Return (f : FnRef)
  /-- Row VF_ENABLE_CLEAR (R82). -/
  | vfEnableClear (f : FnRef)
  /-- Row INTERRUPT_ENABLE_CHANGE (R50). -/
  | interruptEnableChange (f : FnRef) (msi msix : Bool) (vectors : Nat)
  /-- Row VECTOR_UNMASK (R52). -/
  | vectorUnmask (f : FnRef) (v : Nat)
  /-- Row PME_RETRY (R60). -/
  | pmeRetry (f : FnRef)
  /-- Row PME_STATUS_CLEAR (R60). -/
  | pmeStatusClear (f : FnRef)
  /-- Row COMPLETION_ARRIVAL (R54). -/
  | completionArrival (p : Fin 4) (tag : Nat) (st : CplStatus)
  /-- Row COMPLETION_TIMEOUT (R55). -/
  | completionTimeout (p : Fin 4) (tag : Nat)
  /-- Row TAG_QUARANTINE_EXPIRY (R55). -/
  | tagQuarantineExpiry (p : Fin 4) (tag : Nat)
  /-- Row IDE_INTEGRITY_FAIL (R56). -/
  | ideIntegrityFail (p : Fin 4) (stream : Fin 4)
  /-- Row IDE_KM_SETUP (R56). -/
  | ideKmSetup (p : Fin 4) (stream : Fin 4) (key : BitVec 256)
  /-- Row SPDM_GET_VERSION (R57). -/
  | spdmGetVersion (p : Fin 4)
  /-- Row SPDM_GET_CAPABILITIES (R57). -/
  | spdmGetCapabilities (p : Fin 4)
  /-- Row SPDM_NEGOTIATE_ALGORITHMS (R57). -/
  | spdmNegotiateAlgorithms (p : Fin 4)
  /-- Row SPDM_GET_DIGESTS (R57). -/
  | spdmGetDigests (p : Fin 4)
  /-- Row SPDM_GET_CERTIFICATE (R57). -/
  | spdmGetCertificate (p : Fin 4) (off len : Nat)
  /-- Row SPDM_CHALLENGE (R57). -/
  | spdmChallenge (p : Fin 4) (nonce : BitVec 256)
  /-- Row SPDM_GET_MEASUREMENTS (R381). -/
  | spdmGetMeasurements (p : Fin 4) (index : Nat)
  /-- Row SPDM_KEY_EXCHANGE (R57). -/
  | spdmKeyExchange (p : Fin 4) (share : BitVec 768)
  /-- Row SPDM_FINISH (R57). -/
  | spdmFinish (p : Fin 4) (verify : BitVec 384)
  /-- Row SPDM_HEARTBEAT (R57). -/
  | spdmHeartbeat (p : Fin 4)
  /-- Row SPDM_KEY_UPDATE (R57). -/
  | spdmKeyUpdate (p : Fin 4)
  /-- Row SPDM_END_SESSION (R57). -/
  | spdmEndSession (p : Fin 4)
  /-- Row MGMT_TIME_LO_READ (R48). -/
  | mgmtTimeLoRead (p : Fin 4)
  /-- Row LATE_CPL_READ (R45). -/
  | lateCplRead (f : FnRef)
  /-- Row FAULT_SUMMARY_CLEAR (R47). -/
  | faultSummaryClear (f : FnRef) (v : BitVec 32)
  /-- Row SLICE_CREATE (R75). -/
  | sliceCreate (w : Who) (rec : BitVec 512)
  /-- Row SLICE_ENABLE (R75). -/
  | sliceEnable (w : Who) (rec : BitVec 512)
  /-- Row SLICE_DISABLE (R83). -/
  | sliceDisable (w : Who) (rec : BitVec 512)
  /-- Row SLICE_RESET (R81). -/
  | sliceReset (w : Who) (rec : BitVec 512)
  /-- Row SLICE_DESTROY (R85). -/
  | sliceDestroy (w : Who) (rec : BitVec 512)
  /-- Row SLICE_SET_QOS (R80). -/
  | sliceSetQos (w : Who) (rec : BitVec 512)
  /-- Row SLICE_CMD_DEQUEUE (R71). -/
  | sliceCmdDequeue
  /-- Row SLICE_CNT_CLEAR (R86). -/
  | sliceCntClear (w : Who) (v : BitVec 16)
  /-- Row PF_CNT_CLEAR (R86). -/
  | pfCntClear (w : Who) (v : BitVec 8)
  /-- Row WQ_DOORBELL (R101). -/
  | wqDoorbell (q : QRef) (pi : BitVec 16)
  /-- Row WQ_PUSH_WRITE (R102). -/
  | wqPushWrite (q : QRef) (unit : Fin 4) (data : BitVec 512) (full : Bool)
  /-- Row WQ_ENABLE (R98). -/
  | wqEnable (q : QRef)
  /-- Row WQ_DISABLE (R111). -/
  | wqDisable (q : QRef)
  /-- Row WQ_FETCH (R101). -/
  | wqFetch (wq : Nat) (slots : Option (List (BitVec 512)))
  /-- Row MALFORMED_ENTRY (R96). -/
  | malformedEntry (wq : Nat)
  /-- Row NOP_ENTRY (R93). -/
  | nopEntry (wq : Nat) (canWrite : Bool)
  /-- Row ETH_SEND_ENTRY (R94). -/
  | ethSendEntry (wq : Nat) (frame : Option (List Byte)) (canWrite : Bool)
  /-- Row XPORT_RX_DELIVER (R109). -/
  | xportRxDeliver (h : Half) (canWrite : Bool)
  /-- Row BLOTTER_TIME_DUE (R114). -/
  | blotterTimeDue (cq : Nat)
  /-- Row SLICE_INTERVAL_END (R77). -/
  | sliceIntervalEnd (id : Nat)
  /-- Row CQ_HEAD_WRITE (R105). -/
  | cqHeadWrite (q : QRef) (v : BitVec 16)
  /-- Row CQ_ENABLE (R100). -/
  | cqEnable (q : QRef)
  /-- Row CQ_DISABLE (R100). -/
  | cqDisable (q : QRef)
  /-- Row CQ_CFG_WRITE (R100). -/
  | cqCfgWrite (q : QRef) (cfg md : BitVec 32)
  /-- Row CQ_NOSLOT_READ (R99). -/
  | cqNoslotRead (q : QRef)
  /-- Row WQ_MALFORMED_READ (R97). -/
  | wqMalformedRead (q : QRef)
  /-- Row WQ_DB_IGNORED_READ (R97). -/
  | wqDbIgnoredRead (q : QRef)
  /-- Row WQ_ABORT (R117). -/
  | wqAbort (q : QRef) (index tag abortTag : BitVec 16)
  /-- Row CPY_DOORBELL (R122). -/
  | cpyDoorbell (p : Fin 4) (c : Fin 64) (pi : BitVec 16)
  /-- Row CPY_ENABLE (R124). -/
  | cpyEnable (p : Fin 4) (c : Fin 64)
  /-- Row CPY_DISABLE (R122). -/
  | cpyDisable (p : Fin 4) (c : Fin 64)
  /-- Row CPY_FETCH (R129). -/
  | cpyFetch (p : Fin 4) (c : Fin 64) (slot : Option (BitVec 256))
  /-- Row COPY_DESC (R128). -/
  | copyDesc (p : Fin 4) (c : Fin 64) (src : HopData)
  /-- Row FILL_DESC (R128). -/
  | fillDesc (p : Fin 4) (c : Fin 64)
  /-- Row COMPARE_DESC (R128). -/
  | compareDesc (p : Fin 4) (c : Fin 64) (a b : HopData)
  /-- Row CHAIN_HOP_FETCH (R127). -/
  | chainHopFetch (p : Fin 4) (c : Fin 64) (desc : Option (BitVec 256))
  /-- Row DESC_END (R130). -/
  | descEnd (p : Fin 4) (c : Fin 64) (canWrite : Bool)
  /-- Row CPY_GATE_EVAL (R131). -/
  | cpyGateEval (p : Fin 4) (c : Fin 64)
  /-- Row CPY_ABORT (R125). -/
  | cpyAbort (p : Fin 4) (c : Fin 64) (index tag abortTag : BitVec 16)
  /-- Row CPY_FAULT_CLEAR (R126). -/
  | cpyFaultClear (p : Fin 4) (r : Fin 4) (v : BitVec 32)
  /-- Row CPY_CH_MALFORMED_READ (R123). -/
  | cpyChMalformedRead (p : Fin 4) (c : Fin 64)
  /-- Row CPY_CH_DB_IGNORED_READ (R123). -/
  | cpyChDbIgnoredRead (p : Fin 4) (c : Fin 64)
  /-- Row ARBITER_DECISION (R137). -/
  | arbiterDecision (kind inst : Nat) (arrivals : List ArbArrival) (ended : Bool)
  /-- Row REQ_PRIORITY_WRITE (R140). -/
  | reqPriorityWrite (w : Who) (v : BitVec 8)
  /-- Row ARB_CLEAR (R141). -/
  | arbClear (w : Who) (v : BitVec 16)
  /-- Row PORT_MODE_WRITE (R144). -/
  | portModeWrite (w : Who) (n : Fin 16) (v : BitVec 8)
  /-- Row PORT_LINK_UP (R146). -/
  | portLinkUp (n : Fin 16) (an : Bool)
  /-- Row PORT_LINK_LOSS (R151). -/
  | portLinkLoss (n : Fin 16) (remote loc : Bool)
  /-- Row FRAME_RECEIVE (R148). -/
  | frameReceive (n : Fin 16) (bytes : List Byte) (fcsOk fecOk : Bool)
  /-- Row PAUSE_FRAME_RECEIVE (R153). -/
  | pauseFrameReceive (n : Fin 16) (quanta : BitVec 16)
  /-- Row PFC_FRAME_RECEIVE (R153). -/
  | pfcFrameReceive (n : Fin 16) (mask : BitVec 8) (quanta : BitVec 128)
  /-- Row PAUSE_EXPIRY (R153). -/
  | pauseExpiry (n : Fin 16) (prio : Fin 8)
  /-- Row PFC_XOFF_REPEAT (R154). -/
  | pfcXoffRepeat (n : Fin 16) (prio : Fin 8)
  /-- Row PFC_STORM (R155). -/
  | pfcStorm (n : Fin 16) (prio : Fin 8)
  /-- Row FRAME_TRANSMIT (R156). -/
  | frameTransmit (n : Fin 16)
  /-- Row MGMT_FRAME_RECEIVE (R160). -/
  | mgmtFrameReceive (h : Half) (kind : MgmtFrame) (len : Nat)
  /-- Row TB_RATE_WRITE (R158). -/
  | tbRateWrite (w : Who) (v : BitVec 32)
  /-- Row TB_ADJUST_WRITE (R31). -/
  | tbAdjustWrite (w : Who) (v : BitVec 32)
  /-- Row PORT_CNT_CLEAR (R162). -/
  | portCntClear (w : Who) (v : BitVec 16)
  /-- Row MACSEC_RX (R261). -/
  | macsecRx (n : Fin 16) (icvOk : Bool)
  /-- Row MACSEC_TX_ASSIGN (R260). -/
  | macsecTxAssign (n : Fin 16)
  /-- Row ESP_OUT_APPLY (R263). -/
  | espOutApply (h : Half)
  /-- Row LANE_FAILURE (R271). -/
  | laneFailure (h : Half) (inside : List Nat)
  /-- Row SA_INSTALL (R256). -/
  | saInstall (w : Who) (rec : BitVec 640)
  /-- Row SA_DELETE (R258). -/
  | saDelete (w : Who) (rec : BitVec 640)
  /-- Row SA_CHANGE (R256). -/
  | saChange (w : Who) (rec : BitVec 640)
  /-- Row SA_FENCE_END (R258). -/
  | saFenceEnd (h : Half) (slot : Nat)
  /-- Row MACSEC_CONFIG_WRITE (R259). -/
  | macsecConfigWrite (w : Who) (n : Fin 16) (rec : BitVec 704)
  /-- Row HARDEN_WRITE (R269). -/
  | hardenWrite (w : Who) (v : BitVec 8)
  /-- Row CIPHER_CNT_CLEAR (R272). -/
  | cipherCntClear (w : Who) (v : BitVec 8)
  /-- Row PIPELINE_ENTRY (R163). -/
  | pipelineEntry (h : Half)
  /-- Row ORDERED_RELEASE (R164). -/
  | orderedRelease (h : Half) (stream : Nat)
  /-- Row STAGE_RECORD_WRITE (R185). -/
  | stageRecordWrite (w : Who) (rec : BitVec 896)
  /-- Row COMMIT_WRITE (R186). -/
  | commitWrite (w : Who) (v : BitVec 8)
  /-- Row COMMIT_SWAP (R187). -/
  | commitSwap (h : Half)
  /-- Row COMMIT_TIMEOUT (R188). -/
  | commitTimeout
  /-- Row STAGE_DISCARD (R189). -/
  | stageDiscard (w : Who) (v : BitVec 8)
  /-- Row CLS_CNT_CLEAR (R190). -/
  | clsCntClear (w : Who) (v : BitVec 8)
  /-- Row TX_STEER_WRITE (R189). -/
  | txSteerWrite (w : Who) (rec : BitVec 288)
  /-- Row TMGR_ADMIT (R196). -/
  | tmgrAdmit (h : Half)
  /-- Row HOSTQ_SEND (R198). -/
  | hostqSend (h : Half)
  /-- Row SCHED_SEND (R203). -/
  | schedSend (n : Fin 16)
  /-- Row BUCKET_REFILL (R205). -/
  | bucketRefill (h : Half) (level node : Nat)
  /-- Row NODE_RECORD_WRITE (R205). -/
  | nodeRecordWrite (w : Who) (rec : BitVec 256)
  /-- Row ATTACH_WRITE (R202). -/
  | attachWrite (w : Who) (rec : BitVec 512)
  /-- Row QUEUE_PROFILE_WRITE (R193). -/
  | queueProfileWrite (w : Who) (rec : BitVec 128)
  /-- Row PFC_THRESH_WRITE (R199). -/
  | pfcThreshWrite (w : Who) (n : Fin 16) (rec : BitVec 96)
  /-- Row POLICER_WRITE (R210). -/
  | policerWrite (w : Who) (rec : BitVec 256)
  /-- Row TM_CNT_CLEAR (R212). -/
  | tmCntClear (w : Who) (v : BitVec 8)
  /-- Row FRAME_DELIVER (R222). -/
  | frameDeliver (u : Fin 8) (cls : NibClass)
  /-- Row ADD (R229). -/
  | add (t : Th) (rd ra rb : Reg)
  /-- Row SUB (R229). -/
  | sub (t : Th) (rd ra rb : Reg)
  /-- Row AND (R229). -/
  | and (t : Th) (rd ra rb : Reg)
  /-- Row OR (R229). -/
  | or (t : Th) (rd ra rb : Reg)
  /-- Row XOR (R229). -/
  | xor (t : Th) (rd ra rb : Reg)
  /-- Row ANDN (R229). -/
  | andn (t : Th) (rd ra rb : Reg)
  /-- Row SLL (R229). -/
  | sll (t : Th) (rd ra rb : Reg)
  /-- Row SRL (R229). -/
  | srl (t : Th) (rd ra rb : Reg)
  /-- Row SRA (R229). -/
  | sra (t : Th) (rd ra rb : Reg)
  /-- Row ROL (R229). -/
  | rol (t : Th) (rd ra rb : Reg)
  /-- Row SLT (R229). -/
  | slt (t : Th) (rd ra rb : Reg)
  /-- Row SLTU (R229). -/
  | sltu (t : Th) (rd ra rb : Reg)
  /-- Row MUL (R229). -/
  | mul (t : Th) (rd ra rb : Reg)
  /-- Row MULHU (R229). -/
  | mulhu (t : Th) (rd ra rb : Reg)
  /-- Row MIN (R229). -/
  | min (t : Th) (rd ra rb : Reg)
  /-- Row MAX (R229). -/
  | max (t : Th) (rd ra rb : Reg)
  /-- Row CLZ (R229). -/
  | clz (t : Th) (rd ra rb : Reg)
  /-- Row POPC (R229). -/
  | popc (t : Th) (rd ra rb : Reg)
  /-- Row BSWAP (R229). -/
  | bswap (t : Th) (rd ra rb : Reg)
  /-- Row CRC32C (R229). -/
  | crc32c (t : Th) (rd ra rb : Reg)
  /-- Row ADDI (R228). -/
  | addi (t : Th) (rd ra : Reg) (imm : BitVec 16)
  /-- Row ANDI (R228). -/
  | andi (t : Th) (rd ra : Reg) (imm : BitVec 16)
  /-- Row ORI (R228). -/
  | ori (t : Th) (rd ra : Reg) (imm : BitVec 16)
  /-- Row XORI (R228). -/
  | xori (t : Th) (rd ra : Reg) (imm : BitVec 16)
  /-- Row SLLI (R228). -/
  | slli (t : Th) (rd ra : Reg) (imm : BitVec 16)
  /-- Row SRLI (R228). -/
  | srli (t : Th) (rd ra : Reg) (imm : BitVec 16)
  /-- Row SRAI (R228). -/
  | srai (t : Th) (rd ra : Reg) (imm : BitVec 16)
  /-- Row SLTI (R228). -/
  | slti (t : Th) (rd ra : Reg) (imm : BitVec 16)
  /-- Row SLTIU (R228). -/
  | sltiu (t : Th) (rd ra : Reg) (imm : BitVec 16)
  /-- Row LUI (R228). -/
  | lui (t : Th) (rd ra : Reg) (imm : BitVec 16)
  /-- Row SHORI (R228). -/
  | shori (t : Th) (rd ra : Reg) (imm : BitVec 16)
  /-- Row EXT (R228). -/
  | ext (t : Th) (rd ra : Reg) (imm : BitVec 16)
  /-- Row INS (R228). -/
  | ins (t : Th) (rd ra : Reg) (imm : BitVec 16)
  /-- Row LB (R228). -/
  | lb (t : Th) (rd ra : Reg) (imm : BitVec 16)
  /-- Row LH (R228). -/
  | lh (t : Th) (rd ra : Reg) (imm : BitVec 16)
  /-- Row LW (R228). -/
  | lw (t : Th) (rd ra : Reg) (imm : BitVec 16)
  /-- Row LD (R228). -/
  | ld (t : Th) (rd ra : Reg) (imm : BitVec 16)
  /-- Row SB (R228). -/
  | sb (t : Th) (rd ra : Reg) (imm : BitVec 16)
  /-- Row SH (R228). -/
  | sh (t : Th) (rd ra : Reg) (imm : BitVec 16)
  /-- Row SW (R228). -/
  | sw (t : Th) (rd ra : Reg) (imm : BitVec 16)
  /-- Row SD (R228). -/
  | sd (t : Th) (rd ra : Reg) (imm : BitVec 16)
  /-- Row ATOM_ADD (R228). -/
  | atomAdd (t : Th) (rd ra rb : Reg)
  /-- Row ATOM_SWAP (R228). -/
  | atomSwap (t : Th) (rd ra rb : Reg)
  /-- Row ATOM_CAS (R228). -/
  | atomCas (t : Th) (rd ra rb : Reg)
  /-- Row ATOM_OR (R228). -/
  | atomOr (t : Th) (rd ra rb : Reg)
  /-- Row ATOM_AND (R228). -/
  | atomAnd (t : Th) (rd ra rb : Reg)
  /-- Row BEQ (R228). -/
  | beq (t : Th) (ra rb : Reg) (off : BitVec 16)
  /-- Row BNE (R228). -/
  | bne (t : Th) (ra rb : Reg) (off : BitVec 16)
  /-- Row BLT (R228). -/
  | blt (t : Th) (ra rb : Reg) (off : BitVec 16)
  /-- Row BGE (R228). -/
  | bge (t : Th) (ra rb : Reg) (off : BitVec 16)
  /-- Row BLTU (R228). -/
  | bltu (t : Th) (ra rb : Reg) (off : BitVec 16)
  /-- Row BGEU (R228). -/
  | bgeu (t : Th) (ra rb : Reg) (off : BitVec 16)
  /-- Row J (R228). -/
  | j (t : Th) (off : BitVec 26)
  /-- Row CALL (R228). -/
  | call (t : Th) (off : BitVec 26)
  /-- Row JR (R228). -/
  | jr (t : Th) (rd ra rb : Reg)
  /-- Row WFE (R233). -/
  | wfe (t : Th) (rd ra rb : Reg)
  /-- Row SIG (R230). -/
  | sig (t : Th) (rd ra rb : Reg)
  /-- Row TIMER (R230). -/
  | timer (t : Th) (rd ra rb : Reg)
  /-- Row TIME (R230). -/
  | time (t : Th) (rd ra rb : Reg)
  /-- Row SELF (R230). -/
  | self (t : Th) (rd ra rb : Reg)
  /-- Row FENCE (R226). -/
  | fence (t : Th) (rd ra rb : Reg)
  /-- Row STOP (R230). -/
  | stop (t : Th) (rd ra rb : Reg)
  /-- Row BRK (R230). -/
  | brk (t : Th) (rd ra rb : Reg)
  /-- Row TR (R231). -/
  | tr (t : Th) (rd ra rb : Reg)
  /-- Row PEND_FORWARD (R223). -/
  | pendForward (t : Th) (rd ra rb : Reg)
  /-- Row PEND_DROP (R223). -/
  | pendDrop (t : Th) (rd ra rb : Reg)
  /-- Row PEND_EXCEPTION (R223). -/
  | pendException (t : Th) (rd ra rb : Reg)
  /-- Row PLEN (R228). -/
  | plen (t : Th) (rd ra rb : Reg)
  /-- Row TQ (R231). -/
  | tq (t : Th) (rd ra : Reg) (imm : BitVec 16)
  /-- Row CHW (R235). -/
  | chw (t : Th) (rd ra rb : Reg)
  /-- Row CHC (R235). -/
  | chc (t : Th) (rd ra rb : Reg)
  /-- Row CHR (R234). -/
  | chr (t : Th) (rd ra rb : Reg)
  /-- Row CHWATCH (R234). -/
  | chwatch (t : Th) (rd ra rb : Reg)
  /-- Row CHX (R234). -/
  | chx (t : Th) (rd ra rb : Reg)
  /-- Row LACQ (R238). -/
  | lacq (t : Th) (rd ra rb : Reg)
  /-- Row LTRY (R238). -/
  | ltry (t : Th) (rd ra rb : Reg)
  /-- Row LREL (R238). -/
  | lrel (t : Th) (rd ra rb : Reg)
  /-- Row LMOV (R238). -/
  | lmov (t : Th) (rd ra rb : Reg)
  /-- Row CSUB_COPY (R232). -/
  | csubCopy (t : Th) (rd ra : Reg) (imm : BitVec 16)
  /-- Row CSUB_ESP_OUT (R264). -/
  | csubEspOut (t : Th) (rd ra : Reg) (imm : BitVec 16)
  /-- Row CSUB_ESP_IN (R264). -/
  | csubEspIn (t : Th) (rd ra : Reg) (imm : BitVec 16)
  /-- Row TBL_RESULT_READY (R231). -/
  | tblResultReady (t : Th)
  /-- Row CIPHER_SUBMIT_END (R265). -/
  | cipherSubmitEnd (t : Th) (icvOk : Bool)
  /-- Row COPY_SUBMIT_END (R232). -/
  | copySubmitEnd (t : Th)
  /-- Row THREAD_TIMER_FIRE (R230). -/
  | threadTimerFire (t : Th)
  /-- Row STALEMATE (R241). -/
  | stalemate (u : Fin 8)
  /-- Row NIB_DRAIN_LIMIT (R247). -/
  | nibDrainLimit (u : Fin 8)
  /-- Row LOAD_DATA_WRITE (R250). -/
  | loadDataWrite (w : Who) (data : List Byte)
  /-- Row LOAD_BEGIN (R250). -/
  | loadBegin (w : Who)
  /-- Row LOAD_VERIFY (R245). -/
  | loadVerify (w : Who)
  /-- Row LOAD_INSTALL (R246). -/
  | loadInstall (w : Who)
  /-- Row LOAD_INSTALL_DONE (R246). -/
  | loadInstallDone
  /-- Row LOAD_CANCEL (R250). -/
  | loadCancel (w : Who)
  /-- Row DBG_HALT (R249). -/
  | dbgHalt (w : Who)
  /-- Row DBG_RESUME (R249). -/
  | dbgResume (w : Who)
  /-- Row DBG_STEP (R249). -/
  | dbgStep (w : Who)
  /-- Row DBG_RESET (R249). -/
  | dbgReset (w : Who)
  /-- Row DBG_ARM (R250). -/
  | dbgArm (w : Who)
  /-- Row DBG_DISARM (R250). -/
  | dbgDisarm (w : Who)
  /-- Row RDQ_SQ_DOORBELL (R279). -/
  | rdqSqDoorbell (q : QRef) (qp : BitVec 20) (pi : BitVec 16) (wide : Bool)
  /-- Row RDQ_RQ_DOORBELL (R279). -/
  | rdqRqDoorbell (q : QRef) (qp : BitVec 20) (pi : BitVec 16) (wide : Bool)
  /-- Row QP_MODIFY (R282). -/
  | qpModify (q : QRef) (rec : BitVec 1024)
  /-- Row QP_ABORT (R304). -/
  | qpAbort (q : QRef) (rec : BitVec 1024)
  /-- Row RDQ_DB_IGNORED_READ (R278). -/
  | rdqDbIgnoredRead (q : QRef)
  /-- Row RDMA_SEND (R285). -/
  | rdmaSend (qp : Nat) (data : Option (List Byte))
  /-- Row RDMA_SEND_IMM (R285). -/
  | rdmaSendImm (qp : Nat) (data : Option (List Byte))
  /-- Row RDMA_WRITE (R285). -/
  | rdmaWrite (qp : Nat) (data : Option (List Byte))
  /-- Row RDMA_WRITE_IMM (R285). -/
  | rdmaWriteImm (qp : Nat) (data : Option (List Byte))
  /-- Row RDMA_READ (R285). -/
  | rdmaRead (qp : Nat)
  /-- Row RDMA_CAS (R285). -/
  | rdmaCas (qp : Nat)
  /-- Row RDMA_FADD (R285). -/
  | rdmaFadd (qp : Nat)
  /-- Row ROCE_RECEIVE (R276). -/
  | roceReceive (h : Half) (pkt : RocePkt)
  /-- Row QP_CONTEXT_FETCH_DONE (R291). -/
  | qpContextFetchDone (qp : Nat) (ok : Bool)
  /-- Row PARK_TIMEOUT (R292). -/
  | parkTimeout (qp : Nat)
  /-- Row ROCE_RESPONSE_RECEIVE (R300). -/
  | roceResponseReceive (h : Half) (resp : RoceResp)
  /-- Row ACK_TIMEOUT (R300). -/
  | ackTimeout (qp : Nat)
  /-- Row RNR_TIMER_EXPIRY (R301). -/
  | rnrTimerExpiry (qp : Nat)
  /-- Row CNP_RECEIVE (R306). -/
  | cnpReceive (h : Half) (qp : Nat)
  /-- Row CC_WINDOW_END (R306). -/
  | ccWindowEnd (h : Half)
  /-- Row WIN_OPEN (R294). -/
  | winOpen (q : QRef) (rights : BitVec 3)
  /-- Row WIN_REVOKE (R296). -/
  | winRevoke (q : QRef)
  /-- Row WIN_REVOKE_DONE (R296). -/
  | winRevokeDone (win : Nat)
  /-- Row WIN_BASE_LEN_WRITE (R294). -/
  | winBaseLenWrite (q : QRef) (base : BitVec 64) (len : BitVec 40)
  /-- Row RDMA_CNT_CLEAR (R307). -/
  | rdmaCntClear (w : Who) (v : BitVec 8)
  /-- Row STQ_TASK_COMMIT (R319). -/
  | stqTaskCommit (q : QRef) (task : Fin 16) (cmd : BitVec 512)
  /-- Row STQ_CMD_ACCEPT (R320). -/
  | stqCmdAccept (stq : Nat)
  /-- Row STORAGE_READ (R322). -/
  | storageRead (stq : Nat)
  /-- Row STORAGE_WRITE (R322). -/
  | storageWrite (stq : Nat) (data : Option (List Byte))
  /-- Row STORAGE_FLUSH (R331). -/
  | storageFlush (stq : Nat)
  /-- Row STORAGE_DEALLOCATE (R322). -/
  | storageDeallocate (stq : Nat)
  /-- Row STORAGE_WRITE_ZEROES (R322). -/
  | storageWriteZeroes (stq : Nat)
  /-- Row STORAGE_COMPARE (R322). -/
  | storageCompare (stq : Nat) (data : Option (List Byte))
  /-- Row STORAGE_CMD_COMPLETE (R334). -/
  | storageCmdComplete (stq seq : Nat) (canWrite : Bool)
  /-- Row FREEZE_WAIT_EXPIRY (R336). -/
  | freezeWaitExpiry (stq seq : Nat)
  /-- Row LOCKED_WAIT_EXPIRY (R315). -/
  | lockedWaitExpiry (stq seq : Nat)
  /-- Row NS_CREATE (R338). -/
  | nsCreate (src : AdminSrc)
  /-- Row NS_DELETE (R339). -/
  | nsDelete (src : AdminSrc)
  /-- Row NS_ATTACH (R339). -/
  | nsAttach (src : AdminSrc)
  /-- Row NS_DETACH (R339). -/
  | nsDetach (src : AdminSrc)
  /-- Row NS_FORMAT (R339). -/
  | nsFormat (src : AdminSrc)
  /-- Row LOG_READ_PAGE (R338). -/
  | logReadPage (stq : Nat)
  /-- Row FEATURE_GET (R338). -/
  | featureGet (stq : Nat)
  /-- Row FEATURE_SET (R338). -/
  | featureSet (stq : Nat)
  /-- Row QUEUE_RESUME (R340). -/
  | queueResume (stq : Nat)
  /-- Row QUEUE_RESET (R340). -/
  | queueReset (stq : Nat)
  /-- Row STORAGE_ABORT (R341). -/
  | storageAbort (stq : Nat)
  /-- Row STQ_ENABLE (R318). -/
  | stqEnable (q : QRef)
  /-- Row STQ_DISABLE (R318). -/
  | stqDisable (q : QRef)
  /-- Row STQ_TASK_IGNORED_READ (R317). -/
  | stqTaskIgnoredRead (q : QRef)
  /-- Row STQ_MALFORMED_READ (R317). -/
  | stqMalformedRead (q : QRef)
  /-- Row DRIVE_SURPRISE_REMOVAL (R312). -/
  | driveSurpriseRemoval (d : Fin 64)
  /-- Row DRIVE_ADMIT (R342). -/
  | driveAdmit (w : Who)
  /-- Row DRIVE_RETIRE (R342). -/
  | driveRetire (w : Who)
  /-- Row NS_KEY_WRITE (R315). -/
  | nsKeyWrite (w : Who) (rec : BitVec 576)
  /-- Row MAP_REBUILD_DONE (R333). -/
  | mapRebuildDone (nsid : Nat)
  /-- Row STQ_CNT_CLEAR (R342). -/
  | stqCntClear (w : Who) (v : BitVec 8)
  /-- Row DRAM_LINE_READ (R348). -/
  | dramLineRead (c : Fin 8) (line : Nat) (err : DramErr) (user : DramUser)
  /-- Row ROW_REPAIR (R357). -/
  | rowRepair (c : Fin 8) (row : Nat) (resource : Bool)
  /-- Row PATROL_SCRUB (R353). -/
  | patrolScrub (c : Fin 8) (err : DramErr)
  /-- Row REFRESH (R351). -/
  | refresh (c : Fin 8) (rank : Nat)
  /-- Row DIMM_SENSOR_POLL (R351). -/
  | dimmSensorPoll (c : Fin 8) (tempC : Int)
  /-- Row DQS_TRACK (R352). -/
  | dqsTrack (c : Fin 8)
  /-- Row CHANNEL_RETRAIN (R352). -/
  | channelRetrain (c : Fin 8)
  /-- Row FREQ_CMD_SET_A (R354). -/
  | freqCmdSetA (w : Who)
  /-- Row FREQ_CMD_SET_B (R354). -/
  | freqCmdSetB (w : Who)
  /-- Row CHANNEL_FREQ_SWITCH (R354). -/
  | channelFreqSwitch (c : Fin 8)
  /-- Row CHANNEL_FREQ_SWITCH_DONE (R354). -/
  | channelFreqSwitchDone (c : Fin 8) (darkNs : Nat)
  /-- Row MEM_CNT_CLEAR (R362). -/
  | memCntClear (w : Who) (v : BitVec 8)
  /-- Row IMG_DATA_WRITE (R382). -/
  | imgDataWrite (w : Who) (data : List Byte)
  /-- Row IMG_BEGIN (R371). -/
  | imgBegin (w : Who)
  /-- Row IMG_VERIFY (R366). -/
  | imgVerify (w : Who)
  /-- Row IMG_ARM (R371). -/
  | imgArm (w : Who)
  /-- Row IMG_ACTIVATE (R374). -/
  | imgActivate (w : Who)
  /-- Row IMG_CANCEL (R382). -/
  | imgCancel (w : Who)
  /-- Row HANDOVER_COMPLETE (R374). -/
  | handoverComplete
  /-- Row CONFIRM_WRITE (R373). -/
  | confirmWrite (w : Who) (v : BitVec 8)
  /-- Row TRIAL_WATCHDOG_EXPIRY (R373). -/
  | trialWatchdogExpiry
  /-- Row KEY_PROGRAM_WRITE (R382). -/
  | keyProgramWrite (w : Who) (rec : BitVec 392)
  /-- Row REVOKE_WRITE (R377). -/
  | revokeWrite (w : Who) (v : BitVec 8)
  /-- Row FLOOR_RAISE_WRITE (R379). -/
  | floorRaiseWrite (w : Who) (v : BitVec 8)
  /-- Row DEBUG_CLOSE_PROGRAM (R380). -/
  | debugCloseProgram (w : Who)
  /-- Row DEBUG_CLOSE_VENDOR (R380). -/
  | debugCloseVendor (w : Who)
  /-- Row DEBUG_CLOSE_BOTH (R380). -/
  | debugCloseBoth (w : Who)
  /-- Row KWK_WRITE (R379). -/
  | kwkWrite (w : Who) (key : BitVec 256)
  /-- Row SYNROK_FRAME_RECEIVE (R399). -/
  | synrokFrameReceive (h : Half) (peer : Nat) (msg : List Byte)
  /-- Row MCTP_MESSAGE_RECEIVE (R400). -/
  | mctpMessageReceive (h : Half) (medium eid : Nat) (msg : List Byte)
  /-- Row MCTP_SET_ENDPOINT_ID (R400). -/
  | mctpSetEndpointId (h : Half) (medium : Nat) (eid : BitVec 8)
  /-- Row MCTP_GET_ENDPOINT_ID (R400). -/
  | mctpGetEndpointId (h : Half) (medium : Nat)
  /-- Row MCTP_GET_VERSION_SUPPORT (R400). -/
  | mctpGetVersionSupport (h : Half) (medium : Nat)
  /-- Row MCTP_GET_MESSAGE_TYPE_SUPPORT (R400). -/
  | mctpGetMessageTypeSupport (h : Half) (medium : Nat)
  /-- Row MCTP_GET_VENDOR_MSG_SUPPORT (R400). -/
  | mctpGetVendorMsgSupport (h : Half) (medium : Nat)
  /-- Row MBOX_GO (R402). -/
  | mboxGo (p : Fin 4) (msg : List Byte)
  /-- Row MBOX_RESPONSE_DONE (R402). -/
  | mboxResponseDone (p : Fin 4)
  /-- Row MBOX_IGNORED_READ (R401). -/
  | mboxIgnoredRead (p : Fin 4)
  /-- Row DICT_READ_REQUEST (R388). -/
  | dictReadRequest (w : Who) (index : BitVec 16) (sub : BitVec 8)
  /-- Row DICT_WRITE_GENERIC (R385). -/
  | dictWriteGeneric (w : Who) (index : BitVec 16) (sub : BitVec 8) (data : List Byte)
  /-- Row SESSION_IDLE_EXPIRY (R389). -/
  | sessionIdleExpiry (sess : Session)
  /-- Row STORE_COMMIT (R391). -/
  | storeCommit (w : Who)
  /-- Row STORE_DEFAULTS (R392). -/
  | storeDefaults (w : Who)
  /-- Row PROFILE_DATA_WRITE (R395). -/
  | profileDataWrite (w : Who) (data : List Byte)
  /-- Row PROFILE_BEGIN (R395). -/
  | profileBegin (w : Who)
  /-- Row PROFILE_VERIFY (R404). -/
  | profileVerify (w : Who)
  /-- Row PROFILE_APPLY (R404). -/
  | profileApply (w : Who)
  /-- Row PROFILE_CANCEL (R395). -/
  | profileCancel (w : Who)
  /-- Row CAL_DATA_WRITE (R406). -/
  | calDataWrite (w : Who) (block : Fin 1024) (data : List Byte)
  /-- Row CAL_COMMIT (R407). -/
  | calCommit (w : Who)
  /-- Row CAL_REVERT (R406). -/
  | calRevert (w : Who)
  /-- Row AUTH_KEY_WRITE (R395). -/
  | authKeyWrite (w : Who) (n : Fin 8) (rec : BitVec 392)
  /-- Row MGMT_NET_WRITE (R395). -/
  | mgmtNetWrite (w : Who) (h : Half) (rec : BitVec 320)
  /-- Row UNIT_DRAIN (R411). -/
  | unitDrain (w : Who) (u : UnitRef)
  /-- Row UNIT_DRAIN_FORCE (R412). -/
  | unitDrainForce (w : Who) (u : UnitRef)
  /-- Row UNIT_RETURN (R411). -/
  | unitReturn (w : Who) (u : UnitRef)
  /-- Row UNIT_POWER_OFF (R411). -/
  | unitPowerOff (w : Who) (u : UnitRef)
  /-- Row UNIT_POWER_ON (R411). -/
  | unitPowerOn (w : Who) (u : UnitRef)
  /-- Row UNIT_DRAIN_DONE (R416). -/
  | unitDrainDone (u : UnitRef)
  /-- Row UNIT_RETURN_DONE (R416). -/
  | unitReturnDone (u : UnitRef)
  /-- Row SELFTEST_DONE (R418). -/
  | selftestDone (u : UnitRef) (pass : Bool)
  /-- Row TRANSITION_OVERRUN (R413). -/
  | transitionOverrun (u : UnitRef)
  /-- Row ROTATION_VISIT_START (R415). -/
  | rotationVisitStart (h : Half)
  /-- Row CORRECTED_FAULT (R420). -/
  | correctedFault (u : UnitRef) (engine : Option (Fin 4)) (cell : Nat)
  /-- Row ENGINE_FAILURE (R420). -/
  | engineFailure (u : UnitRef) (kind : Fin 4)
  /-- Row UNIT_FATAL_FAULT (R421). -/
  | unitFatalFault (u : UnitRef)
  /-- Row HALF_FATAL_FAULT (R422). -/
  | halfFatalFault (h : Half)
  /-- Row HALF_RESTART_WRITE (R422). -/
  | halfRestartWrite (w : Who) (v : BitVec 8)
  /-- Row HEARTBEAT_SEND (R430). -/
  | heartbeatSend (h : Half)
  /-- Row GROUP_HEARTBEAT_LOSS (R430). -/
  | groupHeartbeatLoss (g : Fin 4)
  /-- Row ALIVE_COUNT_TIMEOUT (R430). -/
  | aliveCountTimeout (h : Half)
  /-- Row REJOIN (R434). -/
  | rejoin
  /-- Row CUSTODY_GRANT_WRITE (R433). -/
  | custodyGrantWrite (w : Who) (rec : BitVec 64)
  /-- Row ALERT_ACK_WRITE (R428). -/
  | alertAckWrite (w : Who) (h : Half) (v : BitVec 64)
  /-- Row LOG_READ (R428). -/
  | logRead (w : Who) (h : Half)
  /-- Row RW_REGISTER_WRITE (R7). -/
  | rwRegisterWrite (f : FnRef) (space : Fin 3) (off : Nat) (v : BitVec 32)
  /-- Row LINK_GROUP_RETURN (R435). -/
  | linkGroupReturn (g : Fin 4)
  /-- Row ROM_WATCHDOG_EXPIRY (R424). -/
  | romWatchdogExpiry (h : Half)
  /-- Row MGMT_LINK_CHANGE (R159). -/
  | mgmtLinkChange (h : Half) (up : Bool) (speed : Fin 3)
  /-- Row ROOT_PORT_LINK_UP (R66). -/
  | rootPortLinkUp (p : Fin 4) (drives : List DriveId)
  /-- Row WRITE_BUFFER_PLACE (R330). -/
  | writeBufferPlace (nsid granule : Nat)
  /-- Row DRAM_TRAINING_DONE (R352). -/
  | dramTrainingDone (c : Fin 8) (ok : Bool)
  /-- Row STORE_COMMIT_DONE (R391). -/
  | storeCommitDone
  /-- Row CAL_COMMIT_DONE (R407). -/
  | calCommitDone
  /-- Row IMG_VERIFY_DONE (R366). -/
  | imgVerifyDone
  /-- Row DRIVE_RETIRE_DONE (R342). -/
  | driveRetireDone (d : Fin 64)
  /-- Row DEFERRED_FAULT (R419). -/
  | deferredFault (u : UnitRef)
deriving DecidableEq, Repr

end Sys2Proof
end

