-- ==== Sys2Proof/Config.lean ====
section
/-! DEFINITION. What one part fixes, and the free values: constants without a body, so that no statement can rest on one. -/

namespace Sys2Proof.Config

/-- The hash the factory programs into key slot 0 or 1 (R363). -/
opaque factoryKeyHash (slot : Nat) : Nat

/-- The pseudo-random number of an arrival at TMGR, in 2^-32, of which the low 32 bits count (R195). -/
opaque wredDraw (n : Nat) : Nat

/-- SHA-384 of bytes (R365, R370, R381). -/
opaque sha384 (bs : List Byte) : BitVec 384

/-- HMAC-SHA-384 of bytes under a key (R378, R397). -/
opaque hmac (key msg : List Byte) : BitVec 384

/-- An ECDSA P-384 signature of a message verifies under a key (R365). -/
opaque ecdsaOk (key sig msg : List Byte) : Bool

/-- An ML-DSA-87 signature of a message verifies under a key (R365). -/
opaque mldsaOk (key sig msg : List Byte) : Bool

/-- The factory content of the calibration set (R405). -/
opaque calFactory (offset : Nat) : Byte

/-- A byte of a page whose programming a loss of power cut short, or of trims that training derived (R407, R352). -/
opaque calByte (draw offset : Nat) : Byte

/-- A page in progress, among those that a commit changes (R407). -/
opaque calTorn (draw : Nat) : Nat

/-- The life accrual in MAX mode at 85 °C, ppm per year, of which at most 160,000 count (R26, R27). -/
opaque maxRate : Nat

/-- The present accrual, ppm per year, of a sample, of which at most the bound of the mode counts (R26). -/
opaque lifeRate (draw : Nat) : Nat

/-- A step of the rail at a sample in FLOOR or ECO, in 5 mV above 0.55 V, of which at most 70 count (R22, R23). -/
opaque railStep (draw : Nat) : Nat

/-- The pace headroom at a sample, 0.1 %, of 16 bits (R29). -/
opaque headroom (draw : Nat) : Nat

/-- How many of the writes to a granule a loss of power leaves (R332). -/
opaque survivors (draw : Nat) : Nat

/-- The boot ROM's measurement (R381). -/
opaque romDigest : BitVec 384

/-- The identity record's serial number, date of manufacture and silicon revision (R394), the management MAC addresses
(R395), and the hash key set at manufacture (R189). -/
opaque serial : BitVec 128
opaque manufactured : BitVec 64
opaque siliconRev : BitVec 8
opaque mgmtMac (half : Nat) : BitVec 48
opaque hashKey : BitVec 320

/-- A 40-byte wrapped key unwraps under a key-wrap key, and the key it holds (RFC 3394; R255, R256). -/
opaque unwraps (kek : Nat) (wrapped : List Byte) : Bool
opaque unwrapped (kek : Nat) (wrapped : List Byte) : Nat

/-- Byte i of AES-GCM's sealed data, its ICV after the data, and of its opened data (R252, R261, R263, R264). -/
opaque gcmSealed (key nonce : Nat) (aad data : List Byte) (i : Nat) : Byte
opaque gcmOpened (key nonce : Nat) (data : List Byte) (i : Nat) : Byte

/-- A block opened under an XTS key that it was not sealed under (R252, R315). -/
opaque xtsMix (sealedUnder openedUnder : BitVec 512) (lba value : Nat) : Nat

/-- What rd + 1 to rd + 3 receive from TR where there was no hit (R231). -/
opaque tqMiss (draw i : Nat) : BitVec 64

/-- The row and the bank that hold a line, of which the spec gives no bit positions (R349, R350). -/
opaque dramRow (order line : Nat) : Nat
opaque dramBank (order line : Nat) : Nat

/-- How long a retrain leaves a channel dark, ns, of which at most 8,000 count (R352). -/
opaque retrainDark (draw : Nat) : Nat

/-- The spare cells of a unit left after a number of substitutions, per mille, of which at most 1,000 count (R414, R420). -/
opaque spareCells (used : Nat) : Nat

/-- A byte of DRAM that has lost its content (R422). -/
opaque lostByte (draw addr : Nat) : Byte

/-- The certificate chain of the root, DeviceID and Alias for an ENV_HASH and a fuse state word (R381, "Identity and
attestation"). -/
opaque certChain (envHash fuseState : Nat) : List Byte

/-- What SPDM answers beyond what the spec gives: a nonce, a key-exchange share, a signature, and the proof that FINISH carries
for the two shares of an exchange (R57). -/
opaque spdmNonce (draw : Nat) : List Byte
opaque spdmShare (draw : Nat) : List Byte
opaque spdmSign (envHash fuseState : Nat) (transcript : List Byte) : List Byte
opaque spdmVerify (share : BitVec 768) (draw : Nat) : BitVec 384

/-- The LTSSM state of a host port whose link is down, a code of R40 but for 0x10 and 0xFF. -/
opaque ltssm (draw : Nat) : Nat

/-- The lanes in lock of an Ethernet port whose link is down (R161). -/
opaque lanesInLock (draw : Nat) : Nat

/-- The ESP and XTS part of a half's cipher load, Gb/s (R270). -/
opaque cipherRate (draw : Nat) : Nat

/-- The engine and cell locator of an event record (R425), by the record's sequence, time and code. -/
opaque locator (seq time code : Nat) : BitVec 128

/-- The 16-bit command-set field of Get Vendor Defined Message Support, which the spec does not give (R400). -/
opaque mctpVendorSet : BitVec 16

/-- Where in its range a Completion Timeout value lies, ns, by its code in Device Control 2 (R55). -/
opaque ctoWithin (code : Nat) : Nat

end Sys2Proof.Config
end

