-- ==== Sys2Proof/Machine/State.lean ====
section
/-! DEFINITION. The state of the OX1600, as plain data. The default of a field is its value in State.reset. -/

namespace Sys2Proof.Machine
open Sys2Proof

/-- A table with number keys, in one canonical form: keys strictly rising. An entry that is absent stands for the default
that the operation reading it names (Map.get). -/
abbrev Map (α : Type) := List (Nat × α)

/-! ### Frames in the data path (R34, R35) -/

/-- Where a frame stands between two steps of R34 or R35. -/
inductive Stage where
  | cipherRx
  | parse
  | ordered
  | espTx
  | macsecTx
  | tmgr
  | net
  | xport
deriving DecidableEq, Repr

/-- A frame inside the device. -/
structure Frame where
  /-- bytes: the frame from its destination address to before the FCS; list of bytes; 02 R191, 04 R95; empty -/
  bytes   : List Byte := []
  /-- dir: DIR, false receive, true host transmit; 1 bit; 07 R171; 0 -/
  dir     : Bool := false
  /-- port: receiving or destination Ethernet port; 4 bits; 07 R171, R184; 0 -/
  port    : Nat := 0
  /-- md: the metadata word; 256 bits; 07 R171; 0 -/
  md      : BitVec 256 := 0
  /-- mdIn: the metadata word as delivered to a thread; 256 bits; 09 R223; 0 -/
  mdIn    : BitVec 256 := 0
  /-- polEn: POL_EN; 1 bit; 07 R172; 0 -/
  polEn   : Bool := false
  /-- rxTime: receive timestamp; 64 bits; 06 R156; 0 -/
  rxTime  : Nat := 0
  /-- macsec: MACsec verified; 1 bit; 07 R171; 0 -/
  macsec  : Bool := false
  /-- isSealed: sealed by MACsec on transmit; 1 bit; 08 R197; 0 -/
  isSealed : Bool := false
  /-- l3Ok: the outer IPv4 header checksum verified; 1 bit; 04 R107; 0 -/
  l3Ok    : Bool := false
  /-- l4Ok: the TCP or UDP checksum verified; 1 bit; 04 R107; 0 -/
  l4Ok    : Bool := false
  /-- wq: the work queue that sent it, with its entry and tag; 04 R94; 0 -/
  wq      : Nat := 0
  /-- entry: index of the ETH_SEND entry; 16 bits; 04 R104; 0 -/
  entry   : BitVec 16 := 0
  /-- opspec: the entry's OPSPEC (L3_CSUM, L4_CSUM, TS); 32 bits; 04 R94; 0 -/
  opspec  : BitVec 32 := 0
  /-- rdma: sent by the RDMA transport, so no ETH_SEND completes; 11 R276; 0 -/
  rdma    : Bool := false
  /-- mirrored: a copy made for a mirror session; 07 R183; 0 -/
  mirrored : Bool := false
  /-- pipe: the parse pipeline that holds it; 3 bits; 07 R163; 0 -/
  pipe    : Nat := 0
  /-- seq: its number in its ingress stream; 07 R164; 0 -/
  seq     : Nat := 0
  /-- leaf: the leaf it was sent through; 16 bits; 08 R203; 0 -/
  leaf    : Nat := 0
  /-- arrival: arrival sequence number at the nib unit; 32 bits; 09 R222; 0 -/
  arrival : Nat := 0
  /-- reason: exception reason and detail; 8 and 8 bits; 07 R181, 09 R224; 0 -/
  reason  : Nat := 0
  /-- detail: exception detail; 8 bits; 07 R181; 0 -/
  detail  : Nat := 0
  /-- leafSet: a stage has set LEAF; 07 R184; 0 -/
  leafSet : Bool := false
  /-- exc: it goes to the exception pool; 07 R181; 0 -/
  exc     : Bool := false
  /-- stage: the step of R34 or R35 it waits for; 01 R34, R35; parse -/
  stage   : Stage := .parse
deriving DecidableEq, Repr

/-! ### Outputs -/

/-- A completion entry (R104), PHASE apart. -/
structure Cqe where
  tag    : BitVec 16 := 0
  status : BitVec 8 := 0
  source : BitVec 7 := 0
  queue  : BitVec 20 := 0
  qflags : BitVec 12 := 0
  index  : BitVec 16 := 0
  slots  : BitVec 16 := 0
  bytes  : BitVec 32 := 0
  data   : BitVec 64 := 0
deriving DecidableEq, Repr

/-- What the device sends out in a step. -/
inductive Output where
  /-- a completion entry written to slot `index` of a CQ with its phase and time (R104, R105) -/
  | cqe (cq : Nat) (index : BitVec 16) (phase : Bool) (e : Cqe) (time : Nat)
  /-- a head-shadow word (R110): queue key, published head, STATE -/
  | shadow (queue : Nat) (head : BitVec 16) (state : Nat)
  /-- an MSI or MSI-X message of a function (R50, R51) -/
  | msg (fn : Nat) (vector : Nat)
  /-- a PME message (R60) -/
  | pme (fn : Nat)
  /-- bytes written to host memory for a queue: receive buffers, read data, log pages (R95, R322, R338) -/
  | dma (queue : Nat) (data : List Byte)
  /-- quadword 0 of a copy descriptor's ring slot (R130), and its data writes -/
  | copyWrite (chan : Nat) (data : List Byte)
  | copySlot (chan : Nat) (index : BitVec 16) (qw0 : BitVec 64)
  /-- a frame sent on an Ethernet port, without its FCS (R35) -/
  | ethTx (port : Nat) (data : List Byte) (time : Nat)
  /-- PAUSE or PFC sent: port, priority, quanta (R154) -/
  | pfcTx (port prio : Nat) (quanta : BitVec 16)
  /-- a packet a responder QP answers with (R300): half, destination QPN, PSN, answer -/
  | roceTx (half : Half) (dest : Nat) (psn : BitVec 24) (answer : RoceAnswer)
  /-- a request packet of a QP (R285): its key, PSN, opcode of the work entry, payload bytes -/
  | roceReq (qp : Nat) (psn : BitVec 24) (opcode : Nat) (data : List Byte)
  /-- a congestion notification packet (R305) -/
  | cnp (qp : Nat)
  /-- the value a read of a register returns (R7) -/
  | read (value : Nat)
  /-- an Unsupported Request to a BAR access (R58), and a Configuration Request Retry Status (R63, R367) -/
  | unsupportedRequest
  | retryStatus
  /-- an error reported through AER (R54, R55) -/
  | aer (fn : Nat)
  /-- a response to a management request: session, status, data (R387, R396) -/
  | resp (sess : Session) (status : Nat) (data : List Byte)
  /-- a response message with its MAC, or resent (R397, R398) -/
  | respMsg (sess : Session) (msg : List Byte)
  /-- an SPDM response (R57): request code, content -/
  | spdm (port : Nat) (code : Nat) (content : List Byte)
  /-- an MCTP control response (R400) -/
  | mctp (half : Half) (code : Nat) (content : List Nat)
  /-- a UART line for an event record of class 3 or 4, or a boot stage (R446) -/
  | uart (half : Half) (code : Nat)
  /-- a heartbeat on the link groups in service, with the alive count (R430) -/
  | heartbeat (half : Half) (alive : Nat)
  /-- a frame handed to a SUPV by its management link port (R160) -/
  | mgmtFrame (half : Half)
  /-- a DRAM action on the channel's pins: refresh, scrub, write-back (R351, R353, R355) -/
  | dram (chan : Nat) (what : Nat)
deriving DecidableEq, Repr

/-! ### Board and start-up (17, 14) -/

/-- How far start-up has gone (R367, R376). -/
inductive Boot where
  | inReset
  | streaming
  | running
  | recovery
deriving DecidableEq, Repr

/-- Board inputs and start-up of the device. -/
structure Board where
  /-- vin: VIN in mV; 17 R439 to R441; DESIGN CHOICE 12000 (log 2) -/
  vin       : Nat := 12000
  /-- rails: the always-on rails VSUPV, VIO, VSB run; 1 bit; 17 R440; DESIGN CHOICE 1 (log 2) -/
  rails     : Bool := true
  /-- pwrgood: PWRGOOD; 1 bit; 17 R440, R446; DESIGN CHOICE 1 (log 2) -/
  pwrgood   : Bool := true
  /-- porn: level of PORn; 1 bit; 17 R442; DESIGN CHOICE 0, asserted (log 2) -/
  porn      : Bool := false
  /-- straps: the straps as sampled; 8 bits; 17 R445; DESIGN CHOICE 0 (log 1) -/
  straps    : BitVec 8 := 0
  /-- boot: stage of start-up, outputs gated while streaming; 14 R367; inReset -/
  boot      : Boot := .inReset
  /-- slot: image slot that runs, 0 A, 1 B; 14 R370, R382; DESIGN CHOICE 0 (log 1) -/
  slot      : Nat := 0
  /-- rereads: payload rereads of this start; 14 R368; 0 -/
  rereads   : Nat := 0
deriving DecidableEq, Repr

/-- One half's governor, timebase and thermal state (01, 17). -/
structure Governor where
  /-- vcore: VCORE of the half in mV; 16 bits; 01 R22, R29; DESIGN CHOICE 550 (log 1) -/
  vcore     : Nat := 550
  /-- temp: hottest die sensor, 0.1 °C; 32 bits; 01 R29; DESIGN CHOICE 0 (log 1) -/
  temp      : Int := 0
  /-- headroom: pace headroom, 0.1 %; 16 bits; 01 R29; DESIGN CHOICE 0 (log 1) -/
  headroom  : Nat := 0
  /-- throttled: runs as in FLOOR since 110 °C; 1 bit; 17 R452; 0 -/
  throttled : Bool := false
  /-- lifeUsed: life budget used by the half, ppm; 32 bits; 01 R27, R29; DESIGN CHOICE 0 (log 1) -/
  lifeUsed  : Nat := 0
  /-- lifeAcc: accrual not yet a whole ppm; 01 R27; 0 -/
  lifeAcc   : Nat := 0
  /-- lifeRate: present accrual rate, ppm per year; 32 bits; 01 R29; DESIGN CHOICE 0 (log 1) -/
  lifeRate  : Nat := 0
  /-- warned: LIFE_WARN logged; 01 R27; 0 -/
  warned    : Bool := false
  /-- ended: LIFE_END logged; 01 R27; 0 -/
  ended     : Bool := false
  /-- trimFallback: TRIM_FALLBACK; 1 bit; 01 R28, R29; 0 -/
  trimFallback : Bool := false
  /-- time: the half's copy of the device timebase, ns; 64 bits; 01 R30, R32; 0 -/
  time      : Nat := 0
  /-- frac: fraction of the timebase, 2^-32 ns; 32 bits; 01 R30; 0 -/
  frac      : Nat := 0
  /-- rate: rate correction, 2^-32 ns per REFCLK cycle; 32 bits; 01 R30, 06 R161; 0 -/
  rate      : Int := 0
  /-- slew: correction still to be slewed, 2^-32 ns; 01 R31; 0 -/
  slew      : Int := 0
deriving DecidableEq, Repr

/-! ### Host ports (02) -/

/-- A tag of a port's pool (R54). -/
structure Tag where
  /-- fn: function that issued the request; 02 R54 -/
  fn        : Nat := 0
  /-- slice: slice the request was issued for, 4096 for none; 03 R85 -/
  slice     : Nat := 4096
  /-- queue: kind and key of the queue whose entry issued it, and the entry; 02 R55 -/
  kind      : Nat := 0
  queue     : Nat := 0
  entry     : BitVec 16 := 0
  /-- since: device time of issue, or of the start of quarantine; 02 R55 -/
  since     : Nat := 0
  /-- quarantined: the tag is quarantined; 02 R54 -/
  quarantined : Bool := false
  /-- discard: the answer is to be discarded, BME having been cleared; 02 R61 -/
  discard   : Bool := false
deriving DecidableEq, Repr

/-- An IDE stream of a port (R56). -/
structure IdeStream where
  /-- secure: keys are set and no check has failed; 02 R56; 0 -/
  secure    : Bool := false
  /-- key: stream key; 256 bits; 02 R56; DESIGN CHOICE 0 (log 1) -/
  key       : BitVec 256 := 0
  /-- failed: the stream has been set up once and is insecure since a failure; 02 R56; 0 -/
  failed    : Bool := false
deriving DecidableEq, Repr

/-- A host port. -/
structure Port where
  /-- root: 1 root-port mode, read at cold start; 02 R37; 0 endpoint -/
  root      : Bool := false
  /-- up: DL_Up; 1 bit; 02 R39; 0 -/
  up        : Bool := false
  /-- rate: rate code; 4 bits; 02 R39; 0 -/
  rate      : Nat := 0
  /-- width: link width; 8 bits; 02 R39; 0 -/
  width     : Nat := 0
  /-- flit: FLIT mode; 1 bit; 02 R38, R39; 0 -/
  flit      : Bool := false
  /-- tags: tags outstanding or quarantined; 4,096 values; 02 R54; none -/
  tags      : Map Tag := []
  /-- nextTag: the value the search for a free tag starts from; 02 R54, R64; DESIGN CHOICE 0 (log 1) -/
  nextTag   : Nat := 0
  /-- ide: the 4 selective IDE streams; 02 R56; none set up -/
  ide       : Map IdeStream := []
  /-- spdm: stage of the SPDM session on PF0, 0 none to 5 in session; 02 R57; 0 -/
  spdm      : Nat := 0
  /-- spdmKeys: key updates of the session; 02 R57; 0 -/
  spdmKeys  : Nat := 0
  /-- spdmShare: the host's share of the key exchange; 768 bits; 02 R57; 0 -/
  spdmShare : BitVec 768 := 0
  /-- spdmDraw: the draw of the device's share of it; 02 R57; 0 -/
  spdmDraw  : Nat := 0
  /-- timeHi: MGMT_TIME_HI latch; 31 bits; 02 R48; DESIGN CHOICE 0 (log 1) -/
  timeHi    : Nat := 0
  /-- mboxIrq: IRQ_EN of MGMT_MBOX_CTRL; 1 bit; 15 R401; 0 -/
  mboxIrq   : Bool := false
  /-- mboxReq: the request copied at GO; 15 R402; none -/
  mboxReq   : Option (List Byte) := none
  /-- mboxDone: DONE; 1 bit; 15 R401; 0 -/
  mboxDone  : Bool := false
  /-- mboxResp: the response buffer; 4 KiB; 15 R402; DESIGN CHOICE empty (log 1) -/
  mboxResp  : List Byte := []
  /-- mboxBuf: the request buffer; 4 KiB; 15 R401; DESIGN CHOICE empty (log 1) -/
  mboxBuf   : List Byte := []
  /-- mboxIgnored: MGMT_MBOX_IGNORED; 31 bits; 15 R401; 0 -/
  mboxIgnored : Nat := 0
  /-- mboxDrop: the response is discarded, PF0 having taken an FLR; 15 R402; 0 -/
  mboxDrop  : Bool := false
  /-- cpyFault: CPY_FAULT0 to CPY_FAULT3; 4 × 16 bits; 05 R126; 0 -/
  cpyFault  : BitVec 64 := 0
deriving DecidableEq, Repr

/-- A completion that is not yet written: its CQ, its content, the queue it is of, and whether it is the completion of
the queue's abort (R61, R62, R112, R118). Queues are named as in Queues.lean. -/
structure HeldCpl where
  cq    : Nat
  e     : Cqe
  queue : Nat
  abort : Bool := false
deriving DecidableEq, Repr

/-- A function of a port: PF0 to PF3 or a VF. -/
structure Fn where
  /-- bme: Bus Master Enable; 1 bit; 02 R61; DESIGN CHOICE 0 (log 1) -/
  bme       : Bool := false
  /-- d3: in D3hot; 1 bit; 02 R58; 0 -/
  d3        : Bool := false
  /-- flr: an FLR is in progress; 1 bit; 02 R63; 0 -/
  flr       : Bool := false
  /-- pmeEn: PME_En; 1 bit; 02 R60; DESIGN CHOICE 0 (log 1) -/
  pmeEn     : Bool := false
  /-- pmeStatus: PME_Status; 1 bit; 02 R60; DESIGN CHOICE 0 (log 1) -/
  pmeStatus : Bool := false
  /-- msix: MSI-X Enable; 1 bit; 02 R50; DESIGN CHOICE 0 (log 1) -/
  msix      : Bool := false
  /-- msi: MSI Enable; 1 bit; 02 R50; DESIGN CHOICE 0 (log 1) -/
  msi       : Bool := false
  /-- msiVectors: vectors the host has allocated; 02 R51; DESIGN CHOICE 1 (log 1) -/
  msiVectors : Nat := 1
  /-- fnMask: MSI-X Function Mask; 1 bit; 02 R52; DESIGN CHOICE 0 (log 1) -/
  fnMask    : Bool := false
  /-- unmasked: MSI-X vectors whose mask bit is 0; 02 R52; PRESUMED all masked (log 13) -/
  unmasked  : Map Bool := []
  /-- msixTable: MSI-X table address and data words as written; 02 R44; DESIGN CHOICE 0 (log 1) -/
  msixTable : Map (BitVec 32) := []
  /-- msiMask: MSI mask bits; 32 bits; 02 R52; DESIGN CHOICE 0 (log 1) -/
  msiMask   : BitVec 32 := 0
  /-- pba: pending bits; 02 R52; DESIGN CHOICE 0 (log 1) -/
  pba       : Map Bool := []
  /-- heldIrq: slice (4096 none) and vector of the interrupts held while the function may send none; 02 R50, R60, R61; none -/
  heldIrq   : List (Nat × Nat) := []
  /-- held: completions held under R61, oldest first; 02 R61; none -/
  held      : List HeldCpl := []
  /-- heldShadow: head-shadow writes held (queue key, head, state); 04 R110; none -/
  heldShadow : List (Nat × BitVec 16 × Nat) := []
  /-- due: completions without a start that wait for their CQ slot, oldest first: MASTER_OFF, aborts; 02 R62, 04 R119; none -/
  due       : List HeldCpl := []
  /-- lateCpl: xx_LATE_CPL; 31 bits; 02 R45; 0 -/
  lateCpl   : Nat := 0
  /-- faultIrqEn: FAULT_IRQ_EN; 1 bit; 02 R47; 0 -/
  faultIrqEn : Bool := false
  /-- faultVector: xx_FAULT_VECTOR; 11 bits; 02 R47; 0 -/
  faultVector : BitVec 11 := 0
  /-- faultSummary: xx_FAULT_SUMMARY; 4 bits; 02 R47; 0 -/
  faultSummary : BitVec 4 := 0
  /-- faultKind: KIND of xx_FAULT_QUEUE; 2 bits; 02 R47; 0 -/
  faultKind : Nat := 0
  /-- faultNumber: NUMBER of xx_FAULT_QUEUE; 20 bits; 02 R47; 0 -/
  faultNumber : Nat := 0
  /-- frameSel: xx_FRAME_SEL; 19 bits; 02 R47; 0 -/
  frameSel  : BitVec 19 := 0
  /-- vfEnable: VF Enable of the SR-IOV capability; 1 bit; 02 R42, R63; DESIGN CHOICE 0 (log 1) -/
  vfEnable  : Bool := false
  /-- tag10, tag14: 10-Bit and 14-Bit Tag Requester Enable; 02 R54; DESIGN CHOICE 0 (log 1) -/
  tag10     : Bool := false
  tag14     : Bool := false
  /-- ctoNs: Completion Timeout value, ns; 02 R55; 30 ms -/
  ctoNs     : Nat := 30000000
  /-- cfg: the other writable registers of the configuration space as written, by dword; 02 R43, R56; DESIGN CHOICE 0 (log 1) -/
  cfg       : Map (BitVec 32) := []
  /-- dbIgnored: RDQ_DB_IGNORED of the function's doorbell block, by page; 31 bits; 11 R278; 0 -/
  dbIgnored : Map Nat := []
  /-- rdqStatus: STATE and STATUS of RDQ_CMD_STATUS, by page; 16 bits; 11 R278; 0 -/
  rdqStatus : Map Nat := []
deriving DecidableEq, Repr

/-! ### Slices (03) -/

/-- The state of a slice (R74). -/
inductive SliceSt where
  | free
  | disabled
  | enabled
  | disabling
  | destroying
deriving DecidableEq, Repr

/-- A block of consecutive pool entries: first entry and count (R72, R211). -/
structure Blk where
  start : Nat
  count : Nat
deriving DecidableEq, Repr

/-- A slice. -/
structure Slice where
  /-- st: slice state; 8 bits; 03 R74; FREE -/
  st        : SliceSt := .free
  /-- record: the CREATE record with the present QoS values; 512 bits; 03 R71, R73; DESIGN CHOICE 0 (log 1) -/
  record       : BitVec 512 := 0
  /-- wqs, cqs, sqs, wins: assigned blocks on the home half; 03 R72; none -/
  wqs       : List Blk := []
  cqs       : List Blk := []
  sqs       : List Blk := []
  wins      : List Blk := []
  /-- leafK, leafQ, polK, polQ, saK, saQ: assigned blocks by half; 03 R70, 08 R211, 10 R254; none -/
  leafK     : List Blk := []
  leafQ     : List Blk := []
  polK      : List Blk := []
  polQ      : List Blk := []
  saK       : List Blk := []
  saQ       : List Blk := []
  /-- qp0: first QP pool entry; 11 R275; 0 -/
  qp0       : Nat := 0
  /-- vec0: first MSI-X table entry of a PASID-form slice; 03 R72; 0 -/
  vec0      : Nat := 0
  /-- page: doorbell page of a PASID-form slice; 11 R277; 0 -/
  page      : Nat := 0
  /-- nodeK, nodeQ: slice node on each half; 03 R70, R72; none -/
  nodeK     : Option Nat := none
  nodeQ     : Option Nat := none
  /-- lastMsg: device time of the last interrupt message, while the interval of R77 runs; 03 R77; none -/
  lastMsg   : Option Nat := none
  /-- heldVecs: vectors held by the interval, ascending; 03 R77; none -/
  heldVecs  : List Nat := []
deriving DecidableEq, Repr

/-- A slice command that has been accepted and not finished (R71). -/
structure SliceCmd where
  sess    : Session
  record  : BitVec 512
  /-- started: the command has begun and is not finished -/
  started : Bool := false
deriving DecidableEq, Repr

/-! ### Work queues, completion queues, copy channels (04, 05) -/

/-- STATE of a WQ, an SQ or RQ, a storage queue or a copy channel (R97, R123, R317). -/
inductive QSt where
  | disabled
  | running
  | draining
  | masterOff
  | fetchFault
deriving DecidableEq, Repr

/-- A fetched work entry: the index of its first slot, and its slots of 64 bytes (R89, R92). -/
structure Entry where
  index : BitVec 16 := 0
  slots : List (BitVec 512) := []
deriving DecidableEq, Repr

/-- An abort that is open: the target's index and tag, and ABORT_TAG (R117). -/
structure Abort where
  index : BitVec 16
  tag   : BitVec 16
  atag  : BitVec 16
deriving DecidableEq, Repr

/-- A work queue of PF1 or of a VF of PF1 (R97), or a send or receive queue of a QP (11). -/
structure Wq where
  /-- base: BASE; 64 bits; 04 R97; 0 -/
  base      : BitVec 64 := 0
  /-- rx: KIND, 0 Ethernet transmit, 1 Ethernet receive; 1 bit; 04 R97; 0 -/
  rx        : Bool := false
  /-- logSize: LOG_SIZE; 4 bits; 04 R97; 6 -/
  logSize   : Nat := 6
  /-- cq: bound CQ number in the function or slice; 16 bits; 04 R97; 0 -/
  cq        : BitVec 16 := 0
  /-- shadow: head-shadow address; 64 bits; 04 R97; 0 -/
  shadow    : BitVec 64 := 0
  /-- st: STATE, and ENABLE (1 in RUNNING); 3 bits; 04 R97, R112; DISABLED -/
  st        : QSt := .disabled
  /-- cfgErr: CFG_ERR; 1 bit; 04 R97; 0 -/
  cfgErr    : Bool := false
  /-- doorbell: doorbell value; 16 bits; 04 R90; 0 -/
  doorbell  : BitVec 16 := 0
  /-- fetchPt: fetch point; 16 bits; 04 R111; 0. The published head is the first fetched unstarted entry, or this -/
  fetchPt   : BitVec 16 := 0
  /-- fetched: fetched and unstarted entries, at most 16; 04 R101; none -/
  fetched   : List Entry := []
  /-- started: started uncompleted entries, oldest first; 04 R108, R110; none -/
  started   : List Entry := []
  /-- lastDone: LASTDONE; 17 bits; 04 R97; not valid -/
  lastDone  : Option (BitVec 16) := none
  /-- malformed: NETQ_WQ_MALFORMED; 31 bits; 04 R97; 0 -/
  malformed : Nat := 0
  /-- dbIgnored: NETQ_WQ_DB_IGNORED; 31 bits; 04 R97; 0 -/
  dbIgnored : Nat := 0
  /-- push: units of the push window and units taken at a doorbell, by slot index, with whether written in full; 04 R102; empty -/
  push      : Map (BitVec 512 × Bool) := []
  /-- pushed: slots taken from the push window, not to be fetched; 04 R102; none -/
  pushed    : Map (BitVec 512) := []
  /-- abort: the open abort, ABORT_BUSY reading 1 while there is one; 48 bits; 04 R97, R117; none -/
  abort     : Option Abort := none
  /-- fn: function through which it was enabled, and the slice that holds it (4096 none); 04 R91; 0 -/
  fn        : Nat := 0
  slice     : Nat := 4096
deriving DecidableEq, Repr

/-- A completion queue (R99). -/
structure Cq where
  /-- base: BASE; 64 bits; 04 R99; 0 -/
  base      : BitVec 64 := 0
  /-- irqEn: IRQ_EN; 1 bit; 04 R99; 0 -/
  irqEn     : Bool := false
  /-- logSize: LOG_SIZE; 4 bits; 04 R99; 4 -/
  logSize   : Nat := 4
  /-- vector: VECTOR; 11 bits; 04 R99; 0 -/
  vector    : Nat := 0
  /-- modTime: TIME, µs; 10 bits; 04 R99; 0 -/
  modTime   : Nat := 0
  /-- modCount: COUNT; 8 bits; 04 R99; 1 -/
  modCount  : Nat := 1
  /-- enable: ENABLE; 1 bit; 04 R99; 0 -/
  enable    : Bool := false
  /-- head: the device's copy of HEAD; 16 bits; 04 R99; 0 -/
  head      : BitVec 16 := 0
  /-- tail: TAIL; 16 bits; 04 R99; 0 -/
  tail      : BitVec 16 := 0
  /-- cfgErr: CFG_ERR; 1 bit; 04 R99; 0 -/
  cfgErr    : Bool := false
  /-- headErr: HEAD_ERR; 1 bit; 04 R99; 0 -/
  headErr   : Bool := false
  /-- faulted: STATE is CQ_FAULT; 04 R99, R112; 0 -/
  faulted   : Bool := false
  /-- reserved: RESERVED; 16 bits; 04 R99, R108; 0 -/
  reserved  : Nat := 0
  /-- noslot: xx_CQ_NOSLOT; 31 bits; 04 R99; 0 -/
  noslot    : Nat := 0
  /-- waitq: queues whose next start found no slot, in order; 04 R108; none -/
  waitq     : List Nat := []
  /-- heldCpl: completions held in CQ_FAULT, oldest first; 04 R112; none -/
  heldCpl   : List HeldCpl := []
  /-- u: unsignalled count U; 04 R114; 0 -/
  u         : Nat := 0
  /-- t0: time at which U last rose from 0; 04 R114; 0 -/
  t0        : Nat := 0
  /-- due: an interrupt is due and held by the slice interval or by D3hot; 04 R115, R116; 0 -/
  due       : Bool := false
  /-- fn, slice: function and slice that hold it (4096 none); 04 R91; 0 -/
  fn        : Nat := 0
  slice     : Nat := 4096
deriving DecidableEq, Repr

/-- A descriptor in execution (R128 to R134). -/
structure CopyRun where
  /-- index: ring index of the head; 16 bits -/
  index   : BitVec 16
  /-- headDesc: the head descriptor; 256 bits -/
  headDesc : BitVec 256
  /-- hop: the descriptor of the present hop; 256 bits -/
  hop     : BitVec 256
  /-- hops: hops begun, the head counting as 1 (R133) -/
  hops    : Nat := 1
  /-- hopDone: bytes of the present hop moved; total: bytes of the chain moved -/
  hopDone : Nat := 0
  total   : Nat := 0
  /-- result: status and KIND_DATA once the descriptor has ended -/
  result  : Option (BitVec 8 × Nat) := none
  /-- data: the data writes made by the operation, not yet sent (R130) -/
  data    : List Byte := []
deriving DecidableEq, Repr

/-- A copy channel (R123). Its ring is held as a work queue whose entries are one slot. -/
structure Chan where
  /-- base: RING BASE; 64 bits; 05 R123; 0 -/
  base      : BitVec 64 := 0
  /-- paced: MODE; 1 bit; 05 R123; 0 FREE -/
  paced     : Bool := false
  /-- logSize: LOG_SIZE; 4 bits; 05 R123; 4 -/
  logSize   : Nat := 4
  /-- shadow: head-shadow address; 64 bits; 05 R123; 0 -/
  shadow    : BitVec 64 := 0
  /-- st: STATE, and ENABLE; 3 bits; 05 R123; DISABLED -/
  st        : QSt := .disabled
  /-- doorbell: doorbell value; 16 bits; 05 R122; 0 -/
  doorbell  : BitVec 16 := 0
  /-- fetchPt: fetch point; 16 bits; 05 R122; 0 -/
  fetchPt   : BitVec 16 := 0
  /-- fetched: fetched and unstarted descriptors (index, 256 bits), at most 16; 05 R122; none -/
  fetched   : List (BitVec 16 × BitVec 256) := []
  /-- stopped: fetching stopped at a slot with OWN 0 until the next doorbell; 05 R129; 0 -/
  stopped   : Bool := false
  /-- run: the started descriptor; 05 R122; none -/
  run       : Option CopyRun := none
  /-- cfgErr: CFG_ERR; 1 bit; 05 R123; 0 -/
  cfgErr    : Bool := false
  /-- watchLost: WATCH_LOST; 1 bit; 05 R123, R132; 0 -/
  watchLost : Bool := false
  /-- gate: GATE; 1 bit; 05 R123, R131; 0 -/
  gate      : Bool := false
  /-- lastDone: LASTDONE; 17 bits; 05 R123; not valid -/
  lastDone  : Option (BitVec 16) := none
  /-- malformed: CPY_CH_MALFORMED; 31 bits; 05 R123; 0 -/
  malformed : Nat := 0
  /-- dbIgnored: CPY_CH_DB_IGNORED; 31 bits; 05 R123; 0 -/
  dbIgnored : Nat := 0
  /-- watch: CPY_CH_WATCH; 26 bits; 05 R123; 0 -/
  watch     : BitVec 32 := 0
  /-- high: CPY_CH_HIGH LEVEL; 24 bits; 05 R123; 0 -/
  high      : Nat := 0
  /-- low: CPY_CH_LOW LEVEL; 24 bits; 05 R123; 0 -/
  low       : Nat := 0
  /-- fill: CPY_CH_FILL LEVEL; 24 bits; 05 R123; 0 -/
  fill      : Nat := 0
  /-- abort: the open abort; 05 R125; none -/
  abort     : Option Abort := none
deriving DecidableEq, Repr

/-! ### Arbiters (05) -/

/-- What an arbiter keeps for a requester (R138, R141). -/
structure Req where
  /-- base: base priority; 3 bits; 05 R138, R142; 3, and 7 for NET at the cipher lanes (10 R253) -/
  base    : Option Nat := none
  /-- l: decisions lost since the present request arrived; 05 R138; 0 -/
  l       : Nat := 0
  /-- waiting: a request is present; 05 R137; 0 -/
  waiting : Bool := false
  /-- since: arrival of the request; 05 R141; 0 -/
  since   : Nat := 0
  /-- fresh: the request has taken part in no decision yet; 05 R141; 0 -/
  fresh   : Bool := false
  /-- served: the request has been granted before; 05 R141; 0 -/
  served  : Bool := false
  /-- toDev: direction of a host-port request; 05 R139; 0 -/
  toDev   : Bool := false
  /-- grants, waits, longest: counters; 64, 64 and 32 bits, saturating; 05 R141; 0 -/
  grants  : Nat := 0
  waits   : Nat := 0
  longest : Nat := 0
  /-- sent: bytes granted in the last 10 µs by direction, as (time, to-device, bytes); 03 R78; none -/
  sent    : List (Nat × Bool × Nat) := []
deriving DecidableEq, Repr

/-- An arbiter (R136). -/
structure Arb where
  /-- reqs: its requesters; 05 R136 -/
  reqs    : Map Req := []
  /-- holder: the requester that holds the grant; 05 R137; none -/
  holder  : Option Nat := none
  /-- last: one more than the requester last granted; 05 R138; DESIGN CHOICE 0 (log 1) -/
  last    : Nat := 0
deriving DecidableEq, Repr

/-! ### Network ports (06) -/

/-- A priority held by received pauses (R153, R155). -/
structure Pause where
  /-- deadline: device time at which the pause ends; 06 R153 -/
  deadline : Nat := 0
  /-- since: device time since which it is held without interruption; 06 R155 -/
  since    : Nat := 0
deriving DecidableEq, Repr

/-- An Ethernet port. -/
structure Eth where
  /-- link: link up; 1 bit; 06 R161; 0 -/
  link     : Bool := false
  /-- trained: mode trained; 4 bits; 06 R161; 0 -/
  trained  : Nat := 0
  /-- anDone: AN complete; 1 bit; 06 R161; 0 -/
  anDone   : Bool := false
  /-- remoteFault: remote fault; 1 bit; 06 R161; 0 -/
  remoteFault : Bool := false
  /-- localFault: local fault; 1 bit; 06 R161; DESIGN CHOICE 0 (log 1) -/
  localFault : Bool := false
  /-- paused: held priorities; 06 R153; none -/
  paused   : Map Pause := []
  /-- stormed: stormed priorities; 8 bits; 06 R155; 0 -/
  stormed  : BitVec 8 := 0
  /-- xoff: priorities for which an XOFF is in force at the partner; 8 bits; 06 R154; 0 -/
  xoff     : BitVec 8 := 0
deriving DecidableEq, Repr

/-! ### Classification (07) -/

/-- A ternary entry (R174): key, mask, action record. -/
structure Tern where
  key  : Nat := 0
  mask : Nat := 0
  act  : BitVec 192 := 0
deriving DecidableEq, Repr

/-- A route or an exact-match key with its action. LPM keys are kept with VRF, prefix length and address (R174, R185). -/
structure Lpm where
  vrf  : Nat
  len  : Nat
  addr : Nat
  act  : BitVec 192
deriving DecidableEq, Repr

/-- A divert entry (R168): value, next node. -/
structure Divert where
  value : Nat
  next  : Nat
deriving DecidableEq, Repr

/-- One version of a half's tables, graph and stage configurations (R169, R174, R175). -/
structure Tables where
  /-- em: exact-match entries by 320-bit key; 262,144 entries of 192 bits; 07 R174; DESIGN CHOICE empty (log 1) -/
  em      : Map (BitVec 192) := []
  /-- lpm4, lpm6: routes; 131,072 and 65,536 entries; 07 R174; DESIGN CHOICE empty (log 1) -/
  lpm4    : List Lpm := []
  lpm6    : List Lpm := []
  /-- tern: ternary entries; 8,192 × 320 bits; 07 R174; DESIGN CHOICE empty (log 1) -/
  tern    : Map Tern := []
  /-- index: INDEX0 to INDEX3 by table × 65,536 + key; 65,536 entries each; 07 R174; DESIGN CHOICE empty (log 1) -/
  index   : Map (BitVec 192) := []
  /-- cfg: stage configurations by 4 × DIR + stage − 1; 8 × 832 bits; 07 R175; DESIGN CHOICE 0, TABLE none (log 1) -/
  cfg     : Map (BitVec 832) := []
  /-- nodes: programmable nodes; 128 × 256 bits; 07 R169; DESIGN CHOICE 0, VALID 0 (log 1) -/
  nodes   : Map (BitVec 256) := []
  /-- divert: ETYPE, IPPROTO and UDPPORT entries by 16 × table + entry; 3 × 16; 07 R168; DESIGN CHOICE none (log 1) -/
  divert  : Map Divert := []
deriving DecidableEq, Repr

/-- The classification state of a half. -/
structure Cls where
  /-- live: the live version; 07 R187 -/
  live     : Tables := {}
  /-- replicated: which items' latest commit named both halves (item codes of R434); 16 R432; none -/
  replicated : List Nat := []
  /-- excTokens: tokens of the exception limiter, 10^-9 frame; 07 R181; DESIGN CHOICE full (log 1) -/
  excTokens : Nat := 1024000000000
  /-- excLast: device time of its last refill; 07 R181; 0 -/
  excLast  : Nat := 0
  /-- lastSwap: device time of the half's last swap; 07 R188; none -/
  lastSwap : Option Nat := none
  /-- flight: frames between NET or XPORT and TMGR, in order of arrival; 01 R34, R35; none -/
  flight   : List Frame := []
  /-- numbered: frames numbered in each stream; 07 R164; 0 -/
  numbered : Map Nat := []
deriving DecidableEq, Repr

/-- The staging set and the commit in hand (R185 to R188). -/
structure Staging where
  /-- owner: session that owns the staging set; 07 R185; none -/
  owner   : Option Session := none
  /-- changes: the staged changes in order; up to 4,096 × 896 bits; 07 R185; none -/
  changes : List (BitVec 896) := []
  /-- pending: the changes of a commit that waits, and halves still to swap; 07 R187; none -/
  pending : List (BitVec 896) := []
  /-- waitK, waitQ: the half still has to swap; 07 R187; 0 -/
  waitK   : Bool := false
  waitQ   : Bool := false
  /-- since: device time the commit was written; 07 R188; 0 -/
  since   : Nat := 0
  /-- result: COMMIT_RESULT without BUSY; 32 bits; 07 R189; 0 -/
  result  : Nat := 0
  /-- lastCommit: LAST_COMMIT; 64 bits; 07 R189; 0 -/
  lastCommit : Nat := 0
deriving DecidableEq, Repr

/-! ### Traffic manager and policers (08) -/

/-- A scheduler node of any level (R200 to R206). Buckets count 2^-32 byte. -/
structure Node where
  /-- record: NODE_RECORD in effect; 256 bits; 08 R201, R211; by level -/
  record      : BitVec 256 := 0
  /-- next: a NODE_RECORD that takes effect at the next refill; 08 R205; none -/
  next     : Option (BitVec 256) := none
  /-- att: ATTACH of a slice node in effect; 512 bits; 08 R201, R211; no group -/
  att      : BitVec 512 := 0
  /-- attNext: an ATTACH that takes effect at the next refill; 08 R205; none -/
  attNext  : Option (BitVec 512) := none
  /-- frames: frames queued at a leaf, oldest first; 08 R196; none -/
  frames   : List Frame := []
  /-- cb: committed bucket; I32 bytes and a fraction of 2^-32; 08 R204, R205; 0 -/
  cb       : Int := 0
  /-- pb: peak bucket; 08 R204, R205; 0 -/
  pb       : Int := 0
  /-- avg: WRED average, in 2^-32 cells; 08 R195; 0 -/
  avg      : Nat := 0
  /-- sent, sentBytes, tailDrop, wredDrop, ecnMark: NODE_STATS; 5 × 64 bits; 08 R212; 0 -/
  sent     : Nat := 0
  sentBytes : Nat := 0
  tailDrop : Nat := 0
  wredDrop : Nat := 0
  ecnMark  : Nat := 0
  /-- deficit: DWRR deficit at its parent, by attachment; 08 R203; 0 -/
  deficit  : Map Int := []
  /-- turn: the child whose DWRR turn it is; 08 R203; DESIGN CHOICE 0 (log 1) -/
  turn     : Nat := 0
deriving DecidableEq, Repr

/-- A host-bound queue (R198). -/
structure HostQ where
  /-- frames: queued frames, oldest first; 08 R198; none -/
  frames  : List Frame := []
  /-- deficit: DWRR deficit in bytes; 08 R198; 0 -/
  deficit : Int := 0
deriving DecidableEq, Repr

/-- A policer (R208 to R210). Buckets count 2^-32 byte. -/
structure Policer where
  /-- record: POLICER; 256 bits; 08 R208; MODE 0 -/
  record   : BitVec 256 := 0
  /-- tc, te: committed and excess or peak bucket; 08 R209; DESIGN CHOICE 0 (log 1) -/
  tc    : Nat := 0
  te    : Nat := 0
  /-- last: device time of the last charge; 08 R209; 0 -/
  last  : Nat := 0
  /-- stats: green, yellow and red frames and bytes; 6 × 64 bits; 08 R212; 0 -/
  stats : Map Nat := []
deriving DecidableEq, Repr

/-- The traffic manager of a half. -/
structure Tmgr where
  /-- nodes: ports, groups, slice nodes and leaves, by level × 65,536 + number; 08 R200; as R200, R211 -/
  nodes   : Map Node := []
  /-- hostq: host-bound queues by slice; 08 R198; empty -/
  hostq   : Map HostQ := []
  /-- hostTurn: the slice whose DWRR turn it is; 08 R198; DESIGN CHOICE 0 (log 1) -/
  hostTurn : Nat := 0
  /-- pols: policers; 65,536; 08 R208; MODE 0 -/
  pols    : Map Policer := []
deriving DecidableEq, Repr

/-! ### Nib units (09) -/

/-- Why a thread does not issue (R217, R233, R231, R232, R238). -/
inductive ThSt where
  | idle
  | running
  | waiting
  | stallTq
  | stallTr
  | stallCsub
  | waitLock
  | stopped
deriving DecidableEq, Repr

/-- A submission of a thread (R232): its kind, the record's address, and the held frame it acts on (R264). -/
structure Sub where
  kind : Nat
  addr : Nat
  frame : Option Nat
deriving DecidableEq, Repr

/-- A nib thread slot. -/
structure Thread where
  /-- st: what the thread does; 09 R217, R219, R250; idle -/
  st      : ThSt := .idle
  /-- regs: v1 to v31, v0 reading 0; 31 × 64 bits; 09 R227; DESIGN CHOICE 0 (log 1) -/
  regs    : Map Word := []
  /-- pc: instruction address; 32 bits; 09 R226; DESIGN CHOICE 0 (log 1) -/
  pc      : Nat := 0
  /-- mask: WFE mask; 32 bits; 09 R233; DESIGN CHOICE 0 (log 1) -/
  mask    : BitVec 32 := 0
  /-- wfeRd: register the pending bits go to; 09 R233; 0 -/
  wfeRd   : Reg := 0
  /-- pend: pending events; 32 bits; 09 R233; DESIGN CHOICE 0 (log 1) -/
  pend    : BitVec 32 := 0
  /-- timer: the time the one-shot timer fires; 09 R230; none -/
  timer   : Option Nat := none
  /-- staged: channel and staged words; up to 8 × 64 bits; 09 R235; none -/
  staged  : Option (Nat × List Word) := none
  /-- watch: channel watch mask; 64 bits; 09 R234; DESIGN CHOICE 0 (log 1) -/
  watch   : BitVec 64 := 0
  /-- frame: the held frame; 09 R222; none -/
  frame   : Option Frame := none
  /-- frameExc: the held frame was delivered to an exception thread; 09 R223; 0 -/
  frameExc : Bool := false
  /-- holds: the held frame's lock is held; 09 R238; 0 -/
  holds   : Bool := false
  /-- poisoned: the lock was taken POISONED; 09 R239; 0 -/
  poisoned : Bool := false
  /-- wantLock: a failed LTRY awaits the LOCK event; 09 R238; 0 -/
  wantLock : Bool := false
  /-- lookup: the outstanding lookup, with its result (code and three words) once ready; 09 R231; none -/
  lookup  : Option (Nat × Nat) := none
  /-- result: the ready lookup result; 09 R231; none -/
  result  : Option (List Word) := none
  /-- subs: outstanding submissions, at most 4; 09 R232; none -/
  subs    : List Sub := []
  /-- deadSubs: submissions outstanding from before a fault, whose events are discarded; 09 R243; none -/
  deadSubs : List Sub := []
  /-- scratch: private scratch; 4 KiB; 09 R225, R246; 0 -/
  scratch : Map Byte := []
  /-- halted: halt cause when halted by the debugger; 09 R249, R250; none -/
  halted  : Option Nat := none
  /-- armed: BRK and breakpoints halt it; 09 R249, R250; 0 -/
  armed   : Bool := false
  /-- bps: DBG_BP; 4 × 32 bits; 09 R250; 0 -/
  bps     : BitVec 128 := 0
  /-- faults: device times of the faults within the last 1 ms; 09 R243; none -/
  faults  : List Nat := []
  /-- since: device time at which it entered its wait in WFE; 09 R241; 0 -/
  since   : Nat := 0
  /-- skip: resumed at a breakpoint, which does not halt its next instruction again; 09 R249; 0 -/
  skip    : Bool := false
deriving DecidableEq, Repr

/-- An ordered lock (R237, R239): arrival numbers of the frames in its queue, oldest first. -/
structure Lock where
  queue    : List Nat := []
  poisoned : Bool := false
deriving DecidableEq, Repr

/-- A nib unit. -/
structure Nib where
  /-- image: the first 1,152 bytes of the installed image's payload; 09 R244, R246; none -/
  image   : Option (List Byte) := none
  /-- digest: SHA-384 of the payload; 384 bits; 09 R250, 14 R381; 0 -/
  digest  : Nat := 0
  /-- code: the code store, by word; 256 KiB; 09 R226; DESIGN CHOICE 0 (log 1) -/
  code    : Map (BitVec 32) := []
  /-- shared: unit shared memory; 2 MiB; 09 R225, R246; 0 -/
  shared  : Map Byte := []
  /-- overflow: the unit's shared overflow in DRAM; up to 1 GiB; 09 R225, R246; DESIGN CHOICE 0 (log 1) -/
  overflow : Map Byte := []
  /-- lost: the draw of what the overflow holds where nothing has written since its DRAM lost its content; 16 R422; none -/
  lost     : Option Nat := none
  /-- threads: the 64 thread slots; 09 R214; idle -/
  threads : Map Thread := []
  /-- chans: the 64 channels, messages oldest first; 16 × 8 × 64 bits; 09 R234; empty -/
  chans   : Map (List (List Word)) := []
  /-- locks: the 4,096 locks; 09 R237; free -/
  locks   : Map Lock := []
  /-- waitD, waitE: frames admitted for dispatch and exception threads, oldest first; 09 R222; none -/
  waitD   : List Frame := []
  waitE   : List Frame := []
  /-- arrivals: the next arrival sequence number; 32 bits; 09 R222; 0 -/
  arrivals : Nat := 0
  /-- faultLog: the last 16 faults (time, slot, code, address), newest first; 09 R250; none -/
  faultLog : List (Nat × Nat × Nat × Nat) := []
  /-- staleFired: the stalemate detector has fired in the present episode; 09 R241; 0 -/
  staleFired : Bool := false
deriving DecidableEq, Repr

/-! ### Cipher (10) -/

/-- State of an SA (R272). -/
inductive SaSt where
  | empty
  | ready
  | marked
  | exhausted
  | fencing
deriving DecidableEq, Repr

/-- A security association (R255, R272). -/
structure Sa where
  /-- st: SA state; 8 bits; 10 R272; EMPTY -/
  st     : SaSt := .empty
  /-- record: SA_RECORD without the key; 640 bits; 10 R255; 0 -/
  record    : BitVec 640 := 0
  /-- key: the unwrapped key; 256 bits; 10 R255; 0 -/
  key    : BitVec 256 := 0
  /-- next: next value (outbound) or lowest acceptable (inbound); 64 bits; 10 R272; 0 -/
  next   : Nat := 0
  /-- top: highest sequence number received, and those received within the window; 10 R265; 0 -/
  top    : Nat := 0
  /-- seen: sequence numbers received; 10 R265; none -/
  seen   : List Nat := []
  /-- frames, octets, integrity, late: SA_STATE counters; 4 × 64 bits; 10 R272; 0 -/
  frames : Nat := 0
  octets : Nat := 0
  integrity : Nat := 0
  late   : Nat := 0
deriving DecidableEq, Repr

/-- The cipher unit and key store of a half. -/
structure Cipher where
  /-- sas: SA slots; 16,384; 10 R254; EMPTY -/
  sas    : Map Sa := []
  /-- xts: keys of the XTS slots in use; 4,096 × 512 bits; 10 R254, 12 R315; none -/
  xts    : Map (BitVec 512) := []
  /-- lanes: lanes in service; 4 bits; 10 R272; 5 -/
  lanes  : Nat := 5
  /-- spares: spares left; 4 bits; 10 R272; 1 -/
  spares : Nat := 1
  /-- waitInstall: installs that wait for the end of a fence, by slot; 10 R258; none -/
  waitInstall : Map (BitVec 640 × BitVec 256) := []
deriving DecidableEq, Repr

/-! ### RDMA (11) -/

/-- State of a QP (R280). -/
inductive QpSt where
  | reset
  | init
  | rtr
  | rts
  | error
deriving DecidableEq, Repr

/-- A started SQ entry (R290, R300): its PSNs, what is transmitted and what has come back. -/
structure Outst where
  /-- entry: the SQ entry -/
  entry  : Entry
  /-- psn, npkts: its first PSN, and how many it takes -/
  psn    : BitVec 24
  npkts  : Nat
  /-- got: bytes of read data placed -/
  got    : Nat := 0
deriving DecidableEq, Repr

/-- A queue pair (R281, R283). -/
structure Qp where
  /-- st: QP state; 3 bits; 11 R280; RESET -/
  st       : QpSt := .reset
  /-- record: the fields taken by MODIFY, in the layout of R281; 1,024 bits; 11 R281, R283; 0 -/
  record      : BitVec 1024 := 0
  /-- slice: slice that holds it, 4096 for PF1 itself; 12 bits; 11 R283; 4096 -/
  slice    : Nat := 4096
  /-- sq, rq: send and receive queue; 11 R283; as reset -/
  sq       : Wq := {}
  rq       : Wq := {}
  /-- nextPsn: next PSN to send; 24 bits; 11 R283; 0 -/
  nextPsn  : BitVec 24 := 0
  /-- unacked: oldest unacknowledged PSN; 24 bits; 11 R283; 0 -/
  unacked  : BitVec 24 := 0
  /-- ePsn: expected PSN; 24 bits; 11 R283; 0 -/
  ePsn     : BitVec 24 := 0
  /-- msn: message sequence number; 24 bits; 11 R283; 0 -/
  msn      : BitVec 24 := 0
  /-- outst: started requester entries in order; 11 R300; none -/
  outst    : List Outst := []
  /-- retries: retries left; 11 R283, R300; 0 -/
  retries  : Nat := 0
  /-- rnrLeft: RNR retries left; 11 R283, R301; 0 -/
  rnrLeft  : Nat := 0
  /-- rnrAt: device time at which the wait of an RNR NAK ends; 11 R301; none -/
  rnrAt    : Option Nat := none
  /-- ackFrom: device time from which the local ACK timeout counts; 11 R300; 0 -/
  ackFrom  : Nat := 0
  /-- nakSent: a sequence-error NAK is out; 11 R300; 0 -/
  nakSent  : Bool := false
  /-- unackedPkts: packets received in order since the last ACK; 11 R300; 0 -/
  unackedPkts : Nat := 0
  /-- recv: index of the RQ entry of the SEND message in hand, and the bytes placed so far; 11 R290; none -/
  recv     : Option (BitVec 16 × Nat) := none
  /-- dropMsg: the rest of the message in hand is dropped; 11 R295; 0 -/
  dropMsg  : Bool := false
  /-- writeVa: where the next packet of the WRITE in hand goes: address, key, bytes left; 11 R295; none -/
  writeVa  : Option (Nat × Nat × Nat) := none
  /-- atomics: the last 32 atomic results by PSN, newest first; 512 bytes; 11 R284; none -/
  atomics  : List (BitVec 24 × BitVec 64) := []
  /-- cached: the context is in the on-die cache; 11 R291; 0 -/
  cached   : Bool := false
  /-- fetching: a context fetch is in progress; 11 R291, R292; 0 -/
  fetching : Bool := false
  /-- parkedAt: device time at which the first packet was parked; 11 R292; 0 -/
  parkedAt : Nat := 0
  /-- parked: parked packets in order of arrival; 11 R292; none -/
  parked   : List RocePkt := []
  /-- lastCnp: device time of the last CNP sent; 11 R305; none -/
  lastCnp  : Option Nat := none
  /-- lastUse: use count for the least-recently-used choice; 11 R291; 0 -/
  lastUse  : Nat := 0
deriving DecidableEq, Repr

/-- State of a window (R293). -/
inductive WinSt where
  | closed
  | opened
  | revoking
  | revoked
deriving DecidableEq, Repr

/-- A memory window (R293). -/
structure Win where
  /-- base: BASE; 64 bits; 11 R293; 0 -/
  base   : BitVec 64 := 0
  /-- len: LEN; 40 bits; 11 R293; 0 -/
  len    : BitVec 40 := 0
  /-- rights: ATOMIC, WRITE, READ as set by OPEN; 3 bits; 11 R293, R294; DESIGN CHOICE 0 (log 1) -/
  rights : BitVec 3 := 0
  /-- cmdErr: CMD_ERR; 1 bit; 11 R293; 0 -/
  cmdErr : Bool := false
  /-- st: STATE; 2 bits; 11 R293; CLOSED -/
  st     : WinSt := .closed
  /-- gen: GEN; 8 bits; 11 R293; 0 -/
  gen    : Nat := 0
  /-- fn: function through which it was opened; 02 R63, 11 R293; DESIGN CHOICE 0 (log 1) -/
  fn     : Nat := 0
deriving DecidableEq, Repr

/-- A rate group (R306), in Mb/s and exact fractions. -/
structure Group where
  /-- rate, ceiling: present rate and rate before the cut; 11 R306; line -/
  rate    : Rat := 0
  ceiling : Rat := 0
  /-- level: smoothed congestion level; 11 R306; 0 -/
  level   : Rat := 0
  /-- calm: calm windows; 11 R306; above CC_RECOVER_WINDOWS -/
  calm    : Nat := 0
  /-- cnps: CNPs in the present window; 11 R306; 0 -/
  cnps    : Nat := 0
  /-- line: line rate of the group's port; 11 R306 -/
  line    : Nat := 0
deriving DecidableEq, Repr

/-- The RDMA transport of a half. -/
structure Rdma where
  /-- qps: queue pairs by pool entry; 524,288; 11 R275; RESET -/
  qps    : Map Qp := []
  /-- wins: windows by pool entry; 131,072; 11 R293; CLOSED -/
  wins   : Map Win := []
  /-- groups: rate groups with a QP in RTS; 65,536; 11 R306; none -/
  groups : Map Group := []
  /-- uses: uses of contexts counted, for the least recently used; 11 R291; 0 -/
  uses   : Nat := 0
deriving DecidableEq, Repr

/-! ### Storage (12) -/

/-- A storage command accepted and not completed (R320, R325). -/
structure SCmd where
  /-- seq: commit sequence; 16 bits; 12 R320 -/
  seq     : BitVec 16
  /-- cmd: the 64-byte command; 512 bits; 12 R321 -/
  cmd     : BitVec 512
  /-- arrival: its place in the order of arrival at the overlap tracker; 12 R320 -/
  arrival : Nat
  /-- since: device time of its acceptance; 12 R315, R320; 0 -/
  since   : Nat := 0
  /-- granted: granted by the storage class arbiter; 12 R325; 0 -/
  granted : Bool := false
  /-- waited: its wait for write-buffer room has been counted; 12 R330; 0 -/
  waited  : Bool := false
  /-- started: the command has started, and with that is past its stop point, its first transfer being part of the start; 12 R325, R341; 0 -/
  started : Bool := false
  /-- status, bytes, data: outcome once its work is done, for its completion; 12 R334; none -/
  outcome : Option (BitVec 8 × Nat × Nat) := none
deriving DecidableEq, Repr

/-- A storage queue (R317). -/
structure Stq where
  /-- tasks: the 16 task registers; 512 bits each; 12 R317; DESIGN CHOICE 0 (log 1) -/
  tasks    : Map (BitVec 512) := []
  /-- cls: CLASS; 2 bits; 12 R317; 1 -/
  cls      : Nat := 1
  /-- cq: bound CQ; 16 bits; 12 R317; 0 -/
  cq       : BitVec 16 := 0
  /-- shadow: head-shadow address; 64 bits; 12 R317; 0 -/
  shadow   : BitVec 64 := 0
  /-- st: STATE, and ENABLE; 2 bits; 12 R317; DISABLED -/
  st       : QSt := .disabled
  /-- cfgErr: CFG_ERR; 1 bit; 12 R317; 0 -/
  cfgErr   : Bool := false
  /-- frozen: FROZEN; 1 bit; 12 R317; 0 -/
  frozen   : Bool := false
  /-- frozenAt: device time of the freeze; 12 R336; 0 -/
  frozenAt : Nat := 0
  /-- committed: committed and not yet accepted tasks, in commit order; their TASK_FREE bits are 0; 12 R317, R320; none -/
  committed : List Nat := []
  /-- nextSeq: next commit sequence; 16 bits; 12 R320; 0 -/
  nextSeq  : BitVec 16 := 0
  /-- cmds: accepted uncompleted commands in commit order; up to 256; 12 R320; none -/
  cmds     : List SCmd := []
  /-- head: published head when nothing is unstarted; 16 bits; 12 R317; 0 -/
  head     : BitVec 16 := 0
  /-- lastDone: LASTDONE; 17 bits; 12 R317; not valid -/
  lastDone : Option (BitVec 16) := none
  /-- taskIgnored: STQ_TASK_IGNORED; 31 bits; 12 R317; 0 -/
  taskIgnored : Nat := 0
  /-- malformed: STQ_MALFORMED; 31 bits; 12 R317; 0 -/
  malformed : Nat := 0
  /-- freed: tasks freed since the previous completion; 16 bits; 12 R334; 0 -/
  freed    : BitVec 16 := 0
  /-- abort: the open abort, with the admin queue and sequence that asked; 12 R341; none -/
  abort    : Option (Abort × Nat × BitVec 16) := none
  /-- fn, slice: function and slice that hold it (4096 none); 12 R316; 0 -/
  fn       : Nat := 0
  slice    : Nat := 4096
deriving DecidableEq, Repr

/-- State of a namespace (R342). -/
inductive NsSt where
  | free
  | ready
  | locked
  | recovering
deriving DecidableEq, Repr

/-- A namespace (R309 to R315). Blocks are numbers, little-endian; a block in neither map reads zero. -/
structure Ns where
  /-- st: state; 8 bits; 12 R342; FREE -/
  st       : NsSt := .free
  /-- home: home half; 1 bit; 12 R309; K -/
  home     : Half := .k
  /-- lba4k: 4,096-byte LBAs; 1 bit; 12 R309; 0 -/
  lba4k    : Bool := false
  /-- encrypt: ENCRYPT; 1 bit; 12 R315; 0 -/
  encrypt  : Bool := false
  /-- size: size in blocks; 64 bits; 12 R309; 0 -/
  size     : Nat := 0
  /-- attached: slices it is attached to; 12 R342; none -/
  attached : List Nat := []
  /-- media: block contents on media; 12 R311; none -/
  media    : Map Nat := []
  /-- buf: by granule, its block contents in the write buffer after each write that is not yet on media, oldest first, none for unmapped; 12 R330, R332; none -/
  buf      : Map (List (Option (Map Nat))) := []
  /-- place: drive of each mapped granule, that of an unreadable one included; 12 R311; none -/
  place    : Map Nat := []
  /-- keys: of an encrypted namespace, the XTS key each placed granule was sealed under; 12 R315; none -/
  keys     : Map (BitVec 512) := []
  /-- lost: unreadable granules; 12 R312; none -/
  lost     : List Nat := []
  /-- bufLost: granules whose buffered data a DRAM failure lost; 13 R348; none -/
  bufLost  : List Nat := []
  /-- lockedAt: device time it became LOCKED; 12 R315; 0 -/
  lockedAt : Nat := 0
deriving DecidableEq, Repr

/-- State of a drive (R342). -/
inductive DriveSt where
  | absent
  | present
  | admitted
  | failed
  | retiring
deriving DecidableEq, Repr

/-- A drive below a root port (R342). -/
structure Drive where
  /-- st: state; 8 bits; 12 R342; absent -/
  st       : DriveSt := .absent
  /-- capacity: bytes; 64 bits; 12 R342; 0 -/
  capacity : Nat := 0
  /-- lba4k: LBA size code; 8 bits; 12 R342; 0 -/
  lba4k    : Bool := false
  /-- serial: serial number; 160 bits; 12 R342; 0 -/
  serial   : BitVec 160 := 0
deriving DecidableEq, Repr

/-- An entry of the storage error log (R337). -/
structure ErrEntry where
  time   : Nat
  seq    : Nat
  queue  : Nat
  tag    : BitVec 16
  cseq   : BitVec 16
  status : BitVec 8
  opcode : Nat
  nsid   : Nat
  slba   : Nat
  nlb    : Nat
  lba    : Nat
  drive  : Nat
  froze  : Bool
deriving DecidableEq, Repr

/-- The storage engine's device-wide state. -/
structure Storage where
  /-- stqs: storage queues by half × 4,096 + pool entry, and PF2 admin queues by port; 12 R316; as reset -/
  stqs     : Map Stq := []
  /-- nss: namespaces by NSID; 1 to 4,096; 12 R309; none -/
  nss      : Map Ns := []
  /-- drives: drives by number 0 to 63; 12 R342; absent -/
  drives   : Map Drive := []
  /-- arrivals: commands that have arrived so far; 12 R320; 0 -/
  arrivals : Nat := 0
  /-- errs: error logs by owner (slice ID, or 4,096 + function), newest first, 64 entries; 12 R337; empty -/
  errs     : Map (List ErrEntry) := []
  /-- errSeqs: log sequence numbers by owner; 12 R337; 0 -/
  errSeqs  : Map Nat := []
  /-- clsTurn: class and count of the weighted round robin, by half; 12 R326; DESIGN CHOICE 0 (log 1) -/
  clsTurn  : Map Nat := []
  /-- sliceTurn: slice whose turn it is and its count, by half × 4 + class; 12 R326; DESIGN CHOICE 0 (log 1) -/
  sliceTurn : Map Nat := []
  /-- queueTurn: queue last started, by slice; 12 R326; DESIGN CHOICE 0 (log 1) -/
  queueTurn : Map Nat := []
  /-- short: POOL_SHORT is in force on K, on Q; 12 R313; 0 -/
  shortK   : Bool := false
  shortQ   : Bool := false
  /-- detachWait: NS_DETACH waiting: NSID, slice, number of arrivals before it, source; 12 R339; none -/
  detachWait : List (Nat × Nat × Nat × AdminSrc) := []
deriving DecidableEq, Repr

/-! ### Memory channels (13) -/

/-- State of a DRAM channel (R361). -/
inductive ChSt where
  | unpopulated
  | training
  | running
  | changing
  | leftOut
  | failed
deriving DecidableEq, Repr

/-- A DRAM channel. -/
structure Dram where
  /-- st: state; 8 bits; 13 R361; unpopulated until the SPDs are read -/
  st       : ChSt := .unpopulated
  /-- dimms: DIMMs; 8 bits; 13 R361; DESIGN CHOICE 1 (log 12) -/
  dimms    : Nat := 1
  /-- gib: capacity of each DIMM, GiB; 13 R344; DESIGN CHOICE 64 (log 12) -/
  gib      : Nat := 64
  /-- ranks, x8: ranks and device width; 13 R344; DESIGN CHOICE 2 ranks, x4 (log 12) -/
  ranks    : Nat := 2
  x8       : Bool := false
  /-- grade: speed grade, MT/s; 13 R345; DESIGN CHOICE 6400 (log 12) -/
  grade    : Nat := 6400
  /-- speed: present speed, MT/s; 16 bits; 13 R361; 0 -/
  speed    : Nat := 0
  /-- setB: timing set in use is B; 1 bit; 13 R361; 0 -/
  setB     : Bool := false
  /-- temp: hottest DIMM, °C; 8 bits; 13 R361; DESIGN CHOICE 0 (log 1) -/
  temp     : Int := 0
  /-- hot: a 95 °C episode is open; 13 R351; 0 -/
  hot      : Bool := false
  /-- centred: DIMM temperature when last centred; 13 R352; DESIGN CHOICE 0 (log 1) -/
  centred  : Int := 0
  /-- poisoned: lines that read POISONED, by line of the half's address space, with the NSID and granule of write-buffer data (0, 0 for other content); 13 R348; none -/
  poisoned : Map (Nat × Nat) := []
  /-- ceRows: corrected lines, with the device time, by row × 256 + device; 13 R356; none -/
  ceRows   : Map (List (Nat × Nat)) := []
  /-- banks: counter of the page predictor and open row, by bank; 13 R350; 2 and no row at training -/
  banks    : Map (Nat × Option Nat) := []
  /-- speedA, speedB: speeds of the two timing sets, MT/s; 13 R354, R361; DESIGN CHOICE 0 until training (log 1) -/
  speedA   : Nat := 0
  speedB   : Nat := 0
  /-- needRepair: rows that need repair; 13 R356; none -/
  needRepair : List Nat := []
  /-- repaired: rows repaired; 16 bits; 13 R361; 0 -/
  repaired : Nat := 0
  /-- soft: rows repaired softly since the last cold start; 13 R357; none -/
  soft     : List Nat := []
  /-- retired: pages retired; 16 bits; 13 R358, R361; none -/
  retired  : List Nat := []
  /-- scrub: next line of patrol scrub; 13 R353; 0 -/
  scrub    : Nat := 0
  /-- retrainDue: a retrain is due; 13 R352; 0 -/
  retrainDue : Bool := false
  /-- switchDone: the running frequency change has passed this channel; 13 R354; 0 -/
  switchDone : Bool := false
deriving DecidableEq, Repr

/-- The memory system's device-wide state. -/
structure Mem where
  /-- chans: the 8 channels; 13 R361; as above -/
  chans    : Map Dram := []
  /-- busy: BUSY of FREQ_STATUS; 1 bit; 13 R361; 0 -/
  busy     : Bool := false
  /-- target: timing set of the change in hand; 13 R354; 0 -/
  target   : Bool := false
  /-- order: the address mapping in force; 13 R349; 3 -/
  order    : Nat := 3
  /-- carveK, carveQ: sizes of the six carve-outs, bytes; 13 R359, CARVE_MAP; empty -/
  carveK   : List Nat := []
  carveQ   : List Nat := []
  /-- sparesK, sparesQ: spare pages used of the retirement reserve; 13 R358; 0 -/
  usedK    : Nat := 0
  usedQ    : Nat := 0
deriving DecidableEq, Repr

/-! ### Non-volatile content: fuses, flash, on-package store (14, 15) -/

/-- A programmed key slot (R363). -/
structure KeySlot where
  /-- hash: key slot hash; 384 bits; 14 R363; slots 0 and 1 from the factory, the rest not programmed -/
  hash    : Nat
  /-- usage: key slot usage; 2 bits; 14 R363 -/
  usage   : Nat
  /-- revoked: key slot revocation; 1 bit; 14 R363; 0 -/
  revoked : Bool := false
deriving DecidableEq, Repr

/-- A slot state record (R370), its CRC good. -/
structure SlotRec where
  slot       : Nat
  state      : Nat
  seq        : Nat
  envHash    : Nat
  secVersion : Nat
deriving DecidableEq, Repr

/-- A secret sealed at SEC_VERSION v (R379). -/
structure Secret where
  v   : Nat
  val : Nat
deriving DecidableEq, Repr

/-- An event record (R425). LOCATOR is given when the record is read. -/
structure EventRec where
  time   : Nat
  seq    : Nat
  code   : Nat
  cls    : Nat
  unit   : Nat
  slice  : Nat
  action : Nat
  count  : Nat
  epoch  : Nat
  detail : Nat
deriving DecidableEq, Repr

/-- What a copy of the persistent parameter store holds (R390, R391). -/
structure StoreCopy where
  /-- valid: the copy's CRC is good; 15 R391; 1 -/
  valid    : Bool := true
  /-- gen: generation; 32 bits; 15 R391; DESIGN CHOICE 0 (log 1) -/
  gen      : Nat := 0
  /-- params: RWP values as committed, of K and of Q; absent for the default; 15 R390; defaults -/
  paramsK  : Map Nat := []
  paramsQ  : Map Nat := []
  /-- life: LIFE_USED as recorded, none where no valid count; 01 R27; DESIGN CHOICE 0 (log 1) -/
  life     : Option Nat := some 0
  /-- retired: retired pages by channel; 13 R358; none -/
  retired  : Map (List Nat) := []
  /-- kwk: sealed key-wrap key; 256 bits; 14 R379; absent -/
  kwk      : Option Secret := none
  /-- keys: sealed AUTH_KEY0 to AUTH_KEY7, role in the low byte, then the key; 392 bits; 15 R395; absent -/
  keys     : Map Secret := []
  /-- epoch: EPOCH; 32 bits; 15 R398; DESIGN CHOICE 0 (log 1) -/
  epoch    : Nat := 0
  /-- custodyEpoch: CUSTODY_EPOCH by half; 32 bits; 16 R435; 1 -/
  custodyK : Nat := 1
  custodyQ : Nat := 1
  /-- holder: holder half recorded with it, by half, 0 K, 1 Q; 16 R433, R435; K -/
  holderK  : Nat := 0
  holderQ  : Nat := 0
  /-- fatal: the last 32 records of classes 3 and 4 of each half, newest first; 16 R427; none -/
  fatalK   : List EventRec := []
  fatalQ   : List EventRec := []
deriving DecidableEq, Repr

/-- Everything that survives PORn. -/
structure NonVol where
  /-- keySlots: programmed key slots 0 to 7; 8 × (384 + 2 + 1) bits; 14 R363; slots 0 and 1 -/
  keySlots  : Map KeySlot
  /-- floorBits: version floor bits blown; 64; 14 R363; DESIGN CHOICE 0 (log 1) -/
  floorBits : Nat := 0
  /-- vendorBlown: VENDOR_DEBUG; 1 bit; 14 R363; DESIGN CHOICE 0, an OX1600-IG (log 1) -/
  vendorBlown : Bool := false
  /-- programBlown: PROGRAM_DEBUG; 1 bit; 14 R363; DESIGN CHOICE 0, an OX1600-IG (log 1) -/
  programBlown : Bool := false
  /-- ordering: ordering-code byte; 8 bits; 00 R2, 15 R394; DESIGN CHOICE 0, an OX1600-IG (log 1) -/
  ordering  : Nat := 0
  /-- sector0, sector1: slot state records, oldest first; 2 × 64 × 64 bytes; 14 R370, R371; DESIGN CHOICE none (log 1) -/
  sector0   : List SlotRec := []
  sector1   : List SlotRec := []
  /-- slotA, slotB: image slot contents from the start of the slot; 12 MiB each; 14 R364; DESIGN CHOICE erased (log 1) -/
  slotA     : List Byte := []
  slotB     : List Byte := []
  /-- copy0, copy1: the store copies; 1 MiB each; 15 R391; copy 0 in force -/
  copy0     : StoreCopy := {}
  copy1     : StoreCopy := { valid := false }
  /-- lifeRecord: the on-package life record; 32 bits; 01 R27; DESIGN CHOICE 0 (log 1) -/
  lifeRecord : Option Nat := some 0
  /-- orderly: the last loss of power was orderly, or there has been none; 01 R27; DESIGN CHOICE 1 (log 1) -/
  orderly   : Bool := true
  /-- cal: calibration blocks of 1,024 bytes written since the factory; 1,024 blocks; 15 R405; factory content -/
  cal       : Map (List Byte) := []
  /-- calBad: pages whose programming a loss of power cut short, which fail their check; 15 R407; none -/
  calBad    : List Nat := []
deriving DecidableEq, Repr

/-! ### Trust and management (14, 15) -/

/-- The image load, the trial and a handover in hand (R371 to R375, R382). -/
structure Trust where
  /-- owner: session that owns the image load; 14 R382; none -/
  owner    : Option Session := none
  /-- target: target slot of the load; 14 R371; DESIGN CHOICE 1 (log 1) -/
  target   : Nat := 1
  /-- begun: BEGIN has been done for the load in hand; 14 R371; 0 -/
  begun    : Bool := false
  /-- verified: VERIFY has passed since BEGIN; 14 R371; 0 -/
  verified : Bool := false
  /-- imgBusy: BUSY of IMG_RESULT; 1 bit; 14 R382; 0 -/
  imgBusy  : Bool := false
  /-- imgStatus: status of IMG_RESULT; 8 bits; 14 R382; 0 -/
  imgStatus : Nat := 0
  /-- trialEnd: device time the trial watchdog expires, while an image is on trial; 14 R373; none -/
  trialEnd : Option Nat := none
  /-- handover: slot a handover goes to, and whether it is a fallback, while it runs; 14 R374; none -/
  handover : Option (Nat × Bool) := none
  /-- fallbackWaits: a fallback waits until the standby is in step, to this slot; 14 R374; none -/
  fallbackWaits : Option Nat := none
  /-- slotK, slotQ: image slot each SUPV runs, 0 A, 1 B; 14 R375; DESIGN CHOICE A (log 1) -/
  slotK    : Nat := 0
  slotQ    : Nat := 0
  /-- hostReady: host-ready time of the last cold start, µs; 32 bits; 14 R382; 0 -/
  hostReady : Nat := 0
deriving DecidableEq, Repr

/-- A session (R389). -/
structure Sess where
  sess : Session
  /-- last: device time of its last request; 15 R389 -/
  last : Nat
  /-- sel: selections and result objects of the session by object (index × 256 + subindex); 15 R389, 03 R71; defaults -/
  sel  : Map Nat := []
deriving DecidableEq, Repr

/-- A signed load in hand: profile or action image (R250, R395). -/
structure Load where
  /-- owner: owning session; 09 R250, 15 R389; none -/
  owner    : Option Session := none
  /-- target: LOAD_TARGET when BEGIN was written (unit index 0 to 7); 09 R250; 0 -/
  target   : Nat := 0
  /-- buf: the load buffer; 09 R250, 15 R403; DESIGN CHOICE empty (log 1) -/
  buf      : List Byte := []
  /-- verified: VERIFY has passed for the buffer; 09 R245, 15 R404; 0 -/
  verified : Bool := false
  /-- busy: BUSY; 1 bit; 09 R250, 15 R395; 0 -/
  busy     : Bool := false
  /-- status: status of the result object; 8 bits; 09 R250, 15 R395; 0 -/
  status   : Nat := 0
  /-- failing: first failing entry; 12 bits; 15 R395; 0 -/
  failing  : Nat := 0
deriving DecidableEq, Repr

/-- What a SUPV keeps for an authentication key within the epoch (R398). -/
structure KeyMark where
  seq  : Nat
  req  : List Byte
  resp : List Byte
deriving DecidableEq, Repr

/-- Management state. -/
structure Mgmt where
  /-- sessions: open sessions; 15 R389; none -/
  sessions : List Sess := []
  /-- params: values of RW and RWP objects, K's copy and Q's, by object and selection; absent for the default; 15 R385, 16 R432; defaults -/
  paramsK  : Map Nat := []
  paramsQ  : Map Nat := []
  /-- sliceQ: slice commands accepted and not finished, the one that runs first; 03 R71; none -/
  sliceQ   : List SliceCmd := []
  /-- staging: the staging set; 07 R185; empty -/
  staging  : Staging := {}
  /-- storeBusy: BUSY of STORE_STATUS; 1 bit; 15 R395; 0 -/
  storeBusy : Bool := false
  /-- storeStatus: status of STORE_STATUS; 8 bits; 15 R395; 0 -/
  storeStatus : Nat := 0
  /-- storeNext: the copy a commit is writing; 15 R391; none -/
  storeNext : Option StoreCopy := none
  /-- profile: the profile load; 15 R395; none -/
  profile  : Load := {}
  /-- nibLoad: the action image load; 09 R250; none -/
  nibLoad  : Load := {}
  /-- calWork: blocks of the calibration working copy that differ from the store; 15 R406; none -/
  calWork  : Map (List Byte) := []
  /-- calBusy: BUSY of CAL_STATUS; 1 bit; 15 R406; 0 -/
  calBusy  : Bool := false
  /-- calStatus: last status of CAL_STATUS; 8 bits; 15 R406; 0 -/
  calStatus : Nat := 0
  /-- marks: per half and key (half × 8 + key) the highest SEQ accepted, that request and its response; 15 R398; none -/
  marks    : Map KeyMark := []
  /-- eids: MCTP endpoint IDs by half × 256 + medium; 8 bits; 15 R400; 0 none -/
  eids     : Map Nat := []
  /-- linkK, linkQ: MGMT_LINK_K and MGMT_LINK_Q; 8 bits; 06 R159, R161; DESIGN CHOICE 0 (log 1) -/
  linkK    : BitVec 8 := 0
  linkQ    : BitVec 8 := 0
  /-- rx: per half the frames of the present second of R160 (start of the second, frames); 06 R160; 0 -/
  rxK      : Nat × Nat := (0, 0)
  rxQ      : Nat × Nat := (0, 0)
deriving DecidableEq, Repr

/-! ### Availability (16) -/

/-- State of a unit (R410). -/
inductive UnitSt where
  | active
  | draining
  | service
  | off
  | failed
  | returning
deriving DecidableEq, Repr

/-- A unit (R410 to R421). -/
structure UnitS where
  /-- st: UNIT_STATE; 8 bits; 16 R410; ACTIVE -/
  st       : UnitSt := .active
  /-- cause: cause of the last change; 8 bits; 16 R414; 0 -/
  cause    : Nat := 0
  /-- since: device time of the last change; 64 bits; 16 R414; 0 -/
  since    : Nat := 0
  /-- busy: BUSY of UNIT_CMD_RESULT; 1 bit; 16 R414; 0 -/
  busy     : Bool := false
  /-- after, status: state after the command and its status; 16 bits; 16 R414; 0 -/
  after    : Nat := 0
  status   : Nat := 0
  /-- toActive: a RETURNING unit goes to ACTIVE (false: POWER_ON, to SERVICE); 16 R411; 0 -/
  toActive : Bool := false
  /-- tested: the self-test of its visit or of its POWER_ON has passed; 16 R411, R416; 0 -/
  tested   : Bool := false
  /-- held: out of ACTIVE by command; 16 R413, R415; 0 -/
  held     : Bool := false
  /-- used: spare engines used by kind; 16 R420; 0 -/
  used     : Map Nat := []
  /-- cells: substitutions by spare cells, which the spare cells left, per mille, follow from; 16 R414, R420; 0 -/
  cells    : Nat := 0
  /-- degraded: degraded; 1 bit; 16 R414, R420; 0 -/
  degraded : Bool := false
  /-- stFail: self-test failed; 1 bit; 16 R414; 0 -/
  stFail   : Bool := false
  /-- corrected, deferred, fatal: fault counts; 64, 64 and 32 bits; 16 R414; 0 -/
  corrected : Nat := 0
  deferred : Nat := 0
  fatal    : Nat := 0
  /-- visits: rotation visits done; 32 bits; 16 R414; 0 -/
  visits   : Nat := 0
  /-- lastVisit: device time of the last visit; 64 bits; 16 R414; 0 -/
  lastVisit : Nat := 0
  /-- recent: device times of the corrected faults of each engine or cell in the last 24 h; 16 R420; none -/
  recent   : Map (List Nat) := []
deriving DecidableEq, Repr

/-- The rotation of a half (R415, R416). -/
structure Rotation where
  /-- next: index of the unit whose visit is next; 16 R415; 0 -/
  next   : Nat := 0
  /-- unit: unit in a visit; 16 R415, R436; none -/
  unit   : Option Nat := none
  /-- engine: an engine-level visit runs; 1 bit; 16 R436; 0 -/
  engine : Bool := false
  /-- began: device time the visit began; 64 bits; 16 R436; 0 -/
  began  : Nat := 0
deriving DecidableEq, Repr

/-- A half's event log (R427, R428). -/
structure Log where
  /-- recs: records, newest first, at most 1,024; 64 bytes each; 16 R427; none -/
  recs    : List EventRec := []
  /-- next: next SEQ; 64 bits; 16 R425; 1 -/
  next    : Nat := 1
  /-- lost: records overwritten; 32 bits; 16 R428; 0 -/
  lost    : Nat := 0
  /-- acked: acknowledged SEQ; 64 bits; 16 R427, R428; 0 -/
  acked   : Nat := 0
deriving DecidableEq, Repr

/-- A half's custody view (R432, R433). -/
structure Custody where
  /-- holds: this half holds custody; 1 bit; 16 R435; by half -/
  holds     : Bool := false
  /-- grantTime: device time of the last grant; 64 bits; 16 R435; 0 -/
  grantTime : Nat := 0
  /-- divergent: divergent changes in order: index, subindex, and for a classification item its code and entry; 16 R432, R434; none -/
  divergent : List (Nat × Nat × Nat) := []
deriving DecidableEq, Repr

/-- CSTL_STATE (R435). -/
inductive CstlSt where
  | joined
  | degraded
  | split
  | rejoining
deriving DecidableEq, Repr

/-- The castling links (R430 to R435). -/
structure Castling where
  /-- groups: link groups in service; 4 bits; 16 R430, R435; 15 -/
  groups    : BitVec 4 := 15
  /-- split: the halves are split; 16 R430; 0 -/
  split     : Bool := false
  /-- primary: PRIMARY; 8 bits; 01 R18, 16 R435; K -/
  primary   : Half := .k
  /-- splitTime: SPLIT_TIME; 64 bits; 16 R435; 0 -/
  splitTime : Nat := 0
  /-- discarded: DISCARDED; 32 bits; 16 R435; 0 -/
  discarded : Nat := 0
  /-- before: the slices as they were at the split, to which a losing half's divergent changes return; 16 R434; none -/
  before    : Map Slice := []
deriving DecidableEq, Repr

/-- A half. -/
structure HalfSt where
  /-- gov: governor, rail, temperature and timebase; 01, 17 -/
  gov      : Governor := {}
  /-- cls: classification; 07 -/
  cls      : Cls := {}
  /-- tmgr: traffic manager and policers; 08 -/
  tmgr     : Tmgr := {}
  /-- cipher: cipher unit and key store; 10 -/
  cipher   : Cipher := {}
  /-- rdma: RDMA transport; 11 -/
  rdma     : Rdma := {}
  /-- units: the 17 units by index; 16 R410; ACTIVE -/
  units    : Map UnitS := []
  /-- rot: rotation; 16 R415 -/
  rot      : Rotation := {}
  /-- log: event log; 16 R427 -/
  log      : Log := {}
  /-- cust: custody; 16 R433 -/
  cust     : Custody := {}
  /-- stopped: the half is stopped; 1 bit; 16 R422, R436; 0 -/
  stopped  : Bool := false
  /-- alive: the alive count its heartbeats carry; 16 R430; DESIGN CHOICE 0 (log 1) -/
  alive    : Nat := 0
  /-- supvFails: device times of its SUPV's failures within the last hour; 16 R424; none -/
  supvFails : List Nat := []
  /-- supvUp: its SUPV runs (false while it restarts under R424 or R374); 16 R424; 1 -/
  supvUp   : Bool := true
deriving DecidableEq, Repr

/-! ### The device -/

/-- The whole state of the device, and the model's own `out`, `fresh` and `pending`. -/
structure State where
  /-- board: board inputs and start-up; 17, 14 -/
  board   : Board := {}
  /-- nv: fuses, flash and the on-package store; 14, 15 -/
  nv      : NonVol
  /-- trust: image load, trial and handover; 14 -/
  trust   : Trust := {}
  /-- mgmt: sessions, parameters, loads and transports; 15 -/
  mgmt    : Mgmt := {}
  /-- cstl: castling links; 16 -/
  cstl    : Castling := {}
  /-- k, q: the two halves; 01 R12; custody on K (16 R435) -/
  k       : HalfSt := { cust := { holds := true } }
  q       : HalfSt := {}
  /-- ports: the host ports P0 to P3; 02 R37; as reset -/
  ports   : Map Port := []
  /-- fns: functions by port × 1,024 + function number; 02 R42; as reset -/
  fns     : Map Fn := []
  /-- slices: slices by slice ID; 4,096; 03 R68; FREE -/
  slices  : Map Slice := []
  /-- wqs: work queues by half × 65,536 + pool entry, at PF1's own and the slices' entries; 04 R97; as reset -/
  wqs     : Map Wq := []
  /-- cqs: completion queues by (half × 3 + kind) × 65,536 + entry, kind 0 network, 1 storage, 2 copy; 04 R99; as reset -/
  cqs     : Map Cq := []
  /-- chans: copy channels by port × 64 + channel; 256; 05 R123; as reset -/
  chans   : Map Chan := []
  /-- arbs: arbiters by kind × 256 + number; 05 R136; no request -/
  arbs    : Map Arb := []
  /-- eth: Ethernet ports E0 to E15; 06; as reset -/
  eth     : Map Eth := []
  /-- nibs: NIB units, K.NIB0 to Q.NIB3 as 0 to 7; 09; as reset -/
  nibs    : Map Nib := []
  /-- storage: the storage engine; 12 -/
  storage : Storage := {}
  /-- mem: the memory channels; 13 -/
  mem     : Mem := {}
  /-- stat: the U64 counter objects by index × 256 + subindex; 64 bits each; 02 R49 and each chapter; 0 -/
  stat    : Map Nat := []
  /-- sliceCnt: SLICE_COUNTERS by slice × 32 + half × 16 + counter; 64 bits each; 03 R86; 0 -/
  sliceCnt : Map Nat := []
  /-- pfCnt: FOREIGN_FRAME by port × 16 + PF; 64 bits each; 03 R86; 0 -/
  pfCnt   : Map Nat := []
  /-- out: what the device has sent, newest first; the model's own; DESIGN CHOICE empty (log 6) -/
  out     : List Output := []
  /-- fresh: number of free values taken; the model's own; DESIGN CHOICE 0 (log 8) -/
  fresh   : Nat := 0
  /-- pending: the commands that wait, first in, first out; the model's own; empty (log 4) -/
  pending : List Instr := []
deriving DecidableEq, Repr

/-- Why the model stops. -/
inductive Fault where
  /-- Raised by VIN_RISE and VIN_DIP: VIN beyond the absolute maximum of R447 (−0.3 to 15.0 V), which may damage the
  device, and for which the spec gives no effect. Safe: nothing is claimed of the device afterwards. -/
  | beyondAbsoluteMaximum
deriving DecidableEq, Repr

/-- Why a command has no meaning. -/
inductive Refusal where
  /-- Raised by the dispatch for a command that has no meaning yet. Safe: nothing is claimed. -/
  | notModelled (mnemonic : String)
deriving DecidableEq, Repr

/-- The device with PORn asserted, VIN at 12 V and nothing loaded beyond what the factory programs (R363, log 2). -/
def State.reset : State :=
  { nv := { keySlots := [(0, { hash := Config.factoryKeyHash 0, usage := 1 }),
                         (1, { hash := Config.factoryKeyHash 1, usage := 1 })] } }

end Sys2Proof.Machine
end

