-- ==== Sys2Proof/Machine/Operands.lean ====
section
/-! DEFINITION. Bit fields, byte orders, checksums, and the tables with number keys. -/

namespace Sys2Proof.Machine
open Sys2Proof

/-! ### Tables with number keys -/

/-- The value at a key, or the default of the table. -/
def mget {α : Type} (m : Map α) (k : Nat) (d : α) : α :=
  match m with
  | [] => d
  | (k', v) :: rest => if k' = k then v else mget rest k d

/-- The entry at a key, if one is listed. -/
def mfind {α : Type} (m : Map α) (k : Nat) : Option α :=
  match m with
  | [] => none
  | (k', v) :: rest => if k' = k then some v else mfind rest k

/-- The table without an entry at a key. -/
def merase {α : Type} (m : Map α) (k : Nat) : Map α :=
  match m with
  | [] => []
  | (k', v) :: rest => if k' = k then merase rest k else (k', v) :: merase rest k

/-- The table with an entry put at its place in the rising order of keys. -/
def mput {α : Type} (m : Map α) (k : Nat) (v : α) : Map α :=
  match m with
  | [] => [(k, v)]
  | (k', v') :: rest =>
    if k < k' then (k, v) :: (k', v') :: rest
    else if k = k' then (k, v) :: rest
    else (k', v') :: mput rest k v

/-- The table with a value at a key, in canonical form: a value equal to the default `d` is not listed. -/
def mset {α : Type} [DecidableEq α] (m : Map α) (k : Nat) (v d : α) : Map α :=
  if v = d then merase m k else mput m k v

/-- The keys of a table rise strictly. -/
def Map.sorted {α : Type} (m : Map α) : Prop := (m.map Prod.fst).Pairwise (· < ·)

/-- Every value of a table, mapped. -/
def mmap {α β : Type} (f : Nat → α → β) (m : Map α) : Map β := m.map fun e => (e.1, f e.1 e.2)

/-- A byte memory in canonical form: addresses strictly rising, and no byte listed that an unlisted address reads as. -/
def Memory.wf (m : Map Byte) : Bool :=
  (m.map Prod.fst).Pairwise (· < ·) && m.all fun e => e.2 != 0

/-! ### Bit fields and byte orders -/

/-- The field of `w` bits from bit `lo` of a word. -/
def fld {n : Nat} (v : BitVec n) (lo w : Nat) : Nat := v.toNat / 2 ^ lo % 2 ^ w

/-- Bit `i` of a word. -/
def bit {n : Nat} (v : BitVec n) (i : Nat) : Bool := v.getLsbD i

/-- A word with the field of `w` bits from bit `lo` replaced. -/
def setFld {n : Nat} (v : BitVec n) (lo w x : Nat) : BitVec n :=
  BitVec.ofNat n (v.toNat - v.toNat / 2 ^ lo % 2 ^ w * 2 ^ lo + x % 2 ^ w * 2 ^ lo)

/-- 1 for true, 0 for false. -/
def b2n (b : Bool) : Nat := if b then 1 else 0

/-- Bytes, little-endian, as a number (00 Notation: structures in host memory). -/
def leNat (bs : List Byte) : Nat := bs.foldr (fun b a => b.toNat + 256 * a) 0

/-- Bytes, big-endian, as a number (00 Notation: network fields). -/
def beNat (bs : List Byte) : Nat := bs.foldl (fun a b => a * 256 + b.toNat) 0

/-- A number as `len` bytes, little-endian. -/
def leBytes (len v : Nat) : List Byte :=
  match len with
  | 0 => []
  | k + 1 => BitVec.ofNat 8 v :: leBytes k (v / 256)

/-- A number as `len` bytes, big-endian. -/
def beBytes (len v : Nat) : List Byte := (leBytes len v).reverse

/-- The `len` bytes from offset `off`; bytes at or beyond the end read 0. -/
def slice (bs : List Byte) (off len : Nat) : List Byte :=
  (List.range len).map fun i => bs.getD (off + i) 0

/-- The big-endian number in `len` bytes from offset `off`. -/
def beAt (bs : List Byte) (off len : Nat) : Nat := beNat (slice bs off len)

/-- The little-endian number in `len` bytes from offset `off`. -/
def leAt (bs : List Byte) (off len : Nat) : Nat := leNat (slice bs off len)

/-- The bytes with `new` written over them from offset `off`, the length unchanged. -/
def patch (bs : List Byte) (off : Nat) (new : List Byte) : List Byte :=
  bs.mapIdx fun i b => if off ≤ i ∧ i < off + new.length then new.getD (i - off) b else b

/-- The value of an unsigned field of `w` bits as two's complement. -/
def signed (w v : Nat) : Int := if v < 2 ^ (w - 1) then v else (v : Int) - 2 ^ w

/-- A two's complement number as an unsigned field of `w` bits. -/
def unsigned (w : Nat) (v : Int) : Nat := (v % 2 ^ w).toNat

/-- A saturating register of 31 bits, raised by one (R45, R97 and the other IGNORED and MALFORMED counters). -/
def sat31 (n : Nat) : Nat := if n < 2147483647 then n + 1 else 2147483647

/-! ### Checksums -/

/-- One bit of CRC-32C (reflected polynomial 0x82F63B78). -/
def crcBit (c : BitVec 32) : BitVec 32 := if c.getLsbD 0 then (c >>> 1) ^^^ 0x82F63B78#32 else c >>> 1

/-- One byte into a CRC-32C register. -/
def crcByte (c : BitVec 32) (b : Byte) : BitVec 32 :=
  crcBit (crcBit (crcBit (crcBit (crcBit (crcBit (crcBit (crcBit (c ^^^ b.zeroExtend 32))))))))

/-- Bytes into a CRC-32C register, the first byte first. -/
def crcUpdate (c : BitVec 32) (bs : List Byte) : BitVec 32 := bs.foldl crcByte c

/-- CRC-32C of bytes (R370, R391, R405). -/
def crc32c (bs : List Byte) : BitVec 32 := ~~~ crcUpdate 0xFFFFFFFF#32 bs

/-- The ones' complement sum of the 16-bit words of bytes, an odd last byte padded with zero. -/
def onesSum (bs : List Byte) : Nat :=
  match bs with
  | [] => 0
  | [a] => a.toNat * 256
  | a :: b :: rest =>
    let t := a.toNat * 256 + b.toNat + onesSum rest
    if t < 65536 then t else t - 65535

/-- The internet checksum of bytes. -/
def inetSum (bs : List Byte) : Nat := 65535 - onesSum bs

/-! ### 16-bit ring indexes (R89, R90) -/

/-- The distance from index `a` forward to index `b`, modulo 65,536. -/
def dist (a b : BitVec 16) : Nat := (b - a).toNat

/-- The first free number, if any, below `n`. -/
def firstFree (n : Nat) (used : Nat → Bool) : Option Nat := (List.range n).find? fun i => !used i

/-! ### Halves, ports and units -/

/-- The half that holds a host port: P0 and P1 on K, P2 and P3 on Q (00 Names). -/
def portHalf (p : Nat) : Half := if p < 2 then .k else .q

/-- The half that holds an Ethernet port: E0 to E7 on K (00 Names). -/
def ethHalf (n : Nat) : Half := if n < 8 then .k else .q

/-- The half that holds a NIB unit, K.NIB0 to Q.NIB3 numbered 0 to 7. -/
def nibHalf (u : Nat) : Half := if u < 4 then .k else .q

/-- The half that holds a DRAM channel: C0 to C3 on K (00 Names). -/
def chanHalf (c : Nat) : Half := if c < 4 then .k else .q

/-- A half by its number, 0 K. -/
def halfOf (n : Nat) : Half := if n = 0 then .k else .q

/-- A unit ID: half × 0x20 + index (R15). -/
def unitId (h : Half) (i : Nat) : Nat := h.num * 32 + i

/-- The halves of a halves mask, bit 0 K, bit 1 Q. -/
def inMask (mask : Nat) (h : Half) : Bool := mask / 2 ^ h.num % 2 = 1

/-- The key of a function. -/
def fnKey (p n : Nat) : Nat := p * 1024 + n

/-- The key of a function reference. -/
def fkey (f : FnRef) : Nat := fnKey f.port f.num

/-- The PF of a function number: VFs 4 to 259 are of PF1, 260 to 515 of PF2 (R42). -/
def fnPf (n : Nat) : Nat := if n < 4 then n else if n < 260 then 1 else 2

/-- The host port of a function's key. -/
def keyPort (k : Nat) : Nat := k / 1024

/-- The function number of a function's key. -/
def keyNum (k : Nat) : Nat := k % 1024

/-- The key of an object with a selection: the index, the subindex, and the selected item. -/
def okey (index sub sel : Nat) : Nat := (index * 256 + sub) * 1048576 + sel

end Sys2Proof.Machine
end

