-- ==== Sys2Proof/Machine/Ops.lean ====
section
/-! DEFINITION. The operations over the state that many commands share. -/

namespace Sys2Proof.Machine
open Sys2Proof

/-- An outcome of the block's commands. -/
abbrev Out := Host.Outcome State Fault Refusal

/-! ### Halves, time, outputs -/

/-- A half of the device. -/
def State.half (s : State) (h : Half) : HalfSt :=
  match h with
  | .k => s.k
  | .q => s.q

/-- The device with a half replaced. -/
def State.setHalf (s : State) (h : Half) (x : HalfSt) : State :=
  match h with
  | .k => { s with k := x }
  | .q => { s with q := x }

/-- The device with a half changed. -/
def State.onHalf (s : State) (h : Half) (f : HalfSt → HalfSt) : State := s.setHalf h (f (s.half h))

/-- The device with both halves changed. -/
def State.onBoth (s : State) (f : HalfSt → HalfSt) : State := { s with k := f s.k, q := f s.q }

/-- The device time a half keeps (R32). -/
def State.time (s : State) (h : Half) : Nat := (s.half h).gov.time

/-- The device time of the primary's half (R32). -/
def State.now (s : State) : Nat := s.time s.cstl.primary

/-- Some time passes: both counts advance by as much (R30, R32; log 5). -/
def State.elapse (s : State) (d : Nat) : State :=
  s.onBoth fun x => { x with gov := { x.gov with time := x.gov.time + d } }

/-- Time passes until a half's count reaches `t`; nothing where it has (log 5). -/
def State.until (s : State) (h : Half) (t : Nat) : State := s.elapse (t - s.time h)

/-- Something is sent (log 6). -/
def State.emit (s : State) (o : Output) : State := { s with out := o :: s.out }

/-- The next free value is taken (log 8). -/
def State.fresher (s : State) : State := { s with fresh := s.fresh + 1 }

/-- The outputs are not gated: the payload hash has matched (R367). -/
def State.running (s : State) : Bool := s.board.boot = .running

/-- A counter of the statistics range, raised (R49). -/
def State.count (s : State) (index sub n : Nat) : State :=
  let k := index * 256 + sub
  { s with stat := mset s.stat k (mget s.stat k 0 + n) 0 }

/-- A counter of the pair of objects `index` (K) and `index + 1` (Q), raised. -/
def State.countH (s : State) (index : Nat) (h : Half) (sub n : Nat) : State := s.count (index + h.num) sub n

/-- A counter of a slice (R86), raised by an event on a half. -/
def State.countSlice (s : State) (h : Half) (id c n : Nat) : State :=
  let k := id * 32 + h.num * 16 + c
  if id < 4096 then { s with sliceCnt := mset s.sliceCnt k (mget s.sliceCnt k 0 + n) 0 } else s

/-- Every counter of an index is cleared. -/
def State.clearIndex (s : State) (index : Nat) : State :=
  { s with stat := s.stat.filter fun e => e.1 / 256 != index }

/-! ### Parameters (R385, R390, R432) -/

/-- The values a half holds of the RW and RWP objects. -/
def State.params (s : State) (h : Half) : Map Nat :=
  match h with
  | .k => s.mgmt.paramsK
  | .q => s.mgmt.paramsQ

/-- The value of an object on a half, `d` where none has been set. -/
def State.param (s : State) (h : Half) (index sub sel d : Nat) : Nat := mget (s.params h) (okey index sub sel) d

/-- A value set on a half. -/
def State.setParam (s : State) (h : Half) (index sub sel v : Nat) : State :=
  match h with
  | .k => { s with mgmt := { s.mgmt with paramsK := mput s.mgmt.paramsK (okey index sub sel) v } }
  | .q => { s with mgmt := { s.mgmt with paramsQ := mput s.mgmt.paramsQ (okey index sub sel) v } }

/-- A value set where the request is served: on both halves while they are joined, on the serving half during a split
(R431, R432). -/
def State.setParams (s : State) (h : Half) (index sub sel v : Nat) : State :=
  if s.cstl.split then s.setParam h index sub sel v
  else (s.setParam .k index sub sel v).setParam .q index sub sel v

/-! ### Units (R410) -/

/-- A unit of a half. -/
def State.unit (s : State) (h : Half) (i : Nat) : UnitS := mget (s.half h).units i {}

/-- A unit replaced. -/
def State.setUnit (s : State) (h : Half) (i : Nat) (u : UnitS) : State :=
  s.onHalf h fun x => { x with units := mset x.units i u {} }

/-- A unit carries load: ACTIVE (R410). -/
def State.active (s : State) (h : Half) (i : Nat) : Bool := (s.unit h i).st = .active

/-- A unit has power (R410). -/
def State.powered (s : State) (h : Half) (i : Nat) : Bool :=
  (s.unit h i).st != .off && (s.unit h i).st != .failed

/-- A unit does work in hand: ACTIVE or DRAINING (R410). -/
def State.works (s : State) (h : Half) (i : Nat) : Bool :=
  (s.unit h i).st = .active || (s.unit h i).st = .draining

/-- A half forwards frames and starts work: it is not stopped, and TBL, TMGR and XPORT are ACTIVE (R412, R422). -/
def State.forwards (s : State) (h : Half) : Bool :=
  s.running && !(s.half h).stopped && s.active h 7 && s.active h 8 && s.active h 10

/-! ### The parameter store's own writes (R390, R391) -/

/-- Copy 1 is in force: it is valid, and copy 0 is not or has a lower generation (R391). -/
def NonVol.second (n : NonVol) : Bool := n.copy1.valid && (!n.copy0.valid || n.copy0.gen < n.copy1.gen)

/-- The store in force. -/
def NonVol.store (n : NonVol) : StoreCopy := if n.second then n.copy1 else n.copy0

/-- A write of the device's own: the other copy is written with the next generation. While a commit runs, the copy in
force and the one being written take the change (log 14). -/
def State.ownWrite (s : State) (f : StoreCopy → StoreCopy) : State :=
  match s.mgmt.storeNext with
  | some c =>
    { s with
      mgmt := { s.mgmt with storeNext := some (f c) }
      nv := if s.nv.second then { s.nv with copy1 := f s.nv.copy1 } else { s.nv with copy0 := f s.nv.copy0 } }
  | none =>
    let c := { f s.nv.store with gen := s.nv.store.gen + 1, valid := true }
    { s with nv := if s.nv.second then { s.nv with copy0 := c } else { s.nv with copy1 := c } }

/-! ### Events (R425 to R427) -/

/-- The half whose log takes an event of a unit ID: a unit's own half, and the primary's for the device (R427). -/
def State.logHalf (s : State) (unit : Nat) : Half :=
  if unit = 255 then s.cstl.primary else if unit < 32 then .k else .q

/-- The last 32 records of classes 3 and 4 (R427). -/
def keepFatal (r : EventRec) (l : List EventRec) : List EventRec := (r :: l).take 32

/-- The log with a record added or merged: a record of the same CODE, UNIT, SLICE and DETAIL written within the previous
1 ms takes it into its COUNT; else the record enters, and of more than 1,024 the oldest goes (R427). -/
def Log.append (l : Log) (r : EventRec) : Log :=
  match l.recs.find? (fun e => e.code = r.code ∧ e.unit = r.unit ∧ e.slice = r.slice ∧ e.detail = r.detail
      ∧ r.time ≤ e.time + 1000000) with
  | some e =>
    { l with recs := l.recs.map fun x => if x = e then { x with count := Nat.min (x.count + 1) 255 } else x }
  | none =>
    { l with
      recs := ({ r with seq := l.next } :: l.recs).take 1024
      next := l.next + 1
      lost := if l.recs.length < 1024 then l.lost else l.lost + 1 }

/-- An event is logged on a half (R425, R427); for a class 3 or 4 record its persistent copy and the UART line (R446). -/
def State.logOn (s : State) (h : Half) (code cls unit sl action detail : Nat) : State :=
  let r : EventRec := { time := s.time h, seq := (s.half h).log.next, code := code, cls := cls, unit := unit, slice := sl,
                        action := action, count := 1, epoch := s.nv.store.epoch, detail := detail }
  let s1 := s.onHalf h fun x => { x with log := x.log.append r }
  if cls < 3 then s1
  else
    let s2 := s1.ownWrite fun c =>
      match h with
      | .k => { c with fatalK := keepFatal r c.fatalK }
      | .q => { c with fatalQ := keepFatal r c.fatalQ }
    s2.emit (.uart h code)

/-- An event of a unit or of the device, in the log of R427, without a slice. -/
def State.log (s : State) (code cls unit action detail : Nat) : State :=
  s.logOn (s.logHalf unit) code cls unit 65535 action detail

/-- ALERT of a half is asserted: its log holds a record of class 3 or 4 above the acknowledged sequence (R427). -/
def State.alert (s : State) (h : Half) : Bool :=
  (s.half h).log.recs.any fun r => r.cls ≥ 3 && r.seq > (s.half h).log.acked

/-! ### Host ports and functions -/

/-- A host port. -/
def State.port (s : State) (p : Nat) : Port := mget s.ports p {}

/-- A host port replaced. -/
def State.setPort (s : State) (p : Nat) (x : Port) : State := { s with ports := mset s.ports p x {} }

/-- A function, by its key. -/
def State.fn (s : State) (k : Nat) : Fn := mget s.fns k {}

/-- A function replaced. -/
def State.setFn (s : State) (k : Nat) (x : Fn) : State := { s with fns := mset s.fns k x {} }

/-- A slice. -/
def State.slice (s : State) (id : Nat) : Slice := mget s.slices id {}

/-- A slice replaced. -/
def State.setSlice (s : State) (id : Nat) (x : Slice) : State := { s with slices := mset s.slices id x {} }

/-- An Ethernet port. -/
def State.ethPort (s : State) (n : Nat) : Eth := mget s.eth n {}

/-- An Ethernet port replaced. -/
def State.setEth (s : State) (n : Nat) (x : Eth) : State := { s with eth := mset s.eth n x {} }

/-- A NIB unit, K.NIB0 to Q.NIB3 as 0 to 7. -/
def State.nib (s : State) (u : Nat) : Nib := mget s.nibs u {}

/-- A NIB unit replaced. -/
def State.setNib (s : State) (u : Nat) (x : Nib) : State := { s with nibs := mset s.nibs u x {} }

/-- A work queue, by its key. -/
def State.wq (s : State) (k : Nat) : Wq := mget s.wqs k {}

/-- A work queue replaced. -/
def State.setWq (s : State) (k : Nat) (x : Wq) : State := { s with wqs := mset s.wqs k x {} }

/-- A completion queue, by its key. -/
def State.cq (s : State) (k : Nat) : Cq := mget s.cqs k {}

/-- A completion queue replaced. -/
def State.setCq (s : State) (k : Nat) (x : Cq) : State := { s with cqs := mset s.cqs k x {} }

/-- A copy channel, by its key. -/
def State.chan (s : State) (k : Nat) : Chan := mget s.chans k {}

/-- A copy channel replaced. -/
def State.setChan (s : State) (k : Nat) (x : Chan) : State := { s with chans := mset s.chans k x {} }

/-- A storage queue, by its key. -/
def State.stq (s : State) (k : Nat) : Stq := mget s.storage.stqs k {}

/-- A storage queue replaced. -/
def State.setStq (s : State) (k : Nat) (x : Stq) : State :=
  { s with storage := { s.storage with stqs := mset s.storage.stqs k x {} } }

/-- A queue pair of a half, by its pool entry. -/
def State.qp (s : State) (h : Half) (i : Nat) : Qp := mget (s.half h).rdma.qps i {}

/-- A queue pair replaced. -/
def State.setQp (s : State) (h : Half) (i : Nat) (x : Qp) : State :=
  s.onHalf h fun y => { y with rdma := { y.rdma with qps := mset y.rdma.qps i x {} } }

/-- A namespace. -/
def State.ns (s : State) (id : Nat) : Ns := mget s.storage.nss id {}

/-- A namespace replaced. -/
def State.setNs (s : State) (id : Nat) (x : Ns) : State :=
  { s with storage := { s.storage with nss := mset s.storage.nss id x {} } }

/-- A DRAM channel. -/
def State.dram (s : State) (c : Nat) : Dram := mget s.mem.chans c {}

/-- A DRAM channel replaced. -/
def State.setDram (s : State) (c : Nat) (x : Dram) : State :=
  { s with mem := { s.mem with chans := mset s.mem.chans c x {} } }

end Sys2Proof.Machine
end

