-- ==== Sys2Proof/Machine/Clock.lean ====
section
/-! DEFINITION. The timebase between commands (01 R30 to R32; log 4). -/

namespace Sys2Proof.Machine
open Sys2Proof

/-- 500 ppm of a REFCLK cycle of 10 ns, in 2^-32 ns (R31). -/
def slewLimit : Int := 21474836

/-- What a slew adds in one cycle: the whole of it, or 500 ppm of the cycle (R31). -/
def slewStep (slew : Int) : Int :=
  if slewLimit < slew then slewLimit else if slew < -slewLimit then -slewLimit else slew

/-- One REFCLK cycle of a half's count: 10 ns, the rate correction and the slew (R30, R31). -/
def Governor.tick (g : Governor) : Governor :=
  let d := slewStep g.slew
  let n := g.frac + (10 * 4294967296 + g.rate + d).toNat
  { g with time := g.time + n / 4294967296, frac := n % 4294967296, slew := g.slew - d }

/-- One REFCLK cycle: both halves count; nothing does while PORn is asserted (R30, R32). -/
def State.tick (s : State) : State :=
  if s.board.boot = .inReset then s else s.onBoth fun x => { x with gov := x.gov.tick }

end Sys2Proof.Machine
end

