-- ==== Sys2Proof/Machine/Flags.lean ====
section
/-! DEFINITION. Status images: the codes and bits that registers, objects and records show of the state. -/

namespace Sys2Proof.Machine
open Sys2Proof

/-! ### Status codes of completions (R113) -/

def stOk : Nat := 0x00
def stAborted : Nat := 0x01
def stFlushed : Nat := 0x02
def stMalformed : Nat := 0x03
def stHostFault : Nat := 0x04
def stChainLimit : Nat := 0x05
def stDisabled : Nat := 0x06
def stMasterOff : Nat := 0x07
def stAccess : Nat := 0x08
def stQuota : Nat := 0x09
def stMedia : Nat := 0x0A
def stIntegrity : Nat := 0x0B
def stOtherHalf : Nat := 0x0C
def stNonceExhausted : Nat := 0x0D
def stMismatch : Nat := 0x0E
def stRemote : Nat := 0x0F
def stRetryExceeded : Nat := 0x10
def stFrozen : Nat := 0x11
def stRange : Nat := 0x12
def stNotFound : Nat := 0x13

/-! ### Response statuses of the dictionary (R387) -/

def rsOk : Nat := 0x00
def rsNotFound : Nat := 0x01
def rsRefused : Nat := 0x02
def rsBusy : Nat := 0x03
def rsDenied : Nat := 0x04
def rsMalformed : Nat := 0x05
def rsStale : Nat := 0x06

/-! ### State codes -/

/-- STATE of a WQ or channel (R97, R123). -/
def QSt.code : QSt → Nat
  | .disabled => 0
  | .running => 1
  | .draining => 2
  | .masterOff => 3
  | .fetchFault => 4

/-- The code of a slice state (R74). -/
def SliceSt.code : SliceSt → Nat
  | .free => 0
  | .disabled => 1
  | .enabled => 2
  | .disabling => 3
  | .destroying => 4

/-- The code of a unit state (R410). -/
def UnitSt.code : UnitSt → Nat
  | .active => 0
  | .draining => 1
  | .service => 2
  | .off => 3
  | .failed => 4
  | .returning => 5

/-- CSTL_STATE (R435). A rejoin is one step, so no state between steps reads REJOINING (log 29). -/
def State.cstlState (s : State) : CstlSt :=
  if s.cstl.split then .split
  else if s.cstl.groups = 15#4 then .joined
  else .degraded

/-- The code of CSTL_STATE (R435). -/
def CstlSt.code : CstlSt → Nat
  | .joined => 0
  | .degraded => 1
  | .split => 2
  | .rejoining => 3

/-- Link groups in service (R435). -/
def State.groupCount (s : State) : Nat :=
  b2n (s.cstl.groups.getLsbD 0) + b2n (s.cstl.groups.getLsbD 1) + b2n (s.cstl.groups.getLsbD 2)
    + b2n (s.cstl.groups.getLsbD 3)

end Sys2Proof.Machine
end

