-- ==== Sys2Proof/Machine/Irq.lean ====
section
/-! DEFINITION. Slice records, queue ownership, interrupts, PME and fault summaries (02, 03, 04). -/

namespace Sys2Proof.Machine
open Sys2Proof

/-! ### The slice command record (R73) -/

def recOp (r : BitVec 512) : Nat := fld r 0 8
def recForm (r : BitVec 512) : Nat := fld r 8 8
def recId (r : BitVec 512) : Nat := fld r 16 16
def recPort (r : BitVec 512) : Nat := fld r 32 8
def recPf (r : BitVec 512) : Nat := fld r 40 8
def recVf (r : BitVec 512) : Nat := fld r 48 16
def recPasid (r : BitVec 512) : Nat := fld r 64 32
def recWqs (r : BitVec 512) : Nat := fld r 96 16
def recCqs (r : BitVec 512) : Nat := fld r 112 16
def recSqs (r : BitVec 512) : Nat := fld r 128 16
def recVectors (r : BitVec 512) : Nat := fld r 144 16
def recQps (r : BitVec 512) : Nat := fld r 160 32
def recWindows (r : BitVec 512) : Nat := fld r 192 32
def recPol (h : Half) (r : BitVec 512) : Nat := fld r (224 + 16 * h.num) 16
def recLeaf (h : Half) (r : BitVec 512) : Nat := fld r (256 + 16 * h.num) 16
def recSa (h : Half) (r : BitVec 512) : Nat := fld r (288 + 16 * h.num) 16
def recNs (r : BitVec 512) : Nat := fld r 320 16
/-- MIN_IRQ_US; 0 stands for 2 (R73). -/
def recMinIrq (r : BitVec 512) : Nat := if fld r 336 16 = 0 then 2 else fld r 336 16
def recHostMin (r : BitVec 512) : Nat := fld r 352 16
def recHostMax (r : BitVec 512) : Nat := fld r 368 16
def recWeight (r : BitVec 512) : Nat := fld r 384 8
def recBacking (r : BitVec 512) : Nat := fld r 392 8

/-- The function a slice is bound to: its VF, or the PF of a PASID-form slice (R68). -/
def recFn (r : BitVec 512) : Nat :=
  if recForm r = 0 then fnKey (recPort r) ((if recPf r = 1 then 4 else 260) + recVf r) else fnKey (recPort r) (recPf r)

/-- The home half of a slice (R70). -/
def recHome (r : BitVec 512) : Half := portHalf (recPort r)

/-- A slice that exists (R74). -/
def Slice.used (x : Slice) : Bool := x.st != .free

/-! ### Blocks (R72) -/

/-- The n-th entry counted through blocks in order (R72). -/
def blkNth (bs : List Blk) (n : Nat) : Option Nat :=
  match bs with
  | [] => none
  | b :: rest => if n < b.count then some (b.start + n) else blkNth rest (n - b.count)

/-- The place of a pool entry among blocks. -/
def blkPlace (bs : List Blk) (e : Nat) : Option Nat :=
  match bs with
  | [] => none
  | b :: rest =>
    if b.start ≤ e ∧ e < b.start + b.count then some (e - b.start) else (blkPlace rest e).map (· + b.count)

/-- Every pool entry of blocks, in order. -/
def blkAll (bs : List Blk) : List Nat := bs.flatMap fun b => (List.range b.count).map (b.start + ·)

/-- The blocks of a slice by kind: 0 work queues, 1 completion queues, 2 storage queues, 3 windows. -/
def Slice.blocks (x : Slice) (kind : Nat) : List Blk :=
  if kind = 0 then x.wqs else if kind = 1 then x.cqs else if kind = 2 then x.sqs else x.wins

/-- The slice that holds a pool entry of a half, 4,096 for none. -/
def State.holder (s : State) (h : Half) (kind e : Nat) : Nat :=
  match s.slices.find? fun x => x.2.used ∧ recHome x.2.record = h ∧ (blkPlace (x.2.blocks kind) e).isSome with
  | some x => x.1
  | none => 4096

/-- The slice bound to a VF, 4,096 for none (R42). -/
def State.vfSlice (s : State) (fk : Nat) : Nat :=
  match s.slices.find? fun x => x.2.used ∧ recForm x.2.record = 0 ∧ recFn x.2.record = fk with
  | some x => x.1
  | none => 4096

/-- What a frame number reached through a function's BAR0 names. -/
inductive Frm where
  /-- the pool entry, its slice (4,096 for the PF itself) and the entry's half -/
  | hit (h : Half) (entry sl : Nat)
  /-- a frame held neither by the PF nor by one of its PASID-form slices (R69) -/
  | foreign
  /-- no such frame -/
  | nothing
deriving DecidableEq, Repr

/-- Frames of a kind in a PF's BAR0 (R44). -/
def pfFrames (pf kind : Nat) : Nat :=
  if pf = 1 then (if kind = 0 then 65536 else if kind = 1 then 65536 else if kind = 3 then 131072 else 0)
  else if pf = 2 then (if kind = 1 then 4096 else if kind = 2 then 4096 else 0)
  else 0

/-- Frames of a kind in a VF's BAR0 (R44). -/
def vfFrames (pf kind : Nat) : Nat :=
  if pf = 1 then (if kind = 0 then 64 else if kind = 1 then 64 else if kind = 3 then 256 else 0)
  else (if kind = 1 then 16 else if kind = 2 then 16 else 0)

/-- What a frame number names, by the function, the kind of frame and the number (R44, R69, R72, R123): PF3 has the CQs of
its 64 channels, numbered by channel key. -/
def State.frame (s : State) (f : FnRef) (kind n : Nat) : Frm :=
  let h := portHalf f.port
  let pf := fnPf f.num
  if pf = 3 then (if kind = 1 ∧ n < 64 then .hit h (f.port.val * 64 + n) 4096 else .nothing)
  else if f.num.val < 4 then
    if n < pfFrames pf kind then
      let sl := s.holder h kind n
      if sl = 4096 then .hit h n 4096
      else
        let r := (s.slice sl).record
        if recForm r = 1 ∧ recPort r = f.port.val ∧ recPf r = pf then .hit h n sl else .foreign
    else .nothing
  else
    let sl := s.vfSlice (fkey f)
    if sl = 4096 then .nothing
    else if n < vfFrames pf kind then
      match blkNth ((s.slice sl).blocks kind) n with
      | some e => .hit h e sl
      | none => .nothing
    else .nothing

/-- A write to a foreign frame is ignored and counted (R69). -/
def State.foreign (s : State) (f : FnRef) : State :=
  let k := f.port.val * 16 + fnPf f.num
  { s with pfCnt := mset s.pfCnt k (mget s.pfCnt k 0 + 1) 0 }

/-- The number of a queue in its function or slice (R104): its place among the slice's, or the pool entry. -/
def State.number (s : State) (kind sl e : Nat) : Nat :=
  if sl < 4096 then (blkPlace ((s.slice sl).blocks kind) e).getD e else e

/-! ### The reach of a function -/

/-- A function is present below its port: the device runs, the port is an endpoint with its link up, a VF's VF Enable is
set, and no FLR is in progress (R41, R42, R63, R65, R367). -/
def State.present (s : State) (fk : Nat) : Bool :=
  s.running && !(s.port (keyPort fk)).root && (s.port (keyPort fk)).up && !(s.fn fk).flr
    && (keyNum fk < 4 || (s.fn (fnKey (keyPort fk) (fnPf (keyNum fk)))).vfEnable)

/-- An access to a function's BARs: in D3hot it completes with Unsupported Request; where the function is not present,
nothing comes of it (R58, R63). -/
def State.access (s : State) (fk : Nat) (f : State → State) : State :=
  if s.present fk = false then s
  else if (s.fn fk).d3 then s.emit .unsupportedRequest
  else f s

/-- A function may master the bus: BME is set, D0, no FLR, and its port is up (R58, R61, R63, R65). -/
def State.mastering (s : State) (fk : Nat) : Bool :=
  (s.fn fk).bme && !(s.fn fk).d3 && !(s.fn fk).flr && (s.port (keyPort fk)).up

/-- A slice may start work; the PF's own queues always may (R75, R83). -/
def State.sliceOn (s : State) (sl : Nat) : Bool := sl ≥ 4096 || (s.slice sl).st = .enabled

/-! ### Interrupts (R50 to R52, R77, R114 to R116) -/

/-- The MSI-X table entry of a vector of a function or slice (R51, R72). -/
def State.tableEntry (s : State) (sl v : Nat) : Nat :=
  if sl < 4096 ∧ recForm (s.slice sl).record = 1 then (s.slice sl).vec0 + v else v

/-- The vectors available (R51). -/
def State.vectorLimit (s : State) (fk sl : Nat) : Nat :=
  if sl < 4096 then recVectors (s.slice sl).record
  else if keyNum fk = 0 then 32 else if keyNum fk = 3 then 65 else 64

/-- A message leaves the function, and starts the slice's interval (R77). -/
def State.sendMsg (s : State) (fk sl v : Nat) : State :=
  let s1 := s.emit (.msg fk v)
  if sl < 4096 then s1.setSlice sl { s1.slice sl with lastMsg := some (s1.time (portHalf (keyPort fk))) } else s1

/-- An interrupt is held by the function (R50, R60, R61). -/
def State.holdIrq (s : State) (fk sl v : Nat) : State :=
  let f := s.fn fk
  if f.heldIrq.contains (sl, v) then s else s.setFn fk { f with heldIrq := f.heldIrq ++ [(sl, v)] }

/-- A vector is passed to the function: a message, a pending bit where it is masked, or held where neither mechanism is
enabled or the function may issue no request (R50 to R52, R61). -/
def State.passVector (s : State) (fk sl v : Nat) : State :=
  let f := s.fn fk
  if s.mastering fk = false then s.holdIrq fk sl v
  else if f.msix then
    let e := s.tableEntry sl v
    if f.fnMask ∨ mget f.unmasked e false = false then
      s.setFn fk { f with pba := mset f.pba e true false }
    else s.sendMsg fk sl e
  else if f.msi then
    let e := v % f.msiVectors
    if bit f.msiMask e then s.setFn fk { f with pba := mset f.pba e true false } else s.sendMsg fk sl e
  else s.holdIrq fk sl v

/-- The slice's interval runs: a message left less than MIN_IRQ_US ago (R77). -/
def State.interval (s : State) (fk sl : Nat) : Bool :=
  sl < 4096 &&
    match (s.slice sl).lastMsg with
    | none => false
    | some t => s.time (portHalf (keyPort fk)) < t + recMinIrq (s.slice sl).record * 1000

/-- A number put at its place in a rising list. -/
def insertNat (v : Nat) (l : List Nat) : List Nat :=
  match l with
  | [] => [v]
  | x :: rest => if v < x then v :: x :: rest else x :: insertNat v rest

/-- A vector is held for the end of the slice's interval (R77). -/
def State.holdVector (s : State) (sl v : Nat) : State :=
  let x := s.slice sl
  if x.heldVecs.contains v then s
  else s.setSlice sl { x with heldVecs := insertNat v x.heldVecs }

/-- A vector falls due: discarded beyond the vectors available, held by the slice's interval, or passed (R51, R77). -/
def State.vectorDue (s : State) (fk sl v : Nat) : State :=
  if s.vectorLimit fk sl ≤ v ∧ ¬ ((s.fn fk).msix = false ∧ (s.fn fk).msi = true) then s
  else if (s.fn fk).d3 ∧ (s.fn fk).pmeEn then (s.setFn fk { s.fn fk with pmeStatus := true }).emit (.pme fk)
  else if s.interval fk sl then s.holdVector sl v
  else s.passVector fk sl v

/-- A PME is sent and PME_Status set (R60). -/
def State.sendPme (s : State) (fk : Nat) : State :=
  (s.setFn fk { s.fn fk with pmeStatus := true }).emit (.pme fk)

/-- The vector of a CQ: the channel's own number for a copy channel's (R51, R123). -/
def cqVector (k : Nat) (c : Cq) : Nat := if k / 65536 % 3 = 2 then k % 64 else c.vector

/-- An interrupt of a CQ falls due (R114, R115): in D3hot it turns into a PME or is held (R60); while the slice's interval
runs it is held and stays due; else it is handed over and U returns to 0. -/
def State.cqDue (s : State) (k : Nat) : State :=
  let c := s.cq k
  let v := cqVector k c
  if (s.fn c.fn).d3 then
    if (s.fn c.fn).pmeEn then (s.setCq k { c with u := 0, due := false }).sendPme c.fn
    else s.setCq k { c with due := true }
  else if s.interval c.fn c.slice ∧ v < s.vectorLimit c.fn c.slice then
    (s.setCq k { c with due := true }).holdVector c.slice v
  else (s.setCq k { c with u := 0, due := false }).vectorDue c.fn c.slice v

/-- A completion has been written to a CQ: it counts toward U, and the interrupt may fall due (R114). -/
def State.blotter (s : State) (k : Nat) : State :=
  let c := s.cq k
  if c.irqEn then
    let c1 := { c with u := c.u + 1, t0 := if c.u = 0 then s.time (portHalf (keyPort c.fn)) else c.t0 }
    let s1 := s.setCq k c1
    if c1.due then s1
    else if Nat.max c1.modCount 1 ≤ c1.u ∨ c1.modTime = 0 then s1.cqDue k
    else s1
  else s

/-- The CQs of a slice that are due on a vector are handed over: their U returns to 0 (R115). -/
def State.handOver (s : State) (sl v : Nat) : State :=
  { s with cqs := mmap (fun _ c => if c.slice = sl ∧ c.due ∧ c.vector = v then { c with u := 0, due := false } else c) s.cqs }

/-- The vectors a slice holds are passed in ascending order, until a message leaves and the interval counts again (R77). -/
def State.passHeld (s : State) (fk sl : Nat) (vs : List Nat) : State :=
  match vs with
  | [] => s.setSlice sl { s.slice sl with heldVecs := [] }
  | v :: rest =>
    let s1 := (s.handOver sl v).passVector fk sl v
    if (s1.slice sl).lastMsg.isSome then s1.setSlice sl { s1.slice sl with heldVecs := rest }
    else s1.passHeld fk sl rest

/-! ### Fault summaries (R47, R126) -/

/-- A fault event of a function's queues: the summary bit is set, FAULT_QUEUE names the queue, and a bit that changes
from 0 to 1 with FAULT_IRQ_EN makes FAULT_VECTOR due (R47). -/
def State.raiseFault (s : State) (fk i kind n : Nat) : State :=
  let f := s.fn fk
  let s1 := s.setFn fk { f with faultSummary := f.faultSummary ||| BitVec.ofNat 4 (2 ^ i), faultKind := kind, faultNumber := n }
  if f.faultIrqEn ∧ bit f.faultSummary i = false then s1.vectorDue fk (s.vfSlice fk) f.faultVector.toNat else s1

/-- A copy channel's fault bit is set and vector 64 sent (R126). -/
def State.raiseCopyFault (s : State) (ch : Nat) : State :=
  let p := ch / 64
  let x := s.port p
  let s1 := s.setPort p { x with cpyFault := x.cpyFault ||| BitVec.ofNat 64 (2 ^ (ch % 64)) }
  s1.vectorDue (fnKey p 3) 4096 64

end Sys2Proof.Machine
end

