-- ==== Sys2Proof/Machine/Cq.lean ====
section
/-! DEFINITION. Completions: reservations, writes, aborts, and the end of a draining queue (04). Queues are named by one
number: work queues by their key, the send and receive queue of QP pool entry i of half h by
2^20 + 2 × (524,288 × h + i) and one more, copy channel c of port p by 2^22 + 64 × p + c, and storage queues by
2^23 + their key. -/

namespace Sys2Proof.Machine
open Sys2Proof

def qpBase : Nat := 1048576
def chanBase : Nat := 4194304
def stqBase : Nat := 8388608

/-- The key of the QP that a queue number of its send or receive queue names. -/
def qQp (q : Nat) : Nat := (q - qpBase) / 2

/-- The half that holds a storage queue, by its key: half × 4,096 + pool entry, or 8,192 + port for the admin queue of PF2. -/
def stqHalf (k : Nat) : Half := if k < 8192 then halfOf (k / 4096) else portHalf (k - 8192)

/-- The half that holds a queue. -/
def qHalf (q : Nat) : Half :=
  if q < qpBase then halfOf (q / 65536)
  else if q < chanBase then halfOf (qQp q / 524288)
  else if q < stqBase then portHalf ((q - chanBase) / 64)
  else stqHalf (q - stqBase)

/-- A work queue, or the send or receive queue of a QP. -/
def State.queue (s : State) (q : Nat) : Wq :=
  if q < qpBase then s.wq q
  else
    let x := s.qp (halfOf (qQp q / 524288)) (qQp q % 524288)
    if q % 2 = 0 then x.sq else x.rq

/-- A work queue, or the send or receive queue of a QP, replaced. -/
def State.setQueue (s : State) (q : Nat) (w : Wq) : State :=
  if q < qpBase then s.setWq q w
  else
    let h := halfOf (qQp q / 524288)
    let x := s.qp h (qQp q % 524288)
    s.setQp h (qQp q % 524288) (if q % 2 = 0 then { x with sq := w } else { x with rq := w })

/-- The key of a CQ by the half, the kind (0 network, 1 storage), the slice and the CQ's number in the function or slice. -/
def State.cqKey (s : State) (h : Half) (kind sl n : Nat) : Nat :=
  (h.num * 3 + kind) * 65536 + (if sl < 4096 then (blkNth (s.slice sl).cqs n).getD 65535 else n)

/-- The CQ a work queue is bound to. -/
def State.queueCq (s : State) (q : Nat) : Nat := s.cqKey (qHalf q) 0 (s.queue q).slice (s.queue q).cq.toNat

/-- The number of a queue in completions (R104): in the function or slice; for a QP its number there. -/
def State.queueNumber (s : State) (q : Nat) : Nat :=
  let w := s.queue q
  if q < qpBase then s.number 0 w.slice (q % 65536)
  else if w.slice < 4096 then qQp q % 524288 - (s.slice w.slice).qp0
  else qQp q % 524288

/-! ### Reservations (R108) -/

/-- The free slots of a CQ: its size, less TAIL − HEAD, less RESERVED (R108). -/
def Cq.free (c : Cq) : Nat := 2 ^ c.logSize - dist c.head c.tail - c.reserved

/-- A slot of a CQ can be reserved: it is enabled, not in CQ_FAULT, and has a free slot (R108, R112). -/
def Cq.ready (c : Cq) : Bool := c.enable && !c.faulted && 0 < c.free

/-- A slot is reserved. -/
def State.reserve (s : State) (k : Nat) : State := s.setCq k { s.cq k with reserved := (s.cq k).reserved + 1 }

/-- A start of a queue finds a slot at once: one can be reserved, and no other queue waits before it (R108). -/
def State.slotFor (s : State) (k q : Nat) : Bool :=
  (s.cq k).ready && match (s.cq k).waitq with
    | [] => true
    | x :: _ => x = q

/-- A start that finds no slot waits behind the queues that wait for the CQ, and is counted once (R108). -/
def State.waitSlot (s : State) (k q : Nat) : State :=
  let c := s.cq k
  if c.waitq.contains q then s
  else s.setCq k { c with waitq := c.waitq ++ [q], noslot := if c.ready then c.noslot else sat31 c.noslot }

/-- A start takes its slot, and no longer waits (R108). -/
def State.takeSlot (s : State) (k q : Nat) : State :=
  let c := s.cq k
  s.setCq k { c with reserved := c.reserved + 1, waitq := c.waitq.erase q }

/-! ### Writing a completion (R104, R105, R112) -/

/-- PHASE of the entry at an index: 1 on the first pass through the ring after enable (R105). -/
def cqPhase (c : Cq) : Bool := !c.tail.getLsbD c.logSize

/-- The open abort of a queue is closed: ABORT_BUSY returns to 0 (R119). -/
def State.closeAbort (s : State) (q : Nat) : State :=
  if q < chanBase then s.setQueue q { s.queue q with abort := none }
  else if q < stqBase then s.setChan (q - chanBase) { s.chan (q - chanBase) with abort := none }
  else s.setStq (q - stqBase) { s.stq (q - stqBase) with abort := none }

/-- A completion is written at TAIL and spends its reservation; the Blotter counts it (R105, R108, R114). -/
def State.writeCpl (s : State) (x : HeldCpl) : State :=
  let c := s.cq x.cq
  let s1 := s.setCq x.cq { c with tail := c.tail + 1, reserved := c.reserved - 1 }
  let s2 := (s1.emit (.cqe x.cq c.tail (cqPhase c) x.e (s.time (portHalf (keyPort c.fn))))).blotter x.cq
  if x.abort then s2.closeAbort x.queue else s2

/-- A completion enters the list a CQ in CQ_FAULT holds (R112). -/
def State.holdInCq (s : State) (x : HeldCpl) : State :=
  s.setCq x.cq { s.cq x.cq with heldCpl := (s.cq x.cq).heldCpl ++ [x] }

/-- A CQ enters CQ_FAULT: the event is logged and the summary bit set; a copy channel raises its fault bit
(R47, R112, R126). -/
def State.cqFault (s : State) (k : Nat) : State :=
  let c := s.cq k
  let h := halfOf (k / 65536 / 3)
  let p := keyPort c.fn
  let s1 := (s.setCq k { c with faulted := true }).logOn h 0x1004 2 (unitId h 10) (if c.slice < 4096 then c.slice else 65535) 0
    (p + 2 ^ 32 * (k % 65536))
  if k / 65536 % 3 = 2 then s1.raiseCopyFault (k % 65536)
  else s1.raiseFault c.fn 1 1 (s.number 1 c.slice (k % 65536))

/-- A completion that holds its reservation is produced: held while the function may not master the bus (R61), held by a
CQ in CQ_FAULT, put in CQ_FAULT where the write cannot be issued (R112), or written. -/
def State.produce (s : State) (x : HeldCpl) (canWrite : Bool) : State :=
  let c := s.cq x.cq
  if s.mastering c.fn = false then s.setFn c.fn { s.fn c.fn with held := (s.fn c.fn).held ++ [x] }
  else if c.faulted then s.holdInCq x
  else if canWrite then s.writeCpl x
  else (s.holdInCq x).cqFault x.cq

/-- The completions of a function that wait for a slot, in order: each is written once a slot of its CQ can be reserved
and none before it waits for the same CQ (R62, R108, R119). -/
def State.drainDue (s : State) (fk : Nat) (todo kept : List HeldCpl) : State :=
  match todo with
  | [] => s.setFn fk { s.fn fk with due := kept }
  | x :: rest =>
    if s.mastering fk ∧ (s.cq x.cq).ready ∧ ¬ kept.any (fun y => y.cq = x.cq) then
      ((s.reserve x.cq).produce x true).drainDue fk rest kept
    else s.drainDue fk rest (kept ++ [x])

/-- The completions a function still has to write are tried in order. -/
def State.tryDue (s : State) (fk : Nat) : State := s.drainDue fk (s.fn fk).due []

/-- A completion that takes an ordinary reservation of its own (R62, R119). -/
def State.pushDue (s : State) (fk : Nat) (x : HeldCpl) : State :=
  let s1 := s.setFn fk { s.fn fk with due := (s.fn fk).due ++ [x] }
  s1.tryDue fk

/-! ### Published heads (R110) -/

/-- The published head: the index of the first entry not yet started (R110). -/
def Wq.head (w : Wq) : BitVec 16 :=
  match w.fetched with
  | [] => w.fetchPt
  | e :: _ => e.index

/-- The index of the oldest uncompleted entry (R90). -/
def Wq.oldest (w : Wq) : BitVec 16 :=
  match w.started with
  | [] => w.head
  | e :: _ => e.index

/-- The head-shadow word is written, or held while mastering is not permitted (R110). -/
def State.shadow (s : State) (fk q : Nat) (head : BitVec 16) (st : Nat) : State :=
  if s.mastering fk then s.emit (.shadow q head st)
  else s.setFn fk { s.fn fk with heldShadow := (s.fn fk).heldShadow ++ [(q, head, st)] }

/-! ### Aborts (R117 to R119) -/

/-- The completion of an abort (R119). -/
def abortCqe (number : Nat) (a : Abort) (status : Nat) : Cqe :=
  { tag := a.atag, status := BitVec.ofNat 8 status, source := 0x08, queue := BitVec.ofNat 20 number, index := a.index }

/-- The completion of an abort of a queue has been made and is not yet written (R119). -/
def State.abortMade (s : State) (q : Nat) : Bool :=
  let w := s.queue q
  let is := fun (x : HeldCpl) => x.abort && x.queue = q
  (s.fn w.fn).due.any is || (s.fn w.fn).held.any is || (s.cq (s.queueCq q)).heldCpl.any is

/-- The open abort of a work queue ends with a status: its one completion is due (R118, R119). -/
def State.endAbort (s : State) (q : Nat) (status : Nat) : State :=
  let w := s.queue q
  match w.abort with
  | none => s
  | some a =>
    if s.abortMade q then s
    else s.pushDue w.fn { cq := s.queueCq q, e := abortCqe (s.queueNumber q) a status, queue := q, abort := true }

/-! ### The end of an entry, and of a drain -/

/-- A queue that drains, or is in FETCH_FAULT, has no started entry left: an abort still open ends NOT_FOUND, the head is
published, and DRAINING becomes DISABLED (R111, R112, R118). A queue of a slice that is being disabled waits for the whole
slice (R83). -/
def State.drained (s : State) (q : Nat) : State :=
  let w := s.queue q
  if w.started ≠ [] then s
  else if w.st = .draining ∧ (w.slice ≥ 4096 ∨ (s.slice w.slice).st = .enabled) then
    let s1 := s.endAbort q stNotFound
    (s1.setQueue q { s1.queue q with st := .disabled }).shadow w.fn q w.head 0
  else if w.st = .fetchFault then (s.endAbort q stNotFound).shadow w.fn q w.head 4
  else s

/-- The source kind of a queue's completions (R104). -/
def State.sourceOf (s : State) (q : Nat) : BitVec 7 :=
  if q < qpBase then (if (s.queue q).rx then 0x02 else 0x01) else if q % 2 = 0 then 0x03 else 0x04

/-- The tag of an entry (R92). -/
def Entry.tag (e : Entry) : BitVec 16 := BitVec.ofNat 16 (fld (e.slots.headD 0) 0 16)

/-- A started entry ends with a status, bytes, QFLAGS and KIND_DATA: it leaves the started entries, LASTDONE names it, its
completion is produced, and an abort that waits for it ends NOT_FOUND (R105, R107, R118). -/
def State.finish (s : State) (q : Nat) (e : Entry) (status bytes qflags data : Nat) (canWrite : Bool) : State :=
  let w := s.queue q
  let s1 := s.setQueue q { w with started := w.started.filter (fun x => x.index != e.index), lastDone := some e.index }
  let x : Cqe := { tag := e.tag, status := BitVec.ofNat 8 status, source := s.sourceOf q,
                   queue := BitVec.ofNat 20 (s.queueNumber q), qflags := BitVec.ofNat 12 qflags, index := e.index,
                   bytes := BitVec.ofNat 32 bytes, data := BitVec.ofNat 64 data }
  let s2 := s1.produce { cq := s.queueCq q, e := x, queue := q } canWrite
  let s3 := match w.abort with
    | some a => if a.index = e.index ∧ a.tag = e.tag then s2.endAbort q stNotFound else s2
    | none => s2
  s3.drained q

/-- The next unstarted entry of a running queue may start: the slice is enabled, FENCE holds it only while earlier entries
are uncompleted (R92, R97, R83). -/
def State.nextStart (s : State) (q : Nat) : Option Entry :=
  let w := s.queue q
  match w.fetched with
  | [] => none
  | e :: _ =>
    if w.st = .running ∧ s.forwards (qHalf q) ∧ s.sliceOn w.slice ∧ s.mastering w.fn ∧ (bit (e.slots.headD 0) 27 = false ∨ w.started = []) then some e
    else none

/-- The entry moves from the unstarted to the started, its slot taken (R108, R110). -/
def State.startEntry (s : State) (q : Nat) (e : Entry) : State :=
  let s1 := s.takeSlot (s.queueCq q) q
  let w := s1.queue q
  s1.setQueue q { w with fetched := w.fetched.filter (fun x => x.index != e.index), started := w.started ++ [e] }

/-- A start: the entry starts and `go` acts on it, or it waits for a CQ slot (R108). -/
def State.start (s : State) (q : Nat) (e : Entry) (go : State → State) : State :=
  if s.slotFor (s.queueCq q) q then go (s.startEntry q e) else s.waitSlot (s.queueCq q) q

/-- A queue stops waiting for its CQ: it leaves RUNNING. -/
def State.leaveWait (s : State) (q : Nat) : State :=
  let k := s.queueCq q
  if (s.cq k).waitq.contains q then s.setCq k { s.cq k with waitq := (s.cq k).waitq.erase q } else s

/-- The unstarted entries of a queue are discarded: the published head becomes the fetch point (R111). -/
def Wq.discard (w : Wq) : Wq := { w with fetchPt := w.head, fetched := [], pushed := [], push := [] }

/-- A queue leaves RUNNING for DRAINING (R111). -/
def State.drainQueue (s : State) (q : Nat) : State :=
  let s1 := s.leaveWait q
  let w := s1.queue q
  (s1.setQueue q { w.discard with st := .draining }).drained q

end Sys2Proof.Machine
end

