-- ==== Sys2Proof/Machine/StqOps.lean ====
section
/-! DEFINITION. Sessions' values, and storage queues: commands, completions, the freeze, the error log, aborts and detaches
(12 R317 to R321, R334 to R341). -/

namespace Sys2Proof.Machine
open Sys2Proof

/-! ### Values a session holds (R71, R389) -/

/-- The key of an object without a selection. -/
def obj (index sub : Nat) : Nat := index * 256 + sub

/-- A value of a session, `d` where it has none. -/
def State.sel (s : State) (ss : Session) (k d : Nat) : Nat :=
  match s.mgmt.sessions.find? (·.sess = ss) with
  | some x => mget x.sel k d
  | none => d

/-- A value of a session set, the session begun if there is none. -/
def setSelIn (l : List Sess) (ss : Session) (now k v : Nat) : List Sess :=
  match l with
  | [] => [{ sess := ss, last := now, sel := [(k, v)] }]
  | x :: rest => if x.sess = ss then { x with sel := mput x.sel k v } :: rest else x :: setSelIn rest ss now k v

def State.setSel (s : State) (ss : Session) (k v : Nat) : State :=
  { s with mgmt := { s.mgmt with sessions := setSelIn s.mgmt.sessions ss s.now k v } }

/-! ### Commands (R321, R322) -/

def scOp (c : BitVec 512) : Nat := fld c 0 8
def scFua (c : BitVec 512) : Bool := bit c 8
def scList (c : BitVec 512) : Bool := bit c 9
def scTag (c : BitVec 512) : BitVec 16 := BitVec.ofNat 16 (fld c 16 16)
def scNsid (c : BitVec 512) : Nat := fld c 32 32
def scSlba (c : BitVec 512) : Nat := fld c 64 64
def scNlb (c : BitVec 512) : Nat := fld c 128 32
def scArg2 (c : BitVec 512) : Nat := fld c 160 32
def scDlen (c : BitVec 512) : Nat := fld c 256 32

/-- ARG1: the page or feature, the slice, and the queue (R338). -/
def scArg1 (c : BitVec 512) : Nat := fld c 128 32
def scQueue (c : BitVec 512) : Nat := fld c 144 16

/-! ### Queues (R316, R317) -/

/-- The key of the admin queue of PF2 of a port (R316). -/
def adminKey (p : Nat) : Nat := 8192 + p

/-- The number of a storage queue in its function or slice (R316). -/
def State.stqNumber (s : State) (k : Nat) : Nat := if 8192 ≤ k then 0 else s.number 2 (s.stq k).slice (k % 4096)

/-- An admin queue: queue 0 of a slice, or frame 0 of PF2 (R316). -/
def State.stqAdmin (s : State) (k : Nat) : Bool := 8192 ≤ k || ((s.stq k).slice < 4096 && s.stqNumber k = 0)

/-- The CQ a storage queue is bound to. -/
def State.stqCq (s : State) (k : Nat) : Nat := s.cqKey (stqHalf k) 1 (s.stq k).slice (s.stq k).cq.toNat

/-- The published head of a storage queue: its oldest unstarted command, or the next commit sequence (R317, R320). -/
def Stq.published (x : Stq) : BitVec 16 :=
  match x.cmds.find? fun c => !c.started with
  | some c => c.seq
  | none => x.head

/-- The half a command's namespace is homed on; the queue's own for the others. -/
def State.cmdHalf (s : State) (k : Nat) (c : BitVec 512) : Half :=
  match mfind s.storage.nss (scNsid c) with
  | some n => n.home
  | none => stqHalf k

/-- A counter of R343, raised. -/
def State.countStorage (s : State) (h : Half) (sub n : Nat) : State := s.countH 0x6700 h sub n

/-! ### The error log (R337) -/

/-- The owner of a queue's error log: its slice, or 4,096 and on the PF itself. -/
def State.logOwner (s : State) (k : Nat) : Nat := if (s.stq k).slice < 4096 then (s.stq k).slice else 4096 + (s.stq k).fn

/-- A completion other than OK enters the error log of its owner, of 64 entries (R337). -/
def State.logError (s : State) (k : Nat) (c : SCmd) (status lba drive : Nat) (froze : Bool) : State :=
  let o := s.logOwner k
  let n := mget s.storage.errSeqs o 0 + 1
  let e : ErrEntry := { time := s.time (stqHalf k), seq := n, queue := s.stqNumber k, tag := scTag c.cmd, cseq := c.seq,
                        status := BitVec.ofNat 8 status, opcode := scOp c.cmd, nsid := scNsid c.cmd, slba := scSlba c.cmd,
                        nlb := scNlb c.cmd, lba := lba, drive := drive, froze := froze }
  { s with storage := { s.storage with
      errs := mset s.storage.errs o ((e :: mget s.storage.errs o []).take 64) []
      errSeqs := mput s.storage.errSeqs o n } }

/-- The drive that holds the granule of an LBA, 255 for none (R311, R337). -/
def State.driveOf (s : State) (nsid lba : Nat) : Nat :=
  match mfind s.storage.nss nsid with
  | some n => mget n.place (lba / (if n.lba4k then 4 else 32)) 255
  | none => 255

/-! ### The end of a command (R334, R335, R341) -/

/-- The statuses that freeze an I/O queue (R335). -/
def freezes (st : Nat) : Bool := [0x03, 0x04, 0x08, 0x0A, 0x12, 0x09].contains st

/-- The completion of a storage or admin command (R334). -/
def State.stCqe (s : State) (k : Nat) (c : SCmd) (status bytes data : Nat) (froze : Bool) : Cqe :=
  { tag := scTag c.cmd, status := BitVec.ofNat 8 status, source := if s.stqAdmin k then 0x07 else 0x05
    queue := BitVec.ofNat 20 (s.stqNumber k), qflags := BitVec.ofNat 12 (b2n froze), index := c.seq, slots := (s.stq k).freed
    bytes := BitVec.ofNat 32 bytes, data := BitVec.ofNat 64 data }

/-- A storage queue that drains and has no started command left publishes its head and reads DISABLED; a queue of a slice that
is being disabled waits for the whole slice (R83, R111, R318). -/
def State.stDrained (s : State) (k : Nat) : State :=
  let x := s.stq k
  if x.st = .draining ∧ x.cmds.all (fun c => !c.started) ∧ (x.slice ≥ 4096 ∨ (s.slice x.slice).st = .enabled) then
    (s.setStq k { x with st := .disabled }).shadow x.fn (stqBase + k) x.published 0
  else s

/-- The abort that waits on a queue ends with a status: its completion goes to the CQ of the admin queue it came through,
where the ABORT command leaves the queue (R119, R341). -/
def State.endStAbort (s : State) (k status : Nat) : State :=
  match (s.stq k).abort with
  | none => s
  | some (a, ak, aseq) =>
    let y := s.stq ak
    if y.cmds.any (·.seq = aseq) then
      let s1 := s.setStq ak { y with cmds := y.cmds.filter (·.seq != aseq), lastDone := some aseq }
      (s1.produce { cq := s1.stqCq ak, e := abortCqe (s1.stqNumber k) a status, queue := stqBase + k, abort := true } true).stDrained ak
    else s

/-- A command ends with a status, bytes and KIND_DATA: it leaves the queue and the tracker, and its completion is produced from
its reservation (`own`) or takes one. A status of R335 freezes an I/O queue, one other than OK is logged, and an abort that
waits for it ends NOT_FOUND (R47, R328, R334, R335, R337, R341). -/
def State.stFinish (s : State) (k : Nat) (c : SCmd) (status bytes data : Nat) (own canWrite : Bool) : State :=
  let x := s.stq k
  let froze := !s.stqAdmin k && freezes status && !x.frozen
  let e := s.stCqe k c status bytes data froze
  let drive := if status = 0x0A then s.driveOf (scNsid c.cmd) data else 255
  let s1 := s.setStq k { x with
    cmds := x.cmds.filter (·.seq != c.seq), lastDone := some c.seq, freed := 0
    malformed := if status = 0x03 then sat31 x.malformed else x.malformed
    frozen := x.frozen || froze, frozenAt := if froze then s.time (stqHalf k) else x.frozenAt }
  let s2 := if status = 0 then s1 else s1.logError k c status (if status = 0x0A then data else 0) drive froze
  let s3 := if froze then (s2.countStorage (stqHalf k) 7 1).raiseFault x.fn 2 0 (s.stqNumber k) else s2
  let s4 := if status = 0x0A then s3.countStorage (s.cmdHalf k c.cmd) 8 1 else s3
  let y : HeldCpl := { cq := s.stqCq k, e := e, queue := stqBase + k }
  let s5 := if own then s4.produce y canWrite else s4.pushDue x.fn y
  let s6 := match x.abort with
    | some (a, _, _) => if a.index = c.seq then s5.endStAbort k 0x13 else s5
    | none => s5
  s6.stDrained k

/-! ### Detaches that wait (R339) -/

/-- A command of a slice for a namespace that arrived before a mark is not completed (R339). -/
def State.nsBusy (s : State) (nsid sl mark : Nat) : Bool :=
  s.storage.stqs.any fun e => e.2.slice = sl && e.2.cmds.any fun c =>
    scOp c.cmd < 0x80 && scNsid c.cmd = nsid && c.arrival < mark

/-- NS_CMD_RESULT of a session (R342). -/
def State.nsResult (s : State) (ss : Session) (busy : Bool) (st : Nat) : State :=
  s.setSel ss (obj 0xA400 4) (b2n busy * 65536 + st)

/-- A namespace command ends with a status and result where it came from (R339, R342). -/
def State.endNsCmd (s : State) (src : AdminSrc) (st data : Nat) : State :=
  match src with
  | .mgmt w _ => s.nsResult w.sess false st
  | .queue k =>
    match (s.stq k).cmds.find? (·.started) with
    | some c => s.stFinish k c st 0 data true true
    | none => s

/-- The detaches whose slice has no earlier command left end OK (R339). -/
def State.detachStep (s : State) (d : Nat × Nat × Nat × AdminSrc) : State :=
  if s.nsBusy d.1 d.2.1 d.2.2.1 then s
  else
    let n := s.ns d.1
    let s1 := s.setNs d.1 { n with attached := n.attached.erase d.2.1 }
    ({ s1 with storage := { s1.storage with detachWait := s1.storage.detachWait.erase d } }).endNsCmd d.2.2.2 0 0

def State.tryDetach (s : State) : State := s.storage.detachWait.foldl State.detachStep s

/-- What a slice that ceases to exist leaves in the storage service: nothing (R85, R339, R337). -/
def State.dropSliceStorage (s : State) (id : Nat) : State :=
  { s with storage := { s.storage with
      nss := mmap (fun _ n => { n with attached := n.attached.erase id }) s.storage.nss
      errs := merase s.storage.errs id
      errSeqs := merase s.storage.errSeqs id
      queueTurn := merase s.storage.queueTurn id } }

end Sys2Proof.Machine
end

