-- ==== Sys2Proof/Machine/TmgrOps.lean ====
section
/-! DEFINITION. The traffic manager's shared operations: cells, ingress use, nodes, buckets, the scheduler's choice (08). -/

namespace Sys2Proof.Machine
open Sys2Proof

/-! ### Cells (R191, R192) -/

/-- A frame's length in TMGR, from the destination address to the FCS, with MACsec's 32 bytes where it is sealed
(R191). -/
def Frame.len (f : Frame) : Nat := f.bytes.length + 4 + (if f.isSealed then 32 else 0)

/-- The cells a frame occupies (R191). -/
def Frame.cells (f : Frame) : Nat := (f.len + 255) / 256

/-- The cells of frames. -/
def cellSum (fs : List Frame) : Nat := (fs.map Frame.cells).sum

/-- The priority of a received frame: the PCP of its outer VLAN tag, or DEF_PRIO_En (R154). -/
def State.prio (s : State) (f : Frame) : Nat :=
  let tpid := beAt f.bytes 12 2
  if tpid = 0x8100 ∨ tpid = 0x88A8 then beAt f.bytes 14 2 / 8192 else s.param (ethHalf f.port) 0xA617 (f.port + 1) 0 0

/-- PFC is enabled for a priority of a port (R152, R199). -/
def State.lossless (s : State) (n p : Nat) : Bool :=
  s.param (ethHalf n) 0xA615 (n + 1) 0 0 = 2 && (s.param (ethHalf n) 0xA616 (n + 1) 0 0 / 2 ^ p) % 2 = 1

/-- The PFC threshold record of a port: XOFF, XON and HEADROOM (R199, R212). -/
def pfcDefault : Nat := 1024 + 2 ^ 32 * 768 + 2 ^ 64 * 256

def State.pfcThresh (s : State) (n : Nat) : Nat := s.param (ethHalf n) 0xA110 (n + 1) 0 pfcDefault
def State.xoffCells (s : State) (n : Nat) : Nat := s.pfcThresh n % 2 ^ 32
def State.xonCells (s : State) (n : Nat) : Nat := s.pfcThresh n / 2 ^ 32 % 2 ^ 32
def State.headroomCells (s : State) (n : Nat) : Nat := s.pfcThresh n / 2 ^ 64

/-- The ingress use of a port and priority: cells of its received frames in TMGR (R199). -/
def State.ingress (s : State) (n p : Nat) : Nat :=
  ((s.half (ethHalf n)).tmgr.hostq.map fun e => cellSum (e.2.frames.filter fun f => f.port = n && s.prio f = p && !f.mirrored)).sum

/-! ### Queue profiles (R194) -/

/-- Every profile's default (R194). -/
def profileDefault : Nat := 2 ^ 32 * 4096 + 2 ^ 80 * 1 + 2 ^ 104 * 0x69

def State.profile (s : State) (h : Half) (i : Nat) : BitVec 128 :=
  BitVec.ofNat 128 (s.param h 0xA100 0x07 (h.num * 64 + i) profileDefault)

def profMin (r : BitVec 128) : Nat := fld r 0 32
def profMax (r : BitVec 128) : Nat := fld r 32 32
def profWredMin (r : BitVec 128) : Nat := fld r 64 16
def profWredMax (r : BitVec 128) : Nat := fld r 80 16
def profPmax (r : BitVec 128) : Nat := fld r 96 8
def profAlpha (r : BitVec 128) : Nat := fld r 108 4
def profAvgW (r : BitVec 128) : Nat := fld r 104 4
def profEcn (r : BitVec 128) : Bool := bit r 112

/-! ### Nodes (R200, R201, R211) -/

/-- The key of a node: level 0 port, 1 group, 2 slice node, 3 leaf. -/
def nodeKey (level n : Nat) : Nat := level * 65536 + n

/-- A node as it is at reset: enabled, WEIGHT 1, no owner; group i of 0 to 7 below port i (R200, R211; log 15). -/
def nodeDefault (level n : Nat) : Node :=
  { record := BitVec.ofNat 256 (0x80 + 2 ^ 16 + (if level = 1 then (if n < 8 then n else 0xFFFF) else 0) * 2 ^ 160
                             + 0xFFFF * 2 ^ 192)
    att := BitVec.ofNat 512 ((List.range 16).map fun i => 0xFFFF * 2 ^ (32 * i)).sum }

def State.node (s : State) (h : Half) (level n : Nat) : Node :=
  mget (s.half h).tmgr.nodes (nodeKey level n) (nodeDefault level n)

def State.setNode (s : State) (h : Half) (level n : Nat) (x : Node) : State :=
  s.onHalf h fun y =>
    { y with tmgr := { y.tmgr with nodes := mset y.tmgr.nodes (nodeKey level n) x (nodeDefault level n) } }

def ndEnable (r : BitVec 256) : Bool := bit r 7
def ndStrict (r : BitVec 256) : Nat := fld r 4 3
def ndOh (r : BitVec 256) : Nat := fld r 0 3
def ndAttach (r : BitVec 256) : Nat := fld r 12 4
def ndTc (r : BitVec 256) : Nat := fld r 8 3
def ndWeight (r : BitVec 256) : Nat := fld r 16 16
def ndCir (r : BitVec 256) : Nat := fld r 32 32
def ndPir (r : BitVec 256) : Nat := fld r 64 32
def ndCbs (r : BitVec 256) : Nat := fld r 96 32
def ndPbs (r : BitVec 256) : Nat := fld r 128 32
def ndParent (r : BitVec 256) : Nat := fld r 160 16
def ndProfile (r : BitVec 256) : Nat := fld r 176 8
def ndOwner (r : BitVec 256) : Nat := fld r 192 16

/-- Group, STRICT and WEIGHT of attachment entry a (R201). -/
def attGroup (r : BitVec 512) (a : Nat) : Nat := fld r (32 * a) 16
def attStrict (r : BitVec 512) (a : Nat) : Nat := fld r (32 * a + 29) 3
def attWeight (r : BitVec 512) (a : Nat) : Nat := fld r (32 * a + 16) 12

/-- A slice's node on a half (R70). -/
def Slice.node (x : Slice) (h : Half) : Option Nat :=
  match h with
  | .k => x.nodeK
  | .q => x.nodeQ

/-- A slice's leaf blocks, policer blocks and SA blocks on a half. -/
def Slice.leaves (x : Slice) (h : Half) : List Blk :=
  match h with
  | .k => x.leafK
  | .q => x.leafQ

def Slice.pols (x : Slice) (h : Half) : List Blk :=
  match h with
  | .k => x.polK
  | .q => x.polQ

def Slice.sas (x : Slice) (h : Half) : List Blk :=
  match h with
  | .k => x.saK
  | .q => x.saQ

/-- The group and port of the half that a leaf is attached to, with its slice node and attachment (R200). -/
structure Path where
  group : Nat
  snode : Nat
  att   : Nat
  leaf  : Nat
deriving DecidableEq, Repr

/-- The path above a leaf, if its owner has a node and its attachment a group (R200). -/
def State.pathOf (s : State) (h : Half) (leaf : Nat) : Option Path :=
  let r := (s.node h 3 leaf).record
  let o := ndOwner r
  if o < 4096 then
    match (s.slice o).node h with
    | some sn =>
      let g := attGroup (s.node h 2 sn).att (ndAttach r)
      if g < 512 then some { group := g, snode := sn, att := ndAttach r, leaf := leaf } else none
    | none => none
  else none

/-- The Ethernet port a leaf is attached to (R200). -/
def State.leafPort (s : State) (h : Half) (leaf : Nat) : Option Nat :=
  match s.pathOf h leaf with
  | some p =>
    let q := ndParent (s.node h 1 p.group).record
    if q < 8 then some (8 * h.num + q) else none
  | none => none

/-! ### Reserved and shared cells (R192) -/

/-- The leaf numbers of a half that slices hold. -/
def State.heldLeaves (s : State) (h : Half) : List Nat :=
  ((s.half h).tmgr.nodes.filter fun e => e.1 / 65536 = 3 && ndOwner e.2.record < 4096).map fun e => e.1 % 65536

/-- The MIN_CELLS of a leaf. -/
def State.leafMin (s : State) (h : Half) (leaf : Nat) : Nat :=
  profMin (s.profile h (ndProfile (s.node h 3 leaf).record))

/-- The reserved cells of a half: MIN_CELLS of every leaf and the headroom of every lossless priority (R192; log 16). -/
def State.reservedCells (s : State) (h : Half) : Nat :=
  ((s.heldLeaves h).map (s.leafMin h)).sum
    + ((List.range 8).map fun i => ((List.range 8).map fun p =>
        if s.lossless (8 * h.num + i) p then s.headroomCells (8 * h.num + i) else 0).sum).sum

/-- The cells of lossless priorities that lie in their headroom (R199). -/
def State.headroomUse (s : State) (h : Half) : Nat :=
  ((List.range 8).map fun i => ((List.range 8).map fun p =>
    if s.lossless (8 * h.num + i) p then s.ingress (8 * h.num + i) p - s.xoffCells (8 * h.num + i) else 0).sum).sum

/-- The cells held above reservations (R192). -/
def State.aboveReserved (s : State) (h : Half) : Nat :=
  ((s.heldLeaves h).map fun l => cellSum (s.node h 3 l).frames - s.leafMin h l).sum
    + ((s.half h).tmgr.hostq.map fun e => cellSum e.2.frames).sum - s.headroomUse h

/-- The shared free count (R192). -/
def State.sharedFree (s : State) (h : Half) : Nat := 131072 - s.reservedCells h - s.aboveReserved h

/-- SHARED_PEAK follows the cells held above reservations (R213). -/
def State.notePeak (s : State) (h : Half) : State :=
  let k := (0x6300 + h.num) * 256 + 0x0B
  { s with stat := mset s.stat k (Nat.max (mget s.stat k 0) (s.aboveReserved h)) 0 }

/-! ### PFC (R154) -/

/-- The device sends XOFF or XON for a priority, and counts TX_PFC (R154, R162). -/
def State.sendPfc (s : State) (n p : Nat) (quanta : BitVec 16) : State :=
  (s.emit (.pfcTx n p quanta)).count (0x6100 + n) (0x10 + p) 1

/-- After a change of ingress use: crossing XOFF_CELLS sends XOFF, falling to XON_CELLS ends the pause (R154, R199). -/
def State.pfcCheck (s : State) (n p : Nat) : State :=
  if s.lossless n p then
    let x := s.ethPort n
    if s.ingress n p > s.xoffCells n ∧ bit x.xoff p = false then
      (s.setEth n { x with xoff := x.xoff ||| BitVec.ofNat 8 (2 ^ p) }).sendPfc n p 0xFFFF
    else if s.ingress n p ≤ s.xonCells n ∧ bit x.xoff p then
      (s.setEth n { x with xoff := x.xoff &&& ~~~ BitVec.ofNat 8 (2 ^ p) }).sendPfc n p 0
    else s
  else s

/-! ### Host-bound queues (R198) -/

def State.hostq (s : State) (h : Half) (sl : Nat) : HostQ := mget (s.half h).tmgr.hostq sl {}

def State.setHostq (s : State) (h : Half) (sl : Nat) (x : HostQ) : State :=
  s.onHalf h fun y => { y with tmgr := { y.tmgr with hostq := mset y.tmgr.hostq sl x {} } }

/-- PFC after frames have left a host-bound queue, for every port and priority they were charged to. -/
def State.pfcAfter (s : State) (fs : List Frame) : State := fs.foldl (fun a f => a.pfcCheck f.port (a.prio f)) s

/-! ### Buckets (R204, R205, R206) -/

/-- The overhead in bytes of an overhead profile of a port (R206, R212): +20 for profile 0 and 0 for the rest at reset. -/
def State.overhead (s : State) (n prof : Nat) : Int :=
  signed 8 (s.param (ethHalf n) 0xA111 (n + 1) 0 20 / 2 ^ (8 * prof) % 256)

/-- The shaped length of a frame at a node (R206). -/
def State.shaped (s : State) (n : Nat) (r : BitVec 256) (f : Frame) : Nat :=
  let v := (f.len : Int) + s.overhead n (ndOh r)
  if v < 1 then 1 else v.toNat

/-- Bytes in the bucket's unit of 2^-32 byte. -/
def bytes32 (n : Nat) : Int := (n : Int) * 4294967296

/-- The tokens of a rate in kb/s over an interval in µs, in 2^-32 byte (R205): 1 kb/s gives 536,870 in 1 µs. -/
def tokens (rate us : Nat) : Int := ((rate * us * 4294967296 / 8000 : Nat) : Int)

/-- The refill of a node: a record or attachment that waits takes effect, rate × interval is added and capped at the burst
(R205). -/
def Node.refill (x : Node) (level : Nat) : Node :=
  let r := x.next.getD x.record
  let us := if level = 3 then 8 else 1
  { x with
    record := r, next := none
    att := x.attNext.getD x.att, attNext := none
    cb := Min.min (x.cb + tokens (ndCir r) us) (bytes32 (ndCbs r))
    pb := Min.min (x.pb + tokens (ndPir r) us) (bytes32 (ndPbs r)) }

/-- Every bucket of a node full (R81). -/
def Node.full (x : Node) : Node := { x with cb := bytes32 (ndCbs x.record), pb := bytes32 (ndPbs x.record) }

/-- A policer with its buckets full (R81, R208). -/
def Policer.full (x : Policer) : Policer := { x with tc := fld x.record 96 32 * 4294967296, te := fld x.record 128 32 * 4294967296 }

/-- Token-free to serve: the peak bucket is above 0, or PIR is 0 (R203). -/
def Node.open (x : Node) : Bool := x.pb > 0 || ndPir x.record = 0

/-- Taken as committed: CIR above 0 and committed bucket above 0 (R203). -/
def Node.committed (x : Node) : Bool := ndCir x.record > 0 && x.cb > 0

/-- A frame of shaped length n is charged to a node (R204). -/
def Node.charge (x : Node) (n : Nat) : Node :=
  { x with pb := x.pb - bytes32 n, cb := if x.committed then x.cb - bytes32 n else x.cb }

/-! ### The scheduler's choice (R203) -/

/-- A priority of a port is held by a received pause (R153, R207). -/
def State.pausedPrio (s : State) (n p : Nat) : Bool := (mfind (s.ethPort n).paused p).isSome

/-- The candidate paths below a port (R203, R207). -/
def State.candidates (s : State) (n : Nat) : List Path :=
  let h := ethHalf n
  let pn := s.node h 0 (n % 8)
  if ndEnable pn.record && pn.open then
    (s.heldLeaves h).filterMap fun l =>
      let x := s.node h 3 l
      match s.pathOf h l with
      | some p =>
        let g := s.node h 1 p.group
        let sn := s.node h 2 p.snode
        if s.leafPort h l = some n ∧ ndEnable x.record ∧ x.frames ≠ [] ∧ s.pausedPrio n (ndTc x.record) = false ∧ x.open
            ∧ ndEnable sn.record ∧ sn.open ∧ ndEnable g.record ∧ g.open then some p else none
      | none => none
  else []

/-- A child that competes: its number, whether it is committed, its STRICT and its WEIGHT. -/
structure Child where
  id        : Nat
  committed : Bool
  strict    : Nat
  weight    : Nat
deriving DecidableEq, Repr

/-- The children a parent chooses among: the committed ones first, then of the highest STRICT (R203). -/
def bestSet (cs : List Child) : List Child :=
  let a := cs.filter (·.committed)
  let b := if a = [] then cs else a
  let m := (b.map (·.strict)).foldl Nat.max 0
  b.filter (·.strict = m)

/-- The next number after `t` in a list, in rising order and round to the smallest. -/
def nextAfter (t : Nat) (ids : List Nat) : Nat :=
  let up := ids.filter (t < ·)
  let c := if up = [] then ids else up
  c.foldl Nat.min (c.headD 0)

/-- Deficit weighted round robin: the child whose turn it is keeps it while its deficit is above 0; else the turn passes on,
and each child that takes it gains its quantum of WEIGHT × 64 bytes (R203; log 17). -/
def dwrr (fuel : Nat) (cs : List Child) (turn : Nat) (d : Map Int) : Nat × Map Int :=
  match fuel with
  | 0 => (turn, d)
  | k + 1 =>
    if cs.any (·.id = turn) ∧ mget d turn 0 > 0 then (turn, d)
    else
      let t := nextAfter turn (cs.map (·.id))
      let w := match cs.find? (·.id = t) with
        | some c => c.weight
        | none => 1
      dwrr k cs t (mset d t (mget d t 0 + (w * 64 : Nat)) 0)

/-- A node after its choice and the charge of a frame of shaped length n to the child's deficit. -/
def Node.chosen (x : Node) (turn : Nat) (d : Map Int) (n : Nat) : Node :=
  { x with turn := turn, deficit := mset d turn (mget d turn 0 - (n : Int)) 0 }

/-- A choice of a parent among children: the child and the deficits after it. -/
def Node.choose (x : Node) (cs : List Child) : Nat × Map Int :=
  dwrr (256 * (cs.length + 1)) (bestSet cs) x.turn x.deficit

/-- The path whose frame a port sends next: a group, then an attachment of a slice node, then a leaf (R203), with the
deficits each parent is left with. -/
def State.schedule (s : State) (n : Nat) : Option (Path × Map Int × Map Int × Map Int) :=
  let h := ethHalf n
  let ps := s.candidates n
  match ps with
  | [] => none
  | _ =>
    let groups := (ps.map (·.group)).eraseDups
    let cg := groups.map fun g =>
      let x := s.node h 1 g
      { id := g, committed := x.committed, strict := ndStrict x.record, weight := ndWeight x.record : Child }
    let g := (s.node h 0 (n % 8)).choose cg
    let pg := ps.filter (·.group = g.1)
    let subs := (pg.map fun p => p.snode * 16 + p.att).eraseDups
    let cs := subs.map fun i =>
      let x := s.node h 2 (i / 16)
      { id := i, committed := x.committed, strict := attStrict x.att (i % 16), weight := attWeight x.att (i % 16) : Child }
    let a := (s.node h 1 g.1).choose cs
    let pl := pg.filter fun p => p.snode * 16 + p.att = a.1
    let cl := pl.map fun p =>
      let x := s.node h 3 p.leaf
      { id := p.leaf, committed := x.committed, strict := ndStrict x.record, weight := ndWeight x.record : Child }
    let l := (s.node h 2 (a.1 / 16)).choose cl
    some ({ group := g.1, snode := a.1 / 16, att := a.1 % 16, leaf := l.1 }, g.2, a.2, l.2)

/-! ### Discards -/

/-- The frames of a leaf are taken out: the leaf without them. -/
def State.emptyLeaf (s : State) (h : Half) (leaf : Nat) : State :=
  s.setNode h 3 leaf { s.node h 3 leaf with frames := [] }

end Sys2Proof.Machine
end

