-- ==== Sys2Proof/Machine/SliceOps.lean ====
section
/-! DEFINITION. Sessions' values, watches of copy channels, and what a slice's reset, disable and destruction do
(03, 05 R131, R132). -/

namespace Sys2Proof.Machine
open Sys2Proof

/-! ### Watched queues (R131, R132) -/

/-- The fill of the queue a channel watches; none where it cannot be read (R131, R132). -/
def State.watchFill (s : State) (ch : Nat) : Option Nat :=
  let w := (s.chan ch).watch
  let id := fld w 0 17
  let h := portHalf (ch / 64)
  if fld w 24 2 = 1 then
    let lh := halfOf (id / 65536)
    let x := s.node lh 3 (id % 65536)
    if ndOwner x.record < 4096 ∧ ndEnable x.record ∧ ¬ (s.cstl.split ∧ lh ≠ h) ∧ (s.half lh).stopped = false then
      some (cellSum x.frames)
    else none
  else if fld w 24 2 = 2 then
    let c := s.cq ((h.num * 3 + id / 65536) * 65536 + id % 65536)
    if c.enable then some (dist c.head c.tail) else none
  else none

/-- The gate of a PACED channel follows the fill; a queue that cannot be read sets WATCH_LOST, reads fill 0 and closes the
gate, raising the fault bit when WATCH_LOST becomes 1 (R131, R132, R126). -/
def State.evalGate (s : State) (ch : Nat) : State :=
  let x := s.chan ch
  if x.paced ∧ x.st = .running then
    match s.watchFill ch with
    | some f =>
      s.setChan ch { x with watchLost := false, fill := f
                            gate := if x.high ≤ f then true else if f ≤ x.low then false else x.gate }
    | none =>
      let s1 := s.setChan ch { x with watchLost := true, fill := 0, gate := false }
      if x.watchLost then s1 else s1.raiseCopyFault ch
  else s

/-- Every channel's gate is evaluated. -/
def State.evalGates (s : State) : State := (s.chans.map Prod.fst).foldl State.evalGate s

/-! ### The frames of a slice -/

/-- A table without the entries at some keys. -/
def mdrop {α : Type} (p : Nat → Bool) (m : Map α) : Map α := m.filter fun e => !p e.1

/-- An ETH_SEND whose frame has come to its end completes, if its entry is still started (R156); copies and frames of the
RDMA transport have none. -/
def State.endSend (s : State) (f : Frame) (status qflags data : Nat) (canWrite : Bool) : State :=
  if f.dir ∧ ¬ f.rdma ∧ ¬ f.mirrored then
    match (s.queue f.wq).started.find? (·.index = f.entry) with
    | some e => s.finish f.wq e status (if status = stOk then fld f.opspec 16 16 else 0) qflags data canWrite
    | none => s
  else s

/-- A frame in the transmit path is lost: its ETH_SEND completes OK without a timestamp (R156). -/
def State.lostSend (s : State) (f : Frame) : State := s.endSend f stOk 0 0 true

/-- Frames in the transmit path are lost. -/
def State.lostSends (s : State) (fs : List Frame) : State := fs.foldl State.lostSend s

/-- Frames whose work queue has been reset complete nothing any more. -/
def State.orphan (s : State) (p : Nat → Bool) : State :=
  s.onBoth fun x =>
    { x with cls := { x.cls with flight := x.cls.flight.map fun f => if f.dir ∧ p f.wq then { f with mirrored := true } else f } }

/-! ### Slice reset (R81) -/

/-- The RESET_DROP counter of a slice is counter 11 of R86. -/
def cRxFrames : Nat := 0
def cRxOctets : Nat := 1
def cTxFrames : Nat := 2
def cTxOctets : Nat := 3
def cRxNobuf : Nat := 4
def cRxNocq : Nat := 5
def cRxToobig : Nat := 6
def cRxDisabled : Nat := 7
def cRxBadq : Nat := 8
def cRxTmgrDrop : Nat := 9
def cRxNomaster : Nat := 10
def cResetDrop : Nat := 11
def cTxDenied : Nat := 12

/-- A key of a work queue or CQ table lies in blocks of a half. -/
def inBlocks (h : Half) (stride : Nat) (bs : List Blk) (k : Nat) : Bool :=
  k / stride = h.num && (blkPlace bs (k % stride)).isSome

/-- The frames of a slice in a half's leaves and host-bound queue. -/
def State.sliceFrames (s : State) (h : Half) (id : Nat) : List Frame :=
  ((blkAll ((s.slice id).leaves h)).flatMap fun l => (s.node h 3 l).frames) ++ (s.hostq h id).frames

/-- The traffic manager's part of a slice reset on a half: the frames are discarded and counted, every bucket is full. -/
def State.resetTmgr (s : State) (h : Half) (id : Nat) : State :=
  let x := s.slice id
  let hf := (s.hostq h id).frames
  let n := (s.sliceFrames h id).length
  let nodes := fun (k : Nat) (y : Node) =>
    if k / 65536 = 3 ∧ (blkPlace (x.leaves h) (k % 65536)).isSome then { y.full with frames := [] }
    else if k / 65536 = 2 ∧ x.node h = some (k % 65536) then y.full else y
  let pols := fun (k : Nat) (y : Policer) => if (blkPlace (x.pols h) k).isSome then y.full else y
  let s1 := s.onHalf h fun y =>
    { y with
      tmgr := { y.tmgr with nodes := mmap nodes y.tmgr.nodes, pols := mmap pols y.tmgr.pols, hostq := merase y.tmgr.hostq id }
      cipher := { y.cipher with sas := mdrop (fun k => (blkPlace (x.sas h) k).isSome) y.cipher.sas } }
  (s1.countSlice h id cResetDrop n).pfcAfter hf

/-- A tag's request was issued for a slice (R85). -/
def Tag.ofSlice (t : Tag) (id : Nat) : Bool := t.slice = id

/-- The outstanding tags of requests that satisfy `p` are quarantined until their completion arrives or their timeout expires
(R54, R63). One that its timeout has already quarantined stays so for its further period (R55). -/
def State.quarantine (s : State) (port : Nat) (p : Tag → Bool) : State :=
  let x := s.port port
  s.setPort port { x with tags := mmap (fun _ t => if p t ∧ t.quarantined = false then { t with quarantined := true, discard := false } else t) x.tags }

/-- A QP of a slice back in RESET, still held by it (R81). -/
def qpReset (x : Qp) : Qp := { slice := x.slice, cached := x.cached, lastUse := x.lastUse }

/-- Slice reset: queues to their disabled reset state, windows revoked, QPs to RESET, its frames discarded, buckets full,
SA slots zeroised, tags quarantined; attachments, state, quotas and QoS kept (R81). -/
def State.sliceReset (s : State) (id : Nat) : State :=
  let x := s.slice id
  let h := recHome x.record
  let fk := recFn x.record
  let isQp := fun i => x.qp0 ≤ i && i < x.qp0 + recQps x.record
  let isWq := inBlocks h 65536 x.wqs
  let isCq := fun k => k / 65536 / 3 = h.num && k / 65536 % 3 != 2 && (blkPlace x.cqs (k % 65536)).isSome
  let s1 := { s with
    wqs := mdrop isWq s.wqs
    cqs := mdrop isCq s.cqs
    storage := { s.storage with stqs := mdrop (inBlocks h 4096 x.sqs) s.storage.stqs } }
  let s2 := s1.onHalf h fun y =>
    { y with rdma := { y.rdma with
        qps := mmap (fun i q => if isQp i then qpReset q else q) y.rdma.qps
        wins := mmap (fun w v => if (blkPlace x.wins w).isSome ∧ v.st = .opened then { v with st := .revoked } else v)
                  y.rdma.wins } }
  let f := s2.fn fk
  let s3 := s2.setFn fk { f with held := f.held.filter (fun y => !isCq y.cq), due := f.due.filter (fun y => !isCq y.cq)
                                 heldIrq := f.heldIrq.filter (fun y => y.1 != id) }
  let s4 := ((s3.orphan isWq).resetTmgr .k id).resetTmgr .q id
  let s5 := s4.quarantine (recPort x.record) (Tag.ofSlice · id)
  let s6 := { s5 with storage := { s5.storage with errSeqs := merase s5.storage.errSeqs id } }
  ((s6.setSlice id { s6.slice id with lastMsg := none, heldVecs := [] }).evalGates).tryDetach

/-! ### The end of a slice command (R71, R74) -/

/-- SLICE_CMD_RESULT: BUSY 0, the state and the status (R71). -/
def State.sliceResult (s : State) (ss : Session) (st : SliceSt) (status : Nat) : State :=
  s.setSel ss (obj 0x5000 0x03) (st.code * 256 + status)

/-- The running slice command names a slice. -/
def State.runningCmd (s : State) (id : Nat) : Option SliceCmd :=
  match s.mgmt.sliceQ with
  | [] => none
  | c :: _ => if c.started ∧ recId c.record = id then some c else none

/-- The running slice command ends with a status (R71, R74). -/
def State.endSliceCmd (s : State) (status : Nat) : State :=
  match s.mgmt.sliceQ with
  | [] => s
  | c :: rest =>
    ({ s with mgmt := { s.mgmt with sliceQ := rest } }).sliceResult c.sess (s.slice (recId c.record)).st status

/-! ### Disable and destruction (R83, R85) -/

/-- A slice has no started entry left (R83): no started work-queue, requester or storage entry, and no message in placing. -/
def State.sliceIdle (s : State) (id : Nat) : Bool :=
  let x := s.slice id
  let h := recHome x.record
  (s.wqs.all fun e => !inBlocks h 65536 x.wqs e.1 || e.2.started.isEmpty)
    && ((s.half h).rdma.qps.all fun e =>
        !(x.qp0 ≤ e.1 && e.1 < x.qp0 + recQps x.record) || (e.2.outst.isEmpty && e.2.sq.started.isEmpty && e.2.rq.started.isEmpty))
    && (s.storage.stqs.all fun e => !inBlocks h 4096 x.sqs e.1 || e.2.cmds.all fun c => !c.started)

/-- A work queue of a slice that has been disabled: an open abort ends NOT_FOUND, the head is published (R83, R118). -/
def State.closeQueue (s : State) (q : Nat) : State :=
  let w := s.queue q
  if w.st = .draining then
    let s1 := s.endAbort q stNotFound
    (s1.setQueue q { s1.queue q with st := .disabled }).shadow w.fn q w.head 0
  else s

/-- A storage queue of a slice that has been disabled publishes its head (R83). -/
def State.closeStq (s : State) (k : Nat) : State :=
  let x := s.stq k
  if x.st = .draining then (s.setStq k { x with st := .disabled }).shadow x.fn (stqBase + k) x.published 0 else s

/-- The queues of a slice publish their heads (R83). -/
def State.closeSlice (s : State) (id : Nat) : State :=
  let x := s.slice id
  let h := recHome x.record
  let qs := ((s.wqs.map Prod.fst).filter (inBlocks h 65536 x.wqs))
  let qps := ((s.half h).rdma.qps.map Prod.fst).filter fun i => x.qp0 ≤ i && i < x.qp0 + recQps x.record
  let rq := qps.flatMap fun i => [qpBase + 2 * (h.num * 524288 + i), qpBase + 2 * (h.num * 524288 + i) + 1]
  let st := ((s.storage.stqs.map Prod.fst).filter (inBlocks h 4096 x.sqs))
  st.foldl State.closeStq ((qs ++ rq).foldl State.closeQueue s)

/-- A tag is quarantined for a request of the slice (R85). -/
def State.sliceTags (s : State) (id : Nat) : Bool :=
  (s.port (recPort (s.slice id).record)).tags.any fun e => e.2.quarantined && e.2.slice = id

/-- Every resource of a slice returns to its pool and the slice reads FREE (R85); its requesters' counters and priorities
return to their reset values (R141), its attachments end. -/
def State.freeSlice (s : State) (id : Nat) : State :=
  let x := s.slice id
  let drop := fun (h : Half) (y : HalfSt) =>
    { y with tmgr := { y.tmgr with
        nodes := mdrop (fun k => (k / 65536 = 3 && (blkPlace (x.leaves h) (k % 65536)).isSome)
                          || (k / 65536 = 2 && x.node h = some (k % 65536))) y.tmgr.nodes
        pols := mdrop (fun k => (blkPlace (x.pols h) k).isSome) y.tmgr.pols } }
  let s1 := (s.onHalf .k (drop .k)).onHalf .q (drop .q)
  let h := recHome x.record
  let s2 := s1.onHalf h fun y =>
    { y with rdma := { y.rdma with
        qps := mdrop (fun i => x.qp0 ≤ i && i < x.qp0 + recQps x.record) y.rdma.qps
        wins := mdrop (fun w => (blkPlace x.wins w).isSome) y.rdma.wins } }
  let clear := fun (k : Nat) (a : Arb) =>
    if k = 256 + recPort x.record ∨ k / 256 = 6 then { a with reqs := merase a.reqs id } else a
  let par := fun (m : Map Nat) => merase (merase m (okey 0xA010 2 id)) (okey 0xA400 0x0A id)
  { s2.dropSliceStorage id with
    slices := merase s2.slices id
    arbs := mmap clear s2.arbs
    mgmt := { s2.mgmt with paramsK := par s2.mgmt.paramsK, paramsQ := par s2.mgmt.paramsQ }
  }

/-- A slice in DESTROYING with no quarantined tag left becomes FREE, and its command ends (R85). -/
def State.endDestroy (s : State) (id : Nat) : State :=
  if s.sliceTags id then s
  else
    let s1 := (s.freeSlice id).evalGates
    match s.runningCmd id with
    | some _ => s1.endSliceCmd stOk
    | none => s1

/-- A slice is to be destroyed by the command that runs. -/
def State.destroys (s : State) (id : Nat) : Bool :=
  match s.runningCmd id with
  | some c => recOp c.record = 0x05
  | none => false

/-- A DISABLING slice with no started entry left publishes its heads and reads DISABLED, and the command ends or goes on
to R81; a DESTROYING one ends when its tags are free (R83, R85). -/
def State.settle (s : State) (id : Nat) : State :=
  let x := s.slice id
  if x.st = .disabling ∧ s.sliceIdle id then
    let s1 := s.closeSlice id
    let s2 := s1.setSlice id { s1.slice id with st := .disabled }
    if s2.destroys id then
      let s3 := s2.sliceReset id
      (s3.setSlice id { s3.slice id with st := .destroying }).endDestroy id
    else
      match s2.runningCmd id with
      | some _ => s2.endSliceCmd stOk
      | none => s2
  else if x.st = .destroying then s.endDestroy id
  else s

end Sys2Proof.Machine
end

