-- ==== Sys2Proof/Machine/Mgmt.lean ====
section
/-! DEFINITION. Requests to the dictionary: the objects, the checks of R456, and the answer (15, 16 R431, R432). -/

namespace Sys2Proof.Machine
open Sys2Proof

/-! ### The objects (R383 to R386) -/

/-- Access codes (R385). -/
inductive Acc where
  | ro
  | rw
  | wo
  | rwp
  | const
deriving DecidableEq, Repr

/-- A row of the object tables: the indexes and subindexes it stands for, its access, the length of its type in bytes (0
for OCTETS of 1 to 1,408), whether it is a BOOL, and the roles of reads and writes (1 OBSERVER, 2 OPERATOR, 3 OWNER). -/
structure ObjRow where
  i0   : Nat
  i1   : Nat
  s0   : Nat
  s1   : Nat
  acc  : Acc
  len  : Nat
  bool : Bool := false
  rr   : Nat := 1
  wr   : Nat := 2
deriving DecidableEq, Repr

/-- Objects of this chapter, host ports and the copy engine (R395, R39, R133). -/
def rowsComm : List ObjRow :=
  [⟨0x1000, 0x1000, 1, 1, .const, 2, false, 1, 2⟩, ⟨0x1001, 0x1001, 1, 1, .ro, 4, false, 1, 2⟩,
   ⟨0x1001, 0x1001, 2, 2, .ro, 1, false, 1, 2⟩, ⟨0x1001, 0x1001, 3, 3, .rwp, 2, false, 1, 2⟩,
   ⟨0x1010, 0x1010, 1, 1, .wo, 1, false, 1, 2⟩, ⟨0x1010, 0x1010, 2, 3, .ro, 4, false, 1, 2⟩,
   ⟨0x1011, 0x1011, 1, 1, .wo, 0, false, 1, 2⟩, ⟨0x1011, 0x1011, 2, 2, .wo, 1, false, 1, 3⟩,
   ⟨0x1011, 0x1011, 3, 3, .ro, 4, false, 1, 2⟩, ⟨0x1018, 0x1018, 1, 1, .const, 64, false, 1, 2⟩,
   ⟨0x1020, 0x1020, 1, 8, .wo, 49, false, 1, 3⟩, ⟨0x1021, 0x1021, 1, 2, .const, 6, false, 1, 2⟩,
   ⟨0x1022, 0x1022, 1, 2, .rwp, 40, false, 1, 2⟩, ⟨0x1030, 0x1030, 1, 4, .rwp, 1, false, 1, 2⟩,
   ⟨0x1031, 0x1031, 1, 1, .rwp, 1, false, 1, 2⟩, ⟨0x1100, 0x1102, 1, 4, .rwp, 1, false, 1, 2⟩,
   ⟨0x1103, 0x1103, 1, 4, .ro, 4, false, 1, 2⟩, ⟨0x1104, 0x1104, 1, 4, .rwp, 2, false, 1, 2⟩]

/-- Pace, maintenance, boot, witness and castling objects (R29, R436, R382, R435). -/
def rowsCore : List ObjRow :=
  [⟨0x2000, 0x2000, 1, 1, .rwp, 1, false, 1, 2⟩, ⟨0x2000, 0x2000, 2, 4, .ro, 2, false, 1, 2⟩,
   ⟨0x2000, 0x2000, 5, 5, .ro, 4, false, 1, 2⟩, ⟨0x2000, 0x2000, 6, 6, .ro, 1, false, 1, 2⟩,
   ⟨0x2000, 0x2000, 7, 9, .ro, 4, false, 1, 2⟩, ⟨0x2000, 0x2000, 10, 10, .rwp, 4, false, 1, 2⟩,
   ⟨0x2100, 0x2100, 1, 1, .rwp, 1, false, 1, 2⟩, ⟨0x2100, 0x2100, 2, 2, .rwp, 2, false, 1, 2⟩,
   ⟨0x2100, 0x2100, 3, 3, .rwp, 1, false, 1, 2⟩, ⟨0x2100, 0x2100, 4, 4, .rw, 1, true, 1, 2⟩,
   ⟨0x2100, 0x2100, 5, 5, .wo, 1, false, 1, 3⟩, ⟨0x2100, 0x2100, 6, 6, .ro, 64, false, 1, 2⟩,
   ⟨0x2100, 0x2100, 7, 7, .ro, 32, false, 1, 2⟩,
   ⟨0x2200, 0x2200, 1, 1, .ro, 24, false, 1, 3⟩, ⟨0x2200, 0x2200, 2, 2, .wo, 1, true, 1, 3⟩,
   ⟨0x2200, 0x2200, 3, 3, .rwp, 2, false, 1, 3⟩, ⟨0x2200, 0x2200, 4, 4, .ro, 2, false, 1, 3⟩,
   ⟨0x2200, 0x2200, 5, 5, .wo, 0, false, 1, 3⟩, ⟨0x2200, 0x2200, 6, 6, .wo, 1, false, 1, 3⟩,
   ⟨0x2200, 0x2200, 7, 7, .ro, 4, false, 1, 3⟩, ⟨0x2200, 0x2200, 8, 8, .ro, 32, false, 1, 3⟩,
   ⟨0x2300, 0x2300, 1, 1, .rwp, 1, false, 1, 3⟩, ⟨0x2300, 0x2300, 2, 2, .ro, 16, false, 1, 2⟩,
   ⟨0x2300, 0x2300, 3, 3, .wo, 8, false, 1, 3⟩, ⟨0x2400, 0x2400, 1, 3, .ro, 1, false, 1, 2⟩,
   ⟨0x2400, 0x2400, 4, 4, .ro, 8, false, 1, 2⟩, ⟨0x2400, 0x2400, 5, 5, .ro, 4, false, 1, 2⟩,
   ⟨0x3000, 0x30FF, 1, 4, .rw, 1024, false, 1, 3⟩, ⟨0x3000, 0x3000, 5, 5, .wo, 1, false, 1, 3⟩,
   ⟨0x3000, 0x3000, 6, 6, .ro, 4, false, 1, 2⟩, ⟨0x3000, 0x3000, 7, 7, .ro, 48, false, 1, 2⟩]

/-- Slice manager, slice counters, security, logs and arbiter objects (R71, R86, R382, R428, R142). -/
def rowsSlice : List ObjRow :=
  [⟨0x5000, 0x5000, 1, 1, .ro, 2, false, 1, 2⟩, ⟨0x5000, 0x5000, 2, 2, .wo, 64, false, 1, 2⟩,
   ⟨0x5000, 0x5000, 3, 3, .ro, 4, false, 1, 2⟩, ⟨0x5000, 0x5000, 4, 4, .rw, 2, false, 1, 2⟩,
   ⟨0x5010, 0x5010, 1, 1, .ro, 64, false, 1, 2⟩, ⟨0x5010, 0x5010, 2, 2, .ro, 1, false, 1, 2⟩,
   ⟨0x5020, 0x5021, 1, 10, .ro, 4, false, 1, 2⟩, ⟨0x5022, 0x5022, 1, 5, .ro, 4, false, 1, 2⟩,
   ⟨0x6000, 0x6000, 1, 1, .rw, 2, false, 1, 2⟩, ⟨0x6000, 0x6000, 2, 2, .ro, 128, false, 1, 2⟩,
   ⟨0x6000, 0x6000, 3, 3, .wo, 2, false, 1, 2⟩, ⟨0x6000, 0x6000, 4, 4, .rw, 1, false, 1, 2⟩,
   ⟨0x6000, 0x6000, 5, 5, .ro, 16, false, 1, 2⟩, ⟨0x6000, 0x6000, 6, 6, .wo, 1, false, 1, 2⟩,
   ⟨0x7000, 0x7000, 1, 1, .ro, 4, false, 1, 3⟩, ⟨0x7000, 0x7000, 2, 2, .rw, 1, false, 1, 3⟩,
   ⟨0x7000, 0x7000, 3, 3, .ro, 50, false, 1, 3⟩, ⟨0x7000, 0x7000, 4, 4, .wo, 49, false, 1, 3⟩,
   ⟨0x7000, 0x7000, 5, 7, .wo, 1, false, 1, 3⟩, ⟨0x7000, 0x7000, 8, 8, .wo, 32, false, 1, 3⟩,
   ⟨0x8000, 0x8001, 1, 1, .rw, 8, false, 1, 2⟩, ⟨0x8000, 0x8001, 2, 2, .ro, 1024, false, 1, 2⟩,
   ⟨0x8000, 0x8001, 3, 3, .ro, 24, false, 1, 2⟩, ⟨0x8000, 0x8001, 4, 4, .wo, 8, false, 1, 2⟩,
   ⟨0x8000, 0x8001, 5, 5, .ro, 1024, false, 1, 2⟩, ⟨0x9000, 0x9000, 1, 2, .rw, 2, false, 1, 2⟩,
   ⟨0x9000, 0x9000, 3, 3, .ro, 24, false, 1, 2⟩, ⟨0x9000, 0x9000, 4, 4, .wo, 2, false, 1, 2⟩,
   ⟨0x9000, 0x9000, 5, 5, .rw, 1, false, 1, 2⟩, ⟨0x9000, 0x9000, 6, 6, .rwp, 1, false, 1, 2⟩]

/-- The U64 counter objects (R162, R190, R213, R251, R273, R308, R343, R362, R409, R429). -/
def rowsStat : List ObjRow :=
  [⟨0x6100, 0x610F, 1, 0x21, .ro, 8, false, 1, 2⟩, ⟨0x6200, 0x6201, 1, 0x1A, .ro, 8, false, 1, 2⟩,
   ⟨0x6300, 0x6301, 1, 12, .ro, 8, false, 1, 2⟩, ⟨0x6400, 0x6407, 1, 9, .ro, 8, false, 1, 2⟩,
   ⟨0x6408, 0x6409, 1, 1, .ro, 8, false, 1, 2⟩, ⟨0x6500, 0x6501, 1, 10, .ro, 8, false, 1, 2⟩,
   ⟨0x6600, 0x6601, 1, 16, .ro, 8, false, 1, 2⟩, ⟨0x6700, 0x6701, 1, 10, .ro, 8, false, 1, 2⟩,
   ⟨0x6800, 0x6807, 1, 11, .ro, 8, false, 1, 2⟩, ⟨0x6900, 0x6901, 1, 8, .ro, 8, false, 1, 2⟩,
   ⟨0x6A00, 0x6A01, 1, 6, .ro, 8, false, 1, 2⟩]

/-- Classification and traffic manager objects (R189, R212). -/
def rowsData : List ObjRow :=
  [⟨0xA000, 0xA000, 1, 1, .wo, 112, false, 1, 2⟩, ⟨0xA000, 0xA000, 2, 2, .ro, 2, false, 1, 2⟩,
   ⟨0xA000, 0xA000, 3, 3, .wo, 1, false, 1, 2⟩, ⟨0xA000, 0xA000, 4, 4, .ro, 4, false, 1, 2⟩,
   ⟨0xA000, 0xA000, 5, 5, .wo, 1, true, 1, 2⟩, ⟨0xA000, 0xA000, 6, 6, .rwp, 4, false, 1, 2⟩,
   ⟨0xA000, 0xA000, 7, 7, .rwp, 2, false, 1, 2⟩, ⟨0xA000, 0xA000, 8, 8, .rwp, 1, false, 1, 2⟩,
   ⟨0xA000, 0xA000, 9, 9, .rwp, 40, false, 3, 2⟩, ⟨0xA000, 0xA000, 10, 10, .ro, 8, false, 1, 2⟩,
   ⟨0xA000, 0xA000, 11, 11, .wo, 1, false, 1, 2⟩, ⟨0xA001, 0xA002, 1, 8, .ro, 4, false, 1, 2⟩,
   ⟨0xA010, 0xA010, 1, 1, .rw, 2, false, 1, 2⟩, ⟨0xA010, 0xA010, 2, 2, .rwp, 36, false, 1, 2⟩,
   ⟨0xA020, 0xA021, 1, 7, .rwp, 8, false, 1, 2⟩, ⟨0xA100, 0xA100, 1, 1, .rw, 4, false, 1, 2⟩,
   ⟨0xA100, 0xA100, 2, 2, .rwp, 32, false, 1, 2⟩, ⟨0xA100, 0xA100, 3, 3, .rwp, 64, false, 1, 2⟩,
   ⟨0xA100, 0xA100, 4, 4, .ro, 32, false, 1, 2⟩, ⟨0xA100, 0xA100, 5, 5, .ro, 40, false, 1, 2⟩,
   ⟨0xA100, 0xA100, 6, 6, .rw, 1, false, 1, 2⟩, ⟨0xA100, 0xA100, 7, 7, .rwp, 16, false, 1, 2⟩,
   ⟨0xA100, 0xA100, 8, 8, .rwp, 4, false, 1, 2⟩, ⟨0xA100, 0xA100, 9, 9, .rw, 4, false, 1, 2⟩,
   ⟨0xA100, 0xA100, 10, 10, .rwp, 32, false, 1, 2⟩, ⟨0xA100, 0xA100, 11, 11, .ro, 48, false, 1, 2⟩,
   ⟨0xA100, 0xA100, 12, 12, .ro, 256, false, 1, 2⟩, ⟨0xA100, 0xA100, 13, 13, .wo, 1, false, 1, 2⟩,
   ⟨0xA110, 0xA110, 1, 16, .rwp, 12, false, 1, 2⟩, ⟨0xA111, 0xA111, 1, 16, .rwp, 8, false, 1, 2⟩]

/-- Cipher, RDMA, storage and memory objects (R272, R307, R342, R361). -/
def rowsSvc : List ObjRow :=
  [⟨0xA200, 0xA200, 1, 1, .rwp, 1, false, 1, 3⟩, ⟨0xA200, 0xA200, 2, 2, .rwp, 8, false, 1, 3⟩,
   ⟨0xA200, 0xA200, 3, 3, .rw, 4, false, 1, 3⟩, ⟨0xA200, 0xA200, 4, 4, .rw, 80, false, 1, 3⟩,
   ⟨0xA200, 0xA200, 5, 5, .ro, 48, false, 1, 3⟩, ⟨0xA200, 0xA200, 6, 6, .ro, 16, false, 1, 3⟩,
   ⟨0xA200, 0xA200, 7, 7, .ro, 2, false, 1, 3⟩, ⟨0xA200, 0xA200, 8, 8, .rw, 2, false, 1, 3⟩,
   ⟨0xA200, 0xA200, 9, 9, .ro, 4, false, 1, 3⟩, ⟨0xA200, 0xA200, 10, 10, .rwp, 4, false, 1, 3⟩,
   ⟨0xA200, 0xA200, 11, 11, .wo, 1, false, 1, 2⟩, ⟨0xA210, 0xA210, 1, 16, .rwp, 88, false, 1, 3⟩,
   ⟨0xA300, 0xA300, 1, 1, .rwp, 1, true, 1, 2⟩, ⟨0xA300, 0xA300, 2, 5, .rwp, 2, false, 1, 2⟩,
   ⟨0xA300, 0xA300, 6, 7, .rwp, 4, false, 1, 2⟩, ⟨0xA300, 0xA300, 8, 8, .rwp, 1, false, 1, 2⟩,
   ⟨0xA300, 0xA300, 9, 9, .rw, 4, false, 1, 2⟩, ⟨0xA300, 0xA300, 10, 10, .ro, 128, false, 1, 2⟩,
   ⟨0xA300, 0xA300, 11, 11, .wo, 1, false, 1, 2⟩, ⟨0xA300, 0xA300, 12, 13, .rwp, 1, false, 1, 2⟩,
   ⟨0xA400, 0xA400, 1, 1, .rw, 2, false, 1, 2⟩, ⟨0xA400, 0xA400, 2, 2, .ro, 32, false, 1, 2⟩,
   ⟨0xA400, 0xA400, 3, 3, .wo, 64, false, 1, 2⟩, ⟨0xA400, 0xA400, 4, 4, .ro, 4, false, 1, 2⟩,
   ⟨0xA400, 0xA400, 5, 7, .rwp, 1, false, 1, 2⟩, ⟨0xA400, 0xA400, 8, 8, .rwp, 2, false, 1, 2⟩,
   ⟨0xA400, 0xA400, 9, 9, .rw, 2, false, 1, 2⟩, ⟨0xA400, 0xA400, 10, 10, .rwp, 1, true, 1, 2⟩,
   ⟨0xA400, 0xA400, 11, 11, .rw, 1, false, 1, 2⟩, ⟨0xA400, 0xA400, 12, 12, .ro, 40, false, 1, 2⟩,
   ⟨0xA400, 0xA400, 13, 13, .wo, 1, false, 1, 2⟩, ⟨0xA400, 0xA400, 14, 14, .wo, 72, false, 1, 3⟩,
   ⟨0xA400, 0xA400, 15, 15, .wo, 1, false, 1, 2⟩, ⟨0xA500, 0xA500, 1, 2, .rwp, 1, false, 1, 2⟩,
   ⟨0xA500, 0xA500, 3, 4, .rwp, 2, false, 1, 2⟩, ⟨0xA500, 0xA500, 5, 5, .wo, 1, false, 1, 2⟩,
   ⟨0xA500, 0xA500, 6, 6, .ro, 2, false, 1, 2⟩, ⟨0xA500, 0xA500, 7, 7, .rwp, 2, false, 1, 2⟩,
   ⟨0xA500, 0xA500, 8, 8, .rwp, 1, false, 1, 2⟩, ⟨0xA500, 0xA500, 9, 9, .rwp, 2, false, 1, 2⟩,
   ⟨0xA500, 0xA500, 10, 10, .rwp, 1, false, 1, 2⟩, ⟨0xA500, 0xA500, 11, 11, .rw, 1, false, 1, 2⟩,
   ⟨0xA500, 0xA500, 12, 12, .ro, 32, false, 1, 2⟩, ⟨0xA500, 0xA500, 13, 13, .ro, 192, false, 1, 2⟩,
   ⟨0xA500, 0xA500, 14, 14, .wo, 1, false, 1, 2⟩]

/-- Network port, action program and thread debug objects (R161, R250). -/
def rowsNet : List ObjRow :=
  [⟨0xA600, 0xA600, 1, 1, .rwp, 1, false, 1, 2⟩, ⟨0xA600, 0xA600, 2, 2, .rw, 4, false, 1, 2⟩,
   ⟨0xA600, 0xA600, 3, 3, .wo, 4, false, 1, 2⟩, ⟨0xA600, 0xA600, 4, 4, .rw, 8, false, 1, 2⟩,
   ⟨0xA600, 0xA600, 5, 5, .rwp, 2, false, 1, 2⟩, ⟨0xA600, 0xA600, 6, 6, .wo, 2, false, 1, 2⟩,
   ⟨0xA600, 0xA600, 7, 8, .rwp, 1, false, 1, 2⟩, ⟨0xA610, 0xA612, 1, 16, .rwp, 1, false, 1, 2⟩,
   ⟨0xA613, 0xA613, 1, 16, .rwp, 1, true, 1, 2⟩, ⟨0xA614, 0xA614, 1, 16, .rwp, 2, false, 1, 2⟩,
   ⟨0xA615, 0xA617, 1, 16, .rwp, 1, false, 1, 2⟩, ⟨0xA618, 0xA618, 1, 16, .rwp, 1, true, 1, 2⟩,
   ⟨0xA619, 0xA619, 1, 16, .rwp, 4, false, 1, 2⟩, ⟨0xA61A, 0xA61A, 1, 16, .ro, 4, false, 1, 2⟩,
   ⟨0xA620, 0xA620, 1, 2, .ro, 1, false, 1, 2⟩, ⟨0xA700, 0xA700, 1, 1, .rw, 1, false, 1, 2⟩,
   ⟨0xA700, 0xA700, 2, 2, .wo, 0, false, 1, 2⟩, ⟨0xA700, 0xA700, 3, 3, .wo, 1, false, 1, 2⟩,
   ⟨0xA700, 0xA700, 4, 4, .ro, 4, false, 1, 2⟩, ⟨0xA700, 0xA700, 5, 5, .rw, 1, false, 1, 2⟩,
   ⟨0xA700, 0xA700, 6, 6, .ro, 56, false, 1, 2⟩, ⟨0xA700, 0xA700, 7, 7, .ro, 256, false, 1, 2⟩,
   ⟨0xA720, 0xA720, 1, 1, .rw, 2, false, 3, 3⟩, ⟨0xA720, 0xA720, 2, 2, .wo, 1, false, 3, 3⟩,
   ⟨0xA720, 0xA720, 3, 3, .ro, 16, false, 3, 3⟩, ⟨0xA720, 0xA720, 4, 4, .ro, 256, false, 3, 3⟩,
   ⟨0xA720, 0xA720, 5, 5, .rw, 16, false, 3, 3⟩, ⟨0xA720, 0xA720, 6, 6, .rw, 4, false, 3, 3⟩,
   ⟨0xA720, 0xA720, 7, 7, .ro, 64, false, 3, 3⟩]

/-- The four objects of each unit (R414). -/
def rowsUnit : List ObjRow :=
  [⟨0x4000, 0x4000, 1, 1, .ro, 1, false, 1, 2⟩, ⟨0x4000, 0x4000, 2, 2, .wo, 2, false, 1, 2⟩,
   ⟨0x4000, 0x4000, 3, 3, .ro, 4, false, 1, 2⟩, ⟨0x4000, 0x4000, 4, 4, .ro, 64, false, 1, 2⟩]

/-- An index is the object base of a unit (R414, R15). -/
def unitIndex (i : Nat) : Bool := 0x4000 ≤ i && i < 0x4400 && i % 16 = 0 && (i / 16 % 64) % 32 ≤ 16

/-- The rows of an index. -/
def rowsOf (i : Nat) : List ObjRow :=
  if unitIndex i then rowsUnit
  else
    let all := if i < 0x2000 then rowsComm else if i < 0x5000 then rowsCore
      else if 0x6100 ≤ i ∧ i < 0x7000 then rowsStat else if i < 0xA000 then rowsSlice
      else if i < 0xA200 then rowsData else if i < 0xA600 then rowsSvc else rowsNet
    all.filter fun r => r.i0 ≤ i && i ≤ r.i1

/-- The row of an object; subindex 0 of every index that exists is a CONST U8 (R383). -/
def objRow (i sub : Nat) : Option ObjRow :=
  match rowsOf i with
  | [] => none
  | r :: rest => if sub = 0 then some ⟨i, i, 0, 0, .const, 1, false, 1, 2⟩
                 else (r :: rest).find? fun x => x.s0 ≤ sub && sub ≤ x.s1

/-- The highest subindex of an index (R383). -/
def topSub (i : Nat) : Nat := ((rowsOf i).map (·.s1)).foldl Nat.max 0

/-! ### Sessions and roles (R389, R395, R397) -/

/-- The half a session's transport is on. -/
def sessHalf : Session → Half
  | .mbox p => portHalf p
  | .synrok h _ => h
  | .mctp h _ _ => h

/-- The half whose SUPV serves a request: the primary's, and during a split the half the request reaches (R431). -/
def State.server (s : State) (ss : Session) : Half := if s.cstl.split then sessHalf ss else s.cstl.primary

/-- The bytes of an image slot, 0 A and 1 B (R364). -/
def NonVol.slot (n : NonVol) (i : Nat) : List Byte := if i = 0 then n.slotA else n.slotB

/-- The image slot the primary SUPV runs (R375). -/
def State.runningSlot (s : State) : Nat := if s.cstl.primary = .k then s.trust.slotK else s.trust.slotQ

/-- SEC_VERSION of the running image (R365, R378). -/
def State.secVersion (s : State) : Nat := leAt (s.nv.slot s.runningSlot) 0x00A 2

/-- The value of a sealed secret: one sealed at a higher version reads as absent (R379). -/
def State.unseal (s : State) (x : Option Secret) : Option Nat :=
  match x with
  | some c => if c.v ≤ s.secVersion then some c.val else none
  | none => none

/-- The role of an authentication key; 0 where it is absent (R395). -/
def State.keyRole (s : State) (k : Nat) : Nat :=
  match s.unseal (mfind s.nv.store.keys k) with
  | some v => v % 256
  | none => 0

/-- The role of a request; 0 where it is dropped (R389). -/
def State.role (s : State) (w : Who) : Nat :=
  match w.key with
  | some k => s.keyRole k
  | none =>
    match w.sess with
    | .mbox p => s.param (s.server w.sess) 0x1030 (p.val + 1) 0 3
    | .synrok _ _ => 0
    | .mctp _ _ _ => s.param (s.server w.sess) 0x1031 1 0 1

/-- The session is begun, or its idle time starts anew (R389). -/
def touchIn (l : List Sess) (ss : Session) (now : Nat) : List Sess :=
  match l with
  | [] => [{ sess := ss, last := now, sel := [] }]
  | x :: rest => if x.sess = ss then { x with last := now } :: rest else x :: touchIn rest ss now

def State.touch (s : State) (ss : Session) : State :=
  { s with mgmt := { s.mgmt with sessions := touchIn s.mgmt.sessions ss (s.time (s.server ss)) } }

/-! ### Custody and the other half's objects (R431, R432) -/

/-- An object of the device-wide state of R432, SLICE_CMD apart. -/
def custodyObj (i sub : Nat) : Bool :=
  (i = 0x2000 && (sub = 1 || sub = 10)) || i = 0x2100 || (i = 0x2300 && sub != 3)
    || (i = 0xA200 && (sub = 1 || sub = 2 || sub = 10)) || (i = 0x1001 && sub = 3) || i = 0x1020 || i = 0x7000 || i = 0x2200

/-- The half whose units, ports, counters or log an object is of, if it is of one half (R431). -/
def objHalf (i sub : Nat) : Option Half :=
  if unitIndex i then some (halfOf (i / 512 % 2))
  else if 0x6100 ≤ i ∧ i ≤ 0x610F then some (ethHalf (i - 0x6100))
  else if 0x6400 ≤ i ∧ i ≤ 0x6407 then some (nibHalf (i - 0x6400))
  else if i = 0x6408 then some .k
  else if i = 0x6409 then some .q
  else if 0x6800 ≤ i ∧ i ≤ 0x6807 then some (chanHalf (i - 0x6800))
  else if 0x6200 ≤ i ∧ i < 0x6B00 then some (halfOf (i % 2))
  else if i = 0x8000 ∨ i = 0x8001 then some (halfOf (i % 2))
  else if i = 0xA001 ∨ i = 0xA002 then some (halfOf (i - 0xA001))
  else if i = 0xA020 ∨ i = 0xA021 ∨ i = 0x5020 ∨ i = 0x5021 then some (halfOf (i % 2))
  else if sub = 0 then none
  else if (0xA610 ≤ i ∧ i ≤ 0xA61A) ∨ i = 0xA110 ∨ i = 0xA111 ∨ i = 0xA210 then some (ethHalf (sub - 1))
  else if 0x1100 ≤ i ∧ i ≤ 0x1104 then some (portHalf (sub - 1))
  else none

/-- A request must be refused: during a split the object is the other half's (R431). -/
def State.otherHalf (s : State) (ss : Session) (i sub : Nat) : Bool :=
  s.cstl.split && match objHalf i sub with
    | some h => h != s.server ss
    | none => false

/-- The serving half may change device-wide state (R432). -/
def State.custody (s : State) (ss : Session) : Bool := !s.cstl.split || (s.half (s.server ss)).cust.holds

/-- A divergent change is recorded on the serving half during a split (R432). -/
def State.diverge (s : State) (ss : Session) (i sub detail : Nat) : State :=
  if s.cstl.split then
    s.onHalf (s.server ss) fun x => { x with cust := { x.cust with divergent := x.cust.divergent ++ [(i, sub, detail)] } }
  else s

/-! ### The checks of R456 -/

/-- In RECOVERY only these requests are accepted, and no role is required (R376). -/
def recoveryOk (write : Bool) (i sub : Nat) : Bool :=
  (i = 0x2200 && 5 ≤ sub && sub ≤ 7) || (!write && (i = 0x1018 || (i = 0x7000 && (sub = 1 || sub = 3))))

/-- The role a write needs, which for some objects depends on the value: PACE_MODE MAX (R24), STORE_CMD DEFAULTS (R392),
UNIT_CMD with FORCE (R414). -/
def writeRole (r : ObjRow) (i sub v : Nat) : Nat :=
  if (i = 0x2000 && sub = 1 && v = 2) || (i = 0x1010 && sub = 1 && v = 2) || (unitIndex i && sub = 2 && 32768 ≤ v) then 3
  else r.wr

/-- The status of the checks 3 to 6 of R456 and of the refusal of R248; 0 where all pass. -/
def State.early (s : State) (w : Who) (write : Bool) (i sub : Nat) (data : List Byte) : Nat :=
  match objRow i sub with
  | none => rsNotFound
  | some r =>
    if s.board.boot = .recovery ∧ ¬ recoveryOk write i sub then rsRefused
    else if s.board.boot ≠ .recovery ∧ s.role w < (if write then writeRole r i sub (leNat data) else r.rr) then rsDenied
    else if i = 0xA720 ∧ s.nv.programBlown then rsRefused
    else if write ∧ (r.acc = .ro ∨ r.acc = .const) then rsRefused
    else if ¬ write ∧ r.acc = .wo ∧ ¬ (i = 0x7000 ∧ sub = 8) then rsRefused
    else if write ∧ r.len = 0 ∧ (data.length = 0 ∨ 1408 < data.length) then rsMalformed
    else if write ∧ r.len ≠ 0 ∧ data.length ≠ r.len then rsMalformed
    else 0

/-- A value of a BOOL is out of range (R384). -/
def boolBad (i sub v : Nat) : Bool :=
  match objRow i sub with
  | some r => r.bool && 1 < v
  | none => false

/-- Every request is answered busy: a handover runs (R374). -/
def State.mgmtBusy (s : State) : Bool := s.trust.handover.isSome

/-- Requests are answered at all: the device runs, streams or recovers, and the serving SUPV is up (R367, R376, R424). -/
def State.served (s : State) (ss : Session) : Bool :=
  s.board.boot != .inReset && (s.half (s.server ss)).supvUp

/-- A status is counted (R409). -/
def State.countStatus (s : State) (h : Half) (st : Nat) : State :=
  if st = rsDenied then s.countH 0x6900 h 6 1
  else if st = rsBusy then s.countH 0x6900 h 7 1
  else if st = rsMalformed then s.countH 0x6900 h 8 1
  else s

/-- What came of a request: the state, and the status and data of the response, none where it was dropped. -/
abbrev Reply := State × Option (Nat × List Byte)

/-- A request ends with a status and no effect. -/
def State.answer (s : State) (w : Who) (st : Nat) : Reply := (s.countStatus (sessHalf w.sess) st, some (st, []))

/-- A request is accepted: counted, and its session touched; none where it is dropped: nothing serves it, its key is
absent, or it is not authenticated and the role is 0 (R389, R397). -/
def State.accept (s : State) (w : Who) : Option State :=
  if s.served w.sess = false then none
  else if s.board.boot ≠ .recovery ∧ s.role w = 0 then none
  else some ((s.countH 0x6900 (sessHalf w.sess) 1 1).touch w.sess)

/-- A dropped request: REQUESTS and AUTH_FAIL count it (R397, R399, R409). -/
def State.dropRequest (s : State) (w : Who) : State :=
  if s.served w.sess then (s.countH 0x6900 (sessHalf w.sess) 1 1).countH 0x6900 (sessHalf w.sess) 2 1 else s

/-- A write request (R385, R456): `busy` says that a previous command of the object has not finished, `sel` that the
selection it depends on names an object, and `act` is the effect, none where the value or the state of the device is
refused. -/
def State.write (s : State) (w : Who) (i sub : Nat) (data : List Byte) (busy sel : State → Bool)
    (act : State → Option State) : Reply :=
  match s.accept w with
  | none => (s.dropRequest w, none)
  | some s1 =>
    let e := s1.early w true i sub data
    if e ≠ 0 then s1.answer w e
    else if s1.board.boot = .streaming ∨ s1.mgmtBusy ∨ busy s1 then s1.answer w rsBusy
    else if sel s1 = false then s1.answer w rsNotFound
    else if boolBad i sub (leNat data) ∨ s1.otherHalf w.sess i sub ∨ (custodyObj i sub ∧ s1.custody w.sess = false) then
      s1.answer w rsRefused
    else
      match act s1 with
      | none => s1.answer w rsRefused
      | some s2 => ((if custodyObj i sub then s2.diverge w.sess i sub 0 else s2), some (rsOk, []))

/-- A read request (R385, R456): `sel` says that the selection names an object, `act` gives the value, none where the
state of the device refuses it. -/
def State.readReq (s : State) (w : Who) (i sub : Nat) (sel : State → Bool) (act : State → Option (State × List Byte)) : Reply :=
  match s.accept w with
  | none => (s.dropRequest w, none)
  | some s1 =>
    let e := s1.early w false i sub []
    if e ≠ 0 then s1.answer w e
    else if s1.mgmtBusy then s1.answer w rsBusy
    else if sel s1 = false then s1.answer w rsNotFound
    else if s1.otherHalf w.sess i sub then s1.answer w rsRefused
    else
      match act s1 with
      | none => s1.answer w rsRefused
      | some (s2, d) => (s2, some (rsOk, d))

/-- The state after a request, its response sent to the session (R387). -/
def Reply.state (w : Who) (r : Reply) : State :=
  match r.2 with
  | some (st, d) => r.1.emit (.resp w.sess st d)
  | none => r.1

/-- The outcome of a command that is one request. -/
def Reply.out (w : Who) (r : Reply) : Out := .next (r.state w)

/-- No previous command, no selection. -/
def idle (_ : State) : Bool := false
def always (_ : State) : Bool := true

/-- A halves mask names only halves, and during a split none but the serving one (R431). -/
def State.maskOk (s : State) (ss : Session) (v : Nat) : Bool :=
  v < 4 && !(s.cstl.split && inMask v (s.server ss).other)

/-- What `f` does to a half, for each half a mask names. -/
def State.forMask (s : State) (v : Nat) (f : State → Half → State) : State :=
  let s1 := if inMask v .k then f s .k else s
  if inMask v .q then f s1 .q else s1

/-- A write of a CNT_CLEAR object that takes a halves mask. -/
def State.maskClear (s : State) (w : Who) (i sub v : Nat) (f : State → Half → State) : Reply :=
  s.write w i sub (leBytes 1 v) idle always fun a => if a.maskOk w.sess v then some (a.forMask v f) else none

/-- The object key by which a session keeps a selection or result object. -/
def selKey (i sub : Nat) : Nat := obj i sub

/-- The result of a command object of a session, BUSY apart: its status (R71, R250 and the others). -/
def State.mgmtResult (s : State) (ss : Session) (i sub st : Nat) : State := s.setSel ss (selKey i sub) st

end Sys2Proof.Machine
end

