-- ==== Sys2Proof/Machine/TrustOps.lean ====
section
/-! DEFINITION. Signed envelopes, slot state records, key derivation by version, and the calibration set's checks (14, 15
R405 to R407). -/

namespace Sys2Proof.Machine
open Sys2Proof

/-! ### The envelope (R365, R366) -/

/-- Every byte of a range is zero. -/
def zeroAt (bs : List Byte) (off len : Nat) : Bool := (slice bs off len).all (· = 0)

def envType (bs : List Byte) : Nat := leAt bs 0x008 1
def envKeySlot (bs : List Byte) : Nat := leAt bs 0x009 1
def envSecVersion (bs : List Byte) : Nat := leAt bs 0x00A 2
def envPayloadLen (bs : List Byte) : Nat := leAt bs 0x010 8
def envBuild (bs : List Byte) : Nat := leAt bs 0x018 8

/-- The payload of an image. -/
def envPayload (bs : List Byte) : List Byte := slice bs 0x2000 (envPayloadLen bs)

/-- The signed part. -/
def envSigned (bs : List Byte) : List Byte := slice bs 0 0x80

/-- ENV_HASH: the first 32 bytes of the SHA-384 of the signed part (R370). -/
def envHash (bs : List Byte) : Nat := (Config.sha384 (envSigned bs)).toNat / 2 ^ 128

/-- The SHA-384 of the two public keys in the envelope (R365). -/
def envKeyHash (bs : List Byte) : Nat := (Config.sha384 (slice bs 0x080 96 ++ slice bs 0x140 2592)).toNat

/-- The usage bit an image type needs: 0 for SUPV, 1 for ACTION and PROFILE (R363, R366). -/
def usageBit (type : Nat) : Nat := if type = 1 then 0 else 1

/-- A key slot is programmed, not revoked, has a usage, and its hash is the given one (R366). -/
def NonVol.keyOk (n : NonVol) (slot bitNo hash : Nat) : Bool :=
  match mfind n.keySlots slot with
  | some k => !k.revoked && (k.usage / 2 ^ bitNo) % 2 = 1 && k.hash = hash
  | none => false

/-- A key slot is programmed: its usage is (R363). -/
def NonVol.programmed (n : NonVol) (slot : Nat) : Bool :=
  match mfind n.keySlots slot with
  | some k => k.usage != 0
  | none => false

/-- The version floor: 1,024 for each floor bit blown (R363). -/
def NonVol.floor (n : NonVol) : Nat := 1024 * n.floorBits

/-- Checks 1 to 5 of R366 on an image of a type whose payload may hold `limit` bytes: OK, MALFORMED or INTEGRITY. -/
def NonVol.checkEnvelope (n : NonVol) (type limit : Nat) (bs : List Byte) : Nat :=
  if slice bs 0 4 ≠ [0x4F, 0x58, 0x49, 0x4D] ∨ leAt bs 4 2 ≠ 1 ∨ zeroAt bs 0x00C 4 = false ∨ zeroAt bs 0x050 0x30 = false
      ∨ zeroAt bs 0x1D73 0x28D = false ∨ limit < envPayloadLen bs then stMalformed
  else if leAt bs 6 2 ≠ 0x1600 then stIntegrity
  else if envType bs ≠ type ∨ n.keyOk (envKeySlot bs) (usageBit type) (envKeyHash bs) = false then stIntegrity
  else if Config.ecdsaOk (slice bs 0x080 96) (slice bs 0x0E0 96) (envSigned bs) = false
      ∨ Config.mldsaOk (slice bs 0x140 2592) (slice bs 0xB60 4627) (envSigned bs) = false then stIntegrity
  else if type = 1 ∧ envSecVersion bs < n.floor then stIntegrity
  else stOk

/-- All checks of R366. -/
def NonVol.checkImage (n : NonVol) (type limit : Nat) (bs : List Byte) : Nat :=
  let e := n.checkEnvelope type limit bs
  if e ≠ stOk then e
  else if Config.sha384 (envPayload bs) = BitVec.ofNat 384 (beAt bs 0x020 48) then stOk
  else stIntegrity

/-- The longest payload of a SUPV image (R365). -/
def supvLimit : Nat := 12 * 1048576 - 8192

/-! ### Slot state records (R370, R371) -/

def slErased : Nat := 1
def slTrial : Nat := 2
def slTried : Nat := 3
def slValid : Nat := 4
def slRejected : Nat := 5

/-- The record of a slot with the highest sequence in a list. -/
def lastRec (l : List SlotRec) (slot : Nat) : Option SlotRec :=
  match l with
  | [] => none
  | r :: rest =>
    match lastRec rest slot with
    | some x => if r.slot = slot ∧ x.seq < r.seq then some r else some x
    | none => if r.slot = slot then some r else none

/-- The record that gives a slot's state: the highest sequence in either sector (R370). -/
def NonVol.slotRec (n : NonVol) (slot : Nat) : Option SlotRec := lastRec (n.sector0 ++ n.sector1) slot

/-- The state of a slot; ERASED where it has no record. -/
def NonVol.slotState (n : NonVol) (slot : Nat) : Nat :=
  match n.slotRec slot with
  | some r => r.state
  | none => slErased

/-- One above the highest sequence in either sector (R370). -/
def NonVol.nextSeq (n : NonVol) : Nat := ((n.sector0 ++ n.sector1).map (·.seq)).foldl Nat.max 0 + 1

/-- A sector with a record appended; a full one of 64 records is compacted to the latest record of each slot first (R371). -/
def sectorAdd (l : List SlotRec) (r : SlotRec) : List SlotRec :=
  (if l.length < 64 then l else (lastRec l 0).toList ++ (lastRec l 1).toList) ++ [r]

/-- A record is appended to sector 0 and then to sector 1 (R370). -/
def NonVol.record (n : NonVol) (slot state : Nat) : NonVol :=
  let r : SlotRec := { slot := slot, state := state, seq := n.nextSeq, envHash := envHash (n.slot slot),
                       secVersion := envSecVersion (n.slot slot) }
  { n with sector0 := sectorAdd n.sector0 r, sector1 := sectorAdd n.sector1 r }

/-- The slot with the highest VALID record, if any (R373, R374). -/
def NonVol.validSlot (n : NonVol) : Option Nat :=
  let a := if n.slotState 0 = slValid then n.slotRec 0 else none
  let b := if n.slotState 1 = slValid then n.slotRec 1 else none
  match a, b with
  | some x, some y => some (if x.seq < y.seq then 1 else 0)
  | some _, none => some 0
  | none, some _ => some 1
  | none, none => none

/-- A slot may be booted: VALID or TRIAL, and its ENV_HASH matches its envelope (R370). -/
def NonVol.bootable (n : NonVol) (slot : Nat) : Bool :=
  match n.slotRec slot with
  | some r => (r.state = slValid || r.state = slTrial) && r.envHash = envHash (n.slot slot)
  | none => false

/-- Bootable, and its envelope passes checks 1 to 5 (R367). -/
def NonVol.bootOk (n : NonVol) (slot : Nat) : Bool :=
  n.bootable slot && n.checkEnvelope 1 supvLimit (n.slot slot) = stOk

/-- The sequence of a slot's record. -/
def NonVol.slotSeq (n : NonVol) (slot : Nat) : Nat :=
  match n.slotRec slot with
  | some r => r.seq
  | none => 0

/-- The slot the boot ROM chooses: of those that pass, the one of the higher sequence (R367, R370). -/
def NonVol.chooseSlot (n : NonVol) : Option Nat :=
  if n.bootOk 0 ∧ n.bootOk 1 then some (if n.slotSeq 0 < n.slotSeq 1 then 1 else 0)
  else if n.bootOk 0 then some 0
  else if n.bootOk 1 then some 1
  else none

/-- Every slot found TRIED is rejected (R370). -/
def NonVol.rejectTried (n : NonVol) : NonVol :=
  let m := if n.slotState 0 = slTried then n.record 0 slRejected else n
  if m.slotState 1 = slTried then m.record 1 slRejected else m

/-- The bytes of a slot replaced. -/
def NonVol.setSlot (n : NonVol) (i : Nat) (bs : List Byte) : NonVol :=
  if i = 0 then { n with slotA := bs } else { n with slotB := bs }

/-! ### Sealed secrets (R379) -/

/-- The secrets a firmware of version v unseals are sealed again at v (R379). -/
def reseal (v : Nat) (c : StoreCopy) : StoreCopy :=
  { c with
    kwk := c.kwk.map fun x => if x.v ≤ v then { x with v := v } else x
    keys := mmap (fun _ x => if x.v ≤ v then { x with v := v } else x) c.keys }

/-! ### The calibration set (R405 to R407) -/

/-- A block of 1,024 bytes of the factory content. -/
def factoryBlock (b : Nat) : List Byte := (List.range 1024).map fun i => Config.calFactory (b * 1024 + i)

/-- A block of the stored set. -/
def NonVol.calBlock (n : NonVol) (b : Nat) : List Byte :=
  match mfind n.cal b with
  | some x => x
  | none => factoryBlock b

/-- The content of a page of the stored set. -/
def NonVol.calPage (n : NonVol) (p : Nat) : List Byte :=
  n.calBlock (4 * p) ++ n.calBlock (4 * p + 1) ++ n.calBlock (4 * p + 2) ++ n.calBlock (4 * p + 3)

/-- The CRC-32C of bytes 0 to 4,091 lies in the last four bytes of the page (R405). -/
def pageCrcOk (bs : List Byte) : Bool := (crc32c (slice bs 0 4092)).toNat = leAt bs 4092 4

/-- A page of the stored set passes its check: one never written holds the factory's (R405, R407). -/
def NonVol.pageOk (n : NonVol) (p : Nat) : Bool :=
  !n.calBad.contains p &&
    (pageCrcOk (n.calPage p) || (List.range 4).all fun i => (mfind n.cal (4 * p + i)).isNone)

/-- Pages `lo` to `lo + count − 1` pass, and so does the header (R405). -/
def NonVol.sectionOk (n : NonVol) (lo count : Nat) : Bool := n.pageOk 0 && (List.range count).all fun i => n.pageOk (lo + i)

/-- The pace and thermal trims pass (R28, R405). -/
def NonVol.trimsOk (n : NonVol) : Bool := n.sectionOk 0xC1 32 && n.sectionOk 0xE1 16

/-- The SERDES trims pass (R405). -/
def NonVol.serdesOk (n : NonVol) : Bool := n.sectionOk 1 64

/-- A page of free bytes with a good check (R352, R405). -/
def freePage (draw p : Nat) : List Byte :=
  let body := (List.range 4092).map fun i => Config.calByte draw (p * 4096 + i)
  body ++ leBytes 4 (crc32c body).toNat

/-- A page of the stored set written. -/
def NonVol.writePage (n : NonVol) (p : Nat) (bs : List Byte) : NonVol :=
  { n with
    cal := mput (mput (mput (mput n.cal (4 * p) (slice bs 0 1024)) (4 * p + 1) (slice bs 1024 1024)) (4 * p + 2)
             (slice bs 2048 1024)) (4 * p + 3) (slice bs 3072 1024)
    calBad := n.calBad.erase p }

/-- A block of the working copy (R406). -/
def State.workBlock (s : State) (b : Nat) : List Byte :=
  match mfind s.mgmt.calWork b with
  | some x => x
  | none => s.nv.calBlock b

/-- A page of the working copy. -/
def State.workPage (s : State) (p : Nat) : List Byte :=
  s.workBlock (4 * p) ++ s.workBlock (4 * p + 1) ++ s.workBlock (4 * p + 2) ++ s.workBlock (4 * p + 3)

/-- The pages that differ from the store, ascending (R406). -/
def State.changedPages (s : State) : List Nat := ((s.mgmt.calWork.map fun e => e.1 / 4).eraseDups)

/-- A commit is cut short: the pages before the one in progress hold the new content, those after it the old, and it
fails its check (R407). -/
def State.tearCal (s : State) : State :=
  let ps := s.changedPages
  if s.mgmt.calBusy then
    let k := Config.calTorn s.fresh % ps.length
    let n1 := (ps.take k).foldl (fun n p => n.writePage p (s.workPage p)) s.nv
    let n2 := match ps[k]? with
      | some p =>
        let n3 := n1.writePage p ((List.range 4096).map fun i => Config.calByte s.fresh (p * 4096 + i))
        { n3 with calBad := p :: n3.calBad }
      | none => n1
    { s with nv := n2, fresh := s.fresh + 1 }
  else s

end Sys2Proof.Machine
end

