-- ==== Sys2Proof/Machine/QueueOps.lean ====
section
/-! DEFINITION. Work entries, tags, transmit steering, and the registers of queue frames (02 R54, 04, 07 R171, R184). -/

namespace Sys2Proof.Machine
open Sys2Proof

/-! ### Work entries (R92 to R96) -/

/-- The bytes of an entry. -/
def Entry.bytes (e : Entry) : List Byte := e.slots.flatMap fun u => leBytes 64 u.toNat

/-- A field of an entry's first unit. -/
def Entry.field (e : Entry) (lo w : Nat) : Nat := fld (e.slots.headD 0) lo w

def Entry.opcode (e : Entry) : Nat := e.field 16 8

/-- The slots UNITS names. -/
def Entry.units (e : Entry) : Nat := e.field 24 3 + 1

def Entry.frameLen (e : Entry) : Nat := e.field 48 16
def Entry.isInline (e : Entry) : Bool := e.field 35 1 = 1
def Entry.txMeta (e : Entry) : Nat := leAt e.bytes 8 4

/-- The lengths of the first `n` pieces that begin at byte `off` (R94). -/
def pieceLens (bs : List Byte) (off n : Nat) : List Nat := (List.range n).map fun i => leAt bs (off + 16 * i + 8) 4

/-- A piece length of an Ethernet entry is outside its range (R94, R96). -/
def badPiece (n : Nat) : Bool := n = 0 || 10236 < n

/-- The slots an ETH_SEND needs (R96). -/
def Entry.ethNeed (e : Entry) : Nat :=
  if e.isInline then (16 + e.frameLen + 63) / 64
  else if e.field 43 5 ≤ 3 then 1 else 1 + (e.field 43 5) / 4

/-- An ETH_SEND entry is malformed (R94, R96). -/
def Entry.sendBad (e : Entry) : Bool :=
  let ps := pieceLens e.bytes 16 (e.field 43 5)
  e.frameLen < 14 || 10236 < e.frameLen || e.units != e.ethNeed
    || (if e.isInline then e.field 43 5 != 0
        else e.field 43 5 = 0 || ps.any badPiece || ps.sum != e.frameLen)

/-- An ETH_RECV entry is malformed (R95, R96). -/
def Entry.recvBad (e : Entry) : Bool :=
  e.field 32 2 = 0 || e.units != 1 || (pieceLens e.bytes 16 (e.field 32 2)).any badPiece

/-- The bytes the pieces of a receive entry hold (R95). -/
def Entry.recvRoom (e : Entry) : Nat := (pieceLens e.bytes 16 (e.field 32 2)).sum

/-- An entry of an Ethernet work queue is malformed (R93, R96). -/
def Wq.ethBad (w : Wq) (e : Entry) : Bool :=
  if e.opcode = 0 then e.units != 1
  else if e.opcode = 1 then w.rx || e.sendBad
  else if e.opcode = 2 then !w.rx || e.recvBad
  else true

/-- Exactly `n` bytes: data that was read, cut or padded with zeros to the length asked for. -/
def fit (n : Nat) (bs : List Byte) : List Byte := slice bs 0 n

/-! ### Tags (R54) -/

/-- The tag values a function may take: the first, and how many (R54). -/
def Fn.tagRange (f : Fn) : Nat × Nat := if f.tag14 then (0, 4096) else if f.tag10 then (256, 768) else (0, 256)

/-- A free value of a function's range, sought from the one after the value last taken (R54, R64). -/
def State.freeTag (s : State) (fk : Nat) : Option Nat :=
  let p := s.port (keyPort fk)
  let lo := (s.fn fk).tagRange.1
  let n := (s.fn fk).tagRange.2
  let first := if lo ≤ p.nextTag ∧ p.nextTag < lo + n then p.nextTag - lo else 0
  ((List.range n).map fun i => lo + (first + i) % n).find? fun v => (mfind p.tags v).isNone

/-- A read request takes a tag; nothing where none is free and the request waits (R54). -/
def State.issueRead (s : State) (fk sl kind queue : Nat) (entry : BitVec 16) : Option State :=
  match s.freeTag fk with
  | none => none
  | some v =>
    let p := s.port (keyPort fk)
    let t : Tag := { fn := fk, slice := sl, kind := kind, queue := queue, entry := entry, since := s.time (portHalf (keyPort fk)) }
    some (s.setPort (keyPort fk) { p with tags := mput p.tags v t, nextTag := v + 1 })

/-! ### The metadata word (R171) -/

def mdSlice (m : BitVec 256) : Nat := fld m 60 12
def mdQueue (m : BitVec 256) : Nat := fld m 44 16
def mdLeaf (m : BitVec 256) : Nat := fld m 28 16
def mdPolicer (m : BitVec 256) : Nat := fld m 12 16
def mdAprog (m : BitVec 256) : Nat := fld m 5 7
def mdVerdict (m : BitVec 256) : Nat := fld m 3 2
def mdMirror (m : BitVec 256) : Nat := fld m 0 3
def mdChosen (m : BitVec 256) : Bool := bit m 143
def mdUser0 (m : BitVec 256) : Nat := fld m 224 32
def mdFlowHash (m : BitVec 256) : Nat := fld m 160 32
def mdRoce (m : BitVec 256) : Bool := bit m 132
def mdL3 (m : BitVec 256) : Nat := fld m 120 8
def mdL4 (m : BitVec 256) : Nat := fld m 112 8

/-! ### Frames between the units -/

/-- A frame joins the frames of a half that are between two steps of R34 or R35. -/
def State.addFlight (s : State) (h : Half) (f : Frame) : State :=
  s.onHalf h fun x => { x with cls := { x.cls with flight := x.cls.flight ++ [f] } }

/-- The frames of a half between two steps, replaced. -/
def State.setFlight (s : State) (h : Half) (l : List Frame) : State :=
  s.onHalf h fun x => { x with cls := { x.cls with flight := l } }

/-- The first element that satisfies `p`, taken out of a list. -/
def takeFirst {α : Type} (p : α → Bool) (l : List α) : Option (α × List α) :=
  match l with
  | [] => none
  | x :: rest =>
    if p x then some (x, rest)
    else
      match takeFirst p rest with
      | some (y, r) => some (y, x :: r)
      | none => none

/-- The oldest frame of a half that waits for a step and satisfies `p`, and the device without it. -/
def State.takeFlight (s : State) (h : Half) (p : Frame → Bool) : Option (Frame × State) :=
  match takeFirst p (s.half h).cls.flight with
  | some (f, rest) => some (f, s.setFlight h rest)
  | none => none

/-! ### Transmit steering (R172, R184) -/

/-- A TX_STEER record that permits no port, with no default leaf (R184). -/
def steerDefault : Nat := ((List.range 16).map fun i => 0xFFFF * 2 ^ (32 + 16 * i)).sum

def State.txSteer (s : State) (h : Half) (id : Nat) : Nat := s.param h 0xA010 2 id steerDefault

/-- The destination port that TX_META and a TX_STEER record name; none where the mask does not permit it (R184). -/
def steerPort (steer txMeta : Nat) : Option Nat :=
  let n := if txMeta / 2 ^ 31 % 2 = 1 then txMeta / 2 ^ 27 % 16 else steer / 65536 % 256
  if n < 16 ∧ steer / 2 ^ n % 2 = 1 then some n else none

/-- The default leaf of a TX_STEER record for a port. -/
def steerLeaf (steer n : Nat) : Nat := steer / 2 ^ (32 + 16 * n) % 65536

/-- The frame bytes padded to 60 (R94). -/
def padFrame (bs : List Byte) : List Byte := bs ++ List.replicate (60 - bs.length) 0

/-- A frame that a slice sends to a port, as it enters step 2 of R35: USER0, DIR 1, SOURCE, CHOSEN, SLICE and the default
leaf (R94, R172, R184). -/
def txFrame (id n leaf txMeta : Nat) (bs : List Byte) : Frame :=
  { bytes := padFrame bs, dir := true, port := n, stage := .parse
    md := BitVec.ofNat 256 (txMeta * 2 ^ 224 + 2 ^ 159 + id * 2 ^ 144 + 2 ^ 143 + id * 2 ^ 60 + leaf * 2 ^ 28) }

/-- An ETH_SEND whose data has been gathered: its frame goes to the half of its destination port; a port that steering
refuses ends it ACCESS, and a port of the other half ends it OTHER_HALF during a split (R184, R431). A queue outside slices
has no TX_STEER record, so no port is permitted to it. -/
def State.transmit (s : State) (q : Nat) (e : Entry) (bs : List Byte) (canWrite : Bool) : State :=
  let w := s.queue q
  let h := qHalf q
  let denied := (s.countSlice h w.slice cTxDenied 1).finish q e stAccess 0 0 0 canWrite
  if 4096 ≤ w.slice then denied
  else
    match steerPort (s.txSteer h w.slice) e.txMeta with
    | none => denied
    | some n =>
      if ethHalf n ≠ h ∧ (s.cstl.split ∨ (s.half (ethHalf n)).stopped) then s.finish q e stOtherHalf 0 0 0 canWrite
      else
        let f := txFrame w.slice n (steerLeaf (s.txSteer h w.slice) n) e.txMeta bs
        s.addFlight (ethHalf n) { f with wq := q, entry := e.index, opspec := BitVec.ofNat 32 (e.field 32 32) }

/-! ### The end of work of a queue's slice -/

/-- After work of a queue has ended, its slice may have none left (R83). -/
def State.settleQueue (s : State) (q : Nat) : State :=
  if (s.queue q).slice < 4096 then s.settle (s.queue q).slice else s

/-! ### Registers of frames (R44, R69) -/

/-- A write to a queue, CQ or window frame through a function's BAR0: a foreign frame is ignored and counted (R69). -/
def State.onFrame (s : State) (q : QRef) (kind : Nat) (f : Half → Nat → Nat → State → State) : State :=
  s.access (fkey q.fn) fun a =>
    match a.frame q.fn kind q.frame with
    | .hit h e sl => f h e sl a
    | .foreign => a.foreign q.fn
    | .nothing => a

/-- A read of a frame's register: 0 where the function holds no such frame (R69). -/
def State.readFrame (s : State) (q : QRef) (kind : Nat) (f : Half → Nat → State → State) : State :=
  s.access (fkey q.fn) fun a =>
    match a.frame q.fn kind q.frame with
    | .hit h e _ => f h e a
    | _ => a.emit (.read 0)

/-- A function's frame is one of a work queue: of PF1 and its VFs (R44). -/
def netRef (q : QRef) : Bool := fnPf q.fn.num = 1

/-- The key of a work queue, and of a CQ reached through a function. -/
def wqKey (h : Half) (e : Nat) : Nat := h.num * 65536 + e
def cqFrameKey (q : QRef) (h : Half) (e : Nat) : Nat :=
  (h.num * 3 + (if netRef q then 0 else if fnPf q.fn.num = 3 then 2 else 1)) * 65536 + e

/-- The function that holds a frame: the slice's, or the one it is reached through. -/
def State.frameFn (s : State) (q : QRef) (sl : Nat) : Nat := if sl < 4096 then recFn (s.slice sl).record else fkey q.fn

/-! ### Doorbells (R90, R101, R102) -/

/-- A doorbell value may be taken: not backward, and within the ring from the oldest uncompleted entry (R90). -/
def Wq.doorbellOk (w : Wq) (pi : BitVec 16) : Bool :=
  dist w.oldest w.doorbell ≤ dist w.oldest pi && dist w.oldest pi ≤ 2 ^ w.logSize

/-- The units of the push window that a doorbell takes, by slot index (R102). -/
def Wq.takePush (w : Wq) (pi : BitVec 16) : Map (BitVec 512) :=
  w.push.foldl (fun m u => if u.2.2 ∧ u.1 < dist w.doorbell pi then mput m (w.doorbell + BitVec.ofNat 16 u.1).toNat u.2.1 else m)
    w.pushed

/-- A queue after an accepted doorbell. -/
def Wq.ring (w : Wq) (pi : BitVec 16) : Wq := { w with doorbell := pi, pushed := w.takePush pi, push := [] }

/-- A write of a work queue's doorbell (R90, R83, R111). -/
def State.doorbell (s : State) (q : Nat) (pi : BitVec 16) : State :=
  let w := s.queue q
  if w.st = .running ∧ s.sliceOn w.slice ∧ w.doorbellOk pi then s.setQueue q (w.ring pi)
  else s.setQueue q { w with dbIgnored := sat31 w.dbIgnored }

/-! ### Fetching (R101, R102, R103) -/

/-- A slot of the ring as the device has it: the pushed copy, or what the fetch read (R102, R103). -/
def Wq.slotAt (w : Wq) (slots : List (BitVec 512)) (i : Nat) : Option (BitVec 512) :=
  match mfind w.pushed (w.fetchPt + BitVec.ofNat 16 i).toNat with
  | some u => some u
  | none => slots[i]?

/-- The slots of an entry of `n` units, if each is at hand. -/
def Wq.slotsAt (w : Wq) (slots : List (BitVec 512)) (n : Nat) : Option (List (BitVec 512)) :=
  (List.range n).mapM (w.slotAt slots)

/-- The next entry, where all of its slots are at hand (R101). -/
def Wq.nextEntry (w : Wq) (slots : List (BitVec 512)) : Option Entry :=
  match w.slotAt slots 0 with
  | none => none
  | some u =>
    match w.slotsAt slots (fld u 24 3 + 1) with
    | some us => some { index := w.fetchPt, slots := us }
    | none => none

/-- A queue whose next entry has been fetched. -/
def Wq.fetch (w : Wq) (e : Entry) : Wq :=
  { w with
    fetchPt := w.fetchPt + BitVec.ofNat 16 e.units
    fetched := w.fetched ++ [e]
    pushed := w.pushed.filter fun u => e.units ≤ dist e.index (BitVec.ofNat 16 u.1) }

/-! ### Aborts (R117, R118) -/

/-- The entry of an abort. -/
def Abort.hits (a : Abort) (e : Entry) : Bool := a.index = e.index && a.tag = e.tag

/-- A completion of an entry that has not started, written with a reservation of its own. -/
def State.unstartedCpl (s : State) (q : Nat) (e : Entry) (status : Nat) : State :=
  let x : Cqe := { tag := e.tag, status := BitVec.ofNat 8 status, source := s.sourceOf q,
                   queue := BitVec.ofNat 20 (s.queueNumber q), index := e.index }
  s.pushDue (s.queue q).fn { cq := s.queueCq q, e := x, queue := q }

/-- An abort takes effect on a fetched target: the target completes ABORTED, then the abort OK (R118, R119). -/
def State.abortFetched (s : State) (q : Nat) (e : Entry) : State :=
  let w := s.queue q
  let s1 := s.setQueue q { w with fetched := w.fetched.filter (fun x => x.index != e.index), lastDone := some e.index }
  (s1.unstartedCpl q e stAborted).endAbort q stOk

/-- The open abort of a queue is settled, where it can be: against a fetched target, or against none before the fetch
point. A started target, and one not yet fetched, leave it open (R118; log 32). -/
def State.settleAbort (s : State) (q : Nat) : State :=
  let w := s.queue q
  match w.abort with
  | none => s
  | some a =>
    match w.fetched.find? a.hits with
    | some e => s.abortFetched q e
    | none =>
      if w.started.any a.hits then s
      else if dist w.fetchPt a.index < dist w.fetchPt w.doorbell then s
      else s.endAbort q stNotFound

/-- A write of ABORT_HI (R117, R118). -/
def State.abort (s : State) (q : Nat) (a : Abort) : State :=
  let w := s.queue q
  if w.st = .running ∧ w.abort = none then (s.setQueue q { w with abort := some a }).settleAbort q
  else s.setQueue q { w with dbIgnored := sat31 w.dbIgnored }

/-! ### Starts (R108) -/

/-- An entry ends as soon as it starts: NOP, malformed (R93, R96, R106). -/
def State.startAndEnd (s : State) (q : Nat) (e : Entry) (status : Nat) (canWrite : Bool) : State :=
  s.start q e fun a => (a.finish q e status 0 0 0 canWrite).settleQueue q

/-- A slot can be reserved for an arrival: one is left over after the starts that wait (R108, R109). -/
def State.arrivalSlot (s : State) (k : Nat) : Bool := (s.cq k).ready && (s.cq k).waitq.length < (s.cq k).free

/-- An arrival found no reservable slot (R99). -/
def State.noSlot (s : State) (k : Nat) : State := s.setCq k { s.cq k with noslot := sat31 (s.cq k).noslot }

/-! ### Failed fetches (R112) -/

/-- A failed fetch of ring slots: FETCH_FAULT, ENABLE cleared, unstarted entries discarded, the event logged and the
summary bit raised; with no started entry left, the head is published (R47, R112). -/
def State.fetchFault (s : State) (q : Nat) : State :=
  let s0 := s.leaveWait q
  let w := s0.queue q
  let h := qHalf q
  let s1 := s0.setQueue q { w.discard with st := .fetchFault }
  let s2 := s1.logOn h 0x1003 2 (unitId h 10) (if w.slice < 4096 then w.slice else 65535) 0 (keyPort w.fn + 2 ^ 32 * (q % 65536))
  (s2.raiseFault w.fn 0 0 (s.queueNumber q)).drained q

/-! ### Frame delivery (R109) -/

/-- The BTH destination QP of a RoCE frame (R276). -/
def Frame.bthQp (f : Frame) : Nat := beAt f.bytes (mdL4 f.md + 13) 3

/-- The RDMA transport takes the frame (R276). -/
def Frame.forRdma (f : Frame) : Bool := mdRoce f.md && 0x100000 ≤ f.bthQp && f.bthQp ≤ 0x1FFFFF

/-- QFLAGS of an Ethernet RX completion (R107). -/
def Frame.rxFlags (f : Frame) : Nat := f.port + 16 * b2n f.l3Ok + 32 * b2n f.l4Ok + 64 * b2n f.macsec

/-- A PME for a frame that arrives for a slice of a function in D3hot (R60). -/
def State.framePme (s : State) (fk : Nat) : State := if (s.fn fk).d3 ∧ (s.fn fk).pmeEn then s.sendPme fk else s

/-- A frame that has reached XPORT of its slice's half takes the next fetched ETH_RECV entry and a CQ slot, is written and
completed, or is dropped and counted (R65, R83, R95, R107, R109). -/
def State.deliver (s0 : State) (f : Frame) (canWrite : Bool) : State :=
  let id := mdSlice f.md
  let x := s0.slice id
  let fk := recFn x.record
  let s := s0.framePme fk
  match blkNth x.wqs (mdQueue f.md) with
  | none => s.countSlice (recHome x.record) id cRxBadq 1
  | some e =>
    let q := wqKey (recHome x.record) e
    let w := s.queue q
    if (s.port (keyPort fk)).up = false ∨ (s.fn fk).flr then s.countSlice (recHome x.record) id cRxNomaster 1
    else if x.st ≠ .enabled then s.countSlice (recHome x.record) id cRxDisabled 1
    else
      match w.fetched.find? fun y => y.opcode = 2 && !w.ethBad y with
      | none => s.countSlice (recHome x.record) id cRxNobuf 1
      | some y =>
        if s.mastering fk = false then s.countSlice (recHome x.record) id cRxNobuf 1
        else if s.arrivalSlot (s.queueCq q) = false then (s.noSlot (s.queueCq q)).countSlice (recHome x.record) id cRxNocq 1
        else if y.recvRoom < f.bytes.length then s.countSlice (recHome x.record) id cRxToobig 1
        else
          let s1 := (s.startEntry q y).emit (.dma q f.bytes)
          let s2 := (s1.countSlice (recHome x.record) id cRxFrames 1).countSlice (recHome x.record) id cRxOctets f.bytes.length
          (s2.finish q y stOk f.bytes.length f.rxFlags f.rxTime canWrite).settleQueue q

end Sys2Proof.Machine
end

