-- ==== Sys2Proof/Machine/RdmaOps.lean ====
section
/-! DEFINITION. Queue pairs: records, entries, the requester, the error state, context cache and rate groups (11). A queue
pair is named by its wire QPN less 0x100000, which is half × 524,288 + pool entry (R275). -/

namespace Sys2Proof.Machine
open Sys2Proof

/-- The line rate of a port mode, Mb/s (R145). -/
def modeRate (m : Nat) : Nat := [0, 10000, 25000, 50000, 100000, 200000, 400000].getD m 0

/-! ### Names (R275) -/

def qpHalf (k : Nat) : Half := halfOf (k / 524288)
def State.qpk (s : State) (k : Nat) : Qp := s.qp (qpHalf k) (k % 524288)
def State.setQpk (s : State) (k : Nat) (x : Qp) : State := s.setQp (qpHalf k) (k % 524288) x

/-- The queue numbers of a QP's send and receive queue. -/
def sqOf (k : Nat) : Nat := qpBase + 2 * k
def rqOf (k : Nat) : Nat := qpBase + 2 * k + 1

/-- The slice that holds a QP pool entry of a half, 4,096 for none (R275). -/
def State.qpHolder (s : State) (k : Nat) : Nat :=
  match s.slices.find? fun x => x.2.used ∧ recHome x.2.record = qpHalf k ∧ x.2.qp0 ≤ k % 524288
      ∧ k % 524288 < x.2.qp0 + recQps x.2.record with
  | some x => x.1
  | none => 4096

/-- The QPs that are not in RESET on a half. -/
def State.qpKeys (s : State) (h : Half) : List Nat := (s.half h).rdma.qps.map fun e => h.num * 524288 + e.1

/-! ### The MODIFY record (R281) -/

def qrQp (r : BitVec 1024) : Nat := fld r 32 20
def qrState (r : BitVec 1024) : Nat := fld r 8 8
def qrUd (r : BitVec 1024) : Bool := bit r 64
def qrMtuCode (r : BitVec 1024) : Nat := fld r 72 3
def qrMtu (r : BitVec 1024) : Nat := 256 * 2 ^ qrMtuCode r
def qrAtomicEn (r : BitVec 1024) : Bool := bit r 76
def qrWriteEn (r : BitVec 1024) : Bool := bit r 77
def qrReadEn (r : BitVec 1024) : Bool := bit r 78
def qrIpv6 (r : BitVec 1024) : Bool := bit r 79
def qrSqLog (r : BitVec 1024) : Nat := fld r 80 4
def qrRqLog (r : BitVec 1024) : Nat := fld r 84 4
def qrSqCq (r : BitVec 1024) : BitVec 16 := BitVec.ofNat 16 (fld r 96 16)
def qrRqCq (r : BitVec 1024) : BitVec 16 := BitVec.ofNat 16 (fld r 112 16)
def qrDestQpn (r : BitVec 1024) : Nat := fld r 128 24
def qrSqPsn (r : BitVec 1024) : BitVec 24 := BitVec.ofNat 24 (fld r 160 24)
def qrRqPsn (r : BitVec 1024) : BitVec 24 := BitVec.ofNat 24 (fld r 192 24)
def qrQKey (r : BitVec 1024) : Nat := fld r 224 32
def qrTclass (r : BitVec 1024) : Nat := fld r 576 8
def qrRetry (r : BitVec 1024) : Nat := fld r 592 3
def qrRnrRetry (r : BitVec 1024) : Nat := fld r 595 3
def qrTimeout (r : BitVec 1024) : Nat := fld r 600 8
def qrReqDepth (r : BitVec 1024) : Nat := fld r 608 4 + 1
def qrMinRnr (r : BitVec 1024) : Nat := fld r 616 8
def qrTxMeta (r : BitVec 1024) : Nat := fld r 640 32
def qrSqBase (r : BitVec 1024) : Nat := fld r 672 64
def qrRqBase (r : BitVec 1024) : Nat := fld r 736 64
def qrShadow (r : BitVec 1024) : Nat := fld r 800 64

/-- A record with the bits from `lo`, `w` of them, taken from another. -/
def takeBits {n : Nat} (old new : BitVec n) (lo w : Nat) : BitVec n := setFld old lo w (fld new lo w)

/-! ### Send queue entries (R285 to R289) -/

def Entry.rdmaLen (e : Entry) : Nat := leAt e.bytes 24 4
def Entry.remoteVa (e : Entry) : Nat := leAt e.bytes 8 8
def Entry.rkey (e : Entry) : Nat := leAt e.bytes 16 4
def Entry.rdmaInline (e : Entry) : Bool := e.field 62 1 = 1
def Entry.rdmaPieces (e : Entry) : Nat := e.field 56 6

/-- The lengths of the gather or scatter pieces: two from byte 32 of unit 0, the rest from unit 1, or unit 2 on UD (R286). -/
def Entry.rdmaPieceLens (e : Entry) (ud : Bool) : List Nat :=
  (List.range e.rdmaPieces).map fun i => leAt e.bytes ((if ud && 2 ≤ i then 96 else 32) + 16 * i + 8) 4

/-- The slots an SQ entry needs (R286). -/
def Entry.rdmaNeed (e : Entry) (ud : Bool) : Nat :=
  if 0x15 ≤ e.opcode then 1
  else if e.rdmaInline then (if ud then 2 + (e.rdmaLen + 63) / 64 else (32 + e.rdmaLen + 63) / 64)
  else (if ud then 2 else 1) + (if e.rdmaPieces ≤ 2 then 0 else (e.rdmaPieces - 2 + 3) / 4)

/-- An SQ entry is malformed (R285, R286, R289). -/
def Entry.sqBad (e : Entry) (ud : Bool) (mtu : Nat) : Bool :=
  if e.opcode = 0 then e.units != 1
  else
    let ok := if ud then e.opcode = 0x10 || e.opcode = 0x11 else 0x10 ≤ e.opcode && e.opcode ≤ 0x16
    let ps := e.rdmaPieceLens ud
    !ok || 26 < e.rdmaPieces || 2147483648 < e.rdmaLen || e.units != e.rdmaNeed ud
      || (ud && mtu < e.rdmaLen)
      || (if 0x15 ≤ e.opcode then e.rdmaLen != 8 || e.remoteVa % 8 != 0
          else if e.rdmaInline then e.rdmaPieces != 0 || (if ud then 448 else 480) < e.rdmaLen
          else ps.any (fun n => n = 0 || 2147483648 < n) || ps.sum != e.rdmaLen)

/-- An RQ entry is malformed (R285, R288). -/
def Entry.rqBad (e : Entry) : Bool :=
  if e.opcode = 0 then e.units != 1 else if e.opcode = 0x18 then e.recvBad else true

/-- The inline data of an SQ entry (R286). -/
def Entry.rdmaInlineData (e : Entry) (ud : Bool) : List Byte := slice e.bytes (if ud then 128 else 32) e.rdmaLen

/-- An entry of a queue is malformed: an Ethernet queue's, or a QP's. -/
def State.entryBad (s : State) (q : Nat) (e : Entry) : Bool :=
  if q < qpBase then (s.queue q).ethBad e
  else
    let r := (s.qpk (qQp q)).record
    if q % 2 = 0 then e.sqBad (qrUd r) (qrMtu r) else e.rqBad

/-! ### Rate groups (R306) -/

/-- The rate group of a QP (R306). -/
def qpGroup (r : BitVec 1024) : Nat :=
  (crc32c (leBytes 16 (fld r 384 128) ++ [BitVec.ofNat 8 (qrTclass r)])).toNat % 65536

/-- The Ethernet port a slice's frame with a TX_META goes to (R184). -/
def State.slicePort (s : State) (h : Half) (sl txMeta : Nat) : Option Nat :=
  if sl < 4096 then steerPort (s.txSteer h sl) txMeta else none

/-- The line rate of a QP's port, Mb/s. -/
def State.qpLine (s : State) (k : Nat) : Nat :=
  match s.slicePort (qpHalf k) (s.qpk k).slice (qrTxMeta (s.qpk k).record) with
  | some n => modeRate (s.ethPort n).trained
  | none => 0

/-- The start values of a group (R306). -/
def State.groupStart (s : State) (k : Nat) : Group :=
  let line := s.qpLine k
  { rate := line, ceiling := line, level := 0, calm := s.param (qpHalf k) 0xA300 0x0D 0 3 + 1, cnps := 0, line := line }

/-- An RC QP that enters RTS joins its group (R306). -/
def State.joinGroup (s : State) (k : Nat) : State :=
  let g := qpGroup (s.qpk k).record
  if qrUd (s.qpk k).record ∨ (mfind (s.half (qpHalf k)).rdma.groups g).isSome then s
  else
    let st := s.groupStart k
    s.onHalf (qpHalf k) fun x => { x with rdma := { x.rdma with groups := mput x.rdma.groups g st } }

/-- Groups without a QP in RTS return to their start values (R306). -/
def State.pruneGroups (s : State) (h : Half) : State :=
  let live := fun g => (s.half h).rdma.qps.any fun e => e.2.st = .rts && !qrUd e.2.record && qpGroup e.2.record = g
  s.onHalf h fun x => { x with rdma := { x.rdma with groups := x.rdma.groups.filter fun e => live e.1 } }

/-! ### The context cache (R291) -/

/-- A context may be evicted: no fetch, placement, parked packet or started requester packet is in progress (R291). -/
def Qp.evictable (x : Qp) : Bool :=
  x.cached && !x.fetching && x.parked.isEmpty && x.recv.isNone && x.outst.isEmpty && x.sq.started.isEmpty && x.rq.started.isEmpty

/-- The least recently used evictable context among entries. -/
def leastUsed (l : List (Nat × Qp)) : Option (Nat × Qp) :=
  match l with
  | [] => none
  | e :: rest =>
    match leastUsed rest with
    | some b => if e.2.evictable ∧ e.2.lastUse ≤ b.2.lastUse then some e else some b
    | none => if e.2.evictable then some e else none

/-- Room is made for a context: with 16,384 cached, the least recently used evictable one leaves (R291). -/
def State.makeRoom (s : State) (h : Half) : State :=
  if ((s.half h).rdma.qps.filter fun e => e.2.cached).length < 16384 then s
  else
    match leastUsed (s.half h).rdma.qps with
    | some e => s.setQp h e.1 { e.2 with cached := false }
    | none => s

/-- A context is used. -/
def State.useQp (s : State) (k : Nat) : State :=
  let n := (s.half (qpHalf k)).rdma.uses + 1
  let s1 := s.onHalf (qpHalf k) fun x => { x with rdma := { x.rdma with uses := n } }
  s1.setQpk k { s1.qpk k with lastUse := n }

/-- A context enters the cache. -/
def State.cacheQp (s : State) (k : Nat) : State :=
  let s1 := if (s.qpk k).cached then s else s.makeRoom (qpHalf k)
  (s1.setQpk k { s1.qpk k with cached := true, fetching := false }).useQp k

/-- A context that is not cached is fetched, and the fetch counted (R291). -/
def State.fetchQp (s : State) (k : Nat) : State :=
  let x := s.qpk k
  if x.cached ∨ x.fetching ∨ x.st = .reset then s
  else (s.setQpk k { x with fetching := true }).countH 0x6600 (qpHalf k) 0x10 1

/-! ### Frames of the transport (R276, R431) -/

/-- A frame of a QP goes out on the port that steering names; none where it permits none, and a port of the other half
loses the frame during a split (R184, R276, R431). -/
def State.roceOut (s : State) (k sl txMeta : Nat) (o : Output) : State :=
  let h := qpHalf k
  match s.slicePort h sl txMeta with
  | none => s
  | some n =>
    if ethHalf n ≠ h ∧ (s.cstl.split ∨ (s.half (ethHalf n)).stopped) then s.countH 0x6A00 h 2 1 else s.emit o

/-- An answer of a responder QP (R300). -/
def State.answerRoce (s : State) (k : Nat) (psn : BitVec 24) (a : RoceAnswer) : State :=
  let x := s.qpk k
  s.roceOut k x.slice (qrTxMeta x.record) (.roceTx (qpHalf k) (qrDestQpn x.record) psn a)

/-! ### PSNs -/

/-- The distance from one PSN forward to another. -/
def psnDist (a b : BitVec 24) : Nat := (b - a).toNat

/-- A PSN is another or lies in the half of the PSNs after it (R302). -/
def psnAtOrAfter (a b : BitVec 24) : Bool := psnDist a b < 8388608

/-- The PSN after `n` packets. -/
def psnAdd (a : BitVec 24) (n : Nat) : BitVec 24 := a + BitVec.ofNat 24 n

/-- The packets of a message of a length at an MTU. -/
def packets (len mtu : Nat) : Nat := if len = 0 then 1 else (len + mtu - 1) / mtu

/-! ### The error state (R303) -/

/-- Started entries of a queue complete FLUSHED, in order. -/
def State.flushStarted (s : State) (q : Nat) (es : List Entry) : State :=
  es.foldl (fun a e => a.finish q e stFlushed 0 0 0 true) s

/-- Fetched entries of a queue complete FLUSHED, in order. -/
def State.flushFetched (s : State) (q : Nat) (es : List Entry) : State :=
  es.foldl (fun a e => (a.setQueue q { a.queue q with lastDone := some e.index }).unstartedCpl q e stFlushed) s

/-- A queue of a QP in ERROR: its started and fetched entries complete FLUSHED, an abort that is open on an entry not yet
fetched waits for the fetch, and the published head is written (R110, R303). -/
def State.flushQueue (s : State) (q : Nat) : State :=
  let s0 := s.leaveWait q
  let w := s0.queue q
  let s1 := s0.setQueue q { w with fetched := [] }
  let s2 := (s1.flushStarted q w.started).flushFetched q w.fetched
  s2.shadow w.fn q w.fetchPt 0

/-- The local number of a QP in its function or slice. -/
def State.localQp (s : State) (k : Nat) : Nat := s.queueNumber (sqOf k)

/-- A QP enters ERROR; other than by MODIFY, its summary bit is set (R47, R303). -/
def State.qpError (s : State) (k : Nat) (byModify : Bool) : State :=
  let x := s.qpk k
  if x.st = .error ∨ x.st = .reset then s
  else
    let s1 := s.setQpk k { x with st := .error, outst := [], rnrAt := none, recv := none, writeVa := none, parked := [] }
    let s2 := ((s1.flushQueue (sqOf k)).flushQueue (rqOf k)).pruneGroups (qpHalf k)
    let s3 := if byModify then s2 else s2.raiseFault x.sq.fn 3 2 (s.localQp k)
    s3.settleQueue (sqOf k)

/-- An SQ entry fails with a status and takes its QP to ERROR (R303). -/
def State.failEntry (s : State) (k : Nat) (e : Entry) (status : Nat) : State :=
  (s.finish (sqOf k) e status 0 0 0 true).qpError k false

/-! ### The requester (R285 to R290, R300) -/

/-- The SQ entry a QP starts next: in RTS, its context cached, no RNR wait, and every started entry transmitted. -/
def State.sqNext (s : State) (k : Nat) : Option Entry :=
  let x := s.qpk k
  if x.st = .rts ∧ x.cached ∧ x.rnrAt = none ∧ (qrUd x.record ∨ x.outst.length = x.sq.started.length) then s.nextStart (sqOf k)
  else none

/-- The request packets of an RC entry: a READ or an atomic is one packet. -/
def reqPackets (k : Nat) (psn : BitVec 24) (op mtu len : Nat) (bs : List Byte) : List Output :=
  if op < 0x14 then
    (List.range (packets len mtu)).map fun i => .roceReq k (psnAdd psn i) op (bs.drop (i * mtu) |>.take mtu)
  else [.roceReq k psn op bs]

/-- The packets of an entry go out, in order. -/
def State.sendPackets (s : State) (k txMeta : Nat) (os : List Output) : State :=
  os.foldl (fun a o => a.roceOut k (a.qpk k).slice txMeta o) s

/-- A started entry whose data is at hand is transmitted: on RC it stays outstanding until it is acknowledged, on UD it
completes (R286, R290, R300). -/
def State.rdmaTransmit (s : State) (k : Nat) (e : Entry) (bs : List Byte) : State :=
  let x := s.qpk k
  let r := x.record
  if qrUd r then
    let s1 := s.roceOut k x.slice (leAt e.bytes 100 4) (.roceReq k x.nextPsn e.opcode bs)
    let s2 := s1.setQpk k { s1.qpk k with nextPsn := psnAdd x.nextPsn 1 }
    (s2.finish (sqOf k) e stOk e.rdmaLen 0 0 true).settleQueue (sqOf k)
  else
    let n := if 0x15 ≤ e.opcode then 1 else packets e.rdmaLen (qrMtu r)
    let s1 := s.setQpk k { x with
      outst := x.outst ++ [{ entry := e, psn := x.nextPsn, npkts := n }]
      nextPsn := psnAdd x.nextPsn n
      ackFrom := if x.outst = [] then s.time (qpHalf k) else x.ackFrom }
    s1.sendPackets k (qrTxMeta r) (reqPackets k x.nextPsn e.opcode (qrMtu r) e.rdmaLen bs)

/-- The READs and atomics a QP has outstanding. -/
def Qp.readsOut (x : Qp) : Nat := (x.outst.filter fun o => 0x14 ≤ o.entry.opcode).length

/-- An SQ entry of an opcode starts; its data is inline, read at once, or asked for under a tag (R53, R54, R286). -/
def State.rdmaStart (s : State) (k op : Nat) (data : Option (List Byte)) : State :=
  match s.sqNext k with
  | none => s.fetchQp k
  | some e =>
    let x := s.qpk k
    let r := x.record
    let q := sqOf k
    if e.opcode ≠ op ∨ e.sqBad (qrUd r) (qrMtu r) then s
    else if 0x14 ≤ op then
      if x.readsOut < qrReqDepth r then s.start q e fun a => (a.rdmaTransmit k e []).useQp k else s
    else if e.rdmaInline ∨ e.rdmaLen = 0 then
      s.start q e fun a => (a.rdmaTransmit k e (e.rdmaInlineData (qrUd r))).useQp k
    else
      match data with
      | some bs => s.start q e fun a => (a.rdmaTransmit k e (fit e.rdmaLen bs)).useQp k
      | none =>
        if (s.freeTag x.sq.fn).isNone then s
        else s.start q e fun a => (a.issueRead x.sq.fn x.slice 2 q e.index).getD a

/-- The data of a started entry has arrived: entries are transmitted in order (R299, R300). -/
def State.rdmaData (s : State) (k : Nat) (index : BitVec 16) (bs : List Byte) : State :=
  match (s.qpk k).sq.started.find? (·.index = index) with
  | some e =>
    if (s.qpk k).st = .rts ∧ (s.qpk k).outst.any (·.entry.index = index) = false then s.rdmaTransmit k e (fit e.rdmaLen bs)
    else s
  | none => s

/-- The oldest outstanding entry has ended well: it completes (R290). -/
def State.ackFirst (s : State) (k : Nat) (data : Nat) : State :=
  let x := s.qpk k
  match x.outst with
  | [] => s
  | o :: rest =>
    let s1 := s.setQpk k { x with
      outst := rest, unacked := psnAdd o.psn o.npkts, ackFrom := s.time (qpHalf k)
      retries := qrRetry x.record, rnrLeft := qrRnrRetry x.record }
    s1.finish (sqOf k) o.entry stOk o.entry.rdmaLen 0 data true

/-- Outstanding entries whose last PSN lies at or before an acknowledged PSN complete, up to the first READ or atomic, whose
response alone completes it (R290, R300). -/
def State.ackUpTo (s : State) (k : Nat) (psn : BitVec 24) (fuel : Nat) : State :=
  match fuel with
  | 0 => s
  | n + 1 =>
    match (s.qpk k).outst with
    | [] => s
    | o :: _ =>
      if o.entry.opcode < 0x14 ∧ psnAtOrAfter (psnAdd o.psn (o.npkts - 1)) psn then (s.ackFirst k 0).ackUpTo k psn n else s

/-- An acknowledgement of every PSN up to one: progress restores the retries, and the oldest unacknowledged PSN moves
(R300). -/
def State.acked (s : State) (k : Nat) (psn : BitVec 24) : State :=
  let x := s.qpk k
  let s1 := s.ackUpTo k psn x.outst.length
  let y := s1.qpk k
  match y.outst with
  | [] => s1
  | o :: _ =>
    if o.entry.opcode < 0x14 ∧ psnDist o.psn psn < o.npkts ∧ psnAtOrAfter y.unacked psn then
      s1.setQpk k { y with unacked := psn + 1, ackFrom := s1.time (qpHalf k), retries := qrRetry y.record,
                           rnrLeft := qrRnrRetry y.record }
    else s1

/-- Go-back-N: the packets of the outstanding entries from a PSN on are sent again, their data read again (R300). -/
def State.resend (s : State) (k : Nat) (psn : BitVec 24) : State :=
  let x := s.qpk k
  let os := x.outst.filter fun o => psnDist x.unacked psn < psnDist x.unacked o.psn + o.npkts
  let s1 := (s.countH 0x6600 (qpHalf k) 0x0A os.length).setQpk k { x with
    ackFrom := s.time (qpHalf k), outst := x.outst.map fun o => { o with got := 0 } }
  s1.sendPackets k (qrTxMeta x.record) (os.map fun o => .roceReq k o.psn o.entry.opcode [])

/-- The oldest entry runs out of retries: it completes RETRY_EXCEEDED and the QP enters ERROR (R300, R301). -/
def State.retryOut (s : State) (k : Nat) : State :=
  match (s.qpk k).outst with
  | [] => s.qpError k false
  | o :: _ => s.failEntry k o.entry stRetryExceeded

/-- The entry that a NAK of a PSN concerns fails with a status, after the entries before it have completed
(R295, R299, R302). -/
def State.nakFail (s : State) (k : Nat) (psn : BitVec 24) (status : Nat) : State :=
  let s1 := s.acked k (psn - 1)
  match (s1.qpk k).outst with
  | [] => s1
  | o :: _ => s1.failEntry k o.entry status

/-- The time of an RNR timer code, ns, as the InfiniBand architecture gives it. PRESUMED (log 33). -/
def rnrTime (c : Nat) : Nat :=
  10000 * (if c = 0 then 65536 else if c = 1 then 1 else if c % 2 = 0 then 2 ^ (c / 2) else 3 * 2 ^ ((c - 3) / 2))

/-- The smallest RNR timer code whose time is at least MIN_RNR × 10 µs (R301). -/
def rnrCode (minRnr : Nat) : Nat :=
  match (List.range 31).find? fun i => minRnr * 10000 ≤ rnrTime (i + 1) with
  | some i => i + 1
  | none => 0

/-! ### A QP's queues after a stop (R84, R111) -/

/-- A queue of a QP that a disable or cleared mastering has stopped runs again from its published head (R84, R62). -/
def Wq.resume (w : Wq) : Wq :=
  if w.st = .disabled then { w.discard with st := .running, doorbell := w.head, push := [], pushed := [] } else w

end Sys2Proof.Machine
end

