-- ==== Sys2Proof/Machine/Queue.lean ====
section
/-! DEFINITION. Work queues, completion queues and the Blotter (04, 03 R77). -/

namespace Sys2Proof.Machine
open Sys2Proof

/-! ### Doorbells, pushes, enable and disable (R90, R98, R101, R102, R111) -/

/-- The effect on a work queue of PF1 or a VF of PF1, through its frame. -/
def State.onWq (s : State) (q : QRef) (f : Nat → State → State) : State :=
  s.onFrame q 0 fun h e _ a => f (wqKey h e) a

/-- WQ_DOORBELL (R90, R101, R102). -/
def execWqDoorbell (q : QRef) (pi : BitVec 16) (s : State) : Out := .next (s.onWq q fun k a => a.doorbell k pi)

/-- A unit written to the push window; it counts once it is written in full (R102). -/
def Wq.pushUnit (w : Wq) (unit : Nat) (data : BitVec 512) (full : Bool) : Wq := { w with push := mput w.push unit (data, full) }

/-- A write to the push window: ignored and counted while the queue does not run (R97, R102, R111). -/
def State.pushWrite (s : State) (k unit : Nat) (data : BitVec 512) (full : Bool) : State :=
  let w := s.queue k
  if w.st = .running ∧ s.sliceOn w.slice then s.setQueue k (w.pushUnit unit data full)
  else s.setQueue k { w with dbIgnored := sat31 w.dbIgnored }

/-- WQ_PUSH_WRITE (R102). -/
def execWqPushWrite (q : QRef) (unit : Fin 4) (data : BitVec 512) (full : Bool) (s : State) : Out :=
  .next (s.onWq q fun k a => a.pushWrite k unit.val data full)

/-- A CQ number names an enabled CQ of the function or slice (R91, R98). -/
def State.cqOk (s : State) (h : Half) (kind sl n : Nat) : Bool :=
  (s.cq (s.cqKey h kind sl n)).enable &&
    (if sl < 4096 then (blkNth (s.slice sl).cqs n).isSome else s.holder h 1 n = 4096)

/-- ENABLE of a work queue changes from 0 to 1: refused with CFG_ERR, or the queue runs from its published head
(R91, R98, R111). -/
def State.wqEnable (s : State) (h : Half) (k sl fk : Nat) : State :=
  let w := s.queue k
  if w.st ≠ .disabled ∧ w.st ≠ .fetchFault then s
  else if w.logSize < 6 ∨ 15 < w.logSize ∨ s.cqOk h 0 sl w.cq.toNat = false then s.setQueue k { w with cfgErr := true }
  else
    s.setQueue k { w.discard with
      st := .running, cfgErr := false, fn := fk, slice := sl, doorbell := w.head, lastDone := none, push := [], pushed := [] }

/-- WQ_ENABLE (R98, R111). -/
def execWqEnable (q : QRef) (s : State) : Out :=
  .next (s.onFrame q 0 fun h e sl a => a.wqEnable h (wqKey h e) sl (a.frameFn q sl))

/-- WQ_DISABLE (R111). -/
def execWqDisable (q : QRef) (s : State) : Out :=
  .next (s.onWq q fun k a => if (a.queue k).st = .running then a.drainQueue k else a)

/-! ### Fetching (R101, R112, R118, R303) -/

/-- The QP of a queue lets its ring be fetched: a send queue in RTS or ERROR, a receive queue from INIT on (R280, R303). -/
def State.qpFetches (s : State) (q : Nat) : Bool :=
  q < qpBase ||
    let x := s.qpk (qQp q)
    x.cached && (if q % 2 = 0 then x.st = .rts || x.st = .error else x.st != .reset)

/-- A queue may fetch: it runs, may master the bus, holds fewer than 16 unstarted entries, and a slot lies before the
doorbell (R101). -/
def State.canFetch (s : State) (q : Nat) : Bool :=
  let w := s.queue q
  w.st = .running && s.forwards (qHalf q) && s.sliceOn w.slice && s.mastering w.fn && w.fetched.length < 16
    && 0 < dist w.fetchPt w.doorbell && s.qpFetches q

/-- The QP of a queue is in ERROR. -/
def State.inError (s : State) (q : Nat) : Bool := qpBase ≤ q && (s.qpk (qQp q)).st = .error

/-- A fetched entry joins the unstarted ones, or completes FLUSHED at once in ERROR (R101, R303); an abort that waits for it
is settled (R118). -/
def State.takeEntry (s : State) (q : Nat) (e : Entry) : State :=
  let w := s.queue q
  if s.inError q then
    ((s.setQueue q { w.fetch e with fetched := w.fetched, lastDone := some e.index }).unstartedCpl q e stFlushed).settleAbort q
  else (s.setQueue q (w.fetch e)).settleAbort q

/-- A fetch of ring slots failed (R112, R303). -/
def State.fetchFails (s : State) (q : Nat) : State :=
  if q < qpBase then (s.fetchFault q).settleQueue q else s.qpError (qQp q) false

/-- The next entry is fetched: `slots` are the slots from the fetch point on that were read from the ring, `none` where the
read failed. An entry that the doorbell does not cover whole stays unfetched (R101). -/
def State.fetch (s : State) (q : Nat) (slots : Option (List (BitVec 512))) : State :=
  let w := s.queue q
  if s.canFetch q then
    match w.nextEntry (slots.getD []) with
    | some e => if e.units ≤ dist w.fetchPt w.doorbell then s.takeEntry q e else s
    | none => if slots.isNone then s.fetchFails q else s
  else s

/-- WQ_FETCH (R101). -/
def execWqFetch (wq : Nat) (slots : Option (List (BitVec 512))) (s : State) : Out := .next (s.fetch wq slots)

/-! ### Entries (R93 to R96, R106) -/

/-- The entry a queue starts next. -/
def State.entryNext (s : State) (q : Nat) : Option Entry :=
  if q < qpBase then s.nextStart q
  else if q % 2 = 0 then s.sqNext (qQp q)
  else if ((s.qpk (qQp q)).st = .rtr ∨ (s.qpk (qQp q)).st = .rts) ∧ (s.qpk (qQp q)).cached then s.nextStart q
  else none

/-- The next entry, malformed: it starts and completes MALFORMED, and is counted (R96, R106). -/
def State.malformed (s : State) (q : Nat) : State :=
  match s.entryNext q with
  | none => s
  | some e =>
    if s.entryBad q e then
      s.start q e fun a =>
        ((a.setQueue q { a.queue q with malformed := sat31 (a.queue q).malformed }).finish q e stMalformed 0 0 0 true).settleQueue q
    else s

/-- MALFORMED_ENTRY (R96). -/
def execMalformedEntry (wq : Nat) (s : State) : Out := .next (s.malformed wq)

/-- The next entry, a NOP: it starts and completes OK (R93). -/
def State.nop (s : State) (q : Nat) (canWrite : Bool) : State :=
  match s.entryNext q with
  | none => s
  | some e => if e.opcode = 0 ∧ s.entryBad q e = false then s.startAndEnd q e stOk canWrite else s

/-- NOP_ENTRY (R93). -/
def execNopEntry (wq : Nat) (canWrite : Bool) (s : State) : Out := .next (s.nop wq canWrite)

/-- The next entry, an ETH_SEND: it starts; its frame is inline, gathered at once, or asked for under a tag (R54, R94). -/
def State.ethSend (s : State) (q : Nat) (frame : Option (List Byte)) (canWrite : Bool) : State :=
  match s.nextStart q with
  | none => s
  | some e =>
    let w := s.queue q
    if qpBase ≤ q ∨ e.opcode ≠ 1 ∨ w.ethBad e then s
    else if e.isInline then s.start q e fun a => (a.transmit q e (fit e.frameLen (e.bytes.drop 16)) canWrite).settleQueue q
    else
      match frame with
      | some bs => s.start q e fun a => (a.transmit q e (fit e.frameLen bs) canWrite).settleQueue q
      | none =>
        if (s.freeTag w.fn).isNone then s
        else s.start q e fun a => (a.issueRead w.fn w.slice 0 q e.index).getD a

/-- ETH_SEND_ENTRY (R94). -/
def execEthSendEntry (wq : Nat) (frame : Option (List Byte)) (canWrite : Bool) (s : State) : Out :=
  .next (s.ethSend wq frame canWrite)

/-- The data of a started ETH_SEND has arrived. -/
def State.ethData (s : State) (q : Nat) (index : BitVec 16) (bs : List Byte) : State :=
  match (s.queue q).started.find? (·.index = index) with
  | some e => (s.transmit q e (fit e.frameLen bs) true).settleQueue q
  | none => s

/-- XPORT_RX_DELIVER (R109): the oldest frame that waits at XPORT of a half. A frame of the RDMA transport leaves here: its
packet comes with ROCE_RECEIVE (R276; log 34). -/
def State.rxDeliver (s : State) (h : Half) (canWrite : Bool) : State :=
  if s.forwards h then
    match s.takeFlight h (·.stage = .xport) with
    | none => s
    | some (f, s1) => if f.forRdma then s1 else s1.deliver f canWrite
  else s

def execXportRxDeliver (h : Half) (canWrite : Bool) (s : State) : Out := .next (s.rxDeliver h canWrite)

/-! ### The Blotter (R77, R114, R115) -/

/-- BLOTTER_TIME_DUE (R114): TIME µs have passed since T0. -/
def State.timeDue (s : State) (k : Nat) : State :=
  let c := s.cq k
  if c.irqEn ∧ 0 < c.u ∧ c.due = false then
    (s.until (portHalf (keyPort c.fn)) (c.t0 + c.modTime * 1000)).cqDue k
  else s

def execBlotterTimeDue (cq : Nat) (s : State) : Out := .next (s.timeDue cq)

/-- SLICE_INTERVAL_END (R77): MIN_IRQ_US have passed since the slice's last message, and the vectors it holds are passed. -/
def State.intervalEnd (s : State) (id : Nat) : State :=
  let x := s.slice id
  match x.lastMsg with
  | none => s
  | some t =>
    let fk := recFn x.record
    let s1 := s.until (recHome x.record) (t + recMinIrq x.record * 1000)
    (s1.setSlice id { s1.slice id with lastMsg := none }).passHeld fk id x.heldVecs

def execSliceIntervalEnd (id : Nat) (s : State) : Out := .next (s.intervalEnd id)

/-! ### Completion queues (R99, R100, R105) -/

/-- The effect on a CQ through its frame. -/
def State.onCq (s : State) (q : QRef) (f : Nat → State → State) : State :=
  s.onFrame q 1 fun h e _ a => f (cqFrameKey q h e) a

/-- A write of HEAD: slots become free, and completions that wait for one are written; or it is ignored with HEAD_ERR
(R105, R108). -/
def State.cqHead (s : State) (k : Nat) (v : BitVec 16) : State :=
  let c := s.cq k
  if dist c.head v ≤ dist c.head c.tail then (s.setCq k { c with head := v }).tryDue c.fn
  else s.setCq k { c with headErr := true }

/-- CQ_HEAD_WRITE (R105). -/
def execCqHeadWrite (q : QRef) (v : BitVec 16) (s : State) : Out := .next (s.onCq q fun k a => a.cqHead k v)

/-- ENABLE of a CQ changes from 0 to 1 (R100). -/
def State.cqEnable (s : State) (k sl fk : Nat) : State :=
  let c := s.cq k
  if c.enable then s
  else if c.logSize < 4 then s.setCq k { c with cfgErr := true }
  else (s.setCq k { c with enable := true, cfgErr := false, faulted := false, head := 0, tail := 0, reserved := 0, u := 0,
                           due := false, waitq := [], heldCpl := [], fn := fk, slice := sl }).evalGates

/-- CQ_ENABLE (R100). -/
def execCqEnable (q : QRef) (s : State) : Out :=
  .next (s.onFrame q 1 fun h e sl a => a.cqEnable (cqFrameKey q h e) sl (a.frameFn q sl))

/-- An enabled queue is bound to a CQ (R100). -/
def State.cqBound (s : State) (k : Nat) : Bool :=
  (s.wqs.any fun e => e.2.st = .running && s.queueCq e.1 = k)
    || (s.qpKeys (halfOf (k / 65536 / 3))).any (fun i => (s.qpk i).st != .reset &&
        ((s.queue (sqOf i)).st = .running && s.queueCq (sqOf i) = k || (s.queue (rqOf i)).st = .running && s.queueCq (rqOf i) = k))
    || (k / 65536 % 3 = 2 && (s.chan (k % 65536)).st = .running)
    || s.storage.stqs.any fun e => e.2.st = .running && s.cqKey (stqHalf e.1) 1 e.2.slice e.2.cq.toNat = k

/-- ENABLE of a CQ is cleared: refused while an enabled queue is bound to it; completions held in CQ_FAULT are discarded
(R100). -/
def State.cqDisable (s : State) (k : Nat) : State :=
  let c := s.cq k
  if c.enable = false ∨ s.cqBound k then s
  else
    let s1 := s.setCq k { c with enable := false, faulted := false, heldCpl := [], reserved := 0, u := 0, due := false, waitq := [] }
    ((c.heldCpl.filter (·.abort)).foldl (fun a x => a.closeAbort x.queue) s1).evalGates

/-- CQ_DISABLE (R100). -/
def execCqDisable (q : QRef) (s : State) : Out := .next (s.onCq q fun k a => a.cqDisable k)

/-- A write of xx_CQ_CFG and xx_CQ_MOD (R99, R100): LOG_SIZE only while ENABLE is 0; IRQ_EN 0 returns U to 0. -/
def Cq.configure (c : Cq) (cfg md : BitVec 32) : Cq :=
  { c with
    irqEn := bit cfg 20
    logSize := if c.enable then c.logSize else fld cfg 16 4
    vector := fld cfg 0 11
    modTime := fld md 16 10
    modCount := fld md 0 8
    u := if bit cfg 20 then c.u else 0
    due := if bit cfg 20 then c.due else false }

/-- CQ_CFG_WRITE (R100). -/
def execCqCfgWrite (q : QRef) (cfg md : BitVec 32) (s : State) : Out :=
  .next (s.onCq q fun k a => a.setCq k ((a.cq k).configure cfg md))

/-! ### Counters that a read clears (R9, R97, R99) -/

/-- CQ_NOSLOT_READ (R99). -/
def execCqNoslotRead (q : QRef) (s : State) : Out :=
  .next (s.readFrame q 1 fun h e a =>
    let k := cqFrameKey q h e
    (a.setCq k { a.cq k with noslot := 0 }).emit (.read (a.cq k).noslot))

/-- WQ_MALFORMED_READ (R97). -/
def execWqMalformedRead (q : QRef) (s : State) : Out :=
  .next (s.readFrame q 0 fun h e a =>
    let k := wqKey h e
    (a.setWq k { a.wq k with malformed := 0 }).emit (.read (a.wq k).malformed))

/-- WQ_DB_IGNORED_READ (R97). -/
def execWqDbIgnoredRead (q : QRef) (s : State) : Out :=
  .next (s.readFrame q 0 fun h e a =>
    let k := wqKey h e
    (a.setWq k { a.wq k with dbIgnored := 0 }).emit (.read (a.wq k).dbIgnored))

/-- WQ_ABORT (R117): NETQ_WQ_ABORT_LO and NETQ_WQ_ABORT_HI. -/
def execWqAbort (q : QRef) (index tag abortTag : BitVec 16) (s : State) : Out :=
  .next (s.onWq q fun k a => a.abort k { index := index, tag := tag, atag := abortTag })

end Sys2Proof.Machine
end

