-- ==== Sys2Proof/Machine/Slice.lean ====
section
/-! DEFINITION. Slice commands and the clears of slice and PF counters (03). -/

namespace Sys2Proof.Machine
open Sys2Proof

/-! ### Pools (R72, R211) -/

/-- A block put among blocks by rising start. -/
def insBlk (b : Blk) (l : List Blk) : List Blk :=
  match l with
  | [] => [b]
  | x :: rest => if b.start < x.start then b :: x :: rest else x :: insBlk b rest

/-- Blocks by rising start. -/
def sortBlk (l : List Blk) : List Blk := l.foldl (fun a b => insBlk b a) []

/-- The free runs from `pos` to `size` between sorted blocks. -/
def gapsFrom (pos size : Nat) (l : List Blk) : List Blk :=
  match l with
  | [] => if pos < size then [{ start := pos, count := size - pos }] else []
  | b :: rest =>
    (if pos < b.start then [{ start := pos, count := b.start - pos }] else []) ++
      gapsFrom (Nat.max pos (b.start + b.count)) size rest

/-- The free runs of a pool from entry `lo`. -/
def freeRuns (lo size : Nat) (used : List Blk) : List Blk := gapsFrom lo size (sortBlk used)

/-- Free entries of a pool. -/
def freeCount (lo size : Nat) (used : List Blk) : Nat := ((freeRuns lo size used).map (·.count)).sum

/-- The lowest `need` entries of free runs, as blocks; none where too few are free. -/
def takeRuns (need : Nat) (runs : List Blk) : Option (List Blk) :=
  match runs with
  | [] => if need = 0 then some [] else none
  | r :: rest =>
    if need = 0 then some []
    else if need ≤ r.count then some [{ start := r.start, count := need }]
    else (takeRuns (need - r.count) rest).map (r :: ·)

/-- An assignment of a pool: the lowest free entries in at most 16 blocks (R72, R211). -/
def assign (lo size need : Nat) (used : List Blk) : Option (List Blk) :=
  match takeRuns need (freeRuns lo size used) with
  | some bs => if bs.length ≤ 16 then some bs else none
  | none => none

/-- The lowest free run that holds `need` entries: its start (R72, R275). -/
def oneRun (lo size need : Nat) (used : List Blk) : Option Nat :=
  if need = 0 then some lo else ((freeRuns lo size used).find? fun r => need ≤ r.count).map (·.start)

/-- The slices that exist. -/
def State.usedSlices (s : State) : List (Nat × Slice) := s.slices.filter fun x => x.2.used

/-- A single entry as a block. -/
def oneBlk (e : Nat) : Blk := { start := e, count := 1 }

/-- The entries of a kind of frame on a half that are not free: the blocks of slices, and the entries on which the PF's own
queue is enabled (log 31). -/
def State.frameUsed (s : State) (h : Half) (kind : Nat) : List Blk :=
  let sl := (s.usedSlices.filter fun x => recHome x.2.record = h).flatMap fun x => x.2.blocks kind
  let own :=
    if kind = 0 then
      (s.wqs.filter fun e => e.1 / 65536 = h.num && e.2.slice ≥ 4096 && e.2.st != .disabled).map fun e => oneBlk (e.1 % 65536)
    else if kind = 1 then
      (s.cqs.filter fun e => e.1 / 65536 / 3 = h.num && e.1 / 65536 % 3 != 2 && e.2.slice ≥ 4096 && e.2.enable).map
        fun e => oneBlk (e.1 % 65536)
    else []
  sl ++ own

/-- The blocks of the per-half pools that slices of either home draw on (R70). -/
def State.halfUsed (s : State) (f : Slice → List Blk) : List Blk := s.usedSlices.flatMap fun x => f x.2

/-- QP pool entries in use on a half: the blocks of slices, and PF1's own QPs that are not in RESET (R275; log 31). -/
def State.qpUsed (s : State) (h : Half) : List Blk :=
  ((s.usedSlices.filter fun x => recHome x.2.record = h).map fun x => { start := x.2.qp0, count := recQps x.2.record })
    ++ ((s.half h).rdma.qps.filter fun e => e.2.slice ≥ 4096 && e.2.st != .reset).map fun e => oneBlk e.1

/-- Slice nodes in use on a half. -/
def State.nodeUsed (s : State) (h : Half) : List Blk := s.usedSlices.filterMap fun x => (x.2.node h).map oneBlk

/-- MSI-X entries of a PF in use by its PASID-form slices (R72). -/
def State.vecUsed (s : State) (p pf : Nat) : List Blk :=
  (s.usedSlices.filter fun x => recForm x.2.record = 1 && recPort x.2.record = p && recPf x.2.record = pf).map
    fun x => { start := x.2.vec0, count := recVectors x.2.record }

/-- Vectors of a port's VF pool in use (R72). -/
def State.vfVectors (s : State) (p : Nat) : Nat :=
  ((s.usedSlices.filter fun x => recForm x.2.record = 0 && recPort x.2.record = p).map fun x => recVectors x.2.record).sum

/-- Doorbell pages of a port's PF1 in use (R277). -/
def State.pageUsed (s : State) (p n : Nat) : Bool :=
  s.usedSlices.any fun x => recForm x.2.record = 1 && recPort x.2.record = p && recPf x.2.record = 1 && x.2.page = n

/-- The HOST_MIN sum of a port, without a slice (R78). -/
def State.hostMinSum (s : State) (p id : Nat) : Nat :=
  ((s.usedSlices.filter fun x => recPort x.2.record = p && x.1 != id).map fun x => recHostMin x.2.record).sum

/-- Namespace attachments that slices hold (R72). -/
def State.nsQuota (s : State) : Nat := (s.usedSlices.map fun x => recNs x.2.record).sum

/-- A half has DRAM: one of its channels runs (R345). -/
def State.hasDram (s : State) (h : Half) : Bool :=
  s.mem.chans.any fun e => chanHalf e.1 = h && (e.2.st = .running || e.2.st = .changing)

/-! ### CREATE (R73, R74) -/

/-- A CREATE record is out of range (R68, R73, R74). -/
def State.createBad (s : State) (r : BitVec 512) : Bool :=
  recForm r > 1 || recId r ≥ 4096 || recPort r ≥ 4 || !(recPf r = 1 || recPf r = 2)
    || (recForm r = 0 && recVf r ≥ 256) || (recForm r = 1 && recPasid r ≥ 1048576)
    || (s.port (recPort r)).root || (s.slice (recId r)).used
    || (s.usedSlices.any fun x => recForm x.2.record = recForm r && recFn x.2.record = recFn r
          && (recForm r = 0 || recPasid x.2.record = recPasid r))
    || (recForm r = 0 && recPf r = 1 && (recWqs r > 64 || recCqs r > 64 || recWindows r > 256))
    || (recForm r = 0 && recPf r = 2 && (recSqs r > 16 || recCqs r > 16))
    || (recPf r = 1 && (recSqs r != 0 || recNs r != 0))
    || (recPf r = 2 && (recWqs r != 0 || recQps r != 0 || recWindows r != 0))
    || recSqs r > 4096 || recVectors r = 0 || recVectors r > 64 || recQps r > 524288 || recWindows r > 131072
    || recSa .k r > 16384 || recSa .q r > 16384 || recNs r > 4096 || fld r 336 16 > 1023 || recHostMin r > 4096
    || recHostMax r < recHostMin r || recWeight r = 0 || recBacking r > 1
    || (recBacking r = 0 && fld r 416 64 % 4096 != 0)

/-- The assignment of a new slice: every resource, or none where a pool falls short (R72, R75). -/
def State.allot (s : State) (r : BitVec 512) : Option Slice :=
  let h := recHome r
  let node := fun (x : Half) => if recLeaf x r = 0 then some none else (oneRun 0 2048 1 (s.nodeUsed x)).map some
  let cqLimit := if recForm r = 1 ∧ recPf r = 2 then 4096 else 65536
  let vec := if recForm r = 1 then oneRun 64 2048 (recVectors r) (s.vecUsed (recPort r) (recPf r))
             else if s.vfVectors (recPort r) + recVectors r ≤ 8192 then some 0 else none
  let page := if recForm r = 1 ∧ 0 < recQps r then (List.range 255).find? fun n => !s.pageUsed (recPort r) (n + 1) else some 0
  if s.usedSlices.length ≥ 4096 ∨ 4096 < s.hostMinSum (recPort r) 4096 + recHostMin r ∨ 4096 < s.nsQuota + recNs r
      ∨ (0 < recQps r ∧ s.hasDram h = false) then none
  else
    match assign 0 65536 (recWqs r) (s.frameUsed h 0), assign 0 cqLimit (recCqs r) (s.frameUsed h 1),
        assign 1 4096 (recSqs r) (s.frameUsed h 2), assign 0 131072 (recWindows r) (s.frameUsed h 3),
        oneRun 0 524288 (recQps r) (s.qpUsed h), vec, page with
    | some wqs, some cqs, some sqs, some wins, some qp0, some vec0, some pg =>
      match assign 0 65536 (recLeaf .k r) (s.halfUsed (·.leafK)), assign 0 65536 (recLeaf .q r) (s.halfUsed (·.leafQ)),
          assign 0 65536 (recPol .k r) (s.halfUsed (·.polK)), assign 0 65536 (recPol .q r) (s.halfUsed (·.polQ)),
          assign 0 16384 (recSa .k r) (s.halfUsed (·.saK)), assign 0 16384 (recSa .q r) (s.halfUsed (·.saQ)),
          node .k, node .q with
      | some lk, some lq, some pk, some pq, some sk, some sq, some nk, some nq =>
        some { st := .disabled, record := r, wqs := wqs, cqs := cqs, sqs := sqs, wins := wins, leafK := lk, leafQ := lq, polK := pk,
               polQ := pq, saK := sk, saQ := sq, qp0 := qp0, vec0 := vec0,
               page := if recForm r = 1 ∧ 0 < recQps r then pg + 1 else 0, nodeK := nk, nodeQ := nq }
      | _, _, _, _, _, _, _, _ => none
    | _, _, _, _, _, _, _ => none

/-- OWNER of a node of a new slice (R201, R211). -/
def ownedNode (level n id : Nat) : Node :=
  let x := nodeDefault level n
  { x with record := setFld x.record 192 16 id }

/-- The nodes of a new slice on a half (R70, R211). -/
def State.ownNodes (s : State) (h : Half) (x : Slice) (id : Nat) : State :=
  let s1 := (blkAll (x.leaves h)).foldl (fun a l => a.setNode h 3 l (ownedNode 3 l id)) s
  match x.node h with
  | some n => s1.setNode h 2 n (ownedNode 2 n id)
  | none => s1

/-- The counters of a slice, cleared (R86). -/
def State.clearSliceCnt (s : State) (id : Nat) : State := { s with sliceCnt := mdrop (fun k => k / 32 = id) s.sliceCnt }

/-- The queues, windows and QPs assigned to a new slice are in their reset state (R75). -/
def State.freshen (s : State) (x : Slice) : State :=
  let h := recHome x.record
  let isCq := fun k => k / 65536 / 3 = h.num && k / 65536 % 3 != 2 && (blkPlace x.cqs (k % 65536)).isSome
  let s1 := { s with
    wqs := mdrop (inBlocks h 65536 x.wqs) s.wqs
    cqs := mdrop isCq s.cqs
    storage := { s.storage with stqs := mdrop (inBlocks h 4096 x.sqs) s.storage.stqs } }
  s1.onHalf h fun y =>
    { y with rdma := { y.rdma with
        qps := mdrop (fun i => x.qp0 ≤ i && i < x.qp0 + recQps x.record) y.rdma.qps
        wins := mdrop (fun w => (blkPlace x.wins w).isSome) y.rdma.wins } }

/-- CREATE of an admissible record (R75). -/
def State.sliceCreate (s : State) (r : BitVec 512) : State × Nat :=
  match s.allot r with
  | none => (s, stQuota)
  | some x =>
    let id := recId r
    (((((s.freshen x).setSlice id x).ownNodes .k x id).ownNodes .q x id).clearSliceCnt id, stOk)

/-! ### DISABLE (R83) -/

/-- A work queue's unstarted entries are discarded at the instant of disable (R83). -/
def State.haltQueue (s : State) (q : Nat) : State :=
  let s1 := s.leaveWait q
  let w := s1.queue q
  if w.st = .running ∨ w.st = .fetchFault then s1.setQueue q { w.discard with st := .draining }
  else if w.st = .masterOff then s1.setQueue q w.discard
  else s1

/-- A storage queue's unstarted commands are discarded, and their tasks freed (R83, R334). -/
def Stq.discard (x : Stq) : Stq :=
  let head := x.published
  { x with committed := [], cmds := x.cmds.filter (·.started), head := head }

def State.haltStq (s : State) (k : Nat) : State :=
  let x := s.stq k
  if x.st = .running then s.setStq k { x.discard with st := .draining }
  else if x.st = .masterOff then s.setStq k x.discard
  else s

/-- The work queues and QP queues of a slice, by queue number. -/
def State.sliceQueues (s : State) (id : Nat) : List Nat :=
  let x := s.slice id
  let h := recHome x.record
  let qs := ((s.wqs.map Prod.fst).filter (inBlocks h 65536 x.wqs))
  let qps := ((s.half h).rdma.qps.map Prod.fst).filter fun i => x.qp0 ≤ i && i < x.qp0 + recQps x.record
  qs ++ qps.flatMap fun i => [qpBase + 2 * (h.num * 524288 + i), qpBase + 2 * (h.num * 524288 + i) + 1]

/-- The storage queues of a slice, by key. -/
def State.sliceStqs (s : State) (id : Nat) : List Nat :=
  let x := s.slice id
  (s.storage.stqs.map Prod.fst).filter (inBlocks (recHome x.record) 4096 x.sqs)

/-- The instant of disable: the slice reads DISABLING, and unstarted work is discarded (R83). -/
def State.disableSlice (s : State) (id : Nat) : State :=
  let s1 := s.setSlice id { s.slice id with st := .disabling }
  let s2 := (s1.sliceQueues id).foldl State.haltQueue s1
  ((s2.sliceStqs id).foldl State.haltStq s2).tryDetach

/-! ### The run of a command (R71, R75) -/

/-- The running command is marked started. -/
def State.markStarted (s : State) : State :=
  match s.mgmt.sliceQ with
  | [] => s
  | c :: rest => { s with mgmt := { s.mgmt with sliceQ := { c with started := true } :: rest } }

/-- The slice's record with the QoS values of another (R80). -/
def withQos (old new : BitVec 512) : BitVec 512 :=
  setFld (setFld (setFld (setFld old 336 16 (fld new 336 16)) 352 16 (recHostMin new)) 368 16 (recHostMax new)) 384 8
    (recWeight new)

/-- SET_QOS (R80). -/
def State.setQos (s : State) (r : BitVec 512) : State × Nat :=
  let id := recId r
  let x := s.slice id
  if recHostMax r < recHostMin r ∨ 1023 < fld r 336 16 ∨ 4096 < recHostMin r ∨ recWeight r = 0 then (s, stRange)
  else if 4096 < s.hostMinSum (recPort x.record) id + recHostMin r then (s, stQuota)
  else (s.setSlice id { x with record := withQos x.record r }, stOk)

/-- The first command of the queue starts, if nothing of its slice is in DISABLING or DESTROYING (R71, R75). -/
def State.runSliceCmd (s : State) : State :=
  match s.mgmt.sliceQ with
  | [] => s
  | c :: _ =>
    let r := c.record
    let id := recId r
    let x := s.slice id
    if c.started ∨ x.st = .disabling ∨ x.st = .destroying then s
    else
      let s0 := s.markStarted
      if recOp r = 0 ∨ 6 < recOp r ∨ 4096 ≤ id then s0.endSliceCmd stRange
      else if recOp r = 1 then
        if s.createBad r then s0.endSliceCmd stRange
        else let y := s0.sliceCreate r
          y.1.endSliceCmd y.2
      else if x.used = false then s0.endSliceCmd stNotFound
      else if recOp r = 2 then (s0.setSlice id { x with st := .enabled }).endSliceCmd stOk
      else if recOp r = 3 then
        if x.st = .enabled then (s0.disableSlice id).settle id else s0.endSliceCmd stOk
      else if recOp r = 4 then (s0.sliceReset id).endSliceCmd stOk
      else if recOp r = 5 then
        if x.st = .enabled then (s0.disableSlice id).settle id
        else
          let s1 := s0.sliceReset id
          (s1.setSlice id { s1.slice id with st := .destroying }).endDestroy id
      else let y := s0.setQos r
        y.1.endSliceCmd y.2

/-- A slice holds resources on a half (R432). -/
def Slice.on (x : Slice) (h : Half) : Bool :=
  recHome x.record = h || x.leaves h != [] || x.pols h != [] || x.sas h != []

/-- During a split a slice command is turned away with OTHER_HALF: the serving half lacks custody, the slice is not homed
on it, or a CREATE, DESTROY or SET_QOS concerns resources of the other half (R432). -/
def State.sliceCmdOther (s : State) (ss : Session) (r : BitVec 512) : Bool :=
  let h := s.server ss
  let o := h.other
  s.cstl.split &&
    (!s.custody ss ||
      (if recOp r = 1 then recHome r != h || recLeaf o r != 0 || recPol o r != 0 || recSa o r != 0
       else (s.slice (recId r)).used && (recHome (s.slice (recId r)).record != h
        || ((recOp r = 5 || recOp r = 6) && (s.slice (recId r)).on o))))

/-- The state code of the slice a record names. -/
def State.sliceCode (s : State) (r : BitVec 512) : SliceSt := (s.slice (recId r)).st

/-- A SLICE_CMD write of a session whose earlier commands have finished (R71, R74, R432). -/
def State.acceptSliceCmd (s : State) (ss : Session) (r : BitVec 512) : State :=
  if s.sliceCmdOther ss r then s.sliceResult ss (s.sliceCode r) stOtherHalf
  else
    let s1 := s.diverge ss 0x5000 2 (recId r)
    let s2 := { s1 with mgmt := { s1.mgmt with sliceQ := s1.mgmt.sliceQ ++ [{ sess := ss, record := r }] } }
    if s.mgmt.sliceQ.isEmpty then s2.runSliceCmd else s2

/-- A write of SLICE_CMD (R71, R74). -/
def State.sliceCmd (s : State) (w : Who) (r : BitVec 512) : Reply :=
  s.write w 0x5000 2 (leBytes 64 r.toNat) (fun a => a.mgmt.sliceQ.any fun c => c.sess = w.sess) always
    fun a => some (a.acceptSliceCmd w.sess r)

/-- A record with its OP. -/
def withOp (rec : BitVec 512) (op : Nat) : BitVec 512 := setFld rec 0 8 op

/-- SLICE_CREATE (R75). -/
def execSliceCreate (w : Who) (rec : BitVec 512) (s : State) : Out := (s.sliceCmd w (withOp rec 1)).out w

/-- SLICE_ENABLE (R75). -/
def execSliceEnable (w : Who) (rec : BitVec 512) (s : State) : Out := (s.sliceCmd w (withOp rec 2)).out w

/-- SLICE_DISABLE (R83). -/
def execSliceDisable (w : Who) (rec : BitVec 512) (s : State) : Out := (s.sliceCmd w (withOp rec 3)).out w

/-- SLICE_RESET (R81). -/
def execSliceReset (w : Who) (rec : BitVec 512) (s : State) : Out := (s.sliceCmd w (withOp rec 4)).out w

/-- SLICE_DESTROY (R85). -/
def execSliceDestroy (w : Who) (rec : BitVec 512) (s : State) : Out := (s.sliceCmd w (withOp rec 5)).out w

/-- SLICE_SET_QOS (R80). -/
def execSliceSetQos (w : Who) (rec : BitVec 512) (s : State) : Out := (s.sliceCmd w (withOp rec 6)).out w

/-- SLICE_CMD_DEQUEUE (R71): the oldest command that waits starts once those before it have finished. -/
def execSliceCmdDequeue (s : State) : Out := .next s.runSliceCmd

/-- SLICE_CNT_CLEAR (R86): one slice's counters, or every slice's, those of the serving half during a split; a FREE slice is not
found. -/
def State.sliceCntClear (s : State) (w : Who) (v : Nat) : Reply :=
  s.write w 0x6000 3 (leBytes 2 v) idle (fun a => v = 0xFFFF || (a.slice v).used) fun a =>
    let away := fun k => a.cstl.split && k / 16 % 2 != (a.server w.sess).num
    some { a with sliceCnt := mdrop (fun k => !away k && (v = 0xFFFF || k / 32 = v)) a.sliceCnt }

def execSliceCntClear (w : Who) (v : BitVec 16) (s : State) : Out := (s.sliceCntClear w v.toNat).out w

/-- PF_CNT_CLEAR (R86): one PF's counter, or every PF's; other values are refused. -/
def State.pfCntClear (s : State) (w : Who) (v : Nat) : Reply :=
  s.write w 0x6000 6 (leBytes 1 v) idle always fun a =>
    if v = 0xFF then some { a with pfCnt := [] }
    else if v < 64 ∧ (v % 16 = 1 ∨ v % 16 = 2) then some { a with pfCnt := merase a.pfCnt (v / 16 * 16 + v % 16) }
    else none

def execPfCntClear (w : Who) (v : BitVec 8) (s : State) : Out := (s.pfCntClear w v.toNat).out w

end Sys2Proof.Machine
end

