-- ==== Sys2Proof/Machine/Net.lean ====
section
/-! DEFINITION. Network ports, precision time and management link ports (06). -/

namespace Sys2Proof.Machine
open Sys2Proof

/-! ### Objects of a port (R161) -/

def State.portMode (s : State) (n : Nat) : Nat := s.param (ethHalf n) 0xA610 (n + 1) 0 4
def State.maxFrame (s : State) (n : Nat) : Nat := s.param (ethHalf n) 0xA614 (n + 1) 0 1522
def State.flowMode (s : State) (n : Nat) : Nat := s.param (ethHalf n) 0xA615 (n + 1) 0 0
def State.asym (s : State) (n : Nat) : Int := signed 32 (s.param (ethHalf n) 0xA619 (n + 1) 0 0)

/-- A counter of a port (R162), raised. -/
def State.countPort (s : State) (n sub k : Nat) : State := s.count (0x6100 + n) sub k

/-- The lanes a port of a half occupies in a mode, from lane i on (R143). -/
def modeLanes (m : Nat) : Nat := if m = 0 then 0 else if m = 5 then 2 else if m = 6 then 4 else 1

/-- A lane of a half, numbered within it, is held by a port other than `i` (R144). -/
def State.laneHeld (s : State) (h : Half) (i lane : Nat) : Bool :=
  (List.range 8).any fun j =>
    j != i && j ≤ lane && lane < j + modeLanes (s.portMode (8 * h.num + j))

/-- A mode is permitted at a port: its place, and lanes that no other port holds (R143, R144). -/
def State.modeOk (s : State) (n m : Nat) : Bool :=
  m ≤ 6 && n % 8 % (modeLanes m + (if m = 0 then 1 else 0)) = 0
    && (List.range (modeLanes m)).all fun d => !s.laneHeld (ethHalf n) (n % 8) (n % 8 + d)

/-! ### Link (R144, R146, R151) -/

/-- Frames queued in TMGR for a port, of the traffic classes that satisfy `p`, are discarded and counted (R151, R155). -/
def State.dropPort (s : State) (n sub : Nat) (p : Nat → Bool) : State :=
  let h := ethHalf n
  let ls := (s.heldLeaves h).filter fun l => s.leafPort h l = some n && p (ndTc (s.node h 3 l).record)
  let fs := ls.flatMap fun l => (s.node h 3 l).frames
  ((ls.foldl (fun a l => a.emptyLeaf h l) s).countPort n sub fs.length).lostSends fs

/-- A port goes down: the loss is counted and logged, and frames queued for it are discarded (R151). -/
def State.linkLoss (s : State) (n : Nat) (remote loc : Bool) : State :=
  let x := s.ethPort n
  let s1 := s.setEth n { x with link := false, trained := 0, anDone := false, remoteFault := remote, localFault := loc }
  if x.link then
    ((s1.countPort n 9 1).log 0x2001 0 (unitId (ethHalf n) 13) 0 n).dropPort n 0x0E fun _ => true
  else s1

/-- Every port of a half goes down. -/
def State.portsDown (s : State) (h : Half) : State :=
  (List.range 8).foldl (fun a i => a.linkLoss (8 * h.num + i) false false) s

/-- PORT_MODE_WRITE (R144): an accepted write takes the port down. -/
def State.portModeWrite (s : State) (w : Who) (n v : Nat) : Reply :=
  s.write w 0xA610 (n + 1) (leBytes 1 v) idle always fun a =>
    if a.modeOk n v then some ((a.setParams (a.server w.sess) 0xA610 (n + 1) 0 v).linkLoss n false false) else none

def execPortModeWrite (w : Who) (n : Fin 16) (v : BitVec 8) (s : State) : Out := (s.portModeWrite w n v.toNat).out w

/-- A port may have a link: its mode is not 0, and NET of its half has power and is ACTIVE (R145, R412). -/
def State.linkable (s : State) (n : Nat) : Bool :=
  s.board.boot != .inReset && s.board.boot != .recovery && !(s.half (ethHalf n)).stopped && s.active (ethHalf n) 13
    && s.portMode n != 0

/-- PORT_LINK_UP (R146): the port has trained its mode; `an` is auto-negotiation's outcome, which only counts with AN_En and
a CR or KR type. -/
def State.linkUp (s : State) (n : Nat) (an : Bool) : State :=
  if s.linkable n then
    let h := ethHalf n
    let usesAn := s.param h 0xA613 (n + 1) 0 1 = 1 ∧ s.param h 0xA612 (n + 1) 0 0 < 2
    s.setEth n { s.ethPort n with link := true, trained := s.portMode n, anDone := an && usesAn, remoteFault := false
                                  localFault := false }
  else s

def execPortLinkUp (n : Fin 16) (an : Bool) (s : State) : Out := .next (s.linkUp n an)

/-- PORT_LINK_LOSS (R151). -/
def execPortLinkLoss (n : Fin 16) (remote loc : Bool) (s : State) : Out := .next (s.linkLoss n remote loc)

/-! ### Flow control (R152 to R155) -/

/-- Received quanta for a priority: transmission of it is held for q × 512 bit times, or resumes (R153). -/
def State.pausePrio (s : State) (n p quanta : Nat) : State :=
  let x := s.ethPort n
  let now := s.time (ethHalf n)
  if quanta = 0 then s.setEth n { x with paused := merase x.paused p, stormed := x.stormed &&& ~~~ BitVec.ofNat 8 (2 ^ p) }
  else
    let since := match mfind x.paused p with
      | some y => y.since
      | none => now
    let till := now + quanta * 512000 / Nat.max (modeRate x.trained) 1
    s.setEth n { x with paused := mput x.paused p { deadline := till, since := since } }

/-- A received PAUSE frame: counted, and with FLOW_En 1 it holds every priority (R152, R153). -/
def State.pauseFrame (s : State) (n quanta : Nat) : State :=
  if (s.ethPort n).link = false then s
  else
    let s1 := s.countPort n 6 1
    if s.flowMode n = 1 then (List.range 8).foldl (fun a p => a.pausePrio n p quanta) s1 else s1

/-- PAUSE_FRAME_RECEIVE (R153). -/
def execPauseFrameReceive (n : Fin 16) (quanta : BitVec 16) (s : State) : Out := .next (s.pauseFrame n quanta.toNat)

/-- The part of a received PFC frame for one priority (R152, R153). -/
def State.pfcPart (s : State) (n : Nat) (mask : BitVec 8) (quanta : BitVec 128) (p : Nat) : State :=
  if bit mask p then
    let s1 := s.countPort n (0x1A + p) 1
    if s.lossless n p then s1.pausePrio n p (fld quanta (16 * p) 16) else s1
  else s

/-- A received PFC frame (R153): the priorities it names, with the quanta of priority p in bits 16p to 16p + 15. -/
def State.pfcFrame (s : State) (n : Nat) (mask : BitVec 8) (quanta : BitVec 128) : State :=
  if (s.ethPort n).link = false then s else (List.range 8).foldl (fun a p => a.pfcPart n mask quanta p) s

/-- PFC_FRAME_RECEIVE (R153). -/
def execPfcFrameReceive (n : Fin 16) (mask : BitVec 8) (quanta : BitVec 128) (s : State) : Out :=
  .next (s.pfcFrame n mask quanta)

/-- PAUSE_EXPIRY (R153, R155): the quanta have passed; the pause ends, and a storm with it. -/
def State.pauseExpiry (s : State) (n p : Nat) : State :=
  match mfind (s.ethPort n).paused p with
  | none => s
  | some y =>
    let s1 := s.until (ethHalf n) y.deadline
    let x := s1.ethPort n
    s1.setEth n { x with paused := merase x.paused p, stormed := x.stormed &&& ~~~ BitVec.ofNat 8 (2 ^ p) }

def execPauseExpiry (n : Fin 16) (prio : Fin 8) (s : State) : Out := .next (s.pauseExpiry n prio)

/-- PFC_XOFF_REPEAT (R154): the XOFF is repeated while the ingress use stays above XON. -/
def State.xoffRepeat (s : State) (n p : Nat) : State :=
  if bit (s.ethPort n).xoff p ∧ s.ingress n p > s.xonCells n then s.sendPfc n p 0xFFFF else s

def execPfcXoffRepeat (n : Fin 16) (prio : Fin 8) (s : State) : Out := .next (s.xoffRepeat n prio)

/-- PFC_STORM (R155): a priority held for PFC_WD_MS is stormed; what is queued for it is discarded. -/
def State.pfcStorm (s : State) (n p : Nat) : State :=
  let wd := s.param (ethHalf n) 0xA600 5 0 100
  match mfind (s.ethPort n).paused p with
  | none => s
  | some y =>
    if wd = 0 ∨ bit (s.ethPort n).stormed p then s
    else
      let s1 := s.until (ethHalf n) (y.since + wd * 1000000)
      let x := s1.ethPort n
      ((s1.setEth n { x with stormed := x.stormed ||| BitVec.ofNat 8 (2 ^ p) }).log 0x2002 2 (unitId (ethHalf n) 13) 0
        (n + 256 * p)).dropPort n 0x18 (· = p)

def execPfcStorm (n : Fin 16) (prio : Fin 8) (s : State) : Out := .next (s.pfcStorm n prio)

/-! ### Receiving (R147, R148, R153) -/

/-- The port runs MACsec: ENABLE of MACSEC_En (R259). -/
def State.macsecRec (s : State) (n : Nat) : BitVec 704 := BitVec.ofNat 704 (s.param (ethHalf n) 0xA210 (n + 1) 0 0)
def State.macsecOn (s : State) (n : Nat) : Bool := bit (s.macsecRec n) 0

/-- The longest wire frame a port takes: MAX_FRAME_En, and 32 more for a frame with a SecTAG on a protected port (R148). -/
def State.rxLimit (s : State) (n : Nat) (bytes : List Byte) : Nat :=
  s.maxFrame n + (if s.macsecOn n ∧ beAt bytes 12 2 = 0x88E5 then 32 else 0)

/-- A frame that has passed R148 goes to CIPHER (R34, R150, R156). -/
def State.toCipher (s : State) (n : Nat) (bytes : List Byte) : State :=
  let h := ethHalf n
  let t := ((s.time h : Int) + s.asym n).toNat
  s.addFlight h { bytes := bytes, port := n, rxTime := t, stage := .cipherRx }

/-- A frame that has passed R148 is counted; a MAC control frame is taken out, and any other is dropped while the half forwards
nothing, or passed to CIPHER (R150, R153, R412). -/
def State.takeFrame (s : State) (n : Nat) (bytes : List Byte) : State :=
  let s1 := (s.countPort n 1 (bytes.length + 4)).countPort n 2 1
  if beAt bytes 12 2 = 0x8808 ∧ beAt bytes 14 2 = 0x0001 then s1.pauseFrame n (beAt bytes 16 2)
  else if beAt bytes 12 2 = 0x8808 ∧ beAt bytes 14 2 = 0x0101 then
    s1.pfcFrame n (BitVec.ofNat 8 (beAt bytes 16 2))
      (BitVec.ofNat 128 ((List.range 8).map fun p => beAt bytes (18 + 2 * p) 2 * 2 ^ (16 * p)).sum)
  else if s.forwards (ethHalf n) = false then s1.countH 0x6A00 (ethHalf n) 1 1
  else s1.toCipher n bytes

/-- A frame received on a port, its FCS apart: gated at start-up, checked by R147 and R148, or taken (R148, R367). -/
def State.frameReceive (s : State) (n : Nat) (bytes : List Byte) (fcsOk fecOk : Bool) : State :=
  let len := bytes.length + 4
  if (s.ethPort n).link = false then s
  else if s.running = false then s.countPort n 0x0A 1
  else if fecOk = false then (s.countPort n 8 1).countPort n 3 1
  else if fcsOk = false then s.countPort n 3 1
  else if len < 64 then s.countPort n 4 1
  else if s.rxLimit n bytes < len then s.countPort n 5 1
  else s.takeFrame n bytes

/-- FRAME_RECEIVE (R148). -/
def execFrameReceive (n : Fin 16) (bytes : List Byte) (fcsOk fecOk : Bool) (s : State) : Out :=
  .next (s.frameReceive n bytes fcsOk fecOk)

/-! ### Transmitting (R149, R156, R157) -/

/-- The offset after up to two VLAN tags, at which the EtherType stands. -/
def typeOffset (bs : List Byte) : Nat :=
  let tag := fun i => beAt bs i 2 = 0x8100 ∨ beAt bs i 2 = 0x88A8
  if tag 12 then (if tag 16 then 20 else 16) else 12

/-- Where the PTP message of a frame begins, and the offset of its UDP header over IP; the EtherType that carries it:
0x88F7, UDP/IPv4 or UDP/IPv6 to port 319 (R157). -/
def ptpAt (bs : List Byte) : Option (Nat × Nat × Nat) :=
  let t := typeOffset bs
  let ty := beAt bs t 2
  if ty = 0x88F7 then some (t + 2, 0, ty)
  else if ty = 0x0800 ∧ beAt bs (t + 11) 1 = 17 then
    let u := t + 2 + 4 * (beAt bs (t + 2) 1 % 16)
    if beAt bs (u + 2) 2 = 319 then some (u + 8, u, ty) else none
  else if ty = 0x86DD ∧ beAt bs (t + 8) 1 = 17 then
    if beAt bs (t + 44) 2 = 319 then some (t + 50, t + 42, ty) else none
  else none

/-- A Sync message whose twoStepFlag is 0 (R157). -/
def isSync (bs : List Byte) (m : Nat) : Bool := beAt bs m 1 % 16 = 0 && beAt bs (m + 6) 1 / 2 % 2 = 0

/-- A Sync with originTimestamp written, and over UDP/IPv4 the UDP checksum 0 (R157). -/
def stampSync (bs : List Byte) (m u t : Nat) : List Byte :=
  let b := patch bs (m + 34) (beBytes 6 (t / 1000000000) ++ beBytes 4 (t % 1000000000))
  if u = 0 then b else patch b (u + 6) [0, 0]

/-- What one-step operation makes of a frame, and whether it was skipped (R157). -/
def State.oneStep (s : State) (n t : Nat) (bs : List Byte) : List Byte × Bool :=
  if s.param (ethHalf n) 0xA618 (n + 1) 0 0 ≠ 1 then (bs, false)
  else
    match ptpAt bs with
    | none => (bs, false)
    | some (m, u, ty) =>
      if isSync bs m = false then (bs, false)
      else if ty = 0x86DD then (bs, true)
      else (stampSync bs m u (t + s.param (ethHalf n) 0xA600 4 0 0), false)

/-- A frame leaves on a port: stamped, counted, and its ETH_SEND with TS completed with the timestamp (R156). -/
def State.sendFrame (s : State) (n : Nat) (f : Frame) : State :=
  let t := ((s.time (ethHalf n) : Int) + s.asym n).toNat
  let o := s.oneStep n t f.bytes
  let s1 := (s.emit (.ethTx n o.1 t)).countPort n 0x0B f.len |>.countPort n 0x0C 1
  let s2 := if o.2 then s1.countPort n 0x19 1 else s1
  s2.endSend f stOk 1 t true

/-- The oldest frame that NET holds for a port is sent, or dropped: the port is down, or it is longer than MAX_FRAME_En
without its SecTAG and ICV (R149, R151). -/
def State.frameTransmit (s : State) (n : Nat) : State :=
  match s.takeFlight (ethHalf n) fun f => f.stage = .net && f.port = n with
  | none => s
  | some (f, s1) =>
    if (s.ethPort n).link = false then (s1.countPort n 0x0E 1).lostSend f
    else if s.maxFrame n < f.bytes.length + 4 then (s1.countPort n 0x0D 1).lostSend f
    else s1.sendFrame n f

/-- FRAME_TRANSMIT (R156). -/
def execFrameTransmit (n : Fin 16) (s : State) : Out := .next (s.frameTransmit n)

/-! ### Management link ports (R159, R160) -/

/-- The frames of the present second at a management link port. -/
def State.mgmtRx (s : State) (h : Half) : Nat × Nat :=
  match h with
  | .k => s.mgmt.rxK
  | .q => s.mgmt.rxQ

def State.setMgmtRx (s : State) (h : Half) (x : Nat × Nat) : State :=
  match h with
  | .k => { s with mgmt := { s.mgmt with rxK := x } }
  | .q => { s with mgmt := { s.mgmt with rxQ := x } }

/-- A frame at a management link port: one of the kinds and lengths of R160, and no more than 20,000 in a second. -/
def State.mgmtFrame (s : State) (h : Half) (kind : MgmtFrame) (len : Nat) : State :=
  if s.board.boot = .inReset ∨ kind = .otherFrame ∨ 1522 < len then s
  else
    let r := s.mgmtRx h
    let c := if s.time h < r.1 + 1000000000 ∧ 0 < r.2 then r else (s.time h, 0)
    if c.2 < 20000 then (s.setMgmtRx h (c.1, c.2 + 1)).emit (.mgmtFrame h) else s.countH 0x6900 h 5 1

/-- MGMT_FRAME_RECEIVE (R160). -/
def execMgmtFrameReceive (h : Half) (kind : MgmtFrame) (len : Nat) (s : State) : Out := .next (s.mgmtFrame h kind len)

/-- MGMT_LINK_CHANGE (R159): the speed is the PHY's, 0 10, 1 100 and 2 1,000 Mb/s. -/
def execMgmtLinkChange (h : Half) (up : Bool) (speed : Fin 3) (s : State) : Out :=
  let v := BitVec.ofNat 8 (2 * speed.val + b2n up)
  .next (match h with
    | .k => { s with mgmt := { s.mgmt with linkK := v } }
    | .q => { s with mgmt := { s.mgmt with linkQ := v } })

/-! ### Steering of the timebase (R30 to R32, R158) -/

/-- During a split a steering write acts on the half that serves it only if that is the half of TB_PORT (R158). -/
def State.steers (s : State) (h : Half) : Bool :=
  let p := s.param h 0xA600 1 0 0xFF
  !s.cstl.split || (p < 16 && ethHalf p = h)

def State.steerFrom (s : State) (h : Half) (f : Governor → Governor) : State :=
  if s.cstl.split = false then s.onBoth fun x => { x with gov := f x.gov }
  else if s.steers h then s.onHalf h fun x => { x with gov := f x.gov }
  else s

/-- TB_RATE_WRITE (R30, R158). -/
def State.tbRateWrite (s : State) (w : Who) (v : BitVec 32) : Reply :=
  s.write w 0xA600 2 (leBytes 4 v.toNat) idle always fun a =>
    some ((a.setParams (a.server w.sess) 0xA600 2 0 v.toNat).steerFrom (a.server w.sess) fun g =>
      { g with rate := signed 32 v.toNat })

def execTbRateWrite (w : Who) (v : BitVec 32) (s : State) : Out := (s.tbRateWrite w v).out w

/-- A correction in ns: a forward one above 1 ms is a step, any other is slewed (R31). -/
def Governor.adjust (g : Governor) (ns : Int) : Governor :=
  if 1000000 < ns then { g with time := g.time + ns.toNat } else { g with slew := g.slew + ns * 4294967296 }

/-- TB_ADJUST_WRITE (R31). -/
def State.tbAdjustWrite (s : State) (w : Who) (v : BitVec 32) : Reply :=
  s.write w 0xA600 3 (leBytes 4 v.toNat) idle always fun a =>
    some (a.steerFrom (a.server w.sess) (·.adjust (signed 32 v.toNat)))

def execTbAdjustWrite (w : Who) (v : BitVec 32) (s : State) : Out := (s.tbAdjustWrite w v).out w

/-- PORT_CNT_CLEAR (R161): the counters of one port, or of every port, clear; during a split those of the other half's ports
do not, and a port of it is refused (R431). -/
def State.portCntClear (s : State) (w : Who) (v : Nat) : Reply :=
  s.write w 0xA600 6 (leBytes 2 v) idle always fun a =>
    let mine := fun n => !a.cstl.split || ethHalf n = a.server w.sess
    if v = 0xFFFF then some ((List.range 16).foldl (fun b n => if mine n then b.clearIndex (0x6100 + n) else b) a)
    else if v < 16 ∧ mine v then some (a.clearIndex (0x6100 + v))
    else none

def execPortCntClear (w : Who) (v : BitVec 16) (s : State) : Out := (s.portCntClear w v.toNat).out w

end Sys2Proof.Machine
end

