-- ==== Sys2Proof/Machine/CipherOps.lean ====
section
/-! DEFINITION. Key store, SA records, MACsec and ESP (10). -/

namespace Sys2Proof.Machine
open Sys2Proof

/-! ### Slots and records (R254, R255) -/

def State.sa (s : State) (h : Half) (i : Nat) : Sa := mget (s.half h).cipher.sas i {}

def State.setSa (s : State) (h : Half) (i : Nat) (x : Sa) : State :=
  s.onHalf h fun y => { y with cipher := { y.cipher with sas := mset y.cipher.sas i x {} } }

/-- The slice whose block holds an SA slot; 0xFFFF for a management slot (R254). -/
def State.saOwner (s : State) (h : Half) (i : Nat) : Nat :=
  match s.slices.find? fun x => x.2.used ∧ (blkPlace (x.2.sas h) i).isSome with
  | some x => x.1
  | none => 0xFFFF

def saKind (r : BitVec 640) : Nat := fld r 0 8
def sa256 (r : BitVec 640) : Bool := bit r 8
def saEnable (r : BitVec 640) : Bool := bit r 9
def saEsn (r : BitVec 640) : Bool := bit r 10
def saEncap (r : BitVec 640) : Bool := bit r 11
def saSpi (r : BitVec 640) : Nat := fld r 32 32
def saPn (r : BitVec 640) : Nat := fld r 64 64
def saSalt (r : BitVec 640) : Nat := fld r 128 96
def saWin (r : BitVec 640) : Nat := fld r 224 16
def saPort (r : BitVec 640) : Nat := fld r 240 8
def saNextHdr (r : BitVec 640) : Nat := fld r 248 8

/-- The wrapped key: 40 bytes, or 24 for a 128-bit key (R255). -/
def saWrapped (r : BitVec 640) : List Byte := leBytes (if sa256 r then 40 else 24) (fld r 256 320)

/-- The SA carries 64-bit values: MACsec, or ESP with ESN (R255, R267). -/
def saWide (r : BitVec 640) : Bool := saKind r ≤ 2 || saEsn r

/-- The last value of an SA (R267). -/
def saLast (r : BitVec 640) : Nat := if saWide r then 18446744073709551615 else 4294967295

/-- An SA can serve frames: not EMPTY, not FENCING, of a kind, and enabled. -/
def Sa.serves (x : Sa) (kind : Nat) : Bool :=
  x.st != .empty && x.st != .fencing && saKind x.record = kind && saEnable x.record

/-- A counter of R273, raised. -/
def State.countCipher (s : State) (h : Half) (sub n : Nat) : State := s.countH 0x6500 h sub n

/-! ### Values and the rekey mark (R260, R263, R266, R267) -/

/-- The mark of an SA: REKEY_MARK for 64-bit counters, else REKEY_MARK32 (R267). -/
def State.rekeyMark (s : State) (h : Half) (r : BitVec 640) : Nat :=
  if saWide r then s.param h 0xA200 2 0 0x4000000000000000 else s.param h 0xA200 0x0A 0 0xC0000000

/-- An outbound SA whose next value has reached its mark reads MARKED, once, and the event is logged (R267). -/
def State.noteMark (s : State) (h : Half) (i : Nat) : State :=
  let x := s.sa h i
  if x.st = .ready ∧ (saKind x.record = 1 ∨ saKind x.record = 3) ∧ s.rekeyMark h x.record ≤ x.next then
    ((s.setSa h i { x with st := .marked }).log 0x4001 0 (unitId h 9) 0 i).countCipher h 5 1
  else s

/-- A value of an outbound SA is assigned: the next one follows, and after the last the SA reads EXHAUSTED
(R260, R266, R267). -/
def State.assign (s : State) (h : Half) (i octets : Nat) : State :=
  let x := s.sa h i
  let s1 := s.setSa h i { x with
    next := if x.next = saLast x.record then x.next else x.next + 1
    st := if x.next = saLast x.record then .exhausted else x.st
    frames := x.frames + 1, octets := x.octets + octets }
  s1.noteMark h i

/-! ### MACsec (R259 to R262) -/

def mcTxAn (r : BitVec 704) : Nat := fld r 8 8
def mcValidate (r : BitVec 704) : Nat := fld r 5 2
def mcTxSa (r : BitVec 704) (an : Nat) : Nat := fld r (96 + 16 * an) 16
def mcReplay (r : BitVec 704) : Nat := fld r 160 32
def mcSci (r : BitVec 704) (i : Nat) : List Byte := leBytes 8 (fld r (192 + 128 * i) 64)
def mcRxSa (r : BitVec 704) (i an : Nat) : Nat := fld r (192 + 128 * i + 64 + 16 * an) 16

/-- A SecTAG is malformed, by IEEE 802.1AE. PRESUMED (log 35). -/
def badTag (bs : List Byte) : Bool :=
  let t := bs.getD 14 0
  let off := if bit t 5 then 28 else 20
  bit t 7 || (bit t 5 && (bit t 6 || bit t 4)) || (bit t 3 != bit t 2) || 48 ≤ beAt bs 15 1
    || bs.length < off + 16

/-- The SCI of a frame: explicit, from the source address with ES, or that of the one receive channel in use.
PRESUMED (log 35). -/
def frameSci (r : BitVec 704) (bs : List Byte) : List Byte :=
  let t := bs.getD 14 0
  if bit t 5 then slice bs 20 8
  else if bit t 6 then slice bs 6 6 ++ (if bit t 4 then [0, 0] else [0, 1])
  else
    match (List.range 4).filter fun i => mcSci r i ≠ List.replicate 8 0 with
    | [i] => mcSci r i
    | _ => []

/-- The RX SA slot of a frame: its SCI's channel, its AN, and an SA there that serves (R259, R261). -/
def State.rxSa (s : State) (h : Half) (r : BitVec 704) (bs : List Byte) : Option Nat :=
  let sci := frameSci r bs
  match (List.range 4).find? fun i => mcSci r i = sci ∧ sci ≠ List.replicate 8 0 with
  | none => none
  | some i =>
    let k := mcRxSa r i (fld (bs.getD 14 0) 0 2)
    if k < 16384 ∧ (s.sa h k).serves 2 then some k else none

/-- The 64-bit PN of a frame from its low 32 bits and the lowest acceptable PN, by IEEE 802.1AEbw. PRESUMED (log 35). -/
def fullPn (lowest low : Nat) : Nat :=
  let hi := lowest / 4294967296
  if 2147483648 ≤ lowest % 4294967296 ∧ low < 2147483648 then (hi + 1) * 4294967296 + low else hi * 4294967296 + low

/-- The frame without SecTAG and ICV: its data deciphered where it was encrypted (R261). -/
def openTag (x : Sa) (pn : Nat) (bs : List Byte) : List Byte :=
  let t := bs.getD 14 0
  let off := if bit t 5 then 28 else 20
  let data := slice bs off (bs.length - off - 16)
  let plain := if bit t 3 then (List.range data.length).map
      (Config.gcmOpened x.key.toNat (pn + 2 ^ 64 * saSalt x.record + 2 ^ 160 * saSpi x.record) data)
    else data
  slice bs 0 12 ++ plain

/-- A frame that arrives at CIPHER on a protected port (R261): the state after it, and the frame that goes on. -/
def State.macsecCheck (s : State) (f : Frame) (icvOk : Bool) : State × Option Frame :=
  let h := ethHalf f.port
  let r := s.macsecRec f.port
  let strict := mcValidate r = 2
  if beAt f.bytes 12 2 ≠ 0x88E5 then (s.countCipher h 4 1, if strict then none else some f)
  else if badTag f.bytes then (s.countCipher h 3 1, none)
  else
    match s.rxSa h r f.bytes with
    | none => (s.countCipher h 3 1, none)
    | some i =>
      let x := s.sa h i
      if icvOk = false then ((s.countCipher h 1 1).setSa h i { x with integrity := x.integrity + 1 }, none)
      else
        let pn := fullPn x.next (beAt f.bytes 16 4)
        let y := { x with
          next := Nat.max x.next (pn + 1 - mcReplay r)
          frames := x.frames + 1, octets := x.octets + f.bytes.length
          late := if pn < x.next then x.late + 1 else x.late }
        let s1 := s.setSa h i y
        let g := { f with bytes := openTag x pn f.bytes, macsec := true }
        if pn < x.next then (s1.countCipher h 2 1, if strict then none else some g) else (s1, some g)

/-! ### ESP (R263 to R265) -/

/-- The internet checksum field at `off` of a header of `len` bytes at `start`, computed anew. -/
def fixSum (bs : List Byte) (start len off : Nat) : List Byte :=
  let z := patch bs off [0, 0]
  patch z off (beBytes 2 (inetSum (slice z start len)))

/-- The IP header at an offset is IPv4. -/
def isV4 (bs : List Byte) (l3 : Nat) : Bool := beAt bs l3 1 / 16 = 4

/-- Where the IP packet of a frame ends: what follows is padding of the frame. -/
def ipEnd (bs : List Byte) (l3 : Nat) : Nat :=
  Nat.min bs.length (if isV4 bs l3 then l3 + beAt bs (l3 + 2) 2 else l3 + 40 + beAt bs (l3 + 4) 2)

/-- The length of the outer IP packet set to end at `e`, with the IPv4 header checksum (R263, R264). -/
def fixIp (bs : List Byte) (l3 e : Nat) : List Byte :=
  if isV4 bs l3 then fixSum (patch bs (l3 + 2) (beBytes 2 (e - l3))) l3 (4 * (beAt bs l3 1 % 16)) (l3 + 10)
  else patch bs (l3 + 4) (beBytes 2 (e - l3 - 40))

/-- The outer IP header's offset in a frame: L3_OFF, or after the Ethernet header where the word has none. -/
def Frame.l3 (f : Frame) : Nat := if mdL3 f.md = 0 then typeOffset f.bytes + 2 else mdL3 f.md

/-- The padding that brings n bytes and the two trailer bytes to a multiple of 4: 1, 2, 3 … (RFC 4303; R263). -/
def espPad (n : Nat) : List Byte := (List.range ((4 - (n + 2) % 4) % 4)).map fun i => BitVec.ofNat 8 (i + 1)

/-- A frame with its ESP header at `hdr` sealed under an SA with a sequence number (R263). -/
def espSeal (x : Sa) (seq hdr : Nat) (f : Frame) : List Byte :=
  let r := x.record
  let e := ipEnd f.bytes f.l3
  let plain := slice f.bytes (hdr + 16) (e - (hdr + 16))
  let body := plain ++ espPad plain.length
  let text := body ++ [BitVec.ofNat 8 (body.length - plain.length), BitVec.ofNat 8 (saNextHdr r)]
  let spi := slice f.bytes hdr 4
  let nonce := seq + 2 ^ 64 * (saSalt r % 2 ^ 32)
  let cipher := (List.range (text.length + 16)).map
    (Config.gcmSealed x.key.toNat nonce (spi ++ beBytes (if saEsn r then 8 else 4) seq) text)
  let bs := slice f.bytes 0 hdr ++ spi ++ beBytes 4 seq ++ beBytes 8 seq ++ cipher
  let bs1 := fixIp bs f.l3 bs.length
  if saEncap r then patch bs1 (hdr - 4) (beBytes 2 (bs1.length - (hdr - 8)) ++ [0, 0]) else bs1

/-- The bytes an ESP_OUT adds at most. -/
def espGrowth : Nat := 21

/-- Where the next-header field that named ESP stands: the IPv4 Protocol, or the IPv6 Next Header of the fixed header or
of its last extension header (R264). -/
def nextHdrAt (fuel : Nat) (bs : List Byte) (l3 at_ pos : Nat) : Nat :=
  match fuel with
  | 0 => at_
  | k + 1 =>
    let v := beAt bs at_ 1
    if v = 0 ∨ v = 43 ∨ v = 60 then nextHdrAt k bs l3 pos (pos + 8 * (beAt bs (pos + 1) 1 + 1))
    else if v = 44 then nextHdrAt k bs l3 pos (pos + 8)
    else at_

/-- The frame with an ESP packet opened: header, IV, trailer, ICV and, with UDP_ENCAP, the UDP header removed (R264). -/
def espOpen (x : Sa) (seq off : Nat) (f : Frame) : List Byte :=
  let r := x.record
  let hdr := off + (if saEncap r then 8 else 0)
  let e := ipEnd f.bytes f.l3
  let data := slice f.bytes (hdr + 16) (e - 16 - (hdr + 16))
  let nonce := beAt f.bytes (hdr + 8) 8 + 2 ^ 64 * (saSalt r % 2 ^ 32)
  let text := (List.range data.length).map (Config.gcmOpened x.key.toNat (nonce + 2 ^ 96 * seq) data)
  let n := text.length
  let pad := (text.getD (n - 2) 0).toNat
  let bs := slice f.bytes 0 off ++ text.take (n - 2 - pad)
  let nh := if isV4 f.bytes f.l3 then f.l3 + 9 else nextHdrAt 8 f.bytes f.l3 (f.l3 + 6) (f.l3 + 40)
  fixIp (patch bs nh [text.getD (n - 1) 0]) f.l3 bs.length

/-- The full sequence number of an inbound packet, as in RFC 4303 Appendix A (R265). -/
def espSeq (x : Sa) (low : Nat) : Nat :=
  if saEsn x.record = false then low
  else
    let w := Nat.max (saWin x.record) 1
    let hi := x.top / 4294967296
    let tl := x.top % 4294967296
    if w ≤ tl + 1 then (if tl + 1 - w ≤ low then hi else hi + 1) * 4294967296 + low
    else if tl + 1 + 4294967296 - w ≤ low ∧ 0 < hi then (hi - 1) * 4294967296 + low
    else hi * 4294967296 + low

/-- A sequence number is received within the replay window: the window moves (R262, R265). -/
def Sa.receive (x : Sa) (seq octets : Nat) : Sa :=
  let top := Nat.max x.top seq
  let low := Nat.max x.next (top + 1 - saWin x.record)
  { x with top := top, next := if saWin x.record = 0 then x.next else low
           seen := if saWin x.record = 0 then [] else (seq :: x.seen).filter (low ≤ ·)
           frames := x.frames + 1, octets := x.octets + octets }

/-- An SA and a frame refuse each other (R265). -/
def State.saDenied (s : State) (h : Half) (i : Nat) (f : Frame) : Bool :=
  let o := s.saOwner h i
  o != 0xFFFF && (o != mdSlice f.md || (!f.dir && !mdChosen f.md))

/-- ESP_OUT of a held frame: the status, and the frame and sequence number where it is OK (R264, R265). -/
def State.espOut (s : State) (h : Half) (i off : Nat) (f : Frame) : State × Nat × Option (List Byte × Nat) :=
  let x := s.sa h i
  let hdr := off + (if saEncap x.record then 8 else 0)
  if x.serves 3 = false then (s, stNotFound, none)
  else if s.saDenied h i f then (s, stAccess, none)
  else if f.bytes.length < hdr + 16 ∨ 10240 < f.bytes.length + 4 + espGrowth then (s, stRange, none)
  else if x.st = .exhausted then (s.countCipher h 6 1, stNonceExhausted, none)
  else (s.assign h i f.bytes.length, stOk, some (espSeal x x.next hdr f, x.next))

/-- ESP_IN of a held frame (R264, R265). -/
def State.espIn (s : State) (h : Half) (i off : Nat) (f : Frame) (icvOk : Bool) : State × Nat × Option (List Byte × Nat) :=
  let x := s.sa h i
  let hdr := off + (if saEncap x.record then 8 else 0)
  if x.serves 4 = false then (s, stNotFound, none)
  else if s.saDenied h i f ∨ beAt f.bytes hdr 4 ≠ saSpi x.record then (s, stAccess, none)
  else if ipEnd f.bytes f.l3 < hdr + 34 then (s, stRange, none)
  else if icvOk = false then ((s.countCipher h 7 1).setSa h i { x with integrity := x.integrity + 1 }, stIntegrity, none)
  else
    let seq := espSeq x (beAt f.bytes (hdr + 4) 4)
    if saWin x.record ≠ 0 ∧ (seq < x.next ∨ x.seen.contains seq) then
      ((s.countCipher h 8 1).setSa h i { x with late := x.late + 1 }, stMismatch, none)
    else (s.setSa h i (x.receive seq f.bytes.length), stOk, some (espOpen x seq off f, seq))

/-- Where the ESP header of a host-transmit frame stands: PFLAGS ESP, outside a tunnel (R263). -/
def Frame.espHeader (f : Frame) : Option Nat :=
  if bit f.md 131 ∧ ¬ bit f.md 134 ∧ ¬ bit f.md 133 then some (mdL4 f.md + (if bit f.md 135 then 8 else 0)) else none

/-- The ESP_OUT SA of a half that an SPI names for a sender: enabled, of its slice or of no slice (R263). -/
def State.espSa (s : State) (h : Half) (spi id : Nat) : Option Nat :=
  ((s.half h).cipher.sas.find? fun e => e.2.serves 3 && saSpi e.2.record = spi
    && (s.saOwner h e.1 = id || s.saOwner h e.1 = 0xFFFF)).map (·.1)

/-! ### The key store (R256 to R258) -/

/-- An SPI is already used by another SA of the half: ESP_IN, or ESP_OUT of the same owner (R256). -/
def State.spiTaken (s : State) (h : Half) (i : Nat) (r : BitVec 640) : Bool :=
  (s.half h).cipher.sas.any fun e =>
    e.1 != i && e.2.st != .empty && saKind e.2.record = saKind r && saSpi e.2.record = saSpi r
      && (saKind r = 4 || (saKind r = 3 && s.saOwner h e.1 = s.saOwner h i))

/-- The fields of an SA_RECORD are in range, and the slot may hold the kind (R254 to R256). -/
def State.saOk (s : State) (h : Half) (i : Nat) (r : BitVec 640) : Bool :=
  let k := saKind r
  k ≤ 4 && saPn r ≤ saLast r
    && (if k = 1 || k = 3 then 1 ≤ saPn r else true)
    && (if k ≤ 2 then saPort r < 16 && ethHalf (saPort r) = h && s.saOwner h i = 0xFFFF else true)
    && (if k = 4 then saWin r = 0 || (64 ≤ saWin r && saWin r ≤ 1024) else true)
    && !((k = 3 || k = 4) && s.spiTaken h i r)

/-- The key in a record, where the key-wrap key unwraps it (R255, R256, R379). -/
def State.saKey (s : State) (r : BitVec 640) : Option (BitVec 256) :=
  match s.unseal s.nv.store.kwk with
  | some k => if Config.unwraps k (saWrapped r) then some (BitVec.ofNat 256 (Config.unwrapped k (saWrapped r))) else none
  | none => none

/-- The SA that an install makes: READY, its next or lowest acceptable value from PN (R255, R272). -/
def saNew (r : BitVec 640) (key : BitVec 256) : Sa :=
  { st := .ready, record := setFld (setFld r 256 320 0) 16 16 0, key := key, next := saPn r, top := saPn r - 1 }

/-- An SA is installed in an EMPTY slot (R256, R267). -/
def State.saInstall (s : State) (h : Half) (i : Nat) (r : BitVec 640) (key : BitVec 256) : State :=
  (s.setSa h i (saNew r key)).noteMark h i

/-- A write to an installed slot that changes ENABLE and REPLAY_WIN (R256). -/
def Sa.change (x : Sa) (r : BitVec 640) : Sa := { x with record := takeBits (takeBits x.record r 9 1) r 224 16 }

/-- A write of SA_RECORD to a slot: none where the key store refuses it (R256, R258). -/
def State.saWrite (s : State) (h : Half) (i : Nat) (r : BitVec 640) : Option State :=
  let x := s.sa h i
  if saKind r = 0 then
    if x.st = .empty ∨ x.st = .fencing then some s else some (s.setSa h i { x with st := .fencing })
  else
    match s.saKey r with
    | none => none
    | some key =>
      if s.saOk h i r = false then none
      else if x.st = .empty then some (s.saInstall h i r key)
      else if x.st = .fencing then
        some (s.onHalf h fun y => { y with cipher := { y.cipher with waitInstall := mput y.cipher.waitInstall i (r, key) } })
      else if saKind r ≠ saKind x.record ∨ key ≠ x.key ∨ saSpi r ≠ saSpi x.record then none
      else some (s.setSa h i (x.change r))

/-- The fence of a deletion ends: the slot reads EMPTY, and an install that waits is made (R258). -/
def State.saFenceEnd (s : State) (h : Half) (i : Nat) : State :=
  if (s.sa h i).st = .fencing then
    let w := mfind (s.half h).cipher.waitInstall i
    let s1 := s.onHalf h fun y =>
      { y with cipher := { y.cipher with sas := merase y.cipher.sas i, waitInstall := merase y.cipher.waitInstall i } }
    match w with
    | some (r, key) => if s1.saOk h i r then s1.saInstall h i r key else s1
    | none => s1
  else s

/-- The key store of a half is zeroised, and its encrypted namespaces read LOCKED (R257, R315). -/
def State.zeroise (s : State) (h : Half) : State :=
  let s1 := s.onHalf h fun y => { y with cipher := { y.cipher with sas := [], xts := [], waitInstall := [] } }
  let lock := fun (_ : Nat) (n : Ns) =>
    if n.home = h ∧ n.encrypt ∧ n.st = .ready then { n with st := .locked, lockedAt := s.time h } else n
  { s1 with storage := { s1.storage with nss := mmap lock s1.storage.nss } }

end Sys2Proof.Machine
end

