-- ==== Sys2Proof/Machine/Parse.lean ====
section
/-! DEFINITION. The parser: recognisers, programmable nodes, divert tables, the metadata word, the flow hash, and checksums
(07 R166 to R173, 04 R94, R107). -/

namespace Sys2Proof.Machine
open Sys2Proof

/-- An IP header that parsing has recognised: its offset, its version, and whether its datagram is a fragment. -/
structure IpHdr where
  pos  : Nat
  ver  : Nat
  frag : Bool
deriving DecidableEq, Repr

/-- A TCP or UDP header that parsing has recognised: its offset, its protocol, and the IP header of its layer. -/
structure L4Hdr where
  pos   : Nat
  proto : Nat
  ip    : Option IpHdr
deriving DecidableEq, Repr

/-- What parsing has found. -/
structure Psr where
  /-- where the next header begins, the nodes visited, and whether it is an inner header -/
  pos    : Nat := 0
  nodes  : Nat := 0
  inner  : Bool := false
  /-- offsets of the outer and inner layers, 0 when absent (R171) -/
  l3     : Nat := 0
  l4     : Nat := 0
  il3    : Nat := 0
  il4    : Nat := 0
  /-- PFLAGS, VLANS, the outer tag and the outer DSCP and ECN (R171) -/
  flags  : Nat := 0
  vlans  : Nat := 0
  tci    : Nat := 0
  tos    : Nat := 0
  user1  : BitVec 32 := 0
  part   : Bool := false
  /-- code of R170, 0 where parsing has not failed -/
  err    : Nat := 0
  /-- the IP headers and the TCP and UDP headers, innermost first, and the IP header of the present layer -/
  ips    : List IpHdr := []
  l4s    : List L4Hdr := []
  here   : Option IpHdr := none
deriving DecidableEq, Repr

/-! ### Node numbers (R166, R169) -/

def nEth : Nat := 0x80
def nIpv4 : Nat := 0x81
def nIpv6 : Nat := 0x82
def nTcp : Nat := 0x83
def nUdp : Nat := 0x84
def nArp : Nat := 0x85
def nIcmp : Nat := 0x86
def nEsp : Nat := 0x87
def nVxlan : Nat := 0x88
def nGeneve : Nat := 0x89
def nRoce : Nat := 0x8A
def nEnd : Nat := 0xFE
def nFail : Nat := 0xFF

/-- A PFLAGS bit set (R171). -/
def Psr.flag (p : Psr) (i : Nat) : Psr := { p with flags := if p.flags / 2 ^ i % 2 = 1 then p.flags else p.flags + 2 ^ i }

/-- Parsing ends at an unhandled next header or a non-first fragment (R166). -/
def Psr.partial_ (p : Psr) : Psr × Nat := ({ p with part := true }, nEnd)

/-- Parsing fails with a code of R170. -/
def Psr.fail (p : Psr) (code : Nat) : Psr × Nat := ({ p with err := code }, nEnd)

/-- A header that ends at `e`: TRUNC beyond the frame, DEPTH beyond byte 255, else what `k` does (R170). -/
def Psr.upTo (p : Psr) (len e : Nat) (k : Psr × Nat) : Psr × Nat :=
  if len < e then p.fail 1 else if 256 < e then p.fail 2 else k

/-- A value found in a divert table, the lower-numbered entry first: 0 ETYPE, 1 IPPROTO, 2 UDPPORT (R168). -/
def Tables.divertNext (t : Tables) (table value : Nat) : Option Nat :=
  (t.divert.find? fun e => e.1 / 16 = table ∧ e.2.value = value).map (·.2.next)

/-- A next-header value outside the column of ETH, IPV4 and IPV6: the divert table, else the end with PARTIAL (R166). -/
def Psr.lookup (p : Psr) (t : Tables) (table value : Nat) : Psr × Nat :=
  match t.divertNext table value with
  | some n => (p, n)
  | none => p.partial_

/-- ETH: up to two VLAN tags (R166). -/
def Psr.eth (p : Psr) (t : Tables) (bs : List Byte) : Psr × Nat :=
  let o := p.pos
  let outer := beAt bs (o + 12) 2 = 0x8100 ∨ beAt bs (o + 12) 2 = 0x88A8
  let two := outer ∧ beAt bs (o + 16) 2 = 0x8100
  let n := if two then 2 else if outer then 1 else 0
  let e := o + 14 + 4 * n
  let q := if p.inner then { p with pos := e } else { p with pos := e, vlans := n, tci := if outer then beAt bs (o + 14) 2 else 0 }
  let ty := beAt bs (e - 2) 2
  p.upTo bs.length e
    (if ty = 0x0800 then (q, nIpv4) else if ty = 0x86DD then (q, nIpv6) else if ty = 0x0806 then (q, nArp) else q.lookup t 0 ty)

/-- The offset of the first L3 header of its layer (R171). -/
def Psr.l3Off (p : Psr) : Psr :=
  if p.inner then { p with il3 := if p.il3 = 0 then p.pos else p.il3 } else { p with l3 := if p.l3 = 0 then p.pos else p.l3 }

/-- An IP header is noted, with the DSCP and ECN of the outer one (R171). -/
def Psr.l3At (p : Psr) (ver tos : Nat) (frag : Bool) : Psr :=
  let x : IpHdr := { pos := p.pos, ver := ver, frag := frag }
  { p.l3Off with tos := if p.inner ∨ p.ips ≠ [] then p.tos else tos, ips := x :: p.ips, here := some x }

/-- The offset of the first L4 header of its layer (R171). -/
def Psr.l4Off (p : Psr) : Psr :=
  if p.inner then { p with il4 := if p.il4 = 0 then p.pos else p.il4 } else { p with l4 := if p.l4 = 0 then p.pos else p.l4 }

/-- A TCP or UDP header is noted. -/
def Psr.l4At (p : Psr) (proto : Nat) : Psr :=
  { p.l4Off with l4s := { pos := p.pos, proto := proto, ip := p.here } :: p.l4s }

/-- The next node of an IP protocol number; `icmp` is the version's ICMP (R166). -/
def Psr.ipNext (p : Psr) (t : Tables) (icmp v : Nat) : Psr × Nat :=
  if v = 6 then (p, nTcp) else if v = 17 then (p, nUdp) else if v = icmp then (p, nIcmp) else if v = 50 then (p, nEsp)
  else p.lookup t 1 v

/-- IPV4 (R166, R170). -/
def Psr.ipv4 (p : Psr) (t : Tables) (bs : List Byte) : Psr × Nat :=
  let o := p.pos
  let ihl := beAt bs o 1 % 16
  let off := beAt bs (o + 6) 2
  let q := { (p.l3At 4 (beAt bs (o + 1) 1) (off / 8192 % 2 = 1 || off % 8192 != 0)).flag 10 with pos := o + 4 * ihl }
  if beAt bs o 1 / 16 ≠ 4 ∨ ihl < 5 then p.upTo bs.length (o + 20) (p.fail 6)
  else p.upTo bs.length (o + 4 * ihl) (if off % 8192 ≠ 0 then q.partial_ else q.ipNext t 1 (beAt bs (o + 9) 1))

/-- The extension headers of IPV6 after `count` of them (R166, R170): the header's end, the next-header value, whether it is
a fragment and a non-first one, or a failure code. -/
def ipv6Ext (fuel : Nat) (bs : List Byte) (v pos count : Nat) (frag later : Bool) : Except Nat (Nat × Nat × Bool × Bool) :=
  match fuel with
  | 0 => .ok (pos, v, frag, later)
  | k + 1 =>
    if v = 0 ∨ v = 43 ∨ v = 44 ∨ v = 60 then
      if count = 4 then .error 4
      else
        let e := if v = 44 then pos + 8 else pos + 8 * (beAt bs (pos + 1) 1 + 1)
        let bad := if bs.length < e then 1 else if 256 < e then 2 else 0
        if bad ≠ 0 then .error bad
        else
          let off := beAt bs (pos + 2) 2
          if v = 44 then
            if off / 8 ≠ 0 then .ok (e, beAt bs pos 1, true, true)
            else ipv6Ext k bs (beAt bs pos 1) e (count + 1) (frag || off % 2 = 1) later
          else ipv6Ext k bs (beAt bs pos 1) e (count + 1) frag later
    else .ok (pos, v, frag, later)

/-- IPV6 (R166, R170). -/
def Psr.ipv6 (p : Psr) (t : Tables) (bs : List Byte) : Psr × Nat :=
  let o := p.pos
  let tos := beAt bs o 2 / 16 % 256
  p.upTo bs.length (o + 40)
    (match ipv6Ext 6 bs (beAt bs (o + 6) 1) (o + 40) 0 false false with
     | .error c => ((p.l3At 6 tos false).flag 9).fail c
     | .ok (e, v, frag, later) =>
       let q := { (p.l3At 6 tos frag).flag 9 with pos := e }
       if later then q.partial_ else q.ipNext t 58 v)

/-- TCP (R166, R170). -/
def Psr.tcp (p : Psr) (bs : List Byte) : Psr × Nat :=
  let n := beAt bs (p.pos + 12) 1 / 16
  if n < 5 then p.upTo bs.length (p.pos + 20) (p.fail 6)
  else p.upTo bs.length (p.pos + 4 * n) ((p.l4At 6).flag 8, nEnd)

/-- UDP (R166, R167). -/
def Psr.udp (p : Psr) (t : Tables) (bs : List Byte) : Psr × Nat :=
  let o := p.pos
  let port := beAt bs (o + 2) 2
  let q := { (p.l4At 17).flag 7 with pos := o + 8 }
  p.upTo bs.length (o + 8)
    (if port = 4500 then
       (if 12 ≤ beAt bs (o + 4) 2 ∧ beAt bs (o + 8) 4 ≠ 0 then (q, nEsp) else (q, nEnd))
     else if p.inner = false ∧ port = 4789 then (q, nVxlan)
     else if p.inner = false ∧ port = 6081 then (q, nGeneve)
     else if p.inner = false ∧ port = 4791 then (q, nRoce)
     else
       match t.divertNext 2 port with
       | some n => (q, n)
       | none => (q, nEnd))

/-- A recogniser of a fixed length that notes its offset by `note`, sets a flag, and ends parsing or goes on. -/
def Psr.fixed (p : Psr) (bs : List Byte) (len flagNo next : Nat) (note : Psr → Psr) : Psr × Nat :=
  p.upTo bs.length (p.pos + len) ({ (note p).flag flagNo with pos := p.pos + len }, next)

/-- GENEVE (R166, R170): options up to 64 bytes; protocol type 0x6558 goes on to ETH. -/
def Psr.geneve (p : Psr) (bs : List Byte) : Psr × Nat :=
  let opt := 4 * (beAt bs p.pos 1 % 64)
  if 64 < opt then p.upTo bs.length (p.pos + 8) (p.fail 5)
  else p.upTo bs.length (p.pos + 8 + opt)
    ({ p.flag 5 with pos := p.pos + 8 + opt }, if beAt bs (p.pos + 2) 2 = 0x6558 then nEth else nEnd)

/-! ### Programmable nodes (R169) -/

/-- Byte i of a node record. -/
def ndByte (r : BitVec 256) (i : Nat) : Nat := fld r (8 * i) 8

/-- The length of a header by a node record (R169). -/
def ndLen (r : BitVec 256) (bs : List Byte) (pos : Nat) : Nat :=
  if bit r 6 then ndByte r 1 + (((bs.getD (pos + ndByte r 2 % 64) 0) &&& BitVec.ofNat 8 (ndByte r 3)).toNat) * 2 ^ (ndByte r 4 % 8)
  else ndByte r 1

/-- The masked selector of a header (R169). -/
def ndSelect (r : BitVec 256) (bs : List Byte) (pos : Nat) : Nat :=
  let o := pos + ndByte r 5 % 64
  let v := if bit r 55 then beAt bs o 2 else beAt bs o 1
  (BitVec.ofNat 16 v &&& BitVec.ofNat 16 (fld r 64 16)).toNat

/-- The next node of a header: the first transition that matches, or DEFAULT_NEXT (R169). -/
def ndNext (r : BitVec 256) (sel : Nat) : Nat :=
  match (List.range 4).find? fun i => fld r (80 + 32 * i) 16 = sel with
  | some i => ndByte r (12 + 4 * i)
  | none => ndByte r 26

/-- A frame byte as extraction copies it: 0 beyond the frame or byte 255 (R169). -/
def seenByte (bs : List Byte) (i : Nat) : Byte := if i < 256 then bs.getD i 0 else 0

/-- USER1 with a header's extraction (R169). -/
def ndExtract (r : BitVec 256) (bs : List Byte) (pos : Nat) (u : BitVec 32) : BitVec 32 :=
  if bit r 223 then
    (List.range (fld r 224 2 + 1)).foldl (fun a i =>
      let lane := fld r 226 2 + i
      if lane < 4 then setFld a (24 - 8 * lane) 8 (seenByte bs (pos + fld r 216 6 + i)).toNat else a) u
  else u

/-- Where the bytes of a header that hold its length and its selector end: both lie within the header (R169). -/
def ndLenEnd (r : BitVec 256) (pos : Nat) : Nat := if bit r 6 then pos + ndByte r 2 % 64 + 1 else pos
def ndSelEnd (r : BitVec 256) (pos : Nat) : Nat := pos + ndByte r 5 % 64 + (if bit r 55 then 2 else 1)

/-- A programmable node (R169, R170). -/
def Psr.node (p : Psr) (t : Tables) (bs : List Byte) (n : Nat) : Psr × Nat :=
  let r := mget t.nodes n 0
  if bit r 7 = false then p.fail 7
  else
    let len := ndLen r bs p.pos
    let q := { p with pos := p.pos + len, user1 := ndExtract r bs p.pos p.user1 }
    p.upTo bs.length (ndLenEnd r p.pos)
      (if len < 1 then p.fail 6
       else p.upTo bs.length (p.pos + len) (q.upTo bs.length (ndSelEnd r p.pos) (q, ndNext r (ndSelect r bs p.pos))))

/-! ### The walk (R167, R170) -/

/-- One node of the graph. -/
def Psr.visit (p : Psr) (t : Tables) (bs : List Byte) (n : Nat) : Psr × Nat :=
  if n < 0x80 then p.node t bs n
  else if n = nEth then p.eth t bs
  else if n = nIpv4 then p.ipv4 t bs
  else if n = nIpv6 then p.ipv6 t bs
  else if n = nTcp then p.tcp bs
  else if n = nUdp then p.udp t bs
  else if n = nArp then p.fixed bs 28 2 nEnd Psr.l3Off
  else if n = nIcmp then p.fixed bs 8 1 nEnd Psr.l4Off
  else if n = nEsp then p.fixed bs 8 3 nEnd Psr.l4Off
  else if n = nVxlan then p.fixed bs 8 6 nEth id
  else if n = nGeneve then p.geneve bs
  else if n = nRoce then p.fixed bs 12 4 nEnd id
  else if n = nEnd then (p, nEnd)
  else p.fail 7

/-- The walk from a node on: it ends at nEnd, fails after 32 nodes, and ends with PARTIAL before a second tunnel level
(R166, R167, R170). -/
def Psr.walk (fuel : Nat) (p : Psr) (t : Tables) (bs : List Byte) (n : Nat) : Psr :=
  match fuel with
  | 0 => { p with err := 3 }
  | k + 1 =>
    if n = nEnd ∨ p.err ≠ 0 then p
    else if p.inner ∧ (n = nEth ∨ n = nVxlan ∨ n = nGeneve) then { p with part := true }
    else if n = nFail then { p with err := 7 }
    else if p.nodes = 32 then { p with err := 3 }
    else
      let q := if n = nEth ∧ p.nodes ≠ 0 then { p with inner := true, here := none } else p
      let r := ({ q with nodes := q.nodes + 1 } : Psr).visit t bs n
      r.1.walk k t bs r.2

/-- A frame parsed from its Ethernet header (R166). -/
def parse (t : Tables) (bs : List Byte) : Psr := ({} : Psr).walk 40 t bs nEth

/-! ### The flow hash (R173) -/

/-- The Toeplitz hash of input bytes under a 40-byte key: for each bit set, the 32 key bits from its place on. -/
def toeplitz (key : List Byte) (input : List Byte) : Nat :=
  let k := beNat key
  let kb := 8 * key.length
  let n := 8 * input.length
  let v := beNat input
  ((List.range n).foldl (fun (a : BitVec 32) i =>
    if v / 2 ^ (n - 1 - i) % 2 = 1 then a ^^^ BitVec.ofNat 32 (k / 2 ^ (kb - 32 - i)) else a) 0).toNat

/-- The addresses of an IP header. -/
def ipAddrs (bs : List Byte) (l3 ver : Nat) : List Byte := if ver = 4 then slice bs (l3 + 12) 8 else slice bs (l3 + 8) 32

/-- The bytes that the flow hash covers: the addresses of the innermost or the outer IP header and the TCP or UDP ports above it,
or the MAC addresses (R173). -/
def Psr.hashInput (p : Psr) (bs : List Byte) (outer : Bool) : List Byte :=
  match if outer then p.ips.getLast? else p.ips.head? with
  | none => slice bs 6 6 ++ slice bs 0 6
  | some x =>
    ipAddrs bs x.pos x.ver ++ (match p.l4s.reverse.find? (·.ip = some x) with
      | some y => slice bs y.pos 4
      | none => [])

/-! ### Checksums (R94, R107, R167) -/

/-- Where the datagram of an IP header ends, by its length. -/
def ipStop (bs : List Byte) (x : IpHdr) : Nat :=
  if x.ver = 4 then x.pos + beAt bs (x.pos + 2) 2 else x.pos + 40 + beAt bs (x.pos + 4) 2

/-- The sum of an L4 header's datagram, within the frame, with its pseudo-header. -/
def l4Sum (bs : List Byte) (x : IpHdr) (l4 proto : Nat) : Nat :=
  let e := Nat.min bs.length (ipStop bs x)
  onesSum (ipAddrs bs x.pos x.ver ++ beBytes 4 (e - l4) ++ beBytes 4 proto ++ slice bs l4 (e - l4))

/-- The offset of a checksum in a TCP or UDP header. -/
def sumAt (l4 proto : Nat) : Nat := l4 + (if proto = 6 then 16 else 6)

/-- L3_OK and L4_OK of a received frame (R107): of the outer IPv4 header, and of the TCP or UDP header at L4_OFF, whose datagram
lies in the frame and is no fragment. -/
def Psr.l3Good (p : Psr) (bs : List Byte) : Bool :=
  match p.ips.getLast? with
  | some x => x.ver = 4 && onesSum (slice bs x.pos (4 * (beAt bs x.pos 1 % 16))) = 65535
  | none => false

def Psr.l4Good (p : Psr) (bs : List Byte) : Bool :=
  match p.l4s.find? (·.pos = p.l4) with
  | some y =>
    match y.ip with
    | some x =>
      !x.frag && sumAt y.pos y.proto + 2 ≤ ipStop bs x && ipStop bs x ≤ bs.length && !(y.proto = 17 && beAt bs (sumAt y.pos 17) 2 = 0)
        && l4Sum bs x y.pos y.proto = 65535
    | none => false
  | none => false

/-- The header checksum of an IPv4 header inserted (R94). -/
def putL3 (bs : List Byte) (l3 : Nat) : List Byte :=
  let z := patch bs (l3 + 10) [0, 0]
  patch z (l3 + 10) (beBytes 2 (inetSum (slice z l3 (4 * (beAt z l3 1 % 16)))))

/-- The checksum of a TCP or UDP header inserted (R94). -/
def putL4 (bs : List Byte) (x : IpHdr) (l4 proto : Nat) : List Byte :=
  let z := patch bs (sumAt l4 proto) [0, 0]
  let c := 65535 - l4Sum z x l4 proto
  patch z (sumAt l4 proto) (beBytes 2 (if c = 0 ∧ proto = 17 then 0xFFFF else c))

/-- A host-transmit frame with the checksums its entry asks for, at the headers that parsing reached: the innermost TCP or UDP
header, but for the UDP header of a tunnel and for a fragment, and every IPv4 header (R94). -/
def Psr.checksums (p : Psr) (bs : List Byte) (l3 l4 : Bool) : List Byte :=
  let tun := fun (y : L4Hdr) => y.proto = 17 && (p.flags / 64 % 2 = 1 || p.flags / 32 % 2 = 1) && y.pos = p.l4
  let b1 :=
    match if l4 then p.l4s.head? else none with
    | some y =>
      match y.ip with
      | some x => if tun y ∨ x.frag then bs else putL4 bs x y.pos y.proto
      | none => bs
    | none => bs
  if l3 then (p.ips.filter (·.ver = 4)).foldl (fun b x => putL3 b x.pos) b1 else b1

/-! ### The metadata word (R171, R172) -/

/-- The parse fields put into a metadata word, with USER1 and FLOW_HASH; MACSEC as verified (R171 to R173). -/
def Psr.word (p : Psr) (md : BitVec 256) (hash : Nat) (macsec : Bool) : BitVec 256 :=
  let w1 := setFld (setFld md 192 32 p.user1.toNat) 160 32 hash
  let w2 := setFld (setFld w1 142 1 (if p.err = 0 then 0 else 1)) 141 1 (b2n p.part)
  let w3 := setFld (setFld w2 139 2 p.vlans) 128 11 (p.flags + b2n macsec)
  let w4 := setFld (setFld (setFld (setFld w3 120 8 p.l3) 112 8 p.l4) 104 8 p.il3) 96 8 p.il4
  setFld (setFld (setFld (setFld w4 84 12 (p.tci % 4096)) 81 3 (p.tci / 8192)) 80 1 (p.tci / 4096 % 2)) 72 8 p.tos

end Sys2Proof.Machine
end

