-- ==== Sys2Proof/Machine/Match.lean ====
section
/-! DEFINITION. Tables, match stages and actions (07 R174 to R178). -/

namespace Sys2Proof.Machine
open Sys2Proof

/-! ### Lookups (R174, R176) -/

/-- The lowest-numbered ternary entry whose masked key matches (R174). -/
def Tables.ternHit (t : Tables) (key : Nat) : Option (BitVec 192) :=
  (t.tern.find? fun e =>
    (BitVec.ofNat 320 key &&& BitVec.ofNat 320 e.2.mask) = (BitVec.ofNat 320 e.2.key &&& BitVec.ofNat 320 e.2.mask)).map (·.2.act)

/-- A route covers an address of `w` bits within a VRF. -/
def Lpm.covers (r : Lpm) (w vrf addr : Nat) : Bool := r.vrf = vrf && r.addr / 2 ^ (w - r.len) = addr / 2 ^ (w - r.len)

/-- The longest route of a list that covers an address (R174). -/
def lpmHit (l : List Lpm) (w vrf addr : Nat) : Option Lpm :=
  l.foldl (fun b r =>
    if r.covers w vrf addr then
      match b with
      | some x => if x.len < r.len then some r else some x
      | none => some r
    else b) none

/-- An entry of an INDEX table, 0 to 3 (R174). -/
def Tables.indexHit (t : Tables) (table key : Nat) : Option (BitVec 192) := mfind t.index (table * 65536 + key % 65536)

/-- The action of a TABLE code for a key of 320 bits, or for an LPM table the VRF and address: none on a miss. -/
def Tables.hit (t : Tables) (table key vrf addr : Nat) : Option (BitVec 192) :=
  if table = 1 then mfind t.em key
  else if table = 2 then (lpmHit t.lpm4 32 vrf addr).map (·.act)
  else if table = 3 then (lpmHit t.lpm6 128 vrf addr).map (·.act)
  else if table = 4 then t.ternHit key
  else if 5 ≤ table ∧ table ≤ 8 then t.indexHit (table - 5) key
  else none

/-! ### Stage configurations (R175, R176) -/

def cfgTable (c : BitVec 832) : Nat := fld c 0 8
def cfgTag (c : BitVec 832) : Nat := fld c 8 8
def cfgPieces (c : BitVec 832) : Nat := fld c 16 8
def cfgAddr (c : BitVec 832) : Nat := fld c 24 2
def cfgPiece (c : BitVec 832) (i : Nat) : Nat := fld c (32 + 32 * i) 32
def cfgMask (c : BitVec 832) (i : Nat) : Nat := fld c (320 + 32 * i) 32
def cfgMiss (c : BitVec 832) : BitVec 192 := BitVec.ofNat 192 (fld c 640 192)

/-- 32 bits of a frame, big-endian; bytes beyond byte 255 or the end read 0 (R176). -/
def seenWord (bs : List Byte) (i : Nat) : Nat := beNat ((List.range 4).map fun j => seenByte bs (i + j))

/-- The layer offset that a BASE names (R175): none where the layer is absent. -/
def baseOffset (md : BitVec 256) (base : Nat) : Option Nat :=
  if base = 1 then some 0
  else
    let v := if base = 2 then fld md 120 8 else if base = 3 then fld md 112 8 else if base = 4 then fld md 104 8
      else if base = 5 then fld md 96 8 else 0
    if v = 0 then none else some v

/-- A piece before its mask (R176). -/
def pieceValue (d : Nat) (md : BitVec 256) (bs : List Byte) : Nat :=
  let off := d % 256
  if d / 2 ^ 29 = 0 then fld md (32 * (off % 8)) 32
  else
    match baseOffset md (d / 2 ^ 29) with
    | some b => seenWord bs (b + off)
    | none => 0

/-- Piece i of a stage's key, 0 where it is unused (R176). -/
def cfgValue (c : BitVec 832) (md : BitVec 256) (bs : List Byte) (i : Nat) : Nat :=
  if i < cfgPieces c then (BitVec.ofNat 32 (pieceValue (cfgPiece c i) md bs) &&& BitVec.ofNat 32 (cfgMask c i)).toNat else 0

/-- The key of EM and TERN (R176). -/
def cfgKey (c : BitVec 832) (md : BitVec 256) (bs : List Byte) : Nat :=
  cfgTag c * 2 ^ 312 + ((List.range 9).map fun i => cfgValue c md bs i * 2 ^ (280 - 32 * i)).sum

/-- The address that ADDR_SEL names, where the frame has it in the table's IP version (R175, R176): IPv6 for LPM6. -/
def cfgAddress (c : BitVec 832) (md : BitVec 256) (bs : List Byte) (v6 : Bool) : Option Nat :=
  let l3 := if cfgAddr c < 2 then fld md 120 8 else fld md 104 8
  if l3 = 0 ∨ bit md 130 ∧ cfgAddr c < 2 then none
  else if beAt bs l3 1 / 16 ≠ (if v6 then 6 else 4) then none
  else
    let src := cfgAddr c % 2 = 1
    some (if v6 then beAt bs (l3 + (if src then 8 else 24)) 16 else beAt bs (l3 + (if src then 12 else 16)) 4)

/-- The lookup of a stage: none on a miss (R175, R176). -/
def Tables.stageHit (t : Tables) (c : BitVec 832) (md : BitVec 256) (bs : List Byte) : Option (BitVec 192) :=
  let k := cfgTable c
  if k = 2 ∨ k = 3 then
    match cfgAddress c md bs (k = 3) with
    | some a => t.hit k 0 (cfgValue c md bs 0 % 65536) a
    | none => none
  else if 5 ≤ k then t.hit k (cfgValue c md bs 0 % 65536) 0 0
  else t.hit k (cfgKey c md bs) 0 0

/-! ### Actions (R177, R178) -/

def actVerdict (a : BitVec 192) : Nat := fld a 0 2
def actSpread (a : BitVec 192) : Nat := fld a 88 8

/-- A word after SET_SLICE, which receive frames alone obey (R172, R178). -/
def actSlice (a : BitVec 192) (md : BitVec 256) : BitVec 256 :=
  if bit a 7 ∧ ¬ bit md 159 then setFld (setFld md 60 12 (fld a 16 12)) 143 1 1 else md

/-- A word after SET_QUEUE with SPREAD (R178). -/
def actQueue (a : BitVec 192) (md : BitVec 256) : BitVec 256 :=
  if bit a 6 then setFld md 44 16 (fld a 32 16 + mdFlowHash md % 2 ^ actSpread a) else md

/-- A word after SET_USER (R177, R178). -/
def actUser (a : BitVec 192) (md : BitVec 256) : BitVec 256 :=
  let lo := if bit a 12 then 192 else 224
  let v := BitVec.ofNat 32 (fld md lo 32)
  let m := BitVec.ofNat 32 (fld a 128 32)
  if bit a 2 then setFld md lo 32 ((v &&& ~~~ m) ||| (BitVec.ofNat 32 (fld a 96 32) &&& m)).toNat else md

/-- An action record applied to a metadata word (R178). -/
def actApply (a : BitVec 192) (md : BitVec 256) : BitVec 256 :=
  let w1 := actQueue a (actSlice a md)
  let w2 := if bit a 5 then setFld w1 28 16 (fld a 48 16) else w1
  let w3 := if bit a 4 then setFld w2 12 16 (fld a 64 16) else w2
  let w4 := actUser a (if bit a 3 then setFld w3 5 7 (fld a 80 7) else w3)
  let w5 := if fld a 13 3 ≠ 0 then setFld w4 0 3 (fld a 13 3) else w4
  if actVerdict a = 1 ∨ actVerdict a = 2 then setFld w5 3 2 (actVerdict a) else w5

/-- What the match stages have made of a frame: the word, POL_EN, whether one set LEAF, the stage that punted, and hits and misses
by stage. -/
structure Staged where
  md    : BitVec 256
  polEn : Bool := false
  leafSet : Bool := false
  punt  : Nat := 0
  marks : List (Nat × Bool) := []
deriving DecidableEq, Repr

/-- The stages from one on: each looks up and applies its record before the next reads the word; a verdict of 1 to 3 ends
classification (R175, R178). -/
def Tables.stages (t : Tables) (dir : Nat) (bs : List Byte) (todo : List Nat) (x : Staged) : Staged :=
  match todo with
  | [] => x
  | i :: rest =>
    let c := mget t.cfg (4 * dir + i) 0
    if cfgTable c = 0 then t.stages dir bs rest x
    else
      let r := t.stageHit c x.md bs
      let a := r.getD (cfgMiss c)
      let y := { x with md := actApply a x.md, polEn := x.polEn || bit a 4, leafSet := x.leafSet || bit a 5, marks := x.marks ++ [(i, r.isSome)]
                        punt := if actVerdict a = 2 then i + 1 else x.punt }
      if actVerdict a = 0 then t.stages dir bs rest y else y

/-- The four stages of a direction on a metadata word (R175). -/
def Tables.classify (t : Tables) (dir : Nat) (bs : List Byte) (md : BitVec 256) : Staged :=
  t.stages dir bs [0, 1, 2, 3] { md := md }

end Sys2Proof.Machine
end

