-- ==== Sys2Proof/Machine/NibIsa.lean ====
section
/-! DEFINITION. The instruction words of the nib cores: formats, encodings and the ALU (09 R227 to R238). -/

namespace Sys2Proof.Machine
open Sys2Proof

/-! ### Formats (R227) -/

def encR (op rd ra rb func : Nat) : BitVec 32 := BitVec.ofNat 32 (op * 2 ^ 26 + rd * 2 ^ 21 + ra * 2 ^ 16 + rb * 2 ^ 11 + func)
def encI (op rd ra imm : Nat) : BitVec 32 := BitVec.ofNat 32 (op * 2 ^ 26 + rd * 2 ^ 21 + ra * 2 ^ 16 + imm)
def encJ (op off : Nat) : BitVec 32 := BitVec.ofNat 32 (op * 2 ^ 26 + off)

def fOp (w : BitVec 32) : Nat := fld w 26 6
def fRd (w : BitVec 32) : Nat := fld w 21 5
def fRa (w : BitVec 32) : Nat := fld w 16 5
def fRb (w : BitVec 32) : Nat := fld w 11 5
def fFunc (w : BitVec 32) : Nat := fld w 0 11
def fImm (w : BitVec 32) : Nat := fld w 0 16

/-- sext(IMM) or sext(OFF) of 16 bits, and sext(OFF) of 26 bits. -/
def sImm (w : BitVec 32) : Int := signed 16 (fImm w)
def sOff26 (w : BitVec 32) : Int := signed 26 (fld w 0 26)

/-! ### Which bits of a word tell its meaning (R227: a register field that an instruction does not use is ignored) -/

def mOp : BitVec 32 := 0xFC000000#32
def mRd : BitVec 32 := 0x03E00000#32
def mRa : BitVec 32 := 0x001F0000#32
def mRb : BitVec 32 := 0x0000F800#32
def mFunc : BitVec 32 := 0x000007FF#32
def mImm : BitVec 32 := 0x0000FFFF#32
def mAll : BitVec 32 := 0xFFFFFFFF#32

/-- The bits that a word's OP and FUNC give a meaning to, where they are defined (R228 to R238). -/
def usedBits (w : BitVec 32) : Option (BitVec 32) :=
  let op := fOp w
  let f := fFunc w
  if op = 0x00 then
    if f ≤ 0x00F ∨ f = 0x013 then some mAll else if f ≤ 0x012 then some (mOp ||| mRd ||| mRa ||| mFunc) else none
  else if op = 0x0A then some (mOp ||| mRd ||| mImm)
  else if op ≤ 0x0D ∨ (0x10 ≤ op ∧ op ≤ 0x17) then some mAll
  else if op = 0x18 then (if f ≤ 4 then some mAll else none)
  else if (0x20 ≤ op ∧ op ≤ 0x27) then some mAll
  else if op = 0x28 then some (mOp ||| mRd ||| mRa)
  else if op = 0x30 then
    if f = 0 then some (mOp ||| mRd ||| mRa ||| mFunc)
    else if f = 1 ∨ f = 2 then some (mOp ||| mRa ||| mFunc)
    else if f = 3 ∨ f = 4 ∨ f = 8 then some (mOp ||| mRd ||| mFunc)
    else if f ≤ 7 then some (mOp ||| mFunc) else none
  else if op = 0x31 then
    if f = 0 then some (mOp ||| mRa ||| mFunc) else if f = 1 then some (mOp ||| mRd ||| mFunc) else none
  else if op = 0x32 ∨ op = 0x36 then some (mOp ||| mRa ||| mImm)
  else if op = 0x34 then
    if f = 0 then some (mOp ||| mRa ||| mRb ||| mFunc)
    else if f = 1 then some (mOp ||| mRd ||| mFunc)
    else if f = 2 then some (mOp ||| mRd ||| mRa ||| mFunc)
    else if f = 3 then some (mOp ||| mRa ||| mFunc)
    else if f = 4 then some (mOp ||| mFunc) else none
  else if op = 0x35 then
    if f ≤ 1 then some (mOp ||| mRd ||| mFunc)
    else if f = 2 then some (mOp ||| mFunc)
    else if f = 3 then some (mOp ||| mRa ||| mFunc) else none
  else none

/-- Two words have one meaning. -/
def sameWord (a b : BitVec 32) : Bool :=
  match usedBits b with
  | some m => a &&& m = b &&& m
  | none => false

/-! ### The ALU (R228, R229) -/

/-- CRC-32C of the 8 bytes of `b`, most significant first, continued from `a` [31:0] (R229). -/
def aluCrc (a b : Word) : Word := (crcUpdate (a.truncate 32) (beBytes 8 b.toNat)).zeroExtend 64

/-- The number of leading zeros, and of set bits. -/
def aluClz (a : Word) : Word := BitVec.ofNat 64 (((List.range 64).find? fun i => a.getLsbD (63 - i)).getD 64)
def aluPopc (a : Word) : Word := BitVec.ofNat 64 (((List.range 64).filter fun i => a.getLsbD i).length)

/-- The 8 bytes reversed. -/
def aluBswap (a : Word) : Word := BitVec.ofNat 64 (beNat (leBytes 8 a.toNat))

/-- The result of an ALU function; none where it is undefined (R229). -/
def alu (f : Nat) (a b : Word) : Option Word :=
  let sh := b.toNat % 64
  if f = 0x000 then some (a + b)
  else if f = 0x001 then some (a - b)
  else if f = 0x002 then some (a &&& b)
  else if f = 0x003 then some (a ||| b)
  else if f = 0x004 then some (a ^^^ b)
  else if f = 0x005 then some (a &&& ~~~ b)
  else if f = 0x006 then some (a <<< sh)
  else if f = 0x007 then some (a >>> sh)
  else if f = 0x008 then some (a.sshiftRight sh)
  else if f = 0x009 then some (a.rotateLeft sh)
  else if f = 0x00A then some (if a.slt b then 1 else 0)
  else if f = 0x00B then some (if a.ult b then 1 else 0)
  else if f = 0x00C then some (a * b)
  else if f = 0x00D then some (BitVec.ofNat 64 (a.toNat * b.toNat / 2 ^ 64))
  else if f = 0x00E then some (if b.slt a then b else a)
  else if f = 0x00F then some (if a.slt b then b else a)
  else if f = 0x010 then some (aluClz a)
  else if f = 0x011 then some (aluPopc a)
  else if f = 0x012 then some (aluBswap a)
  else if f = 0x013 then some (aluCrc a b)
  else none

/-- The result of an immediate form, rd's value being `d`; none where its field is bad (R228). -/
def aluImm (op : Nat) (d a : Word) (imm : Nat) : Option Word :=
  let s : Word := BitVec.ofInt 64 (signed 16 imm)
  let z : Word := BitVec.ofNat 64 imm
  let sh := imm % 64
  let len := imm / 64 % 64 + 1
  let m : Word := BitVec.ofNat 64 (2 ^ len - 1)
  if op = 0x01 then some (a + s)
  else if op = 0x02 then some (a &&& z)
  else if op = 0x03 then some (a ||| z)
  else if op = 0x04 then some (a ^^^ z)
  else if op = 0x05 then some (a <<< sh)
  else if op = 0x06 then some (a >>> sh)
  else if op = 0x07 then some (a.sshiftRight sh)
  else if op = 0x08 then some (if a.slt s then 1 else 0)
  else if op = 0x09 then some (if a.ult s then 1 else 0)
  else if op = 0x0A then some (s <<< (16 : Nat))
  else if op = 0x0B then some ((a <<< (16 : Nat)) ||| z)
  else if op = 0x0C then (if 64 < sh + len then none else some ((a >>> sh) &&& m))
  else if op = 0x0D then (if 64 < sh + len then none else some ((d &&& ~~~ (m <<< sh)) ||| ((a &&& m) <<< sh)))
  else none

/-- A branch is taken (R228). -/
def branchTaken (op : Nat) (a b : Word) : Bool :=
  if op = 0x20 then a = b
  else if op = 0x21 then a ≠ b
  else if op = 0x22 then a.slt b
  else if op = 0x23 then !a.slt b
  else if op = 0x24 then a.ult b
  else !a.ult b

/-- The value an atomic operation stores: rd's value `d`, rb's value `b`, memory's value `v` (R228). -/
def atomStore (f : Nat) (d b v : Word) : Word :=
  if f = 0 then v + b else if f = 1 then b else if f = 2 then (if v = d then b else v) else if f = 3 then v ||| b else v &&& b

end Sys2Proof.Machine
end

