-- ==== Sys2Proof/Machine/NibOps.lean ====
section
/-! DEFINITION. Isolation, mirrors, the exception pool, and the nib units: images, descriptors, locks, events, memory and
faults (07 R180 to R183, 09). -/

namespace Sys2Proof.Machine
open Sys2Proof

/-! ### Isolation and mirrors (R180, R183) -/

/-- A counter of R190, raised. -/
def State.countCls (s : State) (h : Half) (sub n : Nat) : State := s.countH 0x6200 h sub n

/-- A queue number names an enabled Ethernet receive WQ of a slice (R180). -/
def State.rxQueueOk (s : State) (id n : Nat) : Bool :=
  match blkNth (s.slice id).wqs n with
  | some e =>
    let w := s.wq (wqKey (recHome (s.slice id).record) e)
    w.st = .running && w.rx
  | none => false

/-- A leaf is held by a slice and attached to a port (R180). -/
def State.leafOk (s : State) (h : Half) (id leaf n : Nat) : Bool :=
  ndOwner (s.node h 3 leaf).record = id && s.leafPort h leaf = some n

/-- A policer is held by a slice (R180). -/
def State.policerOk (s : State) (h : Half) (id p : Nat) : Bool := (blkPlace ((s.slice id).pols h) p).isSome

/-- The isolation checks of a frame: none where it passes, else the device after its drop (R180, R184). -/
def State.isolate (s : State) (h : Half) (f : Frame) : Option State :=
  let id := mdSlice f.md
  if f.dir then
    if mdLeaf f.md = 0xFFFF ∧ f.leafSet = false then some ((s.countSlice h id cTxDenied 1).endSend f stAccess 0 0 true)
    else if s.leafOk h id (mdLeaf f.md) f.port = false ∨ (f.polEn ∧ s.policerOk h id (mdPolicer f.md) = false) then
      some ((s.countCls h 0x17 1).endSend f stAccess 0 0 true)
    else none
  else if (s.slice id).st ≠ .enabled then some (s.countSlice h id cRxDisabled 1)
  else if s.rxQueueOk id (mdQueue f.md) = false then some ((s.countCls h 0x18 1).countSlice h id cRxBadq 1)
  else none

/-- The record of a mirror session of a half (R183). -/
def State.mirrorRec (s : State) (h : Half) (k : Nat) : Nat := s.param h (0xA020 + h.num) k 0 0

/-- The copy that a mirror session receives (R179, R183): to a receive queue of a slice, or to a leaf of a port. -/
def State.mirror (s : State) (h : Half) (k : Nat) (f : Frame) : State :=
  let r := s.mirrorRec h k
  let trunc := r / 2 ^ 48 % 65536
  let bs := if trunc = 0 then f.bytes else f.bytes.take trunc
  let a := r / 2 ^ 16 % 65536
  let b := r / 2 ^ 32 % 65536
  if r % 256 = 1 then
    s.addFlight h { f with bytes := bs, dir := false, mirrored := true, stage := .tmgr
                           md := setFld (setFld (setFld f.md 60 12 a) 44 16 b) 159 1 0 }
  else if r % 256 = 2 ∧ a < 16 ∧ ¬ (s.cstl.split ∧ ethHalf a ≠ h) then
    s.addFlight (ethHalf a) { f with bytes := bs, dir := true, mirrored := true, port := a, stage := .macsecTx
                                     md := setFld f.md 28 16 b }
  else s

/-! ### Images (R219, R244) -/

/-- A big-endian field of a unit's image. -/
def Nib.img (x : Nib) (off len : Nat) : Nat :=
  match x.image with
  | some bs => beAt bs off len
  | none => 0

/-- The class of a slot: 0 idle, 1 dispatch, 2 exception, 3 service (R219). -/
def Nib.classOf (x : Nib) (i : Nat) : Nat := x.img (544 + 8 * i) 1

/-- The entry address of a program; none where it is absent (R244). -/
def Nib.entry (x : Nib) (n : Nat) : Option Nat :=
  if x.image.isNone ∨ n = 0 ∨ 127 < n ∨ x.img (32 + 4 * n) 4 = 0xFFFFFFFF then none else some (x.img (32 + 4 * n) 4)

/-- The static descriptors of a class (R221). -/
def Nib.classTotal (x : Nib) (c : Nat) : Nat :=
  ((List.range 64).map fun i => if x.classOf i = c then x.img (546 + 8 * i) 1 else 0).sum

/-- The frames queued and held in a class (R221). -/
def Nib.classUse (x : Nib) (c : Nat) : Nat :=
  (if c = 1 then x.waitD.length else x.waitE.length)
    + (x.threads.filter fun e => x.classOf e.1 = c && e.2.frame.isSome).length

/-- A descriptor is free for a class: of its total, or of the dynamic pool (R221). -/
def Nib.descFree (x : Nib) (c : Nat) : Bool :=
  x.classUse c < x.classTotal c
    || (x.classUse 1 - x.classTotal 1) + (x.classUse 2 - x.classTotal 2) < 1024 - x.classTotal 1 - x.classTotal 2

/-! ### Threads -/

/-- A thread of a unit. -/
def Nib.th (x : Nib) (i : Nat) : Thread := mget x.threads i {}

def Nib.setTh (x : Nib) (i : Nat) (t : Thread) : Nib := { x with threads := mset x.threads i t {} }

def State.th (s : State) (u i : Nat) : Thread := (s.nib u).th i

def State.setTh (s : State) (u i : Nat) (t : Thread) : State := s.setNib u ((s.nib u).setTh i t)

/-- A register: v0 reads 0 (R227). -/
def Thread.reg (t : Thread) (r : Nat) : Word := if r = 0 then 0 else mget t.regs r 0

/-- A register written: writes to v0 are ignored (R227). -/
def Thread.setReg (t : Thread) (r : Nat) (v : Word) : Thread := if r = 0 then t else { t with regs := mset t.regs r v 0 }

/-- A thread that goes on at the next instruction. -/
def Thread.next (t : Thread) : Thread := { t with pc := (t.pc + 4) % 4294967296, st := .running }

/-! ### Events (R233) -/

/-- The pending events of a thread, with CHAN as its watched channels give it (R233). -/
def Nib.events (x : Nib) (t : Thread) : BitVec 32 :=
  if x.chans.any fun e => bit t.watch e.1 && !e.2.isEmpty then t.pend ||| 0x20#32 else t.pend &&& ~~~ 0x20#32

/-- A thread in WFE whose mask holds a pending event goes on with those bits, which are cleared (R233). -/
def Nib.wake (x : Nib) (i : Nat) : Nib :=
  let t := x.th i
  let e := x.events t &&& t.mask
  if t.st = .waiting ∧ t.halted = none ∧ e ≠ 0 then
    { x.setTh i (({ t with pend := t.pend &&& ~~~ e }.setReg t.wfeRd.toNat (e.zeroExtend 64)).next) with staleFired := false }
  else x

/-- An event of a thread is set. -/
def Nib.event (x : Nib) (i n : Nat) : Nib :=
  let t := x.th i
  (x.setTh i { t with pend := t.pend ||| BitVec.ofNat 32 (2 ^ n) }).wake i

/-- Every waiting thread is tried, after a message has entered a channel. -/
def Nib.wakeAll (x : Nib) : Nib := (x.threads.map Prod.fst).foldl Nib.wake x

/-! ### Locks (R237 to R239) -/

def Nib.lock (x : Nib) (n : Nat) : Lock := mget x.locks n { queue := [] }

def Nib.setLock (x : Nib) (n : Nat) (l : Lock) : Nib := { x with locks := mset x.locks n l { queue := [] } }

/-- The lock whose queue a frame stands in. -/
def Nib.lockOf (x : Nib) (arrival : Nat) : Option Nat := (x.locks.find? fun e => e.2.queue.contains arrival).map (·.1)

/-- The lock a frame joins at admission (R237). -/
def Nib.lockFor (x : Nib) (f : Frame) : Nat := (if x.img 22 1 = 1 then fld f.md 192 32 else mdFlowHash f.md) % 4096

/-- The thread that holds a frame. -/
def Nib.holder (x : Nib) (arrival : Nat) : Option Nat :=
  (x.threads.find? fun e => e.2.frame.any fun f => f.arrival = arrival).map (·.1)

/-- A thread whose frame heads its queue has the lock: rd is 1 where it was POISONED (R238). -/
def Nib.grant (x : Nib) (i n : Nat) (rd : Nat) : Nib :=
  let p := (x.lock n).poisoned
  let t := { x.th i with holds := true, poisoned := p, wantLock := false }
  x.setTh i ((t.setReg rd (if p then 1 else 0)).next)

/-- The frame that now heads a queue: a thread that waits in LACQ has the lock, one whose LTRY failed has the event. -/
def Nib.newHead (x : Nib) (n : Nat) : Nib :=
  match (x.lock n).queue with
  | [] => x
  | a :: _ =>
    match x.holder a with
    | none => x
    | some i =>
      let t := x.th i
      if t.st = .waitLock ∧ t.halted = none then x.grant i n t.wfeRd.toNat
      else if t.wantLock then (x.setTh i { t with wantLock := false }).event i 7
      else x

/-- A frame leaves its queue; a lock it held is released, and a release by its holder ends POISONED (R238, R239). -/
def Nib.leave (x : Nib) (i : Nat) (poison : Bool) : Nib :=
  let t := x.th i
  match t.frame with
  | none => x
  | some f =>
    match x.lockOf f.arrival with
    | none => x
    | some n =>
      let l := x.lock n
      let y := x.setLock n { queue := l.queue.erase f.arrival
                             poisoned := if t.holds then poison else l.poisoned }
      (y.setTh i { t with holds := false, poisoned := false, wantLock := false }).newHead n

/-! ### Admission and the exception pool (R181, R182, R220, R221) -/

/-- A frame joins the FIFO of a class and the queue of its lock (R221, R222, R237). -/
def Nib.admitFrame (x : Nib) (c : Nat) (f : Frame) : Nib :=
  let g := { f with arrival := x.arrivals, mdIn := f.md }
  let n := x.lockFor f
  let y := x.setLock n { x.lock n with queue := (x.lock n).queue ++ [x.arrivals] }
  let z := { y with arrivals := (x.arrivals + 1) % 4294967296 }
  if c = 1 then { z with waitD := z.waitD ++ [g] } else { z with waitE := z.waitE ++ [g] }

/-- The key of a NIB unit of a half. -/
def nibKey (h : Half) (i : Nat) : Nat := 4 * h.num + i

/-- The eligible units of a half, ascending (R220). -/
def State.nibsFor (s : State) (h : Half) (p : Nib → Bool) : List Nat :=
  (List.range 4).filter fun i => s.active h i && p (s.nib (nibKey h i))

/-- The unit a frame goes to: the one at FLOW_HASH mod the number of eligible ones (R220). -/
def chooseUnit (l : List Nat) (f : Frame) : Option Nat := l[mdFlowHash f.md % l.length]?

/-- A counter of R251 of a unit, raised. -/
def State.countNib (s : State) (u sub n : Nat) : State := s.count (0x6400 + u) sub n

/-- A frame arrives at a unit: admitted, or dropped and counted in NODESC_DROP (R221). -/
def State.nibArrive (s : State) (u c : Nat) (f : Frame) : State :=
  if (s.nib u).descFree c then s.setNib u ((s.nib u).admitFrame c f) else (s.countNib u 3 1).lostSend f

/-- EXC_RATE and EXC_BURST (R189). -/
def State.excRate (s : State) (h : Half) : Nat := s.param h 0xA000 6 0 1000000
def State.excBurst (s : State) (h : Half) : Nat := s.param h 0xA000 7 0 1024

/-- The limiter of the exception pool: whether a frame finds a token (R181). -/
def State.excToken (s : State) (h : Half) : State × Bool :=
  let c := (s.half h).cls
  let t := Nat.min (s.excBurst h * 1000000000) (c.excTokens + (s.time h - c.excLast) * s.excRate h)
  let ok := 1000000000 ≤ t
  (s.onHalf h fun x => { x with cls := { x.cls with excTokens := if ok then t - 1000000000 else t, excLast := s.time h } }, ok)

/-- A frame goes to the exception pool of a half with a reason and detail: its ETH_SEND completes OK, and it passes the
limiter to a unit with an exception thread, or is dropped (R181, R182, R220). -/
def State.toException (s : State) (h : Half) (f : Frame) (reason detail : Nat) : State :=
  let r := (s.lostSend f).excToken h
  if r.2 = false then r.1.countCls h 0x15 1
  else
    let us := r.1.nibsFor h fun x => (List.range 64).any fun i => x.classOf i = 2
    match chooseUnit us f with
    | none => r.1.countH 0x6408 h 1 1
    | some i => r.1.nibArrive (nibKey h i) 2 { f with exc := true, reason := reason, detail := detail }

/-- A frame with an action program goes to a unit that holds it, else to the exception pool with NO_PROGRAM
(R179, R190, R220). -/
def State.toProgram (s : State) (h : Half) (f : Frame) : State :=
  let n := mdAprog f.md
  match chooseUnit (s.nibsFor h fun x => (x.entry n).isSome) f with
  | some i => s.nibArrive (nibKey h i) 1 f
  | none => (s.countCls h 0x14 1).toException h f 4 n

/-! ### Memory of a thread (R225, R226) -/

/-- The regions of the map. -/
inductive Region where
  | scratch
  | frame
  | word
  | info
  | shared
  | overflow
deriving DecidableEq, Repr

/-- The region of an address and the offset in it. -/
def Nib.region (x : Nib) (a : Nat) : Option (Region × Nat) :=
  if a < 0x1000 then some (.scratch, a)
  else if 0x10000 ≤ a ∧ a < 0x10100 then some (.frame, a - 0x10000)
  else if 0x10100 ≤ a ∧ a < 0x10120 then some (.word, a - 0x10100)
  else if 0x10120 ≤ a ∧ a < 0x10128 then some (.info, a - 0x10120)
  else if 0x1000000 ≤ a ∧ a < 0x1200000 then some (.shared, a - 0x1000000)
  else if 0x40000000 ≤ a ∧ a < 0x40000000 + x.img 20 2 * 1048576 then some (.overflow, a - 0x40000000)
  else none

/-- The frame information of a held frame (R225). -/
def Frame.info (f : Frame) : List Byte := beBytes 2 f.bytes.length ++ beBytes 1 f.reason ++ beBytes 1 f.detail ++ beBytes 4 f.arrival

/-- `n` bytes of a table from an offset. -/
def memBytes (m : Map Byte) (off n : Nat) : List Byte := (List.range n).map fun i => mget m (off + i) 0

/-- Bytes written to a table, in canonical form. -/
def memPut (m : Map Byte) (off : Nat) (bs : List Byte) : Map Byte :=
  match bs with
  | [] => m
  | b :: rest => memPut (mset m off b 0) (off + 1) rest

/-- `n` bytes of the overflow area: free values where nothing has been written since its DRAM lost its content. -/
def Nib.overflowBytes (x : Nib) (off n : Nat) : List Byte :=
  match x.lost with
  | none => memBytes x.overflow off n
  | some d => (List.range n).map fun i => (mfind x.overflow (off + i)).getD (Config.lostByte d (off + i))

/-- Bytes written to the overflow area; zeros are listed once it has lost its content. -/
def Nib.overflowPut (x : Nib) (off : Nat) (bs : List Byte) : Map Byte :=
  match x.lost with
  | none => memPut x.overflow off bs
  | some _ => (bs.mapIdx fun i b => (off + i, b)).foldl (fun m e => mput m e.1 e.2) x.overflow

/-- `n` bytes read by a thread; a fault code of R242 where the access fails. -/
def Nib.load (x : Nib) (t : Thread) (a n : Nat) : Except Nat (List Byte) :=
  match x.region a with
  | none => .error 3
  | some (.scratch, o) => .ok (memBytes t.scratch o n)
  | some (.shared, o) => .ok (memBytes x.shared o n)
  | some (.overflow, o) => .ok (x.overflowBytes o n)
  | some (r, o) =>
    match t.frame with
    | none => .error 4
    | some f =>
      .ok (match r with
        | .frame => slice f.bytes o n
        | .word => slice (beBytes 32 f.md.toNat) o n
        | _ => slice f.info o n)

/-- Bytes written by thread `i`; a fault code where the access fails. -/
def Nib.store (x : Nib) (i a : Nat) (bs : List Byte) : Except Nat Nib :=
  let t := x.th i
  match x.region a with
  | none => .error 3
  | some (.scratch, o) => .ok (x.setTh i { t with scratch := memPut t.scratch o bs })
  | some (.shared, o) => .ok { x with shared := memPut x.shared o bs }
  | some (.overflow, o) => .ok { x with overflow := x.overflowPut o bs }
  | some (r, o) =>
    match t.frame with
    | none => .error 4
    | some f =>
      match r with
      | .frame => if f.bytes.length < o + bs.length then .error 3
                  else .ok (x.setTh i { t with frame := some { f with bytes := patch f.bytes o bs } })
      | .word => .ok (x.setTh i { t with frame := some { f with md := BitVec.ofNat 256 (beNat (patch (beBytes 32 f.md.toNat) o bs)) } })
      | _ => .error 3

/-- An address register: bits [63:32] must be 0, and the access naturally aligned (R225, R226); ALIGN is found first. -/
def nibAddr (a : Word) (n : Nat) : Except Nat Nat :=
  if a.toNat % n ≠ 0 then .error 2 else if 4294967296 ≤ a.toNat then .error 3 else .ok a.toNat

/-! ### Faults and restarts (R239, R243) -/

/-- A thread at its start: a service thread at START, a dispatch or exception thread waiting for a frame with mask 1, an idle
slot idle (R219, R243). -/
def Nib.restart (x : Nib) (i now : Nat) : Nib :=
  let t := { x.th i with regs := [] }
  let c := x.classOf i
  if c = 3 then x.setTh i { t with st := .running, pc := x.img (548 + 8 * i) 4 }
  else if c = 1 ∨ c = 2 then x.setTh i { t with st := .waiting, mask := 1, wfeRd := 0, since := now }
  else x.setTh i { t with st := .idle }

/-- The held frame of a thread that faults or is reset: it leaves its queue, a lock it held POISONED, and goes to the
exception pool, or is dropped where an exception thread held it (R223, R239). -/
def State.dropHeld (s : State) (u i reason detail : Nat) : State :=
  let x := s.nib u
  let t := x.th i
  match t.frame with
  | none => s
  | some f =>
    let y := x.leave i t.holds
    let s1 := s.setNib u (y.setTh i { y.th i with frame := none, frameExc := false })
    let s2 := if t.holds then s1.countNib u 8 1 else s1
    if t.frameExc then (s2.countNib u 5 1).lostSend f else s2.toException (nibHalf u) f reason detail

/-- What a fault discards of a thread (R243). -/
def Thread.clear (t : Thread) : Thread :=
  { t with staged := none, lookup := none, result := none, deadSubs := t.deadSubs ++ t.subs, subs := [], timer := none, pend := 0
           wantLock := false, skip := false }

/-- A thread is restarted with a reason of R224 (R243). One that is idle, or that has executed STOP, stays so: only an
install changes that (R230, R243). -/
def State.restartThread (s : State) (u i reason detail : Nat) : State :=
  let s1 := s.dropHeld u i reason detail
  let x := s1.nib u
  let was := (x.th i).st
  let y := (x.setTh i (x.th i).clear).restart i (s.time (nibHalf u))
  s1.setNib u (if was = .idle ∨ was = .stopped then y.setTh i { y.th i with st := was } else y)

/-- A thread faults with a code of R242: recorded, counted, restarted, and idle after 16 faults within 1 ms (R243). -/
def State.threadFault (s : State) (u i code : Nat) : State :=
  let h := nibHalf u
  let now := s.time h
  let pc := (s.th u i).pc
  let s1 := (s.restartThread u i 0x10 code).countNib u 7 1
  let x := s1.nib u
  let t := x.th i
  let fs := (now :: t.faults.filter fun a => now < a + 1000000).take 16
  let y := { x.setTh i { t with faults := fs } with faultLog := ((now, i, code, pc) :: x.faultLog).take 16 }
  if fs.length < 16 then s1.setNib u y
  else
    (s1.setNib u (y.setTh i { y.th i with st := .idle })).log 0x8001 2 (unitId h (u % 4)) 0 i

end Sys2Proof.Machine
end

