-- ==== Sys2Proof/Machine/Nib.lean ====
section
/-! DEFINITION. Nib instructions (09 R216 to R239). An instruction of a thread is one step; which ready thread issues next is
the order in which the commands come (log 36). -/

namespace Sys2Proof.Machine
open Sys2Proof

/-- What an instruction word does in a thread of a unit: the device after it, or a fault code of R242. -/
abbrev NibFn := State → Nat → Nat → BitVec 32 → Except Nat State

/-! ### Helpers -/

/-- The thread goes on with rd written. -/
def State.nibRd (s : State) (u i : Nat) (w : BitVec 32) (v : Word) : State :=
  s.setTh u i (((s.th u i).setReg (fRd w) v).next)

/-- The thread goes on. -/
def State.nibNext (s : State) (u i : Nat) : State := s.setTh u i (s.th u i).next

/-- The values of ra, rb and rd. -/
def State.nibRa (s : State) (u i : Nat) (w : BitVec 32) : Word := (s.th u i).reg (fRa w)
def State.nibRb (s : State) (u i : Nat) (w : BitVec 32) : Word := (s.th u i).reg (fRb w)
def State.nibRdVal (s : State) (u i : Nat) (w : BitVec 32) : Word := (s.th u i).reg (fRd w)

/-- A jump to an offset in instructions from the instruction's own address (R227). -/
def jumpTo (pc : Nat) (off : Int) : Nat := (((pc : Int) + 4 * off) % 4294967296).toNat

/-- A thread that goes on at an address. -/
def Thread.goto (t : Thread) (pc : Nat) : Thread := { t with pc := pc, st := .running }

/-- A register run of n registers from r is in range (R227). -/
def runOk (r n : Nat) : Bool := 1 ≤ r && r + n ≤ 32

/-! ### ALU, immediates, memory, branches (R228, R229) -/

/-- An ALU instruction. -/
def nibAlu : NibFn := fun s u i w =>
  match alu (fFunc w) (s.nibRa u i w) (s.nibRb u i w) with
  | some v => .ok (s.nibRd u i w v)
  | none => .error 1

/-- An immediate instruction. -/
def nibImm : NibFn := fun s u i w =>
  match aluImm (fOp w) (s.nibRdVal u i w) (s.nibRa u i w) (fImm w) with
  | some v => .ok (s.nibRd u i w v)
  | none => .error 1

/-- The address ra + sext(IMM). -/
def State.nibEa (s : State) (u i : Nat) (w : BitVec 32) : Word := s.nibRa u i w + BitVec.ofInt 64 (sImm w)

/-- A load of 2^(OP − 0x10) bytes. -/
def nibLoad : NibFn := fun s u i w =>
  let n := 2 ^ (fOp w - 0x10)
  match nibAddr (s.nibEa u i w) n with
  | .error c => .error c
  | .ok a =>
    match (s.nib u).load (s.th u i) a n with
    | .error c => .error c
    | .ok bs => .ok (s.nibRd u i w (BitVec.ofNat 64 (beNat bs)))

/-- A store of 2^(OP − 0x14) bytes. -/
def nibStore : NibFn := fun s u i w =>
  let n := 2 ^ (fOp w - 0x14)
  match nibAddr (s.nibEa u i w) n with
  | .error c => .error c
  | .ok a =>
    match (s.nib u).store i a (beBytes n (s.nibRdVal u i w).toNat) with
    | .error c => .error c
    | .ok x => .ok ((s.setNib u x).nibNext u i)

/-- An atomic operation: in unit shared memory, on an 8-byte-aligned address, elsewhere ACCESS (R226, R228). -/
def nibAtom : NibFn := fun s u i w =>
  let a := (s.nibRa u i w).toNat
  if a < 0x1000000 ∨ 0x1200000 ≤ a ∨ a % 8 ≠ 0 then .error 3
  else
    let x := s.nib u
    let v : Word := BitVec.ofNat 64 (beNat (memBytes x.shared (a - 0x1000000) 8))
    let m := memPut x.shared (a - 0x1000000) (beBytes 8 (atomStore (fFunc w) (s.nibRdVal u i w) (s.nibRb u i w) v).toNat)
    .ok ((s.setNib u { x with shared := m }).nibRd u i w v)

/-- A branch: ra stands in bits [25:21] and rb in [20:16] (R227). -/
def nibBranch : NibFn := fun s u i w =>
  let t := s.th u i
  if branchTaken (fOp w) (t.reg (fRd w)) (t.reg (fRa w)) then .ok (s.setTh u i (t.goto (jumpTo t.pc (sImm w))))
  else .ok (s.nibNext u i)

/-- J. -/
def nibJ : NibFn := fun s u i w =>
  let t := s.th u i
  .ok (s.setTh u i (t.goto (jumpTo t.pc (sOff26 w))))

/-- CALL: v31 receives the address of the next instruction. -/
def nibCall : NibFn := fun s u i w =>
  let t := s.th u i
  .ok (s.setTh u i ((t.setReg 31 (BitVec.ofNat 64 (t.pc + 4))).goto (jumpTo t.pc (sOff26 w))))

/-- JR. -/
def nibJr : NibFn := fun s u i w =>
  let t := s.th u i
  .ok (s.setTh u i ((t.setReg (fRd w) (BitVec.ofNat 64 (t.pc + 4))).goto ((t.reg (fRa w)).toNat % 4294967296)))

/-! ### SYS (R230, R233) -/

/-- WFE: the pending bits of the mask are returned, or the thread waits (R233). -/
def nibWfe : NibFn := fun s u i w =>
  let x := s.nib u
  let t := x.th i
  let m := (t.reg (fRa w)).truncate 32 ||| (if i = 0 then 0x100#32 else 0#32)
  let y := x.setTh i { t with st := .waiting, mask := m, wfeRd := BitVec.ofNat 5 (fRd w), since := s.time (nibHalf u) }
  .ok (s.setNib u (y.wake i))

/-- SIG: ignored for an idle slot. -/
def nibSig : NibFn := fun s u i w =>
  let s1 := s.nibNext u i
  let j := (s.nibRa u i w).toNat % 64
  if (s1.th u j).st = .idle then .ok s1 else .ok (s1.setNib u ((s1.nib u).event j 6))

/-- TIMER: armed for ra ns from now in steps of 8 ns, ra taken below 2^40; 0 disarms it. -/
def nibTimer : NibFn := fun s u i w =>
  let v := (s.nibRa u i w).toNat % 2 ^ 40
  let t := (s.th u i).next
  .ok (s.setTh u i { t with timer := if v = 0 then none else some (s.time (nibHalf u) + (v + 7) / 8 * 8) })

/-- TIME. -/
def nibTime : NibFn := fun s u i w => .ok (s.nibRd u i w (BitVec.ofNat 64 (s.time (nibHalf u))))

/-- SELF: unit ID and slot. -/
def nibSelf : NibFn := fun s u i w => .ok (s.nibRd u i w (BitVec.ofNat 64 (unitId (nibHalf u) (u % 4) * 256 + i)))

/-- FENCE: a step sees every earlier one, so it only goes on (R226). -/
def nibFence : NibFn := fun s u i _ => .ok (s.nibNext u i)

/-- STOP. -/
def nibStop : NibFn := fun s u i _ => .ok (s.setTh u i { (s.th u i).next with st := .stopped })

/-- BRK: halts an armed thread before the instruction while PROGRAM_DEBUG is intact, else raises BREAK (R248, R249). -/
def nibBrk : NibFn := fun s u i _ =>
  let t := s.th u i
  if t.armed ∧ s.nv.programBlown = false then .ok (s.setTh u i { t with halted := some 3 }) else .error 8

/-- TR: the result of the lookup, or a stall until it is ready (R231). -/
def nibTr : NibFn := fun s u i w =>
  let t := s.th u i
  if runOk (fRd w) 4 = false then .error 7
  else
    match t.result with
    | none => .ok (s.setTh u i { t with st := .stallTr })
    | some r =>
      let t1 := (List.range 4).foldl (fun (a : Thread) k => a.setReg (fRd w + k) (r.getD k 0)) t
      .ok (s.setTh u i ({ t1 with result := none }.next))

/-! ### Packets (R223, R228) -/

/-- The metadata word as PEND forwards it: DIR, SOURCE, APROG, the parse fields and, for DIR 1, SLICE keep their delivered
values (R223). -/
def Frame.pendWord (f : Frame) : BitVec 256 :=
  let w1 := setFld (setFld f.md 144 16 (fld f.mdIn 144 16)) 5 7 (mdAprog f.mdIn)
  let w2 := setFld w1 72 71 (fld f.mdIn 72 71)
  if f.dir then setFld w2 60 12 (mdSlice f.mdIn) else w2

/-- PEND with verdict 0: checked, mirrored where the session has changed, and on to TMGR, a host-transmit frame through
CIPHER (R35, R223). -/
def State.pendForward (s : State) (u : Nat) (f : Frame) : State :=
  let h := nibHalf u
  let g := { f with md := f.pendWord, exc := false }
  if g.dir = false ∧ mdChosen g.md = false then s.countNib u 5 1
  else
    match s.isolate h g with
    | some s1 => s1
    | none =>
      let s1 := s.countNib u 4 1
      let s2 := if mdMirror g.md ≠ 0 ∧ mdMirror g.md ≠ mdMirror f.mdIn then s1.mirror h (mdMirror g.md) g else s1
      s2.addFlight h { g with stage := if g.dir then .espTx else .tmgr }

/-- PEND with verdict 2 (R223). -/
def State.pendException (s : State) (u : Nat) (f : Frame) (wasExc : Bool) (v : Nat) : State :=
  if wasExc then (s.countNib u 5 1).lostSend f
  else (s.countNib u 6 1).toException (nibHalf u) f (v / 256 % 256) (v / 65536 % 256)

/-- PEND: the held frame ends with the verdict in ra, its lock is left and its descriptor released (R223, R238). A value that
names no verdict, or no program reason, drops the frame. -/
def nibPend : NibFn := fun s u i w =>
  let t := s.th u i
  let v := (s.nibRa u i w).toNat
  match t.frame with
  | none => .error 4
  | some f =>
    let y := (s.nib u).leave i false
    let s1 := s.setNib u (y.setTh i { (y.th i).next with frame := none, frameExc := false })
    if v % 256 = 0 then .ok (s1.pendForward u f)
    else if v % 256 = 2 ∧ 0x20 ≤ v / 256 % 256 then .ok (s1.pendException u f t.frameExc v)
    else .ok ((s1.countNib u 5 1).lostSend f)

/-- PLEN. -/
def nibPlen : NibFn := fun s u i w =>
  match (s.th u i).frame with
  | none => .error 4
  | some f => .ok (s.nibRd u i w (BitVec.ofNat 64 f.bytes.length))

/-! ### Table requests (R231) -/

/-- The registers a lookup's key takes. -/
def tqRun (table : Nat) : Nat := if table = 1 ∨ table = 4 then 5 else if table = 2 then 2 else if table = 3 then 3 else 0

/-- The key in the registers from r on: for an LPM table VRF × 2^128 + address. -/
def Thread.tqKey (t : Thread) (table r : Nat) : Nat :=
  let g := fun k => (t.reg (r + k)).toNat
  if table = 1 ∨ table = 4 then g 0 * 2 ^ 256 + g 1 * 2 ^ 192 + g 2 * 2 ^ 128 + g 3 * 2 ^ 64 + g 4
  else if table = 2 then g 0 % 65536 * 2 ^ 128 + g 1 % 2 ^ 32
  else if table = 3 then g 0 % 65536 * 2 ^ 128 + g 1 * 2 ^ 64 + g 2
  else g 0 % 65536

/-- TQ: one lookup at a time; a second stalls the thread (R231). -/
def nibTq : NibFn := fun s u i w =>
  let t := s.th u i
  let k := fImm w % 16
  if tqRun k ≠ 0 ∧ runOk (fRa w) (tqRun k) = false then .error 7
  else if t.lookup.isSome ∨ t.result.isSome then .ok (s.setTh u i { t with st := .stallTq })
  else .ok (s.setTh u i { t.next with lookup := some (k, t.tqKey k (fRa w)) })

/-! ### Channels (R234 to R236) -/

/-- CHW. -/
def nibChw : NibFn := fun s u i w =>
  let t := s.th u i
  let c := (s.nibRb u i w).toNat % 64
  match t.staged with
  | none => .ok (s.setTh u i { t.next with staged := some (c, [s.nibRa u i w]) })
  | some (d, ws) =>
    if d ≠ c ∨ 8 ≤ ws.length then .error 5 else .ok (s.setTh u i { t.next with staged := some (c, ws ++ [s.nibRa u i w]) })

/-- CHC: 0 committed, 1 channel full, 2 nothing staged. -/
def nibChc : NibFn := fun s u i w =>
  let x := s.nib u
  let t := x.th i
  match t.staged with
  | none => .ok (s.nibRd u i w 2)
  | some (c, ws) =>
    let q := mget x.chans c []
    if 16 ≤ q.length then .ok (s.nibRd u i w 1)
    else
      let y := { x with chans := mset x.chans c (q ++ [ws]) [] }
      .ok (s.setNib u ((y.setTh i (({ t with staged := none }.setReg (fRd w) 0).next)).wakeAll))

/-- CHR: the oldest message; rd receives its word count. -/
def nibChr : NibFn := fun s u i w =>
  let x := s.nib u
  let t := x.th i
  if fRd w < 1 ∨ 23 < fRd w then .error 7
  else
    match mget x.chans ((s.nibRa u i w).toNat % 64) [] with
    | [] => .ok (s.nibRd u i w 0)
    | m :: rest =>
      let c := (s.nibRa u i w).toNat % 64
      let t1 := (List.range m.length).foldl (fun (a : Thread) k => a.setReg (fRd w + 1 + k) (m.getD k 0))
        (t.setReg (fRd w) (BitVec.ofNat 64 m.length))
      .ok (s.setNib u ({ x with chans := mset x.chans c rest [] }.setTh i t1.next))

/-- CHWATCH. -/
def nibChwatch : NibFn := fun s u i w => .ok (s.setTh u i { (s.th u i).next with watch := s.nibRa u i w })

/-- CHX. -/
def nibChx : NibFn := fun s u i _ => .ok (s.setTh u i { (s.th u i).next with staged := none })

/-! ### Locks (R238) -/

/-- The lock queue of the held frame, and whether the frame heads it. -/
def Nib.heldLock (x : Nib) (i : Nat) : Option (Nat × Bool) :=
  match (x.th i).frame with
  | none => none
  | some f => (x.lockOf f.arrival).map fun n => (n, (x.lock n).queue.head? = some f.arrival)

/-- LACQ. -/
def nibLacq : NibFn := fun s u i w =>
  let x := s.nib u
  match x.heldLock i with
  | none => .error 6
  | some (n, true) => .ok (s.setNib u (x.grant i n (fRd w)))
  | some (_, false) => .ok (s.setTh u i { x.th i with st := .waitLock, wfeRd := BitVec.ofNat 5 (fRd w) })

/-- LTRY: 2 when not at the head, with the LOCK event to follow. -/
def nibLtry : NibFn := fun s u i w =>
  let x := s.nib u
  match x.heldLock i with
  | none => .error 6
  | some (n, true) => .ok (s.setNib u (x.grant i n (fRd w)))
  | some (_, false) => .ok (s.setTh u i { ((x.th i).setReg (fRd w) 2).next with wantLock := true })

/-- LREL: ignored without a queue. -/
def nibLrel : NibFn := fun s u i _ => .ok ((s.setNib u ((s.nib u).leave i false)).nibNext u i)

/-- LMOV: to the tail of lock ra [11:0]. -/
def nibLmov : NibFn := fun s u i w =>
  let x := s.nib u
  match x.heldLock i, (x.th i).frame with
  | some _, some f =>
    let n := (s.nibRa u i w).toNat % 4096
    let y := x.leave i false
    let z := y.setLock n { y.lock n with queue := (y.lock n).queue ++ [f.arrival] }
    .ok ((s.setNib u z).nibNext u i)
  | _, _ => .error 6

/-! ### Submissions (R232, R264) -/

/-- CSUB: the record is 64-byte aligned in private scratch; a fifth submission stalls; a kind other than 1 and 2 ends at once
with MALFORMED. -/
def nibCsub : NibFn := fun s u i w =>
  match nibAddr (s.nibEa u i w) 64 with
  | .error c => .error c
  | .ok a =>
    let t := s.th u i
    if 0x1000 ≤ a then .error 3
    else if 4 ≤ t.subs.length + t.deadSubs.length then .ok (s.setTh u i { t with st := .stallCsub })
    else
      let k := (mget t.scratch a 0).toNat
      if k = 1 ∨ k = 2 then
        .ok (s.setTh u i { t.next with subs := t.subs ++ [{ kind := k, addr := a, frame := t.frame.map (·.arrival) }] })
      else .ok (s.setTh u i { t.next with scratch := mset t.scratch (a + 1) (BitVec.ofNat 8 stMalformed) 0 })

/-! ### Issue (R216, R217, R227, R249) -/

/-- The instruction word at an address of the code store; none off a multiple of 4 or beyond the store (R226). -/
def Nib.fetch (x : Nib) (pc : Nat) : Option (BitVec 32) :=
  if pc % 4 = 0 ∧ pc < 262144 then some (mget x.code (pc / 4) 0) else none

/-- The meaning of a word by its OP and FUNC; none where they are undefined (R228 to R238). -/
def nibMeaning (w : BitVec 32) : Option NibFn :=
  let op := fOp w
  let f := fFunc w
  if (usedBits w).isNone then none
  else if op = 0x00 then some nibAlu
  else if op ≤ 0x0D then some nibImm
  else if op ≤ 0x13 then some nibLoad
  else if op ≤ 0x17 then some nibStore
  else if op = 0x18 then some nibAtom
  else if op ≤ 0x25 then some nibBranch
  else if op = 0x26 then some nibJ
  else if op = 0x27 then some nibCall
  else if op = 0x28 then some nibJr
  else if op = 0x30 then
    some (if f = 0 then nibWfe else if f = 1 then nibSig else if f = 2 then nibTimer else if f = 3 then nibTime
      else if f = 4 then nibSelf else if f = 5 then nibFence else if f = 6 then nibStop else if f = 7 then nibBrk else nibTr)
  else if op = 0x31 then some (if f = 0 then nibPend else nibPlen)
  else if op = 0x32 then some nibTq
  else if op = 0x34 then
    some (if f = 0 then nibChw else if f = 1 then nibChc else if f = 2 then nibChr else if f = 3 then nibChwatch else nibChx)
  else if op = 0x35 then some (if f = 0 then nibLacq else if f = 1 then nibLtry else if f = 2 then nibLrel else nibLmov)
  else some nibCsub

/-- A unit whose threads run: powered and doing work, in a half that runs (R410, R422). -/
def State.nibRuns (s : State) (u : Nat) : Bool :=
  s.running && !(s.half (nibHalf u)).stopped && s.works (nibHalf u) (u % 4)

/-- A thread is ready: not waiting, stalled, halted, stopped or idle (R217). -/
def State.ready (s : State) (u i : Nat) : Bool := s.nibRuns u && (s.th u i).st = .running && (s.th u i).halted.isNone

/-- A breakpoint stands at the thread's instruction (R249, R250). -/
def Thread.atBreak (t : Thread) : Bool :=
  t.armed && !t.skip && (List.range 4).any fun k => bit t.bps (32 * k) && fld t.bps (32 * k) 32 / 2 * 2 = t.pc

/-- What a word does in a thread: its effect, or its fault (R242). -/
def State.nibDo (s : State) (u i : Nat) (f : NibFn) (w : BitVec 32) : State :=
  let s1 := s.setTh u i { s.th u i with skip := false }
  match f s1 u i w with
  | .ok s2 => s2
  | .error c => s1.threadFault u i c

/-- A ready thread issues the instruction at its address, where that is word `w` by every bit its meaning uses; a word without
a meaning raises ILLEGAL; a breakpoint halts the thread before the instruction (R217, R227, R249). -/
def State.issue (s : State) (t : Th) (w : BitVec 32) (f : NibFn) : State :=
  let u := t.unit.val
  let i := t.slot.val
  if s.ready u i = false then s
  else
    match (s.nib u).fetch (s.th u i).pc with
    | none => s.threadFault u i 1
    | some c =>
      if (usedBits c).isNone then s.threadFault u i 1
      else if sameWord c w = false then s
      else if (s.th u i).atBreak then s.setTh u i { s.th u i with halted := some 2 }
      else s.nibDo u i f c

/-! ### ALU (R229) -/

/-- ADD (R229). -/
def execAdd (t : Th) (rd ra rb : Reg) (s : State) : Out := .next (s.issue t (encR 0x00 rd.toNat ra.toNat rb.toNat 0x000) nibAlu)

/-- SUB (R229). -/
def execSub (t : Th) (rd ra rb : Reg) (s : State) : Out := .next (s.issue t (encR 0x00 rd.toNat ra.toNat rb.toNat 0x001) nibAlu)

/-- AND (R229). -/
def execAnd (t : Th) (rd ra rb : Reg) (s : State) : Out := .next (s.issue t (encR 0x00 rd.toNat ra.toNat rb.toNat 0x002) nibAlu)

/-- OR (R229). -/
def execOr (t : Th) (rd ra rb : Reg) (s : State) : Out := .next (s.issue t (encR 0x00 rd.toNat ra.toNat rb.toNat 0x003) nibAlu)

/-- XOR (R229). -/
def execXor (t : Th) (rd ra rb : Reg) (s : State) : Out := .next (s.issue t (encR 0x00 rd.toNat ra.toNat rb.toNat 0x004) nibAlu)

/-- ANDN (R229). -/
def execAndn (t : Th) (rd ra rb : Reg) (s : State) : Out := .next (s.issue t (encR 0x00 rd.toNat ra.toNat rb.toNat 0x005) nibAlu)

/-- SLL (R229). -/
def execSll (t : Th) (rd ra rb : Reg) (s : State) : Out := .next (s.issue t (encR 0x00 rd.toNat ra.toNat rb.toNat 0x006) nibAlu)

/-- SRL (R229). -/
def execSrl (t : Th) (rd ra rb : Reg) (s : State) : Out := .next (s.issue t (encR 0x00 rd.toNat ra.toNat rb.toNat 0x007) nibAlu)

/-- SRA (R229). -/
def execSra (t : Th) (rd ra rb : Reg) (s : State) : Out := .next (s.issue t (encR 0x00 rd.toNat ra.toNat rb.toNat 0x008) nibAlu)

/-- ROL (R229). -/
def execRol (t : Th) (rd ra rb : Reg) (s : State) : Out := .next (s.issue t (encR 0x00 rd.toNat ra.toNat rb.toNat 0x009) nibAlu)

/-- SLT (R229). -/
def execSlt (t : Th) (rd ra rb : Reg) (s : State) : Out := .next (s.issue t (encR 0x00 rd.toNat ra.toNat rb.toNat 0x00A) nibAlu)

/-- SLTU (R229). -/
def execSltu (t : Th) (rd ra rb : Reg) (s : State) : Out := .next (s.issue t (encR 0x00 rd.toNat ra.toNat rb.toNat 0x00B) nibAlu)

/-- MUL (R229). -/
def execMul (t : Th) (rd ra rb : Reg) (s : State) : Out := .next (s.issue t (encR 0x00 rd.toNat ra.toNat rb.toNat 0x00C) nibAlu)

/-- MULHU (R229). -/
def execMulhu (t : Th) (rd ra rb : Reg) (s : State) : Out := .next (s.issue t (encR 0x00 rd.toNat ra.toNat rb.toNat 0x00D) nibAlu)

/-- MIN (R229). -/
def execMin (t : Th) (rd ra rb : Reg) (s : State) : Out := .next (s.issue t (encR 0x00 rd.toNat ra.toNat rb.toNat 0x00E) nibAlu)

/-- MAX (R229). -/
def execMax (t : Th) (rd ra rb : Reg) (s : State) : Out := .next (s.issue t (encR 0x00 rd.toNat ra.toNat rb.toNat 0x00F) nibAlu)

/-- CLZ (R229). -/
def execClz (t : Th) (rd ra rb : Reg) (s : State) : Out := .next (s.issue t (encR 0x00 rd.toNat ra.toNat rb.toNat 0x010) nibAlu)

/-- POPC (R229). -/
def execPopc (t : Th) (rd ra rb : Reg) (s : State) : Out := .next (s.issue t (encR 0x00 rd.toNat ra.toNat rb.toNat 0x011) nibAlu)

/-- BSWAP (R229). -/
def execBswap (t : Th) (rd ra rb : Reg) (s : State) : Out := .next (s.issue t (encR 0x00 rd.toNat ra.toNat rb.toNat 0x012) nibAlu)

/-- CRC32C (R229). -/
def execCrc32c (t : Th) (rd ra rb : Reg) (s : State) : Out := .next (s.issue t (encR 0x00 rd.toNat ra.toNat rb.toNat 0x013) nibAlu)

/-! ### Immediates, loads and stores (R228) -/

/-- ADDI (R228). -/
def execAddi (t : Th) (rd ra : Reg) (imm : BitVec 16) (s : State) : Out := .next (s.issue t (encI 0x01 rd.toNat ra.toNat imm.toNat) nibImm)

/-- ANDI (R228). -/
def execAndi (t : Th) (rd ra : Reg) (imm : BitVec 16) (s : State) : Out := .next (s.issue t (encI 0x02 rd.toNat ra.toNat imm.toNat) nibImm)

/-- ORI (R228). -/
def execOri (t : Th) (rd ra : Reg) (imm : BitVec 16) (s : State) : Out := .next (s.issue t (encI 0x03 rd.toNat ra.toNat imm.toNat) nibImm)

/-- XORI (R228). -/
def execXori (t : Th) (rd ra : Reg) (imm : BitVec 16) (s : State) : Out := .next (s.issue t (encI 0x04 rd.toNat ra.toNat imm.toNat) nibImm)

/-- SLLI (R228). -/
def execSlli (t : Th) (rd ra : Reg) (imm : BitVec 16) (s : State) : Out := .next (s.issue t (encI 0x05 rd.toNat ra.toNat imm.toNat) nibImm)

/-- SRLI (R228). -/
def execSrli (t : Th) (rd ra : Reg) (imm : BitVec 16) (s : State) : Out := .next (s.issue t (encI 0x06 rd.toNat ra.toNat imm.toNat) nibImm)

/-- SRAI (R228). -/
def execSrai (t : Th) (rd ra : Reg) (imm : BitVec 16) (s : State) : Out := .next (s.issue t (encI 0x07 rd.toNat ra.toNat imm.toNat) nibImm)

/-- SLTI (R228). -/
def execSlti (t : Th) (rd ra : Reg) (imm : BitVec 16) (s : State) : Out := .next (s.issue t (encI 0x08 rd.toNat ra.toNat imm.toNat) nibImm)

/-- SLTIU (R228). -/
def execSltiu (t : Th) (rd ra : Reg) (imm : BitVec 16) (s : State) : Out := .next (s.issue t (encI 0x09 rd.toNat ra.toNat imm.toNat) nibImm)

/-- LUI (R228). -/
def execLui (t : Th) (rd ra : Reg) (imm : BitVec 16) (s : State) : Out := .next (s.issue t (encI 0x0A rd.toNat ra.toNat imm.toNat) nibImm)

/-- SHORI (R228). -/
def execShori (t : Th) (rd ra : Reg) (imm : BitVec 16) (s : State) : Out := .next (s.issue t (encI 0x0B rd.toNat ra.toNat imm.toNat) nibImm)

/-- EXT (R228). -/
def execExt (t : Th) (rd ra : Reg) (imm : BitVec 16) (s : State) : Out := .next (s.issue t (encI 0x0C rd.toNat ra.toNat imm.toNat) nibImm)

/-- INS (R228). -/
def execIns (t : Th) (rd ra : Reg) (imm : BitVec 16) (s : State) : Out := .next (s.issue t (encI 0x0D rd.toNat ra.toNat imm.toNat) nibImm)

/-- LB (R228). -/
def execLb (t : Th) (rd ra : Reg) (imm : BitVec 16) (s : State) : Out := .next (s.issue t (encI 0x10 rd.toNat ra.toNat imm.toNat) nibLoad)

/-- LH (R228). -/
def execLh (t : Th) (rd ra : Reg) (imm : BitVec 16) (s : State) : Out := .next (s.issue t (encI 0x11 rd.toNat ra.toNat imm.toNat) nibLoad)

/-- LW (R228). -/
def execLw (t : Th) (rd ra : Reg) (imm : BitVec 16) (s : State) : Out := .next (s.issue t (encI 0x12 rd.toNat ra.toNat imm.toNat) nibLoad)

/-- LD (R228). -/
def execLd (t : Th) (rd ra : Reg) (imm : BitVec 16) (s : State) : Out := .next (s.issue t (encI 0x13 rd.toNat ra.toNat imm.toNat) nibLoad)

/-- SB (R228). -/
def execSb (t : Th) (rd ra : Reg) (imm : BitVec 16) (s : State) : Out := .next (s.issue t (encI 0x14 rd.toNat ra.toNat imm.toNat) nibStore)

/-- SH (R228). -/
def execSh (t : Th) (rd ra : Reg) (imm : BitVec 16) (s : State) : Out := .next (s.issue t (encI 0x15 rd.toNat ra.toNat imm.toNat) nibStore)

/-- SW (R228). -/
def execSw (t : Th) (rd ra : Reg) (imm : BitVec 16) (s : State) : Out := .next (s.issue t (encI 0x16 rd.toNat ra.toNat imm.toNat) nibStore)

/-- SD (R228). -/
def execSd (t : Th) (rd ra : Reg) (imm : BitVec 16) (s : State) : Out := .next (s.issue t (encI 0x17 rd.toNat ra.toNat imm.toNat) nibStore)

/-! ### Atomics and control flow (R228) -/

/-- ATOM_ADD (R228). -/
def execAtomAdd (t : Th) (rd ra rb : Reg) (s : State) : Out := .next (s.issue t (encR 0x18 rd.toNat ra.toNat rb.toNat 0) nibAtom)

/-- ATOM_SWAP (R228). -/
def execAtomSwap (t : Th) (rd ra rb : Reg) (s : State) : Out := .next (s.issue t (encR 0x18 rd.toNat ra.toNat rb.toNat 1) nibAtom)

/-- ATOM_CAS (R228). -/
def execAtomCas (t : Th) (rd ra rb : Reg) (s : State) : Out := .next (s.issue t (encR 0x18 rd.toNat ra.toNat rb.toNat 2) nibAtom)

/-- ATOM_OR (R228). -/
def execAtomOr (t : Th) (rd ra rb : Reg) (s : State) : Out := .next (s.issue t (encR 0x18 rd.toNat ra.toNat rb.toNat 3) nibAtom)

/-- ATOM_AND (R228). -/
def execAtomAnd (t : Th) (rd ra rb : Reg) (s : State) : Out := .next (s.issue t (encR 0x18 rd.toNat ra.toNat rb.toNat 4) nibAtom)

/-- BEQ (R228). -/
def execBeq (t : Th) (ra rb : Reg) (off : BitVec 16) (s : State) : Out := .next (s.issue t (encI 0x20 ra.toNat rb.toNat off.toNat) nibBranch)

/-- BNE (R228). -/
def execBne (t : Th) (ra rb : Reg) (off : BitVec 16) (s : State) : Out := .next (s.issue t (encI 0x21 ra.toNat rb.toNat off.toNat) nibBranch)

/-- BLT (R228). -/
def execBlt (t : Th) (ra rb : Reg) (off : BitVec 16) (s : State) : Out := .next (s.issue t (encI 0x22 ra.toNat rb.toNat off.toNat) nibBranch)

/-- BGE (R228). -/
def execBge (t : Th) (ra rb : Reg) (off : BitVec 16) (s : State) : Out := .next (s.issue t (encI 0x23 ra.toNat rb.toNat off.toNat) nibBranch)

/-- BLTU (R228). -/
def execBltu (t : Th) (ra rb : Reg) (off : BitVec 16) (s : State) : Out := .next (s.issue t (encI 0x24 ra.toNat rb.toNat off.toNat) nibBranch)

/-- BGEU (R228). -/
def execBgeu (t : Th) (ra rb : Reg) (off : BitVec 16) (s : State) : Out := .next (s.issue t (encI 0x25 ra.toNat rb.toNat off.toNat) nibBranch)

/-- J (R228). -/
def execJ (t : Th) (off : BitVec 26) (s : State) : Out := .next (s.issue t (encJ 0x26 off.toNat) nibJ)

/-- CALL (R228). -/
def execCall (t : Th) (off : BitVec 26) (s : State) : Out := .next (s.issue t (encJ 0x27 off.toNat) nibCall)

/-- JR (R228). -/
def execJr (t : Th) (rd ra rb : Reg) (s : State) : Out := .next (s.issue t (encR 0x28 rd.toNat ra.toNat rb.toNat 0) nibJr)

/-! ### SYS (R230) -/

/-- WFE (R233). -/
def execWfe (t : Th) (rd ra rb : Reg) (s : State) : Out := .next (s.issue t (encR 0x30 rd.toNat ra.toNat rb.toNat 0) nibWfe)

/-- SIG (R230). -/
def execSig (t : Th) (rd ra rb : Reg) (s : State) : Out := .next (s.issue t (encR 0x30 rd.toNat ra.toNat rb.toNat 1) nibSig)

/-- TIMER (R230). -/
def execTimer (t : Th) (rd ra rb : Reg) (s : State) : Out := .next (s.issue t (encR 0x30 rd.toNat ra.toNat rb.toNat 2) nibTimer)

/-- TIME (R230). -/
def execTime (t : Th) (rd ra rb : Reg) (s : State) : Out := .next (s.issue t (encR 0x30 rd.toNat ra.toNat rb.toNat 3) nibTime)

/-- SELF (R230). -/
def execSelf (t : Th) (rd ra rb : Reg) (s : State) : Out := .next (s.issue t (encR 0x30 rd.toNat ra.toNat rb.toNat 4) nibSelf)

/-- FENCE (R226). -/
def execFence (t : Th) (rd ra rb : Reg) (s : State) : Out := .next (s.issue t (encR 0x30 rd.toNat ra.toNat rb.toNat 5) nibFence)

/-- STOP (R230). -/
def execStop (t : Th) (rd ra rb : Reg) (s : State) : Out := .next (s.issue t (encR 0x30 rd.toNat ra.toNat rb.toNat 6) nibStop)

/-- BRK (R230). -/
def execBrk (t : Th) (rd ra rb : Reg) (s : State) : Out := .next (s.issue t (encR 0x30 rd.toNat ra.toNat rb.toNat 7) nibBrk)

/-- TR (R231). -/
def execTr (t : Th) (rd ra rb : Reg) (s : State) : Out := .next (s.issue t (encR 0x30 rd.toNat ra.toNat rb.toNat 8) nibTr)

/-! ### Packets, tables, channels, locks, submissions (R223, R231, R234, R238, R232) -/

/-- The verdict in the operand of a PEND (R223). -/
def State.verdict (s : State) (t : Th) (ra : Reg) : Nat := ((s.th t.unit.val t.slot.val).reg ra.toNat).toNat % 256

/-- PEND_FORWARD (R223). -/
def execPendForward (t : Th) (rd ra rb : Reg) (s : State) : Out :=
  .next (if s.verdict t ra = 0 then s.issue t (encR 0x31 rd.toNat ra.toNat rb.toNat 0) nibPend else s)

/-- PEND_DROP (R223). -/
def execPendDrop (t : Th) (rd ra rb : Reg) (s : State) : Out :=
  .next (if s.verdict t ra ≠ 0 ∧ s.verdict t ra ≠ 2 then s.issue t (encR 0x31 rd.toNat ra.toNat rb.toNat 0) nibPend else s)

/-- PEND_EXCEPTION (R223). -/
def execPendException (t : Th) (rd ra rb : Reg) (s : State) : Out :=
  .next (if s.verdict t ra = 2 then s.issue t (encR 0x31 rd.toNat ra.toNat rb.toNat 0) nibPend else s)

/-- PLEN (R228). -/
def execPlen (t : Th) (rd ra rb : Reg) (s : State) : Out := .next (s.issue t (encR 0x31 rd.toNat ra.toNat rb.toNat 1) nibPlen)

/-- TQ (R231). -/
def execTq (t : Th) (rd ra : Reg) (imm : BitVec 16) (s : State) : Out := .next (s.issue t (encI 0x32 rd.toNat ra.toNat imm.toNat) nibTq)

/-- CHW (R234). -/
def execChw (t : Th) (rd ra rb : Reg) (s : State) : Out := .next (s.issue t (encR 0x34 rd.toNat ra.toNat rb.toNat 0) nibChw)

/-- CHC (R234). -/
def execChc (t : Th) (rd ra rb : Reg) (s : State) : Out := .next (s.issue t (encR 0x34 rd.toNat ra.toNat rb.toNat 1) nibChc)

/-- CHR (R234). -/
def execChr (t : Th) (rd ra rb : Reg) (s : State) : Out := .next (s.issue t (encR 0x34 rd.toNat ra.toNat rb.toNat 2) nibChr)

/-- CHWATCH (R234). -/
def execChwatch (t : Th) (rd ra rb : Reg) (s : State) : Out := .next (s.issue t (encR 0x34 rd.toNat ra.toNat rb.toNat 3) nibChwatch)

/-- CHX (R234). -/
def execChx (t : Th) (rd ra rb : Reg) (s : State) : Out := .next (s.issue t (encR 0x34 rd.toNat ra.toNat rb.toNat 4) nibChx)

/-- LACQ (R238). -/
def execLacq (t : Th) (rd ra rb : Reg) (s : State) : Out := .next (s.issue t (encR 0x35 rd.toNat ra.toNat rb.toNat 0) nibLacq)

/-- LTRY (R238). -/
def execLtry (t : Th) (rd ra rb : Reg) (s : State) : Out := .next (s.issue t (encR 0x35 rd.toNat ra.toNat rb.toNat 1) nibLtry)

/-- LREL (R238). -/
def execLrel (t : Th) (rd ra rb : Reg) (s : State) : Out := .next (s.issue t (encR 0x35 rd.toNat ra.toNat rb.toNat 2) nibLrel)

/-- LMOV (R238). -/
def execLmov (t : Th) (rd ra rb : Reg) (s : State) : Out := .next (s.issue t (encR 0x35 rd.toNat ra.toNat rb.toNat 3) nibLmov)

/-- Kind and OP of the record that a CSUB names, 0 where its address is bad (R232, R264). -/
def State.subKind (s : State) (t : Th) (ra : Reg) (imm : BitVec 16) : Nat × Nat :=
  let x := s.th t.unit.val t.slot.val
  let a := (x.reg ra.toNat + BitVec.ofInt 64 (signed 16 imm.toNat)).toNat
  ((mget x.scratch a 0).toNat, (mget x.scratch (a + 2) 0).toNat)

/-- CSUB_COPY (R232). -/
def execCsubCopy (t : Th) (rd ra : Reg) (imm : BitVec 16) (s : State) : Out :=
  .next (if (s.subKind t ra imm).1 ≠ 2 then s.issue t (encI 0x36 rd.toNat ra.toNat imm.toNat) nibCsub else s)

/-- CSUB_ESP_OUT (R264). -/
def execCsubEspOut (t : Th) (rd ra : Reg) (imm : BitVec 16) (s : State) : Out :=
  .next (if (s.subKind t ra imm).1 = 2 ∧ (s.subKind t ra imm).2 ≠ 2 then s.issue t (encI 0x36 rd.toNat ra.toNat imm.toNat) nibCsub else s)

/-- CSUB_ESP_IN (R264). -/
def execCsubEspIn (t : Th) (rd ra : Reg) (imm : BitVec 16) (s : State) : Out :=
  .next (if s.subKind t ra imm = (2, 2) then s.issue t (encI 0x36 rd.toNat ra.toNat imm.toNat) nibCsub else s)

end Sys2Proof.Machine
end

