-- ==== Sys2Proof/Machine/NibEvents.lean ====
section
/-! DEFINITION. Deliveries, results, ends of submissions, timers, the stalemate detector and the drain limit of the nib
units (09). -/

namespace Sys2Proof.Machine
open Sys2Proof

/-! ### Delivery (R222, R233) -/

/-- A thread of a class takes a frame: it waits in WFE with event bit 0 and holds no frame (R222). -/
def Nib.takes (x : Nib) (c i : Nat) : Bool :=
  let t := x.th i
  x.classOf i = c && t.st = .waiting && t.halted.isNone && t.frame.isNone && bit t.mask 0 && (x.events t &&& t.mask) = 0

/-- A thread with a frame delivered: at its entry address, v1 and v2 set (R222). -/
def Nib.deliver (x : Nib) (c i : Nat) (f : Frame) : Nib :=
  let t := x.th i
  let v1 := if c = 1 then mdAprog f.md else f.reason % 256 * 256 + f.detail % 256
  let pc := if c = 1 then (x.entry (mdAprog f.md)).getD 0 else x.img 24 4
  { x.setTh i { (t.setReg 1 (BitVec.ofNat 64 v1)).setReg 2 (BitVec.ofNat 64 f.bytes.length) with
      st := .running, pc := pc, frame := some f, frameExc := c = 2 } with staleFired := false }

/-- The oldest frame of a class goes to the lowest thread that takes it (R222). -/
def State.frameDeliver (s : State) (u c : Nat) : State :=
  let x := s.nib u
  if s.nibRuns u = false then s
  else
    match (if c = 1 then x.waitD else x.waitE), (List.range 64).find? (x.takes c) with
    | f :: rest, some i =>
      let y := if c = 1 then { x with waitD := rest } else { x with waitE := rest }
      (s.setNib u (y.deliver c i f)).countNib u c 1
    | _, _ => s

/-- FRAME_DELIVER (R222). -/
def execFrameDeliver (u : Fin 8) (cls : NibClass) (s : State) : Out :=
  .next (s.frameDeliver u.val (match cls with | .dispatch => 1 | .exception => 2))

/-! ### Lookup results (R231) -/

/-- The result of a lookup: 1 and the action record, 0 on a miss, 2 for an unknown table code; what the other registers
receive without a hit is not stated, so they are free (R231; log 8). -/
def State.tqResult (s : State) (h : Half) (table key : Nat) : List Word :=
  let t := (s.half h).cls.live
  let free := fun (c : Word) => [c, Config.tqMiss s.fresh 1, Config.tqMiss s.fresh 2, Config.tqMiss s.fresh 3]
  if table = 0 ∨ 8 < table then free 2
  else
    match t.hit table key (key / 2 ^ 128) (key % 2 ^ 128) with
    | none => free 0
    | some a =>
      let bs := leBytes 24 a.toNat
      [1, BitVec.ofNat 64 (beAt bs 0 8), BitVec.ofNat 64 (beAt bs 8 8), BitVec.ofNat 64 (beAt bs 16 8)]

/-- A thread that stalls in one way goes on (R217). -/
def Thread.unstall (t : Thread) (st : ThSt) : Thread := if t.st = st then { t with st := .running } else t

/-- A thread's lookup has its result and the TBL event is set (R231). -/
def State.tblReady (s : State) (u i : Nat) : State :=
  let t := s.th u i
  match t.lookup with
  | none => s
  | some (k, key) =>
    if s.active (nibHalf u) 7 = false then s
    else
      let y := (s.nib u).setTh i { t.unstall .stallTr with lookup := none, result := some (s.tqResult (nibHalf u) k key) }
      (s.setNib u (y.event i 1)).fresher

/-- TBL_RESULT_READY (R231). -/
def execTblResultReady (t : Th) (s : State) : Out := .next (s.tblReady t.unit.val t.slot.val)

/-! ### Ends of submissions (R232, R243, R264, R265) -/

/-- The first submission of a kind, and the list without it. -/
def takeSub (kind : Nat) (l : List Sub) : Option (Sub × List Sub) := takeFirst (fun x : Sub => x.kind = kind) l

/-- The oldest submission of a kind that a thread has outstanding, whether its event is discarded, and the thread without
it (R232, R243). -/
def Thread.oldestSub (t : Thread) (kind : Nat) : Option (Sub × Bool × Thread) :=
  match takeSub kind t.deadSubs with
  | some (x, rest) => some (x, true, { t with deadSubs := rest })
  | none =>
    match takeSub kind t.subs with
    | some (x, rest) => some (x, false, { t with subs := rest })
    | none => none

/-- A submission has ended: its status is in byte 1 of the record, then its event is set (R232, R243). -/
def Nib.subEnd (x : Nib) (i : Nat) (b : Sub) (dead : Bool) (status event : Nat) : Nib :=
  let t := (x.th i).unstall .stallCsub
  let y := x.setTh i { t with scratch := memPut t.scratch (b.addr + 1) [BitVec.ofNat 8 status] }
  if dead then y else y.event i event

/-- `n` bytes of a thread's map, byte by byte, oldest first. -/
def Nib.gather (x : Nib) (t : Thread) (a n : Nat) : Option (List Byte) :=
  match n with
  | 0 => some []
  | k + 1 =>
    match x.load t a 1, x.gather t (a + 1) k with
    | .ok bs, some rest => some (bs ++ rest)
    | _, _ => none

/-- Bytes written to a thread's map, byte by byte. -/
def Nib.scatter (x : Nib) (i a : Nat) (bs : List Byte) : Option Nib :=
  match bs with
  | [] => some x
  | b :: rest =>
    match x.store i a [b] with
    | .ok y => y.scatter i (a + 1) rest
    | .error _ => none

/-- A copy within a thread's map: RANGE for a length outside 1 to 65,536, ACCESS where an access fails, and then nothing is
copied (R232). -/
def Nib.copyWithin (x : Nib) (i : Nat) (b : Sub) : Nib × Nat :=
  let t := x.th i
  let r := memBytes t.scratch b.addr 64
  let n := beAt r 16 4
  if n = 0 ∨ 65536 < n then (x, stRange)
  else
    match x.gather t (beAt r 8 4) n with
    | none => (x, stAccess)
    | some bs =>
      match x.scatter i (beAt r 12 4) bs with
      | none => (x, stAccess)
      | some y => (y, stOk)

/-- A kind 1 submission ends (R232). -/
def State.copySubEnd (s : State) (u i : Nat) : State :=
  let x := s.nib u
  match (x.th i).oldestSub 1 with
  | none => s
  | some (b, dead, t) =>
    let r := (x.setTh i t).copyWithin i b
    s.setNib u (r.1.subEnd i b dead r.2 3)

/-- COPY_SUBMIT_END (R232). -/
def execCopySubmitEnd (t : Th) (s : State) : Out := .next (s.copySubEnd t.unit.val t.slot.val)

/-- A record of R264 after an operation that ended OK: NEW_LEN and SEQ written. -/
def Thread.wroteEsp (t : Thread) (addr len seq : Nat) : Thread :=
  { t with scratch := memPut (memPut t.scratch (addr + 8) (leBytes 2 len)) (addr + 16) (leBytes 8 seq) }

/-- The operation of a kind 2 submission on the held frame it was made for (R264, R265): the device after it, its status, and
the frame's new bytes and sequence number. -/
def State.cipherOp (s : State) (u i : Nat) (b : Sub) (icvOk : Bool) : State × Nat × Option (List Byte × Nat) :=
  let t := s.th u i
  let r := memBytes t.scratch b.addr 64
  let op := leAt r 2 1
  if op ≠ 1 ∧ op ≠ 2 then (s, stMalformed, none)
  else
    match t.frame with
    | none => (s, stAccess, none)
    | some f =>
      if b.frame ≠ some f.arrival then (s, stAccess, none)
      else if op = 1 then s.espOut (nibHalf u) (leAt r 4 2) (leAt r 6 2) f
      else s.espIn (nibHalf u) (leAt r 4 2) (leAt r 6 2) f icvOk

/-- A kind 2 submission ends; with CIPHER out of service it ends MEDIA (R264, R265, R421). -/
def State.cipherSubEnd (s : State) (u i : Nat) (icvOk : Bool) : State :=
  match (s.th u i).oldestSub 2 with
  | none => s
  | some (b, dead, t) =>
    let s1 := s.setTh u i t
    let r := if s.works (nibHalf u) 9 then s1.cipherOp u i b icvOk else (s1, stMedia, none)
    let x := r.1.nib u
    let y := match r.2.2 with
      | none => x
      | some (bs, seq) =>
        let a := x.th i
        let c := { a with frame := a.frame.map fun (f : Frame) => { f with bytes := bs } }
        x.setTh i (c.wroteEsp b.addr bs.length seq)
    r.1.setNib u (y.subEnd i b dead r.2.1 2)

/-- CIPHER_SUBMIT_END (R265). -/
def execCipherSubmitEnd (t : Th) (icvOk : Bool) (s : State) : Out := .next (s.cipherSubEnd t.unit.val t.slot.val icvOk)

/-! ### Timers, stalemates, the drain limit (R230, R240, R241, R247) -/

/-- THREAD_TIMER_FIRE (R230): at its time a timer fires once. -/
def State.timerFire (s : State) (u i : Nat) : State :=
  match (s.th u i).timer with
  | none => s
  | some at_ =>
    let s1 := s.until (nibHalf u) at_
    s1.setNib u (((s1.nib u).setTh i { s1.th u i with timer := none }).event i 4)

def execThreadTimerFire (t : Th) (s : State) : Out := .next (s.timerFire t.unit.val t.slot.val)

/-- A thread waits on its unit (R240). -/
def Nib.waitsOnUnit (x : Nib) (t : Thread) : Bool :=
  t.st = .waiting && (t.mask &&& 0x8F#32) = 0 && t.timer.isNone && (x.events t &&& t.mask) = 0 && (x.events t &&& 0x20#32) = 0

/-- Threads left out of the test of R240. -/
def Thread.leftOut (t : Thread) : Bool := t.st = .idle || t.st = .stopped || t.halted.isSome

/-- The stalemate condition (R240), with at least one thread that waits. -/
def Nib.stale (x : Nib) : Bool :=
  let ts := (x.threads.map Prod.snd).filter fun t => !t.leftOut
  !ts.isEmpty && ts.all x.waitsOnUnit

/-- STALEMATE (R241): after 10 µs of the condition, once an episode. -/
def State.stalemate (s : State) (u : Nat) : State :=
  let x := s.nib u
  let h := nibHalf u
  if s.nibRuns u ∧ x.stale ∧ x.staleFired = false then
    let from_ := ((x.threads.filter fun e => !e.2.leftOut).map (·.2.since)).foldl Nat.max 0
    let s1 := s.until h (from_ + 10000)
    let y := { s1.nib u with staleFired := true }
    ((s1.setNib u (y.event 0 8)).log 0x8000 0 (unitId h (u % 4)) 0 0).countNib u 9 1
  else s

def execStalemate (u : Fin 8) (s : State) : Out := .next (s.stalemate u.val)

/-- A frame that waits for a thread leaves its lock's queue. -/
def Nib.forget (x : Nib) (f : Frame) : Nib :=
  match x.lockOf f.arrival with
  | none => x
  | some n => (x.setLock n { x.lock n with queue := (x.lock n).queue.erase f.arrival }).newHead n

/-- Frames that no thread has taken go to the exception pool with THREAD_RESET (R247). -/
def State.dropWaiting (s : State) (u : Nat) : State :=
  let x := s.nib u
  let fs := x.waitD ++ x.waitE
  let y := fs.foldl Nib.forget { x with waitD := [], waitE := [] }
  fs.foldl (fun a f => a.toException (nibHalf u) f 0x11 1) (s.setNib u y)

/-- Every held frame of a unit is treated as a debugger reset with detail 1 (R247). -/
def State.resetHolders (s : State) (u : Nat) : State :=
  (List.range 64).foldl (fun a i => if (a.th u i).frame.isSome then a.restartThread u i 0x11 1 else a) s

/-- NIB_DRAIN_LIMIT (R247): 1 ms of DRAINING has passed. -/
def State.drainLimit (s : State) (u : Nat) : State :=
  let h := nibHalf u
  if (s.unit h (u % 4)).st = .draining then
    let s1 := s.until h ((s.unit h (u % 4)).since + 1000000)
    (s1.resetHolders u).dropWaiting u
  else s

def execNibDrainLimit (u : Fin 8) (s : State) : Out := .next (s.drainLimit u.val)

end Sys2Proof.Machine
end

