-- ==== Sys2Proof/Machine/NibLoad.lean ====
section
/-! DEFINITION. Action images, their load and install, and thread debug (09 R244 to R250). -/

namespace Sys2Proof.Machine
open Sys2Proof

/-! ### The check of an image (R244, R245) -/

def imCodeLen (p : List Byte) : Nat := beAt p 12 4
def imDataLen (p : List Byte) : Nat := beAt p 16 4
def imOverflow (p : List Byte) : Nat := beAt p 20 2
def imClass (p : List Byte) (i : Nat) : Nat := beAt p (544 + 8 * i) 1
def imWeighted (p : List Byte) (i : Nat) : Bool := beAt p (545 + 8 * i) 1 / 128 = 1
def imStatic (p : List Byte) (i : Nat) : Nat := beAt p (546 + 8 * i) 1
def imStart (p : List Byte) (i : Nat) : Nat := beAt p (548 + 8 * i) 4

/-- An address of the code: a multiple of 4 below CODE_LEN. -/
def imCodeAddr (p : List Byte) (a : Nat) : Bool := a % 4 = 0 && a < imCodeLen p

/-- The fields of the header are in range. -/
def imHeader (p : List Byte) : Bool :=
  beAt p 0 4 = 0x4E494231 && beAt p 4 4 = 1 && imCodeLen p % 4 = 0 && 4 ≤ imCodeLen p && imCodeLen p ≤ 262144
    && imDataLen p ≤ 2097152 && imOverflow p ≤ 1024 && beAt p 22 1 ≤ 1 && 1152 + imCodeLen p + imDataLen p ≤ p.length

/-- Every code address lies within the code; ENTRY[0] is unused and 0xFFFFFFFF is absent. -/
def imAddresses (p : List Byte) : Bool :=
  imCodeAddr p (beAt p 24 4)
    && (List.range 127).all (fun k => beAt p (36 + 4 * k) 4 = 0xFFFFFFFF || imCodeAddr p (beAt p (36 + 4 * k) 4))
    && (List.range 64).all fun i => imCodeAddr p (imStart p i)

/-- The threads: classes and shares in range, slot 0 a weighted service thread, static shares of at most 512 in all. -/
def imThreads (p : List Byte) : Bool :=
  (List.range 64).all (fun i => imClass p i ≤ 3 && imStatic p i ≤ 8) && imClass p 0 = 3 && imWeighted p 0
    && ((List.range 64).map fun i => if imClass p i = 1 ∨ imClass p i = 2 then imStatic p i else 0).sum ≤ 512

/-- The slot table of a group: at most two weighted threads, each with an entry, and no entry without its thread. -/
def imGroup (p : List Byte) (g : Nat) : Bool :=
  let n := ((List.range 8).filter fun j => imWeighted p (8 * g + j)).length
  let w := beAt p (1056 + 4 * g) 4
  let es := (List.range 16).map fun k => w / 4 ^ k % 4
  n ≤ 2 && es.all (· ≤ n) && (n = 0 || es.contains 1) && (n ≤ 1 || es.contains 2)

/-- R245: the payload of an action image is well-formed. -/
def imOk (p : List Byte) : Bool :=
  imHeader p && imAddresses p && imThreads p && (List.range 8).all (imGroup p)

/-- What VERIFY answers (R244, R245). -/
def State.verifyAction (s : State) (bs : List Byte) : Nat :=
  let e := s.nv.checkImage 2 (4194304 - 8192) bs
  if e ≠ stOk then e else if imOk (envPayload bs) then stOk else stMalformed

/-! ### Install (R246) -/

/-- Bytes as a table, zeros not listed. -/
def byteMap (bs : List Byte) : Map Byte := (bs.mapIdx fun i b => (i, b)).filter fun e => e.2 ≠ 0

/-- Bytes as a table of big-endian words, zeros not listed. -/
def wordMap (n : Nat) (bs : List Byte) : Map (BitVec 32) :=
  ((List.range n).map fun i => (i, BitVec.ofNat 32 (beAt bs (4 * i) 4))).filter fun e => e.2 ≠ 0

/-- A thread slot of a unit whose image is installed: no staged words, no frame, scratch zero, its start by its class; the
registers keep their values (R236, R246). -/
def Thread.fresh (t : Thread) : Thread :=
  { t with staged := none, watch := 0, frame := none, frameExc := false, holds := false, poisoned := false, wantLock := false
           lookup := none, result := none, subs := [], deadSubs := [], scratch := [], timer := none, pend := 0, faults := []
           halted := none, skip := false, st := .running }

/-- A unit with an image installed (R246). -/
def Nib.install (x : Nib) (p : List Byte) (now : Nat) : Nib :=
  let n := imCodeLen p / 4
  let y := { x with
    image := some (slice p 0 1152)
    digest := (Config.sha384 p).toNat
    code := wordMap n (p.drop 1152) ++ x.code.filter fun e => n ≤ e.1
    shared := byteMap (slice p (1152 + imCodeLen p) (imDataLen p))
    overflow := if x.img 20 2 = imOverflow p then x.overflow else []
    lost := if x.img 20 2 = imOverflow p then x.lost else none
    threads := x.threads.map fun e => (e.1, e.2.fresh)
    chans := [], locks := [], waitD := [], waitE := [], staleFired := false }
  (List.range 64).foldl (fun a i =>
    let b := a.restart i now
    b.setTh i { b.th i with regs := (a.th i).regs }) y

/-- The carve-outs of a half (R359): 0 retirement reserve, 1 table spill, 2 QP contexts, 3 nib overflow, 4 write buffer,
5 namespace map. -/
def State.carve (s : State) (h : Half) (i : Nat) : Nat :=
  match h with
  | .k => s.mem.carveK.getD i 0
  | .q => s.mem.carveQ.getD i 0

/-- The shared overflow of the half's units with unit `u` at `mib` fits its carve-out (R246, R359). -/
def State.overflowFits (s : State) (u mib : Nat) : Bool :=
  let h := nibHalf u
  (((List.range 4).map fun i => if 4 * h.num + i = u then mib else (s.nib (4 * h.num + i)).img 20 2).sum) * 1048576 ≤ s.carve h 3

/-! ### The load (R250) -/

/-- The unit that a unit ID names among the NIB units (R250). -/
def nibOfId (v : Nat) : Option Nat := if v < 4 then some v else if 0x20 ≤ v ∧ v < 0x24 then some (v - 0x20 + 4) else none

def State.setNibLoad (s : State) (l : Load) : State := { s with mgmt := { s.mgmt with nibLoad := l } }

/-- The load is free, or of the session (R185, R250). -/
def Load.mine (l : Load) (ss : Session) : Bool := l.owner.isNone || l.owner = some ss

def nibLoadBusy (s : State) : Bool := s.mgmt.nibLoad.busy

/-- LOAD_DATA_WRITE (R250): a full buffer of 4 MiB refuses. -/
def execLoadDataWrite (w : Who) (data : List Byte) (s : State) : Out :=
  (s.write w 0xA700 2 data nibLoadBusy always fun a =>
    let l := a.mgmt.nibLoad
    if l.mine w.sess = false ∨ 4194304 < l.buf.length + data.length then none
    else some (a.setNibLoad { l with owner := some w.sess, buf := l.buf ++ data, verified := false })).out w

/-- LOAD_TARGET of a session. -/
def State.loadTarget (s : State) (ss : Session) : Nat := (nibOfId (s.sel ss (obj 0xA700 1) 0)).getD 0

/-- LOAD_BEGIN (R250). -/
def execLoadBegin (w : Who) (s : State) : Out :=
  (s.write w 0xA700 3 [1] nibLoadBusy always fun a =>
    if a.mgmt.nibLoad.mine w.sess then some (a.setNibLoad { owner := some w.sess, target := a.loadTarget w.sess }) else none).out w

/-- A load command of the session that owns the load. -/
def State.loadCmd (s : State) (w : Who) (v : Byte) (f : State → Load → Option State) : Out :=
  (s.write w 0xA700 3 [v] nibLoadBusy always fun a =>
    if a.mgmt.nibLoad.owner = some w.sess then f a a.mgmt.nibLoad else none).out w

/-- LOAD_VERIFY (R245). -/
def execLoadVerify (w : Who) (s : State) : Out :=
  s.loadCmd w 2 fun a l =>
    let st := a.verifyAction l.buf
    some (a.setNibLoad { l with status := st, verified := st = stOk })

/-- A unit may take an image: it is in SERVICE on a half that can be reached (R246, R431). -/
def State.installable (s : State) (u : Nat) : Bool := (s.unit (nibHalf u) (u % 4)).st = .service

/-- LOAD_INSTALL (R246, R250). -/
def execLoadInstall (w : Who) (s : State) : Out :=
  s.loadCmd w 3 fun a l =>
    if l.verified = false ∨ (a.cstl.split ∧ nibHalf l.target ≠ a.server w.sess) then none
    else if a.installable l.target = false then some (a.setNibLoad { l with status := stRange })
    else if a.overflowFits l.target (imOverflow (envPayload l.buf)) = false then some (a.setNibLoad { l with status := stQuota })
    else some (a.setNibLoad { l with busy := true, status := stOk })

/-- An install ends: the image is in the unit, and the load is released (R246, R250). -/
def State.installDone (s : State) : State :=
  let l := s.mgmt.nibLoad
  if l.busy = false then s
  else if s.installable l.target = false then s.setNibLoad { l with busy := false, status := stRange }
  else
    let u := l.target
    (s.setNib u ((s.nib u).install (envPayload l.buf) (s.time (nibHalf u)))).setNibLoad { target := u, status := stOk }

/-- LOAD_INSTALL_DONE (R246). -/
def execLoadInstallDone (s : State) : Out := .next s.installDone

/-- LOAD_CANCEL (R250). -/
def execLoadCancel (w : Who) (s : State) : Out :=
  s.loadCmd w 4 fun a l => some (a.setNibLoad { status := l.status })

/-! ### Thread debug (R248 to R250) -/

/-- The thread that DBG_SELECT names (R250). -/
def State.dbgThread (s : State) (ss : Session) : Nat × Nat :=
  let v := s.sel ss (obj 0xA720 1) 0
  ((nibOfId (v / 256)).getD 0, v % 64)

/-- A debug command on the selected thread: refused where the half cannot be reached, or `f` refuses (R248, R431). -/
def State.dbgCmd (s : State) (w : Who) (v : Byte) (f : State → Nat → Nat → Option State) : Out :=
  (s.write w 0xA720 2 [v] idle always fun a =>
    let t := a.dbgThread w.sess
    if a.cstl.split ∧ nibHalf t.1 ≠ a.server w.sess then none else f a t.1 t.2).out w

/-- DBG_HALT (R249): at once, at an instruction boundary. -/
def execDbgHalt (w : Who) (s : State) : Out :=
  s.dbgCmd w 1 fun a u i =>
    let t := a.th u i
    some (if t.halted.isSome then a else a.setTh u i { t with halted := some 1 })

/-- A thread that is no longer halted: its wait resumes, and it passes the breakpoint it stands at (R249, R241, R238). -/
def Nib.resume (x : Nib) (i : Nat) : Nib :=
  let y := (x.setTh i { x.th i with halted := none, skip := true }).wake i
  match y.heldLock i with
  | some (n, true) => if (y.th i).st = .waitLock then y.newHead n else y
  | _ => y

/-- DBG_RESUME (R249). -/
def execDbgResume (w : Who) (s : State) : Out :=
  s.dbgCmd w 2 fun a u i => some (if (a.th u i).halted.isSome then a.setNib u ((a.nib u).resume i) else a)

/-- One instruction of a thread that is not waiting (R217, R227, R242). -/
def State.stepThread (s : State) (u i : Nat) : State :=
  match (s.nib u).fetch (s.th u i).pc with
  | none => s.threadFault u i 1
  | some c =>
    match nibMeaning c with
    | none => s.threadFault u i 1
    | some f => s.nibDo u i f c

/-- DBG_STEP (R249): of a halted thread; one that waits or stalls has no instruction to execute, and stays so. -/
def execDbgStep (w : Who) (s : State) : Out :=
  s.dbgCmd w 3 fun a u i =>
    if (a.th u i).halted.isNone then none
    else
      let b := a.setNib u ((a.nib u).resume i)
      let c := if b.ready u i then b.stepThread u i else b
      some (c.setTh u i { c.th u i with halted := some ((c.th u i).halted.getD 4) })

/-- DBG_RESET (R249): as a fault, with THREAD_RESET and detail 0; the halt ends with the restart. -/
def execDbgReset (w : Who) (s : State) : Out :=
  s.dbgCmd w 4 fun a u i => some ((a.setTh u i { a.th u i with halted := none }).restartThread u i 0x11 0)

/-- DBG_ARM and DBG_DISARM (R249, R250). -/
def execDbgArm (w : Who) (s : State) : Out :=
  s.dbgCmd w 5 fun a u i => some (a.setTh u i { a.th u i with armed := true })

def execDbgDisarm (w : Who) (s : State) : Out :=
  s.dbgCmd w 6 fun a u i => some (a.setTh u i { a.th u i with armed := false })

end Sys2Proof.Machine
end

