-- ==== Sys2Proof/Machine/StorageOps.lean ====
section
/-! DEFINITION. Namespaces, the write buffer, the pool, the overlap tracker, and the storage class arbiter
(12 R309 to R333). -/

namespace Sys2Proof.Machine
open Sys2Proof

/-! ### Granules (R309, R311) -/

/-- Bytes of a logical block. -/
def Ns.lbaSize (n : Ns) : Nat := if n.lba4k then 4096 else 512

/-- Blocks of a granule of 16 KiB. -/
def Ns.per (n : Ns) : Nat := if n.lba4k then 4 else 32

/-- Blocks of a granule that lie in the namespace. -/
def Ns.span (n : Ns) (g : Nat) : Nat := Nat.min n.per (n.size - g * n.per)

/-- The bytes of a namespace. -/
def Ns.bytes (n : Ns) : Nat := n.size * n.lbaSize

/-- The latest content of a granule in the write buffer, itself none where it is unmapped (R330). -/
def Ns.latest (n : Ns) (g : Nat) : Option (Option (Map Nat)) := (mget n.buf g []).getLast?

/-- The latest content in the write buffer is data. -/
def Ns.holds (n : Ns) (g : Nat) : Bool :=
  match n.latest g with
  | some (some _) => true
  | _ => false

/-- A block as the media give it: a granule sealed under another key opens to something else (R252, R315). -/
def Ns.mediaBlock (n : Ns) (key : BitVec 512) (lba : Nat) : Nat :=
  match mfind n.keys (lba / n.per) with
  | some k => if k = key then mget n.media lba 0 else Config.xtsMix k key lba (mget n.media lba 0)
  | none => mget n.media lba 0

/-- A block: from the write buffer, else from the media; zero where it was never written (R311, R330). -/
def Ns.block (n : Ns) (key : BitVec 512) (lba : Nat) : Nat :=
  match n.latest (lba / n.per) with
  | some (some m) => mget m lba 0
  | some none => 0
  | none => n.mediaBlock key lba

/-- A granule cannot be read: its drive is lost and no later content is held, or its buffered data is lost (R312, R348). -/
def Ns.unreadable (n : Ns) (g : Nat) : Bool := n.bufLost.contains g || (n.lost.contains g && (n.latest g).isNone)

/-- The XTS key of a namespace, 0 where it has none: slot NSID − 1 of its home half (R315). -/
def State.xtsKey (s : State) (id : Nat) : BitVec 512 := mget (s.half (s.ns id).home).cipher.xts (id - 1) 0

/-- The first block of a range that cannot be read (R312). -/
def Ns.firstBad (n : Ns) (lba count : Nat) : Option Nat :=
  ((List.range count).map (lba + ·)).find? fun b => n.unreadable (b / n.per)

/-- The bytes of a range of blocks. -/
def State.blocks (s : State) (id lba count : Nat) : List Byte :=
  (List.range count).flatMap fun i => leBytes (s.ns id).lbaSize ((s.ns id).block (s.xtsKey id) (lba + i))

/-- The granules of a range. -/
def Ns.granules (n : Ns) (lba count : Nat) : List Nat :=
  (List.range ((lba + count - 1) / n.per - lba / n.per + 1)).map (lba / n.per + ·)

/-- The blocks of a granule that lie in a range. -/
def Ns.inRange (n : Ns) (g lba count : Nat) : List Nat :=
  ((List.range n.per).map (g * n.per + ·)).filter fun b => lba ≤ b && b < lba + count

/-- A range covers a whole granule. -/
def Ns.covers (n : Ns) (g lba count : Nat) : Bool := (n.inRange g lba count).length ≥ n.span g

/-! ### The pool (R310, R313) -/

/-- The half a drive is attached to. -/
def driveHalf (d : Nat) : Half := portHalf (d / 16)

def State.drive (s : State) (d : Nat) : Drive := mget s.storage.drives d {}

def State.setDrive (s : State) (d : Nat) (x : Drive) : State :=
  { s with storage := { s.storage with drives := mset s.storage.drives d x {} } }

/-- The granules of a namespace that are on a drive. -/
def Ns.onDrive (n : Ns) (d : Nat) : Nat := (n.place.filter fun e => e.2 = d && !n.lost.contains e.1).length

/-- The granules on a drive (R342). -/
def State.driveHeld (s : State) (d : Nat) : Nat := (s.storage.nss.map fun e => e.2.onDrive d).sum

/-- The free bytes of a drive. -/
def State.driveFree (s : State) (d : Nat) : Nat := (s.drive d).capacity - 16384 * s.driveHeld d

/-- The drives of a half's pool. -/
def State.poolDrives (s : State) (h : Half) : List Nat :=
  (List.range 64).filter fun d => driveHalf d = h && (s.drive d).st = .admitted

/-- The capacity of a half's pool (R310). -/
def State.poolCap (s : State) (h : Half) : Nat := ((s.poolDrives h).map fun d => (s.drive d).capacity).sum

/-- The bytes in use in a half's pool. -/
def State.poolUsed (s : State) (h : Half) : Nat := 16384 * ((s.poolDrives h).map s.driveHeld).sum

/-- The bytes of the namespaces homed on a half. -/
def State.nsBytes (s : State) (h : Half) : Nat := (s.storage.nss.map fun e => if e.2.home = h then e.2.bytes else 0).sum

/-- The pool drive with the most free space (R311). -/
def State.bestDrive (s : State) (h : Half) : Option Nat :=
  (s.poolDrives h).foldl (fun b d =>
    match b with
    | none => if 16384 ≤ s.driveFree d then some d else none
    | some e => if s.driveFree e < s.driveFree d then some d else some e) none

/-- A granule is on a drive that holds it still. -/
def Ns.mapped (n : Ns) (g : Nat) : Bool := (mfind n.place g).isSome && !n.lost.contains g

/-- Buffered granules of a half that need a place of their own. -/
def State.unplaced (s : State) (h : Half) : Nat :=
  (s.storage.nss.map fun e =>
    if e.2.home = h then (e.2.buf.filter fun b => e.2.holds b.1 && !e.2.mapped b.1).length else 0).sum

/-- The pool has a drive with room, and beyond what is in use the share a new granule may take: all but the 1 % held for
rewrites (R313). -/
def State.spare (s : State) (h : Half) (more : Nat) : Bool :=
  (s.bestDrive h).isSome && s.poolUsed h + 16384 * (more + 1) ≤ s.poolCap h - s.poolCap h / 100

/-- A granule's data can be taken from a write: it is held already, rewrites a mapped granule, or a place is left for it
(R313). -/
def State.roomFor (s : State) (id g : Nat) : Bool :=
  (s.ns id).holds g || (s.ns id).mapped g || s.spare (s.ns id).home (s.unplaced (s.ns id).home)

/-- A granule's latest content can be placed: an encrypted namespace has its key, and the pool has room (R313, R315). -/
def State.placeable (s : State) (id g : Nat) : Bool :=
  let n := s.ns id
  if n.holds g then
    (!n.encrypt || n.st = .ready) && (if n.mapped g then (s.bestDrive n.home).isSome else s.spare n.home 0)
  else true

/-- The entries of a table of blocks outside a granule. -/
def Ns.without (n : Ns) (g : Nat) : Map Nat := n.media.filter fun e => e.1 / n.per != g

/-- The latest content of a granule goes to media and its map entry moves, or goes; its buffered contents go (R311, R330). -/
def State.placeGranule (s : State) (id g : Nat) : State :=
  let n := s.ns id
  if s.placeable id g = false then s
  else
    match n.latest g with
    | none => s
    | some none =>
      s.setNs id { n with media := n.without g, place := merase n.place g, keys := merase n.keys g, lost := n.lost.erase g
                          buf := merase n.buf g }
    | some (some m) =>
      match s.bestDrive n.home with
      | none => s
      | some d =>
        s.setNs id { n with
          media := m.foldl (fun t e => mput t e.1 e.2) (n.without g), place := mput n.place g d, lost := n.lost.erase g
          keys := if n.encrypt then mput n.keys g (s.xtsKey id) else n.keys, buf := merase n.buf g }

/-- Granules placed in order. -/
def State.placeAll (s : State) (id : Nat) (gs : List Nat) : State := gs.foldl (fun a g => a.placeGranule id g) s

/-- Data of a namespace is pinned in the buffer (R313). -/
def State.pinned (s : State) (id : Nat) : Bool := (s.ns id).buf.any fun e => !s.placeable id e.1

/-- Free space below what the namespaces and the 3 % reserve need, in granules (R313). -/
def State.lacking (s : State) (h : Half) : Nat := (s.nsBytes h - s.poolCap h * 97 / 100 + 16383) / 16384

def State.poolShort (s : State) (h : Half) : Bool :=
  match h with
  | .k => s.storage.shortK
  | .q => s.storage.shortQ

def State.setPoolShort (s : State) (h : Half) (b : Bool) : State :=
  match h with
  | .k => { s with storage := { s.storage with shortK := b } }
  | .q => { s with storage := { s.storage with shortQ := b } }

/-- A pool may have become short, and logs POOL_SHORT, or ceases to be (R313). -/
def State.poolCheck (s : State) (h : Half) : State :=
  let n := s.lacking h
  if n = 0 then s.setPoolShort h false
  else if s.poolShort h then s
  else (s.setPoolShort h true).log 0x4004 2 (unitId h 10) 0 (h.num + 2 ^ 32 * n)

/-! ### The write buffer (R330) -/

/-- The bytes in use in a half's write buffer (R330, R338). -/
def State.wbufUse (s : State) (h : Half) : Nat :=
  16384 * (s.storage.nss.map fun e => if e.2.home = h then (e.2.buf.filter fun b => e.2.holds b.1).length else 0).sum

/-- The write buffer has room for the granules of a range (R325, R330). -/
def State.wbufRoom (s : State) (id lba count : Nat) : Bool :=
  let n := s.ns id
  s.wbufUse n.home + 16384 * ((n.granules lba count).filter fun g => !n.holds g).length ≤ s.carve n.home 4

/-- Lines of the write buffer that a granule is written whole over read POISONED no more (R348). -/
def State.unpoison (s : State) (id g : Nat) : State :=
  { s with mem := { s.mem with
      chans := mmap (fun _ c => { c with poisoned := c.poisoned.filter fun e => e.2 != (id, g) }) s.mem.chans } }

/-- A content of a granule enters the write buffer; buffered data that had been lost is replaced (R330, R348). -/
def State.bufferGranule (s : State) (id g : Nat) (v : Option (Map Nat)) : State :=
  let n := s.ns id
  (s.unpoison id g).setNs id { n with buf := mput n.buf g (mget n.buf g [] ++ [v]), bufLost := n.bufLost.erase g }

/-- The content of a granule with the blocks of a range replaced. -/
def State.merged (s : State) (id g lba count : Nat) (new : Nat → Nat) : Map Nat :=
  let n := s.ns id
  ((List.range (n.span g)).map (g * n.per + ·)).foldl (fun m b =>
    mset m b (if lba ≤ b ∧ b < lba + count then new b else n.block (s.xtsKey id) b) 0) []

/-! ### The effects of commands (R312, R313, R322, R331) -/

/-- What a command's work comes to: its status, BYTES and KIND_DATA (R334). -/
abbrev Done := Nat × Nat × Nat

/-- The first unreadable granule that a range does not cover whole: its first block in the range (R312). -/
def Ns.firstPartial (n : Ns) (gs : List Nat) (lba count : Nat) : Option Nat :=
  (gs.find? fun g => n.unreadable g && !n.covers g lba count).map fun g => Nat.max lba (g * n.per)

/-- READ: the bytes to be written to host memory, and the outcome (R312, R322). -/
def State.readBlocks (s : State) (id lba count : Nat) : List Byte × Done :=
  match (s.ns id).firstBad lba count with
  | some b => ([], (stMedia, 0, b))
  | none => (s.blocks id lba count, (stOk, count * (s.ns id).lbaSize, 0))

/-- COMPARE (R322, R334). -/
def State.compareBlocks (s : State) (id lba count : Nat) (data : List Byte) : Done :=
  match (s.ns id).firstBad lba count with
  | some b => (stMedia, 0, b)
  | none =>
    let have_ := s.blocks id lba count
    match (List.range have_.length).find? fun i => have_.getD i 0 != data.getD i 0 with
    | some i => (stMismatch, have_.length, i)
    | none => (stOk, have_.length, 0)

/-- The granules of a WRITE are taken in order, up to one that has no place (R313, R332). -/
def State.writeGranules (s : State) (id lba count : Nat) (new : Nat → Nat) (gs : List Nat) : State × Bool :=
  match gs with
  | [] => (s, true)
  | g :: rest =>
    if s.roomFor id g then (s.bufferGranule id g (some (s.merged id g lba count new))).writeGranules id lba count new rest
    else (s, false)

/-- The granules are on media at once: QUOTA where one stays pinned (R313, R331). -/
def State.durable (s : State) (id : Nat) (gs : List Nat) (bytes : Nat) : State × Done :=
  let s1 := s.placeAll id gs
  if gs.any fun g => ((s1.ns id).latest g).isSome then (s1, (stQuota, 0, 0)) else (s1, (stOk, bytes, 0))

/-- WRITE of `data` (R312, R313, R322, R330, R331). -/
def State.writeBlocks (s : State) (id lba count : Nat) (fua : Bool) (data : List Byte) : State × Done :=
  let n := s.ns id
  let gs := n.granules lba count
  match n.firstPartial gs lba count with
  | some b => (s, (stMedia, 0, b))
  | none =>
    if fua ∧ s.pinned id then (s, (stQuota, 0, 0))
    else
      let new := fun b => leAt data ((b - lba) * n.lbaSize) n.lbaSize
      match s.writeGranules id lba count new gs with
      | (s1, false) => (s1, (stQuota, 0, 0))
      | (s1, true) => if fua then s1.durable id gs data.length else (s1, (stOk, data.length, 0))

/-- The granules of a range that are mapped, buffered or unreadable. -/
def Ns.known (n : Ns) (lba count : Nat) : List Nat :=
  let all := (n.place.map Prod.fst) ++ (n.buf.map Prod.fst) ++ n.lost ++ n.bufLost
  all.eraseDups.filter fun g => lba / n.per ≤ g && g ≤ (lba + count - 1) / n.per

/-- A granule of DEALLOCATE or WRITE_ZEROES: unmapped where the range covers it, else its blocks of the range become zero
(R322). -/
def State.zeroGranule (s : State) (id lba count g : Nat) : State :=
  let n := s.ns id
  if n.covers g lba count then s.bufferGranule id g none
  else if n.holds g ∨ (n.mapped g ∧ (n.latest g).isNone) then
    s.bufferGranule id g (some (s.merged id g lba count fun _ => 0))
  else s

/-- DEALLOCATE and WRITE_ZEROES (R312, R313, R322, R331). -/
def State.zeroBlocks (s : State) (id lba count : Nat) (fua : Bool) : State × Done :=
  let n := s.ns id
  let gs := n.known lba count
  match n.firstPartial gs lba count with
  | some b => (s, (stMedia, 0, b))
  | none =>
    if fua ∧ s.pinned id then (s, (stQuota, 0, 0))
    else
      let s1 := gs.foldl (fun a g => a.zeroGranule id lba count g) s
      if fua then s1.durable id gs 0 else (s1, (stOk, 0, 0))

/-- FLUSH: what is buffered goes to media, or QUOTA while data is pinned (R313, R331). -/
def State.flushNs (s : State) (id : Nat) : State × Done :=
  if s.pinned id then (s, (stQuota, 0, 0)) else s.durable id ((s.ns id).buf.map Prod.fst) 0

/-! ### Admission of a command (R314, R323, R324) -/

/-- A half serves requests of another: it runs, and the halves are joined or it is the same (R314, R431). -/
def State.canReach (s : State) (frm onto : Half) : Bool := (s.half onto).stopped = false && (frm = onto || !s.cstl.split)

/-- An I/O opcode, an admin opcode (R322). -/
def ioOp (op : Nat) : Bool := 1 ≤ op && op ≤ 6
def adminOp (op : Nat) : Bool := 0x80 ≤ op && op ≤ 0x8A

/-- A command moves data of NLB blocks. -/
def moves (op : Nat) : Bool := op = 1 || op = 2 || op = 6

/-- An NSID outside 1 to 4,096 (R324). -/
def badNsid (n : Nat) : Bool := n = 0 || 4096 < n

/-- The command is malformed, so far as the 64 bytes say (R323, R324). -/
def State.scMalformed (s : State) (k : Nat) (c : BitVec 512) : Bool :=
  let op := scOp c
  let bytes := scNlb c * (s.ns (scNsid c)).lbaSize
  if s.stqAdmin k then !adminOp op || ((op ≤ 0x84) && badNsid (scNsid c))
  else
    !ioOp op || badNsid (scNsid c)
      || (moves op && (mfind s.storage.nss (scNsid c)).isSome
            && (2097152 < bytes || (if scList c then scDlen c = 0 || 256 < scDlen c else scDlen c != bytes)))

/-- The slice may not use the namespace: it does not exist, is not attached, or is being detached since before the command
arrived (R324, R339). -/
def State.scDenied (s : State) (k : Nat) (c : SCmd) : Bool :=
  let id := scNsid c.cmd
  let sl := (s.stq k).slice
  match mfind s.storage.nss id with
  | none => true
  | some n => !n.attached.contains sl || s.storage.detachWait.any fun d => d.1 = id && d.2.1 = sl && d.2.2.1 ≤ c.arrival

/-- The status of a command that ends before it starts; none where it may start (R314, R324). -/
def State.cmdFault (s : State) (k : Nat) (c : SCmd) : Option Nat :=
  if s.scMalformed k c.cmd then some stMalformed
  else if s.stqAdmin k then none
  else if s.scDenied k c then some stAccess
  else
    let n := s.ns (scNsid c.cmd)
    if s.canReach (stqHalf k) n.home = false then some stOtherHalf
    else if scOp c.cmd ≠ 3 ∧ (scNlb c.cmd = 0 ∨ n.size < scSlba c.cmd + scNlb c.cmd) then some stRange
    else none

/-! ### Overlap (R328, R329) -/

/-- A command with a range of blocks. -/
def ranged (c : BitVec 512) : Bool := ioOp (scOp c) && scOp c != 3

/-- The ranges of two commands of one namespace overlap. -/
def overlaps (a b : BitVec 512) : Bool :=
  ranged a && ranged b && scNsid a = scNsid b && scSlba a < scSlba b + scNlb b && scSlba b < scSlba a + scNlb a

/-- A command waits for an earlier one (R328, R329). -/
def waitsFor (c d : SCmd) : Bool :=
  d.arrival < c.arrival &&
    (overlaps c.cmd d.cmd ||
      (scOp c.cmd = 3 && scNsid c.cmd = scNsid d.cmd && (scOp d.cmd = 2 || scOp d.cmd = 4 || scOp d.cmd = 5)))

/-- A command has an overlap wait left. -/
def State.scWaits (s : State) (c : SCmd) : Bool :=
  s.storage.stqs.any fun e => !s.stqAdmin e.1 && e.2.cmds.any fun d => waitsFor c d

/-! ### Start (R325, R326) -/

/-- The oldest unstarted command of a queue. -/
def Stq.next (x : Stq) : Option SCmd := x.cmds.find? fun c => !c.started

/-- A queue may start commands (R83, R111, R335). -/
def State.stqRuns (s : State) (k : Nat) : Bool :=
  let x := s.stq k
  x.st = .running && !x.frozen && s.sliceOn x.slice && s.mastering x.fn && s.forwards (stqHalf k)

/-- A command has room, as a WRITE needs it. -/
def State.scRoom (s : State) (c : SCmd) : Bool :=
  scOp c.cmd != 2 || s.wbufRoom (scNsid c.cmd) (scSlba c.cmd) (scNlb c.cmd)

/-- All that R325 asks of a command but the room and the slot. -/
def State.scBut (s : State) (k : Nat) (c : SCmd) : Bool :=
  s.stqRuns k && (s.cmdFault k c).isNone && !s.scWaits c && (s.ns (scNsid c.cmd)).st = .ready
    && s.forwards (s.ns (scNsid c.cmd)).home

/-- The oldest unstarted command of a queue is eligible (R325). -/
def State.eligible (s : State) (k : Nat) (c : SCmd) : Bool :=
  s.scBut k c && s.scRoom c && s.slotFor (s.stqCq k) (stqBase + k)

/-- A command replaced in its queue. -/
def State.setScmd (s : State) (k : Nat) (c : SCmd) : State :=
  let x := s.stq k
  s.setStq k { x with cmds := x.cmds.map fun d => if d.seq = c.seq then c else d }

/-- What a command that is not yet eligible waits for is noted: room is counted once in WBUF_WAITS, and a slot is waited for
in order (R108, R330, R343). -/
def State.noteWait (s : State) (k : Nat) (c : SCmd) : State :=
  if s.scBut k c then
    if s.scRoom c = false then
      if c.waited then s else (s.setScmd k { c with waited := true }).countStorage (s.ns (scNsid c.cmd)).home 10 1
    else if s.slotFor (s.stqCq k) (stqBase + k) then s
    else s.waitSlot (s.stqCq k) (stqBase + k)
  else s

/-- The class of a queue's commands: URGENT acts as HIGH without URGENT_PERMIT (R326). -/
def State.classOf (s : State) (k : Nat) : Nat :=
  let x := s.stq k
  if x.cls = 0 ∧ ¬ (x.slice < 4096 ∧ s.param (stqHalf k) 0xA400 0x0A x.slice 0 = 1) then 1 else x.cls

/-- A queue's place in a decision: its key, class and slice. -/
structure Ready where
  key   : Nat
  cls   : Nat
  slice : Nat
  cmd   : SCmd

/-- The queues with an eligible command whose namespace is homed on a half (R326). -/
def State.readyOn (s : State) (h : Half) : List Ready :=
  s.storage.stqs.filterMap fun e =>
    match e.2.next with
    | some c =>
      if !s.stqAdmin e.1 && !c.granted && s.eligible e.1 c && (s.ns (scNsid c.cmd)).home = h then
        some { key := e.1, cls := s.classOf e.1, slice := e.2.slice, cmd := c }
      else none
    | none => none

/-- The least member above `cur`, or the least of all. -/
def nextOf (cur : Option Nat) (items : List Nat) : Nat :=
  let least := fun (l : List Nat) => l.foldl (fun b x => match b with | none => some x | some y => some (Nat.min x y)) none
  match cur with
  | none => (least items).getD 0
  | some c =>
    match least (items.filter (c < ·)) with
    | some x => x
    | none => (least items).getD 0

/-- A turn of a weighted round robin, kept as (member + 1) × 65,536 + grants left: the present member goes on while it has
grants left, else the next one begins (R326). -/
def wrrTurn (turn : Nat) (items : List Nat) (weight : Nat → Nat) : Nat × Nat :=
  let cur := turn / 65536
  if cur ≠ 0 ∧ items.contains (cur - 1) ∧ 0 < turn % 65536 then (cur - 1, turn - 1)
  else
    let x := nextOf (if cur = 0 then none else some (cur - 1)) items
    (x, (x + 1) * 65536 + (Nat.max (weight x) 1 - 1))

/-- The weight of a class (R342) and of a slice (R73); 1 outside slices. -/
def State.classWeight (s : State) (h : Half) (c : Nat) : Nat := s.param h 0xA400 (4 + c) 0 (if c = 1 then 8 else if c = 2 then 4 else 1)

def State.stqWeight (s : State) (sl : Nat) : Nat := if sl < 4096 then recWeight (s.slice sl).record else 1

/-- The decision of the storage class arbiter of a half: the queue whose command it grants, and the turns after it (R326). -/
def State.classDecide (s : State) (h : Half) : Option (Ready × State) :=
  let ready := s.readyOn h
  if ready.isEmpty then none
  else
    let st := s.storage
    let ct := wrrTurn (mget st.clsTurn h.num 0) (ready.map (·.cls)) (s.classWeight h)
    let urgent := ready.any (·.cls = 0)
    let cls := if urgent then 0 else ct.1
    let inCls := ready.filter (·.cls = cls)
    let stn := wrrTurn (mget st.sliceTurn (h.num * 4 + cls) 0) (inCls.map (·.slice)) s.stqWeight
    let inSl := inCls.filter (·.slice = stn.1)
    let q := nextOf (mfind st.queueTurn stn.1) (inSl.map (·.key))
    match inSl.find? (·.key = q) with
    | none => none
    | some r =>
      some (r, { s with storage := { st with
        clsTurn := if urgent then st.clsTurn else mput st.clsTurn h.num ct.2
        sliceTurn := mput st.sliceTurn (h.num * 4 + cls) stn.2
        queueTurn := mput st.queueTurn stn.1 q } })

/-- What the arbiter counts for a slice in a decision: a grant with its wait, or the first decision its request lost
(R141). -/
def State.classCount (s : State) (h : Half) (granted : Nat) (r : Ready) : State :=
  let k := 6 * 256 + h.num
  let a := mget s.arbs k {}
  let x := mget a.reqs r.slice {}
  let y :=
    if r.key = granted then
      { x with waiting := false, grants := x.grants + 1, longest := Nat.max x.longest (Nat.min (s.time h - r.cmd.since) 4294967295) }
    else if x.waiting then x
    else { x with waiting := true, waits := x.waits + 1 }
  { s with arbs := mset s.arbs k { a with reqs := mset a.reqs r.slice y {} } {} }

/-- A decision: waits are noted, the counters kept, and the command that is granted marked (R137, R141, R326). -/
def State.classGrant (s : State) (h : Half) : State :=
  let s0 := s.storage.stqs.foldl (fun a e => match e.2.next with
    | some c => if a.stqAdmin e.1 || c.granted then a else a.noteWait e.1 c
    | none => a) s
  match s0.classDecide h with
  | none => s0
  | some (r, s1) => ((s0.readyOn h).foldl (fun a x => a.classCount h r.key x) s1).setScmd r.key { r.cmd with granted := true }

end Sys2Proof.Machine
end

