-- ==== Sys2Proof/Machine/Storage.lean ====
section
/-! DEFINITION. Storage queues and I/O commands (12 R316 to R337). -/

namespace Sys2Proof.Machine
open Sys2Proof

/-! ### Queue frames (R316 to R319) -/

/-- The key of a storage queue reached through a function: frame 0 of PF2 is its admin queue (R316). -/
def stqKey (q : QRef) (h : Half) (e sl : Nat) : Nat :=
  if sl = 4096 ∧ e = 0 then adminKey q.fn.port.val else h.num * 4096 + e

/-- A frame of PF2 that is neither its frame 0 nor a slice's (R316). -/
def unassigned (e sl : Nat) : Bool := sl = 4096 && e != 0

/-- The effect of a write on a storage queue through its frame: an unassigned frame ignores it and counts it (R316). -/
def State.onStq (s : State) (q : QRef) (f : Nat → Nat → State → State) : State :=
  s.onFrame q 2 fun h e sl a =>
    let k := stqKey q h e sl
    if unassigned e sl then a.setStq k { a.stq k with taskIgnored := sat31 (a.stq k).taskIgnored }
    else f k sl a

/-- A task register whose TASK_FREE bit is 0. -/
def Stq.taken (x : Stq) (t : Nat) : Bool := x.committed.contains t

/-- The write of a task register whose dword 15 has VALID set, or clear (R319). -/
def State.taskCommit (s : State) (k t : Nat) (cmd : BitVec 512) : State :=
  let x := s.stq k
  if x.st ≠ .running ∨ x.frozen ∨ s.sliceOn x.slice = false ∨ x.taken t then
    s.setStq k { x with taskIgnored := sat31 x.taskIgnored }
  else
    s.setStq k { x with tasks := mset x.tasks t cmd 0, committed := if bit cmd 511 then x.committed ++ [t] else x.committed }

/-- STQ_TASK_COMMIT (R319). -/
def execStqTaskCommit (q : QRef) (task : Fin 16) (cmd : BitVec 512) (s : State) : Out :=
  .next (s.onStq q fun k _ a => a.taskCommit k task.val cmd)

/-- The first committed task is accepted: it takes the next commit sequence and arrives at the overlap tracker, and the task
is free (R320). -/
def State.cmdAccept (s : State) (k : Nat) : State :=
  let x := s.stq k
  match x.committed with
  | [] => s
  | t :: rest =>
    if x.st = .running ∧ s.forwards (stqHalf k) ∧ x.cmds.length < 256 then
      let c : SCmd := { seq := x.nextSeq, cmd := mget x.tasks t 0, arrival := s.storage.arrivals, since := s.time (stqHalf k) }
      let s1 := s.setStq k { x with
        tasks := merase x.tasks t, committed := rest, nextSeq := x.nextSeq + 1, cmds := x.cmds ++ [c], head := x.nextSeq + 1
        freed := x.freed ||| BitVec.ofNat 16 (2 ^ t) }
      let s2 := { s1 with storage := { s1.storage with arrivals := s1.storage.arrivals + 1 } }
      if s.stqAdmin k = false ∧ (s.storage.stqs.any fun e => !s.stqAdmin e.1 && e.2.cmds.any fun d => overlaps c.cmd d.cmd) then
        s2.countStorage (s.cmdHalf k c.cmd) 6 1
      else s2
    else s

/-- STQ_CMD_ACCEPT (R320). -/
def execStqCmdAccept (stq : Nat) (s : State) : Out := .next (s.cmdAccept stq)

/-- ENABLE changes from 0 to 1 (R111, R318). -/
def State.stqEnable (s : State) (h : Half) (k sl fk : Nat) : State :=
  let x := s.stq k
  if x.st ≠ .disabled then s
  else if s.cqOk h 1 sl x.cq.toNat = false then s.setStq k { x with cfgErr := true }
  else s.setStq k { x with st := .running, cfgErr := false, nextSeq := x.head, lastDone := none, fn := fk, slice := sl }

/-- STQ_ENABLE (R318). -/
def execStqEnable (q : QRef) (s : State) : Out :=
  .next (s.onStq q fun k sl a => a.stqEnable (stqHalf k) k sl (a.frameFn q sl))

/-- ENABLE is cleared: committed and unstarted commands are discarded, and the started ones run to their end (R111, R318,
R328). -/
def State.stqDisable (s : State) (k : Nat) : State :=
  if (s.stq k).st = .running then
    let c := s.cq (s.stqCq k)
    let s1 := s.setCq (s.stqCq k) { c with waitq := c.waitq.erase (stqBase + k) }
    ((s1.setStq k { (s1.stq k).discard with st := .draining }).stDrained k).tryDetach
  else s

/-- STQ_DISABLE (R111, R318). -/
def execStqDisable (q : QRef) (s : State) : Out := .next (s.onStq q fun k _ a => a.stqDisable k)

/-- STQ_TASK_IGNORED_READ (R9, R317). -/
def execStqTaskIgnoredRead (q : QRef) (s : State) : Out :=
  .next (s.access (fkey q.fn) fun a =>
    match a.frame q.fn 2 q.frame with
    | .hit h e sl =>
      let k := stqKey q h e sl
      (a.setStq k { a.stq k with taskIgnored := 0 }).emit (.read (a.stq k).taskIgnored)
    | _ => a.emit (.read 0))

/-- STQ_MALFORMED_READ (R9, R317). -/
def execStqMalformedRead (q : QRef) (s : State) : Out :=
  .next (s.access (fkey q.fn) fun a =>
    match a.frame q.fn 2 q.frame with
    | .hit h e sl =>
      let k := stqKey q h e sl
      (a.setStq k { a.stq k with malformed := 0 }).emit (.read (a.stq k).malformed)
    | _ => a.emit (.read 0))

/-! ### The start of an I/O command (R325, R326) -/

/-- A command starts: it takes its slot (R108, R325). -/
def State.startScmd (s : State) (k : Nat) (c : SCmd) : State :=
  (s.takeSlot (s.stqCq k) (stqBase + k)).setScmd k { c with started := true, granted := true }

/-- The command has been granted, or the decision that is now made grants it (R325, R326). -/
def State.grantNow (s : State) (k : Nat) (c : SCmd) : Option State :=
  if c.granted then some s
  else
    match s.classDecide (s.ns (scNsid c.cmd)).home with
    | some (r, _) => if r.key = k then some (s.classGrant (s.ns (scNsid c.cmd)).home) else none
    | none => none

/-- The oldest unstarted command of an I/O queue starts, if it has the opcode, is eligible, and is granted; else what it waits
for is noted (R325). -/
def State.startIo (s : State) (k op : Nat) (go : SCmd → State → State) : State :=
  match (s.stq k).next with
  | none => s
  | some c =>
    if s.stqAdmin k ∨ scOp c.cmd ≠ op then s
    else if s.eligible k c then
      match s.grantNow k c with
      | some a => go c (a.startScmd k c)
      | none => s
    else s.noteWait k c

/-- The outcome of a started command's work (R334, R341). -/
def State.outcome (s : State) (k : Nat) (seq : BitVec 16) (d : Done) : State :=
  let x := s.stq k
  s.setStq k { x with cmds := x.cmds.map fun c =>
    if c.seq = seq then { c with outcome := some (BitVec.ofNat 8 d.1, d.2.1, d.2.2) } else c }

/-- A started command waits for the host's data (R54). -/
def State.awaitData (s : State) (k : Nat) (c : SCmd) : State :=
  (s.issueRead (s.stq k).fn (s.stq k).slice 3 k c.seq).getD s

/-- STORAGE_READ (R312, R322). -/
def State.storageRead (s : State) (k : Nat) : State :=
  s.startIo k 1 fun c a =>
    let id := scNsid c.cmd
    let h := (a.ns id).home
    let (data, d) := a.readBlocks id (scSlba c.cmd) (scNlb c.cmd)
    let a1 := if d.1 = stOk then (a.countStorage h 1 1).countStorage h 3 data.length else a
    (if data.isEmpty then a1 else a1.emit (.dma (stqBase + k) data)).outcome k c.seq d

def execStorageRead (stq : Nat) (s : State) : Out := .next (s.storageRead stq)

/-- The bytes that a WRITE or COMPARE moves. -/
def State.scBytes (s : State) (c : SCmd) : Nat := scNlb c.cmd * (s.ns (scNsid c.cmd)).lbaSize

/-- The data of a started WRITE or COMPARE is at hand: a piece list of another length makes the command malformed, a half that
has been cut off ends it OTHER_HALF, and else the command's work is done (R312, R322, R323, R330, R431). -/
def State.dataWork (s : State) (k : Nat) (c : SCmd) (data : List Byte) : State :=
  let id := scNsid c.cmd
  let h := (s.ns id).home
  let n := s.scBytes c
  if scList c.cmd ∧ data.length ≠ n then s.outcome k c.seq (stMalformed, 0, 0)
  else if s.canReach (stqHalf k) h = false then s.outcome k c.seq (stOtherHalf, 0, 0)
  else if scOp c.cmd = 6 then s.outcome k c.seq (s.compareBlocks id (scSlba c.cmd) (scNlb c.cmd) (fit n data))
  else
    let (a, d) := s.writeBlocks id (scSlba c.cmd) (scNlb c.cmd) (scFua c.cmd) (fit n data)
    let a1 := if d.1 = stOk then (a.countStorage h 2 1).countStorage h 4 n else a
    (a1.outcome k c.seq d).poolCheck h

/-- The data of a started command has arrived under its tag. -/
def State.storageData (s : State) (k : Nat) (seq : BitVec 16) (data : List Byte) : State :=
  match (s.stq k).cmds.find? fun c => c.seq = seq && c.started && c.outcome.isNone with
  | some c => s.dataWork k c data
  | none => s

/-- A WRITE or COMPARE starts, with its data at hand or asked for; a request waits for a free tag (R53, R54). -/
def State.storageMove (s : State) (k op : Nat) (data : Option (List Byte)) : State :=
  if data.isNone ∧ (s.freeTag (s.stq k).fn).isNone then s
  else
    s.startIo k op fun c a =>
      match data with
      | some bs => a.dataWork k c bs
      | none => a.awaitData k c

/-- STORAGE_WRITE (R322, R330, R331). -/
def execStorageWrite (stq : Nat) (data : Option (List Byte)) (s : State) : Out := .next (s.storageMove stq 2 data)

/-- STORAGE_COMPARE (R322, R334). -/
def execStorageCompare (stq : Nat) (data : Option (List Byte)) (s : State) : Out := .next (s.storageMove stq 6 data)

/-- STORAGE_FLUSH (R331). -/
def State.storageFlush (s : State) (k : Nat) : State :=
  s.startIo k 3 fun c a =>
    let h := (a.ns (scNsid c.cmd)).home
    let (b, d) := a.flushNs (scNsid c.cmd)
    let b1 := if d.1 = stOk then b.countStorage h 5 1 else b
    (b1.outcome k c.seq d).poolCheck h

def execStorageFlush (stq : Nat) (s : State) : Out := .next (s.storageFlush stq)

/-- DEALLOCATE and WRITE_ZEROES, FUA being of WRITE_ZEROES alone (R321, R322). -/
def State.storageZero (s : State) (k op : Nat) : State :=
  s.startIo k op fun c a =>
    let (b, d) := a.zeroBlocks (scNsid c.cmd) (scSlba c.cmd) (scNlb c.cmd) (op = 5 && scFua c.cmd)
    b.outcome k c.seq d

/-- STORAGE_DEALLOCATE (R322). -/
def execStorageDeallocate (stq : Nat) (s : State) : Out := .next (s.storageZero stq 4)

/-- STORAGE_WRITE_ZEROES (R322). -/
def execStorageWriteZeroes (stq : Nat) (s : State) : Out := .next (s.storageZero stq 5)

/-! ### The end of a command (R334, R106) -/

/-- After a storage completion: detaches may end, and the slice may have no work left (R83, R339). -/
def State.afterStorage (s : State) (k : Nat) : State :=
  let s1 := s.tryDetach
  if (s.stq k).slice < 4096 then s1.settle (s.stq k).slice else s1

/-- The completion of a started command whose work is done, or of the oldest unstarted one that is refused before it starts:
that one takes its slot now (R106, R324, R334). -/
def State.cmdComplete (s : State) (k seq : Nat) (canWrite : Bool) : State :=
  match (s.stq k).cmds.find? fun c => c.seq.toNat = seq with
  | none => s
  | some c =>
    if c.started then
      match c.outcome with
      | some (st, bytes, data) => (s.stFinish k c st.toNat bytes data true canWrite).afterStorage k
      | none => s
    else if ((s.stq k).next.map (·.seq)) = some c.seq ∧ s.stqRuns k then
      match s.cmdFault k c with
      | none => s
      | some st =>
        if s.slotFor (s.stqCq k) (stqBase + k) then
          ((s.startScmd k c).stFinish k { c with started := true } st 0 0 true canWrite).afterStorage k
        else s.waitSlot (s.stqCq k) (stqBase + k)
    else s

/-- STORAGE_CMD_COMPLETE (R334). -/
def execStorageCmdComplete (stq seq : Nat) (canWrite : Bool) (s : State) : Out := .next (s.cmdComplete stq seq canWrite)

/-! ### Waits that end (R315, R336) -/

/-- FREEZE_WAIT_MS of a half, ns. -/
def State.freezeWait (s : State) (h : Half) : Nat := s.param h 0xA400 8 0 100 * 1000000

/-- The time of the freeze that a command waits on: it waits for an unstarted command of another queue that is frozen (R336). -/
def State.frozenFor (s : State) (k : Nat) (c : SCmd) : Option Nat :=
  match s.storage.stqs.find? fun e =>
      e.1 != k && e.2.frozen && e.2.cmds.any fun d => !d.started && d.arrival < c.arrival && overlaps c.cmd d.cmd with
  | some e => some e.2.frozenAt
  | none => none

/-- FREEZE_WAIT_EXPIRY (R336). -/
def State.freezeExpiry (s : State) (k seq : Nat) : State :=
  match (s.stq k).cmds.find? fun c => c.seq.toNat = seq && !c.started with
  | none => s
  | some c =>
    match s.frozenFor k c with
    | none => s
    | some t =>
      let s1 := s.until (stqHalf k) (Nat.max t c.since + s.freezeWait (stqHalf k))
      (s1.stFinish k c stFrozen 0 0 false true).afterStorage k

def execFreezeWaitExpiry (stq seq : Nat) (s : State) : Out := .next (s.freezeExpiry stq seq)

/-- LOCKED_WAIT_EXPIRY (R315). -/
def State.lockedExpiry (s : State) (k seq : Nat) : State :=
  match (s.stq k).cmds.find? fun c => c.seq.toNat = seq && !c.started with
  | none => s
  | some c =>
    let n := s.ns (scNsid c.cmd)
    if s.stqAdmin k = false ∧ (s.cmdFault k c).isNone ∧ n.st = .locked then
      let s1 := s.until (stqHalf k) (Nat.max n.lockedAt c.since + s.freezeWait (stqHalf k))
      (s1.stFinish k c stAccess 0 0 false true).afterStorage k
    else s

def execLockedWaitExpiry (stq seq : Nat) (s : State) : Out := .next (s.lockedExpiry stq seq)

/-! ### Drives and media (R310 to R313, R330, R333) -/

/-- WRITE_BUFFER_PLACE (R311, R313, R330). -/
def State.bufferPlace (s : State) (id g : Nat) : State :=
  let n := s.ns id
  if (n.latest g).isSome ∧ (s.half n.home).stopped = false then (s.placeGranule id g).poolCheck n.home else s

def execWriteBufferPlace (nsid granule : Nat) (s : State) : Out := .next (s.bufferPlace nsid granule)

/-- Granules of a drive become unreadable; data in the buffer for them stays, to be placed elsewhere (R312). -/
def Ns.loseDrive (n : Ns) (d : Nat) : Ns :=
  { n with lost := n.lost ++ (n.place.filter fun e => e.2 = d && !n.lost.contains e.1).map Prod.fst }

/-- DRIVE_SURPRISE_REMOVAL (R67, R312, R313). -/
def State.driveLoss (s : State) (d : Nat) : State :=
  let x := s.drive d
  let h := driveHalf d
  if x.st = .absent then s
  else if x.st = .admitted ∨ x.st = .retiring then
    let s1 := s.setDrive d { x with st := .failed }
    let s2 := { s1 with storage := { s1.storage with nss := mmap (fun _ (n : Ns) => n.loseDrive d) s1.storage.nss } }
    (s2.log 0x4003 2 (unitId h 10) 0 d).poolCheck h
  else s.setDrive d {}

def execDriveSurpriseRemoval (d : Fin 64) (s : State) : Out := .next (s.driveLoss d.val)

/-- A drive below a root port that trains reads present, and one that had failed is to be admitted again (R66, R67). -/
def State.drivePresent (s : State) (p : Fin 4) (x : DriveId) : State :=
  let d := p.val * 16 + x.slot.val
  if (s.drive d).st = .admitted ∨ (s.drive d).st = .retiring then s
  else s.setDrive d { st := .present, capacity := x.capacity, lba4k := x.lba4k, serial := x.serial }

/-- ROOT_PORT_LINK_UP (R66). -/
def execRootPortLinkUp (p : Fin 4) (drives : List DriveId) (s : State) : Out :=
  .next (if s.running ∧ (s.port p.val).root ∧ s.powered (portHalf p.val) (11 + p.val % 2) then
    drives.foldl (fun a x => a.drivePresent p x) (s.setPort p.val { s.port p.val with up := true })
  else s)

/-- DRIVE_SELECT of a session. -/
def State.driveSel (s : State) (ss : Session) : Nat := s.sel ss (obj 0xA400 0x0B) 0

/-- The bytes of the namespace map that drives of a capacity need: 512 MiB for each TiB (R311, R359). -/
def mapBytes (cap : Nat) : Nat := (cap + 2047) / 2048

/-- The DRAM of a half that no carve-out has taken, and that its namespace map may take (R359, R360). -/
def State.mapRoom (s : State) (h : Half) : Nat :=
  let dram := ((List.range 4).map fun i =>
    let c := s.dram (4 * h.num + i)
    if c.st = .running ∨ c.st = .changing then c.dimms * c.gib * 1073741824 else 0).sum
  dram - ((List.range 5).map (s.carve h)).sum

/-- The size of a half's namespace map set in its carve-out (R359). -/
def State.setMapCarve (s : State) (h : Half) : State :=
  let v := mapBytes (s.poolCap h)
  match h with
  | .k => { s with mem := { s.mem with carveK := s.mem.carveK.set 5 v } }
  | .q => { s with mem := { s.mem with carveQ := s.mem.carveQ.set 5 v } }

/-- DRIVE_ADMIT (R67, R310, R342, R360). -/
def execDriveAdmit (w : Who) (s : State) : Out :=
  (s.write w 0xA400 0x0D [1] idle (fun a => a.driveSel w.sess < 64) fun a =>
    let d := a.driveSel w.sess
    let h := driveHalf d
    if (a.drive d).st ≠ .present ∨ a.canReach (a.server w.sess) h = false then none
    else if a.mapRoom h < mapBytes (a.poolCap h + (a.drive d).capacity) then none
    else some (((a.setDrive d { a.drive d with st := .admitted }).setMapCarve h).poolCheck h)).out w

/-- The pool without a drive has room for what is in use and waits (R342). -/
def State.retireFits (s : State) (d : Nat) : Bool :=
  let h := driveHalf d
  s.poolUsed h + 16384 * s.unplaced h ≤ (s.poolCap h - (s.drive d).capacity) * 99 / 100
    && s.nsBytes h ≤ (s.poolCap h - (s.drive d).capacity) * 97 / 100

/-- DRIVE_RETIRE (R342). -/
def execDriveRetire (w : Who) (s : State) : Out :=
  (s.write w 0xA400 0x0D [2] idle (fun a => a.driveSel w.sess < 64) fun a =>
    let d := a.driveSel w.sess
    if (a.drive d).st ≠ .admitted ∨ a.canReach (a.server w.sess) (driveHalf d) = false ∨ a.retireFits d = false then none
    else some (a.setDrive d { a.drive d with st := .retiring })).out w

/-- The granules of a retiring drive, moved one by one to the drive with the most free space. -/
def State.moveGranules (s : State) (id : Nat) (gs : List Nat) : State :=
  gs.foldl (fun a g =>
    match a.bestDrive (a.ns id).home with
    | some e => a.setNs id { a.ns id with place := mput (a.ns id).place g e }
    | none => a) s

/-- DRIVE_RETIRE_DONE (R342): the drive's granules have been moved, and it is released. -/
def State.retireDone (s : State) (d : Nat) : State :=
  if (s.drive d).st = .retiring then
    let s1 := s.storage.nss.foldl (fun a e =>
      a.moveGranules e.1 ((e.2.place.filter fun p => p.2 = d && !e.2.lost.contains p.1).map Prod.fst)) s
    if s1.driveHeld d = 0 then (s1.setDrive d { s1.drive d with st := .present }).setMapCarve (driveHalf d) else s
  else s

def execDriveRetireDone (d : Fin 64) (s : State) : Out := .next (s.retireDone d.val)

/-- The namespace map of a half is held in DRAM (R360). -/
def State.mapHeld (s : State) (h : Half) : Bool := mapBytes (s.poolCap h) ≤ s.carve h 5

/-- MAP_REBUILD_DONE (R315, R333, R360): without its key an encrypted namespace reads LOCKED, as does any whose map cannot be
held. -/
def State.rebuildDone (s : State) (id : Nat) : State :=
  let n := s.ns id
  if n.st = .recovering ∧ s.running ∧ (s.half n.home).stopped = false then
    if s.mapHeld n.home = false ∨ (n.encrypt ∧ (mfind (s.half n.home).cipher.xts (id - 1)).isNone) then
      s.setNs id { n with st := .locked, lockedAt := s.time n.home }
    else s.setNs id { n with st := .ready }
  else s

def execMapRebuildDone (nsid : Nat) (s : State) : Out := .next (s.rebuildDone nsid)

/-- NS_SELECT of a session. -/
def State.nsSel (s : State) (ss : Session) : Nat := s.sel ss (obj 0xA400 1) 1

/-- NS_KEY_WRITE (R255, R315): the key is unwrapped by the key-wrap key and put in slot NSID − 1 of the home half. -/
def execNsKeyWrite (w : Who) (rec : BitVec 576) (s : State) : Out :=
  (s.write w 0xA400 0x0E (leBytes 72 rec.toNat) idle (fun a => (mfind a.storage.nss (a.nsSel w.sess)).isSome) fun a =>
    let id := a.nsSel w.sess
    let n := a.ns id
    let bs := leBytes 72 rec.toNat
    match a.unseal a.nv.store.kwk with
    | none => none
    | some kek =>
      if n.encrypt = false ∨ Config.unwraps kek bs = false ∨ a.canReach (a.server w.sess) n.home = false then none
      else
        let key := BitVec.ofNat 512 (Config.unwrapped kek bs)
        let a1 := a.onHalf n.home fun y => { y with cipher := { y.cipher with xts := mput y.cipher.xts (id - 1) key } }
        some (if n.st = .locked ∧ a1.mapHeld n.home then a1.setNs id { n with st := .ready } else a1)).out w

/-- STQ_CNT_CLEAR (R342). -/
def execStqCntClear (w : Who) (v : BitVec 8) (s : State) : Out :=
  (s.maskClear w 0xA400 0x0F v.toNat fun a h => a.clearIndex (0x6700 + h.num)).out w

end Sys2Proof.Machine
end

