-- ==== Sys2Proof/Machine/StorageAdmin.lean ====
section
/-! DEFINITION. Admin commands of the storage service (12 R337 to R341). -/

namespace Sys2Proof.Machine
open Sys2Proof

/-! ### Namespace commands (R310, R338, R339) -/

/-- What a namespace command comes to: the state, and its status and KIND_DATA, none while it waits. -/
abbrev NsDone := State × Option (Nat × Nat)

/-- The half whose request a namespace command is. -/
def State.srcHalf (s : State) (src : AdminSrc) : Half :=
  match src with
  | .queue k => stqHalf k
  | .mgmt w _ => s.server w.sess

/-- A namespace command for an NSID that exists, on a half that can be reached (R314, R324). -/
def State.withNs (s : State) (src : AdminSrc) (c : BitVec 512) (f : Nat → Ns → NsDone) : NsDone :=
  match mfind s.storage.nss (scNsid c) with
  | none => (s, some (stAccess, 0))
  | some n => if s.canReach (s.srcHalf src) n.home then f (scNsid c) n else (s, some (stOtherHalf, 0))

/-- NS_CREATE (R309, R310, R338, R339). -/
def State.nsCreate (s : State) (src : AdminSrc) (c : BitVec 512) : NsDone :=
  let h := halfOf (scArg1 c % 2)
  let n : Ns := { st := if scArg1 c / 4 % 2 = 1 then .locked else .ready, home := h, lba4k := scArg1 c / 2 % 2 = 1
                  encrypt := scArg1 c / 4 % 2 = 1, size := scSlba c, lockedAt := s.time h }
  if s.canReach (s.srcHalf src) h = false then (s, some (stOtherHalf, 0))
  else if (mfind s.storage.nss (scNsid c)).isSome then (s, some (stRange, 0))
  else if s.poolCap h * 97 < (s.nsBytes h + n.bytes) * 100 ∨ 256000000000000 < s.nsBytes .k + s.nsBytes .q + n.bytes then
    (s, some (stQuota, 0))
  else ({ s with storage := { s.storage with nss := mput s.storage.nss (scNsid c) n } }, some (stOk, scNsid c))

/-- NS_DELETE (R313, R339). -/
def State.nsDelete (s : State) (src : AdminSrc) (c : BitVec 512) : NsDone :=
  s.withNs src c fun id n =>
    if n.attached ≠ [] then (s, some (stRange, 0))
    else
      let s1 := s.onHalf n.home fun y => { y with cipher := { y.cipher with xts := merase y.cipher.xts (id - 1) } }
      (({ s1 with storage := { s1.storage with nss := merase s1.storage.nss id } }).poolCheck n.home, some (stOk, 0))

/-- NS_FORMAT: every granule deallocated and the LBA size set, the capacity in bytes kept (R339; log 40). -/
def State.nsFormat (s : State) (src : AdminSrc) (c : BitVec 512) : NsDone :=
  s.withNs src c fun id n =>
    let n1 : Ns := { n with lba4k := scArg1 c / 2 % 2 = 1, media := [], buf := [], place := [], keys := [], lost := [], bufLost := [] }
    if n.attached ≠ [] then (s, some (stRange, 0))
    else (s.setNs id { n1 with size := n.bytes / n1.lbaSize }, some (stOk, 0))

/-- The namespaces attached to a slice (R86, R339). -/
def State.nsCount (s : State) (sl : Nat) : Nat := (s.storage.nss.filter fun e => e.2.attached.contains sl).length

/-- NS_ATTACH (R339). -/
def State.nsAttach (s : State) (src : AdminSrc) (c : BitVec 512) : NsDone :=
  let sl := scArg1 c % 4096
  s.withNs src c fun id n =>
    if n.attached.contains sl then (s, some (stOk, 0))
    else if (s.slice sl).used = false ∨ recNs (s.slice sl).record ≤ s.nsCount sl then (s, some (stQuota, 0))
    else (s.setNs id { n with attached := n.attached ++ [sl] }, some (stOk, 0))

/-- NS_DETACH: it waits for the slice's uncompleted commands for the namespace (R339). -/
def State.nsDetach (s : State) (src : AdminSrc) (c : BitVec 512) : NsDone :=
  let sl := scArg1 c % 4096
  s.withNs src c fun id n =>
    if n.attached.contains sl = false then (s, some (stAccess, 0))
    else
      ({ s with storage := { s.storage with detachWait := s.storage.detachWait ++ [(id, sl, s.storage.arrivals, src)] } }, none)

/-- NS_CMD_RESULT of a session reads BUSY (R342). -/
def nsCmdBusy (w : Who) (s : State) : Bool := s.sel w.sess (obj 0xA400 4) 0 / 65536 % 2 = 1

/-! ### The run of an admin command (R108, R325, R338) -/

/-- The oldest unstarted command of an admin queue starts, if it has the opcode and its queue may start it and has a slot. An
admin command has no namespace arbiter to be granted by (R325; log 41). -/
def State.startAdmin (s : State) (k op : Nat) (go : SCmd → State → State) : State :=
  match (s.stq k).next with
  | none => s
  | some c =>
    if s.stqAdmin k = false ∨ scOp c.cmd ≠ op ∨ s.stqRuns k = false ∨ s.scMalformed k c.cmd then s
    else if s.slotFor (s.stqCq k) (stqBase + k) then go { c with started := true, granted := true } (s.startScmd k c)
    else s.waitSlot (s.stqCq k) (stqBase + k)

/-- The end of an admin command that ends as it starts. -/
def State.endAdmin (s : State) (k : Nat) (c : SCmd) (st bytes data : Nat) : State :=
  (s.stFinish k c st bytes data true true).afterStorage k

/-- A namespace command: on a slice's admin queue it completes ACCESS; on PF2's frame 0 and through NS_CMD it is carried out
(R339). -/
def State.nsCommand (s : State) (src : AdminSrc) (op : Nat) (f : State → AdminSrc → BitVec 512 → NsDone) : State :=
  match src with
  | .queue k =>
    s.startAdmin k op fun c a =>
      if k < 8192 then a.endAdmin k c stAccess 0 0
      else
        match f a src c.cmd with
        | (a1, some (st, d)) => a1.endAdmin k c st 0 d
        | (a1, none) => a1.tryDetach.afterStorage k
  | .mgmt w cmd =>
    if scOp cmd ≠ op then s
    else
      (s.write w 0xA400 3 (leBytes 64 cmd.toNat) (nsCmdBusy w) always fun a =>
        if badNsid (scNsid cmd) then some (a.nsResult w.sess false stMalformed)
        else
          match f a src cmd with
          | (a1, some (st, _)) => some (a1.nsResult w.sess false st)
          | (a1, none) => some (a1.nsResult w.sess true 0).tryDetach).state w

/-- NS_CREATE (R338). -/
def execNsCreate (src : AdminSrc) (s : State) : Out := .next (s.nsCommand src 0x80 State.nsCreate)

/-- NS_DELETE (R338, R339). -/
def execNsDelete (src : AdminSrc) (s : State) : Out := .next (s.nsCommand src 0x81 State.nsDelete)

/-- NS_ATTACH (R338, R339). -/
def execNsAttach (src : AdminSrc) (s : State) : Out := .next (s.nsCommand src 0x82 State.nsAttach)

/-- NS_DETACH (R338, R339). -/
def execNsDetach (src : AdminSrc) (s : State) : Out := .next (s.nsCommand src 0x83 State.nsDetach)

/-- NS_FORMAT (R338, R339). -/
def execNsFormat (src : AdminSrc) (s : State) : Out := .next (s.nsCommand src 0x84 State.nsFormat)

/-! ### Logs (R337, R338) -/

/-- An entry of the error log as 64 bytes (R337). -/
def ErrEntry.bytes (e : ErrEntry) : List Byte :=
  leBytes 8 e.time ++ leBytes 8 e.seq ++ leBytes 2 e.queue ++ leBytes 2 e.tag.toNat ++ leBytes 2 e.cseq.toNat
    ++ leBytes 1 e.status.toNat ++ leBytes 1 e.opcode ++ leBytes 4 e.nsid ++ leBytes 8 e.slba ++ leBytes 4 e.nlb
    ++ leBytes 8 e.lba ++ leBytes 1 e.drive ++ leBytes 1 (b2n e.froze) ++ leBytes 2 0 ++ leBytes 12 0

/-- Page 1: the 64 entries, oldest first, unused ones zero (R337). -/
def State.errorPage (s : State) (k : Nat) : List Byte :=
  fit 4096 ((mget s.storage.errs (s.logOwner k) []).reverse.flatMap ErrEntry.bytes)

/-- The code of a namespace state (R342). -/
def NsSt.code : NsSt → Nat
  | .free => 0
  | .ready => 1
  | .locked => 2
  | .recovering => 3

/-- Page 2: the namespaces attached to the slice (R338). -/
def State.nsPage (s : State) (k : Nat) : List Byte :=
  (s.storage.nss.filter fun e => e.2.attached.contains (s.stq k).slice).flatMap fun e =>
    leBytes 2 e.1 ++ leBytes 1 e.2.st.code ++ leBytes 1 (b2n e.2.lba4k) ++ leBytes 8 e.2.size ++ leBytes 4 0

/-- LOG_READ_PAGE (R337, R338). -/
def execLogReadPage (stq : Nat) (s : State) : Out :=
  .next (s.startAdmin stq 0x85 fun c a =>
    let page := scArg1 c.cmd % 256
    let data := if page = 1 then a.errorPage stq else a.nsPage stq
    if page ≠ 1 ∧ page ≠ 2 then a.endAdmin stq c stRange 0 0
    else if scDlen c.cmd < data.length then a.endAdmin stq c stMalformed 0 0
    else (a.emit (.dma (stqBase + stq) data)).endAdmin stq c stOk data.length 0)

/-! ### Queues and features (R338 to R340) -/

/-- The queue that an admin command of a slice names; none for another's, and for PF2's own queue, which no slice issues
from (R339). -/
def State.namedStq (s : State) (k n : Nat) : Option Nat :=
  let sl := (s.stq k).slice
  if sl < 4096 then (blkNth (s.slice sl).sqs n).map fun e => (stqHalf k).num * 4096 + e else none

/-- FEATURE_GET (R338, R339). -/
def execFeatureGet (stq : Nat) (s : State) : Out :=
  .next (s.startAdmin stq 0x86 fun c a =>
    match a.namedStq stq (scQueue c.cmd) with
    | none => a.endAdmin stq c stAccess 0 0
    | some t =>
      let feat := scArg1 c.cmd % 256
      if feat = 1 then a.endAdmin stq c stOk 0 (a.stq t).cls
      else if feat = 2 then a.endAdmin stq c stOk 0 (a.wbufUse (stqHalf stq))
      else a.endAdmin stq c stRange 0 0)

/-- FEATURE_SET (R338, R339): QUEUE_CLASS alone can be set. -/
def execFeatureSet (stq : Nat) (s : State) : Out :=
  .next (s.startAdmin stq 0x87 fun c a =>
    match a.namedStq stq (scQueue c.cmd) with
    | none => a.endAdmin stq c stAccess 0 0
    | some t =>
      if scArg1 c.cmd % 256 = 1 ∧ scSlba c.cmd < 4 then
        (a.setStq t { a.stq t with cls := scSlba c.cmd }).endAdmin stq c stOk 0 0
      else a.endAdmin stq c stRange 0 0)

/-- QUEUE_RESUME (R340). -/
def execQueueResume (stq : Nat) (s : State) : Out :=
  .next (s.startAdmin stq 0x88 fun c a =>
    match a.namedStq stq (scQueue c.cmd) with
    | none => a.endAdmin stq c stAccess 0 0
    | some t => (a.setStq t { a.stq t with frozen := false }).endAdmin stq c stOk 0 0)

/-- An unstarted command completes ABORTED (R118, R340, R343). -/
def State.abortScmd (s : State) (k : Nat) (c : SCmd) : State :=
  (s.stFinish k c stAborted 0 0 false true).countStorage (s.cmdHalf k c.cmd) 9 1

/-- QUEUE_RESET: every unstarted command completes ABORTED, in commit-sequence order (R340). -/
def State.resetStq (s : State) (k : Nat) : State :=
  let s1 := ((s.stq k).cmds.filter fun c => !c.started).foldl (fun a c => a.abortScmd k c) s
  s1.setStq k { s1.stq k with frozen := false }

/-- QUEUE_RESET (R340). -/
def execQueueReset (stq : Nat) (s : State) : Out :=
  .next (s.startAdmin stq 0x89 fun c a =>
    match a.namedStq stq (scQueue c.cmd) with
    | none => a.endAdmin stq c stAccess 0 0
    | some t => (a.resetStq t).endAdmin stq c stOk 0 0)

/-- ABORT: an unstarted target completes ABORTED and the abort OK; a started one is past its stop point, so the abort stays
open until it completes; a target that is not there ends it NOT_FOUND (R118, R119, R341). -/
def State.storageAbort (s : State) (k : Nat) (c : SCmd) (t : Nat) : State :=
  let x := s.stq t
  let a : Abort := { index := BitVec.ofNat 16 (scArg2 c.cmd), tag := BitVec.ofNat 16 (scArg1 c.cmd), atag := scTag c.cmd }
  if x.abort.isSome then s.endAdmin k c stRange 0 0
  else
    let s1 := s.setStq t { x with abort := some (a, k, c.seq) }
    match x.cmds.find? fun d => d.seq = a.index && scTag d.cmd = a.tag && !(t = k && d.seq = c.seq) with
    | none => s1.endStAbort t stNotFound
    | some d =>
      if d.started then s1
      else
        let s2 := (s.abortScmd t d)
        (s2.setStq t { s2.stq t with abort := some (a, k, c.seq) }).endStAbort t stOk

/-- STORAGE_ABORT (R341). -/
def execStorageAbort (stq : Nat) (s : State) : Out :=
  .next (s.startAdmin stq 0x8A fun c a =>
    match a.namedStq stq (scQueue c.cmd) with
    | none => a.endAdmin stq c stAccess 0 0
    | some t => (a.storageAbort stq c t).afterStorage stq)

end Sys2Proof.Machine
end

