-- ==== Sys2Proof/Machine/Arbiter.lean ====
section
/-! DEFINITION. Arbiters (05 R136 to R142, 03 R78). -/

namespace Sys2Proof.Machine
open Sys2Proof

def State.arb (s : State) (kind inst : Nat) : Arb := mget s.arbs (kind * 256 + inst) {}

def State.setArb (s : State) (kind inst : Nat) (a : Arb) : State :=
  { s with arbs := mset s.arbs (kind * 256 + inst) a {} }

/-- An arbiter exists (R136). -/
def arbExists (kind inst : Nat) : Bool :=
  (kind = 1 && inst < 4) || (kind = 2 && inst < 8) || (3 ≤ kind && kind ≤ 6 && inst < 2)

/-- A unit ID is assigned (R15). -/
def unitIdOk (v : Nat) : Bool := v < 64 && v % 32 ≤ 16

/-- A number names a requester of an arbiter (R136, R141). -/
def State.reqOk (s : State) (kind inst r : Nat) : Bool :=
  if kind = 1 then
    if r < 4096 then (s.slice r).used && recPort (s.slice r).record = inst else r ≤ 0x1043
  else if kind = 5 then r ≤ 10
  else if kind = 6 then r < 4096 && (s.slice r).used
  else unitIdOk r

/-- The half whose time an arbiter keeps. -/
def arbHalf (kind inst : Nat) : Half := if kind = 1 then portHalf inst else if kind = 2 then chanHalf inst else halfOf inst

/-- Base priority of a requester: 3 unless written, and 7 for NET at the cipher lanes (R138, R142, R253). -/
def Req.basePri (x : Req) (kind r : Nat) : Nat := x.base.getD (if kind = 4 ∧ r % 32 = 13 then 7 else 3)

/-- AGE_STEP of an arbiter (R142). -/
def State.ageStep (s : State) (kind inst : Nat) : Nat :=
  Nat.max 1 (s.param (arbHalf kind inst) 0x9000 6 (kind * 256 + inst) 16)

/-- Effective priority (R138). -/
def State.effective (s : State) (kind inst r : Nat) (x : Req) : Nat :=
  Nat.min 7 (x.basePri kind r + x.l / s.ageStep kind inst)

/-! ### Host-port bandwidth (R78, R139) -/

/-- Bytes granted to a requester in a direction over the last 10 µs. -/
def Req.recentBytes (x : Req) (now : Nat) (toDev : Bool) : Nat :=
  ((x.sent.filter fun e => now < e.1 + 10000 && e.2.1 = toDev).map fun e => e.2.2).sum

/-- Rate of a rate code in 100 Mb/s of one lane (R39). -/
def laneRate (code : Nat) : Nat :=
  if code = 1 then 25 else if code = 2 then 50 else if code = 3 then 80 else if code = 4 then 160 else if code = 5 then 320 else 640

/-- HOST_MIN in bytes over 10 µs: 125 bytes for each unit of 100 Mb/s, in proportion to the trained rate and width below
64 GT/s x8 (R78). -/
def State.minBytes (s : State) (p id : Nat) : Nat :=
  let x := s.port p
  let m := 125 * recHostMin (s.slice id).record
  if x.rate = 6 ∧ x.width = 8 then m else m * (laneRate x.rate * x.width) / 5120

/-- HOST_MAX in bytes over 10 µs, 0xFFFF being no maximum (R73). -/
def State.maxBytes (s : State) (id : Nat) : Option Nat :=
  let m := recHostMax (s.slice id).record
  if m = 0xFFFF then none else some (125 * m)

/-- A host-port request is eligible: its slice is below HOST_MAX in its direction (R139). -/
def State.portEligible (s : State) (p r : Nat) (x : Req) : Bool :=
  r ≥ 4096 ||
    match s.maxBytes r with
    | none => true
    | some m => x.recentBytes (s.time (portHalf p)) x.toDev < m

/-- A host-port request is preferred: its slice is below HOST_MIN in its direction (R139). -/
def State.portPreferred (s : State) (p r : Nat) (x : Req) : Bool :=
  r < 4096 && x.recentBytes (s.time (portHalf p)) x.toDev < s.minBytes p r

/-! ### A decision (R137, R138, R141) -/

/-- A request that arrives (R138, R141). -/
def Arb.arrive (a : Arb) (x : ArbArrival) : Arb :=
  let r := mget a.reqs x.req {}
  if r.waiting then a
  else { a with reqs := mset a.reqs x.req { r with waiting := true, toDev := x.toDev, since := x.since, l := 0, fresh := true,
                                                   served := false } {} }

/-- The holder's request has ended (R137). -/
def Arb.release (a : Arb) : Arb :=
  match a.holder with
  | none => a
  | some r => { a with holder := none, reqs := mset a.reqs r { mget a.reqs r {} with waiting := false, l := 0, fresh := false, served := false } {} }

/-- The first requester of rising numbers from `frm` on, else the first of all (R138). -/
def roundRobin (frm : Nat) (rs : List Nat) : Option Nat :=
  match rs.find? (frm ≤ ·) with
  | some r => some r
  | none => rs.head?

/-- The requester a decision grants, of those that take part by number with their effective priority (R138). -/
def winner (last : Nat) (part : List (Nat × Nat)) : Option Nat :=
  let top := part.foldl (fun m e => Nat.max m e.2) 0
  roundRobin last ((part.filter fun e => e.2 = top).map Prod.fst)

/-- A counter of 64 bits, raised, saturating (R141). -/
def sat64 (n : Nat) : Nat := Nat.min (n + 1) 18446744073709551615

/-- A requester that is granted (R138, R141, R78). -/
def Req.grant (x : Req) (now : Nat) (port : Bool) : Req :=
  { x with
    l := 0, fresh := false, served := true, grants := sat64 x.grants
    longest := if x.served then x.longest else Nat.max x.longest (Nat.min (now - x.since) 4294967295)
    sent := if port then (now, x.toDev, 256) :: x.sent.filter (fun e => now < e.1 + 10000) else [] }

/-- A requester that takes part and loses (R138, R141). -/
def Req.lose (x : Req) : Req :=
  { x with l := x.l + 1, waits := if x.fresh then sat64 x.waits else x.waits, fresh := false }

/-- A decision of an arbiter by base priority and age (R137 to R139, R141). -/
def State.arbitrate (s : State) (kind inst : Nat) (arrivals : List ArbArrival) (ended : Bool) : State :=
  let a0 := s.arb kind inst
  let a1 := if ended then a0.release else a0
  let a := (arrivals.filter fun x => s.reqOk kind inst x.req).foldl Arb.arrive a1
  let part := a.reqs.filter fun e => e.2.waiting && s.reqOk kind inst e.1 && (kind != 1 || s.portEligible inst e.1 e.2)
  let best := part.filter fun e => kind = 1 && s.portPreferred inst e.1 e.2
  let field := if best.isEmpty then part else best
  match winner a.last (field.map fun e => (e.1, s.effective kind inst e.1 e.2)) with
  | none => s.setArb kind inst { a with holder := none }
  | some w =>
    let now := s.time (arbHalf kind inst)
    let reqs := mmap (fun r x =>
      if r = w then x.grant now (kind = 1) else if part.any (·.1 = r) then x.lose else x) a.reqs
    s.setArb kind inst { a with reqs := reqs, holder := some w, last := w + 1 }

/-- ARBITER_DECISION (R137 to R139; for kind 6 R326). -/
def execArbiterDecision (kind inst : Nat) (arrivals : List ArbArrival) (ended : Bool) (s : State) : Out :=
  .next (if s.running = false ∨ arbExists kind inst = false then s
         else if kind = 6 then s.classGrant (halfOf inst)
         else s.arbitrate kind inst arrivals ended)

/-! ### Objects (R140 to R142) -/

def State.arbSel (s : State) (ss : Session) : Nat := s.sel ss (obj 0x9000 1) 0
def State.reqSel (s : State) (ss : Session) : Nat := s.sel ss (obj 0x9000 2) 0

/-- The session's selections name an arbiter and a requester of it (R142). -/
def State.arbSelOk (s : State) (ss : Session) (r : Nat) : Bool :=
  arbExists (s.arbSel ss / 256) (s.arbSel ss % 256) && s.reqOk (s.arbSel ss / 256) (s.arbSel ss % 256) r

/-- REQ_PRIORITY_WRITE (R140, R142): it applies from the next decision, and L and the counters carry on. -/
def execReqPriorityWrite (w : Who) (v : BitVec 8) (s : State) : Out :=
  (s.write w 0x9000 5 (leBytes 1 v.toNat) idle (fun a => a.arbSelOk w.sess (a.reqSel w.sess)) fun a =>
    if 7 < v.toNat then none
    else
      let k := a.arbSel w.sess / 256
      let i := a.arbSel w.sess % 256
      let x := a.arb k i
      let r := mget x.reqs (a.reqSel w.sess) {}
      some (a.setArb k i { x with reqs := mset x.reqs (a.reqSel w.sess) { r with base := some v.toNat } {} })).out w

/-- A requester with its counters cleared (R141). -/
def Req.cleared (x : Req) : Req := { x with grants := 0, waits := 0, longest := 0 }

/-- ARB_CLEAR (R141, R142). -/
def execArbClear (w : Who) (v : BitVec 16) (s : State) : Out :=
  (s.write w 0x9000 4 (leBytes 2 v.toNat) idle
    (fun a => if v.toNat = 0xFFFF then arbExists (a.arbSel w.sess / 256) (a.arbSel w.sess % 256) else a.arbSelOk w.sess v.toNat) fun a =>
    let k := a.arbSel w.sess / 256
    let i := a.arbSel w.sess % 256
    let x := a.arb k i
    if v.toNat = 0xFFFF then some (a.setArb k i { x with reqs := mmap (fun _ (r : Req) => r.cleared) x.reqs })
    else some (a.setArb k i { x with reqs := mset x.reqs v.toNat (mget x.reqs v.toNat {}).cleared {} })).out w

end Sys2Proof.Machine
end

