-- ==== Sys2Proof/Machine/Cipher.lean ====
section
/-! DEFINITION. Cipher lanes (10). A lane's work on a frame is one step, and frames of a port pass in order. -/

namespace Sys2Proof.Machine
open Sys2Proof

/-- CIPHER of a half is out of service: frames of ports with MACsec and ESP frames are dropped and counted, and other frames
pass unchanged (R412, R421). -/
def State.cipherOut (s : State) (h : Half) : Bool := !s.works h 9

/-- A frame that a CIPHER out of service would have had to work on is lost (R421). -/
def State.cipherLoss (s : State) (h : Half) (f : Frame) : State := (s.countH 0x6A00 h 3 1).lostSend f

/-- MACSEC_RX (R261): the oldest received frame of a port at CIPHER; without MACsec it passes unchanged. -/
def State.macsecRx (s : State) (n : Nat) (icvOk : Bool) : State :=
  let h := ethHalf n
  if s.forwards h then
    match s.takeFlight h fun f => f.stage = .cipherRx && f.port = n with
    | none => s
    | some (f, s1) =>
      let r := if s1.macsecOn n then (if s1.cipherOut h then (s1.cipherLoss h f, none) else s1.macsecCheck f icvOk) else (s1, some f)
      match r.2 with
      | some g => r.1.addFlight h { g with stage := .parse }
      | none => r.1
  else s

def execMacsecRx (n : Fin 16) (icvOk : Bool) (s : State) : Out := .next (s.macsecRx n icvOk)

/-- A frame that CIPHER sends on a protected port: it takes the next PN of the SA that TX_AN names. An EXHAUSTED SA drops it
and its ETH_SEND completes NONCE_EXHAUSTED; with no SA it is dropped, for it may not leave unprotected (R260, R267). -/
def State.macsecSeal (s : State) (n : Nat) (f : Frame) : State :=
  let h := ethHalf n
  let i := mcTxSa (s.macsecRec n) (mcTxAn (s.macsecRec n))
  if 16384 ≤ i ∨ (s.sa h i).serves 1 = false then s.lostSend f
  else if (s.sa h i).st = .exhausted then (s.countCipher h 6 1).endSend f stNonceExhausted 0 0 true
  else (s.assign h i f.bytes.length).addFlight h { f with isSealed := true, stage := .tmgr }

/-- MACSEC_TX_ASSIGN (R260): the oldest frame to a port that has passed ESP. -/
def State.macsecTx (s : State) (n : Nat) : State :=
  let h := ethHalf n
  if s.forwards h then
    match s.takeFlight h fun f => f.stage = .macsecTx && f.port = n with
    | none => s
    | some (f, s1) =>
      if s1.macsecOn n then (if s1.cipherOut h then s1.cipherLoss h f else s1.macsecSeal n f)
      else s1.addFlight h { f with stage := .tmgr }
  else s

def execMacsecTxAssign (n : Fin 16) (s : State) : Out := .next (s.macsecTx n)

/-- ESP applied to a host-transmit frame, where its SPI names an SA (R263); one that would grow beyond 10,240 bytes goes on to
R149 as it has grown. -/
def State.espApply (s : State) (h : Half) (f : Frame) : State :=
  let on := fun (a : State) (bs : List Byte) => a.addFlight h { f with bytes := bs, stage := .macsecTx }
  match f.espHeader with
  | none => on s f.bytes
  | some hdr =>
    match s.espSa h (beAt f.bytes hdr 4) (mdSlice f.md) with
    | none => on s f.bytes
    | some i =>
      let x := s.sa h i
      if x.st = .exhausted then (s.countCipher h 6 1).endSend f stNonceExhausted 0 0 true
      else on (s.assign h i f.bytes.length) (espSeal x x.next hdr f)

/-- ESP_OUT_APPLY (R263): the oldest host-transmit frame of a half at CIPHER. -/
def State.espTx (s : State) (h : Half) : State :=
  if s.forwards h then
    match s.takeFlight h (·.stage = .espTx) with
    | none => s
    | some (f, s1) => if s1.cipherOut h ∧ f.espHeader.isSome then s1.cipherLoss h f else s1.espApply h f
  else s

def execEspOutApply (h : Half) (s : State) : Out := .next (s.espTx h)

/-! ### Objects (R254 to R259, R269, R272) -/

/-- A write of SA_RECORD to the slot that the session has selected (R255, R272). -/
def State.saRecordWrite (s : State) (w : Who) (rec : BitVec 640) : Reply :=
  let sel := fun (a : State) => a.sel w.sess (obj 0xA200 3) 0
  s.write w 0xA200 4 (leBytes 80 rec.toNat) idle always fun a =>
    let h := halfOf (sel a / 65536)
    if a.cstl.split ∧ h ≠ a.server w.sess then none else a.saWrite h (sel a % 16384) rec

/-- SA_INSTALL (R256). -/
def execSaInstall (w : Who) (rec : BitVec 640) (s : State) : Out := (s.saRecordWrite w rec).out w

/-- SA_DELETE (R258): a record of KIND 0. -/
def execSaDelete (w : Who) (rec : BitVec 640) (s : State) : Out := (s.saRecordWrite w rec).out w

/-- SA_CHANGE (R256). -/
def execSaChange (w : Who) (rec : BitVec 640) (s : State) : Out := (s.saRecordWrite w rec).out w

/-- SA_FENCE_END (R258). -/
def execSaFenceEnd (h : Half) (slot : Nat) (s : State) : Out := .next (s.saFenceEnd h slot)

/-- A slot of a MACSEC record names a MACsec SA of a port and direction, or none (R259). -/
def State.macsecSlot (s : State) (n i kind : Nat) : Bool :=
  let x := s.sa (ethHalf n) i
  i = 0xFFFF || (i < 16384 && x.st != .empty && x.st != .fencing && saKind x.record = kind && saPort x.record = n)

/-- A MACSEC record may be written (R259). -/
def State.macsecOk (s : State) (n : Nat) (r : BitVec 704) : Bool :=
  (mcValidate r = 1 || mcValidate r = 2) && mcTxAn r < 4 && mcReplay r ≤ 1073741824
    && (List.range 4).all fun a =>
      s.macsecSlot n (mcTxSa r a) 1 && (List.range 4).all fun i => s.macsecSlot n (mcRxSa r i a) 2

/-- MACSEC_CONFIG_WRITE (R259). -/
def State.macsecWrite (s : State) (w : Who) (n : Nat) (rec : BitVec 704) : Reply :=
  s.write w 0xA210 (n + 1) (leBytes 88 rec.toNat) idle always fun a =>
    if a.macsecOk n rec then some (a.setParams (a.server w.sess) 0xA210 (n + 1) 0 rec.toNat) else none

def execMacsecConfigWrite (w : Who) (n : Fin 16) (rec : BitVec 704) (s : State) : Out := (s.macsecWrite w n rec).out w

/-- HARDEN_WRITE (R269, R272): other values are refused. -/
def State.hardenWrite (s : State) (w : Who) (v : Nat) : Reply :=
  s.write w 0xA200 1 (leBytes 1 v) idle always fun a =>
    if v ≤ 2 then some (a.setParams (a.server w.sess) 0xA200 1 0 v) else none

def execHardenWrite (w : Who) (v : BitVec 8) (s : State) : Out := (s.hardenWrite w v.toNat).out w

/-- The counters of the SAs of a half, cleared (R272). -/
def State.clearSas (s : State) (h : Half) : State :=
  s.onHalf h fun y =>
    { y with cipher := { y.cipher with
        sas := mmap (fun _ x => { x with frames := 0, octets := 0, integrity := 0, late := 0 }) y.cipher.sas } }

/-- CIPHER_CNT_CLEAR (R272). -/
def execCipherCntClear (w : Who) (v : BitVec 8) (s : State) : Out :=
  (s.maskClear w 0xA200 0x0B v.toNat fun a h => (a.clearIndex (0x6500 + h.num)).clearSas h).out w

end Sys2Proof.Machine
end

