-- ==== Sys2Proof/Machine/Copy.lean ====
section
/-! DEFINITION. The copy engine (05 R121 to R135). A channel is named by 64 × port + channel. -/

namespace Sys2Proof.Machine
open Sys2Proof

/-! ### Descriptors (R127) -/

def dOwn (d : BitVec 256) : Bool := bit d 63
def dChain (d : BitVec 256) : Bool := bit d 62
def dOp (d : BitVec 256) : Nat := fld d 56 3
def dTag (d : BitVec 256) : BitVec 16 := BitVec.ofNat 16 (fld d 32 16)
def dLen (d : BitVec 256) : Nat := fld d 0 32
def dSrc (d : BitVec 256) : Nat := fld d 64 64

/-- A head descriptor is malformed (R129). -/
def dBad (d : BitVec 256) : Bool := dOp d = 0 || 3 < dOp d

/-- Quadword 0 as it is written back: OWN 0 and STATUS set (R130). -/
def dDone (d : BitVec 256) (status : Nat) : BitVec 64 :=
  setFld (setFld (BitVec.ofNat 64 (fld d 0 64)) 63 1 0) 48 8 status

/-! ### Channels -/

def chanFn (ch : Nat) : Nat := fnKey (ch / 64) 3
def chanHalfOf (ch : Nat) : Half := portHalf (ch / 64)

/-- The key of a channel's CQ. -/
def chanCq (ch : Nat) : Nat := ((chanHalfOf ch).num * 3 + 2) * 65536 + ch

/-- The published head of a channel, and its oldest uncompleted descriptor (R90, R110, R122). -/
def Chan.head (x : Chan) : BitVec 16 :=
  match x.fetched with
  | [] => x.fetchPt
  | d :: _ => d.1

def Chan.oldest (x : Chan) : BitVec 16 :=
  match x.run with
  | some r => r.index
  | none => x.head

/-- The channel's key. -/
def chanKey (p : Fin 4) (c : Fin 64) : Nat := p.val * 64 + c.val

/-- The effect on a channel through PF3's BAR0. -/
def State.onChan (s : State) (p : Fin 4) (c : Fin 64) (f : Nat → State → State) : State :=
  s.access (fnKey p.val 3) (f (chanKey p c))

/-- A completion of a channel (R130). -/
def copyCqe (ch : Nat) (tag index : BitVec 16) (status bytes data : Nat) : Cqe :=
  { tag := tag, status := BitVec.ofNat 8 status, source := 0x06, queue := BitVec.ofNat 20 (ch % 64), index := index
    bytes := BitVec.ofNat 32 (Nat.min bytes 0xFFFFFFFF), data := BitVec.ofNat 64 data }

/-! ### Aborts (R125) -/

/-- The completion of an abort of a channel has been made and is not yet written. -/
def State.chanAbortMade (s : State) (ch : Nat) : Bool :=
  let is := fun (x : HeldCpl) => x.abort && x.queue = chanBase + ch
  let f := s.fn (chanFn ch)
  f.due.any is || f.held.any is || (s.cq (chanCq ch)).heldCpl.any is

/-- The open abort of a channel ends with a status (R118, R119). -/
def State.endChanAbort (s : State) (ch status : Nat) : State :=
  match (s.chan ch).abort with
  | none => s
  | some a =>
    if s.chanAbortMade ch then s
    else s.pushDue (chanFn ch) { cq := chanCq ch, e := abortCqe (ch % 64) a status, queue := chanBase + ch, abort := true }

/-- A descriptor that has not started completes ABORTED: its ring slot, then its completion (R118, R130). -/
def State.abortDesc (s : State) (ch : Nat) (d : BitVec 16 × BitVec 256) : State :=
  let x := s.chan ch
  let s1 := (s.setChan ch { x with fetched := x.fetched.filter (fun y => y.1 != d.1), lastDone := some d.1 }).emit
    (.copySlot ch d.1 (dDone d.2 stAborted))
  (s1.pushDue (chanFn ch) { cq := chanCq ch, e := copyCqe ch (dTag d.2) d.1 stAborted 0 0, queue := chanBase + ch }).endChanAbort
    ch stOk

/-- The open abort of a channel is settled, where it can be (R118, R125). -/
def State.settleChanAbort (s : State) (ch : Nat) : State :=
  let x := s.chan ch
  match x.abort with
  | none => s
  | some a =>
    match x.fetched.find? fun d => d.1 = a.index && dTag d.2 = a.tag with
    | some d => s.abortDesc ch d
    | none =>
      match x.run with
      | some r =>
        if r.index = a.index ∧ dTag r.headDesc = a.tag then s
        else if dist x.fetchPt a.index < dist x.fetchPt x.doorbell then s else s.endChanAbort ch stNotFound
      | none => if dist x.fetchPt a.index < dist x.fetchPt x.doorbell then s else s.endChanAbort ch stNotFound

/-! ### Registers (R122 to R126) -/

/-- CPY_DOORBELL (R90, R122, R129). -/
def State.cpyDoorbell (s : State) (ch : Nat) (pi : BitVec 16) : State :=
  let x := s.chan ch
  if x.st = .running ∧ dist x.oldest x.doorbell ≤ dist x.oldest pi ∧ dist x.oldest pi ≤ 2 ^ x.logSize then
    s.setChan ch { x with doorbell := pi, stopped := false }
  else s.setChan ch { x with dbIgnored := sat31 x.dbIgnored }

def execCpyDoorbell (p : Fin 4) (c : Fin 64) (pi : BitVec 16) (s : State) : Out :=
  .next (s.onChan p c fun ch a => a.cpyDoorbell ch pi)

/-- The watched queue exists (R124): a leaf that a slice holds, or a CQ of PF1 or PF2. -/
def State.watchExists (s : State) (ch : Nat) : Bool :=
  let w := (s.chan ch).watch
  let id := fld w 0 17
  if fld w 24 2 = 1 then ndOwner (s.node (halfOf (id / 65536)) 3 (id % 65536)).record < 4096
  else fld w 24 2 = 2 && (id < 65536 || id % 65536 < 4096)

/-- ENABLE of a channel changes from 0 to 1 (R111, R124, R131). -/
def State.cpyEnable (s : State) (ch : Nat) : State :=
  let x := s.chan ch
  if x.st ≠ .disabled ∧ x.st ≠ .fetchFault then s
  else if x.logSize < 4 ∨ (s.cq (chanCq ch)).enable = false ∨ (x.paced ∧ (s.watchExists ch = false ∨ x.high ≤ x.low)) then
    s.setChan ch { x with cfgErr := true }
  else
    (s.setChan ch { x with
      st := .running, cfgErr := false, watchLost := false, gate := false, lastDone := none, stopped := false
      fetchPt := x.head, doorbell := x.head, fetched := [] }).evalGate ch

/-- CPY_ENABLE (R124). -/
def execCpyEnable (p : Fin 4) (c : Fin 64) (s : State) : Out := .next (s.onChan p c fun ch a => a.cpyEnable ch)

/-- The unstarted descriptors of a channel are discarded (R111). -/
def Chan.discard (x : Chan) : Chan := { x with fetchPt := x.head, fetched := [] }

/-- A channel that drains, or is in FETCH_FAULT, has no started descriptor left (R111, R118, R122, R135). -/
def State.chanDrained (s : State) (ch : Nat) : State :=
  let x := s.chan ch
  if x.run.isSome then s
  else if x.st = .draining then
    let s1 := s.endChanAbort ch stNotFound
    (s1.setChan ch { s1.chan ch with st := .disabled }).shadow (chanFn ch) (chanBase + ch) x.head 0
  else if x.st = .fetchFault then (s.endChanAbort ch stNotFound).shadow (chanFn ch) (chanBase + ch) x.head 4
  else s

/-- A channel stops waiting for its CQ. -/
def State.chanLeaveWait (s : State) (ch : Nat) : State :=
  let c := s.cq (chanCq ch)
  s.setCq (chanCq ch) { c with waitq := c.waitq.erase (chanBase + ch) }

/-- ENABLE of a running channel is cleared (R111, R122). -/
def State.cpyDisable (s : State) (ch : Nat) : State :=
  if (s.chan ch).st = .running then
    let s1 := s.chanLeaveWait ch
    (s1.setChan ch { (s1.chan ch).discard with st := .draining }).chanDrained ch
  else s

/-- CPY_DISABLE (R122). -/
def execCpyDisable (p : Fin 4) (c : Fin 64) (s : State) : Out := .next (s.onChan p c fun ch a => a.cpyDisable ch)

/-- A channel works: it runs, its function may master the bus, its half starts work, and a PACED channel's gate is open
(R122, R131). -/
def State.chanOn (s : State) (ch : Nat) : Bool :=
  s.mastering (chanFn ch) && s.forwards (chanHalfOf ch) && (!(s.chan ch).paced || (s.chan ch).gate)

/-- A ring slot of a channel is fetched, or its fetch fails (R129, R135). -/
def State.cpyFetch (s : State) (ch : Nat) (slot : Option (BitVec 256)) : State :=
  let x := s.chan ch
  if x.st ≠ .running ∨ s.mastering (chanFn ch) = false ∨ s.forwards (chanHalfOf ch) = false ∨ x.stopped ∨ 16 ≤ x.fetched.length
      ∨ x.fetchPt = x.doorbell then s
  else
    match slot with
    | none =>
      let h := chanHalfOf ch
      let s1 := s.chanLeaveWait ch
      let s2 := (s1.setChan ch { x.discard with st := .fetchFault }).logOn h 0x1005 2 (unitId h 10) 65535 0
        (ch / 64 + 2 ^ 32 * (ch % 64))
      (s2.raiseCopyFault ch).chanDrained ch
    | some d =>
      if dOwn d then
        (s.setChan ch { x with fetchPt := x.fetchPt + 1, fetched := x.fetched ++ [(x.fetchPt, d)] }).settleChanAbort ch
      else s.setChan ch { x with stopped := true }

/-- CPY_FETCH (R129). -/
def execCpyFetch (p : Fin 4) (c : Fin 64) (slot : Option (BitVec 256)) (s : State) : Out := .next (s.cpyFetch (chanKey p c) slot)

/-! ### Execution (R122, R128, R131 to R134) -/

/-- The descriptor a channel starts next (R122). -/
def State.nextDesc (s : State) (ch : Nat) : Option (BitVec 16 × BitVec 256) :=
  let x := s.chan ch
  if x.st = .running ∧ x.run = none ∧ s.chanOn ch then x.fetched.head? else none

/-- A descriptor starts: its completion slot is reserved (R108, R122). -/
def State.startDesc (s : State) (ch : Nat) (d : BitVec 16 × BitVec 256) : State :=
  let s1 := s.takeSlot (chanCq ch) (chanBase + ch)
  let x := s1.chan ch
  s1.setChan ch { x with fetched := x.fetched.drop 1, run := some { index := d.1, headDesc := d.2, hop := d.2 } }

/-- The device with a run of an operation in hand: the one that is going on, or the next descriptor, started; none where
neither is of that operation, it may not start or go on, or it waits for a slot (R108, R122, R131). -/
def State.running? (s : State) (ch op : Nat) : State × Option CopyRun :=
  match (s.chan ch).run with
  | some r => (s, if dOp r.headDesc = op ∧ r.result = none ∧ s.chanOn ch then some r else none)
  | none =>
    match s.nextDesc ch with
    | none => (s, none)
    | some d =>
      if dOp d.2 ≠ op then (s, none)
      else if s.slotFor (chanCq ch) (chanBase + ch) then
        let s1 := s.startDesc ch d
        (s1, (s1.chan ch).run)
      else (s.waitSlot (chanCq ch) (chanBase + ch), none)

/-- The bytes the present hop still has to move. -/
def CopyRun.left (r : CopyRun) : Nat := dLen r.hop - r.hopDone

/-- Bytes of the present hop moved, and the run's end where the last hop is done (R128). -/
def CopyRun.advance (r : CopyRun) (n : Nat) (data : List Byte) : CopyRun :=
  let t := r.total + n
  { r with
    hopDone := r.hopDone + n, total := t, data := r.data ++ data
    result := if r.hopDone + n = dLen r.hop ∧ dChain r.hop = false then some (BitVec.ofNat 8 stOk, t) else none }

/-- A failed access after the bytes moved so far (R134). -/
def CopyRun.fail (r : CopyRun) : CopyRun := { r with result := some (BitVec.ofNat 8 stHostFault, r.total) }

def State.setRun (s : State) (ch : Nat) (r : CopyRun) : State := s.setChan ch { s.chan ch with run := some r }

/-- Source bytes of the present hop are copied; then the access after them failed, if it did (R128, R134). -/
def CopyRun.copy (r : CopyRun) (src : HopData) : CopyRun :=
  let bs := src.bytes.take r.left
  let r1 := r.advance bs.length bs
  if src.failed ∧ bs.length < r.left then r1.fail else r1

/-- A read of the present hop is outstanding. -/
def State.chanReads (s : State) (ch : Nat) : Bool := (s.port (ch / 64)).tags.any fun t => t.2.kind = 1 && t.2.queue = chanBase + ch && !t.2.quarantined

/-- COPY_DESC (R128): without bytes, the read goes out under a tag (R54). -/
def State.copyDesc (s : State) (ch : Nat) (src : HopData) : State :=
  match s.running? ch 1 with
  | (s1, none) => s1
  | (s1, some r) =>
    if src.bytes = [] ∧ src.failed = false ∧ 0 < r.left then
      if s1.chanReads ch then s1 else (s1.issueRead (chanFn ch) 4096 1 (chanBase + ch) r.index).getD s1
    else s1.setRun ch (r.copy src)

def execCopyDesc (p : Fin 4) (c : Fin 64) (src : HopData) (s : State) : Out := .next (s.copyDesc (chanKey p c) src)

/-- The byte of a FILL constant for an offset (R128). -/
def fillByte (d : BitVec 256) (off : Nat) : Byte := BitVec.ofNat 8 (dSrc d / 2 ^ (8 * (off % 8)))

/-- The present hop is filled (R128). -/
def CopyRun.fill (r : CopyRun) : CopyRun :=
  r.advance r.left ((List.range r.left).map fun i => fillByte r.headDesc (r.total + i))

/-- FILL_DESC (R128). -/
def State.fillDesc (s : State) (ch : Nat) : State :=
  match s.running? ch 2 with
  | (s1, none) => s1
  | (s1, some r) => s1.setRun ch r.fill

def execFillDesc (p : Fin 4) (c : Fin 64) (s : State) : Out := .next (s.fillDesc (chanKey p c))

/-- The length of the common prefix of two byte strings. -/
def commonLen (a b : List Byte) : Nat :=
  match a, b with
  | x :: xs, y :: ys => if x = y then commonLen xs ys + 1 else 0
  | _, _ => 0

/-- Both operands of the present hop are compared as far as they were read: the run ends at the first difference, or at an
access that failed before one (R128, R134). -/
def CopyRun.compare (r : CopyRun) (a b : HopData) : CopyRun :=
  let xs := a.bytes.take r.left
  let ys := b.bytes.take r.left
  let n := commonLen xs ys
  let r1 := r.advance n []
  if n < xs.length ∧ n < ys.length then { r1 with result := some (BitVec.ofNat 8 stMismatch, r1.total) }
  else if n < r.left ∧ ((a.failed ∧ xs.length = n) ∨ (b.failed ∧ ys.length = n)) then r1.fail
  else r1

/-- COMPARE_DESC (R128). -/
def State.compareDesc (s : State) (ch : Nat) (a b : HopData) : State :=
  match s.running? ch 3 with
  | (s1, none) => s1
  | (s1, some r) => s1.setRun ch (r.compare a b)

def execCompareDesc (p : Fin 4) (c : Fin 64) (a b : HopData) (s : State) : Out := .next (s.compareDesc (chanKey p c) a b)

/-- CPY_HOP_LIMIT of a port (R133). -/
def State.hopLimit (s : State) (p : Nat) : Nat := s.param (portHalf p) 0x1104 (p + 1) 0 4096

/-- CHAIN_HOP_FETCH (R127, R133, R134): at the hop limit the head ends CHAIN_LIMIT; a failed fetch ends it HOST_FAULT. -/
def State.chainHop (s : State) (ch : Nat) (desc : Option (BitVec 256)) : State :=
  match (s.chan ch).run with
  | none => s
  | some r =>
    if r.result ≠ none ∨ dChain r.hop = false ∨ r.left ≠ 0 ∨ s.chanOn ch = false then s
    else if s.hopLimit (ch / 64) ≤ r.hops then s.setRun ch { r with result := some (BitVec.ofNat 8 stChainLimit, r.total) }
    else
      match desc with
      | none => s.setRun ch r.fail
      | some d => s.setRun ch (({ r with hop := d, hops := r.hops + 1, hopDone := 0 } : CopyRun).advance 0 [])

def execChainHopFetch (p : Fin 4) (c : Fin 64) (desc : Option (BitVec 256)) (s : State) : Out :=
  .next (s.chainHop (chanKey p c) desc)

/-- A started descriptor ends: data writes, ring slot, completion, and an abort that waits for it (R118, R130). -/
def State.endDesc (s : State) (ch : Nat) (r : CopyRun) (status bytes data : Nat) (canWrite : Bool) : State :=
  let x := s.chan ch
  let s1 := (s.setChan ch { x with run := none, lastDone := some r.index }).emit (.copyWrite ch r.data)
  let s2 := s1.emit (.copySlot ch r.index (dDone r.headDesc status))
  let s3 := s2.produce { cq := chanCq ch, e := copyCqe ch (dTag r.headDesc) r.index status bytes data, queue := chanBase + ch }
    canWrite
  let s4 := match x.abort with
    | some a => if a.index = r.index ∧ a.tag = dTag r.headDesc then s3.endChanAbort ch stNotFound else s3
    | none => s3
  s4.chanDrained ch

/-- The next descriptor, malformed: it starts and completes MALFORMED, and is counted (R129). -/
def State.badDesc (s : State) (ch : Nat) (canWrite : Bool) : State :=
  match s.nextDesc ch with
  | none => s
  | some d =>
    if dBad d.2 = false then s
    else if s.slotFor (chanCq ch) (chanBase + ch) then
      let s1 := s.startDesc ch d
      let s2 := s1.setChan ch { s1.chan ch with malformed := sat31 (s1.chan ch).malformed }
      s2.endDesc ch { index := d.1, headDesc := d.2, hop := d.2 } stMalformed 0 0 canWrite
    else s.waitSlot (chanCq ch) (chanBase + ch)

/-- DESC_END (R129, R130). A descriptor that cleared mastering cut short ends when mastering is back (R61). -/
def State.descEnd (s : State) (ch : Nat) (canWrite : Bool) : State :=
  match (s.chan ch).run with
  | none => s.badDesc ch canWrite
  | some r =>
    match r.result with
    | none => s
    | some (st, d) =>
      if st.toNat = stMasterOff ∧ s.mastering (chanFn ch) = false then s else s.endDesc ch r st.toNat r.total d canWrite

def execDescEnd (p : Fin 4) (c : Fin 64) (canWrite : Bool) (s : State) : Out := .next (s.descEnd (chanKey p c) canWrite)

/-- CPY_GATE_EVAL (R131). -/
def execCpyGateEval (p : Fin 4) (c : Fin 64) (s : State) : Out := .next (s.evalGate (chanKey p c))

/-- A write of CPY_CH_ABORT_HI (R117, R125). -/
def State.cpyAbort (s : State) (ch : Nat) (a : Abort) : State :=
  let x := s.chan ch
  if x.st = .running ∧ x.abort = none then (s.setChan ch { x with abort := some a }).settleChanAbort ch
  else s.setChan ch { x with dbIgnored := sat31 x.dbIgnored }

/-- CPY_ABORT (R125). -/
def execCpyAbort (p : Fin 4) (c : Fin 64) (index tag abortTag : BitVec 16) (s : State) : Out :=
  .next (s.onChan p c fun ch a => a.cpyAbort ch { index := index, tag := tag, atag := abortTag })

/-- CPY_FAULT_CLEAR (R126): a 1 clears its bit of CPY_FAULTr. -/
def execCpyFaultClear (p : Fin 4) (r : Fin 4) (v : BitVec 32) (s : State) : Out :=
  .next (s.access (fnKey p.val 3) fun a =>
    let x := a.port p.val
    a.setPort p.val { x with cpyFault := x.cpyFault &&& ~~~ BitVec.ofNat 64 (v.toNat % 65536 * 2 ^ (16 * r.val)) })

/-- CPY_CH_MALFORMED_READ (R123). -/
def execCpyChMalformedRead (p : Fin 4) (c : Fin 64) (s : State) : Out :=
  .next (s.onChan p c fun ch a => (a.setChan ch { a.chan ch with malformed := 0 }).emit (.read (a.chan ch).malformed))

/-- CPY_CH_DB_IGNORED_READ (R123). -/
def execCpyChDbIgnoredRead (p : Fin 4) (c : Fin 64) (s : State) : Out :=
  .next (s.onChan p c fun ch a => (a.setChan ch { a.chan ch with dbIgnored := 0 }).emit (.read (a.chan ch).dbIgnored))

end Sys2Proof.Machine
end

