-- ==== Sys2Proof/Machine/Rdma.lean ====
section
/-! DEFINITION. Remote memory access (11). -/

namespace Sys2Proof.Machine
open Sys2Proof

/-! ### Doorbell blocks (R277 to R279) -/

/-- The slice (4,096 for PF1 itself, none for an unassigned page) and the page of a doorbell block: a VF of PF1 has one of
its own, PF1 one on each of 256 pages (R277). -/
def State.rdqBlock (s : State) (q : QRef) : Option Nat × Nat :=
  if 4 ≤ q.fn.num.val then ((if s.vfSlice (fkey q.fn) = 4096 then none else some (s.vfSlice (fkey q.fn))), 0)
  else if q.frame = 0 then (some 4096, 0)
  else
    match s.slices.find? fun x => x.2.used ∧ recForm x.2.record = 1 ∧ recPort x.2.record = q.fn.port.val
        ∧ recPf x.2.record = 1 ∧ x.2.page = q.frame with
    | some x => (some x.1, q.frame)
    | none => (none, q.frame)

/-- The QP a local number names in a block; none where the block's slice does not hold it (R275, R277). -/
def State.localKey (s : State) (q : QRef) (sl : Option Nat) (n : Nat) : Option Nat :=
  let h := (portHalf q.fn.port).num
  match sl with
  | none => none
  | some id =>
    if id < 4096 then
      if n < recQps (s.slice id).record then some (h * 524288 + (s.slice id).qp0 + n) else none
    else if n < 524288 ∧ s.qpHolder (h * 524288 + n) = 4096 then some (h * 524288 + n)
    else none

/-- A doorbell or command of a block is ignored and counted (R277, R279, R280). -/
def State.rdqIgnored (s : State) (fk page : Nat) : State :=
  let f := s.fn fk
  s.setFn fk { f with dbIgnored := mput f.dbIgnored page (sat31 (mget f.dbIgnored page 0)) }

/-- An access to a doorbell block, which PF1 and its VFs have (R277). -/
def State.onBlock (s : State) (q : QRef) (f : State → State) : State :=
  if netRef q ∧ (4 ≤ q.fn.num.val ∨ q.frame < 256) then s.access (fkey q.fn) f else s

/-- A doorbell of the send (`i` 0) or receive queue (1) of a QP: not in RESET, and by the rules of R90; an uncached context
is fetched (R279, R280, R291). -/
def State.rdqBell (s : State) (fk page k i : Nat) (pi : BitVec 16) : State :=
  let x := s.qpk k
  let w := if s.sliceOn x.slice ∧ s.mastering fk then (s.queue (sqOf k + i)).resume else s.queue (sqOf k + i)
  if x.st ≠ .reset ∧ w.st = .running ∧ s.sliceOn w.slice ∧ w.doorbellOk pi then
    (s.setQueue (sqOf k + i) { w with doorbell := pi }).fetchQp k
  else s.rdqIgnored fk page

/-- A write of RDQ_SQ_DB or RDQ_RQ_DB (R278, R279). -/
def State.rdqDoorbell (s : State) (q : QRef) (i qp : Nat) (pi : BitVec 16) (wide : Bool) : State :=
  s.onBlock q fun a =>
    let b := a.rdqBlock q
    match a.localKey q b.1 qp with
    | some k => if wide then a.rdqBell (fkey q.fn) b.2 k i pi else a.rdqIgnored (fkey q.fn) b.2
    | none => a.rdqIgnored (fkey q.fn) b.2

/-- RDQ_SQ_DOORBELL (R279). -/
def execRdqSqDoorbell (q : QRef) (qp : BitVec 20) (pi : BitVec 16) (wide : Bool) (s : State) : Out :=
  .next (s.rdqDoorbell q 0 qp.toNat pi wide)

/-- RDQ_RQ_DOORBELL (R279). -/
def execRdqRqDoorbell (q : QRef) (qp : BitVec 20) (pi : BitVec 16) (wide : Bool) (s : State) : Out :=
  .next (s.rdqDoorbell q 1 qp.toNat pi wide)

/-- RDQ_DB_IGNORED_READ (R278): the count is returned and cleared. -/
def execRdqDbIgnoredRead (q : QRef) (s : State) : Out :=
  .next (s.onBlock q fun a =>
    let f := a.fn (fkey q.fn)
    let p := (a.rdqBlock q).2
    (a.setFn (fkey q.fn) { f with dbIgnored := merase f.dbIgnored p }).emit (.read (mget f.dbIgnored p 0)))

/-! ### MODIFY (R281, R282) -/

/-- The code of a QP state (R280). -/
def QpSt.code : QpSt → Nat
  | .reset => 0
  | .init => 1
  | .rtr => 2
  | .rts => 3
  | .error => 4

/-- The end of a command of a block: RDQ_CMD_STATUS reads the QP's state and the status (R278). -/
def State.rdqStatus (s : State) (fk page : Nat) (st : QpSt) (status : Nat) : State :=
  let f := s.fn fk
  s.setFn fk { f with rdqStatus := mput f.rdqStatus page (st.code * 256 + status) }

/-- A work queue of a QP as RESET to INIT sets it up (R97, R281). -/
def qpQueue (base log shadow fk sl : Nat) (cq : BitVec 16) (rx : Bool) : Wq :=
  { base := BitVec.ofNat 64 base, rx := rx, logSize := log, cq := cq, shadow := BitVec.ofNat 64 shadow, st := .running,
    fn := fk, slice := sl }

/-- The fields of RESET to INIT are in range, and their CQs are enabled (R281, R282). -/
def State.initOk (s : State) (k sl : Nat) (r : BitVec 1024) : Bool :=
  fld r 64 8 ≤ 1 && qrMtuCode r ≤ 4 && 6 ≤ qrSqLog r && 6 ≤ qrRqLog r && qrSqBase r % 4096 = 0 && qrRqBase r % 4096 = 0
    && qrShadow r % 16 = 0 && s.cqOk (qpHalf k) 0 sl (qrSqCq r).toNat && s.cqOk (qpHalf k) 0 sl (qrRqCq r).toNat

/-- RESET to INIT: TYPE, FLAGS, LOGS, the CQs, the rings, SHADOW and Q_KEY are taken (R282). -/
def State.qpInit (s : State) (k fk sl : Nat) (r : BitVec 1024) : State :=
  let r1 := takeBits (takeBits (takeBits (takeBits (takeBits (0#1024) r 64 8) r 72 8) r 80 8) r 96 32) r 224 32
  let r2 := takeBits r1 r 672 192
  let x : Qp := { st := .init, record := r2, slice := sl
                  sq := qpQueue (qrSqBase r) (qrSqLog r) (qrShadow r) fk sl (qrSqCq r) false
                  rq := qpQueue (qrRqBase r) (qrRqLog r) (qrShadow r + 8) fk sl (qrRqCq r) true }
  (s.setQpk k x).cacheQp k

/-- INIT to RTR: the path fields, and on RC DEST_QPN, RQ_PSN and RD_DEPTH (R282). -/
def State.qpRtr (s : State) (k : Nat) (r : BitVec 1024) : State :=
  let x := s.qpk k
  let r1 := takeBits x.record r 256 416
  let r2 := if qrUd x.record then r1 else takeBits (takeBits r1 r 128 24) r 192 24
  s.setQpk k { x with st := .rtr, record := r2, ePsn := if qrUd x.record then x.ePsn else qrRqPsn r }

/-- TIMEOUT and MIN_RNR are in range (R281). -/
def timersOk (r : BitVec 1024) : Bool := 1 ≤ qrTimeout r && qrTimeout r ≤ 24 && 1 ≤ qrMinRnr r

/-- RTR to RTS: SQ_PSN, RETRY, TIMEOUT, MIN_RNR and RD_DEPTH [3:0]; an RC QP joins its rate group (R282, R306). -/
def State.qpRts (s : State) (k : Nat) (r : BitVec 1024) : State :=
  let x := s.qpk k
  let r1 := takeBits (takeBits (takeBits (takeBits x.record r 160 24) r 592 16) r 608 4) r 616 8
  (s.setQpk k { x with st := .rts, record := r1, nextPsn := qrSqPsn r, unacked := qrSqPsn r, retries := qrRetry r,
                       rnrLeft := qrRnrRetry r }).joinGroup k

/-- RTS to RTS: FLAGS [6:3], RETRY, TIMEOUT and MIN_RNR (R282). -/
def State.qpChange (s : State) (k : Nat) (r : BitVec 1024) : State :=
  let x := s.qpk k
  s.setQpk k { x with record := takeBits (takeBits (takeBits x.record r 75 4) r 592 16) r 616 8 }

/-- To RESET: started entries end FLUSHED, unstarted ones are discarded without completion, and the context is zeroed
(R282, R303). -/
def State.qpToReset (s : State) (k : Nat) : State :=
  let x := s.qpk k
  let s1 := (s.leaveWait (sqOf k)).leaveWait (rqOf k)
  let s2 := (s1.flushStarted (sqOf k) x.sq.started).flushStarted (rqOf k) x.rq.started
  let s3 := s2.endAbort (sqOf k) stNotFound
  let s4 := (s3.setQpk k {}).pruneGroups (qpHalf k)
  if x.slice < 4096 then s4.settle x.slice else s4

/-- To ERROR (R303); a QP in RESET has no entry to flush. -/
def State.qpToError (s : State) (k fk sl : Nat) : State :=
  if (s.qpk k).st = .reset then
    s.setQpk k { st := .error, slice := sl, sq := { fn := fk, slice := sl }, rq := { fn := fk, slice := sl, rx := true } }
  else s.qpError k true

/-- A MODIFY of a QP that the block's slice holds: the transition, or none where it is not permitted or a field is out of
range (R282). -/
def State.modify (s : State) (k fk sl : Nat) (r : BitVec 1024) : Option State :=
  let x := s.qpk k
  if qrState r = 0 then some (s.qpToReset k)
  else if qrState r = 4 then some (s.qpToError k fk sl)
  else if x.st = .reset ∧ qrState r = 1 ∧ s.initOk k sl r then some (s.qpInit k fk sl r)
  else if x.st = .init ∧ qrState r = 2 then some (s.qpRtr k r)
  else if x.st = .rtr ∧ qrState r = 3 ∧ timersOk r then some (s.qpRts k r)
  else if x.st = .rts ∧ qrState r = 3 ∧ timersOk r then some (s.qpChange k r)
  else none

/-- OP of a command (R281). -/
def qrOp (r : BitVec 1024) : Nat := fld r 0 8

/-- RDQ_CMD submitted with an OP other than 2 (R278, R281, R282). -/
def State.qpModify (s : State) (q : QRef) (r : BitVec 1024) : State :=
  s.onBlock q fun a =>
    let b := a.rdqBlock q
    let fk := fkey q.fn
    match a.localKey q b.1 (qrQp r) with
    | none => a.rdqStatus fk b.2 .reset stNotFound
    | some k =>
      if qrOp r ≠ 1 then a.rdqStatus fk b.2 (a.qpk k).st stRange
      else
        match a.modify k fk (b.1.getD 4096) r with
        | some a1 => a1.rdqStatus fk b.2 (a1.qpk k).st stOk
        | none => a.rdqStatus fk b.2 (a.qpk k).st stRange

/-- QP_MODIFY (R282). -/
def execQpModify (q : QRef) (rec : BitVec 1024) (s : State) : Out := .next (s.qpModify q rec)

/-! ### ABORT (R304) -/

/-- A started entry whose first packet has not gone out stands at a stop point: it completes ABORTED, then the abort OK
(R118, R304). -/
def State.abortUnsent (s : State) (k : Nat) (a : Abort) (e : Entry) : State :=
  let q := sqOf k
  let s1 := (s.setQueue q { s.queue q with abort := none }).finish q e stAborted 0 0 0 true
  (s1.setQueue q { s1.queue q with abort := some a }).endAbort q stOk

/-- An abort of a QP's send queue (R118, R304). -/
def State.qpAbort (s : State) (k : Nat) (a : Abort) : State :=
  let q := sqOf k
  let s1 := s.setQueue q { s.queue q with abort := some a }
  match (s.queue q).started.find? fun e => a.hits e && !(s.qpk k).outst.any fun o => o.entry.index = e.index with
  | some e => (s1.abortUnsent k a e).settleQueue q
  | none => s1.settleAbort q

/-- QP_ABORT (R304): refused while the QP is not RTS or another abort of it is open. -/
def State.qpAbortCmd (s : State) (q : QRef) (r : BitVec 1024) : State :=
  s.onBlock q fun a =>
    let b := a.rdqBlock q
    let fk := fkey q.fn
    match a.localKey q b.1 (qrQp r) with
    | none => a.rdqIgnored fk b.2
    | some k =>
      if (a.qpk k).st ≠ .rts ∨ (a.qpk k).sq.abort ≠ none then a.rdqStatus fk b.2 (a.qpk k).st stRange
      else
        let t : Abort := { index := BitVec.ofNat 16 (fld r 80 16), tag := BitVec.ofNat 16 (fld r 64 16)
                           atag := BitVec.ofNat 16 (fld r 96 16) }
        (a.qpAbort k t).rdqStatus fk b.2 .rts stOk

def execQpAbort (q : QRef) (rec : BitVec 1024) (s : State) : Out := .next (s.qpAbortCmd q rec)

/-! ### Send queue entries (R285, R286) -/

/-- RDMA_SEND (R285). -/
def execRdmaSend (qp : Nat) (data : Option (List Byte)) (s : State) : Out := .next (s.rdmaStart qp 0x10 data)

/-- RDMA_SEND_IMM (R285). -/
def execRdmaSendImm (qp : Nat) (data : Option (List Byte)) (s : State) : Out := .next (s.rdmaStart qp 0x11 data)

/-- RDMA_WRITE (R285). -/
def execRdmaWrite (qp : Nat) (data : Option (List Byte)) (s : State) : Out := .next (s.rdmaStart qp 0x12 data)

/-- RDMA_WRITE_IMM (R285). -/
def execRdmaWriteImm (qp : Nat) (data : Option (List Byte)) (s : State) : Out := .next (s.rdmaStart qp 0x13 data)

/-- RDMA_READ (R285). -/
def execRdmaRead (qp : Nat) (s : State) : Out := .next (s.rdmaStart qp 0x14 none)

/-- RDMA_CAS (R285). -/
def execRdmaCas (qp : Nat) (s : State) : Out := .next (s.rdmaStart qp 0x15 none)

/-- RDMA_FADD (R285). -/
def execRdmaFadd (qp : Nat) (s : State) : Out := .next (s.rdmaStart qp 0x16 none)

/-! ### The responder (R288, R290, R295, R298 to R302, R305) -/

/-- A counter of R308, raised. -/
def State.countRdma (s : State) (h : Half) (sub n : Nat) : State := s.countH 0x6600 h sub n

/-- A key, address, length and right pass the check point of a window for a QP (R295). -/
def State.windowOk (s : State) (k : Nat) (rkey : BitVec 32) (va len right : Nat) : Bool :=
  let h := qpHalf k
  let i := fld rkey 8 24
  let w := mget (s.half h).rdma.wins (i % 131072) {}
  i / 131072 = h.num && w.st = .opened && w.gen = fld rkey 0 8 && s.holder h 3 (i % 131072) = (s.qpk k).slice
    && bit w.rights right && w.base.toNat ≤ va && va + len ≤ w.base.toNat + w.len.toNat

/-- A NAK for remote access: the rest of the message is dropped, and the QP keeps its state (R295). -/
def State.nakAccess (s : State) (k : Nat) (p : RocePkt) (n : Nat) : State :=
  let x := s.qpk k
  (s.setQpk k { x with ePsn := psnAdd p.psn n, dropMsg := !p.last, writeVa := none, unackedPkts := 0 }).answerRoce k p.psn
    .nakAccess

/-- A failed check of a window (R295). -/
def State.winFail (s : State) (k : Nat) (p : RocePkt) (n : Nat) : State :=
  (s.countRdma (qpHalf k) 6 1).nakAccess k p n

/-- ACK_COALESCE (R307). -/
def State.ackCoalesce (s : State) (h : Half) : Nat := s.param h 0xA300 8 0 8

/-- A packet received in order: the expected PSN moves, and an ACK goes out where AckReq or ACK_COALESCE asks for it
(R300). -/
def State.inOrder (s : State) (k : Nat) (p : RocePkt) : State :=
  let x := s.qpk k
  let n := x.unackedPkts + 1
  let go := p.ackReq || s.ackCoalesce (qpHalf k) ≤ n
  let s1 := s.setQpk k { x with ePsn := p.psn + 1, unackedPkts := if go then 0 else n
                                msn := if p.last then x.msn + 1 else x.msn }
  if go then s1.answerRoce k p.psn .ack else s1

/-- An RNR NAK: nothing is placed (R301). -/
def State.sendRnr (s : State) (k : Nat) (p : RocePkt) : State :=
  (s.countRdma (qpHalf k) 0x0C 1).answerRoce k p.psn (.nakRnr (rnrCode (qrMinRnr (s.qpk k).record)))

/-- The receive entry an arriving message takes: fetched, and a slot can be reserved (R109, R301). -/
def State.rqNext (s : State) (k : Nat) : Option Entry :=
  let q := rqOf k
  let w := s.queue q
  if s.sliceOn w.slice ∧ s.mastering w.fn ∧ w.st = .running then
    match w.fetched.find? fun e => e.opcode = 0x18 && !e.rqBad with
    | some e => if s.arrivalSlot (s.queueCq q) then some e else none
    | none => none
  else none

/-- QFLAGS of a responder completion (R290). -/
def respFlags (imm writeImm ud v4 : Bool) : Nat := b2n imm + 2 * b2n writeImm + 4 * b2n ud + 8 * b2n v4

/-- The immediate value of a packet, 0 where it has none. -/
def immNat (p : RocePkt) : Nat :=
  match p.imm with
  | some v => v.toNat
  | none => 0

/-- Data of a SEND for an entry whose first `got` bytes are placed: placed, and completed with its last packet; longer than
the entry, RANGE and a NAK for invalid request, and the QP enters ERROR (R290, R302). -/
def State.placeSend (s : State) (k : Nat) (p : RocePkt) (e : Entry) (got : Nat) : State :=
  let q := rqOf k
  let n := got + p.payload.length
  if e.recvRoom < n then
    ((s.finish q e stRange got 0 0 true).answerRoce k p.psn .nakInvalid).qpError k false
  else
    let s1 := s.emit (.dma q p.payload)
    if p.last then
      let s2 := s1.setQpk k { s1.qpk k with recv := none }
      ((s2.finish q e stOk n (respFlags p.imm.isSome false false false) (immNat p) true).inOrder k p).settleQueue q
    else (s1.setQpk k { s1.qpk k with recv := some (e.index, n) }).inOrder k p

/-- A SEND packet on RC in order (R290, R299, R301). -/
def State.respSend (s : State) (k : Nat) (p : RocePkt) : State :=
  if p.first then
    match s.rqNext k with
    | none => s.sendRnr k p
    | some e => (s.startEntry (rqOf k) e).placeSend k p e 0
  else
    match (s.qpk k).recv with
    | none => s
    | some (i, got) =>
      match (s.qpk k).rq.started.find? (·.index = i) with
      | some e => s.placeSend k p e got
      | none => s

/-- The address, key and length that a WRITE packet is checked with: those of its message, or what is left of it (R295). -/
def Qp.writeTarget (x : Qp) (p : RocePkt) : Option (Nat × BitVec 32 × Nat) :=
  if p.first then some (p.va.toNat, p.rkey, p.total)
  else
    match x.writeVa with
    | some (va, key, left) => some (va, BitVec.ofNat 32 key, left)
    | none => none

/-- The data of a WRITE packet placed. -/
def State.placeWrite (s : State) (k : Nat) (p : RocePkt) (va : Nat) (key : BitVec 32) (left : Nat) : State :=
  let n := p.payload.length
  let s1 := s.emit (.dma (rqOf k) p.payload)
  s1.setQpk k { s1.qpk k with writeVa := if p.last then none else some (va + n, key.toNat, left - n) }

/-- A WRITE packet in order: checked, placed, and with an immediate completed as the message ends (R290, R295, R301). -/
def State.respWrite (s : State) (k : Nat) (p : RocePkt) : State :=
  let x := s.qpk k
  match x.writeTarget p with
  | none => s
  | some (va, key, left) =>
    if qrWriteEn x.record = false then s.nakAccess k p 1
    else if s.windowOk k key va left 1 = false then s.winFail k p 1
    else if p.last ∧ p.imm.isSome then
      match s.rqNext k with
      | none => s.sendRnr k p
      | some e =>
        let s1 := (s.startEntry (rqOf k) e).placeWrite k p va key left
        ((s1.finish (rqOf k) e stOk p.total (respFlags true true false false) (immNat p) true).inOrder k p).settleQueue (rqOf k)
    else (s.placeWrite k p va key left).inOrder k p

/-- A READ: its response carries the data read from the window (R295, R299). -/
def State.respRead (s : State) (k : Nat) (p : RocePkt) : State :=
  let x := s.qpk k
  let n := packets p.total (qrMtu x.record)
  if qrReadEn x.record = false then s.nakAccess k p n
  else if s.windowOk k p.rkey p.va.toNat p.total 0 = false then s.winFail k p n
  else
    (s.setQpk k { x with ePsn := psnAdd p.psn n, msn := x.msn + 1, unackedPkts := 0 }).answerRoce k p.psn
      (.readData (fit p.total p.payload) true)

/-- An atomic: its result is cached and returned; one the host answers with Unsupported Request draws a NAK for remote
operational error (R284, R299). -/
def State.respAtomic (s : State) (k : Nat) (p : RocePkt) : State :=
  let x := s.qpk k
  if qrAtomicEn x.record = false then s.nakAccess k p 1
  else if s.windowOk k p.rkey p.va.toNat 8 2 = false then s.winFail k p 1
  else
    match p.atomicResult with
    | none => (s.setQpk k { x with ePsn := p.psn + 1, unackedPkts := 0 }).answerRoce k p.psn .nakOperational
    | some old =>
      (s.setQpk k { x with ePsn := p.psn + 1, msn := x.msn + 1, unackedPkts := 0
                           atomics := ((p.psn, old) :: x.atomics).take 32 }).answerRoce k p.psn (.atomicData old)

/-- A request packet with the expected PSN. -/
def State.respOp (s : State) (k : Nat) (p : RocePkt) : State :=
  match p.op with
  | .send => s.respSend k p
  | .write => s.respWrite k p
  | .read => s.respRead k p
  | .cas => s.respAtomic k p
  | .fadd => s.respAtomic k p

/-- A duplicate: a SEND or WRITE is acknowledged again, a READ executed again, an atomic answered from the cache (R302). -/
def State.duplicate (s : State) (k : Nat) (p : RocePkt) : State :=
  let x := s.qpk k
  let h := qpHalf k
  match p.op with
  | .send => (s.countRdma h 7 1).answerRoce k (x.ePsn - 1) .ack
  | .write => (s.countRdma h 7 1).answerRoce k (x.ePsn - 1) .ack
  | .read =>
    let s1 := s.countRdma h 8 1
    if s.windowOk k p.rkey p.va.toNat p.total 0 then s1.answerRoce k p.psn (.readData (fit p.total p.payload) true)
    else (s1.countRdma h 6 1).answerRoce k p.psn .nakAccess
  | _ =>
    match x.atomics.find? (·.1 = p.psn) with
    | some r => s.answerRoce k p.psn (.atomicData r.2)
    | none => s.countRdma h 9 1

/-- A CNP for a packet that carries CE, at most one per QP in CNP_INTERVAL_US (R305). -/
def State.sendCnp (s : State) (k : Nat) (p : RocePkt) : State :=
  let x := s.qpk k
  let h := qpHalf k
  let iv := s.param h 0xA300 2 0 32 * 1000
  let due : Bool := match x.lastCnp with
    | some t => decide (t + iv ≤ s.time h)
    | none => true
  if p.ce ∧ due then
    ((s.setQpk k { x with lastCnp := some (s.time h) }).countRdma h 0x0D 1).roceOut k x.slice (qrTxMeta x.record) (.cnp p.srcQp)
  else s

/-- A UD packet: dropped where the Q_KEY differs, counted where no entry or slot is found, else placed after 40 bytes of
header and completed (R288, R290, R301). -/
def State.respUd (s : State) (k : Nat) (p : RocePkt) : State :=
  let x := s.qpk k
  if p.op ≠ .send ∨ p.qKey.toNat ≠ qrQKey x.record then s
  else
    match s.rqNext k with
    | none => s.countRdma (qpHalf k) 0x0F 1
    | some e =>
      let q := rqOf k
      let n := 40 + p.payload.length
      let s1 := s.startEntry q e
      let data := (immNat p) + p.srcQp % 16777216 * 4294967296
      if e.recvRoom < n then (s1.finish q e stRange 0 0 0 true).settleQueue q
      else ((s1.emit (.dma q p.payload)).finish q e stOk n (respFlags p.imm.isSome false true p.ipv4) data true).settleQueue q

/-- An RC packet: in order, above the expected PSN, or a duplicate (R300, R302). -/
def State.respRc (s : State) (k : Nat) (p : RocePkt) : State :=
  let x := s.qpk k
  if p.psn = x.ePsn then
    let s1 := s.setQpk k { x with nakSent := false }
    if x.dropMsg ∧ ¬ p.first then s1.setQpk k { s1.qpk k with ePsn := p.psn + 1, dropMsg := !p.last }
    else (s1.setQpk k { s1.qpk k with dropMsg := false }).respOp k p
  else if psnDist x.ePsn p.psn < 8388608 then
    if x.nakSent then s else (s.setQpk k { x with nakSent := true }).answerRoce k x.ePsn .nakSequence
  else s.duplicate k p

/-- A packet for a QP whose context is present. -/
def State.respond (s : State) (k : Nat) (p : RocePkt) : State :=
  let x := s.qpk k
  if x.st ≠ .rtr ∧ x.st ≠ .rts then s.countRdma (qpHalf k) 2 1
  else
    let s1 := (s.useQp k).sendCnp k p
    if qrUd x.record then s1.respUd k p else s1.respRc k p

/-- The bytes of parked packets of a half. -/
def State.parkedBytes (s : State) (h : Half) : Nat :=
  ((s.half h).rdma.qps.map fun e => (e.2.parked.map fun p => p.payload.length).sum).sum

/-- A packet for an uncached context is parked and the context fetched, or dropped where the 2 MiB are full (R292). -/
def State.park (s : State) (k : Nat) (p : RocePkt) : State :=
  let h := qpHalf k
  let x := s.qpk k
  if 2097152 < s.parkedBytes h + p.payload.length then s.countRdma h 4 1
  else
    (s.setQpk k { x with parked := x.parked ++ [p], parkedAt := if x.parked = [] then s.time h else x.parkedAt }).fetchQp k

/-- A packet that XPORT of a half takes for the transport (R276, R280, R291, R292). -/
def State.roce (s : State) (h : Half) (p : RocePkt) : State :=
  let k := p.destQp - 0x100000
  if s.forwards h = false ∨ p.roce = false ∨ p.destQp < 0x100000 ∨ 0x1FFFFF < p.destQp then s
  else if qpHalf k ≠ h ∨ s.qpHolder k ≠ p.slice then s.countRdma h 1 1
  else if p.icrcOk = false then s.countRdma h 3 1
  else if (s.qpk k).st = .reset ∨ (s.qpk k).st = .init ∨ (s.qpk k).st = .error then s.countRdma h 2 1
  else if s.mastering (s.qpk k).rq.fn = false then s
  else if (s.qpk k).cached = false then s.park k p
  else s.respond k p

/-- ROCE_RECEIVE (R276). -/
def execRoceReceive (h : Half) (pkt : RocePkt) (s : State) : Out := .next (s.roce h pkt)

/-! ### Contexts and parking (R283, R291, R292) -/

/-- The parked packets of a QP, dropped and counted in PARK_TIMEOUT. -/
def State.dropParked (s : State) (k : Nat) : State :=
  let x := s.qpk k
  (s.setQpk k { x with parked := [] }).countRdma (qpHalf k) 5 x.parked.length

/-- The entry that needed a context whose fetch failed, the next one of the send queue, completes HOST_FAULT (R283). -/
def State.failNext (s : State) (k : Nat) : State :=
  let w := s.queue (sqOf k)
  match w.fetched with
  | [] => s
  | e :: rest => (s.setQueue (sqOf k) { w with fetched := rest, lastDone := some e.index }).unstartedCpl (sqOf k) e stHostFault

/-- A context fetch ends: the parked packets are handled in order, or it fails and the QP enters ERROR (R283, R292). -/
def State.contextDone (s : State) (k : Nat) (ok : Bool) : State :=
  let x := s.qpk k
  let h := qpHalf k
  if x.fetching = false then s
  else if ok then
    let s1 := (s.setQpk k { x with parked := [] }).cacheQp k
    x.parked.foldl (fun a p => a.respond k p) s1
  else
    let s1 := (s.setQpk k { x with fetching := false }).dropParked k
    let s2 := s1.logOn h 0x4002 2 (unitId h 10) (if x.slice < 4096 then x.slice else 65535) 0 (k + 0x100000)
    (s2.failNext k).qpError k false

/-- QP_CONTEXT_FETCH_DONE (R291). -/
def execQpContextFetchDone (qp : Nat) (ok : Bool) (s : State) : Out := .next (s.contextDone qp ok)

/-- 20 µs have passed since the first packet was parked (R292). -/
def State.parkTimeout (s : State) (k : Nat) : State :=
  let x := s.qpk k
  if x.parked = [] then s else (s.until (qpHalf k) (x.parkedAt + 20000)).dropParked k

/-- PARK_TIMEOUT (R292). -/
def execParkTimeout (qp : Nat) (s : State) : Out := .next (s.parkTimeout qp)

/-! ### Responses and timers of the requester (R295, R300, R301) -/

/-- An RNR NAK: the packets before its PSN are acknowledged, and the QP waits, or gives up (R301). -/
def State.gotRnr (s : State) (k : Nat) (psn : BitVec 24) (timer : Nat) : State :=
  let s1 := s.acked k (psn - 1)
  let x := s1.qpk k
  if x.rnrLeft = 0 then s1.retryOut k
  else
    s1.setQpk k { x with rnrLeft := if qrRnrRetry x.record = 7 then 7 else x.rnrLeft - 1
                         rnrAt := some (s1.time (qpHalf k) + rnrTime timer) }

/-- Data of a READ response is placed; the last completes the READ (R290). -/
def State.gotRead (s : State) (k : Nat) (psn : BitVec 24) (data : List Byte) (last : Bool) : State :=
  let s1 := s.acked k (psn - 1)
  let x := s1.qpk k
  match x.outst with
  | [] => s1
  | o :: rest =>
    if o.entry.opcode ≠ 0x14 ∨ psnDist o.psn psn * qrMtu x.record ≠ o.got then s1
    else
      let n := o.got + data.length
      let s2 := s1.emit (.dma (sqOf k) data)
      if last then s2.ackFirst k 0 else s2.setQpk k { x with outst := { o with got := n } :: rest }

/-- The response of an atomic: the original value is placed and completes the entry (R290). -/
def State.gotAtomic (s : State) (k : Nat) (psn : BitVec 24) (old : BitVec 64) : State :=
  let s1 := s.acked k (psn - 1)
  match (s1.qpk k).outst with
  | [] => s1
  | o :: _ =>
    if 0x15 ≤ o.entry.opcode ∧ o.psn = psn then (s1.emit (.dma (sqOf k) (leBytes 8 old.toNat))).ackFirst k old.toNat else s1

/-- A response to a requester QP with packets outstanding (R300). -/
def State.response (s : State) (k : Nat) (psn : BitVec 24) (a : RoceAnswer) : State :=
  match a with
  | .ack => s.acked k psn
  | .nakSequence => (s.acked k (psn - 1)).resend k psn
  | .nakRnr t => s.gotRnr k psn t
  | .nakAccess => s.nakFail k psn stAccess
  | .nakInvalid => s.nakFail k psn stRemote
  | .nakOperational => s.nakFail k psn stRemote
  | .readData d last => s.gotRead k psn d last
  | .atomicData old => s.gotAtomic k psn old

/-- ROCE_RESPONSE_RECEIVE (R300): a response whose PSN is outstanding. -/
def State.roceResponse (s : State) (h : Half) (r : RoceResp) : State :=
  let k := r.qp - 0x100000
  let x := s.qpk k
  if s.forwards h = false ∨ r.qp < 0x100000 ∨ 0x1FFFFF < r.qp ∨ qpHalf k ≠ h ∨ x.st ≠ .rts ∨ qrUd x.record ∨ x.outst = []
      ∨ s.mastering x.sq.fn = false ∨ psnDist x.unacked x.nextPsn ≤ psnDist x.unacked r.psn then s
  else (s.response k r.psn r.answer).settleQueue (sqOf k)

def execRoceResponseReceive (h : Half) (resp : RoceResp) (s : State) : Out := .next (s.roceResponse h resp)

/-- The local ACK timeout of a QP with no progress for it: one retry is used, or none is left (R300). -/
def State.ackTimeout (s : State) (k : Nat) : State :=
  let x := s.qpk k
  if x.st ≠ .rts ∨ x.outst = [] ∨ x.rnrAt ≠ none then s
  else
    let s1 := (s.until (qpHalf k) (x.ackFrom + 4096 * 2 ^ qrTimeout x.record)).countRdma (qpHalf k) 0x0B 1
    if x.retries = 0 then (s1.retryOut k).settleQueue (sqOf k)
    else (s1.setQpk k { s1.qpk k with retries := x.retries - 1 }).resend k x.unacked

/-- ACK_TIMEOUT (R300). -/
def execAckTimeout (qp : Nat) (s : State) : Out := .next (s.ackTimeout qp)

/-- RNR_TIMER_EXPIRY (R301): the requester resends from the PSN of the NAK. -/
def State.rnrExpiry (s : State) (k : Nat) : State :=
  let x := s.qpk k
  match x.rnrAt with
  | none => s
  | some t =>
    let s1 := s.until (qpHalf k) t
    (s1.setQpk k { s1.qpk k with rnrAt := none }).resend k x.unacked

def execRnrTimerExpiry (qp : Nat) (s : State) : Out := .next (s.rnrExpiry qp)

/-! ### Congestion (R305, R306) -/

/-- CC_EN (R307). -/
def State.ccEn (s : State) (h : Half) : Bool := s.param h 0xA300 1 0 1 = 1

/-- A group with one more CNP. -/
def State.groupCnp (s : State) (h : Half) (g : Nat) : State :=
  s.onHalf h fun x =>
    { x with rdma := { x.rdma with groups := mmap (fun i y => if i = g then { y with cnps := y.cnps + 1 } else y) x.rdma.groups } }

/-- CNP_RECEIVE (R306): counted, and noted by the QP's group. -/
def State.cnpReceive (s : State) (h : Half) (qp : Nat) : State :=
  let k := qp - 0x100000
  let x := s.qpk k
  if s.forwards h = false ∨ qp < 0x100000 ∨ 0x1FFFFF < qp ∨ qpHalf k ≠ h then s
  else
    let s1 := s.countRdma h 0x0E 1
    if s.ccEn h ∧ x.st = .rts ∧ ¬ qrUd x.record then s1.groupCnp h (qpGroup x.record) else s1

def execCnpReceive (h : Half) (qp : Nat) (s : State) : Out := .next (s.cnpReceive h qp)

/-- What a group does at the end of a window (R306). -/
def Group.windowEnd (g : Group) (gain beta : Rat) (full recover : Nat) (ai minRate : Rat) : Group :=
  if 0 < g.cnps then
    let share : Rat := Min.min 1 ((g.cnps : Rat) / full)
    let level := g.level + (share - g.level) * gain
    { g with level := level, ceiling := g.rate, rate := Max.max minRate (g.rate * (1 - level * beta)), calm := 0, cnps := 0 }
  else
    let level := g.level * (1 - gain)
    let calm := g.calm + 1
    if calm ≤ recover then { g with level := level, calm := calm, rate := g.rate + (g.ceiling - g.rate) / 4, cnps := 0 }
    else
      { g with level := level, calm := calm, ceiling := g.line
               rate := Min.min (g.line : Rat) (g.rate + ai * ((calm : Rat) - recover)), cnps := 0 }

/-- The groups of a half at the end of a window, with the objects of R307. -/
def State.groupsEnd (s : State) (h : Half) : State :=
  let f := fun (_ : Nat) (g : Group) =>
    g.windowEnd ((s.param h 0xA300 3 0 16384 : Rat) / 65536) ((s.param h 0xA300 5 0 32768 : Rat) / 65536)
      (s.param h 0xA300 0x0C 0 4) (s.param h 0xA300 0x0D 0 3) (s.param h 0xA300 6 0 40 : Rat) (s.param h 0xA300 7 0 100 : Rat)
  s.onHalf h fun x => { x with rdma := { x.rdma with groups := mmap f x.rdma.groups } }

/-- CC_WINDOW_END (R306): the windows of a half end together, at multiples of CC_WINDOW_US of the device timebase. -/
def State.ccWindow (s : State) (h : Half) : State :=
  let w := s.param h 0xA300 4 0 40 * 1000
  let s1 := s.until h ((s.time h / w + 1) * w)
  if s.running ∧ s.ccEn h then s1.groupsEnd h else s1

def execCcWindowEnd (h : Half) (s : State) : Out := .next (s.ccWindow h)

/-! ### Windows (R293 to R296) -/

def State.win (s : State) (h : Half) (e : Nat) : Win := mget (s.half h).rdma.wins e {}

def State.setWin (s : State) (h : Half) (e : Nat) (x : Win) : State :=
  s.onHalf h fun y => { y with rdma := { y.rdma with wins := mset y.rdma.wins e x {} } }

/-- A window whose BASE, LEN and rights may be set: CLOSED or REVOKED (R294). -/
def Win.quiet (x : Win) : Bool := x.st = .closed || x.st = .revoked

/-- A window after OPEN (R294). -/
def Win.openWith (x : Win) (rights : BitVec 3) : Win :=
  if x.quiet ∧ 0 < x.len.toNat ∧ x.base.toNat + x.len.toNat ≤ 2 ^ 64 then
    { x with gen := if x.gen = 255 then 1 else x.gen + 1, rights := rights, st := .opened }
  else { x with cmdErr := true }

/-- The effect on a window through its frame. -/
def State.onWin (s : State) (q : QRef) (f : Win → Win) : State :=
  s.onFrame q 3 fun h e sl a => a.setWin h e { f (a.win h e) with fn := a.frameFn q sl }

/-- WIN_OPEN (R294). -/
def execWinOpen (q : QRef) (rights : BitVec 3) (s : State) : Out := .next (s.onWin q (·.openWith rights))

/-- A window after REVOKE (R296). -/
def Win.revoke (x : Win) : Win := if x.st = .opened then { x with st := .revoking } else { x with cmdErr := true }

/-- WIN_REVOKE (R296). -/
def execWinRevoke (q : QRef) (s : State) : Out := .next (s.onWin q Win.revoke)

/-- WIN_REVOKE_DONE (R296): a window by half × 131,072 + pool entry. Every packet that passed its check was placed in the
step that checked it. -/
def State.revokeDone (s : State) (i : Nat) : State :=
  let h := halfOf (i / 131072)
  let x := s.win h (i % 131072)
  if x.st = .revoking then s.setWin h (i % 131072) { x with st := .revoked } else s

def execWinRevokeDone (win : Nat) (s : State) : Out := .next (s.revokeDone win)

/-- A window after writes of BASE and LEN (R294). -/
def Win.setRange (x : Win) (base : BitVec 64) (len : BitVec 40) : Win :=
  if x.quiet then { x with base := base, len := len } else { x with cmdErr := true }

/-- WIN_BASE_LEN_WRITE (R294). -/
def execWinBaseLenWrite (q : QRef) (base : BitVec 64) (len : BitVec 40) (s : State) : Out :=
  .next (s.onWin q (·.setRange base len))

/-- RDMA_CNT_CLEAR (R307). -/
def execRdmaCntClear (w : Who) (v : BitVec 8) (s : State) : Out :=
  (s.maskClear w 0xA300 0x0B v.toNat fun a h => a.clearIndex (0x6600 + h.num)).out w

end Sys2Proof.Machine
end

