-- ==== Sys2Proof/Machine/SessionOps.lean ====
section
/-! DEFINITION. The end of a session (15 R389). -/

namespace Sys2Proof.Machine
open Sys2Proof

/-- The image load in hand is cancelled: ERASED is appended for the target (R371, R382). -/
def State.cancelImage (s : State) : State :=
  { s with
    nv := s.nv.record s.trust.target slErased
    trust := { s.trust with owner := none, begun := false, verified := false, imgBusy := false } }

/-- A load is cancelled: its buffer and ownership go (R250, R395). -/
def Load.cancel (l : Load) : Load := { l with owner := none, buf := [], verified := false, busy := false }

/-- The staging set is discarded and released (R185). -/
def Staging.drop (x : Staging) : Staging := { x with owner := none, changes := [] }

/-- A session ends: its ownerships are released, with the staging set discarded and open loads cancelled, and its selections
return to their defaults (R389). An install that runs goes on. -/
def State.endSession (s : State) (ss : Session) : State :=
  let m := s.mgmt
  let l := m.nibLoad
  let s1 := { s with mgmt := { m with
    sessions := m.sessions.filter fun x => x.sess ≠ ss
    staging := if m.staging.owner = some ss then m.staging.drop else m.staging
    profile := if m.profile.owner = some ss then m.profile.cancel else m.profile
    nibLoad := if l.owner = some ss then (if l.busy then { l with owner := none } else l.cancel) else l } }
  if s1.trust.owner = some ss then s1.cancelImage else s1

end Sys2Proof.Machine
end

