-- ==== Sys2Proof/Machine/HostOps.lean ====
section
/-! DEFINITION. Bus mastering, function resets, and the loss of a host port (02 R54 to R65, 03 R81, R82). -/

namespace Sys2Proof.Machine
open Sys2Proof

/-! ### The queues of a function -/

/-- The work queues enabled through a function, and the queues of the QPs held through it, by queue number. -/
def State.fnQueues (s : State) (fk : Nat) : List Nat :=
  let h := portHalf (keyPort fk)
  let ws := (s.wqs.filter fun e => e.2.fn = fk && e.2.st != .disabled).map Prod.fst
  let qs := ((s.half h).rdma.qps.filter fun e => e.2.st != .reset && e.2.sq.fn = fk).map fun e => h.num * 524288 + e.1
  ws ++ qs.flatMap fun k => [sqOf k, rqOf k]

/-- The storage queues enabled through a function. -/
def State.fnStqs (s : State) (fk : Nat) : List Nat :=
  (s.storage.stqs.filter fun e => e.2.fn = fk && e.2.st != .disabled).map Prod.fst

/-- The copy channels of a function: PF3 has those of its port. -/
def State.fnChans (s : State) (fk : Nat) : List Nat :=
  if keyNum fk = 3 then (s.chans.filter fun e => e.1 / 64 = keyPort fk && e.2.st != .disabled).map Prod.fst else []

/-- The entries of a queue that wait for read data, by kind of queue. -/
def State.awaiting (s : State) (p kind queue : Nat) : List (BitVec 16) :=
  ((s.port p).tags.filter fun t => t.2.kind = kind && t.2.queue = queue && !t.2.quarantined && !t.2.discard).map fun t => t.2.entry

/-! ### Bus Master Enable cleared (R61) -/

/-- A work queue enters MASTER_OFF: entries short of read data end without effect, and the head-shadow word is held if the head
has not been published yet. -/
def State.queueOff (s : State) (fk q : Nat) : State :=
  let s1 := s.leaveWait q
  let w := s1.queue q
  if w.st = .disabled ∨ w.st = .masterOff then s
  else
    let short := s.awaiting (keyPort fk) (if q < qpBase then 0 else 2) q
    let s2 := (w.started.filter fun e => short.contains e.index).foldl (fun a e => a.finish q e stMasterOff 0 0 0 true) s1
    let x := s2.queue q
    if x.st = .disabled then s2
    else
      let s3 := s2.setQueue q { x with st := .masterOff }
      if w.st = .fetchFault ∧ w.started = [] then s3 else s3.shadow fk q w.head 3

/-- A storage queue enters MASTER_OFF. -/
def State.stqOff (s : State) (fk k : Nat) : State :=
  let c := s.cq (s.stqCq k)
  let s1 := s.setCq (s.stqCq k) { c with waitq := c.waitq.erase (stqBase + k) }
  let x := s1.stq k
  if x.st = .disabled ∨ x.st = .masterOff then s
  else
    let short := s.awaiting (keyPort fk) 3 k
    let s2 := (x.cmds.filter fun d => d.started && short.contains d.seq).foldl
      (fun a d => a.stFinish k d stMasterOff 0 0 true true) s1
    let y := s2.stq k
    if y.st = .disabled then s2 else (s2.setStq k { y with st := .masterOff }).shadow fk (stqBase + k) x.published 3

/-- A copy channel enters MASTER_OFF: a descriptor short of read data ends without effect. -/
def State.chanOff (s : State) (fk ch : Nat) : State :=
  let s1 := s.chanLeaveWait ch
  let x := s1.chan ch
  if x.st = .disabled ∨ x.st = .masterOff then s
  else
    let r := x.run.map fun r => if r.result = none then { r with result := some (BitVec.ofNat 8 stMasterOff, 0), data := [], total := 0 } else r
    let s2 := s1.setChan ch { x with st := .masterOff, run := r }
    if x.st = .fetchFault ∧ x.run = none then s2 else s2.shadow fk (chanBase + ch) x.head 3

/-- The answers to a function's outstanding reads are to be discarded. -/
def State.discardTags (s : State) (fk : Nat) : State :=
  let p := s.port (keyPort fk)
  s.setPort (keyPort fk) { p with tags := mmap (fun _ t => if t.fn = fk ∧ t.quarantined = false then { t with discard := true } else t) p.tags }

/-- A slice of a function, if it has one that may have no work left now. -/
def State.settleFn (s : State) (fk : Nat) : State :=
  ((s.slices.filter fun x => recFn x.2.record = fk).map Prod.fst).foldl State.settle s

/-- Bus mastering ends for a function (R61). -/
def State.clearMaster (s : State) (fk : Nat) : State :=
  let s1 := s.setFn fk { s.fn fk with bme := false }
  let s2 := (s1.fnQueues fk).foldl (fun a q => a.queueOff fk q) s1
  let s3 := (s2.fnStqs fk).foldl (fun a k => a.stqOff fk k) s2
  let s4 := (s3.fnChans fk).foldl (fun a c => a.chanOff fk c) s3
  (s4.discardTags fk).tryDetach.settleFn fk

/-! ### Bus Master Enable set (R61, R62) -/

/-- The held head-shadow words are written. -/
def State.sendShadows (s : State) (fk : Nat) : State :=
  let f := s.fn fk
  f.heldShadow.foldl (fun a x => a.emit (.shadow x.1 x.2.1 x.2.2)) (s.setFn fk { f with heldShadow := [] })

/-- The held completions are written, in order. -/
def State.sendHeld (s : State) (fk : Nat) : State :=
  let f := s.fn fk
  f.held.foldl (fun a x => a.produce x true) (s.setFn fk { f with held := [] })

/-- The held interrupts are sent. -/
def State.sendIrqs (s : State) (fk : Nat) : State :=
  let f := s.fn fk
  f.heldIrq.foldl (fun a x => a.vectorDue fk x.1 x.2) (s.setFn fk { f with heldIrq := [] })

/-- An abort that is open on an entry that has not started ends NOT_FOUND (R118). -/
def State.endLostAbort (s : State) (q : Nat) : State :=
  let w := s.queue q
  match w.abort with
  | some a => if w.started.any a.hits then s else s.endAbort q stNotFound
  | none => s

/-- A work queue leaves MASTER_OFF: fetched entries that have not started complete MASTER_OFF, and it reads DISABLED. -/
def State.queueOn (s : State) (q : Nat) : State :=
  let w := s.queue q
  if w.st = .masterOff then
    let s1 := s.setQueue q { w.discard with st := .disabled }
    let s2 := w.fetched.foldl
      (fun a e => (a.setQueue q { a.queue q with lastDone := some e.index }).unstartedCpl q e stMasterOff) s1
    s2.endLostAbort q
  else s

/-- A storage queue leaves MASTER_OFF: accepted commands that have not started complete MASTER_OFF; committed tasks that have
not been accepted are discarded (R111, R318). -/
def State.stqOn (s : State) (k : Nat) : State :=
  let x := s.stq k
  if x.st = .masterOff then
    let s1 := (x.cmds.filter fun c => !c.started).foldl (fun a c => a.stFinish k c stMasterOff 0 0 false true) s
    let y := s1.stq k
    let s2 := s1.setStq k { y with st := .disabled, committed := [], head := x.published }
    match y.abort with
    | some (a, _, _) => if y.cmds.any (·.seq = a.index) then s2 else s2.endStAbort k stNotFound
    | none => s2
  else s

/-- A copy channel leaves MASTER_OFF. A fetched descriptor's ring slot stays as it is, so that it can be fetched again. -/
def State.chanBack (s : State) (ch : Nat) : State :=
  let x := s.chan ch
  if x.st = .masterOff then
    let s1 := match x.run with
      | some r => if r.result = some (BitVec.ofNat 8 stMasterOff, 0) then s.endDesc ch r stMasterOff 0 0 true else s
      | none => s
    let s2 := s1.setChan ch { (s1.chan ch).discard with st := .disabled }
    let s3 := x.fetched.foldl (fun a d => (a.setChan ch { a.chan ch with lastDone := some d.1 }).pushDue (chanFn ch)
      { cq := chanCq ch, e := copyCqe ch (dTag d.2) d.1 stMasterOff 0 0, queue := chanBase + ch }) s2
    match (s3.chan ch).abort, (s3.chan ch).run with
    | some a, some r => if r.index = a.index then s3 else s3.endChanAbort ch stNotFound
    | some _, none => s3.endChanAbort ch stNotFound
    | none, _ => s3
  else s

/-- Bus mastering is back for a function: head-shadow words, held completions and their interrupts, then the MASTER_OFF
completions; the queues stay stopped until each is enabled (R61, R62). -/
def State.masterBack (s : State) (fk : Nat) : State :=
  let s1 := ((s.sendShadows fk).sendHeld fk).sendIrqs fk
  let s2 := (s1.fnQueues fk).foldl State.queueOn s1
  let s3 := (s2.fnStqs fk).foldl State.stqOn s2
  let s4 := (s3.fnChans fk).foldl State.chanBack s3
  (s4.tryDue fk).tryDetach.settleFn fk

/-- BME is set; in D3hot nothing more happens until the return to D0 (R58, R61). -/
def State.setMaster (s : State) (fk : Nat) : State :=
  let f := s.fn fk
  if f.bme then s
  else
    let s1 := s.setFn fk { f with bme := true }
    if s1.mastering fk then s1.masterBack fk else s1

/-! ### Function resets (R63, R81, R82) -/

/-- The queues, CQs, QPs and windows that a PF itself holds return to reset: work is discarded, windows are revoked (R63). -/
def State.resetOwn (s : State) (fk : Nat) : State :=
  let h := portHalf (keyPort fk)
  let qs := (s.wqs.filter fun e => e.2.fn = fk && e.2.slice = 4096).map Prod.fst
  let s1 := s.onHalf h fun y =>
    { y with rdma := { y.rdma with
        qps := mmap (fun _ x => if x.slice = 4096 ∧ x.sq.fn = fk then qpReset x else x) y.rdma.qps
        wins := mmap (fun w v => if v.fn = fk ∧ v.st = .opened ∧ s.holder h 3 w = 4096 then { v with st := .revoked } else v)
                  y.rdma.wins } }
  let s2 := { s1 with
    wqs := mdrop qs.contains s1.wqs
    cqs := s1.cqs.filter fun e => !(e.2.fn = fk && e.2.slice = 4096)
    chans := if keyNum fk = 3 then mdrop (fun c => c / 64 = keyPort fk) s1.chans else s1.chans
    storage := { s1.storage with
      stqs := s1.storage.stqs.filter fun e => !(e.2.fn = fk && e.2.slice = 4096)
      errSeqs := merase s1.storage.errSeqs (4096 + fk) } }
  (s2.orphan qs.contains).evalGates

/-- The slices of a PF of a port, of both forms (R82). -/
def State.pfSlices (s : State) (p pf : Nat) : List Nat :=
  (s.slices.filter fun x => recPort x.2.record = p && recPf x.2.record = pf).map Prod.fst

/-- A slice is reset; one that was DISABLING then reads DISABLED (R81, R84). -/
def State.resetSettle (s : State) (id : Nat) : State := (s.sliceReset id).settle id

/-- The VFs of a PF of a port are back in their reset state. -/
def State.dropVfs (s : State) (p pf : Nat) : State :=
  { s with fns := s.fns.filter fun e => !(keyPort e.1 = p && 4 ≤ keyNum e.1 && fnPf (keyNum e.1) = pf) }

/-- The mailbox of a port whose PF0 is reset: the session ends, and a request being served still executes, its response
discarded (R389, R402). -/
def State.resetMbox (s : State) (p : Fin 4) : State :=
  let s1 := s.endSession (.mbox p)
  let x := s1.port p.val
  s1.setPort p.val { x with
    mboxIrq := false, mboxDone := false, mboxIgnored := 0, mboxDrop := x.mboxReq.isSome, timeHi := 0
    spdm := 0, spdmKeys := 0, spdmShare := 0, spdmDraw := 0 }

/-- A function is reset (R63, R81, R82): its outstanding tags are quarantined, its work is discarded, held interrupts and
completions are dropped, and it is in its reset state. -/
def State.fnReset (s : State) (p : Fin 4) (n : Nat) : State :=
  let fk := fnKey p.val n
  let pf := fnPf n
  let mine := fun (t : Tag) => t.fn = fk || (n = pf && fnPf (keyNum t.fn) = pf)
  let s1 := s.quarantine p.val mine
  let s2 :=
    if 4 ≤ n then if s1.vfSlice fk < 4096 then s1.resetSettle (s1.vfSlice fk) else s1
    else if n = 1 ∨ n = 2 then (((s1.pfSlices p.val n).foldl State.resetSettle s1).dropVfs p.val n).resetOwn fk
    else if n = 3 then
      let a := s1.resetOwn fk
      a.setPort p.val { a.port p.val with cpyFault := 0 }
    else s1.resetMbox p
  s2.setFn fk {}

/-- A port in endpoint mode loses its link: every tag is freed, and every function is reset without quarantine (R65). -/
def State.portDown (s : State) (p : Fin 4) : State :=
  let s1 := s.setPort p.val { s.port p.val with tags := [] }
  let s2 := [0, 1, 2, 3].foldl (fun a n => a.fnReset p n) s1
  let s3 := s2.setPort p.val { s2.port p.val with up := false, rate := 0, width := 0, flit := false, ide := [] }
  ((s3.pfSlices p.val 1 ++ s3.pfSlices p.val 2)).foldl State.settle s3

end Sys2Proof.Machine
end

