-- ==== Sys2Proof/Machine/Memory.lean ====
section
/-! DEFINITION. Memory channels (13). A line is named by its number in its half's device address space (address / 128). -/

namespace Sys2Proof.Machine
open Sys2Proof

/-! ### Channels and addresses (R345, R349) -/

/-- A channel is in use: it runs, or changes speed. -/
def Dram.inUse (c : Dram) : Bool := c.st = .running || c.st = .changing

/-- The bytes of a channel. -/
def Dram.bytes (c : Dram) : Nat := c.dimms * c.gib * 1073741824

/-- The channels of a half, and those of them in use, ascending. -/
def halfChans (h : Half) : List Nat := (List.range 4).map (4 * h.num + ·)

def State.usedChans (s : State) (h : Half) : List Nat := (halfChans h).filter fun c => (s.dram c).inUse

/-- The DRAM of a half, bytes. -/
def State.dramBytes (s : State) (h : Half) : Nat := ((s.usedChans h).map fun c => (s.dram c).bytes).sum

/-- The place, among `n` channels of `each` bytes, of the channel that holds a device address (R349). -/
def chanSelect (order n each a : Nat) : Nat :=
  if n ≤ 1 then 0
  else if order < 2 then a / each
  else if order = 2 then a / 4096 % n
  else (a / 256 % 4 ^^^ a / 65536 % 4 ^^^ a / 16777216 % 4) % n

/-- The channel that holds a line of a half; none beyond its DRAM (R349). -/
def State.lineChan (s : State) (h : Half) (line : Nat) : Option Nat :=
  let us := s.usedChans h
  match us with
  | [] => none
  | c :: _ => if line * 128 < s.dramBytes h then us[chanSelect s.mem.order us.length (s.dram c).bytes (line * 128)]? else none

/-- The `i`-th line of the channel at place `k` of `n` (R349): the inverse of the channel selection. -/
def channelLine (order n each k i : Nat) : Nat :=
  if n ≤ 1 then i
  else if order < 2 then k * (each / 128) + i
  else if order = 2 then (i / 32 * n + k) * 32 + i % 32
  else
    let b := (i / 2) * n
    match (List.range n).find? fun j => chanSelect order n each ((b + j) * 256) = k with
    | some j => (b + j) * 2 + i % 2
    | none => b * 2 + i % 2

/-! ### Counters and pages (R350, R362) -/

def State.countChan (s : State) (c sub n : Nat) : State := s.count (0x6800 + c) sub n

/-- A bank's predictor and row after an access, and whether it was a hit or a conflict (R350). -/
def bankAccess (policy : Nat) (b : Nat × Option Nat) (row : Nat) : (Nat × Option Nat) × Bool × Bool :=
  let hit := b.2 = some row
  let conflict := b.2.isSome && !hit
  let n := if hit then Nat.min 3 (b.1 + 1) else if conflict then b.1 - 1 else b.1
  let keep := if policy = 0 then 2 ≤ n else policy = 2
  ((n, if keep then some row else none), hit, conflict)

/-- A line of a channel is accessed in its bank (R350, R362). -/
def State.accessBank (s : State) (c line : Nat) : State :=
  let x := s.dram c
  let b := Config.dramBank s.mem.order line
  let (v, hit, conflict) := bankAccess (s.param (chanHalf c) 0xA500 2 0 0) (mget x.banks b (2, none)) (Config.dramRow s.mem.order line)
  let s1 := s.setDram c { x with banks := mset x.banks b v (2, none) }
  if hit then s1.countChan c 9 1 else if conflict then s1.countChan c 10 1 else s1

/-! ### What the decoder finds (R347, R348, R356) -/

/-- Corrected errors are noted against a device and row: in ROW_CE_LIMIT distinct lines within 24 h, the row needs repair
(R356). -/
def State.noteCorrected (s : State) (c line device : Nat) : State :=
  let x := s.dram c
  let now := s.time (chanHalf c)
  let row := Config.dramRow s.mem.order line
  let k := row * 256 + device % 256
  let old := (mget x.ceRows k []).filter fun e => e.1 != line && now < e.2 + 86400000000000
  let l := (line, now) :: old
  let need := s.param (chanHalf c) 0xA500 0x0A 0 8 ≤ l.length && !x.needRepair.contains row
  s.setDram c { x with ceRows := mput x.ceRows k l, needRepair := if need then x.needRepair ++ [row] else x.needRepair }

/-- The content a consumer names. -/
def dramTag : DramUser → Nat × Nat
  | .writeBuffer id g => (id, g)
  | _ => (0, 0)

/-- A line turns POISONED, an event is logged, and its row needs repair (R348, R356). -/
def State.poison (s : State) (c line : Nat) (user : DramUser) : State :=
  let x := s.dram c
  let row := Config.dramRow s.mem.order line
  let s1 := s.setDram c { x with
    poisoned := mput x.poisoned line (dramTag user)
    needRepair := if x.needRepair.contains row then x.needRepair else x.needRepair ++ [row] }
  (s1.countChan c 4 1).log 0x5001 2 (unitId (chanHalf c) 14) 3 (c + 2 ^ 32 * (line * 128))

/-- The device a tag of poisoned lines leaves when a consumer writes the line anew. -/
def State.rewritten (s : State) (c line : Nat) : State :=
  s.setDram c { s.dram c with poisoned := merase (s.dram c).poisoned line }

/-- What the consumer of a line that cannot be read does (R283, R242, R348). -/
def State.consumerLoss (s : State) (c line : Nat) (user : DramUser) : State :=
  let h := chanHalf c
  match user with
  | .writeBuffer id g =>
    let n := s.ns id
    if n.home = h ∧ n.holds g then
      (s.setNs id { n with buf := merase n.buf g, bufLost := if n.bufLost.contains g then n.bufLost else n.bufLost ++ [g] }).log
        0x5001 2 (unitId h 14) 0 (c + 2 ^ 32 * (id + 2 ^ 32 * g))
    else s
  | .nsMap _ => s.rewritten c line
  | .tableSpill => s.rewritten c line
  | .qpContext i =>
    let k := h.num * 524288 + i
    let x := s.qp h i
    if x.st = .reset ∨ x.st = .error then s
    else
      let s1 := s.logOn h 0x4002 2 (unitId h 10) (if x.slice < 4096 then x.slice else 65535) 0 (k + 0x100000)
      (s1.failNext k).qpError k false
  | .nibOverflow t => if nibHalf t.unit.val = h then s.threadFault t.unit.val t.slot.val 3 else s
  | .other => s

/-- The outcome of a line's read: corrected and written back, uncorrectable, or POISONED (R347, R348, R355). -/
def State.decodeLine (s : State) (c line : Nat) (err : DramErr) (user : DramUser) (scrub : Bool) : State :=
  if (mfind (s.dram c).poisoned line).isSome then (s.countChan c 5 1).consumerLoss c line user
  else
    match err with
    | .clean => s
    | .correctable d =>
      let s1 := if scrub then s.countChan c 7 1 else s
      ((s1.countChan c 3 1).noteCorrected c line d).emit (.dram c 2)
    | .uncorrectable => (s.poison c line user).consumerLoss c line user

/-- DRAM_LINE_READ (R348): a line of a channel that is in use and not dark. -/
def State.lineRead (s : State) (c line : Nat) (err : DramErr) (user : DramUser) : State :=
  if s.running ∧ (s.dram c).st = .running ∧ s.lineChan (chanHalf c) line = some c then
    ((s.countChan c 1 1).accessBank c line).decodeLine c line err user false
  else s

def execDramLineRead (c : Fin 8) (line : Nat) (err : DramErr) (user : DramUser) (s : State) : Out :=
  .next (s.lineRead c.val line err user)

/-! ### Patrol scrub, refresh, sensors, training (R351 to R353) -/

/-- The lines of a channel. -/
def Dram.lines (c : Dram) : Nat := c.bytes / 128

/-- PATROL_SCRUB (R353): the next line of the channel, in the order of its own addresses. -/
def State.patrolScrub (s : State) (c : Nat) (err : DramErr) : State :=
  let x := s.dram c
  let us := s.usedChans (chanHalf c)
  if s.running ∧ x.st = .running then
    let line := channelLine s.mem.order us.length x.bytes (us.idxOf c) x.scrub
    let s1 := s.setDram c { x with scrub := if x.scrub + 1 < x.lines then x.scrub + 1 else 0 }
    (s1.countChan c 6 1).decodeLine c line err .other true
  else s

def execPatrolScrub (c : Fin 8) (err : DramErr) (s : State) : Out := .next (s.patrolScrub c.val err)

/-- REFRESH (R351): a rank of a channel that runs. -/
def execRefresh (c : Fin 8) (rank : Nat) (s : State) : Out :=
  .next (let x := s.dram c.val
         if s.running ∧ x.st = .running ∧ rank < x.dimms * x.ranks then s.emit (.dram c.val 1) else s)

/-- The distance of two temperatures. -/
def tempGap (a b : Int) : Nat := (a - b).natAbs

/-- DIMM_SENSOR_POLL (R351, R352). -/
def State.sensorPoll (s : State) (c : Nat) (t : Int) : State :=
  let x := s.dram c
  if s.running ∧ x.inUse then
    let s1 := s.setDram c { x with temp := t, hot := 95 ≤ t, retrainDue := x.retrainDue || 20 ≤ tempGap t x.centred }
    if 95 ≤ t ∧ x.hot = false then s1.log 0x5003 0 (unitId (chanHalf c) 14) 0 c else s1
  else s

def execDimmSensorPoll (c : Fin 8) (tempC : Int) (s : State) : Out := .next (s.sensorPoll c.val tempC)

/-- DQS_TRACK (R352). -/
def execDqsTrack (c : Fin 8) (s : State) : Out :=
  .next (if s.running ∧ (s.dram c.val).st = .running then s.emit (.dram c.val 3) else s)

/-- No channel of a half is dark (R354). -/
def State.noneDark (s : State) (h : Half) : Bool := (halfChans h).all fun c => (s.dram c).st != .changing

/-- CHANNEL_RETRAIN (R352, R355). -/
def State.retrain (s : State) (c : Nat) : State :=
  let x := s.dram c
  if s.running ∧ x.st = .running ∧ x.retrainDue ∧ s.noneDark (chanHalf c) then
    let s1 := s.setDram c { x with centred := x.temp, retrainDue := false }
    (s1.countChan c 11 (Config.retrainDark s.fresh % 8001)).fresher
  else s

def execChannelRetrain (c : Fin 8) (s : State) : Out := .next (s.retrain c.val)

/-! ### Frequency change (R354, R355) -/

/-- The channels that a change still has to pass. -/
def State.switchLeft (s : State) (h : Half) : List Nat := (s.usedChans h).filter fun c => !(s.dram c).switchDone

/-- A change is over once the last channel of both halves has exited (R354). -/
def State.switchEnd (s : State) : State :=
  if (s.switchLeft .k).isEmpty ∧ (s.switchLeft .q).isEmpty then { s with mem := { s.mem with busy := false } } else s

/-- A change begins (R354). During a split it runs on the serving half. -/
def State.switchBegin (s : State) (ss : Session) (setB : Bool) : State :=
  let reach := fun h => s.cstl.split = false || h = s.server ss
  let chans := mmap (fun k c => { c with switchDone := !reach (chanHalf k) }) s.mem.chans
  ({ s with mem := { s.mem with chans := chans, busy := true, target := setB } }).switchEnd

/-- FREQ_CMD (R354, R355): refused while a change runs. -/
def State.freqCmd (s : State) (w : Who) (v : Nat) : Out :=
  (s.write w 0xA500 5 (leBytes 1 v) idle always fun a => if a.mem.busy then none else some (a.switchBegin w.sess (v = 2))).out w

/-- FREQ_CMD_SET_A (R354). -/
def execFreqCmdSetA (w : Who) (s : State) : Out := s.freqCmd w 1

/-- FREQ_CMD_SET_B (R354). -/
def execFreqCmdSetB (w : Who) (s : State) : Out := s.freqCmd w 2

/-- CHANNEL_FREQ_SWITCH (R354): the lowest channel of the half that the change has not passed, none of the half being dark. -/
def State.freqSwitch (s : State) (c : Nat) : State :=
  let x := s.dram c
  let h := chanHalf c
  if s.mem.busy ∧ x.st = .running ∧ (s.switchLeft h).head? = some c ∧ s.noneDark h then s.setDram c { x with st := .changing } else s

def execChannelFreqSwitch (c : Fin 8) (s : State) : Out := .next (s.freqSwitch c.val)

/-- CHANNEL_FREQ_SWITCH_DONE (R354): dark for at most 12 µs. -/
def State.freqDone (s : State) (c dark : Nat) : State :=
  let x := s.dram c
  if x.st = .changing then
    let s1 := s.setDram c { x with st := .running, setB := s.mem.target, speed := if s.mem.target then x.speedB else x.speedA, switchDone := true }
    (s1.countChan c 11 (Nat.min dark 12000)).switchEnd
  else s

def execChannelFreqSwitchDone (c : Fin 8) (darkNs : Nat) (s : State) : Out := .next (s.freqDone c.val darkNs)

/-! ### Repair and retirement (R357, R358) -/

/-- Spare pages of a half left in its retirement reserve (R358, R361). -/
def State.sparesUsed (s : State) (h : Half) : Nat :=
  match h with
  | .k => s.mem.usedK
  | .q => s.mem.usedQ

def State.sparesLeft (s : State) (h : Half) : Nat := s.carve h 0 / 4096 - s.sparesUsed h

/-- A page of device address is retired, or stays in use where the reserve is exhausted (R358). -/
def State.retirePage (s : State) (c page : Nat) : State :=
  let h := chanHalf c
  let x := s.dram c
  if x.retired.contains page then s
  else if s.sparesLeft h = 0 then
    let s1 := s.setUnit h 14 { s.unit h 14 with degraded := true }
    s1.log 0x5004 2 (unitId h 14) 0 (c + 2 ^ 32 * (page * 4096))
  else
    let s1 := s.setDram c { x with retired := x.retired ++ [page] }
    let s2 := { s1 with mem := match h with
      | .k => { s1.mem with usedK := s1.mem.usedK + 1 }
      | .q => { s1.mem with usedQ := s1.mem.usedQ + 1 } }
    s2.ownWrite fun p => { p with retired := mput p.retired c (x.retired ++ [page]) }

/-- The pages of the lines of a row that are known to have failed. -/
def State.rowPages (s : State) (c row : Nat) : List Nat :=
  let x := s.dram c
  let bad := (x.poisoned.map Prod.fst).filter fun l => Config.dramRow s.mem.order l = row
  let ce := (x.ceRows.filter fun e => e.1 / 256 = row).flatMap fun e => e.2.map Prod.fst
  ((bad ++ ce).map (· / 32)).eraseDups

/-- ROW_REPAIR (R355, R357): a row that needs repair, on a channel that no change holds. -/
def State.rowRepair (s : State) (c row : Nat) (resource : Bool) : State :=
  let x := s.dram c
  if s.running ∧ x.st = .running ∧ x.needRepair.contains row then
    let pages := s.rowPages c row
    let y := { x with needRepair := x.needRepair.erase row, ceRows := x.ceRows.filter fun e => e.1 / 256 != row }
    if resource then s.setDram c { y with repaired := x.repaired + 1, soft := x.soft ++ [row] }
    else pages.foldl (fun a p => a.retirePage c p) (s.setDram c y)
  else s

def execRowRepair (c : Fin 8) (row : Nat) (resource : Bool) (s : State) : Out := .next (s.rowRepair c.val row resource)

/-! ### Cold start: training and carve-outs (R345, R352, R359, R360) -/

/-- Channels whose populations are identical (R345). -/
def Dram.same (a b : Dram) : Bool :=
  a.dimms = b.dimms && a.gib = b.gib && a.ranks = b.ranks && a.x8 = b.x8 && a.grade = b.grade

/-- The first `n` channels of identical population, counted from the lowest that begins such a set (R345). -/
def State.sameSet (s : State) (cs : List Nat) (n : Nat) : Option (List Nat) :=
  (cs.filterMap fun c =>
    let l := (cs.filter fun d => c ≤ d && (s.dram c).same (s.dram d)).take n
    if l.length = n then some l else none).head?

/-- The set of channels a half uses, of those that can be used: 4, 2 or 1 (R345). -/
def State.chooseSet (s : State) (cs : List Nat) : List Nat :=
  match s.sameSet cs 4 with
  | some l => l
  | none =>
    match s.sameSet cs 2 with
    | some l => l
    | none => (s.sameSet cs 1).getD []

/-- Channels left out, each with its event (R345). -/
def State.leaveOut (s : State) (cs : List Nat) : State :=
  cs.foldl (fun a c => (a.setDram c { a.dram c with st := .leftOut, speed := 0 }).log 0x5002 1 (unitId (chanHalf c) 14) 0 c) s

/-- The sizes a half's carve-outs ask for, in table order (R359). -/
def State.carveAsk (s : State) (h : Half) : List Nat :=
  [s.param h 0xA500 9 0 64 * 1048576, 536870912, 402653184, s.param h 0xA500 8 0 1 * 1073741824,
   s.param h 0xA500 7 0 8 * 1073741824, mapBytes (s.poolCap h)]

/-- The sizes that fit: the nib shared overflow is reduced first, then the write buffer, and a map that fits not even then is
not held (R360). -/
def carveFit (total : Nat) (ask : List Nat) : List Nat :=
  let a := fun i => ask.getD i 0
  let room := total - (a 0 + a 1 + a 2)
  let map := if a 5 ≤ room then a 5 else 0
  let wbuf := Nat.min (a 4) (room - map)
  [a 0, a 1, a 2, Nat.min (a 3) (room - map - wbuf), wbuf, map]

def State.setCarve (s : State) (h : Half) (l : List Nat) : State :=
  match h with
  | .k => { s with mem := { s.mem with carveK := l } }
  | .q => { s with mem := { s.mem with carveQ := l } }

/-- The carve-outs of a half are reserved, once its training is over (R359, R360). -/
def State.carveOut (s : State) (h : Half) : State :=
  if (s.usedChans h).isEmpty then s.setCarve h []
  else
    let ask := s.carveAsk h
    let got := carveFit (s.dramBytes h) ask
    let s1 := s.setCarve h got
    let c := 4 * h.num
    let s2 := if got.getD 3 0 < ask.getD 3 0 ∨ got.getD 4 0 < ask.getD 4 0 then s1.log 0x5005 1 (unitId h 14) 0 c else s1
    if got.getD 5 0 < ask.getD 5 0 then s2.log 0x5006 2 (unitId h 14) 0 c else s2

/-- The training of a half is over: of the channels that trained, the set of R345 runs. -/
def State.trainingOver (s : State) (h : Half) : State :=
  if (halfChans h).any fun c => (s.dram c).st = .training then s
  else
    let us := s.usedChans h
    (s.leaveOut (us.filter fun c => !(s.chooseSet us).contains c)).carveOut h

/-- A speed, capped by what a channel's population allows (R344, R361). -/
def Dram.cap (c : Dram) (speed : Nat) : Nat := Nat.min (Nat.min speed c.grade) (if c.dimms = 2 then 5600 else 6400)

/-- Full training, after a failed check of the DDR_PHY section, rewrites the channel's 64 KiB of it (R352, R405). -/
def State.rewritePhy (s : State) (c : Nat) : State :=
  if s.nv.sectionOk 0x41 128 then s
  else
    let n := (List.range 16).foldl (fun n i => n.writePage (0x41 + 16 * c + i) (freePage s.fresh (0x41 + 16 * c + i))) s.nv
    { s.fresher with nv := n }

/-- DRAM_TRAINING_DONE (R345, R352, R357, R405). -/
def State.trainingDone (s : State) (c : Nat) (ok : Bool) : State :=
  let x := s.dram c
  let h := chanHalf c
  let u := (s.unit h 14).st
  if x.st ≠ .training ∨ (u ≠ .active ∧ u ≠ .returning) then s
  else if ok then
    let a := x.cap (s.param h 0xA500 3 0 6400)
    let y : Dram := { x with st := .running, speedA := a, speedB := x.cap (s.param h 0xA500 4 0 4800), speed := a, setB := false,
                             banks := [], soft := [], centred := x.temp, retrainDue := false }
    ((s.rewritePhy c).setDram c y).trainingOver h
  else ((s.setDram c { x with st := .failed, speed := 0 }).log 0x5002 1 (unitId h 14) 0 c).trainingOver h

def execDramTrainingDone (c : Fin 8) (ok : Bool) (s : State) : Out := .next (s.trainingDone c.val ok)

/-- MEM_CNT_CLEAR (R362): the counters of the channels of the halves named. -/
def execMemCntClear (w : Who) (v : BitVec 8) (s : State) : Out :=
  (s.maskClear w 0xA500 0x0E v.toNat fun a h => (halfChans h).foldl (fun b c => b.clearIndex (0x6800 + c)) a).out w

end Sys2Proof.Machine
end

