-- ==== Sys2Proof/Machine/PolicerOps.lean ====
section
/-! DEFINITION. Policers: colours, tokens and remarks (08 R208 to R210), and the DSCP and ECN field of a frame. -/

namespace Sys2Proof.Machine
open Sys2Proof

/-! ### The traffic-class byte of a frame's outer IP header -/

/-- A sum folded to 16 bits, carries added in. -/
def foldSum (n : Nat) : Nat :=
  let a := n % 65536 + n / 65536
  a % 65536 + a / 65536

/-- A header checksum after one of its words has changed from `m` to `m'` (RFC 1624). -/
def sumUpdate (hc m m' : Nat) : Nat := 65535 - foldSum (65535 - hc + (65535 - m) + m')

/-- The offset and version of the outer IP header by the metadata word: none without IP, ARP being none (R171). -/
def ipAt (md : BitVec 256) (bs : List Byte) : Option (Nat × Nat) :=
  let v := beAt bs (mdL3 md) 1 / 16
  if mdL3 md = 0 ∨ bit md 130 ∨ (v ≠ 4 ∧ v ≠ 6) then none else some (mdL3 md, v)

/-- The TOS or traffic-class byte of an IP header. -/
def tosAt (bs : List Byte) (l3 v : Nat) : Nat := if v = 4 then beAt bs (l3 + 1) 1 else beAt bs l3 2 / 16 % 256

/-- The byte replaced, and the IPv4 header checksum updated (R197, R209). -/
def putTos (bs : List Byte) (l3 v tos : Nat) : List Byte :=
  if v = 4 then
    let m := beAt bs l3 2
    let b := patch bs (l3 + 1) (beBytes 1 tos)
    patch b (l3 + 10) (beBytes 2 (sumUpdate (beAt bs (l3 + 10) 2) m (beAt b l3 2)))
  else patch bs l3 (beBytes 2 (beAt bs l3 2 / 4096 * 4096 + tos % 256 * 16 + beAt bs l3 2 % 16))

/-! ### Policers (R208) -/

def State.policer (s : State) (h : Half) (i : Nat) : Policer := mget (s.half h).tmgr.pols i {}

def State.setPolicer (s : State) (h : Half) (i : Nat) (x : Policer) : State :=
  s.onHalf h fun y => { y with tmgr := { y.tmgr with pols := mset y.tmgr.pols i x {} } }

def poMode (r : BitVec 256) : Nat := fld r 0 2
def poAware (r : BitVec 256) : Bool := bit r 2
def poYellow (r : BitVec 256) : Nat := fld r 4 2
def poDscp (r : BitVec 256) : Nat := fld r 8 6
def poOverhead (r : BitVec 256) : Int := signed 8 (fld r 16 8)
def poCir (r : BitVec 256) : Nat := fld r 32 32
def poPir (r : BitVec 256) : Nat := fld r 64 32
def poCbs (r : BitVec 256) : Nat := fld r 96 32
def poEbs (r : BitVec 256) : Nat := fld r 128 32

/-- The tokens of a rate in kb/s over an interval in ns, in 2^-32 byte (R205, R209). -/
def tokensNs (rate ns : Nat) : Nat := rate * ns * 4294967296 / 8000000

/-- A policer with the tokens of the time since its last charge: in mode 1 what overflows the committed bucket goes to the
excess bucket (RFC 2697), in mode 2 each bucket has its own rate (RFC 2698; R209). -/
def Policer.accrue (x : Policer) (now : Nat) : Policer :=
  let r := x.record
  let a := x.tc + tokensNs (poCir r) (now - x.last)
  let cap := poCbs r * 4294967296
  let ecap := poEbs r * 4294967296
  let tc := Nat.min a cap
  let te := if poMode r = 2 then x.te + tokensNs (poPir r) (now - x.last) else x.te + (a - tc)
  { x with tc := tc, te := Nat.min te ecap, last := now }

/-- Colours (R209). -/
inductive Colour where
  | green
  | yellow
  | red
deriving DecidableEq, Repr

/-- A frame of `n` units of 2^-32 byte coloured, `pre` saying that it enters as yellow: RFC 2697 for mode 1, RFC 2698 for
mode 2, green in mode 0 (R208, R209). -/
def Policer.colour (x : Policer) (n : Nat) (pre : Bool) : Policer × Colour :=
  if poMode x.record = 1 then
    if pre = false ∧ n ≤ x.tc then ({ x with tc := x.tc - n }, .green)
    else if n ≤ x.te then ({ x with te := x.te - n }, .yellow)
    else (x, .red)
  else if poMode x.record = 2 then
    if x.te < n then (x, .red)
    else if pre ∨ x.tc < n then ({ x with te := x.te - n }, .yellow)
    else ({ x with tc := x.tc - n, te := x.te - n }, .green)
  else (x, .green)

/-- The counters of a colour advance: frames and bytes of green, yellow and red from 0 on (R212). -/
def Policer.tally (x : Policer) (c : Colour) (bytes : Nat) : Policer :=
  let k := match c with
    | .green => 0
    | .yellow => 2
    | .red => 4
  { x with stats := mset (mset x.stats k (mget x.stats k 0 + 1) 0) (k + 1) (mget x.stats (k + 1) 0 + bytes) 0 }

/-- The frame has an outer VLAN tag (R166). -/
def vlanAt (bs : List Byte) : Bool := beAt bs 12 2 = 0x8100 || beAt bs 12 2 = 0x88A8

/-- DEI of the outer tag, if there is one (R209). -/
def outerDei (bs : List Byte) : Bool := vlanAt bs && beAt bs 14 1 / 16 % 2 = 1

/-- A yellow frame remarked as YELLOW_ACT says (R208, R209). -/
def Policer.remark (x : Policer) (f : Frame) : Frame :=
  let act := poYellow x.record
  let b1 := if act % 2 = 1 ∧ vlanAt f.bytes ∧ outerDei f.bytes = false then patch f.bytes 14 (beBytes 1 (beAt f.bytes 14 1 + 16))
            else f.bytes
  match ipAt f.md b1 with
  | some (l3, v) =>
    if 2 ≤ act then { f with bytes := putTos b1 l3 v (poDscp x.record * 4 + tosAt b1 l3 v % 4) } else { f with bytes := b1 }
  | none => { f with bytes := b1 }

/-- A frame is charged to a policer: the device after it, and the frame unless it was red (R209, R210). -/
def State.police (s : State) (h : Half) (p : Nat) (f : Frame) : State × Option Frame :=
  let x := (s.policer h p).accrue (s.time h)
  let len := ((f.bytes.length + 4 : Nat) + poOverhead x.record).toNat
  let r := x.colour (len * 4294967296) (poAware x.record && outerDei f.bytes)
  let s1 := s.setPolicer h p (r.1.tally r.2 (f.bytes.length + 4))
  match r.2 with
  | .green => (s1, some f)
  | .yellow => (s1.countH 0x6300 h 9 1, some (x.remark f))
  | .red => ((s1.countH 0x6300 h 0x0A 1).lostSend f, none)

end Sys2Proof.Machine
end

