-- ==== Sys2Proof/Machine/Classify.lean ====
section
/-! DEFINITION. The pipelines, the ordered streams, and the end of classification (07 R163 to R165, R179 to R184). -/

namespace Sys2Proof.Machine
open Sys2Proof

/-! ### Pipelines and streams (R163, R164) -/

/-- The pipelines in service of a half: two of each ACTIVE PARSE unit (R163, R165). -/
def State.pipes (s : State) (h : Half) : List Nat := (List.range 6).filter fun p => s.active h (4 + p / 2)

/-- The frames inside a pipeline. -/
def State.pipeUse (s : State) (h : Half) (p : Nat) : Nat :=
  ((s.half h).cls.flight.filter fun f => f.stage = .ordered && f.pipe = p).length

/-- The least-occupied pipeline in service, the lowest of equals (R163). -/
def State.choosePipe (s : State) (h : Half) : Option Nat :=
  (s.pipes h).foldl (fun b p =>
    match b with
    | some q => if s.pipeUse h p < s.pipeUse h q then some p else some q
    | none => some p) none

/-- The ingress stream of a frame: its Ethernet port, or 16 and on its work queue (R164). -/
def Frame.stream (f : Frame) : Nat := if f.dir then 16 + f.wq else f.port

/-- The next number of a stream of a half, taken (R164). -/
def State.numberFrame (s : State) (h : Half) (f : Frame) : State × Frame :=
  let n := mget (s.half h).cls.numbered f.stream 0
  (s.onHalf h fun x => { x with cls := { x.cls with numbered := mset x.cls.numbered f.stream (n + 1) 0 } }, { f with seq := n })

/-! ### Classification (R171 to R178) -/

/-- HASH_KEY as bytes, and HASH_SEL (R173, R189). -/
def State.hashKey (s : State) (h : Half) : List Byte := leBytes 40 (s.param h 0xA000 9 0 Config.hashKey.toNat)
def State.hashOuter (s : State) (h : Half) : Bool := s.param h 0xA000 8 0 0 = 1

/-- The metadata word at entry, parse fields apart (R171, R172). -/
def Frame.entryWord (f : Frame) : BitVec 256 := if f.dir then f.md else BitVec.ofNat 256 (f.port * 2 ^ 144)

/-- A frame parsed: checksums inserted for a sender that asked, verified for a receiver, and the word filled (R94, R107,
R171 to R173). -/
def State.parsed (s : State) (h : Half) (f : Frame) (p : Psr) : Frame :=
  let bs := if f.dir then p.checksums f.bytes (bit f.opspec 1) (bit f.opspec 2) else f.bytes
  let hash := toeplitz (s.hashKey h) (p.hashInput bs (s.hashOuter h))
  { f with bytes := bs, md := p.word f.entryWord hash f.macsec
           l3Ok := !f.dir && p.l3Good bs, l4Ok := !f.dir && p.l4Good bs }

/-- The hit and miss counters of the stages (R190). -/
def State.countStages (s : State) (h : Half) (dir : Nat) (marks : List (Nat × Bool)) : State :=
  marks.foldl (fun a m => a.countCls h (1 + m.1 + 8 * dir + (if m.2 then 0 else 4)) 1) s

/-- Steps 5 to 7 of R179. -/
def State.afterChecks (s : State) (h : Half) (f : Frame) : State :=
  let r := if f.polEn then s.police h (mdPolicer f.md) f else (s, some f)
  match r.2 with
  | none => r.1
  | some g => if mdAprog g.md ≠ 0 then r.1.toProgram h g else r.1.addFlight h { g with stage := .ordered }

/-- Steps 2 to 4 of R179. -/
def State.mirrorAndCheck (s : State) (h : Half) (f : Frame) : State :=
  let s1 := if mdMirror f.md ≠ 0 then s.mirror h (mdMirror f.md) f else s
  if mdVerdict f.md = 1 then (s1.countCls h 0x16 1).lostSend f
  else
    match s1.isolate h f with
    | some s2 => s2
    | none => s1.afterChecks h f

/-- The end of classification (R179). -/
def State.classified (s : State) (h : Half) (f : Frame) (err punt : Nat) : State :=
  if err ≠ 0 then (s.countCls h 0x11 1).toException h f 2 err
  else if mdVerdict f.md = 2 then (s.countCls h 0x13 1).toException h f 3 punt
  else if f.dir = false ∧ mdChosen f.md = false ∧ mdVerdict f.md = 0 then (s.countCls h 0x12 1).toException h f 1 0
  else s.mirrorAndCheck h f

/-- A frame handed to a pipeline is numbered in its stream, parsed, and passed through the stages of its direction; a frame
whose parsing failed skips them (R163, R164, R170, R175). -/
def State.enterPipe (s : State) (h : Half) (pipe : Nat) (f : Frame) : State :=
  let r := s.numberFrame h f
  let t := (r.1.half h).cls.live
  let p := parse t f.bytes
  let g := r.1.parsed h { r.2 with pipe := pipe } p
  let dir := b2n f.dir
  let y : Staged := if p.err ≠ 0 then { md := g.md } else t.classify dir g.bytes g.md
  (r.1.countStages h dir y.marks).classified h { g with md := y.md, polEn := y.polEn, leafSet := y.leafSet } p.err y.punt

/-- PIPELINE_ENTRY (R163): the oldest frame that has arrived; where no pipeline is in service the half has no capacity and
drops it (R412). -/
def State.pipelineEntry (s : State) (h : Half) : State :=
  if s.forwards h = false then s
  else
    match s.takeFlight h (·.stage = .parse) with
    | none => s
    | some (f, s1) =>
      match s1.choosePipe h with
      | none => (s1.countH 0x6A00 h 1 1).lostSend f
      | some p => s1.enterPipe h p f

def execPipelineEntry (h : Half) (s : State) : Out := .next (s.pipelineEntry h)

/-- ORDERED_RELEASE (R164): the first frame of a stream leaves the pipelines in order of arrival, a received one to TMGR, a
host-transmit one to CIPHER (R34, R35). -/
def State.orderedRelease (s : State) (h : Half) (stream : Nat) : State :=
  match s.takeFlight h fun f => f.stage = .ordered && f.stream = stream with
  | none => s
  | some (f, s1) => s1.addFlight h { f with stage := if f.dir then .espTx else .tmgr }

def execOrderedRelease (h : Half) (stream : Nat) (s : State) : Out := .next (s.orderedRelease h stream)

end Sys2Proof.Machine
end

