-- ==== Sys2Proof/Machine/Stage.lean ====
section
/-! DEFINITION. Staging and commit, the classification counters, and transmit steering records (07 R169, R175, R184 to R189,
R457, 16 R432). -/

namespace Sys2Proof.Machine
open Sys2Proof

/-! ### Staged changes (R185, R457) -/

/-- A change: its bytes from the lowest bits up. -/
abbrev Change := BitVec 896

def chOp (c : Change) : Nat := fld c 0 8
def chHalves (c : Change) : Nat := fld c 8 2
def chTable (c : Change) : Nat := fld c 16 8
def chIndex (c : Change) : Nat := fld c 32 32
def chByte (c : Change) (i : Nat) : Nat := fld c (8 * i) 8

/-- The EM or TERN key and the TERN mask, most significant byte first (R457). -/
def chKey (c : Change) : Nat := beNat (leBytes 40 (fld c 64 320))
def chMask (c : Change) : Nat := beNat (leBytes 40 (fld c 384 320))
def chVrf (c : Change) : Nat := fld c 64 16

/-- The address of an LPM change, in network order, for a table of `n` bytes (R457). -/
def chAddr (c : Change) (n : Nat) : Nat := beNat (leBytes n (fld c 80 (8 * n)))
def chAct (c : Change) : BitVec 192 := BitVec.ofNat 192 (fld c 704 192)
def chCfg (c : Change) : BitVec 832 := BitVec.ofNat 832 (fld c 64 832)
def chNode (c : Change) : BitVec 256 := BitVec.ofNat 256 (fld c 64 256)

/-- The item code of a change (R434). -/
def chItem (c : Change) : Nat :=
  if chOp c ≤ 3 then chTable c
  else if chOp c = 4 then 0x10 + 4 * (chTable c / 128) + chTable c % 4
  else if chOp c = 5 then 0x20
  else 0x30 + chByte c 8

/-- The entry of a change as R434 names it. -/
def chEntry (c : Change) : Nat :=
  if chOp c ≤ 3 then (if chTable c = 1 then 0 else chIndex c)
  else if chOp c = 5 then chIndex c
  else if chOp c = 6 then chByte c 9
  else 0

/-! ### The checks of a change (R169, R175, R177, R186) -/

/-- An action record's fields are in range (R177). -/
def actOk (a : BitVec 192) : Bool := actSpread a ≤ 6

/-- A next-node value (R169). -/
def nextOk (n : Nat) : Bool := n ≤ 0x8A || n = 0xFE || n = 0xFF

/-- A node record is accepted; one with VALID 0 is not checked (R169). -/
def nodeOk (r : BitVec 256) : Bool :=
  !bit r 7 ||
    (nextOk (ndByte r 12) && nextOk (ndByte r 16) && nextOk (ndByte r 20) && nextOk (ndByte r 24) && nextOk (ndByte r 26)
      && (bit r 6 || ndByte r 1 != 0) && ndByte r 2 ≤ 63 && ndByte r 5 ≤ 63 && fld r 226 2 + (fld r 224 2 + 1) ≤ 4)

/-- A stage configuration is in range (R175). -/
def cfgOk (c : BitVec 832) : Bool :=
  cfgTable c ≤ 8 && cfgPieces c ≤ 9 && actOk (cfgMiss c)
    && (List.range (cfgPieces c)).all fun i =>
        cfgPiece c i / 2 ^ 29 ≤ 5 && (cfgPiece c i / 2 ^ 29 != 0 || cfgPiece c i % 256 ≤ 7)

/-- The fields of a change are in range, its HALVES apart (R169, R174, R175, R177, R185). -/
def changeOk (c : Change) : Bool :=
  let t := chTable c
  if 1 ≤ chOp c ∧ chOp c ≤ 3 then
    1 ≤ t && t ≤ 8 && actOk (chAct c)
      && (t != 2 || (chIndex c ≤ 32 && fld c 112 96 = 0)) && (t != 3 || chIndex c ≤ 128)
      && (t != 4 || chIndex c < 8192) && (t < 5 || chIndex c < 65536)
  else if chOp c = 4 then cfgOk (chCfg c)
  else if chOp c = 5 then chIndex c < 128 && nodeOk (chNode c)
  else if chOp c = 6 then chByte c 8 ≤ 2 && chByte c 9 ≤ 15 && (chByte c 13 % 2 = 0 || nextOk (chByte c 12))
  else false

/-! ### A change applied (R174, R185, R186) -/

/-- The room the routes take: two of the 131,072 for an IPv6 route (R174). -/
def Tables.routes (t : Tables) : Nat := t.lpm4.length + 2 * t.lpm6.length

def Lpm.same (r x : Lpm) : Bool := r.vrf = x.vrf && r.len = x.len && r.addr = x.addr

/-- An operation on a list of routes; none where presence is not as it needs. -/
def routeOp (l : List Lpm) (op : Nat) (r : Lpm) : Option (List Lpm) :=
  let here := l.any r.same
  if op = 1 then (if here then none else some (l ++ [r]))
  else if here = false then none
  else if op = 2 then some (l.map fun x => if r.same x then r else x)
  else some (l.filter fun x => !r.same x)

/-- An operation on a table by key. -/
def mapOp {α : Type} (m : Map α) (op k : Nat) (v : α) : Option (Map α) :=
  let here := (mfind m k).isSome
  if op = 1 then (if here then none else some (mput m k v))
  else if here = false then none
  else if op = 2 then some (mput m k v)
  else some (merase m k)

/-- The routes after a change, or its status: NOT_FOUND, or QUOTA where they would not fit. -/
def Tables.route (t : Tables) (c : Change) (v6 : Bool) : Except Nat Tables :=
  let r : Lpm := { vrf := chVrf c, len := chIndex c, addr := chAddr c (if v6 then 16 else 4), act := chAct c }
  match routeOp (if v6 then t.lpm6 else t.lpm4) (chOp c) r with
  | none => .error stNotFound
  | some l =>
    let u := if v6 then { t with lpm6 := l } else { t with lpm4 := l }
    if 131072 < u.routes then .error stQuota else .ok u

/-- INSERT, MODIFY or DELETE (R185, R186). -/
def Tables.entryOp (t : Tables) (c : Change) : Except Nat Tables :=
  let k := chTable c
  if k = 1 then
    match mapOp t.em (chOp c) (chKey c) (chAct c) with
    | none => .error stNotFound
    | some m => if 262144 < m.length then .error stQuota else .ok { t with em := m }
  else if k = 2 then t.route c false
  else if k = 3 then t.route c true
  else if k = 4 then
    match mapOp t.tern (chOp c) (chIndex c) { key := chKey c, mask := chMask c, act := chAct c } with
    | none => .error stNotFound
    | some m => .ok { t with tern := m }
  else
    match mapOp t.index (chOp c) ((k - 5) * 65536 + chIndex c) (chAct c) with
    | none => .error stNotFound
    | some m => .ok { t with index := m }

/-- A divert entry written (R168, R185). -/
def Tables.putDivert (t : Tables) (c : Change) : Tables :=
  let k := 16 * chByte c 8 + chByte c 9
  if chByte c 13 % 2 = 1 then { t with divert := mput t.divert k { value := fld c 80 16, next := chByte c 12 } }
  else { t with divert := merase t.divert k }

/-- A change applied to one version (R185). -/
def Tables.change (t : Tables) (c : Change) : Except Nat Tables :=
  if changeOk c = false then .error stRange
  else if chOp c ≤ 3 then t.entryOp c
  else if chOp c = 4 then .ok { t with cfg := mset t.cfg (4 * (chTable c / 128) + chTable c % 4) (chCfg c) 0 }
  else if chOp c = 5 then .ok { t with nodes := mset t.nodes (chIndex c) (chNode c) 0 }
  else .ok (t.putDivert c)

/-! ### Commit (R186, R432) -/

/-- A half that commits can reach from the serving one (R186, R431). -/
def State.reaches (s : State) (ss : Session) (h : Half) : Bool :=
  !(s.cstl.split && h != s.server ss) && !(s.half h).stopped

/-- A change is of a replicated item: it names both halves, or the item's latest commit did (R432). -/
def State.replicatedChange (s : State) (ss : Session) (c : Change) : Bool :=
  chHalves c = 3 || (s.half (s.server ss)).cls.replicated.contains (chItem c)

/-- The status of the halves a change names (R186, R432): during a split a replicated change is applied to the own half. -/
def State.halvesStatus (s : State) (ss : Session) (mask : Nat) (c : Change) : Nat :=
  let v := chHalves c
  if v = 0 ∨ (inMask v .k ∧ ¬ inMask mask .k) ∨ (inMask v .q ∧ ¬ inMask mask .q) then stRange
  else if s.replicatedChange ss c ∧ s.custody ss = false then stOtherHalf
  else if s.cstl.split ∧ v = 3 then (if (s.half (s.server ss)).stopped then stOtherHalf else stOk)
  else if (inMask v .k ∧ s.reaches ss .k = false) ∨ (inMask v .q ∧ s.reaches ss .q = false) then stOtherHalf
  else stOk

/-- The version of each half after a change, or its status. -/
def tryChange (c : Change) (k q : Tables) : Except Nat (Tables × Tables) :=
  match (if inMask (chHalves c) .k then k.change c else .ok k) with
  | .error e => .error e
  | .ok k' =>
    match (if inMask (chHalves c) .q then q.change c else .ok q) with
    | .error e => .error e
    | .ok q' => .ok (k', q')

/-- The number and status of the first change that fails, from change `n` on; none where all pass (R186). During a split the
half that cannot be reached takes no part. -/
def State.firstFail (s : State) (ss : Session) (mask n : Nat) (cs : List Change) (k q : Tables) : Option (Nat × Nat) :=
  match cs with
  | [] => none
  | c :: rest =>
    let st := s.halvesStatus ss mask c
    if st ≠ stOk then some (n, st)
    else
      let own := if s.cstl.split then BitVec.ofNat 896 (c.toNat - chHalves c * 256 + 2 ^ (s.server ss).num * 256) else c
      match tryChange own k q with
      | .error e => some (n, e)
      | .ok t => s.firstFail ss mask (n + 1) rest t.1 t.2

def State.setStaging (s : State) (x : Staging) : State := { s with mgmt := { s.mgmt with staging := x } }

/-- COMMIT_RESULT of a first failing change and a status (R189). -/
def commitResult (n st : Nat) : Nat := n * 65536 + st

/-- A commit accepted: refused as a whole with its first failing change, or waiting to swap on the halves it names that can
be reached (R186 to R188). The set is empty and free in either case. -/
def State.commit (s : State) (ss : Session) (mask : Nat) : State :=
  let g := s.mgmt.staging
  let h := s.server ss
  match s.firstFail ss mask 0 g.changes s.k.cls.live s.q.cls.live with
  | some (n, st) => s.setStaging { g with owner := none, changes := [], result := commitResult n st }
  | none =>
    s.setStaging { g with
      owner := none, changes := [], pending := g.changes, since := s.time h, result := 0
      waitK := inMask mask .k && s.reaches ss .k, waitQ := inMask mask .q && s.reaches ss .q }

/-- The staging set is free or of the session (R185). -/
def Staging.mine (g : Staging) (ss : Session) : Bool := g.owner.isNone || g.owner = some ss

def Staging.waits (g : Staging) : Bool := g.waitK || g.waitQ

/-- STAGE_RECORD_WRITE (R185). -/
def execStageRecordWrite (w : Who) (rec : BitVec 896) (s : State) : Out :=
  (s.write w 0xA000 1 (leBytes 112 rec.toNat) idle always fun a =>
    let g := a.mgmt.staging
    if g.mine w.sess = false ∨ 4096 ≤ g.changes.length then none
    else some (a.setStaging { g with owner := some w.sess, changes := g.changes ++ [rec] })).out w

/-- COMMIT_WRITE (R186 to R188). -/
def execCommitWrite (w : Who) (v : BitVec 8) (s : State) : Out :=
  (s.write w 0xA000 3 [v] (fun a => a.mgmt.staging.waits) always fun a =>
    if 4 ≤ v.toNat ∨ a.mgmt.staging.mine w.sess = false then none else some (a.commit w.sess v.toNat)).out w

/-- STAGE_DISCARD (R189). -/
def execStageDiscard (w : Who) (v : BitVec 8) (s : State) : Out :=
  (s.write w 0xA000 5 [v] idle always fun a =>
    let g := a.mgmt.staging
    if g.mine w.sess = false then none
    else some (if v = 1 then a.setStaging { g with owner := none, changes := [] } else a)).out w

/-! ### The swap (R187, R188, R432) -/

/-- A half waits for a swap. -/
def Staging.waitsFor (g : Staging) (h : Half) : Bool :=
  match h with
  | .k => g.waitK
  | .q => g.waitQ

def Staging.swapped (g : Staging) (h : Half) : Staging :=
  match h with
  | .k => { g with waitK := false }
  | .q => { g with waitQ := false }

/-- A half's version and its replicated items after one change that names it (R185, R432). -/
def Cls.take (x : Cls) (h : Half) (c : Change) : Cls :=
  if inMask (chHalves c) h then
    match x.live.change c with
    | .ok t =>
      { x with live := t
               replicated := if chHalves c = 3 then (chItem c :: x.replicated.erase (chItem c)) else x.replicated.erase (chItem c) }
    | .error _ => x
  else x

/-- The divergent changes of a commit on a half during a split (R432, R434). -/
def State.divergeCommit (s : State) (h : Half) (cs : List Change) : State :=
  if s.cstl.split then
    let ds := (cs.filter fun c => chHalves c = 3 || (s.half h).cls.replicated.contains (chItem c)).map fun c =>
      (0xA000, chItem c, chEntry c)
    s.onHalf h fun x => { x with cust := { x.cust with divergent := x.cust.divergent ++ ds } }
  else s

/-- A PARSE unit of a half is in transition, which a commit waits for (R188). -/
def State.parseMoves (s : State) (h : Half) : Bool :=
  [4, 5, 6].any fun i => (s.unit h i).st = .draining || (s.unit h i).st = .returning

/-- COMMIT_SWAP (R187, R188): the versions of a half are swapped, 500 µs after its last swap at the earliest. -/
def State.commitSwap (s : State) (h : Half) : State :=
  let g := s.mgmt.staging
  if g.waitsFor h = false ∨ s.parseMoves h ∨ (s.half h).stopped then s
  else
    let s1 := match (s.half h).cls.lastSwap with
      | some t => s.until h (t + 500000)
      | none => s
    let s2 := s1.divergeCommit h g.pending
    let s3 := s2.onHalf h fun x => { x with cls := { g.pending.foldl (fun y c => y.take h c) x.cls with lastSwap := some (s1.time h) } }
    let g1 := { g.swapped h with lastCommit := s1.time h }
    (s3.countCls h 0x19 1).setStaging (if g1.waits then g1 else { g1 with pending := [], result := commitResult 0 stOk })

def execCommitSwap (h : Half) (s : State) : Out := .next (s.commitSwap h)

/-- The number of the first pending change that names a half still waiting. -/
def Staging.firstWaiting (g : Staging) : Nat :=
  (g.pending.findIdx? fun c => (g.waitK && inMask (chHalves c) .k) || (g.waitQ && inMask (chHalves c) .q)).getD 0

/-- A commit that still waits completes with OTHER_HALF (R188). -/
def State.endCommit (s : State) : State :=
  let g := s.mgmt.staging
  if g.waits then
    s.setStaging { g with waitK := false, waitQ := false, pending := [], result := commitResult g.firstWaiting stOtherHalf }
  else s

/-- COMMIT_TIMEOUT (R188): after 10 ms. -/
def execCommitTimeout (s : State) : Out :=
  let g := s.mgmt.staging
  .next (if g.waits then (s.until (if g.waitK then .k else .q) (g.since + 10000000)).endCommit else s)

/-! ### Counters and steering (R189, R190, R184) -/

/-- The counters CLS_CNT_CLEAR clears on a half (R190, R251, R429). -/
def State.clearCls (s : State) (h : Half) : State :=
  (List.range 4).foldl (fun a i => a.clearIndex (0x6400 + 4 * h.num + i))
    (((s.clearIndex (0x6200 + h.num)).clearIndex (0x6408 + h.num)).clearIndex (0x6A00 + h.num))

/-- CLS_CNT_CLEAR (R189, R251, R429). -/
def execClsCntClear (w : Who) (v : BitVec 8) (s : State) : Out :=
  (s.maskClear w 0xA000 0x0B v.toNat State.clearCls).out w

/-- The slice that STEER_SELECT names (R189). -/
def State.steerSel (s : State) (ss : Session) : Nat := s.sel ss (obj 0xA010 1) 0

/-- TX_STEER_WRITE (R184, R189): for a slice that exists and whose home half can be reached. -/
def execTxSteerWrite (w : Who) (rec : BitVec 288) (s : State) : Out :=
  (s.write w 0xA010 2 (leBytes 36 rec.toNat) idle (fun a => (a.slice (a.steerSel w.sess)).used) fun a =>
    let id := a.steerSel w.sess
    if 16 ≤ fld rec 16 8 ∨ (a.cstl.split ∧ recHome (a.slice id).record ≠ a.server w.sess) then none
    else some (a.setParams (a.server w.sess) 0xA010 2 id rec.toNat)).out w

end Sys2Proof.Machine
end

