-- ==== Sys2Proof/Machine/UnitOps.lean ====
section
/-! DEFINITION. What units lose when they leave service, the stop of a half, and the split of the halves (16 R410 to R422,
R430). -/

namespace Sys2Proof.Machine
open Sys2Proof

/-! ### Unit states (R410, R414) -/

/-- A unit changes its state for a cause, and the change is logged (R410, R414, R426). -/
def State.toUnit (s : State) (h : Half) (i : Nat) (st : UnitSt) (cause : Nat) : State :=
  let u := s.unit h i
  if u.st = st then s
  else
    (s.setUnit h i { u with st := st, cause := cause, since := s.time h }).log 0x10 0 (unitId h i) 0
      (u.st.code + 256 * st.code + 65536 * cause)

/-- The command of a unit ends with a status (R414). -/
def State.endUnitCmd (s : State) (h : Half) (i status : Nat) : State :=
  let u := s.unit h i
  s.setUnit h i { u with busy := false, after := u.st.code, status := status }

/-- The command of a unit that a fault cuts short ends MEDIA; nothing where none runs. -/
def State.cutUnitCmd (s : State) (h : Half) (i : Nat) : State := if (s.unit h i).busy then s.endUnitCmd h i stMedia else s

/-- The rotation of a half. -/
def State.setRot (s : State) (h : Half) (r : Rotation) : State := s.onHalf h fun x => { x with rot := r }

/-- A rotation visit is over; one that ended early counts as not done (R413). -/
def State.visitOver (s : State) (h : Half) : State := s.setRot h { (s.half h).rot with unit := none, engine := false }

/-- A rotation visit is done (R414, R429). -/
def State.visitDone (s : State) (h : Half) (i : Nat) : State :=
  let u := s.unit h i
  ((s.setUnit h i { u with visits := u.visits + 1, lastVisit := s.time h }).visitOver h).countH 0x6A00 h 6 1

/-! ### Losses of units (R165, R257, R421) -/

/-- The frames queued or held in a NIB unit are lost, and its locks vanish (R421). -/
def State.nibLoss (s : State) (u : Nat) : State :=
  let x := s.nib u
  let fs := x.waitD ++ x.waitE ++ x.threads.filterMap fun t => t.2.frame
  let s1 := s.setNib u { x with threads := [], chans := [], locks := [], waitD := [], waitE := [], staleFired := false }
  (s1.countH 0x6A00 (nibHalf u) 3 fs.length).lostSends fs

/-- The frames inside the pipelines of a PARSE unit are dropped, and the ordered streams go on without them (R165). -/
def State.parseLoss (s : State) (h : Half) (i : Nat) : State :=
  let inside := fun (f : Frame) => f.stage = .ordered && f.pipe / 2 = i - 4
  let fs := (s.half h).cls.flight.filter inside
  let s1 := s.setFlight h ((s.half h).cls.flight.filter fun f => !inside f)
  (s1.countCls h 0x1A fs.length).lostSends fs

/-- The root port's link is down, and its drives are gone (R67). -/
def State.rootDown (s : State) (p : Nat) : State :=
  let x := s.port p
  let s1 := s.setPort p { x with up := false, rate := 0, width := 0, flit := false }
  (List.range 16).foldl (fun a i => if (a.drive (16 * p + i)).st = .failed then a else a.driveLoss (16 * p + i)) s1

/-- A host port loses its link, in either mode (R65, R67). -/
def State.dropHost (s : State) (p : Fin 4) : State :=
  if (s.port p.val).up = false then s
  else if (s.port p.val).root then s.rootDown p.val else s.portDown p

/-- The host ports of a half. -/
def halfPorts (h : Half) : List (Fin 4) := if h = .k then [0, 1] else [2, 3]

/-- A granule's buffered writes after a loss of its write buffer: some prefix of them survives (R332). -/
def State.surviveGranule (s : State) (id g : Nat) : State :=
  let n := s.ns id
  let vs := mget n.buf g []
  let k := Config.survivors s.fresh % (vs.length + 1)
  if k = 0 ∨ s.placeable id g = false then s.fresher.setNs id { n with buf := merase n.buf g }
  else ((s.fresher.setNs id { n with buf := mput n.buf g (vs.take k) }).placeGranule id g)

/-- A namespace whose home half loses its DRAM content: what its granules hold is settled, and its map is to be rebuilt
(R332, R333). -/
def State.nsLoss (s : State) (id : Nat) : State :=
  let s1 := ((s.ns id).buf.map Prod.fst).foldl (fun a g => a.surviveGranule id g) s
  let n := s1.ns id
  if n.st = .free then s1 else s1.setNs id { n with st := .recovering, buf := [] }

/-- The DRAM content of a half is lost, and its channels are to be trained again (R412, R422). -/
def State.loseDram (s : State) (h : Half) : State :=
  let ids := (s.storage.nss.filter fun e => e.2.home = h).map Prod.fst
  let s1 := ids.foldl State.nsLoss s
  let chans := mmap (fun c (x : Dram) =>
    if chanHalf c = h ∧ (x.inUse ∨ x.st = .leftOut) then
      { x with st := .training, speed := 0, poisoned := [], ceRows := [], banks := [], soft := [], switchDone := true }
    else x) s1.mem.chans
  let s2 := ({ s1 with mem := { s1.mem with chans := chans } }).switchEnd
  let s3 := (List.range 4).foldl (fun a i =>
    let u := 4 * h.num + i
    a.setNib u { a.nib u with overflow := [], lost := some a.fresh }) s2
  s3.fresher

/-! ### The stop of a half (R422) -/

/-- The frames of a half between NET, XPORT and the traffic manager are lost. -/
def State.flightLoss (s : State) (h : Half) : State :=
  let fs := (s.half h).cls.flight
  (s.setFlight h []).lostSends fs

/-- A half stops: its units enter FAILED or OFF, its Ethernet ports are down and its host-port links held down, its key store
is zeroised, its DRAM content is lost, and HALF_STOPPED is logged. Its SUPV keeps running, and the drives below its root
ports stay in the pool (R422). -/
def State.stopHalf (s : State) (h : Half) : State :=
  if (s.half h).stopped then s
  else
    let s1 := (List.range 16).foldl (fun a i => (a.toUnit h i (if (a.unit h i).st = .failed then .failed else .off) 4).cutUnitCmd h i) s
    let s2 := (List.range 4).foldl (fun a i => a.nibLoss (4 * h.num + i)) (s1.visitOver h)
    let s3 := (s2.flightLoss h).portsDown h
    let s4 := (halfPorts h).foldl (fun a p =>
      if (a.port p.val).root then a.setPort p.val { a.port p.val with up := false, rate := 0, width := 0, flit := false }
      else if (a.port p.val).up then a.portDown p else a) s3
    let s5 := (s4.loseDram h).zeroise h
    ((s5.onHalf h fun x => { x with stopped := true }).log 0x14 4 (unitId h 16) 5 0).evalGates

/-! ### The split (R430, R433) -/

/-- A half's link to the other: its CSTL unit works. -/
def State.cstlUp (s : State) (h : Half) : Bool := s.works h 15

/-- The image slot of a half's SUPV replaced. -/
def Trust.setSlot (t : Trust) (h : Half) (i : Nat) : Trust :=
  match h with
  | .k => { t with slotK := i }
  | .q => { t with slotQ := i }

/-- A handover that the split meets: the standby, which was restarting, completes its boot of the new image and serves its
half alone; the other half keeps its image (R375). -/
def State.splitHandover (s : State) : State :=
  match s.trust.handover with
  | none => s
  | some (slot, fallback) =>
    let t := (s.trust.setSlot s.cstl.primary.other slot)
    { s with trust := { t with handover := none
                               trialEnd := if fallback then t.trialEnd else some (s.now + s.param s.cstl.primary 0x2200 3 0 120 * 1000000000) } }

/-- The halves split: each runs alone, and with WITNESS_MODE 1 both suspend custody (R430, R431, R433). -/
def State.splitHalves (s : State) : State :=
  if s.cstl.split then s
  else
    let mode := s.param s.cstl.primary 0x2300 1 0 0
    let s1 := { s.splitHandover with cstl := { s.cstl with groups := 0, split := true, splitTime := s.now, before := s.slices } }
    let s2 := s1.onBoth fun x => { x with cust := { x.cust with divergent := [], holds := x.cust.holds && mode = 0 } }
    let s3 := (s2.logOn .k 0x21 3 (unitId .k 15) 65535 0 0).logOn .q 0x21 3 (unitId .q 15) 65535 0 0
    ((s3.countH 0x6A00 .k 4 1).countH 0x6A00 .q 4 1).evalGates

/-- A link group leaves service; with none left, the halves split (R430). -/
def State.groupDown (s : State) (g : Nat) : State :=
  if s.cstl.groups.getLsbD g then
    let s1 := { s with cstl := { s.cstl with groups := s.cstl.groups &&& ~~~ BitVec.ofNat 4 (2 ^ g) } }
    let n := s1.groupCount
    let s2 := (s1.logOn .k 0x20 1 (unitId .k 15) 65535 0 n).logOn .q 0x20 1 (unitId .q 15) 65535 0 n
    if n = 0 then s2.splitHalves else s2
  else s

/-! ### A unit out of ACTIVE, and fatal faults (R412, R418, R421) -/

/-- What a half loses at once when a unit leaves ACTIVE by force or fails (R412, R421). -/
def State.unitOut (s : State) (h : Half) (i : Nat) : State :=
  if i = 7 ∨ i = 8 ∨ i = 10 then (halfPorts h).foldl State.dropHost s
  else if i = 11 ∨ i = 12 then s.dropHost (match h, i with
    | .k, 11 => 0
    | .k, _ => 1
    | .q, 11 => 2
    | .q, _ => 3)
  else if i = 13 then s.portsDown h
  else if i = 15 then s.splitHalves
  else s

/-- Units are peers: NIB units of a half, and PARSE units of a half (R33). -/
def peers (i j : Nat) : Bool := i != j && ((i < 4 && j < 4) || (4 ≤ i && i < 7 && 4 ≤ j && j < 7))

/-- A fault of a peer ends a rotation visit: the visited unit enters RETURNING (R418). -/
def State.peerFault (s : State) (h : Half) (i : Nat) : State :=
  match (s.half h).rot.unit with
  | some j =>
    if j = i then s.visitOver h
    else if peers i j then
      let s1 := (s.visitOver h).toUnit h j .returning 3
      s1.setUnit h j { s1.unit h j with toActive := true }
    else s
  | none => s

/-- The ACTION of a unit's failure: 4 where its load moves to peers or to the other SUPV (R423, R425), else 0. -/
def failAction (i : Nat) : Nat := if i < 7 ∨ i = 16 then 4 else 0

/-- A unit-fatal fault (R419, R421): the unit is FAILED and isolated. TBL, TMGR, XPORT and MEM take their half with them. -/
def State.failUnit (s : State) (h : Half) (i : Nat) : State :=
  let u := s.unit h i
  let s1 := (s.setUnit h i { u with fatal := u.fatal + 1 }).toUnit h i .failed 3
  let s2 := ((s1.cutUnitCmd h i).log 0x13 3 (unitId h i) (failAction i) 0).peerFault h i
  if i < 4 then s2.nibLoss (4 * h.num + i)
  else if i < 7 then s2.parseLoss h i
  else if i = 9 then s2.zeroise h
  else if i = 7 ∨ i = 8 ∨ i = 10 ∨ i = 14 then s2.stopHalf h
  else s2.unitOut h i

/-! ### Spares (R420) -/

/-- The spare engines of a kind a unit has at manufacture (R420). The CIPHER unit's spare lane is kept with its lanes. -/
def spareEngines (i : Nat) : Nat :=
  if i < 4 then 1 else if i = 7 then 8 else if i = 8 then 4 else if i = 9 then 1 else if i = 10 then 1 else if i = 15 then 1 else 0

/-- The spare engines at manufacture, of every kind (R414). -/
def spareTotal (i : Nat) : Nat := if i = 10 then 4 else spareEngines i

/-- The spare engines a unit has left (R414). -/
def State.sparesOf (s : State) (h : Half) (i : Nat) : Nat :=
  if i = 9 then (s.half h).cipher.spares else spareTotal i - ((s.unit h i).used.map Prod.snd).sum

/-- A spare engine has been substituted: SPARE_USED, and with the last one SPARE_EXHAUSTED (R420). -/
def State.noteSpare (s : State) (h : Half) (i : Nat) : State :=
  let n := s.sparesOf h i
  let s1 := s.log 0x11 1 (unitId h i) 2 n
  if n = 0 then (s1.setUnit h i { s1.unit h i with degraded := true }).log 0x12 1 (unitId h i) 2 0 else s1

/-- An engine of a unit fails: a spare of its kind takes its place, or the failure is unit-fatal (R420). -/
def State.failEngine (s : State) (h : Half) (i kind : Nat) : State :=
  let u := s.unit h i
  let k := if i = 10 then kind else 0
  let n := mget u.used k 0
  if n < spareEngines i then (s.setUnit h i { u with used := mput u.used k (n + 1) }).noteSpare h i else s.failUnit h i

/-- A kind 2 submission of a thread that was inside a failed lane ends MEDIA (R271). -/
def State.loseSub (s : State) (u i : Nat) : State :=
  match (s.th u i).oldestSub 2 with
  | none => s
  | some (b, dead, t) => s.setNib u (((s.setTh u i t).nib u).subEnd i b dead stMedia 2)

/-- A frame stands at a cipher lane. -/
def Frame.atLane (f : Frame) : Bool := f.stage = .cipherRx || f.stage = .espTx || f.stage = .macsecTx

/-- A lane of a half fails, with the frames at the places `inside` of the half's frames, and from 0x10000 on with submissions
of its threads (R271). -/
def State.failLane (s : State) (h : Half) (inside : List Nat) : State :=
  let fl := (s.half h).cls.flight
  let hit := fun (e : Frame × Nat) => inside.contains e.2 && e.1.atLane
  let lost := (fl.zipIdx.filter hit).map Prod.fst
  let s1 := s.setFlight h ((fl.zipIdx.filter fun e => !hit e).map Prod.fst)
  let subs := (inside.filter fun n => 0x10000 ≤ n ∧ (n - 0x10000) / 256 = h.num).map (· - 0x10000)
  let s2 := subs.foldl (fun a n => a.loseSub (n / 64) (n % 64)) ((s1.countCipher h 9 (lost.length + subs.length)).lostSends lost)
  let c := (s.half h).cipher
  if 0 < c.spares then (s2.onHalf h fun x => { x with cipher := { x.cipher with spares := 0 } }).noteSpare h 9
  else if c.lanes = 5 then s2.onHalf h fun x => { x with cipher := { x.cipher with lanes := 4 } }
  else s2.failUnit h 9

end Sys2Proof.Machine
end

