-- ==== Sys2Proof/Machine/Unit.lean ====
section
/-! DEFINITION. Commands to units, rotation, faults, spares and the failure of a supervisor (16 R410 to R424). -/

namespace Sys2Proof.Machine
open Sys2Proof

/-! ### Commands to units (R411 to R414) -/

/-- A UNIT_CMD (R411, R414). The SUPV units take none, and a half whose SUPV does not answer cannot be reached. -/
def State.unitCmd (s : State) (w : Who) (u : UnitRef) (code : Nat) (act : State → State) : Out :=
  let h := u.half
  let i := u.index.val
  (s.write w (0x4000 + 16 * unitId h i) 2 (leBytes 2 code) (fun a => (a.unit h i).busy) always fun a =>
    some (if (a.half h).supvUp = false then a.endUnitCmd h i stOtherHalf
          else if i = 16 then a.endUnitCmd h i stRange
          else act a)).out w

/-- A command is accepted and runs: the unit changes its state, and its result reads BUSY. -/
def State.runUnitCmd (s : State) (h : Half) (i : Nat) (st : UnitSt) (toActive : Bool) : State :=
  let s1 := s.toUnit h i st 1
  s1.setUnit h i { s1.unit h i with busy := true, held := true, toActive := toActive, tested := false, cause := 1 }

/-- A command ends at once in a state. -/
def State.atOnce (s : State) (h : Half) (i : Nat) (st : UnitSt) : State :=
  let s1 := s.toUnit h i st 1
  (s1.setUnit h i { s1.unit h i with held := true, cause := 1 }).endUnitCmd h i stOk

/-- A unit is in a rotation visit that has changed its state (R415, R416). -/
def State.inVisit (s : State) (h : Half) (i : Nat) : Bool := (s.half h).rot.unit = some i && !s.active h i

/-- The units of a range of indexes of a half that are ACTIVE. -/
def State.activeCount (s : State) (h : Half) (lo n : Nat) : Nat := ((List.range n).filter fun i => s.active h (lo + i)).length

/-- DRAIN without FORCE is refused with QUOTA (R412). -/
def State.drainQuota (s : State) (h : Half) (i : Nat) : Bool :=
  7 ≤ i || (i < 4 && s.activeCount h 0 4 ≤ 3) || (4 ≤ i && s.activeCount h 4 3 ≤ 2)

/-- DRAIN with FORCE is refused: MEM while XPORT, TBL, TMGR or a NIB unit of the half still is in use (R412). -/
def State.forceQuota (s : State) (h : Half) (i : Nat) : Bool :=
  i = 14 && [0, 1, 2, 3, 7, 8, 10].any fun j =>
    (s.unit h j).st != .service && (s.unit h j).st != .off && (s.unit h j).st != .failed

/-- DRAIN (R411 to R413): during a rotation visit of the unit it ends the visit, and the unit stays in SERVICE. -/
def State.drain (s : State) (h : Half) (i : Nat) (force : Bool) : State :=
  if s.inVisit h i then
    let s1 := s.visitOver h
    if (s.unit h i).st = .draining then s1.runUnitCmd h i .draining false else s1.atOnce h i .service
  else if s.active h i = false then s.endUnitCmd h i stRange
  else if (if force then s.forceQuota h i else s.drainQuota h i) then s.endUnitCmd h i stQuota
  else
    let s1 := if (s.half h).rot.unit = some i then s.visitOver h else s
    let s2 := s1.runUnitCmd h i .draining false
    if force then s2.unitOut h i else s2

/-- UNIT_DRAIN (R411). -/
def execUnitDrain (w : Who) (u : UnitRef) (s : State) : Out := s.unitCmd w u 1 fun a => a.drain u.half u.index.val false

/-- UNIT_DRAIN_FORCE (R412). -/
def execUnitDrainForce (w : Who) (u : UnitRef) (s : State) : Out := s.unitCmd w u 0x8001 fun a => a.drain u.half u.index.val true

/-- UNIT_RETURN (R411): during a rotation visit of the unit it ends the visit and returns the unit (R413). -/
def execUnitReturn (w : Who) (u : UnitRef) (s : State) : Out :=
  s.unitCmd w u 2 fun a =>
    let h := u.half
    let i := u.index.val
    if a.inVisit h i then (a.visitOver h).runUnitCmd h i .returning true
    else if (a.unit h i).st = .service then a.runUnitCmd h i .returning true
    else a.endUnitCmd h i stRange

/-- UNIT_POWER_OFF (R411): a visit of the unit ends with it. -/
def execUnitPowerOff (w : Who) (u : UnitRef) (s : State) : Out :=
  s.unitCmd w u 3 fun a =>
    let h := u.half
    let i := u.index.val
    if (a.unit h i).st = .service then (if a.inVisit h i then a.visitOver h else a).atOnce h i .off else a.endUnitCmd h i stRange

/-- UNIT_POWER_ON (R411). -/
def execUnitPowerOn (w : Who) (u : UnitRef) (s : State) : Out :=
  s.unitCmd w u 4 fun a =>
    let h := u.half
    let i := u.index.val
    if (a.unit h i).st = .off ∨ (a.unit h i).st = .failed then a.runUnitCmd h i .returning false else a.endUnitCmd h i stRange

/-! ### The ends of transitions (R411, R413, R416) -/

/-- Nothing is left inside a unit: frames of a NIB unit have ended, and those in a PARSE unit have left (R165, R247). -/
def State.unitEmpty (s : State) (h : Half) (i : Nat) : Bool :=
  let x := s.nib (4 * h.num + i)
  if i < 4 then x.waitD.isEmpty && x.waitE.isEmpty && x.threads.all fun t => t.2.frame.isNone
  else (s.half h).cls.flight.all fun f => !(f.stage = .ordered && 4 ≤ i && i < 7 && f.pipe / 2 = i - 4)

/-- The command of a unit that has come to its end answers OK. -/
def State.unitCmdOk (s : State) (h : Half) (i : Nat) : State := if (s.unit h i).busy then s.endUnitCmd h i stOk else s

/-- A DRAINING unit without work enters SERVICE. A CIPHER out of service is as one that has failed, and the DRAM of a MEM out
of service loses its content (R412). -/
def State.drainDone (s : State) (h : Half) (i : Nat) : State :=
  let u := s.unit h i
  if u.st = .draining ∧ s.unitEmpty h i then
    let s1 := (s.toUnit h i .service u.cause).unitCmdOk h i
    if i = 9 then s1.zeroise h else if i = 14 then s1.loseDram h else s1
  else s

/-- UNIT_DRAIN_DONE (R416). -/
def execUnitDrainDone (u : UnitRef) (s : State) : Out := .next (s.drainDone u.half u.index.val)

/-- A thread of a NIB unit that returns: one that is idle or has executed STOP stays so until an install (R416, R219, R230). -/
def Nib.returned (x : Nib) (i now : Nat) : Nib :=
  let t := x.th i
  let y := (x.setTh i { t.clear with watch := 0, scratch := [], subs := [], deadSubs := [], faults := [], halted := none
                                     frame := none, frameExc := false, holds := false, poisoned := false, regs := [] }).restart i now
  if t.st = .stopped ∨ (t.st = .idle ∧ (mfind x.threads i).isSome) then y.setTh i { y.th i with st := t.st } else y

/-- A NIB unit comes back to ACTIVE: its channels and locks are empty, scratch and registers zero, and its service threads
begin at START; its image, shared memory and overflow are kept (R246, R416). -/
def State.nibBack (s : State) (u : Nat) : State :=
  let x := s.nib u
  let y := (List.range 64).foldl (fun a i => a.returned i (s.time (nibHalf u))) x
  s.setNib u { y with chans := [], locks := [], staleFired := false }

/-- A RETURNING unit comes to ACTIVE, or after POWER_ON with its self-test passed to SERVICE (R411, R416). -/
def State.returnDone (s : State) (h : Half) (i : Nat) : State :=
  let u := s.unit h i
  if u.st ≠ .returning then s
  else if u.toActive then
    let s1 := if i < 4 then s.nibBack (4 * h.num + i) else s
    let s2 := s1.toUnit h i .active u.cause
    let s3 := (s2.setUnit h i { s2.unit h i with held := false, toActive := false }).unitCmdOk h i
    if (s.half h).rot.unit = some i then s3.visitDone h i else s3
  else if u.tested then (s.toUnit h i .service u.cause).unitCmdOk h i
  else s

/-- UNIT_RETURN_DONE (R416). -/
def execUnitReturnDone (u : UnitRef) (s : State) : Out := .next (s.returnDone u.half u.index.val)

/-- A self-test has failed: the unit is FAILED, with SELFTEST_FAIL; a command ends MEDIA, a visit is over (R411, R418). -/
def State.selftestFail (s : State) (h : Half) (i : Nat) : State :=
  let s1 := s.setUnit h i { s.unit h i with stFail := true }
  let s2 := ((s1.toUnit h i .failed 3).cutUnitCmd h i).log 0x15 3 (unitId h i) (failAction i) 0
  if (s.half h).rot.unit = some i then s2.visitOver h else s2

/-- The end of a self-test: of POWER_ON, of a visit in SERVICE, which then returns the unit, or of an engine-level visit, where
a failing engine is replaced (R411, R416, R418, R420). -/
def State.selftestDone (s : State) (h : Half) (i : Nat) (pass : Bool) : State :=
  let u := s.unit h i
  if u.st = .returning ∧ u.toActive = false then
    if pass then s.setUnit h i { u with stFail := false, tested := true } else s.selftestFail h i
  else if s.inVisit h i ∧ u.st = .service then
    if pass then
      let s1 := (s.setUnit h i { u with stFail := false }).toUnit h i .returning 2
      s1.setUnit h i { s1.unit h i with toActive := true }
    else s.selftestFail h i
  else if (s.half h).rot.unit = some i ∧ (s.half h).rot.engine ∧ u.st = .active then
    if pass then s.visitDone h i
    else ((s.visitOver h).log 0x15 3 (unitId h i) 0 0).failEngine h i 0
  else s

/-- SELFTEST_DONE (R418). -/
def execSelftestDone (u : UnitRef) (pass : Bool) (s : State) : Out := .next (s.selftestDone u.half u.index.val pass)

/-- The limit of a transition, ns: R416's of NIB and PARSE units; the 2 s of HALF_RESTART bound the others (R422). -/
def transLimit (i : Nat) (st : UnitSt) : Nat :=
  if i < 4 then 1000000 else if i < 7 then (if st = .draining then 10000 else 500000) else 2000000000

/-- A unit in transition overruns its limit and is FAILED (R413). RETURNING after POWER_ON, which holds a self-test, has no
limit. -/
def State.transitionOverrun (s : State) (h : Half) (i : Nat) : State :=
  let u := s.unit h i
  if u.st = .draining ∨ (u.st = .returning ∧ u.toActive) then (s.until h (u.since + transLimit i u.st)).failUnit h i else s

/-- TRANSITION_OVERRUN (R413). -/
def execTransitionOverrun (u : UnitRef) (s : State) : Out := .next (s.transitionOverrun u.half u.index.val)

/-! ### Rotation (R415, R416) -/

/-- A unit has a visit now: it is ACTIVE, a cipher lane can be spared, and four link groups are in service (R271, R416). -/
def State.visitable (s : State) (h : Half) (i : Nat) : Bool :=
  s.active h i && (i != 9 || 0 < (s.half h).cipher.spares) && (i != 15 || s.groupCount = 4)

/-- The units visited, in index order (R416). -/
def visited : List Nat := [0, 1, 2, 3, 4, 5, 6, 7, 8, 9, 10, 15]

/-- The unit whose visit is next. -/
def State.nextVisit (s : State) (h : Half) : Option Nat :=
  let n := (s.half h).rot.next
  ((visited.filter (n ≤ ·)) ++ visited.filter (· < n)).find? (s.visitable h)

/-- A visit may start now on a half, of the unit `i` (R415). -/
def State.mayVisit (s : State) (h : Half) (i : Nat) : Bool :=
  s.running && !(s.half h).stopped && (s.half h).supvUp && (s.half h).rot.unit.isNone
    && s.param h 0x2100 1 0 0 = 0 && s.param h 0x2100 4 0 0 = 0
    && (List.range 16).all (fun j => !(s.unit h j).held && (!peers i j || s.active h j))
    && !s.mgmt.staging.waitsFor h

/-- A visit starts, or is tried again later (R415). -/
def State.visitStart (s : State) (h : Half) : State :=
  match s.nextVisit h with
  | none => s
  | some i =>
    if s.mayVisit h i then
      let s1 := s.setRot h { next := i + 1, unit := some i, engine := Nat.ble 7 i, began := s.time h }
      if i < 7 then s1.toUnit h i .draining 2 else s1
    else s

/-- ROTATION_VISIT_START (R415). -/
def execRotationVisitStart (h : Half) (s : State) : Out := .next (s.visitStart h)

/-! ### Faults (R419 to R422) -/

/-- A spare engine takes the place of one that has had 16 corrected faults; nothing where none is left. -/
def State.spareEngine (s : State) (h : Half) (i kind : Nat) : State :=
  let u := s.unit h i
  let k := if i = 10 then kind else 0
  let n := mget u.used k 0
  if i = 9 then
    if 0 < (s.half h).cipher.spares then (s.onHalf h fun x => { x with cipher := { x.cipher with spares := 0 } }).noteSpare h i else s
  else if n < spareEngines i then (s.setUnit h i { u with used := mput u.used k (n + 1) }).noteSpare h i
  else s

/-- A corrected fault of an engine or cell: the sixteenth within 24 hours substitutes a spare, losing nothing (R419, R420). -/
def State.correctedFault (s : State) (h : Half) (i : Nat) (engine : Option (Fin 4)) (cell : Nat) : State :=
  if s.powered h i = false then s
  else
    let u := s.unit h i
    let now := s.time h
    let key := 8 * cell + (match engine with
      | some k => k.val + 1
      | none => 0)
    let l := now :: (mget u.recent key []).filter fun t => now < t + 86400000000000
    let full := 16 ≤ l.length
    let s1 := (s.setUnit h i { u with corrected := u.corrected + 1, recent := mset u.recent key (if full then [] else l) [] }).log
      0x16 1 (unitId h i) 1 0
    if full = false then s1
    else
      match engine with
      | some k => s1.spareEngine h i k.val
      | none =>
        (s1.setUnit h i { s1.unit h i with cells := (s1.unit h i).cells + 1 }).log 0x11 1 (unitId h i) 2 (s1.sparesOf h i)

/-- CORRECTED_FAULT (R420). -/
def execCorrectedFault (u : UnitRef) (engine : Option (Fin 4)) (cell : Nat) (s : State) : Out :=
  .next (s.correctedFault u.half u.index.val engine cell)

/-- ENGINE_FAILURE (R420); a lane is an engine of CIPHER (R271). -/
def execEngineFailure (u : UnitRef) (kind : Fin 4) (s : State) : Out :=
  let h := u.half
  let i := u.index.val
  .next (if s.powered h i = false ∨ i = 16 then s else if i = 9 then s.failLane h [] else s.failEngine h i kind.val)

/-- LANE_FAILURE (R271): of a powered CIPHER unit, with the work inside the lane. -/
def execLaneFailure (h : Half) (inside : List Nat) (s : State) : Out :=
  .next (if s.powered h 9 then s.failLane h inside else s)

/-- DEFERRED_FAULT (R419): the data is rewritten from SUPV's copy, or its consumer acts; the unit goes on. -/
def execDeferredFault (u : UnitRef) (s : State) : Out :=
  let h := u.half
  let i := u.index.val
  .next (if s.powered h i then
    (s.setUnit h i { s.unit h i with deferred := (s.unit h i).deferred + 1 }).log 0x17 2 (unitId h i) (if i = 7 then 3 else 0) 0 else s)

/-- HALF_FATAL_FAULT (R422). -/
def execHalfFatalFault (h : Half) (s : State) : Out := .next (s.stopHalf h)

/-- A stopped half starts again: every unit goes through RETURNING to ACTIVE, with DRAM to be trained (R422). -/
def State.restartHalf (s : State) (h : Half) : State :=
  let s1 := s.onHalf h fun x => { x with stopped := false }
  (List.range 16).foldl (fun a i =>
    let b := a.toUnit h i .returning 1
    b.setUnit h i { b.unit h i with toActive := true, held := false }) s1

/-- HALF_RESTART_WRITE (R422): refused while the half's sensor reads above 100 °C (R452). -/
def execHalfRestartWrite (w : Who) (v : BitVec 8) (s : State) : Out :=
  (s.write w 0x2100 5 (leBytes 1 v.toNat) idle always fun a =>
    let h := halfOf v.toNat
    if 2 ≤ v.toNat ∨ (a.cstl.split ∧ h ≠ a.server w.sess) ∨ (a.half h).stopped = false ∨ (a.half h).supvUp = false
        ∨ 1000 < (a.half h).gov.temp then none
    else some (a.restartHalf h)).out w

end Sys2Proof.Machine
end

