-- ==== Sys2Proof/Machine/Trial.lean ====
section
/-! DEFINITION. Images on trial, and warm handover between the supervisors (14 R373 to R375). -/

namespace Sys2Proof.Machine
open Sys2Proof

/-! ### Custody as recorded (R433, R435) -/

/-- The persistent CUSTODY_EPOCH and holder of a half replaced (R433, R435). -/
def StoreCopy.setCustody (c : StoreCopy) (h : Half) (epoch holder : Nat) : StoreCopy :=
  match h with
  | .k => { c with custodyK := epoch, holderK := holder }
  | .q => { c with custodyQ := epoch, holderQ := holder }

/-- CUSTODY_EPOCH of a half (R435). -/
def StoreCopy.custody (c : StoreCopy) (h : Half) : Nat :=
  match h with
  | .k => c.custodyK
  | .q => c.custodyQ

/-- The holder recorded with it (R433). -/
def StoreCopy.holder (c : StoreCopy) (h : Half) : Nat :=
  match h with
  | .k => c.holderK
  | .q => c.holderQ

/-- The half with custody replaced, while the halves are joined (R18, R432). -/
def State.takeCustody (s : State) (h : Half) : State :=
  (s.onHalf h fun x => { x with cust := { x.cust with holds := true } }).onHalf h.other
    fun x => { x with cust := { x.cust with holds := false } }

/-- A half becomes primary and holds custody at an epoch, which both halves record (R18, R424, R435). -/
def State.makePrimary (s : State) (h : Half) (epoch : Nat) : State :=
  let s1 := s.ownWrite fun c => (c.setCustody .k epoch h.num).setCustody .q epoch h.num
  ({ s1 with cstl := { s1.cstl with primary := h } }).takeCustody h

/-! ### Trials (R373) -/

/-- TRIAL_WDOG_S, in ns. -/
def State.trialNs (s : State) : Nat := s.param s.cstl.primary 0x2200 3 0 120 * 1000000000

/-- The standby SUPV is in step with the primary over a link group (R374). -/
def State.inStep (s : State) : Bool := !s.cstl.split && s.cstl.groups != 0#4 && s.k.supvUp && s.q.supvUp

/-- The slot on trial: the one that is TRIED. -/
def State.trialSlot (s : State) : Nat := if s.nv.slotState 0 = slTried then 0 else 1

/-- A fallback to a slot begins, or waits until the standby is in step (R374). -/
def State.fallBack (s : State) (slot : Nat) : State :=
  if s.inStep ∧ s.trust.handover = none then { s with trust := { s.trust with handover := some (slot, true), fallbackWaits := none } }
  else { s with trust := { s.trust with fallbackWaits := some slot } }

/-- A fallback that waits begins once the standby is in step. -/
def State.tryFallback (s : State) : State :=
  match s.trust.fallbackWaits with
  | some slot => s.fallBack slot
  | none => s

/-- The trial ends without a CONFIRM: REJECTED is appended, and SUPV returns to the slot of the highest VALID record (R373). -/
def State.trialExpire (s : State) : State :=
  match s.trust.trialEnd with
  | none => s
  | some _ =>
    let s1 := { s with nv := s.nv.record s.trialSlot slRejected, trust := { s.trust with trialEnd := none } }
    match s1.nv.validSlot with
    | some v => s1.fallBack v
    | none => s1

/-- TRIAL_WATCHDOG_EXPIRY (R373). -/
def execTrialWatchdogExpiry (s : State) : Out :=
  .next (match s.trust.trialEnd with
    | some t => (s.until s.cstl.primary t).trialExpire
    | none => s)

/-- CONFIRM_WRITE (R373): refused outside a trial. -/
def execConfirmWrite (w : Who) (v : BitVec 8) (s : State) : Out :=
  (s.write w 0x2200 2 (leBytes 1 v.toNat) idle always fun a =>
    if a.trust.trialEnd = none then none
    else if v = 1 then some { a with nv := a.nv.record a.trialSlot slValid, trust := { a.trust with trialEnd := none } }
    else some a).out w

/-! ### Handover (R374) -/

/-- Both SUPVs run an image, which seals the secrets it can read again (R379); with a new image the trial watchdog starts. -/
def State.onImage (s : State) (slot : Nat) (trial : Bool) : State :=
  let s1 := { s with trust := { s.trust with slotK := slot, slotQ := slot, handover := none } }
  let s2 := s1.ownWrite (reseal s1.secVersion)
  if trial then { s2 with trust := { s2.trust with trialEnd := some (s2.now + s2.trialNs) } } else s2

/-- A handover is over. The standby became primary on the new image, and the former primary standby. An image that fails its
check is REJECTED instead, and service resumes on the image that ran (R374). -/
def State.handoverDone (s : State) : State :=
  match s.trust.handover with
  | none => s
  | some (slot, fallback) =>
    if fallback = false ∧ s.nv.checkImage 1 supvLimit (s.nv.slot slot) ≠ stOk then
      { s with nv := s.nv.record slot slRejected, trust := { s.trust with handover := none } }
    else
      let h := s.cstl.primary.other
      (s.makePrimary h (s.nv.store.custody h)).onImage slot (!fallback)

/-- HANDOVER_COMPLETE (R374). -/
def execHandoverComplete (s : State) : Out := .next (if s.inStep then s.handoverDone else s)

/-- ACTIVATE: TRIED is appended by the standby as it restarts (R371, R374). -/
def State.activate (s : State) : Option State :=
  let t := 1 - s.runningSlot
  if s.nv.slotState t = slTrial ∧ s.inStep then
    some { s with nv := s.nv.record t slTried, trust := { s.trust with handover := some (t, false) } }
  else none

end Sys2Proof.Machine
end

