-- ==== Sys2Proof/Machine/Castling.lean ====
section
/-! DEFINITION. Failure of a supervisor, heartbeats, the split and the rejoin of the halves, and custody (16 R424, R430 to
R435). -/

namespace Sys2Proof.Machine
open Sys2Proof

/-! ### Supervisor failure (R424) -/

/-- The standby becomes primary and takes custody at CUSTODY_EPOCH + 1 (R424). -/
def State.failover (s : State) (h : Half) : State :=
  let e := s.nv.store.custody h + 1
  ((s.makePrimary h e).logOn h 0x18 3 (unitId h.other 16) 65535 4 e).countH 0x6A00 h 5 1

/-- A SUPV has failed: it is down until its ROM watchdog restarts it; the standby takes over from a primary over a link group
in service, which completes a handover that runs; the third failure within one hour stops the half (R374, R424). -/
def State.supvFail (s : State) (h : Half) : State :=
  let now := s.time h
  let primary := s.cstl.primary = h
  let s0 := if primary ∧ s.inStep then s.handoverDone else s
  let fails := now :: (s.half h).supvFails.filter fun t => now < t + 3600000000000
  let s1 := s0.onHalf h fun x => { x with supvFails := fails, supvUp := false }
  let s2 := if primary ∧ s.cstl.split = false ∧ (s1.half h.other).supvUp then s1.failover h.other else s1
  if 3 ≤ fails.length then ((s2.toUnit h 16 .failed 3).log 0x13 3 (unitId h 16) (failAction 16) 0).stopHalf h else s2

/-- UNIT_FATAL_FAULT (R421, R424). -/
def execUnitFatalFault (u : UnitRef) (s : State) : Out :=
  let h := u.half
  let i := u.index.val
  .next (if i = 16 then
      (if (s.half h).supvUp then (s.setUnit h 16 { s.unit h 16 with fatal := (s.unit h 16).fatal + 1 }).supvFail h else s)
    else if s.powered h i then s.failUnit h i else s)

/-- An alive count stands still while a group is in service: that SUPV has failed (R430). -/
def execAliveCountTimeout (h : Half) (s : State) : Out :=
  .next (if s.cstl.split = false ∧ s.cstl.groups ≠ 0#4 ∧ (s.half h).supvUp then s.supvFail h else s)

/-- The ROM watchdog restarts a SUPV that does not answer, which has failed if no heartbeat has shown it; during a trial it
acts as an expiry. A FAILED SUPV stays so (R373, R424). -/
def State.romWatchdog (s : State) (h : Half) : State :=
  let s1 := if (s.half h).supvUp then s.supvFail h else s
  if (s1.unit h 16).st = .failed then s1
  else
    let s2 := s1.onHalf h fun x => { x with supvUp := true }
    if s2.trust.trialEnd.isSome then s2.trialExpire else s2.tryFallback

/-- ROM_WATCHDOG_EXPIRY (R424). -/
def execRomWatchdogExpiry (h : Half) (s : State) : Out :=
  .next (if s.board.boot = .running then s.romWatchdog h else s)

/-! ### Heartbeats (R430, R32) -/

/-- The copy of the half that is not primary is aligned with the primary's: what is left of both corrections is the same
(R32). -/
def State.alignTime (s : State) : State :=
  let p := (s.half s.cstl.primary).gov
  s.onHalf s.cstl.primary.other fun x =>
    { x with gov := { x.gov with slew := p.slew + ((p.time : Int) - x.gov.time) * 4294967296 + ((p.frac : Int) - x.gov.frac) } }

/-- A heartbeat with the alive count of the half's SUPV, which advances while the SUPV runs; the copies of the timebase are
compared (R430, R32). -/
def State.heartbeat (s : State) (h : Half) : State :=
  let up := (s.half h).supvUp
  let s1 := s.onHalf h fun x => { x with alive := if up then x.alive + 1 else x.alive }
  let s2 := s1.emit (.heartbeat h (s1.half h).alive)
  if s.cstl.split = false ∧ h = s.cstl.primary then s2.alignTime else s2

/-- HEARTBEAT_SEND (R430). -/
def execHeartbeatSend (h : Half) (s : State) : Out :=
  .next (if s.cstl.groups ≠ 0#4 ∧ s.cstlUp h then s.heartbeat h else s)

/-- GROUP_HEARTBEAT_LOSS (R430). -/
def execGroupHeartbeatLoss (g : Fin 4) (s : State) : Out := .next (s.groupDown g.val)

/-- LINK_GROUP_RETURN (R435): a group carries heartbeats again. During a split a rejoin follows (R434). -/
def execLinkGroupReturn (g : Fin 4) (s : State) : Out :=
  .next (if s.cstlUp .k ∧ s.cstlUp .q then
      { s with cstl := { s.cstl with groups := s.cstl.groups ||| BitVec.ofNat 4 (2 ^ g.val) } }.tryFallback
    else s)

/-! ### Rejoin (R434) -/

/-- The half that wins a rejoin, and whether the epochs are equal with different holders (R434). -/
def StoreCopy.winner (c : StoreCopy) : Half × Bool :=
  if c.custodyQ < c.custodyK then (.k, false)
  else if c.custodyK < c.custodyQ then (.q, false)
  else if c.holderK = c.holderQ then (halfOf c.holderK, false)
  else (.k, true)

/-- A classification item copied from one version to another (R432, R434). -/
def Tables.copyItem (t src : Tables) (item : Nat) : Tables :=
  if item = 1 then { t with em := src.em }
  else if item = 2 then { t with lpm4 := src.lpm4 }
  else if item = 3 then { t with lpm6 := src.lpm6 }
  else if item = 4 then { t with tern := src.tern }
  else if item ≤ 8 then
    { t with index := (src.index.filter fun e => e.1 / 65536 = item - 5).foldl (fun m e => mput m e.1 e.2)
                        (t.index.filter fun e => !(e.1 / 65536 = item - 5)) }
  else if 0x10 ≤ item ∧ item < 0x18 then { t with cfg := mset t.cfg (item - 0x10) (mget src.cfg (item - 0x10) 0) 0 }
  else if item = 0x20 then { t with nodes := src.nodes }
  else
    { t with divert := (src.divert.filter fun e => e.1 / 16 = item - 0x30).foldl (fun m e => mput m e.1 e.2)
                         (t.divert.filter fun e => !(e.1 / 16 = item - 0x30)) }

/-- The losing half's classification takes the winner's replicated items. -/
def Cls.takeFrom (x w : Cls) : Cls :=
  { x with live := w.replicated.foldl (fun t i => t.copyItem w.live i) x.live, replicated := w.replicated }

/-- The index, subindex and selection of a parameter's key. -/
def keyIndex (k : Nat) : Nat := k / 268435456
def keySub (k : Nat) : Nat := k / 1048576 % 256
def keySel (k : Nat) : Nat := k % 1048576

/-- A parameter is a half's own: of its ports or counters, or of a slice homed on it. -/
def State.ownParam (s : State) (h : Half) (k : Nat) : Bool :=
  if (keyIndex k = 0xA010 && keySub k = 2) || (keyIndex k = 0xA400 && keySub k = 0x0A) then
    recHome (s.slice (keySel k)).record = h
  else objHalf (keyIndex k) (keySub k) = some h

/-- The parameters after a rejoin that `h` won: its own values, but for those the other half owns; nodes, profiles and
policers stay as each half has them. -/
def State.joinParams (s : State) (h : Half) : State :=
  let own := fun (k : Nat) => s.ownParam h.other k
  let node := fun (k : Nat) => keyIndex k = 0xA100
  let base := ((s.params h.other).filter fun e => own e.1).foldl (fun m e => mput m e.1 e.2)
    ((s.params h).filter fun e => !own e.1 && !node e.1)
  let both := fun (x : Half) => ((s.params x).filter fun e => node e.1).foldl (fun m e => mput m e.1 e.2) base
  { s with mgmt := { s.mgmt with paramsK := both .k, paramsQ := both .q } }

/-- A divergent slice command of the losing half is undone: the slice is as it was at the split (R434). -/
def State.undoSlice (s : State) (id : Nat) : State :=
  let b := mget s.cstl.before id {}
  let mine := fun (c : SliceCmd) => recId c.record = id
  let s1 := (s.mgmt.sliceQ.filter mine).foldl (fun a c => a.sliceResult c.sess b.st stAborted)
    { s with mgmt := { s.mgmt with sliceQ := s.mgmt.sliceQ.filter fun c => !mine c } }
  if b.st = .free then (if (s.slice id).st = .free then s1 else ((s1.sliceReset id).freeSlice id).evalGates)
  else if b.st = .enabled then s1.setSlice id b
  else (if (s.slice id).st = .free then s1 else s1.sliceReset id).setSlice id b

/-- The losing half discards its divergent changes, logging each (R434). -/
def State.discardChanges (s : State) (h : Half) : State :=
  let ds := (s.half h).cust.divergent
  let ids := ((ds.filter fun d => d.1 = 0x5000).map fun d => d.2.2).eraseDups
  let s1 := ids.foldl State.undoSlice s
  let s2 := ds.foldl (fun a d =>
    a.logOn h 0x24 0 (unitId h 15) 65535 0 (d.1 + 65536 * d.2.1 + (if d.1 = 0xA000 then 4294967296 * d.2.2 else 0))) s1
  { s2 with cstl := { s2.cstl with discarded := ds.length } }

/-- A commit that waits for a half ends, and the half's divergent changes are forgotten. -/
def State.settleHalf (s : State) (h : Half) : State :=
  (if s.mgmt.staging.waitsFor h then s.endCommit else s).onHalf h fun x => { x with cust := { x.cust with divergent := [] } }

/-- The halves are one device again: the loser takes the winner's device-wide state and becomes standby, on the image of the
highest bootable record (R375, R434). -/
def State.joinHalves (s : State) : State :=
  let (w, conflict) := s.nv.store.winner
  let e := s.nv.store.custody w
  let s1 := if conflict then s.logOn w 0x25 0 (unitId w 15) 65535 0 e else s
  let s2 := s1.discardChanges w.other
  let s3 := (s2.settleHalf .k).settleHalf .q
  let s4 := (s3.onHalf w.other fun x => { x with cls := x.cls.takeFrom (s3.half w).cls }).joinParams w
  let s5 := s4.makePrimary w e
  let slot := if s5.trust.slotK = s5.trust.slotQ then s5.trust.slotK else (s5.nv.chooseSlot).getD s5.runningSlot
  let t := { s5.trust with slotK := slot, slotQ := slot
                           trialEnd := if s5.nv.slotState slot = slTried then s5.trust.trialEnd else none }
  let s6 := { s5 with trust := t, cstl := { s5.cstl with split := false, before := [] } }
  (((s6.logOn w 0x22 0 (unitId w 15) 65535 0 s6.cstl.discarded).alignTime).tryFallback).evalGates

/-- REJOIN (R434): once a group carries heartbeats between the two running SUPVs. -/
def execRejoin (s : State) : Out :=
  .next (if s.cstl.split ∧ s.cstl.groups ≠ 0#4 ∧ s.cstlUp .k ∧ s.cstlUp .q ∧ s.k.supvUp ∧ s.q.supvUp then s.joinHalves else s)

/-! ### Grants (R433) -/

/-- A session that may carry a grant: a mailbox, or an authenticated Synrok or MCTP session (R433). -/
def mayGrant (w : Who) : Bool :=
  match w.sess with
  | .mbox _ => true
  | _ => w.key.isSome

/-- CUSTODY_GRANT_WRITE (R433): accepted by a half that is split, at an epoch above its own. -/
def execCustodyGrantWrite (w : Who) (rec : BitVec 64) (s : State) : Out :=
  (s.write w 0x2300 3 (leBytes 8 rec.toNat) idle always fun a =>
    let h := a.server w.sess
    let half := fld rec 0 8
    let e := fld rec 32 32
    if a.cstl.split = false ∨ 2 ≤ half ∨ e ≤ a.nv.store.custody h ∨ mayGrant w = false then none
    else
      let b := a.ownWrite fun c => c.setCustody h e half
      let d := b.onHalf h fun x => { x with cust := { x.cust with holds := decide (half = h.num), grantTime := b.time h } }
      some (d.logOn h 0x23 0 (unitId h 15) 65535 0 (half + 4294967296 * e))).out w

end Sys2Proof.Machine
end

