-- ==== Sys2Proof/Machine/Host.lean ====
section
/-! DEFINITION. Host-port events: links, function state, interrupts, completions, IDE and SPDM (02). -/

namespace Sys2Proof.Machine
open Sys2Proof

/-! ### Configuration accesses (R58, R63, R367) -/

/-- A configuration access to a function: there is none at a port without a host, it is retried while the outputs are gated
or an FLR runs, and it is answered in D3hot (R41, R58, R63, R367). -/
def State.config (s : State) (fk : Nat) (f : State → State) : State :=
  let p := s.port (keyPort fk)
  if p.root ∨ p.up = false ∨ s.board.boot = .inReset then s
  else if 4 ≤ keyNum fk ∧ (s.fn (fnKey (keyPort fk) (fnPf (keyNum fk)))).vfEnable = false then s
  else if s.board.boot = .streaming ∨ (s.fn fk).flr then s.emit .retryStatus
  else f s

/-! ### Links (R38, R39, R65, R78) -/

/-- PERST_ASSERT (R65, R369): PERST# is an input of an endpoint port. -/
def execPerstAssert (p : Fin 4) (s : State) : Out :=
  .next (if s.board.boot = .inReset ∨ (s.port p.val).root then s else s.portDown p)

/-- LINK_DL_DOWN (R65). Below a root port, only the link falls: what becomes of its drives comes with
DRIVE_SURPRISE_REMOVAL (R67). -/
def State.linkDown (s : State) (p : Fin 4) : State :=
  let x := s.port p.val
  if x.up = false then s
  else if x.root then s.setPort p.val { x with up := false, rate := 0, width := 0, flit := false }
  else s.portDown p

def execLinkDlDown (p : Fin 4) (s : State) : Out := .next (s.linkDown p)

/-- The unit index of a host port's HOST unit (R15). -/
def hostUnit (p : Nat) : Nat := 11 + p % 2

/-- A port can train: the device is out of reset, its half is not stopped, and its HOST unit is ACTIVE (R40, R412, R422). -/
def State.portTrains (s : State) (p : Nat) : Bool :=
  s.board.boot != .inReset && !(s.half (portHalf p)).stopped && s.active (portHalf p) (hostUnit p)

/-- A rate, width and mode that R38 allows, within MAX_SPEED_Pn and MAX_WIDTH_Pn (R39). -/
def State.trainable (s : State) (p rate width : Nat) (flit : Bool) : Bool :=
  let h := portHalf p
  1 ≤ rate && rate ≤ s.param h 0x1101 (p + 1) 0 6 && [1, 2, 4, 8].contains width && width ≤ s.param h 0x1102 (p + 1) 0 8
    && (rate < 6 || flit)

/-- LINK_DL_UP (R38, R65, R78): an endpoint port's link is up; one below 64 GT/s x8 is logged. -/
def State.hostLinkUp (s : State) (p : Fin 4) (rate width : Nat) (flit : Bool) : State :=
  let x := s.port p.val
  if x.up ∨ x.root ∨ s.portTrains p.val = false ∨ s.trainable p.val rate width flit = false then s
  else
    let s1 := s.setPort p.val { x with up := true, rate := rate, width := width, flit := flit }
    if rate = 6 ∧ width = 8 then s1 else s1.log 0x1001 0 (unitId (portHalf p.val) (hostUnit p.val)) 0 p.val

def execLinkDlUp (p : Fin 4) (rate width : Nat) (flit : Bool) (s : State) : Out := .next (s.hostLinkUp p rate width flit)

/-! ### Bus mastering and power states (R58, R60 to R62, R116) -/

/-- BME_CLEAR (R61). -/
def execBmeClear (f : FnRef) (s : State) : Out :=
  .next (s.config (fkey f) fun a => if (a.fn (fkey f)).bme then a.clearMaster (fkey f) else a)

/-- BME_SET (R61, R62). -/
def execBmeSet (f : FnRef) (s : State) : Out := .next (s.config (fkey f) fun a => a.setMaster (fkey f))

/-- Interrupts of a function's CQs that moderation holds when it enters D3hot: with PME_En set each becomes a PME, else it
stays held (R60, R116). -/
def State.sleepCq (s : State) (fk k : Nat) : State :=
  let c := s.cq k
  if c.fn = fk ∧ c.irqEn ∧ 0 < c.u then
    if (s.fn fk).pmeEn then (s.setCq k { c with u := 0, due := false }).sendPme fk else s.setCq k { c with due := true }
  else s

/-- D3HOT_ENTRY (R58, R116): a PF enters D3hot, which acts as clearing BME. -/
def State.d3Enter (s : State) (fk : Nat) : State :=
  let f := s.fn fk
  if f.d3 ∨ 4 ≤ keyNum fk then s
  else
    let bme := f.bme
    let s1 := s.clearMaster fk
    let s2 := s1.setFn fk { s1.fn fk with bme := bme, d3 := true }
    (s2.cqs.map Prod.fst).foldl (fun a k => a.sleepCq fk k) s2

def execD3hotEntry (f : FnRef) (s : State) : Out := .next (s.config (fkey f) fun a => a.d3Enter (fkey f))

/-- The interrupts that were held by moderation or fell due in D3hot are sent at once (R60, R116). -/
def State.wakeCq (s : State) (fk k : Nat) : State := if (s.cq k).fn = fk ∧ (s.cq k).due then s.cqDue k else s

/-- D0_RETURN (R58): with BME set it acts as setting BME. -/
def State.d0Back (s : State) (fk : Nat) : State :=
  let f := s.fn fk
  if f.d3 = false then s
  else
    let s1 := s.setFn fk { f with d3 := false }
    let s2 := if f.bme then s1.masterBack fk else s1
    (s2.cqs.map Prod.fst).foldl (fun a k => a.wakeCq fk k) s2

def execD0Return (f : FnRef) (s : State) : Out := .next (s.config (fkey f) fun a => a.d0Back (fkey f))

/-- PME_RETRY (R60): a PME is sent again until PME_Status is cleared. -/
def execPmeRetry (f : FnRef) (s : State) : Out :=
  .next (if (s.fn (fkey f)).pmeStatus ∧ (s.port f.port.val).up then s.emit (.pme (fkey f)) else s)

/-- PME_STATUS_CLEAR (R60). -/
def execPmeStatusClear (f : FnRef) (s : State) : Out :=
  .next (s.config (fkey f) fun a => a.setFn (fkey f) { a.fn (fkey f) with pmeStatus := false })

/-! ### Function resets (R63, R82) -/

/-- FLR_INITIATE (R63, R82): the function is reset, and answers no access until FLR_DONE. -/
def execFlrInitiate (f : FnRef) (s : State) : Out :=
  .next (s.config (fkey f) fun a =>
    let b := a.fnReset f.port f.num.val
    b.setFn (fkey f) { flr := true })

/-- FLR_DONE (R63): the reset completes. -/
def execFlrDone (f : FnRef) (s : State) : Out :=
  .next (if (s.fn (fkey f)).flr then s.setFn (fkey f) { s.fn (fkey f) with flr := false } else s)

/-- A VF-form slice whose VF leaves the hierarchy: it is reset, and one that was ENABLED or DISABLING reads DISABLED (R82). -/
def State.leaveVf (s : State) (id : Nat) : State :=
  let s1 := s.resetSettle id
  if (s1.slice id).st = .enabled then s1.setSlice id { s1.slice id with st := .disabled } else s1

/-- VF_ENABLE_CLEAR (R82, R83). -/
def State.clearVfs (s : State) (p : Fin 4) (pf : Nat) : State :=
  let fk := fnKey p.val pf
  if (s.fn fk).vfEnable = false then s
  else
    let ids := (s.pfSlices p.val pf).filter fun i => recForm (s.slice i).record = 0
    let s1 := s.quarantine p.val fun t => 4 ≤ keyNum t.fn && fnPf (keyNum t.fn) = pf
    let s2 := (ids.foldl State.leaveVf s1).dropVfs p.val pf
    s2.setFn fk { s2.fn fk with vfEnable := false }

def execVfEnableClear (f : FnRef) (s : State) : Out :=
  .next (s.config (fkey f) fun a => if f.num.val = 1 ∨ f.num.val = 2 then a.clearVfs f.port f.num.val else a)

/-! ### Interrupts (R50 to R52, R77) -/

/-- The slice that a vector of a function's table belongs to, 4,096 for none, with its number there (R51, R72). -/
def State.entryOwner (s : State) (fk e : Nat) : Nat × Nat :=
  if 4 ≤ keyNum fk then (s.vfSlice fk, e)
  else
    match s.slices.find? fun x => x.2.used ∧ recForm x.2.record = 1 ∧ recFn x.2.record = fk ∧ x.2.vec0 ≤ e
        ∧ e < x.2.vec0 + recVectors x.2.record with
    | some x => (x.1, e - x.2.vec0)
    | none => (4096, e)

/-- The pending bit of a vector that is no longer masked is released as a message, subject to the slice's interval; while
the function may send none, the interrupt is held (R52, R61, R77). -/
def State.releaseVec (s : State) (fk e : Nat) : State :=
  let f := s.fn fk
  if mget f.pba e false then
    let s1 := s.setFn fk { f with pba := merase f.pba e }
    let o := s1.entryOwner fk e
    if s1.mastering fk = false then s1.holdIrq fk o.1 o.2
    else if s1.interval fk o.1 then s1.holdVector o.1 o.2
    else s1.sendMsg fk o.1 e
  else s

/-- The vectors of a function whose pending bits are no longer masked are released. -/
def State.releaseAll (s : State) (fk : Nat) : State :=
  let f := s.fn fk
  (f.pba.map Prod.fst).foldl (fun a e =>
    let masked := if f.msix then f.fnMask || !mget f.unmasked e false else bit f.msiMask e
    if masked then a else a.releaseVec fk e) s

/-- INTERRUPT_ENABLE_CHANGE (R50, R51): the interrupts held while neither mechanism was enabled are sent. -/
def State.irqEnable (s : State) (fk : Nat) (msi msix : Bool) (vectors : Nat) : State :=
  let f := s.fn fk
  let n := if [1, 2, 4, 8, 16, 32].contains vectors then vectors else f.msiVectors
  let s1 := s.setFn fk { f with msi := msi && keyNum fk < 4, msix := msix, msiVectors := n }
  if s1.mastering fk ∧ ((s1.fn fk).msi ∨ msix) then s1.sendIrqs fk else s1

def execInterruptEnableChange (f : FnRef) (msi msix : Bool) (vectors : Nat) (s : State) : Out :=
  .next (s.config (fkey f) fun a => a.irqEnable (fkey f) msi msix vectors)

/-- The table size of a function's MSI-X capability (R44, R51). -/
def State.tableSize (s : State) (fk : Nat) : Nat :=
  if 4 ≤ keyNum fk then recVectors (s.slice (s.vfSlice fk)).record
  else if keyNum fk = 0 then 32 else if keyNum fk = 3 then 65 else 2048

/-- VECTOR_UNMASK (R52): the mask bit of an MSI-X table entry in BAR2, or of an MSI vector, is cleared. -/
def State.unmask (s : State) (fk v : Nat) : State :=
  let f := s.fn fk
  if f.msi ∧ f.msix = false then
    s.config fk fun a =>
      let b := a.setFn fk { a.fn fk with msiMask := f.msiMask &&& ~~~ BitVec.ofNat 32 (2 ^ v) }
      if v < 32 then b.releaseVec fk v else a
  else
    s.access fk fun a =>
      if a.tableSize fk ≤ v then a
      else
        let b := a.setFn fk { a.fn fk with unmasked := mput f.unmasked v true }
        if f.msix ∧ f.fnMask = false then b.releaseVec fk v else b

def execVectorUnmask (f : FnRef) (v : Nat) (s : State) : Out := .next (s.unmask (fkey f) v)

/-! ### Completions (R54, R55, R61, R63) -/

/-- A request's answer is an error: its work entry ends HOST_FAULT, and the error is reported through AER (R55). -/
def State.readFails (s : State) (t : Tag) : State :=
  let s1 := s.emit (.aer t.fn)
  if t.kind = 0 then
    match (s1.queue t.queue).started.find? (·.index = t.entry) with
    | some e => (s1.finish t.queue e stHostFault 0 0 0 true).settleQueue t.queue
    | none => s1
  else if t.kind = 1 then
    match (s1.chan (t.queue - chanBase)).run with
    | some r => if r.result = none ∧ r.index = t.entry then s1.setRun (t.queue - chanBase) r.fail else s1
    | none => s1
  else if t.kind = 2 then
    match (s1.qpk (qQp t.queue)).sq.started.find? (·.index = t.entry) with
    | some e => s1.failEntry (qQp t.queue) e stHostFault
    | none => s1
  else s1.outcome t.queue t.entry (stHostFault, 0, 0)

/-- A request's answer is good: its data reaches its work entry. -/
def State.readDone (s : State) (t : Tag) (data : List Byte) : State :=
  if t.kind = 0 then s.ethData t.queue t.entry data
  else if t.kind = 1 then
    match (s.chan (t.queue - chanBase)).run with
    | some r =>
      if r.result = none ∧ r.index = t.entry then s.setRun (t.queue - chanBase) (r.copy { bytes := data, failed := false }) else s
    | none => s
  else if t.kind = 2 then s.rdmaData (qQp t.queue) t.entry data
  else s.storageData t.queue t.entry data

/-- A tag is free again, and a slice being destroyed may have waited for it (R54, R85). -/
def State.freeTagNo (s : State) (p tag : Nat) (t : Tag) : State :=
  let x := s.port p
  let s1 := s.setPort p { x with tags := merase x.tags tag }
  if t.slice < 4096 then s1.settle t.slice else s1

/-- A completion arrives for a tag (R54, R55, R61, R63): for none, it is an Unexpected Completion; for a quarantined one it is
dropped and counted, and frees a tag that an FLR has quarantined; an answer to be discarded only frees its tag. -/
def State.arrive (s : State) (p tag : Nat) (st : CplStatus) : State :=
  let x := s.port p
  match mfind x.tags tag with
  | none => s.emit (.aer (fnKey p 0))
  | some t =>
    if t.quarantined then
      let f := s.fn t.fn
      let s1 := s.setFn t.fn { f with lateCpl := sat31 f.lateCpl }
      if t.discard then s1 else s1.freeTagNo p tag t
    else
      let s1 := s.freeTagNo p tag t
      if t.discard then s1
      else
        match st with
        | .ok data => s1.readDone t data
        | _ => s1.readFails t

/-- COMPLETION_ARRIVAL (R54). -/
def execCompletionArrival (p : Fin 4) (tag : Nat) (st : CplStatus) (s : State) : Out :=
  .next (if (s.port p.val).root ∨ (s.port p.val).up = false then s else s.arrive p.val tag st)

/-- The device time at which the timeout of a request, or its quarantine, ends (R55, R63). -/
def State.tagEnd (s : State) (t : Tag) : Nat := t.since + (s.fn t.fn).ctoNs

/-- COMPLETION_TIMEOUT (R55): the request's entry ends HOST_FAULT, and its tag is quarantined for one further period. -/
def State.timeout (s : State) (p tag : Nat) : State :=
  match mfind (s.port p).tags tag with
  | none => s
  | some t =>
    if t.quarantined then s
    else
      let s1 := s.until (portHalf p) (s.tagEnd t)
      let x := s1.port p
      let s2 := s1.setPort p { x with
        tags := mput x.tags tag { t with quarantined := true, discard := true, since := s1.time (portHalf p) } }
      if t.discard then s2.emit (.aer t.fn) else s2.readFails t

def execCompletionTimeout (p : Fin 4) (tag : Nat) (s : State) : Out := .next (s.timeout p.val tag)

/-- TAG_QUARANTINE_EXPIRY (R55, R63): the tag is freed, and nothing is reported. -/
def State.quarantineEnd (s : State) (p tag : Nat) : State :=
  match mfind (s.port p).tags tag with
  | none => s
  | some t => if t.quarantined then (s.until (portHalf p) (s.tagEnd t)).freeTagNo p tag t else s

def execTagQuarantineExpiry (p : Fin 4) (tag : Nat) (s : State) : Out := .next (s.quarantineEnd p.val tag)

/-! ### IDE (R56) -/

def State.ideStream (s : State) (p i : Nat) : IdeStream := mget (s.port p).ide i {}
def State.setIde (s : State) (p i : Nat) (x : IdeStream) : State :=
  s.setPort p { s.port p with ide := mset (s.port p).ide i x {} }

/-- IDE_INTEGRITY_FAIL (R56): the stream is insecure until IDE_KM sets it up again, and the event is logged. -/
def execIdeIntegrityFail (p : Fin 4) (stream : Fin 4) (s : State) : Out :=
  .next (if (s.ideStream p.val stream.val).secure then
    (s.setIde p.val stream.val { s.ideStream p.val stream.val with secure := false, failed := true }).log 0x1002 2
      (unitId (portHalf p.val) (hostUnit p.val)) 0 (p.val + 2 ^ 32 * stream.val)
  else s)

/-- A message to PF0's DOE mailbox: there is one at an endpoint port whose link is up, in configuration space (R43, R57). -/
def State.doe (s : State) (p : Fin 4) (f : State → State) : State :=
  s.config (fnKey p.val 0) fun a => if a.running then f a else a

/-- IDE_KM_SETUP (R56): keys come over a secured SPDM session. -/
def execIdeKmSetup (p : Fin 4) (stream : Fin 4) (key : BitVec 256) (s : State) : Out :=
  .next (s.doe p fun a =>
    if (a.port p.val).spdm = 5 then a.setIde p.val stream.val { secure := true, key := key, failed := false } else a)

/-! ### SPDM (R57, R381) -/

/-- The fuse state word 0x7000:01 (R382). -/
def NonVol.fuseState (n : NonVol) : Nat :=
  let slots := List.range 8
  let prog := (slots.map fun i => if n.programmed i then 2 ^ i else 0).sum
  let rev := (slots.map fun i => match mfind n.keySlots i with
    | some k => if k.revoked then 2 ^ i else 0
    | none => 0).sum
  n.floorBits * 2 ^ 24 + rev * 2 ^ 16 + prog * 2 ^ 8 + 2 * b2n n.programBlown + b2n n.vendorBlown

/-- ENV_HASH of the booted image (R370, R378). -/
def State.bootHash (s : State) : Nat := envHash (s.nv.slot s.runningSlot)

/-- The certificate chain of the Fengiwick root, DeviceID and Alias (R381). -/
def State.chain (s : State) : List Byte := Config.certChain s.bootHash s.nv.fuseState

/-- 48 bytes of a digest, big-endian. -/
def digestBytes (d : Nat) : List Byte := beBytes 48 d

/-- A measurement block (R381). -/
def State.measurement (s : State) (i : Nat) : List Byte :=
  if i = 1 then digestBytes Config.romDigest.toNat
  else if i = 2 then digestBytes (Config.sha384 (envSigned (s.nv.slot s.runningSlot))).toNat
  else if i = 3 then digestBytes (Config.sha384 (leBytes 4 s.nv.fuseState ++ leBytes 2 s.secVersion)).toNat
  else if i = 12 then digestBytes (Config.sha384 ((List.range 1024).flatMap s.nv.calBlock)).toNat
  else if (s.nib (i - 4)).image.isSome then digestBytes (s.nib (i - 4)).digest
  else List.replicate 48 0

/-- The response codes of SPDM (PRESUMED, log 18). -/
def spVersion : Nat := 0x04
def spCapabilities : Nat := 0x61
def spAlgorithms : Nat := 0x63
def spDigests : Nat := 0x01
def spCertificate : Nat := 0x02
def spChallenge : Nat := 0x03
def spMeasurements : Nat := 0x60
def spKeyExchange : Nat := 0x64
def spFinish : Nat := 0x65
def spHeartbeat : Nat := 0x68
def spKeyUpdate : Nat := 0x69
def spEndSession : Nat := 0x6C
def spError : Nat := 0x7F

/-- A request that needs a stage of the session between two bounds, and an error where it comes at another. -/
def State.spdmReq (s : State) (p : Fin 4) (lo hi : Nat) (f : State → State) : State :=
  s.doe p fun a =>
    if lo ≤ (a.port p.val).spdm ∧ (a.port p.val).spdm ≤ hi then f a else a.emit (.spdm p.val spError [0x04])

def State.spdmStage (s : State) (p : Fin 4) (n : Nat) : State := s.setPort p.val { s.port p.val with spdm := n }

/-- SPDM_GET_VERSION: versions 1.2 and 1.3; a session in hand ends. -/
def execSpdmGetVersion (p : Fin 4) (s : State) : Out :=
  .next (s.spdmReq p 0 5 fun a => (a.spdmStage p 1).emit (.spdm p.val spVersion [0x12, 0x13]))

/-- SPDM_GET_CAPABILITIES. -/
def execSpdmGetCapabilities (p : Fin 4) (s : State) : Out :=
  .next (s.spdmReq p 1 1 fun a => (a.spdmStage p 2).emit (.spdm p.val spCapabilities []))

/-- SPDM_NEGOTIATE_ALGORITHMS: ECDSA P-384 with SHA-384, ECDHE on P-384, AES-256-GCM. -/
def execSpdmNegotiateAlgorithms (p : Fin 4) (s : State) : Out :=
  .next (s.spdmReq p 2 2 fun a => (a.spdmStage p 3).emit (.spdm p.val spAlgorithms []))

/-- SPDM_GET_DIGESTS: the digest of the chain. -/
def execSpdmGetDigests (p : Fin 4) (s : State) : Out :=
  .next (s.spdmReq p 3 5 fun a => a.emit (.spdm p.val spDigests (digestBytes (Config.sha384 a.chain).toNat)))

/-- SPDM_GET_CERTIFICATE: a part of the chain. -/
def execSpdmGetCertificate (p : Fin 4) (off len : Nat) (s : State) : Out :=
  .next (s.spdmReq p 3 5 fun a => a.emit (.spdm p.val spCertificate ((a.chain.drop off).take len)))

/-- What the Alias key signs over a transcript. -/
def State.sign (s : State) (bs : List Byte) : List Byte := Config.spdmSign s.bootHash s.nv.fuseState bs

/-- SPDM_CHALLENGE: the digest of the chain, a nonce, and the signature. -/
def execSpdmChallenge (p : Fin 4) (nonce : BitVec 256) (s : State) : Out :=
  .next (s.spdmReq p 3 3 fun a =>
    let body := digestBytes (Config.sha384 a.chain).toNat ++ Config.spdmNonce a.fresh
    a.fresher.emit (.spdm p.val spChallenge (body ++ a.sign (leBytes 32 nonce.toNat ++ body))))

/-- SPDM_GET_MEASUREMENTS (R381): 0 asks for the number of blocks, 255 for all. -/
def execSpdmGetMeasurements (p : Fin 4) (index : Nat) (s : State) : Out :=
  .next (s.spdmReq p 3 5 fun a =>
    if index = 0 then a.emit (.spdm p.val spMeasurements [12])
    else if index = 255 then
      a.emit (.spdm p.val spMeasurements ((List.range 12).flatMap fun i => a.measurement (i + 1)))
    else if index ≤ 12 then a.emit (.spdm p.val spMeasurements (a.measurement index))
    else a.emit (.spdm p.val spError [0x01]))

/-- SPDM_KEY_EXCHANGE: a share of the device's own, signed. -/
def execSpdmKeyExchange (p : Fin 4) (share : BitVec 768) (s : State) : Out :=
  .next (s.spdmReq p 3 3 fun a =>
    let mine := Config.spdmShare a.fresh
    let b := a.setPort p.val { a.port p.val with spdm := 4, spdmKeys := 0, spdmShare := share, spdmDraw := a.fresh }
    b.fresher.emit (.spdm p.val spKeyExchange (mine ++ a.sign (leBytes 96 share.toNat ++ mine))))

/-- SPDM_FINISH: the host's proof opens the session, or ends the exchange. -/
def execSpdmFinish (p : Fin 4) (verify : BitVec 384) (s : State) : Out :=
  .next (s.spdmReq p 4 4 fun a =>
    if verify = Config.spdmVerify (a.port p.val).spdmShare (a.port p.val).spdmDraw then
      (a.spdmStage p 5).emit (.spdm p.val spFinish [])
    else (a.spdmStage p 3).emit (.spdm p.val spError [0x06]))

/-- SPDM_HEARTBEAT. -/
def execSpdmHeartbeat (p : Fin 4) (s : State) : Out :=
  .next (s.spdmReq p 5 5 fun a => a.emit (.spdm p.val spHeartbeat []))

/-- SPDM_KEY_UPDATE. -/
def execSpdmKeyUpdate (p : Fin 4) (s : State) : Out :=
  .next (s.spdmReq p 5 5 fun a =>
    (a.setPort p.val { a.port p.val with spdmKeys := (a.port p.val).spdmKeys + 1 }).emit (.spdm p.val spKeyUpdate []))

/-- SPDM_END_SESSION. -/
def execSpdmEndSession (p : Fin 4) (s : State) : Out :=
  .next (s.spdmReq p 5 5 fun a => (a.spdmStage p 3).emit (.spdm p.val spEndSession []))

/-! ### Status registers with an effect (R45, R47, R48) -/

/-- An access to PF0's status region or to a status block; in RECOVERY it is answered too (R45, R376). -/
def State.statusAccess (s : State) (fk : Nat) (f : State → State) : State :=
  s.config fk fun a => if (a.fn fk).d3 then a.emit .unsupportedRequest else f a

/-- MGMT_TIME_LO_READ (R48): device time [30:0], and [61:31] is latched. -/
def execMgmtTimeLoRead (p : Fin 4) (s : State) : Out :=
  .next (s.statusAccess (fnKey p.val 0) fun a =>
    let t := a.time (portHalf p.val)
    (a.setPort p.val { a.port p.val with timeHi := t / 2 ^ 31 % 2 ^ 31 }).emit (.read (t % 2 ^ 31)))

/-- LATE_CPL_READ (R9, R45). -/
def execLateCplRead (f : FnRef) (s : State) : Out :=
  .next (s.statusAccess (fkey f) fun a =>
    (a.setFn (fkey f) { a.fn (fkey f) with lateCpl := 0 }).emit (.read (a.fn (fkey f)).lateCpl))

/-- FAULT_SUMMARY_CLEAR (R47): a 1 clears its bit. -/
def execFaultSummaryClear (f : FnRef) (v : BitVec 32) (s : State) : Out :=
  .next (s.access (fkey f) fun a =>
    if fnPf f.num.val = 1 ∨ fnPf f.num.val = 2 then
      let x := a.fn (fkey f)
      a.setFn (fkey f) { x with faultSummary := x.faultSummary &&& ~~~ (v.setWidth 4) }
    else a)

end Sys2Proof.Machine
end

