-- ==== Sys2Proof/Machine/Tmgr.lean ====
section
/-! DEFINITION. Admission, host-bound service, the scheduler, refills, and the traffic manager's objects (08). -/

namespace Sys2Proof.Machine
open Sys2Proof

/-- A counter of R213, raised. -/
def State.countTm (s : State) (h : Half) (sub n : Nat) : State := s.countH 0x6300 h sub n

/-! ### Admission from the shared pool (R192, R196) -/

/-- The last three lines of R196: a queue that uses `use` cells takes `c` more. -/
def State.poolAdmits (s : State) (h : Half) (use c min alpha : Nat) : Bool :=
  use + c ≤ min || ((use + c - min) * 64 ≤ s.sharedFree h * 2 ^ alpha && c ≤ s.sharedFree h)

/-! ### Host-bound frames (R198, R199) -/

/-- HOSTQ_MAX (R212). -/
def State.hostqMax (s : State) (h : Half) : Nat := s.param h 0xA100 8 0 2048

/-- Why a host-bound frame is dropped: none where it is admitted, else the counter of R213 (R198, R199). -/
def State.hostDrop (s : State) (h : Half) (f : Frame) : Option Nat :=
  let p := s.prio f
  let n := f.port
  let use := cellSum (s.hostq h (mdSlice f.md)).frames
  let c := f.cells
  if s.lossless n p ∧ f.mirrored = false then
    if s.xoffCells n < s.ingress n p then
      (if s.xoffCells n + s.headroomCells n < s.ingress n p + c then some 6 else none)
    else if s.poolAdmits h use c 0 6 then none
    else some 1
  else if s.hostqMax h < use + c then some 7
  else if s.poolAdmits h use c 0 6 then none
  else some 1

/-- A received frame at TMGR (R198, R199). -/
def State.admitHost (s : State) (h : Half) (f : Frame) : State :=
  match s.hostDrop h f with
  | some k => (s.countTm h k 1).countSlice h (mdSlice f.md) cRxTmgrDrop 1
  | none =>
    let q := s.hostq h (mdSlice f.md)
    ((s.setHostq h (mdSlice f.md) { q with frames := q.frames ++ [f] }).notePeak h).pfcCheck f.port (s.prio f)

/-! ### Port-bound frames (R151, R155, R195 to R197) -/

/-- The average of a leaf after an arrival that finds `q` cells, in 2^-32 cell (R195). -/
def wredAvg (avg q w : Nat) : Nat := ((avg : Int) + ((q * 4294967296 : Nat) - (avg : Int)) / 2 ^ w).toNat

/-- The draw of an arrival lies below the probability of an average (R195). -/
def wredHit (r : BitVec 128) (avg draw : Nat) : Bool :=
  if profPmax r = 0 ∨ avg < profWredMin r * 4294967296 then false
  else if profWredMax r * 4294967296 ≤ avg then true
  else draw % 4294967296 * (256 * (profWredMax r - profWredMin r)) < profPmax r * (avg - profWredMin r * 4294967296)

/-- A frame is ECN-capable: ECT(0) or ECT(1) in its outermost IP header (R197). -/
def Frame.ect (f : Frame) : Bool :=
  match ipAt f.md f.bytes with
  | some (l3, v) => tosAt f.bytes l3 v % 4 = 1 || tosAt f.bytes l3 v % 4 = 2
  | none => false

/-- The frame with CE set, its IPv4 checksum updated (R197). -/
def Frame.markCe (f : Frame) : Frame :=
  match ipAt f.md f.bytes with
  | some (l3, v) => { f with bytes := putTos f.bytes l3 v (tosAt f.bytes l3 v / 4 * 4 + 3) }
  | none => f

/-- A drop at a leaf: counted, and the ETH_SEND ends (R156, R196). -/
def State.leafDrop (s : State) (h : Half) (leaf k : Nat) (f : Frame) (g : Node → Node) : State :=
  ((s.setNode h 3 leaf (g (s.node h 3 leaf))).countTm h k 1).lostSend f

/-- A frame enters a leaf's queue: an ETH_SEND without TS completes (R156). -/
def State.leafQueue (s : State) (h : Half) (leaf : Nat) (f : Frame) : State :=
  let x := s.node h 3 leaf
  let s1 := ((s.setNode h 3 leaf { x with frames := x.frames ++ [{ f with leaf := leaf }] }).notePeak h).evalGates
  if bit f.opspec 0 then s1 else s1.endSend f stOk 0 0 true

/-- The pool's decision on a frame, ECN and WRED past (R196). -/
def State.leafPool (s : State) (h : Half) (leaf : Nat) (f : Frame) : State :=
  let x := s.node h 3 leaf
  let r := s.profile h (ndProfile x.record)
  if s.poolAdmits h (cellSum x.frames) f.cells (profMin r) (profAlpha r) then s.leafQueue h leaf f
  else s.leafDrop h leaf 1 f id

/-- R196 for a leaf that is enabled and whose tail limit the frame respects: WRED and ECN first. -/
def State.leafWred (s : State) (h : Half) (leaf : Nat) (f : Frame) (hit : Bool) : State :=
  let r := s.profile h (ndProfile (s.node h 3 leaf).record)
  if hit = false then s.leafPool h leaf f
  else if profEcn r ∧ f.ect ∧ f.isSealed = false then
    let x := s.node h 3 leaf
    ((s.setNode h 3 leaf { x with ecnMark := x.ecnMark + 1 }).countTm h 4 1).leafPool h leaf f.markCe
  else
    let s1 := if profEcn r ∧ f.ect then s.countTm h 5 1 else s
    s1.leafDrop h leaf 3 f fun x => { x with wredDrop := x.wredDrop + 1 }

/-- A frame for a leaf at TMGR (R151, R155, R195, R196). -/
def State.admitLeaf (s : State) (h : Half) (f : Frame) : State :=
  let leaf := mdLeaf f.md
  let x := s.node h 3 leaf
  let r := s.profile h (ndProfile x.record)
  let use := cellSum x.frames
  let avg := wredAvg x.avg use (profAvgW r)
  let hit := wredHit r avg (Config.wredDraw s.fresh)
  let s1 := (s.setNode h 3 leaf { x with avg := avg }).fresher
  if (s.ethPort f.port).link = false then (s1.countPort f.port 0x0E 1).lostSend f
  else if bit (s.ethPort f.port).stormed (ndTc x.record) then (s1.countPort f.port 0x18 1).lostSend f
  else if ndEnable x.record = false then s1.leafDrop h leaf 8 f id
  else if profMax r < use + f.cells then s1.leafDrop h leaf 2 f fun y => { y with tailDrop := y.tailDrop + 1 }
  else s1.leafWred h leaf f hit

/-- TMGR_ADMIT (R196, R198): the oldest frame at TMGR of a half. -/
def State.tmgrAdmit (s : State) (h : Half) : State :=
  if s.forwards h = false then s
  else
    match s.takeFlight h (·.stage = .tmgr) with
    | none => s
    | some (f, s1) => if f.dir then s1.admitLeaf h f else s1.admitHost h f

def execTmgrAdmit (h : Half) (s : State) : Out := .next (s.tmgrAdmit h)

/-! ### Host-bound service (R198) -/

/-- The deficits of the host-bound queues of a half, by slice. -/
def State.hostDeficits (s : State) (h : Half) : Map Int := mmap (fun _ x => x.deficit) (s.half h).tmgr.hostq

/-- The queue whose frame goes next, and the deficits before its charge: DWRR with quanta of 2,048 bytes (R198; log 17). -/
def State.hostChoose (s : State) (h : Half) : Option (Nat × Map Int) :=
  let cs := (((s.half h).tmgr.hostq.filter fun e => e.2.frames != []).map fun e =>
    { id := e.1, committed := false, strict := 0, weight := 32 : Child })
  match cs with
  | [] => none
  | _ => some (dwrr (256 * (cs.length + 1)) cs (s.half h).tmgr.hostTurn (s.hostDeficits h))

/-- A frame has left a host-bound queue: to XPORT of its slice's home half, or it is dropped where it cannot cross
(R34, R198, R431). -/
def State.toXport (s : State) (h : Half) (f : Frame) : State :=
  let d := recHome (s.slice (mdSlice f.md)).record
  if d ≠ h ∧ s.cstl.split then s.countH 0x6A00 h 2 1 else s.addFlight d { f with stage := .xport }

/-- HOSTQ_SEND (R198). -/
def State.hostqSend (s : State) (h : Half) : State :=
  if s.forwards h = false then s
  else
    match s.hostChoose h with
    | none => s
    | some (i, d) =>
      match (s.hostq h i).frames with
      | [] => s
      | f :: rest =>
        let s1 := s.onHalf h fun x =>
          { x with tmgr := { x.tmgr with
              hostTurn := i
              hostq := mmap (fun k y => { y with deficit := mget d k 0 }) x.tmgr.hostq } }
        let q := s1.hostq h i
        ((s1.setHostq h i { q with frames := rest, deficit := q.deficit - f.len }).pfcAfter [f]).toXport h f

def execHostqSend (h : Half) (s : State) : Out := .next (s.hostqSend h)

/-! ### The scheduler (R203, R204) -/

/-- A node charged for a frame it has passed, with its NODE_STATS (R204, R206, R212). -/
def State.chargeNode (s : State) (h : Half) (level i n : Nat) (f : Frame) : State :=
  let x := s.node h level i
  let y := x.charge (s.shaped n x.record f)
  s.setNode h level i { y with sent := y.sent + 1, sentBytes := y.sentBytes + f.len }

/-- The choice of a node recorded: whose turn it is, and its children's deficits (R203). -/
def State.chooseNode (s : State) (h : Half) (level i turn : Nat) (d : Map Int) (f : Frame) : State :=
  s.setNode h level i ((s.node h level i).chosen turn d f.len)

/-- The counters of a frame of a slice handed to NET (R86). -/
def State.countTx (s : State) (f : Frame) : State :=
  if f.mirrored ∨ f.rdma then s
  else (s.countSlice (ethHalf f.port) (mdSlice f.md) cTxFrames 1).countSlice (ethHalf f.port) (mdSlice f.md) cTxOctets f.len

/-- A frame of a path goes to NET: its leaf loses it, every node of the path is charged, and the deficits are kept. -/
def State.sendPath (s : State) (n : Nat) (p : Path) (dg da dl : Map Int) (f : Frame) (rest : List Frame) : State :=
  let h := ethHalf n
  let s1 := s.setNode h 3 p.leaf { s.node h 3 p.leaf with frames := rest }
  let s2 := (((s1.chargeNode h 0 (n % 8) n f).chargeNode h 1 p.group n f).chargeNode h 2 p.snode n f).chargeNode h 3 p.leaf n f
  let s3 := ((s2.chooseNode h 0 (n % 8) p.group dg f).chooseNode h 1 p.group (p.snode * 16 + p.att) da f).chooseNode h 2 p.snode
    p.leaf dl f
  ((s3.countTx f).addFlight h { f with stage := .net, port := n }).evalGates

/-- SCHED_SEND (R203, R204): the frame the scheduler chooses for a port goes to NET. -/
def State.schedSend (s : State) (n : Nat) : State :=
  if s.forwards (ethHalf n) = false ∨ s.works (ethHalf n) 13 = false then s
  else
    match s.schedule n with
    | none => s
    | some (p, dg, da, dl) =>
      match (s.node (ethHalf n) 3 p.leaf).frames with
      | [] => s
      | f :: rest => s.sendPath n p dg da dl f rest

def execSchedSend (n : Fin 16) (s : State) : Out := .next (s.schedSend n.val)

/-- How many nodes a level has in a half (R200). -/
def levelSize (level : Nat) : Nat :=
  if level = 0 then 8 else if level = 1 then 512 else if level = 2 then 2048 else if level = 3 then 65536 else 0

/-- BUCKET_REFILL (R205). -/
def execBucketRefill (h : Half) (level node : Nat) (s : State) : Out :=
  .next (if node < levelSize level ∧ s.running then s.setNode h level node ((s.node h level node).refill level) else s)

/-! ### Node records (R201, R202, R193, R205, R211, R212) -/

/-- What NODE_SELECT names: half, level and node. -/
structure NodeSel where
  half  : Half
  level : Nat
  num   : Nat
deriving DecidableEq, Repr

def nodeSelOf (v : Nat) : NodeSel := { half := halfOf (v / 65536 % 2), level := v / 2 ^ 18 % 4, num := v % 65536 }

def State.nodeSel (s : State) (ss : Session) : NodeSel := nodeSelOf (s.sel ss (obj 0xA100 1) 0)

/-- The node exists. -/
def NodeSel.exists_ (x : NodeSel) : Bool := x.num < levelSize x.level

/-- The half of a selection cannot be reached (R431). -/
def State.away (s : State) (ss : Session) (h : Half) : Bool := s.cstl.split && h != s.server ss

/-- The latest record of a node, one that waits for a refill included. -/
def Node.latest (x : Node) : BitVec 256 := x.next.getD x.record

/-- A record as the device takes it: OWNER, and PARENT but for a group, keep their values; a slice node's STRICT and WEIGHT
read 0 (R201). -/
def nodeTaken (level : Nat) (old new : BitVec 256) : BitVec 256 :=
  let r := setFld new 192 16 (ndOwner old)
  let r1 := if level = 1 then r else setFld r 160 16 (ndParent old)
  if level = 2 then setFld (setFld r1 4 3 0) 16 16 0 else r1

/-- The fields of a record are in range (R201). -/
def nodeRange (level : Nat) (r : BitVec 256) : Bool :=
  (level = 2 || (1 ≤ ndWeight r && ndWeight r ≤ 4095)) && ndCir r ≤ 400000000 && ndPir r ≤ 400000000
    && (ndPir r = 0 || ndCir r ≤ ndPir r) && ndCbs r ≤ 16777215 && ndPbs r ≤ 16777215
    && (level != 1 || ndParent r ≤ 7 || ndParent r = 0xFFFF) && (level != 3 || ndProfile r ≤ 63)

/-- A leaf below a group holds a frame (R202). -/
def State.groupHolds (s : State) (h : Half) (g : Nat) : Bool :=
  (s.heldLeaves h).any fun l => (s.node h 3 l).frames != [] && (s.pathOf h l).any fun p => p.group = g

/-- A write that would move queued frames (R202). -/
def State.moves (s : State) (x : NodeSel) (r : BitVec 256) : Bool :=
  let old := (s.node x.half x.level x.num).latest
  if x.level = 3 then ndAttach r != ndAttach old && ndEnable old
  else if x.level = 1 then ndParent r != ndParent old && s.groupHolds x.half x.num
  else false

/-- What takes effect at the write of a leaf: ENABLE, ATTACH, TC and QPROFILE; the rest waits for the next refill (R205). -/
def nodeNow (old new : BitVec 256) : BitVec 256 :=
  let r := setFld (setFld old 7 1 (fld new 7 1)) 12 4 (ndAttach new)
  setFld (setFld r 8 3 (ndTc new)) 176 8 (ndProfile new)

/-- A leaf that is disabled discards its frames (R202). -/
def State.flushLeaf (s : State) (h : Half) (leaf : Nat) : State :=
  let x := s.node h 3 leaf
  if ndEnable x.record then s else ((s.emptyLeaf h leaf).countTm h 8 x.frames.length).lostSends x.frames

/-- A record written to a node (R202, R205). -/
def State.writeNode (s : State) (x : NodeSel) (r : BitVec 256) : State :=
  let n := s.node x.half x.level x.num
  let s1 := s.setNode x.half x.level x.num 
    { n with record := if x.level = 3 then nodeNow n.record r else n.record, next := some r }
  if x.level = 3 then s1.flushLeaf x.half x.num else s1

/-- A change that would raise the reserved cells of a half above 98,304 (R193). -/
def overReserved (a b : State) (h : Half) : Bool := 98304 < b.reservedCells h && a.reservedCells h < b.reservedCells h

/-- The selection as the parameter key keeps it. -/
def NodeSel.key (x : NodeSel) : Nat := x.level * 2 ^ 18 + x.half.num * 65536 + x.num

/-- NODE_RECORD_WRITE (R201, R202, R205). -/
def execNodeRecordWrite (w : Who) (rec : BitVec 256) (s : State) : Out :=
  (s.write w 0xA100 2 (leBytes 32 rec.toNat) idle (fun a => (a.nodeSel w.sess).exists_) fun a =>
    let x := a.nodeSel w.sess
    let r := nodeTaken x.level (a.node x.half x.level x.num).latest rec
    let b := a.writeNode x r
    if a.away w.sess x.half ∨ nodeRange x.level rec = false ∨ a.moves x r ∨ overReserved a b x.half then none
    else some (b.setParam x.half 0xA100 2 x.key r.toNat)).out w

/-- An ATTACH record is in range (R201). -/
def attachRange (r : BitVec 512) : Bool :=
  (List.range 16).all fun a => attGroup r a = 0xFFFF || (attGroup r a < 512 && 1 ≤ attWeight r a)

/-- A leaf that names attachment `a` of a slice node holds a frame (R202). -/
def State.attachHolds (s : State) (h : Half) (sn a : Nat) : Bool :=
  let o := ndOwner (s.node h 2 sn).record
  (s.heldLeaves h).any fun l =>
    let x := s.node h 3 l
    ndOwner x.record = o && ndAttach x.record = a && x.frames != []

/-- ATTACH_WRITE (R201, R202, R205). -/
def execAttachWrite (w : Who) (rec : BitVec 512) (s : State) : Out :=
  (s.write w 0xA100 3 (leBytes 64 rec.toNat) idle
    (fun a => (a.nodeSel w.sess).level = 2 && (a.nodeSel w.sess).exists_) fun a =>
    let x := a.nodeSel w.sess
    let n := a.node x.half 2 x.num
    let old := n.attNext.getD n.att
    let moved := (List.range 16).any fun i => attGroup rec i != attGroup old i && a.attachHolds x.half x.num i
    if a.away w.sess x.half ∨ attachRange rec = false ∨ moved then none
    else some ((a.setNode x.half 2 x.num { n with attNext := some rec }).setParam x.half 0xA100 3 x.key rec.toNat)).out w

/-- A queue profile is in range (R194). -/
def profileRange (r : BitVec 128) : Bool :=
  profMin r ≤ 131072 && 1 ≤ profMax r && profMax r ≤ 131072 && profWredMin r + 1 ≤ profWredMax r && profAlpha r ≤ 9

/-- QUEUE_PROFILE_WRITE (R193, R194). -/
def execQueueProfileWrite (w : Who) (rec : BitVec 128) (s : State) : Out :=
  (s.write w 0xA100 7 (leBytes 16 rec.toNat) idle always fun a =>
    let v := a.sel w.sess (obj 0xA100 6) 0
    let h := halfOf (v / 64 % 2)
    let b := a.setParam h 0xA100 7 (v % 128) rec.toNat
    if a.away w.sess h ∨ profileRange rec = false ∨ overReserved a b h then none else some b).out w

/-- PFC_THRESH_WRITE (R193, R199): XON_CELLS below XOFF_CELLS; the ingress use is then compared with the new record. -/
def execPfcThreshWrite (w : Who) (n : Fin 16) (rec : BitVec 96) (s : State) : Out :=
  (s.write w 0xA110 (n.val + 1) (leBytes 12 rec.toNat) idle always fun a =>
    let h := ethHalf n.val
    let b := a.setParam h 0xA110 (n.val + 1) 0 rec.toNat
    if fld rec 0 32 ≤ fld rec 32 32 ∨ overReserved a b h then none
    else some ((List.range 8).foldl (fun c p => c.pfcCheck n.val p) b)).out w

/-! ### Policer records and counters (R208, R210, R212, R213) -/

/-- A policer record is in range (R208). -/
def policerRange (r : BitVec 256) : Bool :=
  poMode r ≤ 2 && (poMode r != 2 || poCir r ≤ poPir r) && (-32 ≤ poOverhead r && poOverhead r ≤ 95)

/-- A policer after a write: tokens added at the old rates, then capped at the new bursts (R210). -/
def Policer.write (x : Policer) (r : BitVec 256) (now : Nat) : Policer :=
  let y := x.accrue now
  { y with record := r, tc := Nat.min y.tc (poCbs r * 4294967296), te := Nat.min y.te (poEbs r * 4294967296) }

/-- POLICER_WRITE (R208, R210): OWNER is not kept with the record. -/
def execPolicerWrite (w : Who) (rec : BitVec 256) (s : State) : Out :=
  (s.write w 0xA100 0x0A (leBytes 32 rec.toNat) idle always fun a =>
    let v := a.sel w.sess (obj 0xA100 9) 0
    let h := halfOf (v / 65536 % 2)
    let i := v % 65536
    let r := setFld rec 160 16 0
    if a.away w.sess h ∨ policerRange rec = false then none
    else some ((a.setPolicer h i ((a.policer h i).write r (a.time h))).setParam h 0xA100 0x0A (h.num * 65536 + i) r.toNat)).out w

/-- The counters TM_CNT_CLEAR clears on a half (R212). -/
def State.clearTm (s : State) (h : Half) : State :=
  let nodes := fun (_ : Nat) (x : Node) => { x with sent := 0, sentBytes := 0, tailDrop := 0, wredDrop := 0, ecnMark := 0 }
  let pols := fun (_ : Nat) (x : Policer) => { x with stats := [] }
  (s.onHalf h fun x => { x with tmgr := { x.tmgr with nodes := mmap nodes x.tmgr.nodes, pols := mmap pols x.tmgr.pols } }).clearIndex
    (0x6300 + h.num)

/-- TM_CNT_CLEAR (R212). -/
def execTmCntClear (w : Who) (v : BitVec 8) (s : State) : Out :=
  (s.maskClear w 0xA100 0x0D v.toNat State.clearTm).out w

end Sys2Proof.Machine
end

