-- ==== Sys2Proof/Machine/Power.lean ====
section
/-! DEFINITION. Supply, reset, cold start, the governors and the life budget (01 R22 to R30, 14 R367 to R370, R376, 17 R439 to
R442, R452). -/

namespace Sys2Proof.Machine
open Sys2Proof

/-! ### Life budget (R26, R27) -/

/-- LIFE_USED: the higher of the two halves' budgets (R27). -/
def State.lifeUsed (s : State) : Nat := Nat.max s.k.gov.lifeUsed s.q.gov.lifeUsed

/-- LIFE_WARN and LIFE_END, each logged when LIFE_USED first reaches its value (R27). -/
def State.checkLife (s : State) : State :=
  let n := s.lifeUsed
  let g := (s.half s.cstl.primary).gov
  let s1 :=
    if g.warned = false ∧ s.param s.cstl.primary 0x2000 10 0 900000 ≤ n then
      (s.onBoth fun x => { x with gov := { x.gov with warned := true } }).log 0x0001 0 255 0 n
    else s
  if g.ended = false ∧ 1000000 ≤ n then (s1.onBoth fun x => { x with gov := { x.gov with ended := true } }).log 0x0002 0 255 0 n
  else s1

/-- The life count is written to the parameter store and to the on-package life record (R27). -/
def State.recordLife (s : State) : State :=
  let n := s.lifeUsed
  let s1 := s.ownWrite fun c => { c with life := some n }
  { s1 with nv := { s1.nv with lifeRecord := some n } }

/-- LIFE_RECORD_HOURLY (R27): while a SUPV runs its firmware. -/
def execLifeRecordHourly (s : State) : Out := .next (if s.running then s.recordLife else s)

/-- A year in units of 10 µs, in which the accrual is counted (log 10). -/
def yearUnits : Nat := 3155760000000

/-- The highest accrual of MAX mode at 85 °C, ppm per year (R26). -/
def maxModeRate : Nat := Config.maxRate % 160001

/-- The budget at cold start: the higher of the two valid counts, none where neither is valid; after an unorderly loss of
power 60 minutes of accrual at the MAX-mode rate are added (R27, R391). -/
def NonVol.lifeAtStart (n : NonVol) (storeValid : Bool) : Nat × Bool :=
  let a := if storeValid then n.store.life else none
  match a, n.lifeRecord with
  | none, none => (1000000, true)
  | some x, none => (x, false)
  | none, some y => (y, false)
  | some x, some y => (Nat.max x y, false)

/-- The accrual of 60 minutes at the MAX-mode rate, in ppm and its fraction (R27). -/
def hourAccrual : Nat := maxModeRate * 360000000

/-! ### Governors (R22, R23, R26, R28, R452) -/

/-- The mode a half runs in: as in FLOOR while throttled (R23, R452). -/
def State.paceMode (s : State) (h : Half) : Nat := if (s.half h).gov.throttled then 0 else s.param h 0x2000 1 0 0

/-- VCORE after a sample: 0.80 V without trims, a step towards 0.90 V in MAX, a step of the governor's own otherwise; held while
the half's SUPV restarts (R22, R23, R28, R374). -/
def State.railAt (s : State) (h : Half) : Nat :=
  let g := (s.half h).gov
  if (s.half h).supvUp = false then g.vcore
  else if g.trimFallback then 800
  else if s.paceMode h = 2 then Nat.min 900 (g.vcore + 5)
  else 550 + 5 * (Config.railStep s.fresh % 71)

/-- The accrual rate at a sample, ppm per year: within the bound of the mode where the case is at 85 °C or below, which a die
at 85 °C or below shows, or counts as so (R26, R28). -/
def State.rateAt (s : State) (h : Half) : Nat :=
  let g := (s.half h).gov
  let bound := if s.paceMode h = 2 then 160000 else 40000
  if g.trimFallback ∨ g.temp ≤ 850 then Config.lifeRate s.fresh % (bound + 1) else Config.lifeRate s.fresh % 4294967296

/-- The temperature a governor reads, and the throttle it starts at 110 °C and ends below 105 °C (R452). -/
def Governor.sense (g : Governor) (t : Int) : Governor :=
  { g with temp := t, throttled := if 1100 ≤ t then true else if t < 1050 then false else g.throttled }

/-- A sample of a half's governor (R22). -/
def State.governorSample (s : State) (h : Half) (t : Int) : State :=
  let s1 := s.onHalf h fun x => { x with gov := x.gov.sense t }
  let v := s1.railAt h
  let r := s1.rateAt h
  let s2 := s1.onHalf h fun x =>
    let acc := x.gov.lifeAcc + r
    { x with gov := { x.gov with vcore := v, headroom := Config.headroom s.fresh % 65536, lifeRate := r
                                 lifeUsed := Nat.min (x.gov.lifeUsed + acc / yearUnits) 4294967295
                                 lifeAcc := acc % yearUnits } }
  s2.fresher.checkLife

/-- GOVERNOR_SAMPLE (R22): on a half whose governor runs. -/
def execGovernorSample (h : Half) (deciC : Int) (s : State) : Out :=
  .next (if s.running then s.governorSample h deciC else s)

/-- THERMAL_STOP (R452): at 120 °C the hardware stops the half. -/
def execThermalStop (h : Half) (s : State) : Out :=
  .next (if s.running then
      (s.onHalf h fun x => { x with gov := x.gov.sense (max 1200 x.gov.temp) }).stopHalf h
    else s)

/-- PACE_MODE_WRITE (R23, R24, R28): ECO and MAX are refused without trims. -/
def execPaceModeWrite (w : Who) (v : BitVec 8) (s : State) : Out :=
  (s.write w 0x2000 1 (leBytes 1 v.toNat) idle always fun a =>
    if 2 < v.toNat ∨ (v ≠ 0 ∧ (a.k.gov.trimFallback ∨ a.q.gov.trimFallback)) then none
    else some (a.setParams (a.server w.sess) 0x2000 1 0 v.toNat)).out w

/-! ### Loss of power and reset (R391, R407, R441, R442) -/

/-- A commit of the store is abandoned: the copy being written is not valid (R391). -/
def State.abandonStore (s : State) : State :=
  match s.mgmt.storeNext with
  | none => s
  | some _ =>
    let n := s.nv
    { s with
      mgmt := { s.mgmt with storeNext := none, storeBusy := false }
      nv := if n.second then { n with copy0 := { n.copy0 with valid := false } }
            else { n with copy1 := { n.copy1 with valid := false } } }

/-- A namespace with its device out of power: its media stays, its write buffer and attachments do not (R330, R332, R333). -/
def Ns.powered_off (n : Ns) : Ns := { n with attached := [], buf := [], bufLost := [], lockedAt := 0 }

/-- The population of a channel. -/
def Dram.population (x : Dram) : Dram :=
  { dimms := x.dimms, gib := x.gib, ranks := x.ranks, x8 := x.x8, grade := x.grade }

/-- Everything that PORn resets is as after PORn; what stays is non-volatile content, the drives and what is on them, the DIMMs,
and the board's pins. -/
def State.wipe (s : State) : State :=
  { nv := s.nv
    board := { vin := s.board.vin, rails := s.board.rails, pwrgood := s.board.pwrgood, porn := s.board.porn }
    storage := { nss := mmap (fun _ n => n.powered_off) s.storage.nss, drives := s.storage.drives }
    mem := { chans := mmap (fun _ x => x.population) s.mem.chans }
    out := s.out, fresh := s.fresh, pending := s.pending }

/-- Every unit stops. A calibration or store commit is cut short, and the content of the write buffers is lost (R330, R391,
R407). -/
def State.stopAll (s : State) : State :=
  if s.board.boot = .inReset then s
  else ((s.storage.nss.map Prod.fst).foldl State.nsLoss s.tearCal.abandonStore)

/-- VIN falls below the lockout threshold: PWRGOOD goes low and every unit stops, an unorderly loss of power (R27, R441). -/
def State.lockout (s : State) : State :=
  let n := (s.stopAll).wipe
  { n with
    nv := { n.nv with orderly := n.nv.orderly && (s.board.boot == .inReset) }
    board := { n.board with pwrgood := false, rails := false } }

/-- VIN_DIP (R441): down to 9.8 V the device keeps running. -/
def execVinDip (mv : Nat) (s : State) : Out :=
  .next (if s.board.vin ≤ mv then s
    else
      let s1 := { s with board := { s.board with vin := mv } }
      if mv < 9800 then s1.lockout else s1)

/-- VIN_RISE (R440): from 10.2 V the always-on rails run, from 10.8 V PWRGOOD is released. VIN beyond its absolute maximum has
no effect that the spec gives (R447). -/
def execVinRise (mv : Nat) (s : State) : Out :=
  if 15000 < mv then .fault .beyondAbsoluteMaximum
  else
    .next (if mv ≤ s.board.vin then s
      else
        let b := { s.board with vin := mv, rails := s.board.rails || decide (10200 ≤ mv) }
        { s with board := { b with pwrgood := b.pwrgood || decide (10800 ≤ mv) } })

/-- PORN_ASSERT (R442): every unit stops, the SUPVs write the life-budget record and reset; an assertion that is cut short
counts as an unorderly loss and writes none. -/
def execPornAssert (orderly : Bool) (s : State) : Out :=
  .next (if s.board.porn = false then s
    else
      let s1 := s.stopAll
      let ran := decide (s.board.boot ≠ .inReset)
      let s2 := if ran && orderly then s1.recordLife else s1
      let n := s2.wipe
      { n with nv := { n.nv with orderly := if ran then orderly else n.nv.orderly }, board := { n.board with porn := false } })

/-! ### Cold start (R18, R28, R30, R367 to R370, R376, R391) -/

/-- Both store copies are unusable: defaults, secrets absent, and an event once LIFE_USED is known (R391). -/
def NonVol.emptyStore (n : NonVol) : NonVol :=
  { n with copy0 := { valid := false, life := none }, copy1 := { valid := false, life := none } }

/-- A store copy is valid. -/
def NonVol.storeValid (n : NonVol) : Bool := n.copy0.valid || n.copy1.valid

/-- The lanes whose SERDES trims fail their check, each with an event (R405). -/
def State.serdesEvents (s : State) : State :=
  let bad := (List.range 16).filter fun l => !s.nv.pageOk 0 || (List.range 4).any fun i => !s.nv.pageOk (1 + 4 * l + i)
  bad.foldl (fun a l => a.log 0x2003 1 (unitId (ethHalf l) 13) 0 l) s

/-- The scheduler nodes that the store keeps: ports and groups, the others being of slices (R201, R390; log 15). -/
def State.restoreNodes (s : State) (h : Half) : State :=
  ((s.params h).filter fun e => keyIndex e.1 = 0xA100 && keySub e.1 = 2 && keySel e.1 / 2 ^ 18 < 2
      && (keySel e.1 / 65536) % 4 = h.num).foldl
    (fun a e =>
      let lv := keySel e.1 / 2 ^ 18
      let n := keySel e.1 % 65536
      a.setNode h lv n { a.node h lv n with record := BitVec.ofNat 256 e.2 }) s

/-- The parameters and lists of the store in force are loaded (R37, R349, R358, R390). -/
def State.loadStore (s : State) : State :=
  let c := s.nv.store
  let ports := (List.range 4).foldl (fun (m : Map Port) p =>
    mset m p { mget m p {} with root := mget c.paramsK (okey 0x1100 (p + 1) 0) 0 = 1 } {}) s.ports
  let used := fun (h : Half) => ((halfChans h).map fun i => (mget c.retired i []).length).sum
  let s1 := { s with
    mgmt := { s.mgmt with paramsK := c.paramsK, paramsQ := c.paramsQ }
    ports := ports
    mem := { s.mem with
      order := mget c.paramsK (okey 0xA500 1 0) 3
      usedK := used .k
      usedQ := used .q } }
  let s2 := (List.range 8).foldl (fun a i => a.setDram i { a.dram i with retired := mget c.retired i [] }) s1
  (s2.restoreNodes .k).restoreNodes .q

/-- The DRAM channels of a half are found and those to be used begin training (R345, R352). -/
def State.beginTraining (s : State) (h : Half) : State :=
  let cs := (halfChans h).filter fun c => (s.dram c).dimms ≠ 0
  let set := s.chooseSet cs
  let s1 := set.foldl (fun a c => a.setDram c { a.dram c with st := .training }) s
  let s2 := s1.leaveOut (cs.filter fun c => !set.contains c)
  if set.isEmpty then s2.carveOut h else s2

/-- No slot passes its checks: the boot ROM's recovery service runs, and the console shows the stage (R376, R446). -/
def State.enterRecovery (s : State) : State :=
  ({ s with board := { s.board with boot := .recovery } }).emit (.uart .k 0x10003)

/-- A slot is chosen, a TRIAL slot is marked TRIED, and the payload streams with the outputs gated (R367, R370). -/
def State.streamSlot (s : State) : State :=
  match s.nv.chooseSlot with
  | none => s.enterRecovery
  | some i =>
    ({ s with
      nv := if s.nv.slotState i = slTrial then s.nv.record i slTried else s.nv
      board := { s.board with boot := .streaming, slot := i, rereads := 0 }
      trust := { s.trust with slotK := i, slotQ := i } }).emit (.uart .k 0x10001)

/-- The governors start with the trims and the life budget (R27, R28). -/
def State.startGovernors (s : State) (storeValid : Bool) : State :=
  let (life, noCount) := s.nv.lifeAtStart storeValid
  let acc := if s.nv.orderly ∨ noCount then 0 else hourAccrual
  let bad := !s.nv.trimsOk
  let warn := mget s.nv.store.paramsK (okey 0x2000 10 0) 900000
  let s1 := s.onBoth fun x =>
    { x with gov := { x.gov with
        vcore := if bad then 800 else x.gov.vcore, trimFallback := bad
        lifeUsed := Nat.min (life + acc / yearUnits) 4294967295, lifeAcc := acc % yearUnits
        warned := Nat.ble warn life && !noCount, ended := Nat.ble 1000000 life && !noCount } }
  s1.checkLife

/-- A cold start, from the release of PORn to the streaming of the payload or to RECOVERY (R367, R445). -/
def State.coldStart (s : State) (straps : BitVec 8) : State :=
  let ok := s.nv.storeValid
  let n0 := if ok then s.nv else s.nv.emptyStore
  let s1 := { s.wipe with nv := n0.rejectTried, board := { s.wipe.board with straps := straps } }
  let s2 := s1.loadStore.startGovernors ok
  let s3 : State := if ok then s2 else s2.log 0x0004 2 255 0 s2.lifeUsed
  let s4 : State := if s3.k.gov.trimFallback then s3.log 0x0003 2 255 0 s3.lifeUsed else s3
  let s5 := s4.serdesEvents
  if straps.getLsbD 4 then s5.enterRecovery
  else
    let s6 : State := s5.streamSlot
    if s6.board.boot = .streaming then (s6.beginTraining .k).beginTraining .q else s6

/-- PORn is released: with PWRGOOD high the boot ROM runs (R440, R441). -/
def execPornRelease (straps : BitVec 8) (s : State) : Out :=
  .next (if s.board.porn then s
    else
      let s1 := { s with board := { s.board with porn := true } }
      if s.board.pwrgood ∧ s.board.boot = .inReset then s1.coldStart straps else s1)

/-- PWRGOOD_RISE_PORN_HIGH (R441): with PORn already high, the rise of PWRGOOD is a release of PORn. -/
def execPwrgoodRisePornHigh (straps : BitVec 8) (s : State) : Out :=
  .next (if s.board.porn ∧ s.board.pwrgood ∧ s.board.boot = .inReset then s.coldStart straps else s)

/-- Check 6 has passed: EPOCH advances and is committed with the life count, secrets are sealed at the image's version, custody is on K, the outputs
are ungated, and a TRIED image is on trial (R18, R367, R373, R379, R398). -/
def State.ungate (s : State) : State :=
  let s1 := ((s.ownWrite fun c => { c with epoch := c.epoch + 1 }).ownWrite (reseal s.secVersion)).recordLife
  let s2 := s1.makePrimary .k (Nat.max s1.nv.store.custodyK s1.nv.store.custodyQ)
  let t := { s2.trust with hostReady := s2.now / 1000
                           trialEnd := if s2.nv.slotState s2.board.slot = slTried then some (s2.now + s2.trialNs) else none }
  ({ s2 with board := { s2.board with boot := .running }, trust := t, mgmt := { s2.mgmt with marks := [] } }).emit (.uart .k 0x10002)

/-- Check 6 has failed: the payload is read once more; when it fails again, REJECTED is written and a slot is chosen anew, or
the device enters RECOVERY (R368). -/
def State.hashFail (s : State) : State :=
  if s.board.rereads = 0 then { s with board := { s.board with rereads := 1 } }
  else { s with nv := s.nv.record s.board.slot slRejected }.streamSlot

/-- PAYLOAD_HASH_CHECK (R367, R368). -/
def execPayloadHashCheck (pass : Bool) (s : State) : Out :=
  .next (if s.board.boot = .streaming then (if pass then s.ungate else s.hashFail) else s)

end Sys2Proof.Machine
end

