-- ==== Sys2Proof/Machine/Trust.lean ====
section
/-! DEFINITION. Image load, keys, revocation, the version floor and the debug fuses (14 R363, R371, R376 to R380, R382). -/

namespace Sys2Proof.Machine
open Sys2Proof

/-! ### Image load (R371, R382) -/

/-- A command of the image load runs. -/
def imgBusy (s : State) : Bool := s.trust.imgBusy

/-- The image load is free, or of the session (R185, R382). -/
def State.imgMine (s : State) (ss : Session) : Bool := s.trust.owner.isNone || s.trust.owner = some ss

/-- The slot that an update goes to: the one that does not run, and A in RECOVERY (R371, R376). -/
def State.updateSlot (s : State) : Nat := if s.board.boot = .recovery then 0 else 1 - s.runningSlot

/-- The size of an image slot (R364). -/
def slotBytes : Nat := 12582912

/-- IMG_DATA_WRITE (R371, R382): programmed at the next offset of the target, which BEGIN has erased. -/
def execImgDataWrite (w : Who) (data : List Byte) (s : State) : Out :=
  (s.write w 0x2200 5 data imgBusy always fun a =>
    let bs := a.nv.slot a.trust.target
    if a.trust.owner ≠ some w.sess ∨ a.trust.begun = false ∨ slotBytes < bs.length + data.length then none
    else some { a with nv := a.nv.setSlot a.trust.target (bs ++ data), trust := { a.trust with verified := false } }).out w

/-- A write of IMG_CMD. -/
def State.imgCmd (s : State) (w : Who) (v : Byte) (f : State → Option State) : Out := (s.write w 0x2200 6 [v] imgBusy always f).out w

/-- IMG_BEGIN (R371): ERASED is appended for the target, which is then erased. -/
def execImgBegin (w : Who) (s : State) : Out :=
  s.imgCmd w 1 fun a =>
    if a.imgMine w.sess = false then none
    else
      let t := a.updateSlot
      some { a with
        nv := (a.nv.record t slErased).setSlot t []
        trust := { a.trust with owner := some w.sess, target := t, begun := true, verified := false, imgStatus := stOk } }

/-- IMG_VERIFY (R366, R371): the checks take time. -/
def execImgVerify (w : Who) (s : State) : Out :=
  s.imgCmd w 2 fun a =>
    if a.trust.owner ≠ some w.sess ∨ a.trust.begun = false then none
    else some { a with trust := { a.trust with imgBusy := true } }

/-- IMG_VERIFY_DONE (R366, R371). -/
def execImgVerifyDone (s : State) : Out :=
  .next (if s.trust.imgBusy then
      let st := s.nv.checkImage 1 supvLimit (s.nv.slot s.trust.target)
      { s with trust := { s.trust with imgBusy := false, imgStatus := st, verified := decide (st = stOk) } }
    else s)

/-- IMG_ARM (R371): TRIAL is appended for the target, and the load is over; in RECOVERY the device starts anew (R376). -/
def execImgArm (w : Who) (s : State) : Out :=
  s.imgCmd w 3 fun a =>
    if a.trust.owner ≠ some w.sess ∨ a.trust.verified = false then none
    else
      let b := { a with
        nv := a.nv.record a.trust.target slTrial
        trust := { a.trust with owner := none, begun := false, verified := false } }
      some (if a.board.boot = .recovery then b.coldStart a.board.straps else b)

/-- IMG_ACTIVATE (R374): refused unless the target holds TRIAL and the standby is in step. -/
def execImgActivate (w : Who) (s : State) : Out :=
  s.imgCmd w 4 fun a => if a.imgMine w.sess then a.activate else none

/-- IMG_CANCEL (R371, R382): appends ERASED for the target. -/
def execImgCancel (w : Who) (s : State) : Out :=
  s.imgCmd w 5 fun a =>
    if a.imgMine w.sess then some ({ a with trust := { a.trust with target := a.updateSlot } }).cancelImage else none

/-! ### Keys (R363, R377, R379, R382) -/

/-- A key slot is revoked. -/
def NonVol.isRevoked (n : NonVol) (slot : Nat) : Bool :=
  match mfind n.keySlots slot with
  | some k => k.revoked
  | none => false

/-- A programmed key slot has a usage bit. -/
def NonVol.hasUsage (n : NonVol) (slot b : Nat) : Bool :=
  match mfind n.keySlots slot with
  | some k => k.usage / 2 ^ b % 2 = 1
  | none => false

/-- KEY_PROGRAM_WRITE (R363, R382): of the selected slot; refused if it is programmed. -/
def execKeyProgramWrite (w : Who) (rec : BitVec 392) (s : State) : Out :=
  (s.write w 0x7000 4 (leBytes 49 rec.toNat) idle always fun a =>
    let i := a.sel w.sess (selKey 0x7000 2) 0
    let u := fld rec 0 8
    if a.nv.programmed i ∨ u < 1 ∨ 3 < u then none
    else
      let k : KeySlot := { hash := beNat (leBytes 48 (fld rec 8 384)), usage := u, revoked := a.nv.isRevoked i }
      some { a with nv := { a.nv with keySlots := mput a.nv.keySlots i k } }).out w

/-- An image slot holds a VALID image under another key slot that is of usage SUPV, unrevoked, and matches (R377). -/
def NonVol.survives (n : NonVol) (i v : Nat) : Bool :=
  let k := envKeySlot (n.slot i)
  n.slotState i = slValid && k != v && n.keyOk k 0 (envKeyHash (n.slot i))

/-- REVOKE is refused (R377). -/
def NonVol.revokeRefused (n : NonVol) (v : Nat) : Bool :=
  (n.hasUsage v 0 && !n.survives 0 v && !n.survives 1 v)
    || (n.hasUsage v 1 && !(List.range 8).any fun j => j != v && n.hasUsage j 1 && !n.isRevoked j)

/-- An image slot holds an image under a key slot. -/
def NonVol.underKey (n : NonVol) (i v : Nat) : Bool :=
  n.slotState i != slErased && slice (n.slot i) 0 4 = [0x4F, 0x58, 0x49, 0x4D] && envKeySlot (n.slot i) = v

/-- A key slot is revoked, and REJECTED is appended for the images under it (R377). -/
def NonVol.revoke (n : NonVol) (v : Nat) : NonVol :=
  let k := (mfind n.keySlots v).getD { hash := 0, usage := 0 }
  let n1 := { n with keySlots := mput n.keySlots v { k with revoked := true } }
  let n2 := if n1.underKey 0 v then n1.record 0 slRejected else n1
  if n2.underKey 1 v then n2.record 1 slRejected else n2

/-- REVOKE_WRITE (R377). -/
def execRevokeWrite (w : Who) (v : BitVec 8) (s : State) : Out :=
  (s.write w 0x7000 5 [v] idle always fun a =>
    if 8 ≤ v.toNat ∨ a.nv.revokeRefused v.toNat then none else some { a with nv := a.nv.revoke v.toNat }).out w

/-- FLOOR_RAISE_WRITE (R363, R379): refused below the present count, or above what the running image meets. -/
def execFloorRaiseWrite (w : Who) (v : BitVec 8) (s : State) : Out :=
  (s.write w 0x7000 6 [v] idle always fun a =>
    if v.toNat < 1 ∨ 64 < v.toNat ∨ v.toNat < a.nv.floorBits ∨ a.secVersion < 1024 * v.toNat then none
    else some { a with nv := { a.nv with floorBits := v.toNat } }).out w

/-- KWK_WRITE (R255, R379): the key-wrap key is sealed at the running image's version. -/
def execKwkWrite (w : Who) (key : BitVec 256) (s : State) : Out :=
  (s.write w 0x7000 8 (leBytes 32 key.toNat) idle always fun a =>
    some (a.ownWrite fun c => { c with kwk := some { v := a.secVersion, val := key.toNat } })).out w

/-! ### Debug fuses (R2, R380) -/

/-- Thread debug is closed on a unit: halted threads resume, and breakpoints are cleared. -/
def Nib.closeDebug (x : Nib) : Nib :=
  let y := (x.threads.map Prod.fst).foldl (fun a i => if (a.th i).halted.isSome then a.resume i else a) x
  (y.threads.map Prod.fst).foldl (fun a i => a.setTh i { a.th i with bps := 0, armed := false }) y

/-- PROGRAM_DEBUG is blown (R380). -/
def State.closeProgram (s : State) : State :=
  let s1 := { s with nv := { s.nv with programBlown := true } }
  (List.range 8).foldl (fun a u => a.setNib u (a.nib u).closeDebug) s1

/-- VENDOR_DEBUG is blown (R380). -/
def State.closeVendor (s : State) : State := { s with nv := { s.nv with vendorBlown := true } }

/-- A write of DEBUG_CLOSE. -/
def State.debugClose (s : State) (w : Who) (v : Byte) (f : State → State) : Out :=
  (s.write w 0x7000 7 [v] idle always fun a => some (f a)).out w

/-- DEBUG_CLOSE_PROGRAM (R380). -/
def execDebugCloseProgram (w : Who) (s : State) : Out := s.debugClose w 1 State.closeProgram

/-- DEBUG_CLOSE_VENDOR (R380). -/
def execDebugCloseVendor (w : Who) (s : State) : Out := s.debugClose w 2 State.closeVendor

/-- DEBUG_CLOSE_BOTH (R380). -/
def execDebugCloseBoth (w : Who) (s : State) : Out := s.debugClose w 3 fun a => a.closeProgram.closeVendor

end Sys2Proof.Machine
end

