-- ==== Sys2Proof/Machine/ObjRead.lean ====
section
/-! DEFINITION. What the objects of the dictionary read, chapter by chapter (R29 to R436): the values of state; parameters are
in Params.lean. -/

namespace Sys2Proof.Machine
open Sys2Proof

/-- A value of one, two, four and eight bytes (R384). -/
def u8 (n : Nat) : List Byte := leBytes 1 n
def u16 (n : Nat) : List Byte := leBytes 2 n
def u32 (n : Nat) : List Byte := leBytes 4 n
def u64 (n : Nat) : List Byte := leBytes 8 n

/-- A result object: BUSY at a bit, a field from bit 8 or 16, and a status. -/
def resultWord (busy : Bool) (busyBit mid midLo status : Nat) : List Byte := u32 (b2n busy * 2 ^ busyBit + mid * 2 ^ midLo + status)

/-- The halves whose state a session's reads report: the serving one's during a split (R431). -/
def State.sees (s : State) (ss : Session) (h : Half) : Bool := !(s.cstl.split && h != s.server ss)

/-- What of both halves a session sees. -/
def State.seen {α : Type} (s : State) (ss : Session) (f : Half → α) : List α :=
  (if s.sees ss .k then [f .k] else []) ++ (if s.sees ss .q then [f .q] else [])

/-! ### Dictionary, sessions, store, identity (R394, R395) -/

/-- The identity record (R394). -/
def State.identity (s : State) : List Byte :=
  u16 0x1FA6 ++ u16 0x1600 ++ u8 Config.siliconRev.toNat ++ u8 s.nv.ordering ++ u16 0 ++ leBytes 16 Config.serial.toNat
    ++ u64 Config.manufactured.toNat ++ List.replicate 32 0

/-- Objects 0x1000 to 0x1021 (R395). -/
def State.readComm (s : State) (w : Who) (i sub : Nat) : List Byte :=
  let m := s.mgmt
  if i = 0x1000 then u16 1
  else if i = 0x1001 ∧ sub = 1 then u32 s.nv.store.epoch
  else if i = 0x1001 then u8 (s.role w)
  else if i = 0x1010 ∧ sub = 2 then resultWord m.storeBusy 16 0 8 m.storeStatus
  else if i = 0x1010 then u32 s.nv.store.gen
  else if i = 0x1011 then resultWord m.profile.busy 28 m.profile.failing 16 m.profile.status
  else if i = 0x1018 then s.identity
  else leBytes 6 (Config.mgmtMac (sub - 1)).toNat

/-! ### Host ports, pace, boot, witness (R29, R39, R40, R382, R435, R436) -/

/-- The LTSSM state of a host port: L0 with a link, powered down with its HOST unit OFF or FAILED (R40). -/
def State.ltssm (s : State) (p : Nat) : Nat :=
  if s.powered (portHalf p) (hostUnit p) = false then 0xFF
  else if (s.port p).up then 0x10
  else
    let v := Config.ltssm s.fresh % 0x18
    if v = 0x10 then 0 else v

/-- LINK_Pn (R39). -/
def State.linkWord (s : State) (p : Nat) : List Byte :=
  let x := s.port p
  u32 (s.ltssm p * 65536 + x.width * 256 + (if x.up then x.rate else 0) * 16 + 2 * b2n x.flit + b2n x.up)

/-- The pace objects (R29). -/
def State.readPace (s : State) (ss : Session) (sub : Nat) : List Byte :=
  let gs := s.seen ss fun h => (s.half h).gov
  if sub = 2 then u16 s.k.gov.vcore
  else if sub = 3 then u16 s.q.gov.vcore
  else if sub = 4 then u16 ((gs.map (·.headroom)).foldl Nat.min 65535)
  else if sub = 5 then u32 s.lifeUsed
  else if sub = 6 then u8 (b2n (gs.any (·.trimFallback)))
  else if sub = 7 then u32 ((gs.map (·.lifeRate)).foldl Nat.max 0)
  else if sub = 8 then u32 (unsigned 32 s.k.gov.temp)
  else u32 (unsigned 32 s.q.gov.temp)

/-- HEALTH_SUMMARY (R436). -/
def State.healthSummary (s : State) : List Byte :=
  let st := fun (h : Half) => (List.range 17).map fun i => BitVec.ofNat 8 (s.unit h i).st.code
  st .k ++ st .q ++ u8 (b2n s.k.stopped + 2 * b2n s.q.stopped) ++ u8 s.cstlState.code ++ List.replicate 28 0

/-- ROTATE_STATUS of a half (R436). -/
def State.rotateStatus (s : State) (h : Half) : List Byte :=
  let r := (s.half h).rot
  let u := match r.unit with
    | some i => unitId h i
    | none => 0xFF
  u8 u ++ u8 (b2n r.engine) ++ List.replicate 6 0 ++ u64 r.began

/-- The maintenance objects (R436). -/
def State.readMaint (s : State) (sub : Nat) : List Byte :=
  if sub = 6 then s.healthSummary else s.rotateStatus .k ++ s.rotateStatus .q ++ List.replicate 32 0

/-- SLOT_INFO of a slot (R382). -/
def NonVol.slotInfo (n : NonVol) (i : Nat) : List Byte :=
  let bs := n.slot i
  u8 (n.slotState i) ++ u8 (envKeySlot bs) ++ u16 (envSecVersion bs) ++ u64 (n.slotSeq i) ++ u32 (envBuild bs)

/-- The seconds of a trial left, a part of one counting whole (R382). -/
def State.trialRemain (s : State) : Nat :=
  match s.trust.trialEnd with
  | some t => (t - s.now + 999999999) / 1000000000
  | none => 0

/-- The boot objects (R382). -/
def State.readBoot (s : State) (sub : Nat) : List Byte :=
  let i := s.runningSlot
  if sub = 1 then
    u8 i ++ u8 (s.nv.slotState i) ++ u16 s.secVersion ++ u64 (s.nv.slotSeq i) ++ u64 (envBuild (s.nv.slot i)) ++ u32 s.trust.hostReady
  else if sub = 4 then u16 s.trialRemain
  else if sub = 7 then resultWord s.trust.imgBusy 16 0 8 s.trust.imgStatus
  else s.nv.slotInfo 0 ++ s.nv.slotInfo 1

/-- The witness and castling objects (R435). -/
def State.readCstl (s : State) (ss : Session) (i sub : Nat) : List Byte :=
  let h := s.server ss
  let c := (s.half h).cust
  if i = 0x2300 then
    u8 (s.nv.store.holder h) ++ u8 (b2n c.holds) ++ u16 0 ++ u32 (s.nv.store.custody h) ++ u64 c.grantTime
  else if sub = 1 then u8 s.cstlState.code
  else if sub = 2 then u8 s.groupCount
  else if sub = 3 then u8 s.cstl.primary.num
  else if sub = 4 then u64 s.cstl.splitTime
  else u32 s.cstl.discarded

/-- The calibration objects (R406). -/
def State.readCal (s : State) (i sub : Nat) : List Byte :=
  if sub ≤ 4 then s.workBlock (4 * (i - 0x3000) + sub - 1)
  else if sub = 6 then u32 (b2n s.mgmt.calBusy * 2 ^ 30 + s.mgmt.calStatus * 65536 + s.changedPages.length)
  else s.measurement 12

/-! ### Units (R414) -/

/-- A unit reads degraded: by its spares, and XPORT while its pool is short (R313, R414). -/
def State.unitDegraded (s : State) (h : Half) (i : Nat) : Bool :=
  (s.unit h i).degraded || (i = 10 && (if h = .k then s.storage.shortK else s.storage.shortQ))

/-- The HEALTH record (R414). -/
def State.health (s : State) (h : Half) (i : Nat) : List Byte :=
  let u := s.unit h i
  let left := if i = 15 then s.groupCount - 3 else s.sparesOf h i
  u8 u.st.code ++ u8 u.cause ++ u8 left ++ u8 (spareTotal i) ++ u16 (Nat.min 1000 (Config.spareCells u.cells))
    ++ u8 (b2n (s.unitDegraded h i) + 2 * b2n u.stFail) ++ u8 0 ++ u64 u.since ++ u64 u.corrected ++ u64 u.deferred
    ++ u32 u.fatal ++ u32 u.visits ++ u64 u.lastVisit ++ List.replicate 16 0

/-- The objects of a unit (R414). -/
def State.readUnit (s : State) (i sub : Nat) : List Byte :=
  let v := i / 16 % 64
  let h := halfOf (v / 32)
  let u := s.unit h (v % 32)
  if sub = 1 then u8 u.st.code
  else if sub = 3 then resultWord u.busy 16 u.after 8 u.status
  else s.health h (v % 32)

/-! ### Slices, counters, security, logs, arbiters (R71, R72, R86, R382, R425 to R428, R142) -/

/-- Free entries of a pool (R72). -/
def State.poolFree (s : State) (h : Half) (sub : Nat) : Nat :=
  if sub = 1 then freeCount 0 65536 (s.frameUsed h 0)
  else if sub = 2 then freeCount 0 65536 (s.frameUsed h 1)
  else if sub = 3 then freeCount 1 4096 (s.frameUsed h 2)
  else if sub = 4 then freeCount 0 524288 (s.qpUsed h)
  else if sub = 5 then freeCount 0 131072 (s.frameUsed h 3)
  else if sub = 6 then freeCount 0 65536 (s.halfUsed fun x => x.pols h)
  else if sub = 7 then freeCount 0 2048 (s.nodeUsed h)
  else if sub = 8 then freeCount 0 65536 (s.halfUsed fun x => x.leaves h)
  else if sub = 9 then freeCount 0 16384 (s.halfUsed fun x => x.sas h)
  else 4096 - s.usedSlices.length

/-- The slice that SLICE_SELECT names (R71). -/
def State.sliceSel (s : State) (ss : Session) : Nat := s.sel ss (obj 0x5000 4) 0

/-- The slice manager's objects (R71). -/
def State.readSlice (s : State) (ss : Session) (i sub : Nat) : List Byte :=
  let id := s.sliceSel ss
  if i = 0x5000 ∧ sub = 1 then u16 s.usedSlices.length
  else if i = 0x5000 then u32 (s.sel ss (obj 0x5000 3) 0 + 65536 * b2n (s.mgmt.sliceQ.any fun c => c.sess = ss))
  else if i = 0x5010 ∧ sub = 1 then leBytes 64 (s.slice id).record.toNat
  else if i = 0x5010 then u8 (s.slice id).st.code
  else if i = 0x5020 then u32 (s.poolFree .k sub)
  else if i = 0x5021 then u32 (s.poolFree .q sub)
  else if sub ≤ 4 then u32 (8192 - s.vfVectors (sub - 1))
  else u32 (4096 - s.nsQuota)

/-- A counter of a slice: of both halves, and during a split of the serving one (R86). -/
def State.sliceCount (s : State) (ss : Session) (id c : Nat) : Nat :=
  (s.seen ss fun h => mget s.sliceCnt (id * 32 + h.num * 16 + c) 0).sum

/-- The counters of slices and PFs (R86). -/
def State.readCounters (s : State) (ss : Session) (sub : Nat) : List Byte :=
  if sub = 2 then
    ((List.range 13).flatMap fun c => u64 (s.sliceCount ss (s.sel ss (obj 0x6000 1) 0) c)) ++ List.replicate 24 0
  else
    let v := s.sel ss (obj 0x6000 4) 1
    u64 (mget s.pfCnt (v / 16 * 16 + v % 16) 0) ++ u64 0

/-- The key slot that KEY_SELECT names (R382). -/
def State.keySlotSel (s : State) (ss : Session) : Nat := s.sel ss (obj 0x7000 2) 0

/-- The security objects (R382). -/
def State.readSecurity (s : State) (ss : Session) (sub : Nat) : List Byte :=
  if sub = 1 then u32 s.nv.fuseState
  else if sub = 8 then List.replicate 32 0
  else
    match mfind s.nv.keySlots (s.keySlotSel ss) with
    | some k => beBytes 48 k.hash ++ u8 k.usage ++ u8 (b2n k.revoked)
    | none => List.replicate 50 0

/-- The bytes of an event record (R425). -/
def EventRec.bytes (r : EventRec) : List Byte :=
  u64 r.time ++ u64 r.seq ++ u16 r.code ++ u8 r.cls ++ u8 r.unit ++ u16 r.slice ++ u8 r.action ++ u8 r.count ++ u32 r.epoch
    ++ u32 0 ++ leBytes 16 r.detail ++ leBytes 16 (Config.locator r.seq r.time r.code).toNat

/-- The oldest SEQ of a log: of an empty one, the next (R428). -/
def Log.oldest (l : Log) : Nat :=
  match l.recs.getLast? with
  | some r => r.seq
  | none => l.next

/-- LOG_CURSOR of a session (R428). -/
def State.logCursor (s : State) (ss : Session) (h : Half) : Nat := s.sel ss (obj (0x8000 + h.num) 1) (s.half h).log.oldest

/-- The records LOG_READ returns: up to 16 from the cursor (R428). -/
def State.logRecs (s : State) (ss : Session) (h : Half) : List EventRec :=
  ((s.half h).log.recs.reverse.filter fun r => s.logCursor ss h ≤ r.seq).take 16

/-- LOG_READ: its 1,024 bytes, and the cursor past the last record (R428). -/
def State.readLog (s : State) (ss : Session) (h : Half) : State × List Byte :=
  let rs := s.logRecs ss h
  let s1 := match rs.getLast? with
    | some r => s.setSel ss (obj (0x8000 + h.num) 1) (r.seq + 1)
    | none => s
  (s1, fit 1024 (rs.flatMap EventRec.bytes))

/-- The half of FATAL_LOG that LOG_CURSOR bit 0 names, oldest record first (R427, R428). -/
def State.fatalLog (s : State) (ss : Session) (h : Half) : List Byte :=
  let c := s.nv.store
  let rs := (if h = .k then c.fatalK else c.fatalQ).reverse
  fit 1024 ((rs.drop (16 * (s.logCursor ss h % 2))).flatMap EventRec.bytes)

/-- The log objects but LOG_READ (R428). -/
def State.readLogs (s : State) (ss : Session) (h : Half) (sub : Nat) : List Byte :=
  let l := (s.half h).log
  if sub = 1 then u64 (s.logCursor ss h)
  else if sub = 3 then u64 l.oldest ++ u64 (l.next - 1) ++ u32 l.lost ++ u32 1024
  else s.fatalLog ss h

/-- The arbiter objects (R142). -/
def State.readArb (s : State) (ss : Session) (sub : Nat) : List Byte :=
  let k := s.arbSel ss / 256
  let i := s.arbSel ss % 256
  let r := s.reqSel ss
  let x := mget (s.arb k i).reqs r {}
  if sub = 3 then
    u64 x.grants ++ u64 x.waits ++ u32 x.longest ++ u8 (x.basePri k r) ++ u8 (s.effective k i r x) ++ u16 0
  else if sub = 5 then u8 (x.basePri k r)
  else u8 (s.ageStep k i)

/-! ### Classification and traffic manager (R189, R212) -/

/-- Entries in use of a table code (R189). -/
def Tables.used (t : Tables) (code : Nat) : Nat :=
  if code = 1 then t.em.length
  else if code = 2 then t.lpm4.length
  else if code = 3 then t.lpm6.length
  else if code = 4 then t.tern.length
  else (t.index.filter fun e => e.1 / 65536 = code - 5).length

/-- The classification objects (R189). -/
def State.readCls (s : State) (ss : Session) (i sub : Nat) : List Byte :=
  let g := s.mgmt.staging
  if i = 0xA001 then u32 (s.k.cls.live.used sub)
  else if i = 0xA002 then u32 (s.q.cls.live.used sub)
  else if i = 0xA010 then leBytes 36 (s.txSteer (s.server ss) (s.steerSel ss))
  else if sub = 2 then u16 g.changes.length
  else if sub = 4 then u32 (b2n g.waits * 2 ^ 28 + g.result)
  else u64 g.lastCommit

/-- A leaf lies below a node of level 0 to 2, or is the node itself (R200). -/
def State.leafBelow (s : State) (x : NodeSel) (leaf : Nat) : Bool :=
  if x.level = 3 then leaf = x.num
  else if x.level = 0 then s.leafPort x.half leaf = some (8 * x.half.num + x.num)
  else
    match s.pathOf x.half leaf with
    | some p => if x.level = 1 then p.group = x.num else p.snode = x.num
    | none => x.level = 2 && ndOwner (s.node x.half 3 leaf).record < 4096
                && (s.slice (ndOwner (s.node x.half 3 leaf).record)).node x.half = some x.num

/-- A node is a candidate: a path of candidates goes through it (R203, R212). -/
def State.isCandidate (s : State) (x : NodeSel) : Bool :=
  (List.range 8).any fun i => (s.candidates (8 * x.half.num + i)).any fun p =>
    if x.level = 0 then i = x.num else if x.level = 1 then p.group = x.num
    else if x.level = 2 then p.snode = x.num else p.leaf = x.num

/-- A leaf's priority is paused at the port it is attached to (R207, R212). -/
def State.leafPaused (s : State) (x : NodeSel) : Bool :=
  x.level = 3 && match s.leafPort x.half x.num with
    | some n => s.pausedPrio n (ndTc (s.node x.half 3 x.num).record)
    | none => false

/-- A bucket in bytes, as an I32 (R212). -/
def bucketBytes (b : Int) : List Byte := u32 (unsigned 32 (b / 4294967296))

/-- NODE_STATUS (R212). -/
def State.nodeStatus (s : State) (x : NodeSel) : List Byte :=
  let n := s.node x.half x.level x.num
  let fs := ((s.heldLeaves x.half).filter (s.leafBelow x)).flatMap fun l => (s.node x.half 3 l).frames
  u32 (cellSum fs) ++ u32 fs.length ++ bucketBytes n.cb ++ bucketBytes n.pb ++ u32 (n.avg / 4294967296)
    ++ u8 (b2n (s.isCandidate x) + 2 * b2n (s.leafPaused x)) ++ List.replicate 11 0

/-- A list of blocks of TM_BLOCKS (R212). -/
def blkList (l : List Blk) : List Byte := slice (l.flatMap fun b => u16 b.start ++ u16 b.count) 0 64

/-- TM_BLOCKS of a slice (R212). -/
def State.tmBlocks (s : State) (id : Nat) : List Byte :=
  let x := s.slice id
  blkList x.leafK ++ blkList x.leafQ ++ blkList x.polK ++ blkList x.polQ

/-- A POLICER record, with its OWNER (R208). -/
def State.policerBytes (s : State) (h : Half) (i : Nat) : List Byte :=
  let o := match s.slices.find? fun e => e.2.used && (blkPlace (e.2.pols h) i).isSome with
    | some e => e.1
    | none => 0xFFFF
  leBytes 32 (setFld (s.policer h i).record 160 16 o).toNat

/-- The traffic manager's objects that follow a selection (R212). -/
def State.readTm (s : State) (ss : Session) (sub : Nat) : List Byte :=
  let x := s.nodeSel ss
  let n := s.node x.half x.level x.num
  let pv := s.sel ss (obj 0xA100 9) 0
  let ph := halfOf (pv / 65536 % 2)
  let qv := s.sel ss (obj 0xA100 6) 0
  if sub = 2 then leBytes 32 n.latest.toNat
  else if sub = 3 then leBytes 64 (n.attNext.getD n.att).toNat
  else if sub = 4 then s.nodeStatus x
  else if sub = 5 then u64 n.sent ++ u64 n.sentBytes ++ u64 n.tailDrop ++ u64 n.wredDrop ++ u64 n.ecnMark
  else if sub = 7 then leBytes 16 (s.profile (halfOf (qv / 64 % 2)) (qv % 64)).toNat
  else if sub = 10 then s.policerBytes ph (pv % 65536)
  else if sub = 11 then (List.range 6).flatMap fun c => u64 (mget (s.policer ph (pv % 65536)).stats c 0)
  else s.tmBlocks (s.sliceSel ss)

/-! ### Cipher, RDMA, storage, memory (R272, R307, R342, R361) -/

/-- SA_STATE (R272). -/
def SaSt.code : SaSt → Nat
  | .empty => 0
  | .ready => 1
  | .marked => 2
  | .exhausted => 3
  | .fencing => 4

def Sa.state (x : Sa) : List Byte :=
  u8 x.st.code ++ List.replicate 7 0 ++ u64 x.next ++ u64 x.frames ++ u64 x.octets ++ u64 x.integrity ++ u64 x.late

/-- SA_RECORD as it is read: with its OWNER, and an ESP record's bytes 20 to 27, which are reserved, zero (R254, R255). -/
def Sa.shown (x : Sa) (owner : Nat) : BitVec 640 :=
  let r := setFld x.record 16 16 owner
  if 3 ≤ saKind r then setFld r 160 64 0 else r

/-- The MACsec charge of a half, Gb/s: twice the line rate of its ports with ENABLE (R270). -/
def State.macsecLoad (s : State) (h : Half) : Nat :=
  ((List.range 8).map fun i => if s.macsecOn (8 * h.num + i) then 2 * modeRate (s.portMode (8 * h.num + i)) / 1000 else 0).sum

/-- The cipher capacity of a half, Gb/s (R253, R270). -/
def State.cipherCap (s : State) (h : Half) : Nat :=
  (s.half h).cipher.lanes * (if s.param h 0xA200 1 0 1 = 2 then 330 else 400)

/-- CIPHER_LOAD (R272): the rates of ESP and XTS are measured. -/
def State.cipherLoad (s : State) : List Byte :=
  u32 (s.macsecLoad .k + Config.cipherRate s.fresh) ++ u32 (s.cipherCap .k)
    ++ u32 (s.macsecLoad .q + Config.cipherRate (s.fresh + 1)) ++ u32 (s.cipherCap .q)

/-- The cipher objects (R272). -/
def State.readCipher (s : State) (ss : Session) (sub : Nat) : List Byte :=
  let v := s.sel ss (obj 0xA200 3) 0
  let x := s.sa (halfOf (v / 65536 % 2)) (v % 16384)
  let xv := s.sel ss (obj 0xA200 8) 0
  if sub = 4 then leBytes 80 (x.shown (s.saOwner (halfOf (v / 65536 % 2)) (v % 16384))).toNat
  else if sub = 5 then x.state
  else if sub = 6 then s.cipherLoad
  else if sub = 7 then
    u16 (s.k.cipher.lanes * 4096 + s.k.cipher.spares * 256 + s.q.cipher.lanes * 16 + s.q.cipher.spares)
  else
    match mfind (s.half (halfOf (xv / 4096 % 2))).cipher.xts (xv % 4096) with
    | some _ => u32 (8192 + xv % 4096 + 1)
    | none => u32 0

/-- QP_INFO (R283, R307). -/
def State.qpInfo (s : State) (k : Nat) : List Byte :=
  let x := s.qpk k
  let r := x.record
  let f := fun (lo n : Nat) => leBytes n (fld r (8 * lo) (8 * n))
  u8 (x.st.code + 8 * b2n (qrUd r) + 16 * fld r 75 4) ++ u8 (qrMtuCode r + 8 * b2n (qrIpv6 r))
    ++ u16 (if x.slice < 4096 then x.slice else 0xFFFF) ++ u32 (0x100000 + k) ++ u32 (qrDestQpn r) ++ u32 (qrQKey r)
    ++ f 32 32 ++ f 64 9 ++ f 73 1 ++ f 78 2 ++ f 80 4
    ++ u64 (qrSqBase r + qrSqLog r) ++ u64 (qrRqBase r + qrRqLog r) ++ u64 (qrShadow r)
    ++ u16 (qrSqCq r).toNat ++ u16 (qrRqCq r).toNat
    ++ u16 x.sq.doorbell.toNat ++ u16 x.sq.head.toNat ++ u16 x.rq.doorbell.toNat ++ u16 x.rq.head.toNat
    ++ u32 x.nextPsn.toNat ++ u32 x.unacked.toNat ++ u32 x.ePsn.toNat ++ u32 x.msn.toNat
    ++ f 74 4 ++ u16 x.retries ++ u16 x.rnrLeft ++ u32 (qpGroup r)

/-- The wire QPN that QP_SELECT names (R307). -/
def State.qpSel (s : State) (ss : Session) : Nat := s.sel ss (obj 0xA300 9) 0x100000

/-- NS_RECORD (R342). -/
def State.nsRecord (s : State) (id : Nat) : List Byte :=
  let n := s.ns id
  u16 id ++ u8 n.st.code ++ u8 (n.home.num + 2 * b2n n.lba4k + 4 * b2n n.encrypt) ++ u64 n.size
    ++ u64 n.place.length ++ u16 n.attached.length ++ List.replicate 10 0

/-- DRIVE_INFO (R342). -/
def DriveSt.code : DriveSt → Nat
  | .absent => 0
  | .present => 1
  | .admitted => 2
  | .failed => 3
  | .retiring => 4

def State.driveInfo (s : State) (d : Nat) : List Byte :=
  let x := s.drive d
  u8 x.st.code ++ u8 (b2n x.lba4k) ++ u16 0 ++ u64 x.capacity ++ u64 (s.driveHeld d) ++ leBytes 20 x.serial.toNat

/-- The storage objects (R342). -/
def State.readStorage (s : State) (ss : Session) (sub : Nat) : List Byte :=
  if sub = 2 then s.nsRecord (s.nsSel ss)
  else if sub = 4 then u32 (s.sel ss (obj 0xA400 4) 0)
  else s.driveInfo (s.driveSel ss)

/-- The channel that CHAN_SELECT names (R361). -/
def State.chanSel (s : State) (ss : Session) : Nat := s.sel ss (obj 0xA500 11) 0

def ChSt.code : ChSt → Nat
  | .unpopulated => 0
  | .training => 1
  | .running => 2
  | .changing => 3
  | .leftOut => 4
  | .failed => 5

/-- CHAN_STATUS (R361). -/
def State.chanStatus (s : State) (c : Nat) : List Byte :=
  let x := s.dram c
  u8 x.st.code ++ u8 x.dimms ++ u16 x.speed ++ u64 x.bytes ++ u8 (unsigned 8 x.temp) ++ u8 0 ++ u16 x.repaired
    ++ u16 x.retired.length ++ u16 (s.sparesLeft (chanHalf c)) ++ List.replicate 12 0

/-- The carve-outs of a half: where each starts, and its size (R359, R361). -/
def carveList (start : Nat) (l : List Nat) : List Byte :=
  match l with
  | [] => []
  | n :: rest => u64 start ++ u64 n ++ carveList (start + n) rest

/-- CARVE_MAP (R361). -/
def State.carveMap (s : State) : List Byte :=
  fit 96 (carveList 0 s.mem.carveK) ++ fit 96 (carveList 0 s.mem.carveQ)

/-- The timing set in use: B once every channel in use has changed to it (R354, R361). -/
def State.setInUse (s : State) (ss : Session) : Bool :=
  let cs := (s.seen ss s.usedChans).flatten
  !cs.isEmpty && cs.all fun c => (s.dram c).setB

/-- The memory objects (R361). -/
def State.readMem (s : State) (ss : Session) (sub : Nat) : List Byte :=
  if sub = 6 then u16 (256 * b2n s.mem.busy + b2n (s.setInUse ss))
  else if sub = 12 then s.chanStatus (s.chanSel ss)
  else s.carveMap

/-! ### Network ports, action programs and thread debug (R161, R250) -/

/-- PORT_STATUS_En (R161): with the link up every occupied lane is in lock. -/
def State.portStatus (s : State) (n : Nat) : List Byte :=
  let x := s.ethPort n
  let lanes := 2 ^ modeLanes (s.portMode n)
  let lock := if x.link then lanes - 1 else Config.lanesInLock s.fresh % lanes
  u32 (lock * 256 + x.trained * 16 + 8 * b2n x.anDone + 4 * b2n x.remoteFault + 2 * b2n x.localFault + b2n x.link)

/-- The network port objects that are no parameters (R161). -/
def State.readNet (s : State) (ss : Session) (i sub : Nat) : List Byte :=
  if i = 0xA600 then u32 (unsigned 32 (s.half (s.server ss)).gov.rate)
  else if i = 0xA61A then s.portStatus (sub - 1)
  else u8 (if sub = 1 then s.mgmt.linkK else s.mgmt.linkQ).toNat

/-- The NIB unit that NIB_SELECT names (R250). -/
def State.nibSel (s : State) (ss : Session) : Nat := (nibOfId (s.sel ss (obj 0xA700 5) 0)).getD 0

/-- IMAGE_INFO (R250). -/
def Nib.info (x : Nib) : List Byte :=
  match x.image with
  | none => List.replicate 56 0
  | some _ =>
    u32 (x.img 4 4) ++ u32 (x.img 8 4) ++ (beBytes 48 x.digest).take 32
      ++ leBytes 16 (((List.range 128).filter fun n => (x.entry n).isSome).map fun n => 2 ^ n).sum

/-- FAULT_LOG (R250): the newest first, unused entries zero. -/
def Nib.faults (x : Nib) : List Byte :=
  slice (x.faultLog.flatMap fun e => u64 e.1 ++ u8 e.2.1 ++ u8 e.2.2.1 ++ u16 0 ++ u32 e.2.2.2) 0 256

/-- The state code of DBG_STATE (R250). -/
def Thread.code (t : Thread) : Nat :=
  if t.halted.isSome then 4
  else
    match t.st with
    | .idle => 0
    | .running => 1
    | .waiting => 2
    | .waitLock => 2
    | .stallTq => 3
    | .stallTr => 3
    | .stallCsub => 3
    | .stopped => 5

/-- The lock code of DBG_STATE (R250). -/
def Nib.lockCode (x : Nib) (i : Nat) : Nat :=
  let t := x.th i
  match t.frame with
  | none => 0
  | some f => if t.holds then (if t.poisoned then 3 else 2) else if (x.lockOf f.arrival).isSome then 1 else 0

/-- DBG_STATE (R250). -/
def Nib.dbgState (x : Nib) (i : Nat) : List Byte :=
  let t := x.th i
  let n := match t.staged with
    | some e => e.2.length
    | none => 0
  u8 t.code ++ u8 (t.halted.getD 0) ++ u8 n ++ u8 (x.lockCode i) ++ u32 t.pc ++ u32 t.mask.toNat ++ u32 (x.events t).toNat

/-- DBG_MEM (R250): unmapped bytes read 0. -/
def Nib.dbgMem (x : Nib) (i a : Nat) : List Byte :=
  (List.range 64).map fun k =>
    match x.load (x.th i) (a + k) 1 with
    | .ok bs => bs.getD 0 0
    | .error _ => 0

/-- The thread debug objects of the selected thread (R250). -/
def State.readDbg (s : State) (ss : Session) (sub : Nat) : List Byte :=
  let t := s.dbgThread ss
  let x := s.nib t.1
  if sub = 3 then x.dbgState t.2
  else if sub = 4 then (List.range 32).flatMap fun r => u64 ((x.th t.2).reg r).toNat
  else if sub = 5 then leBytes 16 (x.th t.2).bps.toNat
  else x.dbgMem t.2 (s.sel ss (obj 0xA720 6) 0)

/-- The action program objects (R250). -/
def State.readNib (s : State) (ss : Session) (sub : Nat) : List Byte :=
  if sub = 4 then resultWord s.mgmt.nibLoad.busy 28 0 8 s.mgmt.nibLoad.status
  else if sub = 6 then (s.nib (s.nibSel ss)).info
  else (s.nib (s.nibSel ss)).faults

/-! ### Reserved fields (R10) -/

/-- The reserved fields of the records that are read back, as first bit and width (R10; 15 objects, R184, R194, R201, R208, R255,
R259, R161). -/
def reservedFields (i sub : Nat) : List (Nat × Nat) :=
  if i = 0x1022 ∧ sub ≠ 0 then [(2, 6), (24, 8), (224, 96)]
  else if i = 0xA010 ∧ sub = 2 then [(24, 8)]
  else if i = 0xA100 ∧ sub = 2 then [(3, 1), (11, 1), (184, 8), (208, 48)]
  else if i = 0xA100 ∧ sub = 3 then (List.range 16).map fun a => (32 * a + 28, 1)
  else if i = 0xA100 ∧ sub = 7 then [(113, 15)]
  else if i = 0xA100 ∧ sub = 10 then [(6, 2), (14, 2), (24, 8), (176, 80)]
  else if i = 0xA200 ∧ sub = 4 then [(12, 4), (576, 64)]
  else if i = 0xA210 ∧ sub ≠ 0 then [(7, 1), (16, 16)]
  else if i = 0xA600 ∧ (sub = 7 ∨ sub = 8) then [(2, 6)]
  else []

/-- A value as the device gives it: zero in its reserved fields (R10). -/
def zeroReserved (i sub : Nat) (bs : List Byte) : List Byte :=
  match reservedFields i sub with
  | [] => bs
  | fs => leBytes bs.length (fs.foldl (fun v e => v - v / 2 ^ e.1 % 2 ^ e.2 * 2 ^ e.1) (leNat bs))

end Sys2Proof.Machine
end

