-- ==== Sys2Proof/Machine/Params.lean ====
section
/-! DEFINITION. The objects that only hold a value: parameters with their defaults and ranges, and selections (15 R385, R389,
and the object table of each chapter). -/

namespace Sys2Proof.Machine
open Sys2Proof

/-! ### Parameters -/

/-- A parameter: the objects it stands for, its default, and the range a write must lie in. -/
structure ParamRow where
  i0  : Nat
  i1  : Nat
  s0  : Nat
  s1  : Nat
  dflt : Nat
  lo  : Nat
  hi  : Nat
deriving DecidableEq, Repr

/-- Any value of the type. -/
def anyVal : Nat := 2 ^ 1024

/-- Parameters of sessions, host ports, pace, maintenance, boot, witness (R395, R39, R133, R29, R436, R382, R435), and AGE_STEP of the arbiters
(R142). -/
def paramsA : List ParamRow :=
  [⟨0x1001, 0x1001, 3, 3, 300, 10, 3600⟩, ⟨0x1022, 0x1022, 1, 2, 0, 0, anyVal⟩, ⟨0x1030, 0x1030, 1, 4, 3, 0, 3⟩,
   ⟨0x1031, 0x1031, 1, 1, 1, 0, 3⟩, ⟨0x1100, 0x1100, 1, 4, 0, 0, 1⟩, ⟨0x1101, 0x1101, 1, 4, 6, 1, 6⟩,
   ⟨0x1102, 0x1102, 1, 4, 8, 1, 8⟩, ⟨0x1104, 0x1104, 1, 4, 4096, 1, 65535⟩, ⟨0x2000, 0x2000, 1, 1, 0, 0, 2⟩,
   ⟨0x2000, 0x2000, 10, 10, 900000, 0, anyVal⟩, ⟨0x2100, 0x2100, 1, 1, 0, 0, 1⟩, ⟨0x2100, 0x2100, 2, 2, 24, 1, 168⟩,
   ⟨0x2100, 0x2100, 3, 3, 2, 1, 10⟩, ⟨0x2100, 0x2100, 4, 4, 0, 0, 1⟩, ⟨0x2200, 0x2200, 3, 3, 120, 10, 3600⟩,
   ⟨0x2300, 0x2300, 1, 1, 0, 0, 1⟩, ⟨0x9000, 0x9000, 6, 6, 16, 1, 255⟩]

/-- Parameters of classification, traffic manager and cipher (R189, R212, R272). -/
def paramsB : List ParamRow :=
  [⟨0xA000, 0xA000, 6, 6, 1000000, 1000, 10000000⟩, ⟨0xA000, 0xA000, 7, 7, 1024, 1, 16384⟩, ⟨0xA000, 0xA000, 8, 8, 0, 0, 1⟩,
   ⟨0xA000, 0xA000, 9, 9, Config.hashKey.toNat, 0, anyVal⟩, ⟨0xA020, 0xA021, 1, 7, 0, 0, anyVal⟩,
   ⟨0xA100, 0xA100, 8, 8, 2048, 16, 65536⟩, ⟨0xA110, 0xA110, 1, 16, pfcDefault, 0, anyVal⟩,
   ⟨0xA111, 0xA111, 1, 16, 20, 0, anyVal⟩, ⟨0xA200, 0xA200, 1, 1, 1, 0, 2⟩,
   ⟨0xA200, 0xA200, 2, 2, 0x4000000000000000, 1, anyVal⟩, ⟨0xA200, 0xA200, 10, 10, 0xC0000000, 1, anyVal⟩,
   ⟨0xA210, 0xA210, 1, 16, 0, 0, anyVal⟩]

/-- Parameters of RDMA, storage and memory (R307, R342, R361). -/
def paramsC : List ParamRow :=
  [⟨0xA300, 0xA300, 1, 1, 1, 0, 1⟩, ⟨0xA300, 0xA300, 2, 2, 32, 1, 1000⟩, ⟨0xA300, 0xA300, 3, 3, 16384, 1, 65535⟩,
   ⟨0xA300, 0xA300, 4, 4, 40, 5, 5000⟩, ⟨0xA300, 0xA300, 5, 5, 32768, 1, 65535⟩, ⟨0xA300, 0xA300, 6, 6, 40, 1, 10000⟩,
   ⟨0xA300, 0xA300, 7, 7, 100, 10, 100000⟩, ⟨0xA300, 0xA300, 8, 8, 8, 1, 64⟩, ⟨0xA300, 0xA300, 12, 12, 4, 1, 64⟩,
   ⟨0xA300, 0xA300, 13, 13, 3, 0, 16⟩, ⟨0xA400, 0xA400, 5, 5, 8, 1, 255⟩, ⟨0xA400, 0xA400, 6, 6, 4, 1, 255⟩,
   ⟨0xA400, 0xA400, 7, 7, 1, 1, 255⟩, ⟨0xA400, 0xA400, 8, 8, 100, 1, 60000⟩, ⟨0xA400, 0xA400, 10, 10, 0, 0, 1⟩,
   ⟨0xA500, 0xA500, 1, 1, 3, 0, 3⟩, ⟨0xA500, 0xA500, 2, 2, 0, 0, 2⟩, ⟨0xA500, 0xA500, 3, 3, 6400, 4800, 6400⟩,
   ⟨0xA500, 0xA500, 4, 4, 4800, 4800, 6400⟩, ⟨0xA500, 0xA500, 7, 7, 8, 1, 256⟩, ⟨0xA500, 0xA500, 8, 8, 1, 0, 4⟩,
   ⟨0xA500, 0xA500, 9, 9, 64, 16, 1024⟩, ⟨0xA500, 0xA500, 10, 10, 8, 1, 255⟩]

/-- Parameters of the network ports (R161). -/
def paramsD : List ParamRow :=
  [⟨0xA600, 0xA600, 1, 1, 0xFF, 0, 0xFF⟩, ⟨0xA600, 0xA600, 4, 4, 0, 0, anyVal⟩, ⟨0xA600, 0xA600, 5, 5, 100, 0, 10000⟩,
   ⟨0xA600, 0xA600, 7, 8, 3, 0, 255⟩, ⟨0xA610, 0xA610, 1, 16, 4, 0, 6⟩, ⟨0xA611, 0xA611, 1, 16, 0, 0, 4⟩,
   ⟨0xA612, 0xA612, 1, 16, 0, 0, 2⟩, ⟨0xA613, 0xA613, 1, 16, 1, 0, 1⟩, ⟨0xA614, 0xA614, 1, 16, 1522, 1518, 10240⟩,
   ⟨0xA615, 0xA615, 1, 16, 0, 0, 2⟩, ⟨0xA616, 0xA616, 1, 16, 0, 0, 255⟩, ⟨0xA617, 0xA617, 1, 16, 0, 0, 7⟩,
   ⟨0xA618, 0xA618, 1, 16, 0, 0, 1⟩, ⟨0xA619, 0xA619, 1, 16, 0, 0, anyVal⟩]

/-- The parameter of an object. -/
def paramRow (i sub : Nat) : Option ParamRow :=
  (if i < 0xA000 then paramsA else if i < 0xA300 then paramsB else if i < 0xA600 then paramsC else paramsD).find? fun r =>
    r.i0 ≤ i && i ≤ r.i1 && r.s0 ≤ sub && sub ≤ r.s1

/-- A FEC choice is permitted for a port mode (R145, R146). -/
def fecOk (mode fec : Nat) : Bool :=
  fec = 0 || (if mode = 1 then fec ≤ 2 else if mode = 2 then fec ≤ 3 else mode != 0 && fec = 4)

/-- Every byte of OVERHEAD_En lies from −32 to 95 (R206). -/
def overheadOk (v : Nat) : Bool :=
  (List.range 8).all fun j => let b := v / 2 ^ (8 * j) % 256; b ≤ 95 || 224 ≤ b

/-- A mirror record is in range (R183). -/
def mirrorOk (v : Nat) : Bool :=
  v % 256 ≤ 2 && (let t := v / 2 ^ 48 % 65536; t = 0 || (64 ≤ t && t ≤ 10240))

/-- The carve-outs of the halves that can be reached fit their DRAM (R360). -/
def State.carvesFit (s : State) (ss : Session) : Bool :=
  ((if s.sees ss .k then [Half.k] else []) ++ (if s.sees ss .q then [Half.q] else [])).all fun h =>
    (s.carveAsk h).sum ≤ s.dramBytes h

/-- A value of a parameter is in range; `after` is the device with it written. -/
def State.paramOk (s after : State) (ss : Session) (i sub v : Nat) : Bool :=
  match paramRow i sub with
  | none => false
  | some r =>
    r.lo ≤ v && v ≤ r.hi &&
      (if i = 0x1102 then [1, 2, 4, 8].contains v
       else if i = 0xA020 ∨ i = 0xA021 then mirrorOk v
       else if i = 0xA111 then overheadOk v
       else if i = 0xA500 ∧ (sub = 3 ∨ sub = 4) then [4800, 5200, 5600, 6000, 6400].contains v
       else if i = 0xA500 ∧ 7 ≤ sub ∧ sub ≤ 9 then after.carvesFit ss
       else if i = 0xA600 ∧ sub = 1 then v ≤ 15 || v = 0xFF
       else if i = 0xA611 then fecOk (s.portMode (sub - 1)) v
       else true)

/-- What is kept of a value: a reserved byte reads 0 (R183). -/
def paramKept (i v : Nat) : Nat := if i = 0xA020 ∨ i = 0xA021 then v - v / 256 % 256 * 256 else v

/-- The item a parameter's value is kept for: URGENT_PERMIT is of the slice selected (R342), the age step of the arbiter
selected (R142). -/
def State.paramItem (s : State) (ss : Session) (i sub : Nat) : Nat :=
  if i = 0xA400 ∧ sub = 10 then s.sel ss (obj 0xA400 9) 0
  else if i = 0x9000 then s.arbSel ss
  else 0

/-- The half whose copy a read of a parameter reports: the half the object is of, else the serving one (R431). -/
def State.paramHalf (s : State) (ss : Session) (i sub : Nat) : Half := (objHalf i sub).getD (s.server ss)

/-- The length of an object's value. -/
def objLen (i sub : Nat) : Nat :=
  match objRow i sub with
  | some r => r.len
  | none => 0

/-- The present value of a parameter. -/
def State.readParam (s : State) (ss : Session) (i sub : Nat) : List Byte :=
  let d := match paramRow i sub with
    | some r => r.dflt
    | none => 0
  leBytes (objLen i sub) (s.param (s.paramHalf ss i sub) i sub (s.paramItem ss i sub) d)

/-- A write of a parameter, none where it is refused. -/
def State.writeParam (s : State) (ss : Session) (i sub v : Nat) : Option State :=
  let s1 := s.setParams (s.server ss) i sub (s.paramItem ss i sub) (paramKept i v)
  if s.paramOk s1 ss i sub v then some s1 else none

/-! ### Selections (R389) -/

/-- An object that holds a selection of the session. -/
def isSel (i sub : Nat) : Bool :=
  (i = 0x5000 && sub = 4) || (i = 0x6000 && (sub = 1 || sub = 4)) || (i = 0x7000 && sub = 2)
    || ((i = 0x8000 || i = 0x8001) && sub = 1) || (i = 0x9000 && (sub = 1 || sub = 2)) || (i = 0xA010 && sub = 1)
    || (i = 0xA100 && (sub = 1 || sub = 6 || sub = 9)) || (i = 0xA200 && (sub = 3 || sub = 8)) || (i = 0xA300 && sub = 9)
    || (i = 0xA400 && (sub = 1 || sub = 9 || sub = 11)) || (i = 0xA500 && sub = 11) || (i = 0xA700 && (sub = 1 || sub = 5))
    || (i = 0xA720 && (sub = 1 || sub = 6))

/-- The default of a selection (R86, R307, R342, R428): of a log cursor, the oldest record. -/
def State.selDefault (s : State) (i sub : Nat) : Nat :=
  if i = 0x6000 ∧ sub = 4 then 1
  else if i = 0xA300 then 0x100000
  else if i = 0xA400 ∧ sub = 1 then 1
  else if i = 0x8000 then s.k.log.oldest
  else if i = 0x8001 then s.q.log.oldest
  else 0

/-- A value of a selection is in range. -/
def selOk (i sub v : Nat) : Bool :=
  if i = 0x6000 ∧ sub = 4 then v / 64 = 0 && (v % 16 = 1 || v % 16 = 2)
  else if i = 0x7000 then v ≤ 7
  else if i = 0xA100 ∧ sub = 1 then v / 2 ^ 20 = 0 && v / 2 ^ 17 % 2 = 0
  else if i = 0xA100 ∧ sub = 6 then v < 128
  else if i = 0xA100 ∧ sub = 9 then v < 2 ^ 17
  else if i = 0xA200 ∧ sub = 3 then v / 2 ^ 17 = 0 && v / 2 ^ 14 % 4 = 0
  else if i = 0xA200 ∧ sub = 8 then v < 8192
  else if i = 0xA400 ∧ sub = 11 then v ≤ 63
  else if i = 0xA500 then v ≤ 7
  else if i = 0xA700 then (nibOfId v).isSome
  else if i = 0xA720 ∧ sub = 1 then (nibOfId (v / 256)).isSome && v / 64 % 4 = 0
  else true

/-- The value of a selection. -/
def State.readSel (s : State) (ss : Session) (i sub : Nat) : List Byte :=
  leBytes (objLen i sub) (s.sel ss (obj i sub) (s.selDefault i sub))

/-- A write of a selection. -/
def State.writeSel (s : State) (ss : Session) (i sub v : Nat) : Option State :=
  if selOk i sub v then some (s.setSel ss (obj i sub) v) else none

/-! ### The selections that a read depends on (R456, order 8) -/

/-- The selection that an object depends on names something. -/
def State.selNames (s : State) (ss : Session) (i sub : Nat) : Bool :=
  if i = 0x5010 ∧ 1 ≤ sub then s.sliceSel ss < 4096 && (sub = 2 || (s.slice (s.sliceSel ss)).used)
  else if i = 0x6000 ∧ sub = 2 then s.sel ss (obj 0x6000 1) 0 < 4096 && (s.slice (s.sel ss (obj 0x6000 1) 0)).used
  else if i = 0x9000 ∧ (sub = 3 ∨ sub = 5) then s.arbSelOk ss (s.reqSel ss)
  else if i = 0x9000 ∧ sub = 6 then arbExists (s.arbSel ss / 256) (s.arbSel ss % 256)
  else if i = 0xA010 ∧ sub = 2 then s.steerSel ss < 4096 && (s.slice (s.steerSel ss)).used
  else if i = 0xA100 ∧ (sub = 2 ∨ sub = 4 ∨ sub = 5) then (s.nodeSel ss).exists_
  else if i = 0xA100 ∧ sub = 3 then (s.nodeSel ss).exists_ && (s.nodeSel ss).level = 2
  else if i = 0xA100 ∧ sub = 12 then s.sliceSel ss < 4096 && (s.slice (s.sliceSel ss)).used
  else if i = 0xA300 ∧ sub = 10 then 0x100000 ≤ s.qpSel ss && s.qpSel ss ≤ 0x1FFFFF
  else if i = 0xA400 ∧ sub = 2 then 1 ≤ s.nsSel ss && s.nsSel ss ≤ 4096
  else if i = 0xA400 ∧ sub = 10 then s.sel ss (obj 0xA400 9) 0 < 4096 && (s.slice (s.sel ss (obj 0xA400 9) 0)).used
  else true

/-- During a split what the selection names is of the half that cannot be reached (R431). -/
def State.selAway (s : State) (ss : Session) (i sub : Nat) : Bool :=
  if i = 0xA100 ∧ 2 ≤ sub ∧ sub ≤ 5 then s.away ss (s.nodeSel ss).half
  else if i = 0xA100 ∧ sub = 7 then s.away ss (halfOf (s.sel ss (obj 0xA100 6) 0 / 64 % 2))
  else if i = 0xA100 ∧ (sub = 10 ∨ sub = 11) then s.away ss (halfOf (s.sel ss (obj 0xA100 9) 0 / 65536 % 2))
  else if i = 0xA200 ∧ (sub = 4 ∨ sub = 5) then s.away ss (halfOf (s.sel ss (obj 0xA200 3) 0 / 65536 % 2))
  else if i = 0xA200 ∧ sub = 9 then s.away ss (halfOf (s.sel ss (obj 0xA200 8) 0 / 4096 % 2))
  else if i = 0xA300 ∧ sub = 10 then s.away ss (qpHalf (s.qpSel ss - 0x100000))
  else if i = 0xA400 ∧ sub = 2 then s.away ss (s.ns (s.nsSel ss)).home
  else if i = 0xA400 ∧ sub = 12 then s.away ss (portHalf (s.driveSel ss / 16))
  else if i = 0xA500 ∧ sub = 12 then s.away ss (chanHalf (s.chanSel ss))
  else if i = 0xA700 ∧ 6 ≤ sub then s.away ss (nibHalf (s.nibSel ss))
  else if i = 0xA720 ∧ 3 ≤ sub then s.away ss (nibHalf (s.dbgThread ss).1)
  else if i = 0x9000 ∧ 3 ≤ sub then s.away ss (arbHalf (s.arbSel ss / 256) (s.arbSel ss % 256))
  else false

end Sys2Proof.Machine
end

