-- ==== Sys2Proof/Machine/ObjWrite.lean ====
section
/-! DEFINITION. Writes of objects that hold a value, and writes of RWP objects as the entries of a profile make them (15
R385, R389, R404). -/

namespace Sys2Proof.Machine
open Sys2Proof

/-- An output is the response of a session. -/
def isResp (ss : Session) (o : Output) : Option (Nat × List Byte) :=
  match o with
  | .resp x st d => if x = ss then some (st, d) else none
  | _ => none

/-- A command that is one request, run for its reply: the response is handed back, not sent. -/
def State.via (s : State) (w : Who) (f : State → Out) : Reply :=
  match f { s with out := [] } with
  | .next t => ({ t with out := t.out.filter (fun o => (isResp w.sess o).isNone) ++ s.out }, t.out.findSome? (isResp w.sess))
  | .fault _ => (s, none)
  | .refused _ => (s, none)

/-- DBG_BP of the selected thread (R249, R250). -/
def State.writeBps (s : State) (ss : Session) (v : Nat) : State :=
  let t := s.dbgThread ss
  s.setTh t.1 t.2 { s.th t.1 t.2 with bps := BitVec.ofNat 128 v }

/-- A write of an object with no behaviour of its own: it sets the value (R385). -/
def State.writePlain (s : State) (w : Who) (i sub : Nat) (data : List Byte) : Reply :=
  s.write w i sub data idle (fun a => a.selNames w.sess i sub) fun a =>
    let v := leNat data
    if a.selAway w.sess i sub then none
    else if isSel i sub then a.writeSel w.sess i sub v
    else if i = 0xA720 ∧ sub = 5 then some (a.writeBps w.sess v)
    else a.writeParam w.sess i sub v

/-- The number of a port object's subindex. -/
def portOf (sub : Nat) : Fin 16 := ⟨(sub - 1) % 16, Nat.mod_lt _ (by decide)⟩

/-- A write of an RWP object, whose behaviour is that of its own command (R385, R404). -/
def State.writeRwp (s : State) (w : Who) (i sub : Nat) (data : List Byte) : Reply :=
  let v := leNat data
  let b := fun (n : Nat) => BitVec.ofNat n v
  if i = 0x2000 ∧ sub = 1 then s.via w (execPaceModeWrite w (b 8))
  else if i = 0xA010 ∧ sub = 2 then s.via w (execTxSteerWrite w (b 288))
  else if i = 0xA100 ∧ sub = 2 then s.via w (execNodeRecordWrite w (b 256))
  else if i = 0xA100 ∧ sub = 3 then s.via w (execAttachWrite w (b 512))
  else if i = 0xA100 ∧ sub = 7 then s.via w (execQueueProfileWrite w (b 128))
  else if i = 0xA100 ∧ sub = 10 then s.via w (execPolicerWrite w (b 256))
  else if i = 0xA110 then s.via w (execPfcThreshWrite w (portOf sub) (b 96))
  else if i = 0xA200 ∧ sub = 1 then s.hardenWrite w v
  else if i = 0xA210 then s.macsecWrite w (portOf sub) (b 704)
  else if i = 0xA610 then s.portModeWrite w (portOf sub) v
  else s.writePlain w i sub data

/-- A write of an RWP object, checked first as the general checks of R456 ask (the length of its data among them). -/
def State.writeStored (s : State) (w : Who) (i sub : Nat) (data : List Byte) : Reply :=
  if s.early w true i sub data ≠ 0 then s.write w i sub data idle always fun _ => none
  else s.writeRwp w i sub data

/-- DICT_READ_REQUEST for LINK_Pn, PORT_STATUS_En and CIPHER_LOAD draws free values: how many. -/
def draws (i sub : Nat) : Nat := if sub = 0 then 0 else if i = 0x1103 ∨ i = 0xA61A then 1 else if i = 0xA200 ∧ sub = 6 then 2 else 0

/-- A thread may be looked into: it is halted (R249, R250). -/
def State.dbgReadable (s : State) (ss : Session) (sub : Nat) : Bool :=
  (sub != 4 && sub != 7) || (s.th (s.dbgThread ss).1 (s.dbgThread ss).2).halted.isSome

/-- The present value of an object (R383, R385). -/
def State.objValue (s : State) (w : Who) (i sub : Nat) : List Byte :=
  let ss := w.sess
  zeroReserved i sub <|
  if sub = 0 then u8 (topSub i)
  else if isSel i sub then s.readSel ss i sub
  else if (paramRow i sub).isSome then s.readParam ss i sub
  else if unitIndex i then s.readUnit i sub
  else if 0x6100 ≤ i ∧ i < 0x7000 then u64 (mget s.stat (i * 256 + sub) 0)
  else if i = 0x1103 then s.linkWord (sub - 1)
  else if i < 0x1100 then s.readComm w i sub
  else if i = 0x2000 then s.readPace ss sub
  else if i = 0x2100 then s.readMaint sub
  else if i = 0x2200 then s.readBoot sub
  else if i < 0x3000 then s.readCstl ss i sub
  else if i < 0x4000 then s.readCal i sub
  else if i < 0x6000 then s.readSlice ss i sub
  else if i = 0x6000 then s.readCounters ss sub
  else if i = 0x7000 then s.readSecurity ss sub
  else if i = 0x8000 ∨ i = 0x8001 then s.readLogs ss (halfOf (i % 2)) sub
  else if i = 0x9000 then s.readArb ss sub
  else if i < 0xA100 then s.readCls ss i sub
  else if i = 0xA100 then s.readTm ss sub
  else if i = 0xA200 then s.readCipher ss sub
  else if i = 0xA300 then s.qpInfo (s.qpSel ss - 0x100000)
  else if i = 0xA400 then s.readStorage ss sub
  else if i = 0xA500 then s.readMem ss sub
  else if i < 0xA700 then s.readNet ss i sub
  else if i = 0xA700 then s.readNib ss sub
  else s.readDbg ss sub

/-- A read of an object (R385): LOG_READ moves the cursor (R428). -/
def State.objRead (s : State) (w : Who) (i sub : Nat) : Reply :=
  s.readReq w i sub (fun a => a.selNames w.sess i sub) fun a =>
    if a.selAway w.sess i sub ∨ (i = 0xA720 ∧ a.dbgReadable w.sess sub = false) then none
    else if (i = 0x8000 ∨ i = 0x8001) ∧ sub = 2 then some (a.readLog w.sess (halfOf (i % 2)))
    else some ({ a with fresh := a.fresh + draws i sub }, a.objValue w i sub)

end Sys2Proof.Machine
end

