-- ==== Sys2Proof/Machine/DictStore.lean ====
section
/-! DEFINITION. The persistent store, profiles, the calibration set, authentication keys, management addresses, logs and the
end of idle sessions (15 R389 to R407, 16 R428). -/

namespace Sys2Proof.Machine
open Sys2Proof

/-! ### The store (R390 to R392) -/

/-- A stored parameter is of an RWP object (R385, R390). -/
def rwpKey (k : Nat) : Bool :=
  match objRow (k / 2 ^ 28) (k / 2 ^ 20 % 256) with
  | some r => r.acc = .rwp
  | none => false

/-- The RWP values of a half. -/
def rwpOf (m : Map Nat) : Map Nat := m.filter fun e => rwpKey e.1

/-- A commit of `c` with the next generation runs (R391). -/
def State.startCommit (s : State) (c : StoreCopy) : State :=
  { s with mgmt := { s.mgmt with storeBusy := true, storeNext := some { c with gen := s.nv.store.gen + 1, valid := true } } }

/-- The store as COMMIT writes it: every RWP value that the serving half can reach, the rest of the store kept (R390). -/
def State.committed (s : State) (ss : Session) : StoreCopy :=
  let c := s.nv.store
  { c with
    paramsK := if s.sees ss .k then rwpOf s.mgmt.paramsK else c.paramsK
    paramsQ := if s.sees ss .q then rwpOf s.mgmt.paramsQ else c.paramsQ }

/-- The store as DEFAULTS writes it (R392). -/
def State.defaulted (s : State) (ss : Session) : StoreCopy :=
  let c := s.nv.store
  { c with
    paramsK := if s.sees ss .k then [] else c.paramsK
    paramsQ := if s.sees ss .q then [] else c.paramsQ }

/-- STORE_CMD. -/
def State.storeCmd (s : State) (w : Who) (v : Nat) : Reply :=
  s.write w 0x1010 1 [BitVec.ofNat 8 v] (fun a => a.mgmt.storeBusy) always fun a =>
    if v = 1 then some (a.startCommit (a.committed w.sess))
    else if v = 2 then some (a.startCommit (a.defaulted w.sess))
    else none

/-- STORE_COMMIT (R390, R391). -/
def execStoreCommit (w : Who) (s : State) : Out := (s.storeCmd w 1).out w

/-- STORE_DEFAULTS (R392). -/
def execStoreDefaults (w : Who) (s : State) : Out := (s.storeCmd w 2).out w

/-- A commit ends: the copy of the lower generation is written and read back, and STORE_STATUS reports OK; a profile whose
commit it was ends with it (R391, R404). -/
def State.commitDone (s : State) : State :=
  match s.mgmt.storeNext with
  | none => s
  | some c =>
    { s with
      nv := if s.nv.second then { s.nv with copy0 := c } else { s.nv with copy1 := c }
      mgmt := { s.mgmt with storeBusy := false, storeStatus := stOk, storeNext := none
                            profile := { s.mgmt.profile with busy := false } } }

/-- STORE_COMMIT_DONE (R391). -/
def execStoreCommitDone (s : State) : Out := .next s.commitDone

/-! ### Profiles (R403, R404) -/

/-- An entry of a profile. -/
structure ProfEntry where
  index : Nat
  sub   : Nat
  type  : Nat
  data  : List Byte
deriving DecidableEq, Repr

/-- The entries of a payload from an offset; none where one does not fit it. -/
def profEntries (p : List Byte) (n off : Nat) : Option (List ProfEntry) :=
  match n with
  | 0 => some []
  | k + 1 =>
    let len := leAt p (off + 4) 2
    let next := off + 8 + (len + 7) / 8 * 8
    if p.length < next then none
    else
      match profEntries p k next with
      | none => none
      | some es => some ({ index := leAt p off 2, sub := leAt p (off + 2) 1, type := leAt p (off + 3) 1,
                           data := slice p (off + 8) len } :: es)

/-- The entries of a profile's payload; none where its form is wrong (R403). -/
def profileOf (p : List Byte) : Option (List ProfEntry) :=
  if slice p 0 4 ≠ [0x4F, 0x58, 0x50, 0x46] ∨ leAt p 4 2 ≠ 1 ∨ p.length < 16 then none
  else profEntries p (leAt p 6 2) 16

/-- The type code of an object (R384). -/
def typeCode (i : Nat) (r : ObjRow) : Nat :=
  if r.bool then 1
  else if i = 0xA619 then 6
  else if (i = 0xA000 ∧ r.len = 40) ∨ i = 0xA111 then 8
  else if r.len = 1 then 2
  else if r.len = 2 then 3
  else if r.len = 4 then 4
  else if r.len = 8 ∧ i ≠ 0xA020 ∧ i ≠ 0xA021 then 5
  else 9

/-- An entry, tried as a write: its status, and the device after it (R404). -/
def State.tryEntry (s : State) (w : Who) (e : ProfEntry) : Nat × State :=
  match objRow e.index e.sub with
  | none => (rsNotFound, s)
  | some r =>
    if r.acc ≠ .rwp then (rsRefused, s)
    else if e.type ≠ typeCode e.index r ∨ e.data.length ≠ r.len then (rsMalformed, s)
    else
      match s.writeStored w e.index e.sub e.data with
      | (t, some (st, _)) => (st, t)
      | (_, none) => (rsDenied, s)

/-- The entries, each tried after those before it: the device with all written, or the status and number of the first that
fails. -/
def State.tryEntries (s : State) (w : Who) (es : List ProfEntry) (i : Nat) : Nat × Nat × State :=
  match es with
  | [] => (rsOk, 0, s)
  | e :: rest =>
    match s.tryEntry w e with
    | (st, t) => if st = rsOk then t.tryEntries w rest (i + 1) else (st, i, s)

/-- The counters of management requests as they were: the entries of a profile are no requests (R404, R409). -/
def keepRequests (old new : Map Nat) : Map Nat :=
  (new.filter fun e => e.1 / 65536 < 0x69) ++ (old.filter fun e => e.1 / 65536 = 0x69) ++ new.filter fun e => 0x69 < e.1 / 65536

/-- The longest payload of a profile: its buffer without the envelope (R365, R403). -/
def profileLimit : Nat := 1048576 - 8192

/-- What VERIFY and APPLY find: status, failing entry, and the device with the entries written (R404). -/
def State.tryProfile (s : State) (w : Who) (bs : List Byte) : Nat × Nat × State :=
  let e := s.nv.checkImage 3 profileLimit bs
  if e ≠ stOk then (e, 0, s)
  else
    match profileOf (envPayload bs) with
    | none => (stMalformed, 0, s)
    | some es =>
      match s.tryEntries w es 0 with
      | (st, i, t) => (st, i, { t with stat := keepRequests s.stat t.stat })

/-- The profile load replaced. -/
def State.setProfile (s : State) (l : Load) : State := { s with mgmt := { s.mgmt with profile := l } }

def profileBusy (s : State) : Bool := s.mgmt.profile.busy

/-- PROFILE_DATA (R395): a full buffer of 1 MiB refuses. -/
def State.profileData (s : State) (w : Who) (data : List Byte) : Reply :=
  s.write w 0x1011 1 data profileBusy always fun a =>
    let l := a.mgmt.profile
    if l.mine w.sess = false ∨ 1048576 < l.buf.length + data.length then none
    else some (a.setProfile { l with owner := some w.sess, buf := l.buf ++ data, verified := false })

/-- PROFILE_DATA_WRITE (R395). -/
def execProfileDataWrite (w : Who) (data : List Byte) (s : State) : Out := (s.profileData w data).out w

/-- APPLY (R404): the entries are written, and the commit runs. -/
def State.applyProfile (s : State) (w : Who) (l : Load) : State :=
  match s.tryProfile w l.buf with
  | (st, i, t) =>
    if st = rsOk then
      (t.startCommit (t.committed w.sess)).setProfile { l with busy := true, status := rsOk, failing := 0, verified := true }
    else s.setProfile { l with status := st, failing := i, verified := false }

/-- PROFILE_CMD (R395, R404): APPLY is busy while another commit runs. -/
def State.profileCmd (s : State) (w : Who) (v : Nat) : Reply :=
  s.write w 0x1011 2 [BitVec.ofNat 8 v] (fun a => profileBusy a || (v = 3 && a.mgmt.storeBusy)) always fun a =>
    let l := a.mgmt.profile
    if v = 1 then (if l.mine w.sess then some (a.setProfile { owner := some w.sess }) else none)
    else if l.owner ≠ some w.sess then none
    else if v = 2 then
      match a.tryProfile w l.buf with
      | (st, i, _) => some (a.setProfile { l with status := st, failing := i, verified := st = rsOk })
    else if v = 3 then some (a.applyProfile w l)
    else if v = 4 then some (a.setProfile { status := l.status, failing := l.failing })
    else none

/-- PROFILE_BEGIN (R395). -/
def execProfileBegin (w : Who) (s : State) : Out := (s.profileCmd w 1).out w

/-- PROFILE_VERIFY (R404). -/
def execProfileVerify (w : Who) (s : State) : Out := (s.profileCmd w 2).out w

/-- PROFILE_APPLY (R404). -/
def execProfileApply (w : Who) (s : State) : Out := (s.profileCmd w 3).out w

/-- PROFILE_CANCEL (R395). -/
def execProfileCancel (w : Who) (s : State) : Out := (s.profileCmd w 4).out w

/-! ### The calibration set (R406, R407) -/

/-- A write of a calibration data object: refused while a commit runs; a block as the store has it does not differ. -/
def State.calData (s : State) (w : Who) (b : Nat) (data : List Byte) : Reply :=
  s.write w (0x3000 + b / 4) (1 + b % 4) data idle always fun a =>
    if a.mgmt.calBusy then none
    else
      let work := if a.nv.calBlock b = data then merase a.mgmt.calWork b else mput a.mgmt.calWork b data
      some { a with mgmt := { a.mgmt with calWork := work } }

/-- CAL_DATA_WRITE (R406). -/
def execCalDataWrite (w : Who) (block : Fin 1024) (data : List Byte) (s : State) : Out := (s.calData w block.val data).out w

/-- The serial number in page 0 of the set (R405). -/
def calSerial (page : List Byte) : List Byte := slice page 8 16

/-- A changed page may be programmed: its check passes, and page 0 carries the part's serial number (R407). -/
def State.calPageOk (s : State) (p : Nat) : Bool :=
  pageCrcOk (s.workPage p) && (p != 0 || calSerial (s.workPage 0) = leBytes 16 Config.serial.toNat)

/-- CAL_CMD. -/
def State.calCmd (s : State) (w : Who) (v : Nat) : Reply :=
  s.write w 0x3000 5 [BitVec.ofNat 8 v] (fun a => a.mgmt.calBusy) always fun a =>
    if v = 1 then
      (if a.changedPages.all a.calPageOk then some { a with mgmt := { a.mgmt with calBusy := true } } else none)
    else if v = 2 then some { a with mgmt := { a.mgmt with calWork := [] } }
    else none

/-- CAL_COMMIT (R407). -/
def execCalCommit (w : Who) (s : State) : Out := (s.calCmd w 1).out w

/-- CAL_REVERT (R406). -/
def execCalRevert (w : Who) (s : State) : Out := (s.calCmd w 2).out w

/-- The changed pages are programmed, and the working copy is as the store (R407). -/
def State.calDone (s : State) : State :=
  if s.mgmt.calBusy then
    { s with
      nv := s.changedPages.foldl (fun n p => n.writePage p (s.workPage p)) s.nv
      mgmt := { s.mgmt with calBusy := false, calStatus := stOk, calWork := [] } }
  else s

/-- CAL_COMMIT_DONE (R407). -/
def execCalCommitDone (s : State) : Out := .next s.calDone

/-! ### Keys, addresses, logs, idle sessions (R395, R428, R389) -/

/-- A write of AUTH_KEYn: role 0 deletes the key; another is sealed at the running SEC_VERSION (R379, R395). -/
def State.authKey (s : State) (w : Who) (n : Nat) (v : Nat) : Reply :=
  s.write w 0x1020 (n + 1) (leBytes 49 v) idle always fun a =>
    if 3 < v % 256 then none
    else if v % 256 = 0 then some (a.ownWrite fun c => { c with keys := merase c.keys n })
    else some (a.ownWrite fun c => { c with keys := mput c.keys n { v := a.secVersion, val := v % 2 ^ 392 } })

/-- AUTH_KEY_WRITE (R395). -/
def execAuthKeyWrite (w : Who) (n : Fin 8) (rec : BitVec 392) (s : State) : Out := (s.authKey w n.val rec.toNat).out w

/-- MGMT_NET_WRITE (R395). -/
def execMgmtNetWrite (w : Who) (h : Half) (rec : BitVec 320) (s : State) : Out :=
  (s.writePlain w 0x1022 (h.num + 1) (leBytes 40 rec.toNat)).out w

/-- A write of ALERT_ACK: records up to a SEQ are acknowledged (R427, R428). -/
def State.alertAck (s : State) (w : Who) (h : Half) (v : Nat) : Reply :=
  s.write w (0x8000 + h.num) 4 (leBytes 8 v) idle always fun a =>
    some (a.onHalf h fun x => { x with log := { x.log with acked := Nat.max x.log.acked v } })

/-- ALERT_ACK_WRITE (R428). -/
def execAlertAckWrite (w : Who) (h : Half) (v : BitVec 64) (s : State) : Out := (s.alertAck w h v.toNat).out w

/-- LOG_READ (R428). -/
def execLogRead (w : Who) (h : Half) (s : State) : Out := (s.objRead w (0x8000 + h.num) 2).out w

/-- SESSION_IDLE_EXPIRY (R389): the session has been silent for SESSION_IDLE_S. -/
def execSessionIdleExpiry (sess : Session) (s : State) : Out :=
  match s.mgmt.sessions.find? (·.sess = sess) with
  | none => .next s
  | some x =>
    let h := s.server sess
    .next ((s.until h (x.last + s.param h 0x1001 3 0 300 * 1000000000)).endSession sess)

end Sys2Proof.Machine
end

