-- ==== Sys2Proof/Machine/Dictionary.lean ====
section
/-! DEFINITION. The dictionary's requests and the transports that carry them (15 R383 to R402). -/

namespace Sys2Proof.Machine
open Sys2Proof

/-! ### Writes of command objects, by object and value -/

/-- A command of an object whose codes are listed by place, from 1; another code is refused (R456). -/
def State.codeCmd (s : State) (w : Who) (i sub : Nat) (data : List Byte) (busy : State → Bool) (l : List (State → Out)) : Reply :=
  match l[leNat data - 1]? with
  | some f => if leNat data = 0 then s.write w i sub data busy always fun _ => none else s.via w f
  | none => s.write w i sub data busy always fun _ => none

/-- UNIT_CMD (R414). -/
def State.writeUnit (s : State) (w : Who) (i : Nat) (data : List Byte) : Reply :=
  let v := leNat data
  let n := i / 16 % 64
  let u : UnitRef := { half := halfOf (n / 32), index := ⟨n % 32 % 17, Nat.mod_lt _ (by decide)⟩ }
  if v = 1 then s.via w (execUnitDrain w u)
  else if v = 0x8001 then s.via w (execUnitDrainForce w u)
  else if v = 2 then s.via w (execUnitReturn w u)
  else if v = 3 then s.via w (execUnitPowerOff w u)
  else if v = 4 then s.via w (execUnitPowerOn w u)
  else s.write w i 2 data (fun a => (a.unit u.half u.index.val).busy) always fun _ => none

/-- NS_CMD (R342): an opcode it does not take ends MALFORMED. -/
def State.writeNs (s : State) (w : Who) (data : List Byte) : Reply :=
  let c := BitVec.ofNat 512 (leNat data)
  let src := AdminSrc.mgmt w c
  let op := scOp c
  if op = 0x80 then s.via w (execNsCreate src)
  else if op = 0x81 then s.via w (execNsDelete src)
  else if op = 0x82 then s.via w (execNsAttach src)
  else if op = 0x83 then s.via w (execNsDetach src)
  else if op = 0x84 then s.via w (execNsFormat src)
  else s.write w 0xA400 3 data (nsCmdBusy w) always fun a => some (a.nsResult w.sess false stMalformed)

/-- SA_RECORD (R255): the operation is in the record. -/
def State.writeSa (s : State) (w : Who) (v : Nat) : Reply := s.saRecordWrite w (BitVec.ofNat 640 v)

/-- Writes of the ranges 0x1000 to 0x3FFF. -/
def State.writeCore (s : State) (w : Who) (i sub : Nat) (data : List Byte) : Reply :=
  let v := leNat data
  let b := fun (n : Nat) => BitVec.ofNat n v
  if i = 0x1010 then s.storeCmd w v
  else if i = 0x1011 ∧ sub = 1 then s.profileData w data
  else if i = 0x1011 then s.profileCmd w v
  else if i = 0x1020 then s.authKey w (sub - 1) v
  else if i = 0x2100 ∧ sub = 5 then s.via w (execHalfRestartWrite w (b 8))
  else if i = 0x2200 ∧ sub = 2 then s.via w (execConfirmWrite w (b 8))
  else if i = 0x2200 ∧ sub = 5 then s.via w (execImgDataWrite w data)
  else if i = 0x2200 ∧ sub = 6 then
    s.codeCmd w i sub data (fun a => a.trust.imgBusy) [execImgBegin w, execImgVerify w, execImgArm w, execImgActivate w, execImgCancel w]
  else if i = 0x2300 ∧ sub = 3 then s.via w (execCustodyGrantWrite w (b 64))
  else if 0x3000 ≤ i ∧ sub ≤ 4 then s.calData w (4 * (i - 0x3000) + sub - 1) data
  else if 0x3000 ≤ i then s.calCmd w v
  else s.writeRwp w i sub data

/-- Writes of the ranges 0x4000 to 0x9FFF. -/
def State.writeMid (s : State) (w : Who) (i sub : Nat) (data : List Byte) : Reply :=
  let v := leNat data
  let b := fun (n : Nat) => BitVec.ofNat n v
  if unitIndex i then s.writeUnit w i data
  else if i = 0x5000 ∧ sub = 2 then s.sliceCmd w (b 512)
  else if i = 0x6000 ∧ sub = 3 then s.sliceCntClear w v
  else if i = 0x6000 ∧ sub = 6 then s.pfCntClear w v
  else if i = 0x7000 ∧ sub = 4 then s.via w (execKeyProgramWrite w (b 392))
  else if i = 0x7000 ∧ sub = 5 then s.via w (execRevokeWrite w (b 8))
  else if i = 0x7000 ∧ sub = 6 then s.via w (execFloorRaiseWrite w (b 8))
  else if i = 0x7000 ∧ sub = 7 then
    s.codeCmd w i sub data idle [execDebugCloseProgram w, execDebugCloseVendor w, execDebugCloseBoth w]
  else if i = 0x7000 ∧ sub = 8 then s.via w (execKwkWrite w (b 256))
  else if (i = 0x8000 ∨ i = 0x8001) ∧ sub = 4 then s.alertAck w (halfOf (i % 2)) v
  else if i = 0x9000 ∧ sub = 4 then s.via w (execArbClear w (b 16))
  else if i = 0x9000 ∧ sub = 5 then s.via w (execReqPriorityWrite w (b 8))
  else s.writePlain w i sub data

/-- Writes of the ranges 0xA000 to 0xA5FF. -/
def State.writeHigh (s : State) (w : Who) (i sub : Nat) (data : List Byte) : Reply :=
  let v := leNat data
  let b := fun (n : Nat) => BitVec.ofNat n v
  if i = 0xA000 ∧ sub = 1 then s.via w (execStageRecordWrite w (b 896))
  else if i = 0xA000 ∧ sub = 3 then s.via w (execCommitWrite w (b 8))
  else if i = 0xA000 ∧ sub = 5 then s.via w (execStageDiscard w (b 8))
  else if i = 0xA000 ∧ sub = 11 then s.via w (execClsCntClear w (b 8))
  else if i = 0xA100 ∧ sub = 13 then s.via w (execTmCntClear w (b 8))
  else if i = 0xA200 ∧ sub = 4 then s.writeSa w v
  else if i = 0xA200 ∧ sub = 11 then s.via w (execCipherCntClear w (b 8))
  else if i = 0xA300 ∧ sub = 11 then s.via w (execRdmaCntClear w (b 8))
  else if i = 0xA400 ∧ sub = 3 then s.writeNs w data
  else if i = 0xA400 ∧ sub = 13 then s.codeCmd w i sub data idle [execDriveAdmit w, execDriveRetire w]
  else if i = 0xA400 ∧ sub = 14 then s.via w (execNsKeyWrite w (b 576))
  else if i = 0xA400 ∧ sub = 15 then s.via w (execStqCntClear w (b 8))
  else if i = 0xA500 ∧ sub = 5 then s.codeCmd w i sub data (fun a => a.mem.busy) [execFreqCmdSetA w, execFreqCmdSetB w]
  else if i = 0xA500 ∧ sub = 14 then s.via w (execMemCntClear w (b 8))
  else s.writeRwp w i sub data

/-- Writes of the ranges 0xA600 to 0xA7FF. -/
def State.writeTop (s : State) (w : Who) (i sub : Nat) (data : List Byte) : Reply :=
  let v := leNat data
  let b := fun (n : Nat) => BitVec.ofNat n v
  if i = 0xA600 ∧ sub = 2 then s.tbRateWrite w (b 32)
  else if i = 0xA600 ∧ sub = 3 then s.tbAdjustWrite w (b 32)
  else if i = 0xA600 ∧ sub = 6 then s.portCntClear w v
  else if i = 0xA700 ∧ sub = 2 then s.via w (execLoadDataWrite w data)
  else if i = 0xA700 ∧ sub = 3 then
    s.codeCmd w i sub data nibLoadBusy [execLoadBegin w, execLoadVerify w, execLoadInstall w, execLoadCancel w]
  else if i = 0xA720 ∧ sub = 2 then
    s.codeCmd w i sub data idle [execDbgHalt w, execDbgResume w, execDbgStep w, execDbgReset w, execDbgArm w, execDbgDisarm w]
  else s.writeRwp w i sub data

/-- A write of an object (R385, R456): one that fails the checks 3 to 6 has no behaviour of its own to come to. -/
def State.objWrite (s : State) (w : Who) (i sub : Nat) (data : List Byte) : Reply :=
  if s.early w true i sub data ≠ 0 then s.write w i sub data idle always fun _ => none
  else if i < 0x4000 then s.writeCore w i sub data
  else if i < 0xA000 then s.writeMid w i sub data
  else if i < 0xA600 then s.writeHigh w i sub data
  else s.writeTop w i sub data

/-- DICT_READ_REQUEST (R383, R385, R388). -/
def execDictReadRequest (w : Who) (index : BitVec 16) (sub : BitVec 8) (s : State) : Out :=
  (s.objRead w index.toNat sub.toNat).out w

/-- DICT_WRITE_GENERIC (R385): a write of whatever object it names. -/
def execDictWriteGeneric (w : Who) (index : BitVec 16) (sub : BitVec 8) (data : List Byte) (s : State) : Out :=
  (s.objWrite w index.toNat sub.toNat data).out w

/-! ### Messages (R396 to R398, R456) -/

def msgFlags (m : List Byte) : Nat := beAt m 3 1
def msgAuth (m : List Byte) : Bool := msgFlags m / 64 % 2 = 1
def msgOp (m : List Byte) : Nat := beAt m 4 1
def msgKey (m : List Byte) : Nat := beAt m 6 1
def msgEpoch (m : List Byte) : Nat := beAt m 8 4
def msgSeq (m : List Byte) : Nat := beAt m 12 4
def msgLen (m : List Byte) : Nat := beAt m 20 2

/-- The bytes of a whole message by its header (R396). -/
def msgSize (m : List Byte) : Nat := 24 + msgLen m + 16 * b2n (msgAuth m)

/-- The data field of a message. -/
def msgData (m : List Byte) : List Byte := slice m 24 (msgLen m)

/-- The header fields and LENGTH are those of a request (R396, R456 order 1). -/
def msgOk (m : List Byte) : Bool :=
  24 ≤ m.length && beAt m 0 2 = 0x5359 && beAt m 2 1 = 1 && msgFlags m < 128 && (msgOp m = 1 || msgOp m = 2)
    && beAt m 5 1 = 0 && msgLen m ≤ 1408 && (msgOp m = 2 || msgLen m = 0) && (!msgAuth m || msgKey m ≤ 7)
    && m.length = msgSize m

/-- The MAC over bytes (R397). -/
def macOf (key : Nat) (bs : List Byte) : List Byte :=
  (beBytes 48 (Config.hmac (leBytes 48 (key / 256)) bs).toNat).take 16

/-- The MAC that a message carries. -/
def msgMac (m : List Byte) : List Byte := slice m (24 + msgLen m) 16

/-- The response to a message (R396, R397): under a key, with its MAC. -/
def replyMsg (m : List Byte) (key : Option Nat) (st : Nat) (data : List Byte) : List Byte :=
  let head := beBytes 2 0x5359 ++ [1, if key.isSome then 0xC0 else 0x80] ++ slice m 4 1 ++ u8 st
    ++ (if key.isSome then slice m 6 1 else [0]) ++ [0] ++ slice m 8 8 ++ slice m 16 3 ++ [0]
    ++ beBytes 2 data.length ++ [0, 0]
  match key with
  | some k => head ++ data ++ macOf k (head ++ data)
  | none => head ++ data

/-- The request of a message, carried out. -/
def State.request (s : State) (w : Who) (m : List Byte) : Reply :=
  if msgOp m = 1 then s.objRead w (beAt m 16 2) (beAt m 18 1)
  else s.objWrite w (beAt m 16 2) (beAt m 18 1) (msgData m)

/-- A request that comes to no object is counted (R409). -/
def State.countRequest (s : State) (ss : Session) (sub : Nat) : State :=
  (s.countH 0x6900 (sessHalf ss) 1 1).countH 0x6900 (sessHalf ss) sub 1

/-- What the device sends back for a message: nothing where it is dropped. -/
abbrev MsgReply := State × Option (List Byte)

/-- An authenticated request whose epoch is right and whose SEQ is above the mark (R398): carried out, and its response kept. -/
def State.execKeyed (s : State) (ss : Session) (k : Fin 8) (key : Nat) (m : List Byte) : MsgReply :=
  match s.request { sess := ss, key := some k } m with
  | (t, some (st, d)) =>
    let r := replyMsg m (some key) st d
    ({ t with mgmt := { t.mgmt with
        marks := mput t.mgmt.marks ((sessHalf ss).num * 8 + k.val) { seq := msgSeq m, req := m, resp := r } } }, some r)
  | (t, none) => (t, none)

/-- An authenticated request: its MAC, epoch and sequence (R397, R398). -/
def State.keyed (s : State) (ss : Session) (m : List Byte) : MsgReply :=
  let k : Fin 8 := ⟨msgKey m % 8, Nat.mod_lt _ (by decide)⟩
  match s.unseal (mfind s.nv.store.keys k.val) with
  | none => (s.countRequest ss 2, none)
  | some key =>
    if macOf key (m.take (24 + msgLen m)) ≠ msgMac m then (s.countRequest ss 2, none)
    else if msgEpoch m ≠ s.nv.store.epoch then
      ((s.countRequest ss 4).touch ss, some (replyMsg m (some key) rsStale (u32 s.nv.store.epoch)))
    else
      match mfind s.mgmt.marks ((sessHalf ss).num * 8 + k.val) with
      | none => s.execKeyed ss k key m
      | some x =>
        if x.seq < msgSeq m then s.execKeyed ss k key m
        else if x.seq = msgSeq m ∧ x.req = m then
          ((s.countH 0x6900 (sessHalf ss) 1 1).touch ss, some x.resp)
        else (s.countRequest ss 3, none)

/-- A message of a session (R396 to R398): nothing where no SUPV serves it. -/
def State.message (s : State) (ss : Session) (m : List Byte) : MsgReply :=
  if s.served ss = false ∨ (s.half (sessHalf ss)).supvUp = false then (s, none)
  else if msgOk m = false then (s.countRequest ss 8, some (replyMsg m none rsMalformed []))
  else if msgAuth m then s.keyed ss m
  else
    match s.request { sess := ss, key := none } m with
    | (t, some (st, d)) => (t, some (replyMsg m none st d))
    | (t, none) => (t, none)

/-! ### Synrok and MCTP (R399, R400) -/

/-- A Synrok frame: with AUTH 0, or a LENGTH that disagrees with the datagram, it is dropped and counted (R399). -/
def State.synrok (s : State) (h : Half) (peer : Nat) (m : List Byte) : State :=
  let ss := Session.synrok h peer
  if s.served ss = false ∨ (s.half h).supvUp = false then s
  else if msgAuth m = false then s.countRequest ss 2
  else if m.length ≠ msgSize m ∨ m.length < 24 then s.countRequest ss 8
  else
    match s.message ss m with
    | (t, some r) => t.emit (.respMsg ss r)
    | (t, none) => t

/-- SYNROK_FRAME_RECEIVE (R399). -/
def execSynrokFrameReceive (h : Half) (peer : Nat) (msg : List Byte) (s : State) : Out := .next (s.synrok h peer msg)

/-- An MCTP medium of a half: 0 its SMBus/I3C port, 1 + p PCIe VDM on host port p of the half, in endpoint mode with its link
up (R400). -/
def State.mediumOk (s : State) (h : Half) (medium : Nat) : Bool :=
  s.board.boot != .inReset && (s.half h).supvUp &&
    (medium = 0 || (medium ≤ 4 && portHalf (medium - 1) = h && !(s.port (medium - 1)).root && (s.port (medium - 1)).up))

/-- The bytes before a dictionary message: message type, vendor ID and command (R400). -/
def mctpHead : List Byte := [0x7E, 0x1F, 0xA6, 0x01]

/-- MCTP_MESSAGE_RECEIVE (R400): a dictionary message of at most 1,452 bytes; another has no meaning to the endpoint. -/
def execMctpMessageReceive (h : Half) (medium eid : Nat) (msg : List Byte) (s : State) : Out :=
  .next (if s.mediumOk h medium = false ∨ msg.take 4 ≠ mctpHead ∨ 1452 < msg.length then s
         else
           match s.message (.mctp h medium eid) (msg.drop 4) with
           | (t, some r) => t.emit (.respMsg (.mctp h medium eid) (mctpHead ++ r))
           | (t, none) => t)

/-- A control command is answered on a medium: its code and content (R400). -/
def State.mctpControl (s : State) (h : Half) (medium code : Nat) (content : List Nat) : State :=
  if s.mediumOk h medium then s.emit (.mctp h code content) else s

/-- The key of the endpoint ID on a medium. -/
def eidKey (h : Half) (medium : Nat) : Nat := h.num * 256 + medium

/-- MCTP_SET_ENDPOINT_ID (R400): 0 and 255 are no endpoint IDs. -/
def execMctpSetEndpointId (h : Half) (medium : Nat) (eid : BitVec 8) (s : State) : Out :=
  .next (if s.mediumOk h medium = false then s
         else if eid = 0 ∨ eid = 255 then s.emit (.mctp h 1 [2])
         else
           let m := { s.mgmt with eids := mset s.mgmt.eids (eidKey h medium) eid.toNat 0 }
           { s with mgmt := m }.emit (.mctp h 1 [0, 0, eid.toNat, 0]))

/-- MCTP_GET_ENDPOINT_ID (R400). -/
def execMctpGetEndpointId (h : Half) (medium : Nat) (s : State) : Out :=
  .next (s.mctpControl h medium 2 [0, mget s.mgmt.eids (eidKey h medium) 0, 0, 0])

/-- MCTP_GET_VERSION_SUPPORT (R400): version 1.3. -/
def execMctpGetVersionSupport (h : Half) (medium : Nat) (s : State) : Out :=
  .next (s.mctpControl h medium 4 [0, 1, 0xF1, 0xF3, 0xFF, 0])

/-- MCTP_GET_MESSAGE_TYPE_SUPPORT (R400): type 0x7E. -/
def execMctpGetMessageTypeSupport (h : Half) (medium : Nat) (s : State) : Out :=
  .next (s.mctpControl h medium 5 [0, 1, 0x7E])

/-- MCTP_GET_VENDOR_MSG_SUPPORT (R400): PCI vendor ID 0x1FA6. -/
def execMctpGetVendorMsgSupport (h : Half) (medium : Nat) (s : State) : Out :=
  .next (s.mctpControl h medium 6 [0, 0xFF, 0, 0x1F, 0xA6, Config.mctpVendorSet.toNat / 256, Config.mctpVendorSet.toNat % 256])

/-! ### The PF0 mailbox (R401, R402) -/

/-- Bytes written over the start of a 4 KiB buffer. -/
def overBuffer (new old : List Byte) : List Byte := (new ++ old.drop new.length).take 4096

/-- The message in a request buffer: as long as its header says. -/
def mboxMessage (buf : List Byte) : List Byte :=
  let m := slice buf 0 24
  if msgLen m ≤ 1408 then slice buf 0 (msgSize m) else m

/-- MBOX_GO (R402): `msg` is what the host has written to the request buffer from its start. -/
def execMboxGo (p : Fin 4) (msg : List Byte) (s : State) : Out :=
  .next (s.statusAccess (fnKey p.val 0) fun a =>
    let x := { a.port p.val with mboxBuf := overBuffer msg (a.port p.val).mboxBuf }
    a.setPort p.val (match x.mboxReq with
      | some _ => { x with mboxIgnored := sat31 x.mboxIgnored }
      | none => { x with mboxReq := some (mboxMessage x.mboxBuf) }))

/-- A mailbox request has been served: without a response, or after an FLR, PENDING alone clears (R402). -/
def State.mboxServed (s : State) (p : Nat) (r : Option (List Byte)) : State :=
  let x := { s.port p with mboxReq := none, mboxDrop := false }
  match r with
  | none => s.setPort p x
  | some bs =>
    if (s.port p).mboxDrop then s.setPort p x
    else
      let s1 := s.setPort p { x with mboxResp := overBuffer bs x.mboxResp, mboxDone := true }
      if x.mboxIrq then s1.vectorDue (fnKey p 0) 4096 0 else s1

/-- MBOX_RESPONSE_DONE (R402). -/
def execMboxResponseDone (p : Fin 4) (s : State) : Out :=
  .next (match (s.port p.val).mboxReq with
    | none => s
    | some m =>
      if s.served (.mbox p) = false ∨ (s.half (portHalf p.val)).supvUp = false then s
      else
        match s.message (.mbox p) m with
        | (t, r) => t.mboxServed p.val r)

/-- MBOX_IGNORED_READ (R9, R401). -/
def execMboxIgnoredRead (p : Fin 4) (s : State) : Out :=
  .next (s.statusAccess (fnKey p.val 0) fun a =>
    (a.setPort p.val { a.port p.val with mboxIgnored := 0 }).emit (.read (a.port p.val).mboxIgnored))

end Sys2Proof.Machine
end

