-- ==== Sys2Proof/Machine/RwReg.lean ====
section
/-! DEFINITION. A host's write of one dword of a function's BAR0, BAR2 or configuration space (00 R7, R10 and the register
tables of 02, 04, 05, 11, 12 and 15). -/

namespace Sys2Proof.Machine
open Sys2Proof

/-! ### The register at an offset of BAR0 (R44) -/

/-- What lies at a dword offset of a function's BAR0. -/
inductive RegAt where
  | ctl (o : Nat)
  | status (o : Nat)
  | request (o : Nat)
  | answer (o : Nat)
  | wq (n o : Nat)
  | cq (n o : Nat)
  | stq (n o : Nat)
  | win (n o : Nat)
  | chan (n o : Nat)
  | rdq (page o : Nat)
  | nothing
deriving DecidableEq, Repr

/-- The frame of a region that starts at `base`, by frames of `size` bytes, and the offset in it. -/
def inRegion (base count size off : Nat) : Option (Nat × Nat) :=
  if base ≤ off ∧ off < base + count * size then some ((off - base) / size, (off - base) % size) else none

/-- PF0 (R44, R48, R49, R401). -/
def regPf0 (off : Nat) : RegAt :=
  if 0x1000 ≤ off ∧ off < 0x2000 then .request (off - 0x1000)
  else if 0x2000 ≤ off ∧ off < 0x3000 then .answer (off - 0x2000)
  else if 0x100000 ≤ off ∧ off < 0x1000000 then .status off
  else .nothing

/-- A function of the network service: PF1, or a VF of it (R44, R277). -/
def regNet (vf : Bool) (off : Nat) : RegAt :=
  let rd := if vf then inRegion 0x800 1 0x100 off else inRegion 0x100000 256 0x1000 off
  let ws := if vf then inRegion 0x1000 64 512 off else inRegion 0x1000000 65536 512 off
  let cs := if vf then inRegion 0x9000 64 128 off else inRegion 0x800000 65536 128 off
  let ms := if vf then inRegion 0xB000 256 32 off else inRegion 0x400000 131072 32 off
  match rd, ws, cs, ms with
  | some (n, o), _, _, _ => if o < 0x100 then .rdq n o else .nothing
  | _, some (n, o), _, _ => .wq n o
  | _, _, some (n, o), _ => .cq n o
  | _, _, _, some (n, o) => .win n o
  | _, _, _, _ => .nothing

/-- A function of the storage service: PF2, or a VF of it (R44). -/
def regStorage (vf : Bool) (off : Nat) : RegAt :=
  let qs := if vf then inRegion 0x1000 16 2048 off else inRegion 0x1000000 4096 2048 off
  let cs := if vf then inRegion 0x9000 16 128 off else inRegion 0x800000 4096 128 off
  match qs, cs with
  | some (n, o), _ => .stq n o
  | _, some (n, o) => .cq n o
  | _, _ => .nothing

/-- PF3: channel frames, each with its channel's CQ from 0x80 (R44, R123). -/
def regCopy (off : Nat) : RegAt :=
  match inRegion 0x10000 64 0x1000 off with
  | some (n, o) => if 0x80 ≤ o ∧ o < 0x100 then .cq n (o - 0x80) else .chan n o
  | none => .nothing

/-- The register of a function at an offset. -/
def regAt (f : FnRef) (off : Nat) : RegAt :=
  if off < 0x40 then .status off
  else if off < 0x60 then .ctl off
  else if f.num.val = 0 then regPf0 off
  else if fnPf f.num.val = 1 then regNet (4 ≤ f.num.val) off
  else if fnPf f.num.val = 2 then regStorage (4 ≤ f.num.val) off
  else regCopy off

/-! ### Queue frames -/

/-- The low dword of an address replaced, its low `z` bits zero (R10). -/
def setLo (x : BitVec 64) (v : BitVec 32) (z : Nat) : BitVec 64 :=
  BitVec.ofNat 64 (x.toNat / 2 ^ 32 * 2 ^ 32 + v.toNat / 2 ^ z * 2 ^ z)

/-- The high dword of an address replaced. -/
def setHi (x : BitVec 64) (v : BitVec 32) : BitVec 64 := BitVec.ofNat 64 (x.toNat % 2 ^ 32 + v.toNat * 2 ^ 32)

/-- BASE, CFG and SHADOW of a work queue, ignored while STATE is not DISABLED (R97, R98). -/
def Wq.setReg (w : Wq) (o : Nat) (v : BitVec 32) : Wq :=
  if w.st ≠ .disabled then w
  else if o = 0x000 then { w with base := setLo w.base v 12 }
  else if o = 0x004 then { w with base := setHi w.base v }
  else if o = 0x008 then { w with rx := bit v 20, logSize := fld v 16 4, cq := BitVec.ofNat 16 (fld v 0 16) }
  else if o = 0x00C then { w with shadow := setLo w.shadow v 3 }
  else if o = 0x010 then { w with shadow := setHi w.shadow v }
  else w

/-- A dword of a work queue's frame (R97): a dword of the push window is a unit written in part (R102), and the abort
registers act with WQ_ABORT. -/
def State.writeWq (s : State) (q : QRef) (o : Nat) (v : BitVec 32) : Out :=
  if o = 0x014 then (if bit v 0 then execWqEnable q s else execWqDisable q s)
  else if o = 0x018 then execWqDoorbell q (v.setWidth 16) s
  else if 0x100 ≤ o ∧ o < 0x200 then
    .next (s.onWq q fun k a => a.pushWrite k ((o - 0x100) / 64) (BitVec.ofNat 512 (v.toNat * 2 ^ (8 * (o % 64)))) false)
  else .next (s.onWq q fun k a => a.setQueue k ((a.queue k).setReg o v))

/-- xx_CQ_CFG and xx_CQ_MOD as they read (R99). -/
def Cq.cfgWord (c : Cq) : Nat := b2n c.irqEn * 2 ^ 20 + c.logSize * 65536 + c.vector
def Cq.modWord (c : Cq) : Nat := c.modTime * 65536 + c.modCount

/-- BASE, CFG, MOD and HEAD_ERR of a completion queue (R99, R100): BASE only while ENABLE is 0. -/
def Cq.setReg (c : Cq) (o : Nat) (v : BitVec 32) : Cq :=
  if o = 0x00 ∧ c.enable = false then { c with base := setLo c.base v 12 }
  else if o = 0x04 ∧ c.enable = false then { c with base := setHi c.base v }
  else if o = 0x08 then c.configure v (BitVec.ofNat 32 c.modWord)
  else if o = 0x0C then c.configure (BitVec.ofNat 32 c.cfgWord) v
  else if o = 0x18 ∧ bit v 18 then { c with headErr := false }
  else c

/-- A dword of a completion queue's frame (R99). -/
def State.writeCq (s : State) (q : QRef) (o : Nat) (v : BitVec 32) : Out :=
  if o = 0x10 then (if bit v 0 then execCqEnable q s else execCqDisable q s)
  else if o = 0x14 then execCqHeadWrite q (v.setWidth 16) s
  else .next (s.onCq q fun k a => a.setCq k ((a.cq k).setReg o v))

/-- CFG and SHADOW of a storage queue, ignored while STATE is not DISABLED (R317, R318). -/
def Stq.setReg (x : Stq) (o : Nat) (v : BitVec 32) : Stq :=
  if x.st ≠ .disabled then x
  else if o = 0x400 then { x with cls := fld v 18 2, cq := BitVec.ofNat 16 (fld v 0 16) }
  else if o = 0x404 then { x with shadow := setLo x.shadow v 3 }
  else if o = 0x408 then { x with shadow := setHi x.shadow v }
  else x

/-- A dword of a storage queue's frame (R317): a task register's dword 15 may commit it (R319). -/
def State.writeStq (s : State) (q : QRef) (o : Nat) (v : BitVec 32) : Out :=
  if o = 0x40C then (if bit v 0 then execStqEnable q s else execStqDisable q s)
  else if o < 0x400 then
    .next (s.onStq q fun k _ a => a.taskCommit k (o / 64) (setFld (mget (a.stq k).tasks (o / 64) 0) (8 * (o % 64)) 32 v.toNat))
  else .next (s.onStq q fun k _ a => a.setStq k ((a.stq k).setReg o v))

/-! ### Window registers, channels and doorbell blocks -/

/-- A window after a dword of its register is written (R293, R294). -/
def Win.setReg (x : Win) (o : Nat) (v : BitVec 32) : Win :=
  if o = 0x00 then x.setRange (setLo x.base v 0) x.len
  else if o = 0x04 then x.setRange (setHi x.base v) x.len
  else if o = 0x08 then x.setRange x.base (setFld x.len 0 32 v.toNat)
  else if o = 0x0C then x.setRange x.base (setFld x.len 32 8 v.toNat)
  else if o = 0x10 ∧ fld v 30 2 = 1 then x.openWith (BitVec.ofNat 3 v.toNat)
  else if o = 0x10 ∧ fld v 30 2 = 2 then x.revoke
  else if o = 0x14 ∧ bit v 2 then { x with cmdErr := false }
  else x

/-- A dword of a window register (R293). -/
def State.writeWin (s : State) (q : QRef) (o : Nat) (v : BitVec 32) : Out := .next (s.onWin q (·.setReg o v))

/-- The configuration of a channel, read at enable and ignored while STATE is not DISABLED (R123, R124). -/
def Chan.setReg (x : Chan) (o : Nat) (v : BitVec 32) : Chan :=
  if x.st ≠ .disabled then x
  else if o = 0x000 then { x with base := setLo x.base v 12 }
  else if o = 0x004 then { x with base := setHi x.base v }
  else if o = 0x008 then { x with paced := bit v 20, logSize := fld v 16 4 }
  else if o = 0x00C then { x with shadow := setLo x.shadow v 3 }
  else if o = 0x010 then { x with shadow := setHi x.shadow v }
  else if o = 0x02C then { x with watch := BitVec.ofNat 32 (fld v 24 2 * 2 ^ 24 + fld v 0 17) }
  else if o = 0x030 then { x with high := fld v 0 24 }
  else if o = 0x034 then { x with low := fld v 0 24 }
  else x

/-- A channel's number in its frame. -/
def chanNo (n : Nat) : Fin 64 := ⟨n % 64, Nat.mod_lt _ (by decide)⟩

/-- A dword of a channel's frame (R123); the abort registers act with CPY_ABORT. -/
def State.writeChan (s : State) (p : Fin 4) (n o : Nat) (v : BitVec 32) : Out :=
  let c := chanNo n
  if o = 0x014 then (if bit v 0 then execCpyEnable p c s else execCpyDisable p c s)
  else if o = 0x018 then execCpyDoorbell p c (v.setWidth 16) s
  else .next (s.onChan p c fun ch a => a.setChan ch ((a.chan ch).setReg o v))

/-- A dword of a doorbell block (R278): four bytes of a doorbell are ignored and counted (R279); a command comes whole, with
QP_MODIFY or QP_ABORT. -/
def State.writeRdq (s : State) (q : QRef) (o : Nat) : Out :=
  if o < 0x10 then .next (s.onBlock q fun a => a.rdqIgnored (fkey q.fn) (a.rdqBlock q).2) else .next s

/-! ### Function control, mailbox and fault registers (R47, R126, R401) -/

/-- The function control block of PF1, PF2 or a VF of them (R47). -/
def State.writeCtl (s : State) (f : FnRef) (o : Nat) (v : BitVec 32) : Out :=
  if o = 0x48 then execFaultSummaryClear f v s
  else
    .next (s.access (fkey f) fun a =>
      let x := a.fn (fkey f)
      if o = 0x40 then a.setFn (fkey f) { x with faultIrqEn := bit v 0 }
      else if o = 0x44 then a.setFn (fkey f) { x with faultVector := v.setWidth 11 }
      else if o = 0x58 ∧ f.num.val < 4 then a.setFn (fkey f) { x with frameSel := v.setWidth 19 }
      else a)

/-- The mailbox control registers (R401): IRQ_EN is set before GO acts. -/
def State.writeMbox (s : State) (p : Fin 4) (o : Nat) (v : BitVec 32) : Out :=
  if o = 0x40 then
    let s1 := s.statusAccess (fnKey p.val 0) fun a => a.setPort p.val { a.port p.val with mboxIrq := bit v 1 }
    if bit v 0 then execMboxGo p [] s1 else .next s1
  else
    .next (s.statusAccess (fnKey p.val 0) fun a =>
      if o = 0x44 ∧ bit v 1 then a.setPort p.val { a.port p.val with mboxDone := false } else a)

/-- A dword of the request buffer (R401). -/
def State.writeRequest (s : State) (p : Fin 4) (o : Nat) (v : BitVec 32) : Out :=
  .next (s.statusAccess (fnKey p.val 0) fun a =>
    let x := a.port p.val
    a.setPort p.val { x with mboxBuf := patch (fit 4096 x.mboxBuf) o (leBytes 4 v.toNat) })

/-- A dword of a control block, by function. -/
def State.writeBlock (s : State) (f : FnRef) (o : Nat) (v : BitVec 32) : Out :=
  if f.num.val = 0 then s.writeMbox f.port o v
  else if f.num.val = 3 then
    (if o < 0x50 then execCpyFaultClear f.port ⟨(o - 0x40) / 4 % 4, Nat.mod_lt _ (by decide)⟩ v s else .next s)
  else s.writeCtl f o v

/-- A dword of BAR0. -/
def State.writeBar0 (s : State) (f : FnRef) (off : Nat) (v : BitVec 32) : Out :=
  match regAt f off with
  | .ctl o => s.writeBlock f o v
  | .request o => s.writeRequest f.port o v
  | .wq n o => s.writeWq { fn := f, frame := n } o v
  | .cq n o => s.writeCq { fn := f, frame := n } o v
  | .stq n o => s.writeStq { fn := f, frame := n } o v
  | .win n o => s.writeWin { fn := f, frame := n } o v
  | .chan n o => s.writeChan f.port n o v
  | .rdq n o => s.writeRdq { fn := f, frame := n } o
  | .status _ => .next s
  | .answer _ => .next s
  | .nothing => .next s

/-! ### The MSI-X table (R44, R52) -/

/-- A dword of BAR2: the table, not the pending bits. -/
def State.writeBar2 (s : State) (f : FnRef) (off : Nat) (v : BitVec 32) : Out :=
  let e := off / 16
  if s.tableSize (fkey f) ≤ e then .next s
  else if off % 16 < 12 then
    .next (s.access (fkey f) fun a =>
      a.setFn (fkey f) { a.fn (fkey f) with msixTable := mset (a.fn (fkey f)).msixTable (off / 4) v 0 })
  else if bit v 0 then
    .next (s.access (fkey f) fun a => a.setFn (fkey f) { a.fn (fkey f) with unmasked := merase (a.fn (fkey f)).unmasked e })
  else
    .next (s.access (fkey f) fun a =>
      let b := a.setFn (fkey f) { a.fn (fkey f) with unmasked := mput (a.fn (fkey f)).unmasked e true }
      if (b.fn (fkey f)).msix ∧ (b.fn (fkey f)).fnMask = false then b.releaseVec (fkey f) e else b)

/-! ### Configuration space (R43, R50 to R63) -/

/-- The Completion Timeout of a code of Device Control 2, ns: a value within the code's range; the default is 30 ms (R43,
R55). -/
def ctoOf (code : Nat) : Nat :=
  let within := fun (lo hi : Nat) => lo + Config.ctoWithin code % (hi - lo + 1)
  if code = 1 then within 50000 100000
  else if code = 2 then within 1000000 10000000
  else if code = 5 then within 16000000 55000000
  else if code = 6 then within 65000000 210000000
  else if code = 9 then within 260000000 900000000
  else if code = 10 then within 1000000000 3500000000
  else if code = 13 then within 4000000000 13000000000
  else if code = 14 then within 17000000000 64000000000
  else 30000000

/-- PMCSR of a PF (R58, R60): PME_Status is cleared by a 1, PME_En set, then the power state changes. -/
def State.writePmcsr (s : State) (f : FnRef) (v : BitVec 32) : Out :=
  let s1 := s.config (fkey f) fun a =>
    let x := a.fn (fkey f)
    if f.num.val < 4 then a.setFn (fkey f) { x with pmeEn := bit v 8, pmeStatus := x.pmeStatus && !bit v 15 } else a
  if fld v 0 2 = 0 then execD0Return f s1 else if fld v 0 2 = 3 then execD3hotEntry f s1 else .next s1

/-- MSI or MSI-X control (R50 to R52): the vectors no longer masked by Function Mask are released. -/
def State.writeIrqCtl (s : State) (f : FnRef) (msi : Bool) (v : BitVec 32) : Out :=
  let x := s.fn (fkey f)
  if msi then .next (s.config (fkey f) fun a => a.irqEnable (fkey f) (bit v 16) x.msix (2 ^ fld v 20 3))
  else
    .next (s.config (fkey f) fun a =>
      let b := a.setFn (fkey f) { a.fn (fkey f) with fnMask := bit v 30 }
      let c := b.irqEnable (fkey f) x.msi (bit v 31) x.msiVectors
      if bit v 30 ∨ bit v 31 = false then c else c.releaseAll (fkey f))

/-- The MSI mask register (R52). -/
def State.writeMsiMask (s : State) (f : FnRef) (v : BitVec 32) : Out :=
  .next (s.config (fkey f) fun a =>
    if f.num.val < 4 then
      let b := a.setFn (fkey f) { a.fn (fkey f) with msiMask := v }
      if (b.fn (fkey f)).msi ∧ (b.fn (fkey f)).msix = false then b.releaseAll (fkey f) else b
    else a)

/-- Device Control 2: the completion timeout and 10-Bit Tag Requester Enable (R54, R55). -/
def State.writeDevCtl2 (s : State) (f : FnRef) (v : BitVec 32) : Out :=
  .next (s.config (fkey f) fun a =>
    a.setFn (fkey f) { a.fn (fkey f) with ctoNs := ctoOf (fld v 0 4), tag10 := bit v 12 })

/-- Another register of the configuration space is kept as written. -/
def State.writeRaw (s : State) (f : FnRef) (off : Nat) (v : BitVec 32) : State :=
  s.config (fkey f) fun a => a.setFn (fkey f) { a.fn (fkey f) with cfg := mset (a.fn (fkey f)).cfg (off / 4) v 0 }

/-- A dword of the configuration space, at the capability offsets of R43. -/
def State.writeConfig (s : State) (f : FnRef) (off : Nat) (v : BitVec 32) : Out :=
  if off = 0x004 then (if bit v 2 then execBmeSet f s else execBmeClear f s)
  else if off = 0x044 then s.writePmcsr f v
  else if off = 0x050 then s.writeIrqCtl f true v
  else if off = 0x060 then s.writeMsiMask f v
  else if off = 0x078 ∧ bit v 15 then execFlrInitiate f s
  else if off = 0x098 then s.writeDevCtl2 f v
  else if off = 0x0B0 then s.writeIrqCtl f false v
  else if off = 0x158 ∧ (f.num.val = 1 ∨ f.num.val = 2) then
    (if bit v 0 then .next (s.config (fkey f) fun a => a.setFn (fkey f) { a.fn (fkey f) with vfEnable := true })
     else execVfEnableClear f s)
  else if off = 0x400 then .next (s.config (fkey f) fun a => a.setFn (fkey f) { a.fn (fkey f) with tag14 := bit v 1 })
  else .next (s.writeRaw f off v)

/-- RW_REGISTER_WRITE (R7): a dword written at an offset of BAR0 (0), BAR2 (1) or the configuration space (2); an offset that
is not a dword's is no access of the register map. -/
def execRwRegisterWrite (f : FnRef) (space : Fin 3) (off : Nat) (v : BitVec 32) (s : State) : Out :=
  if off % 4 ≠ 0 then .next s
  else if space = 0 then s.writeBar0 f off v
  else if space = 1 then s.writeBar2 f off v
  else s.writeConfig f off v

end Sys2Proof.Machine
end

