-- ==== Sys2Proof/Machine/Dispatch.lean ====
section
/-! DEFINITION. One arm for each command, each a direct call of its meaning. -/

namespace Sys2Proof.Machine
open Sys2Proof

def exec (i : Instr) (s : State) : Host.Outcome State Fault Refusal :=
  match i with
  | .vinRise mv => Sys2Proof.Machine.execVinRise mv s
  | .vinDip mv => Sys2Proof.Machine.execVinDip mv s
  | .pwrgoodRisePornHigh straps => Sys2Proof.Machine.execPwrgoodRisePornHigh straps s
  | .pornRelease straps => Sys2Proof.Machine.execPornRelease straps s
  | .payloadHashCheck pass => Sys2Proof.Machine.execPayloadHashCheck pass s
  | .pornAssert orderly => Sys2Proof.Machine.execPornAssert orderly s
  | .governorSample h deciC => Sys2Proof.Machine.execGovernorSample h deciC s
  | .lifeRecordHourly => Sys2Proof.Machine.execLifeRecordHourly s
  | .thermalStop h => Sys2Proof.Machine.execThermalStop h s
  | .paceModeWrite w v => Sys2Proof.Machine.execPaceModeWrite w v s
  | .perstAssert p => Sys2Proof.Machine.execPerstAssert p s
  | .linkDlDown p => Sys2Proof.Machine.execLinkDlDown p s
  | .linkDlUp p rate width flit => Sys2Proof.Machine.execLinkDlUp p rate width flit s
  | .bmeClear f => Sys2Proof.Machine.execBmeClear f s
  | .bmeSet f => Sys2Proof.Machine.execBmeSet f s
  | .flrInitiate f => Sys2Proof.Machine.execFlrInitiate f s
  | .flrDone f => Sys2Proof.Machine.execFlrDone f s
  | .d3hotEntry f => Sys2Proof.Machine.execD3hotEntry f s
  | .d0Return f => Sys2Proof.Machine.execD0Return f s
  | .vfEnableClear f => Sys2Proof.Machine.execVfEnableClear f s
  | .interruptEnableChange f msi msix vectors => Sys2Proof.Machine.execInterruptEnableChange f msi msix vectors s
  | .vectorUnmask f v => Sys2Proof.Machine.execVectorUnmask f v s
  | .pmeRetry f => Sys2Proof.Machine.execPmeRetry f s
  | .pmeStatusClear f => Sys2Proof.Machine.execPmeStatusClear f s
  | .completionArrival p tag st => Sys2Proof.Machine.execCompletionArrival p tag st s
  | .completionTimeout p tag => Sys2Proof.Machine.execCompletionTimeout p tag s
  | .tagQuarantineExpiry p tag => Sys2Proof.Machine.execTagQuarantineExpiry p tag s
  | .ideIntegrityFail p stream => Sys2Proof.Machine.execIdeIntegrityFail p stream s
  | .ideKmSetup p stream key => Sys2Proof.Machine.execIdeKmSetup p stream key s
  | .spdmGetVersion p => Sys2Proof.Machine.execSpdmGetVersion p s
  | .spdmGetCapabilities p => Sys2Proof.Machine.execSpdmGetCapabilities p s
  | .spdmNegotiateAlgorithms p => Sys2Proof.Machine.execSpdmNegotiateAlgorithms p s
  | .spdmGetDigests p => Sys2Proof.Machine.execSpdmGetDigests p s
  | .spdmGetCertificate p off len => Sys2Proof.Machine.execSpdmGetCertificate p off len s
  | .spdmChallenge p nonce => Sys2Proof.Machine.execSpdmChallenge p nonce s
  | .spdmGetMeasurements p index => Sys2Proof.Machine.execSpdmGetMeasurements p index s
  | .spdmKeyExchange p share => Sys2Proof.Machine.execSpdmKeyExchange p share s
  | .spdmFinish p verify => Sys2Proof.Machine.execSpdmFinish p verify s
  | .spdmHeartbeat p => Sys2Proof.Machine.execSpdmHeartbeat p s
  | .spdmKeyUpdate p => Sys2Proof.Machine.execSpdmKeyUpdate p s
  | .spdmEndSession p => Sys2Proof.Machine.execSpdmEndSession p s
  | .mgmtTimeLoRead p => Sys2Proof.Machine.execMgmtTimeLoRead p s
  | .lateCplRead f => Sys2Proof.Machine.execLateCplRead f s
  | .faultSummaryClear f v => Sys2Proof.Machine.execFaultSummaryClear f v s
  | .sliceCreate w rec => Sys2Proof.Machine.execSliceCreate w rec s
  | .sliceEnable w rec => Sys2Proof.Machine.execSliceEnable w rec s
  | .sliceDisable w rec => Sys2Proof.Machine.execSliceDisable w rec s
  | .sliceReset w rec => Sys2Proof.Machine.execSliceReset w rec s
  | .sliceDestroy w rec => Sys2Proof.Machine.execSliceDestroy w rec s
  | .sliceSetQos w rec => Sys2Proof.Machine.execSliceSetQos w rec s
  | .sliceCmdDequeue => Sys2Proof.Machine.execSliceCmdDequeue s
  | .sliceCntClear w v => Sys2Proof.Machine.execSliceCntClear w v s
  | .pfCntClear w v => Sys2Proof.Machine.execPfCntClear w v s
  | .wqDoorbell q pi => Sys2Proof.Machine.execWqDoorbell q pi s
  | .wqPushWrite q unit data full => Sys2Proof.Machine.execWqPushWrite q unit data full s
  | .wqEnable q => Sys2Proof.Machine.execWqEnable q s
  | .wqDisable q => Sys2Proof.Machine.execWqDisable q s
  | .wqFetch wq slots => Sys2Proof.Machine.execWqFetch wq slots s
  | .malformedEntry wq => Sys2Proof.Machine.execMalformedEntry wq s
  | .nopEntry wq canWrite => Sys2Proof.Machine.execNopEntry wq canWrite s
  | .ethSendEntry wq frame canWrite => Sys2Proof.Machine.execEthSendEntry wq frame canWrite s
  | .xportRxDeliver h canWrite => Sys2Proof.Machine.execXportRxDeliver h canWrite s
  | .blotterTimeDue cq => Sys2Proof.Machine.execBlotterTimeDue cq s
  | .sliceIntervalEnd id => Sys2Proof.Machine.execSliceIntervalEnd id s
  | .cqHeadWrite q v => Sys2Proof.Machine.execCqHeadWrite q v s
  | .cqEnable q => Sys2Proof.Machine.execCqEnable q s
  | .cqDisable q => Sys2Proof.Machine.execCqDisable q s
  | .cqCfgWrite q cfg md => Sys2Proof.Machine.execCqCfgWrite q cfg md s
  | .cqNoslotRead q => Sys2Proof.Machine.execCqNoslotRead q s
  | .wqMalformedRead q => Sys2Proof.Machine.execWqMalformedRead q s
  | .wqDbIgnoredRead q => Sys2Proof.Machine.execWqDbIgnoredRead q s
  | .wqAbort q index tag abortTag => Sys2Proof.Machine.execWqAbort q index tag abortTag s
  | .cpyDoorbell p c pi => Sys2Proof.Machine.execCpyDoorbell p c pi s
  | .cpyEnable p c => Sys2Proof.Machine.execCpyEnable p c s
  | .cpyDisable p c => Sys2Proof.Machine.execCpyDisable p c s
  | .cpyFetch p c slot => Sys2Proof.Machine.execCpyFetch p c slot s
  | .copyDesc p c src => Sys2Proof.Machine.execCopyDesc p c src s
  | .fillDesc p c => Sys2Proof.Machine.execFillDesc p c s
  | .compareDesc p c a b => Sys2Proof.Machine.execCompareDesc p c a b s
  | .chainHopFetch p c desc => Sys2Proof.Machine.execChainHopFetch p c desc s
  | .descEnd p c canWrite => Sys2Proof.Machine.execDescEnd p c canWrite s
  | .cpyGateEval p c => Sys2Proof.Machine.execCpyGateEval p c s
  | .cpyAbort p c index tag abortTag => Sys2Proof.Machine.execCpyAbort p c index tag abortTag s
  | .cpyFaultClear p r v => Sys2Proof.Machine.execCpyFaultClear p r v s
  | .cpyChMalformedRead p c => Sys2Proof.Machine.execCpyChMalformedRead p c s
  | .cpyChDbIgnoredRead p c => Sys2Proof.Machine.execCpyChDbIgnoredRead p c s
  | .arbiterDecision kind inst arrivals ended => Sys2Proof.Machine.execArbiterDecision kind inst arrivals ended s
  | .reqPriorityWrite w v => Sys2Proof.Machine.execReqPriorityWrite w v s
  | .arbClear w v => Sys2Proof.Machine.execArbClear w v s
  | .portModeWrite w n v => Sys2Proof.Machine.execPortModeWrite w n v s
  | .portLinkUp n an => Sys2Proof.Machine.execPortLinkUp n an s
  | .portLinkLoss n remote loc => Sys2Proof.Machine.execPortLinkLoss n remote loc s
  | .frameReceive n bytes fcsOk fecOk => Sys2Proof.Machine.execFrameReceive n bytes fcsOk fecOk s
  | .pauseFrameReceive n quanta => Sys2Proof.Machine.execPauseFrameReceive n quanta s
  | .pfcFrameReceive n mask quanta => Sys2Proof.Machine.execPfcFrameReceive n mask quanta s
  | .pauseExpiry n prio => Sys2Proof.Machine.execPauseExpiry n prio s
  | .pfcXoffRepeat n prio => Sys2Proof.Machine.execPfcXoffRepeat n prio s
  | .pfcStorm n prio => Sys2Proof.Machine.execPfcStorm n prio s
  | .frameTransmit n => Sys2Proof.Machine.execFrameTransmit n s
  | .mgmtFrameReceive h kind len => Sys2Proof.Machine.execMgmtFrameReceive h kind len s
  | .tbRateWrite w v => Sys2Proof.Machine.execTbRateWrite w v s
  | .tbAdjustWrite w v => Sys2Proof.Machine.execTbAdjustWrite w v s
  | .portCntClear w v => Sys2Proof.Machine.execPortCntClear w v s
  | .macsecRx n icvOk => Sys2Proof.Machine.execMacsecRx n icvOk s
  | .macsecTxAssign n => Sys2Proof.Machine.execMacsecTxAssign n s
  | .espOutApply h => Sys2Proof.Machine.execEspOutApply h s
  | .laneFailure h inside => Sys2Proof.Machine.execLaneFailure h inside s
  | .saInstall w rec => Sys2Proof.Machine.execSaInstall w rec s
  | .saDelete w rec => Sys2Proof.Machine.execSaDelete w rec s
  | .saChange w rec => Sys2Proof.Machine.execSaChange w rec s
  | .saFenceEnd h slot => Sys2Proof.Machine.execSaFenceEnd h slot s
  | .macsecConfigWrite w n rec => Sys2Proof.Machine.execMacsecConfigWrite w n rec s
  | .hardenWrite w v => Sys2Proof.Machine.execHardenWrite w v s
  | .cipherCntClear w v => Sys2Proof.Machine.execCipherCntClear w v s
  | .pipelineEntry h => Sys2Proof.Machine.execPipelineEntry h s
  | .orderedRelease h stream => Sys2Proof.Machine.execOrderedRelease h stream s
  | .stageRecordWrite w rec => Sys2Proof.Machine.execStageRecordWrite w rec s
  | .commitWrite w v => Sys2Proof.Machine.execCommitWrite w v s
  | .commitSwap h => Sys2Proof.Machine.execCommitSwap h s
  | .commitTimeout => Sys2Proof.Machine.execCommitTimeout s
  | .stageDiscard w v => Sys2Proof.Machine.execStageDiscard w v s
  | .clsCntClear w v => Sys2Proof.Machine.execClsCntClear w v s
  | .txSteerWrite w rec => Sys2Proof.Machine.execTxSteerWrite w rec s
  | .tmgrAdmit h => Sys2Proof.Machine.execTmgrAdmit h s
  | .hostqSend h => Sys2Proof.Machine.execHostqSend h s
  | .schedSend n => Sys2Proof.Machine.execSchedSend n s
  | .bucketRefill h level node => Sys2Proof.Machine.execBucketRefill h level node s
  | .nodeRecordWrite w rec => Sys2Proof.Machine.execNodeRecordWrite w rec s
  | .attachWrite w rec => Sys2Proof.Machine.execAttachWrite w rec s
  | .queueProfileWrite w rec => Sys2Proof.Machine.execQueueProfileWrite w rec s
  | .pfcThreshWrite w n rec => Sys2Proof.Machine.execPfcThreshWrite w n rec s
  | .policerWrite w rec => Sys2Proof.Machine.execPolicerWrite w rec s
  | .tmCntClear w v => Sys2Proof.Machine.execTmCntClear w v s
  | .frameDeliver u cls => Sys2Proof.Machine.execFrameDeliver u cls s
  | .add t rd ra rb => Sys2Proof.Machine.execAdd t rd ra rb s
  | .sub t rd ra rb => Sys2Proof.Machine.execSub t rd ra rb s
  | .and t rd ra rb => Sys2Proof.Machine.execAnd t rd ra rb s
  | .or t rd ra rb => Sys2Proof.Machine.execOr t rd ra rb s
  | .xor t rd ra rb => Sys2Proof.Machine.execXor t rd ra rb s
  | .andn t rd ra rb => Sys2Proof.Machine.execAndn t rd ra rb s
  | .sll t rd ra rb => Sys2Proof.Machine.execSll t rd ra rb s
  | .srl t rd ra rb => Sys2Proof.Machine.execSrl t rd ra rb s
  | .sra t rd ra rb => Sys2Proof.Machine.execSra t rd ra rb s
  | .rol t rd ra rb => Sys2Proof.Machine.execRol t rd ra rb s
  | .slt t rd ra rb => Sys2Proof.Machine.execSlt t rd ra rb s
  | .sltu t rd ra rb => Sys2Proof.Machine.execSltu t rd ra rb s
  | .mul t rd ra rb => Sys2Proof.Machine.execMul t rd ra rb s
  | .mulhu t rd ra rb => Sys2Proof.Machine.execMulhu t rd ra rb s
  | .min t rd ra rb => Sys2Proof.Machine.execMin t rd ra rb s
  | .max t rd ra rb => Sys2Proof.Machine.execMax t rd ra rb s
  | .clz t rd ra rb => Sys2Proof.Machine.execClz t rd ra rb s
  | .popc t rd ra rb => Sys2Proof.Machine.execPopc t rd ra rb s
  | .bswap t rd ra rb => Sys2Proof.Machine.execBswap t rd ra rb s
  | .crc32c t rd ra rb => Sys2Proof.Machine.execCrc32c t rd ra rb s
  | .addi t rd ra imm => Sys2Proof.Machine.execAddi t rd ra imm s
  | .andi t rd ra imm => Sys2Proof.Machine.execAndi t rd ra imm s
  | .ori t rd ra imm => Sys2Proof.Machine.execOri t rd ra imm s
  | .xori t rd ra imm => Sys2Proof.Machine.execXori t rd ra imm s
  | .slli t rd ra imm => Sys2Proof.Machine.execSlli t rd ra imm s
  | .srli t rd ra imm => Sys2Proof.Machine.execSrli t rd ra imm s
  | .srai t rd ra imm => Sys2Proof.Machine.execSrai t rd ra imm s
  | .slti t rd ra imm => Sys2Proof.Machine.execSlti t rd ra imm s
  | .sltiu t rd ra imm => Sys2Proof.Machine.execSltiu t rd ra imm s
  | .lui t rd ra imm => Sys2Proof.Machine.execLui t rd ra imm s
  | .shori t rd ra imm => Sys2Proof.Machine.execShori t rd ra imm s
  | .ext t rd ra imm => Sys2Proof.Machine.execExt t rd ra imm s
  | .ins t rd ra imm => Sys2Proof.Machine.execIns t rd ra imm s
  | .lb t rd ra imm => Sys2Proof.Machine.execLb t rd ra imm s
  | .lh t rd ra imm => Sys2Proof.Machine.execLh t rd ra imm s
  | .lw t rd ra imm => Sys2Proof.Machine.execLw t rd ra imm s
  | .ld t rd ra imm => Sys2Proof.Machine.execLd t rd ra imm s
  | .sb t rd ra imm => Sys2Proof.Machine.execSb t rd ra imm s
  | .sh t rd ra imm => Sys2Proof.Machine.execSh t rd ra imm s
  | .sw t rd ra imm => Sys2Proof.Machine.execSw t rd ra imm s
  | .sd t rd ra imm => Sys2Proof.Machine.execSd t rd ra imm s
  | .atomAdd t rd ra rb => Sys2Proof.Machine.execAtomAdd t rd ra rb s
  | .atomSwap t rd ra rb => Sys2Proof.Machine.execAtomSwap t rd ra rb s
  | .atomCas t rd ra rb => Sys2Proof.Machine.execAtomCas t rd ra rb s
  | .atomOr t rd ra rb => Sys2Proof.Machine.execAtomOr t rd ra rb s
  | .atomAnd t rd ra rb => Sys2Proof.Machine.execAtomAnd t rd ra rb s
  | .beq t ra rb off => Sys2Proof.Machine.execBeq t ra rb off s
  | .bne t ra rb off => Sys2Proof.Machine.execBne t ra rb off s
  | .blt t ra rb off => Sys2Proof.Machine.execBlt t ra rb off s
  | .bge t ra rb off => Sys2Proof.Machine.execBge t ra rb off s
  | .bltu t ra rb off => Sys2Proof.Machine.execBltu t ra rb off s
  | .bgeu t ra rb off => Sys2Proof.Machine.execBgeu t ra rb off s
  | .j t off => Sys2Proof.Machine.execJ t off s
  | .call t off => Sys2Proof.Machine.execCall t off s
  | .jr t rd ra rb => Sys2Proof.Machine.execJr t rd ra rb s
  | .wfe t rd ra rb => Sys2Proof.Machine.execWfe t rd ra rb s
  | .sig t rd ra rb => Sys2Proof.Machine.execSig t rd ra rb s
  | .timer t rd ra rb => Sys2Proof.Machine.execTimer t rd ra rb s
  | .time t rd ra rb => Sys2Proof.Machine.execTime t rd ra rb s
  | .self t rd ra rb => Sys2Proof.Machine.execSelf t rd ra rb s
  | .fence t rd ra rb => Sys2Proof.Machine.execFence t rd ra rb s
  | .stop t rd ra rb => Sys2Proof.Machine.execStop t rd ra rb s
  | .brk t rd ra rb => Sys2Proof.Machine.execBrk t rd ra rb s
  | .tr t rd ra rb => Sys2Proof.Machine.execTr t rd ra rb s
  | .pendForward t rd ra rb => Sys2Proof.Machine.execPendForward t rd ra rb s
  | .pendDrop t rd ra rb => Sys2Proof.Machine.execPendDrop t rd ra rb s
  | .pendException t rd ra rb => Sys2Proof.Machine.execPendException t rd ra rb s
  | .plen t rd ra rb => Sys2Proof.Machine.execPlen t rd ra rb s
  | .tq t rd ra imm => Sys2Proof.Machine.execTq t rd ra imm s
  | .chw t rd ra rb => Sys2Proof.Machine.execChw t rd ra rb s
  | .chc t rd ra rb => Sys2Proof.Machine.execChc t rd ra rb s
  | .chr t rd ra rb => Sys2Proof.Machine.execChr t rd ra rb s
  | .chwatch t rd ra rb => Sys2Proof.Machine.execChwatch t rd ra rb s
  | .chx t rd ra rb => Sys2Proof.Machine.execChx t rd ra rb s
  | .lacq t rd ra rb => Sys2Proof.Machine.execLacq t rd ra rb s
  | .ltry t rd ra rb => Sys2Proof.Machine.execLtry t rd ra rb s
  | .lrel t rd ra rb => Sys2Proof.Machine.execLrel t rd ra rb s
  | .lmov t rd ra rb => Sys2Proof.Machine.execLmov t rd ra rb s
  | .csubCopy t rd ra imm => Sys2Proof.Machine.execCsubCopy t rd ra imm s
  | .csubEspOut t rd ra imm => Sys2Proof.Machine.execCsubEspOut t rd ra imm s
  | .csubEspIn t rd ra imm => Sys2Proof.Machine.execCsubEspIn t rd ra imm s
  | .tblResultReady t => Sys2Proof.Machine.execTblResultReady t s
  | .cipherSubmitEnd t icvOk => Sys2Proof.Machine.execCipherSubmitEnd t icvOk s
  | .copySubmitEnd t => Sys2Proof.Machine.execCopySubmitEnd t s
  | .threadTimerFire t => Sys2Proof.Machine.execThreadTimerFire t s
  | .stalemate u => Sys2Proof.Machine.execStalemate u s
  | .nibDrainLimit u => Sys2Proof.Machine.execNibDrainLimit u s
  | .loadDataWrite w data => Sys2Proof.Machine.execLoadDataWrite w data s
  | .loadBegin w => Sys2Proof.Machine.execLoadBegin w s
  | .loadVerify w => Sys2Proof.Machine.execLoadVerify w s
  | .loadInstall w => Sys2Proof.Machine.execLoadInstall w s
  | .loadInstallDone => Sys2Proof.Machine.execLoadInstallDone s
  | .loadCancel w => Sys2Proof.Machine.execLoadCancel w s
  | .dbgHalt w => Sys2Proof.Machine.execDbgHalt w s
  | .dbgResume w => Sys2Proof.Machine.execDbgResume w s
  | .dbgStep w => Sys2Proof.Machine.execDbgStep w s
  | .dbgReset w => Sys2Proof.Machine.execDbgReset w s
  | .dbgArm w => Sys2Proof.Machine.execDbgArm w s
  | .dbgDisarm w => Sys2Proof.Machine.execDbgDisarm w s
  | .rdqSqDoorbell q qp pi wide => Sys2Proof.Machine.execRdqSqDoorbell q qp pi wide s
  | .rdqRqDoorbell q qp pi wide => Sys2Proof.Machine.execRdqRqDoorbell q qp pi wide s
  | .qpModify q rec => Sys2Proof.Machine.execQpModify q rec s
  | .qpAbort q rec => Sys2Proof.Machine.execQpAbort q rec s
  | .rdqDbIgnoredRead q => Sys2Proof.Machine.execRdqDbIgnoredRead q s
  | .rdmaSend qp data => Sys2Proof.Machine.execRdmaSend qp data s
  | .rdmaSendImm qp data => Sys2Proof.Machine.execRdmaSendImm qp data s
  | .rdmaWrite qp data => Sys2Proof.Machine.execRdmaWrite qp data s
  | .rdmaWriteImm qp data => Sys2Proof.Machine.execRdmaWriteImm qp data s
  | .rdmaRead qp => Sys2Proof.Machine.execRdmaRead qp s
  | .rdmaCas qp => Sys2Proof.Machine.execRdmaCas qp s
  | .rdmaFadd qp => Sys2Proof.Machine.execRdmaFadd qp s
  | .roceReceive h pkt => Sys2Proof.Machine.execRoceReceive h pkt s
  | .qpContextFetchDone qp ok => Sys2Proof.Machine.execQpContextFetchDone qp ok s
  | .parkTimeout qp => Sys2Proof.Machine.execParkTimeout qp s
  | .roceResponseReceive h resp => Sys2Proof.Machine.execRoceResponseReceive h resp s
  | .ackTimeout qp => Sys2Proof.Machine.execAckTimeout qp s
  | .rnrTimerExpiry qp => Sys2Proof.Machine.execRnrTimerExpiry qp s
  | .cnpReceive h qp => Sys2Proof.Machine.execCnpReceive h qp s
  | .ccWindowEnd h => Sys2Proof.Machine.execCcWindowEnd h s
  | .winOpen q rights => Sys2Proof.Machine.execWinOpen q rights s
  | .winRevoke q => Sys2Proof.Machine.execWinRevoke q s
  | .winRevokeDone win => Sys2Proof.Machine.execWinRevokeDone win s
  | .winBaseLenWrite q base len => Sys2Proof.Machine.execWinBaseLenWrite q base len s
  | .rdmaCntClear w v => Sys2Proof.Machine.execRdmaCntClear w v s
  | .stqTaskCommit q task cmd => Sys2Proof.Machine.execStqTaskCommit q task cmd s
  | .stqCmdAccept stq => Sys2Proof.Machine.execStqCmdAccept stq s
  | .storageRead stq => Sys2Proof.Machine.execStorageRead stq s
  | .storageWrite stq data => Sys2Proof.Machine.execStorageWrite stq data s
  | .storageFlush stq => Sys2Proof.Machine.execStorageFlush stq s
  | .storageDeallocate stq => Sys2Proof.Machine.execStorageDeallocate stq s
  | .storageWriteZeroes stq => Sys2Proof.Machine.execStorageWriteZeroes stq s
  | .storageCompare stq data => Sys2Proof.Machine.execStorageCompare stq data s
  | .storageCmdComplete stq seq canWrite => Sys2Proof.Machine.execStorageCmdComplete stq seq canWrite s
  | .freezeWaitExpiry stq seq => Sys2Proof.Machine.execFreezeWaitExpiry stq seq s
  | .lockedWaitExpiry stq seq => Sys2Proof.Machine.execLockedWaitExpiry stq seq s
  | .nsCreate src => Sys2Proof.Machine.execNsCreate src s
  | .nsDelete src => Sys2Proof.Machine.execNsDelete src s
  | .nsAttach src => Sys2Proof.Machine.execNsAttach src s
  | .nsDetach src => Sys2Proof.Machine.execNsDetach src s
  | .nsFormat src => Sys2Proof.Machine.execNsFormat src s
  | .logReadPage stq => Sys2Proof.Machine.execLogReadPage stq s
  | .featureGet stq => Sys2Proof.Machine.execFeatureGet stq s
  | .featureSet stq => Sys2Proof.Machine.execFeatureSet stq s
  | .queueResume stq => Sys2Proof.Machine.execQueueResume stq s
  | .queueReset stq => Sys2Proof.Machine.execQueueReset stq s
  | .storageAbort stq => Sys2Proof.Machine.execStorageAbort stq s
  | .stqEnable q => Sys2Proof.Machine.execStqEnable q s
  | .stqDisable q => Sys2Proof.Machine.execStqDisable q s
  | .stqTaskIgnoredRead q => Sys2Proof.Machine.execStqTaskIgnoredRead q s
  | .stqMalformedRead q => Sys2Proof.Machine.execStqMalformedRead q s
  | .driveSurpriseRemoval d => Sys2Proof.Machine.execDriveSurpriseRemoval d s
  | .driveAdmit w => Sys2Proof.Machine.execDriveAdmit w s
  | .driveRetire w => Sys2Proof.Machine.execDriveRetire w s
  | .nsKeyWrite w rec => Sys2Proof.Machine.execNsKeyWrite w rec s
  | .mapRebuildDone nsid => Sys2Proof.Machine.execMapRebuildDone nsid s
  | .stqCntClear w v => Sys2Proof.Machine.execStqCntClear w v s
  | .dramLineRead c line err user => Sys2Proof.Machine.execDramLineRead c line err user s
  | .rowRepair c row resource => Sys2Proof.Machine.execRowRepair c row resource s
  | .patrolScrub c err => Sys2Proof.Machine.execPatrolScrub c err s
  | .refresh c rank => Sys2Proof.Machine.execRefresh c rank s
  | .dimmSensorPoll c tempC => Sys2Proof.Machine.execDimmSensorPoll c tempC s
  | .dqsTrack c => Sys2Proof.Machine.execDqsTrack c s
  | .channelRetrain c => Sys2Proof.Machine.execChannelRetrain c s
  | .freqCmdSetA w => Sys2Proof.Machine.execFreqCmdSetA w s
  | .freqCmdSetB w => Sys2Proof.Machine.execFreqCmdSetB w s
  | .channelFreqSwitch c => Sys2Proof.Machine.execChannelFreqSwitch c s
  | .channelFreqSwitchDone c darkNs => Sys2Proof.Machine.execChannelFreqSwitchDone c darkNs s
  | .memCntClear w v => Sys2Proof.Machine.execMemCntClear w v s
  | .imgDataWrite w data => Sys2Proof.Machine.execImgDataWrite w data s
  | .imgBegin w => Sys2Proof.Machine.execImgBegin w s
  | .imgVerify w => Sys2Proof.Machine.execImgVerify w s
  | .imgArm w => Sys2Proof.Machine.execImgArm w s
  | .imgActivate w => Sys2Proof.Machine.execImgActivate w s
  | .imgCancel w => Sys2Proof.Machine.execImgCancel w s
  | .handoverComplete => Sys2Proof.Machine.execHandoverComplete s
  | .confirmWrite w v => Sys2Proof.Machine.execConfirmWrite w v s
  | .trialWatchdogExpiry => Sys2Proof.Machine.execTrialWatchdogExpiry s
  | .keyProgramWrite w rec => Sys2Proof.Machine.execKeyProgramWrite w rec s
  | .revokeWrite w v => Sys2Proof.Machine.execRevokeWrite w v s
  | .floorRaiseWrite w v => Sys2Proof.Machine.execFloorRaiseWrite w v s
  | .debugCloseProgram w => Sys2Proof.Machine.execDebugCloseProgram w s
  | .debugCloseVendor w => Sys2Proof.Machine.execDebugCloseVendor w s
  | .debugCloseBoth w => Sys2Proof.Machine.execDebugCloseBoth w s
  | .kwkWrite w key => Sys2Proof.Machine.execKwkWrite w key s
  | .synrokFrameReceive h peer msg => Sys2Proof.Machine.execSynrokFrameReceive h peer msg s
  | .mctpMessageReceive h medium eid msg => Sys2Proof.Machine.execMctpMessageReceive h medium eid msg s
  | .mctpSetEndpointId h medium eid => Sys2Proof.Machine.execMctpSetEndpointId h medium eid s
  | .mctpGetEndpointId h medium => Sys2Proof.Machine.execMctpGetEndpointId h medium s
  | .mctpGetVersionSupport h medium => Sys2Proof.Machine.execMctpGetVersionSupport h medium s
  | .mctpGetMessageTypeSupport h medium => Sys2Proof.Machine.execMctpGetMessageTypeSupport h medium s
  | .mctpGetVendorMsgSupport h medium => Sys2Proof.Machine.execMctpGetVendorMsgSupport h medium s
  | .mboxGo p msg => Sys2Proof.Machine.execMboxGo p msg s
  | .mboxResponseDone p => Sys2Proof.Machine.execMboxResponseDone p s
  | .mboxIgnoredRead p => Sys2Proof.Machine.execMboxIgnoredRead p s
  | .dictReadRequest w index sub => Sys2Proof.Machine.execDictReadRequest w index sub s
  | .dictWriteGeneric w index sub data => Sys2Proof.Machine.execDictWriteGeneric w index sub data s
  | .sessionIdleExpiry sess => Sys2Proof.Machine.execSessionIdleExpiry sess s
  | .storeCommit w => Sys2Proof.Machine.execStoreCommit w s
  | .storeDefaults w => Sys2Proof.Machine.execStoreDefaults w s
  | .profileDataWrite w data => Sys2Proof.Machine.execProfileDataWrite w data s
  | .profileBegin w => Sys2Proof.Machine.execProfileBegin w s
  | .profileVerify w => Sys2Proof.Machine.execProfileVerify w s
  | .profileApply w => Sys2Proof.Machine.execProfileApply w s
  | .profileCancel w => Sys2Proof.Machine.execProfileCancel w s
  | .calDataWrite w block data => Sys2Proof.Machine.execCalDataWrite w block data s
  | .calCommit w => Sys2Proof.Machine.execCalCommit w s
  | .calRevert w => Sys2Proof.Machine.execCalRevert w s
  | .authKeyWrite w n rec => Sys2Proof.Machine.execAuthKeyWrite w n rec s
  | .mgmtNetWrite w h rec => Sys2Proof.Machine.execMgmtNetWrite w h rec s
  | .unitDrain w u => Sys2Proof.Machine.execUnitDrain w u s
  | .unitDrainForce w u => Sys2Proof.Machine.execUnitDrainForce w u s
  | .unitReturn w u => Sys2Proof.Machine.execUnitReturn w u s
  | .unitPowerOff w u => Sys2Proof.Machine.execUnitPowerOff w u s
  | .unitPowerOn w u => Sys2Proof.Machine.execUnitPowerOn w u s
  | .unitDrainDone u => Sys2Proof.Machine.execUnitDrainDone u s
  | .unitReturnDone u => Sys2Proof.Machine.execUnitReturnDone u s
  | .selftestDone u pass => Sys2Proof.Machine.execSelftestDone u pass s
  | .transitionOverrun u => Sys2Proof.Machine.execTransitionOverrun u s
  | .rotationVisitStart h => Sys2Proof.Machine.execRotationVisitStart h s
  | .correctedFault u engine cell => Sys2Proof.Machine.execCorrectedFault u engine cell s
  | .engineFailure u kind => Sys2Proof.Machine.execEngineFailure u kind s
  | .unitFatalFault u => Sys2Proof.Machine.execUnitFatalFault u s
  | .halfFatalFault h => Sys2Proof.Machine.execHalfFatalFault h s
  | .halfRestartWrite w v => Sys2Proof.Machine.execHalfRestartWrite w v s
  | .heartbeatSend h => Sys2Proof.Machine.execHeartbeatSend h s
  | .groupHeartbeatLoss g => Sys2Proof.Machine.execGroupHeartbeatLoss g s
  | .aliveCountTimeout h => Sys2Proof.Machine.execAliveCountTimeout h s
  | .rejoin => Sys2Proof.Machine.execRejoin s
  | .custodyGrantWrite w rec => Sys2Proof.Machine.execCustodyGrantWrite w rec s
  | .alertAckWrite w h v => Sys2Proof.Machine.execAlertAckWrite w h v s
  | .logRead w h => Sys2Proof.Machine.execLogRead w h s
  | .rwRegisterWrite f space off v => Sys2Proof.Machine.execRwRegisterWrite f space off v s
  | .linkGroupReturn g => Sys2Proof.Machine.execLinkGroupReturn g s
  | .romWatchdogExpiry h => Sys2Proof.Machine.execRomWatchdogExpiry h s
  | .mgmtLinkChange h up speed => Sys2Proof.Machine.execMgmtLinkChange h up speed s
  | .rootPortLinkUp p drives => Sys2Proof.Machine.execRootPortLinkUp p drives s
  | .writeBufferPlace nsid granule => Sys2Proof.Machine.execWriteBufferPlace nsid granule s
  | .dramTrainingDone c ok => Sys2Proof.Machine.execDramTrainingDone c ok s
  | .storeCommitDone => Sys2Proof.Machine.execStoreCommitDone s
  | .calCommitDone => Sys2Proof.Machine.execCalCommitDone s
  | .imgVerifyDone => Sys2Proof.Machine.execImgVerifyDone s
  | .driveRetireDone d => Sys2Proof.Machine.execDriveRetireDone d s
  | .deferredFault u => Sys2Proof.Machine.execDeferredFault u s

end Sys2Proof.Machine
end

