-- ==== Sys2Proof/Machine/NibWords.lean ====
section
/-! DEFINITION. The words of the nib instructions, and the commands that a word in a thread can be (09 R227 to R238). -/

namespace Sys2Proof.Machine
open Sys2Proof

/-- A word of format R, I, B or J for a thread (R227). -/
def wordR (t : Th) (op : Nat) (rd ra rb : Reg) (func : Nat) : Option (Th × BitVec 32) :=
  some (t, encR op rd.toNat ra.toNat rb.toNat func)

def wordI (t : Th) (op : Nat) (rd ra : Reg) (imm : BitVec 16) : Option (Th × BitVec 32) :=
  some (t, encI op rd.toNat ra.toNat imm.toNat)

/-- The thread and the instruction word of a command that is a nib instruction (R228 to R238). -/
def nibWord (i : Instr) : Option (Th × BitVec 32) :=
  match i with
  | .add t rd ra rb => wordR t 0x00 rd ra rb 0x000
  | .sub t rd ra rb => wordR t 0x00 rd ra rb 0x001
  | .and t rd ra rb => wordR t 0x00 rd ra rb 0x002
  | .or t rd ra rb => wordR t 0x00 rd ra rb 0x003
  | .xor t rd ra rb => wordR t 0x00 rd ra rb 0x004
  | .andn t rd ra rb => wordR t 0x00 rd ra rb 0x005
  | .sll t rd ra rb => wordR t 0x00 rd ra rb 0x006
  | .srl t rd ra rb => wordR t 0x00 rd ra rb 0x007
  | .sra t rd ra rb => wordR t 0x00 rd ra rb 0x008
  | .rol t rd ra rb => wordR t 0x00 rd ra rb 0x009
  | .slt t rd ra rb => wordR t 0x00 rd ra rb 0x00A
  | .sltu t rd ra rb => wordR t 0x00 rd ra rb 0x00B
  | .mul t rd ra rb => wordR t 0x00 rd ra rb 0x00C
  | .mulhu t rd ra rb => wordR t 0x00 rd ra rb 0x00D
  | .min t rd ra rb => wordR t 0x00 rd ra rb 0x00E
  | .max t rd ra rb => wordR t 0x00 rd ra rb 0x00F
  | .clz t rd ra rb => wordR t 0x00 rd ra rb 0x010
  | .popc t rd ra rb => wordR t 0x00 rd ra rb 0x011
  | .bswap t rd ra rb => wordR t 0x00 rd ra rb 0x012
  | .crc32c t rd ra rb => wordR t 0x00 rd ra rb 0x013
  | .addi t rd ra imm => wordI t 0x01 rd ra imm
  | .andi t rd ra imm => wordI t 0x02 rd ra imm
  | .ori t rd ra imm => wordI t 0x03 rd ra imm
  | .xori t rd ra imm => wordI t 0x04 rd ra imm
  | .slli t rd ra imm => wordI t 0x05 rd ra imm
  | .srli t rd ra imm => wordI t 0x06 rd ra imm
  | .srai t rd ra imm => wordI t 0x07 rd ra imm
  | .slti t rd ra imm => wordI t 0x08 rd ra imm
  | .sltiu t rd ra imm => wordI t 0x09 rd ra imm
  | .lui t rd ra imm => wordI t 0x0A rd ra imm
  | .shori t rd ra imm => wordI t 0x0B rd ra imm
  | .ext t rd ra imm => wordI t 0x0C rd ra imm
  | .ins t rd ra imm => wordI t 0x0D rd ra imm
  | .lb t rd ra imm => wordI t 0x10 rd ra imm
  | .lh t rd ra imm => wordI t 0x11 rd ra imm
  | .lw t rd ra imm => wordI t 0x12 rd ra imm
  | .ld t rd ra imm => wordI t 0x13 rd ra imm
  | .sb t rd ra imm => wordI t 0x14 rd ra imm
  | .sh t rd ra imm => wordI t 0x15 rd ra imm
  | .sw t rd ra imm => wordI t 0x16 rd ra imm
  | .sd t rd ra imm => wordI t 0x17 rd ra imm
  | .atomAdd t rd ra rb => wordR t 0x18 rd ra rb 0
  | .atomSwap t rd ra rb => wordR t 0x18 rd ra rb 1
  | .atomCas t rd ra rb => wordR t 0x18 rd ra rb 2
  | .atomOr t rd ra rb => wordR t 0x18 rd ra rb 3
  | .atomAnd t rd ra rb => wordR t 0x18 rd ra rb 4
  | .beq t ra rb off => wordI t 0x20 ra rb off
  | .bne t ra rb off => wordI t 0x21 ra rb off
  | .blt t ra rb off => wordI t 0x22 ra rb off
  | .bge t ra rb off => wordI t 0x23 ra rb off
  | .bltu t ra rb off => wordI t 0x24 ra rb off
  | .bgeu t ra rb off => wordI t 0x25 ra rb off
  | .j t off => some (t, encJ 0x26 off.toNat)
  | .call t off => some (t, encJ 0x27 off.toNat)
  | .jr t rd ra rb => wordR t 0x28 rd ra rb 0
  | .wfe t rd ra rb => wordR t 0x30 rd ra rb 0
  | .sig t rd ra rb => wordR t 0x30 rd ra rb 1
  | .timer t rd ra rb => wordR t 0x30 rd ra rb 2
  | .time t rd ra rb => wordR t 0x30 rd ra rb 3
  | .self t rd ra rb => wordR t 0x30 rd ra rb 4
  | .fence t rd ra rb => wordR t 0x30 rd ra rb 5
  | .stop t rd ra rb => wordR t 0x30 rd ra rb 6
  | .brk t rd ra rb => wordR t 0x30 rd ra rb 7
  | .tr t rd ra rb => wordR t 0x30 rd ra rb 8
  | .pendForward t rd ra rb => wordR t 0x31 rd ra rb 0
  | .pendDrop t rd ra rb => wordR t 0x31 rd ra rb 0
  | .pendException t rd ra rb => wordR t 0x31 rd ra rb 0
  | .plen t rd ra rb => wordR t 0x31 rd ra rb 1
  | .tq t rd ra imm => wordI t 0x32 rd ra imm
  | .chw t rd ra rb => wordR t 0x34 rd ra rb 0
  | .chc t rd ra rb => wordR t 0x34 rd ra rb 1
  | .chr t rd ra rb => wordR t 0x34 rd ra rb 2
  | .chwatch t rd ra rb => wordR t 0x34 rd ra rb 3
  | .chx t rd ra rb => wordR t 0x34 rd ra rb 4
  | .lacq t rd ra rb => wordR t 0x35 rd ra rb 0
  | .ltry t rd ra rb => wordR t 0x35 rd ra rb 1
  | .lrel t rd ra rb => wordR t 0x35 rd ra rb 2
  | .lmov t rd ra rb => wordR t 0x35 rd ra rb 3
  | .csubCopy t rd ra imm => wordI t 0x36 rd ra imm
  | .csubEspOut t rd ra imm => wordI t 0x36 rd ra imm
  | .csubEspIn t rd ra imm => wordI t 0x36 rd ra imm
  | _ => none

/-- The instruction of a number in a list of instructions. -/
def pick (l : List Instr) (n : Nat) : List Instr := (l[n]?).toList

/-- The commands of a word by its OP and FUNC (R228 to R238). -/
def nibByOp (t : Th) (op f : Nat) (rd ra rb : Reg) (imm : BitVec 16) (off : BitVec 26) : List Instr :=
  if op = 0x00 then pick
   [Instr.add t rd ra rb, .sub t rd ra rb, .and t rd ra rb, .or t rd ra rb, .xor t rd ra rb, .andn t rd ra rb,
    .sll t rd ra rb, .srl t rd ra rb, .sra t rd ra rb, .rol t rd ra rb, .slt t rd ra rb, .sltu t rd ra rb,
    .mul t rd ra rb, .mulhu t rd ra rb, .min t rd ra rb, .max t rd ra rb, .clz t rd ra rb, .popc t rd ra rb,
    .bswap t rd ra rb, .crc32c t rd ra rb] f
  else if op ≤ 0x0D then pick
   [Instr.addi t rd ra imm, .andi t rd ra imm, .ori t rd ra imm, .xori t rd ra imm, .slli t rd ra imm,
    .srli t rd ra imm, .srai t rd ra imm, .slti t rd ra imm, .sltiu t rd ra imm, .lui t rd ra imm,
    .shori t rd ra imm, .ext t rd ra imm, .ins t rd ra imm] (op - 1)
  else if op ≤ 0x17 then pick
   [Instr.lb t rd ra imm, .lh t rd ra imm, .lw t rd ra imm, .ld t rd ra imm, .sb t rd ra imm, .sh t rd ra imm,
    .sw t rd ra imm, .sd t rd ra imm] (op - 0x10)
  else if op = 0x18 then pick
   [Instr.atomAdd t rd ra rb, .atomSwap t rd ra rb, .atomCas t rd ra rb, .atomOr t rd ra rb, .atomAnd t rd ra rb] f
  else if op ≤ 0x25 then pick
   [Instr.beq t rd ra imm, .bne t rd ra imm, .blt t rd ra imm, .bge t rd ra imm, .bltu t rd ra imm, .bgeu t rd ra imm] (op - 0x20)
  else if op = 0x26 then [.j t off]
  else if op = 0x27 then [.call t off]
  else if op = 0x28 then [.jr t rd ra rb]
  else if op = 0x30 then pick
   [Instr.wfe t rd ra rb, .sig t rd ra rb, .timer t rd ra rb, .time t rd ra rb, .self t rd ra rb, .fence t rd ra rb,
    .stop t rd ra rb, .brk t rd ra rb, .tr t rd ra rb] f
  else if op = 0x31 then
    (if f = 0 then [.pendForward t rd ra rb, .pendDrop t rd ra rb, .pendException t rd ra rb] else [.plen t rd ra rb])
  else if op = 0x32 then [.tq t rd ra imm]
  else if op = 0x34 then pick
   [Instr.chw t rd ra rb, .chc t rd ra rb, .chr t rd ra rb, .chwatch t rd ra rb, .chx t rd ra rb] f
  else if op = 0x35 then pick
   [Instr.lacq t rd ra rb, .ltry t rd ra rb, .lrel t rd ra rb, .lmov t rd ra rb] f
  else [.csubCopy t rd ra imm, .csubEspOut t rd ra imm, .csubEspIn t rd ra imm]

/-- The commands that a word in a thread can be: one, but for PEND by its verdict and CSUB by its record, and none where OP or
FUNC is undefined (R223, R227, R232, R264). -/
def nibDecode (t : Th) (w : BitVec 32) : List Instr :=
  if (usedBits w).isNone then []
  else nibByOp t (fOp w) (fFunc w) (w.extractLsb' 21 5) (w.extractLsb' 16 5) (w.extractLsb' 11 5) (w.extractLsb' 0 16)
    (w.extractLsb' 0 26)

end Sys2Proof.Machine
end

