-- ==== Sys2Proof/Safety.lean ====
section
/-! DEFINITION. The terms in which statements speak of the device: a write that is granted, what every request touches, a thread
that issues a word. -/

namespace Sys2Proof.Machine
open Sys2Proof

/-! ### Requests (R385, R389, R431, R432, R456) -/

/-- The state once a request has been accepted: REQUESTS counts it, and its session is begun or its idle time starts anew. -/
def State.accepted (s : State) (w : Who) : State := (s.countH 0x6900 (sessHalf w.sess) 1 1).touch w.sess

/-- A write passes every check of R456 that does not look at the value or at a selection: the device runs and serves the session,
no handover runs, the object exists and may be written, the role and the length are right, and during a split the object and
the custody of device-wide state allow it. -/
def State.grants (s : State) (w : Who) (i sub : Nat) (data : List Byte) : Bool :=
  s.running && (s.half (s.server w.sess)).supvUp && s.trust.handover.isNone && s.role w != 0
    && (match objRow i sub with
      | some r =>
        writeRole r i sub (leNat data) ≤ s.role w && r.acc != .ro && r.acc != .const
          && (if r.len = 0 then 1 ≤ data.length && data.length ≤ 1408 else data.length = r.len)
      | none => false)
    && !(i = 0xA720 && s.nv.programBlown) && !boolBad i sub (leNat data) && !s.otherHalf w.sess i sub
    && (!custodyObj i sub || s.custody w.sess)

/-- The state but for what every request touches: the counters, the sessions, the responses, and the record of the changes made
during a split. -/
def State.quiet (s : State) : State :=
  { s with
    stat := [], out := []
    mgmt := { s.mgmt with sessions := [] }
    k := { s.k with cust := { s.k.cust with divergent := [] } }
    q := { s.q with cust := { s.q.cust with divergent := [] } } }

/-- The last thing sent is a response of a status and data to a session. -/
def State.answered (s : State) (w : Who) (st : Nat) (data : List Byte) : Prop := s.out.head? = some (.resp w.sess st data)

/-- A counter object of the statistics range (R49). -/
def State.cnt (s : State) (index sub : Nat) : Nat := mget s.stat (index * 256 + sub) 0

/-- A request gets as far as its object: the device runs and serves the session, no handover runs, and the role is one. -/
def State.hears (s : State) (w : Who) : Bool :=
  s.running && (s.half (s.server w.sess)).supvUp && s.trust.handover.isNone && s.role w != 0

/-- A message that asks for EPOCH (R395, R396). -/
def epochRead (m : List Byte) : Bool := msgOk m && msgOp m == 1 && beAt m 16 2 == 0x1001 && beAt m 18 1 == 1

/-- A Synrok message comes to its key: the session is served, the message is whole and authenticated, and the key that it names
exists and has this value (R397, R399). -/
def State.underKey (s : State) (h : Half) (peer : Nat) (m : List Byte) (key : Nat) : Prop :=
  s.served (.synrok h peer) = true ∧ (s.half h).supvUp = true ∧ msgOk m = true ∧ msgAuth m = true
    ∧ s.unseal (mfind s.nv.store.keys (msgKey m)) = some key

/-- The key of the mark of a message's key on a half (R398). -/
def markKey (h : Half) (m : List Byte) : Nat := h.num * 8 + msgKey m

/-- The state but for the counters, as a message that is not executed leaves it. -/
def State.uncounted (s : State) : State := { s with stat := [] }

/-! ### Frames of BAR0 (R44, R58, R69) -/

/-- An access through a function's BAR0 reaches a frame of a kind (0 work queue, 1 CQ, 2 storage queue, 3 window): the function is
present and in D0, and the number names an entry of the half's pool of 131,072 or fewer. -/
def State.reachesFrame (s : State) (q : QRef) (kind : Nat) (h : Half) (e sl : Nat) : Bool :=
  s.present (fkey q.fn) && !(s.fn (fkey q.fn)).d3 && (s.frame q.fn kind q.frame == .hit h e sl)
    && Nat.blt e (if kind = 3 then 131072 else 65536)

/-- An access through PF3's BAR0 reaches the channels of its port. -/
def State.reachesChan (s : State) (p : Fin 4) : Bool := s.present (fnKey p.val 3) && !(s.fn (fnKey p.val 3)).d3

/-- An access reaches a doorbell block: PF1's on its 256 pages, or a VF's of PF1 (R277). -/
def State.reachesBlock (s : State) (q : QRef) : Bool :=
  s.present (fkey q.fn) && !(s.fn (fkey q.fn)).d3 && netRef q && (Nat.ble 4 q.fn.num.val || Nat.blt q.frame 256)

/-- A local QP number of a doorbell block names the QP with a key (R275, R277). -/
def State.reachesQp (s : State) (q : QRef) (n k : Nat) : Bool :=
  s.reachesBlock q && s.localKey q (s.rdqBlock q).1 n == some k

/-- The state with the queue pairs, the windows or all of the RDMA state of a half as in another. -/
def State.withQpsOf (t s : State) (h : Half) : State :=
  t.onHalf h fun y => { y with rdma := { y.rdma with qps := (s.half h).rdma.qps } }

def State.withWinsOf (t s : State) (h : Half) : State :=
  t.onHalf h fun y => { y with rdma := { y.rdma with wins := (s.half h).rdma.wins } }

def State.withRdmaOf (t s : State) (h : Half) : State := t.onHalf h fun y => { y with rdma := (s.half h).rdma }

/-- Every QP but one is as it was. -/
def State.otherQps (t s : State) (k : Nat) : Prop :=
  ∀ h i, ¬ (h = qpHalf k ∧ i = k % 524288) → t.qp h i = s.qp h i

/-- A packet that the transport of its half takes for a QP (R276, R280): steered to the QP's slice, with a good ICRC, for a QP
of the half that is in RTR or RTS and whose function may master the bus. -/
def State.takesRoce (s : State) (h : Half) (k : Nat) (p : RocePkt) : Bool :=
  s.forwards h && p.roce && Nat.blt k 1048576 && p.destQp == k + 0x100000 && qpHalf k == h && s.qpHolder k == p.slice && p.icrcOk
    && ((s.qpk k).st == .rtr || (s.qpk k).st == .rts) && s.mastering (s.qpk k).rq.fn

/-- A response that a requester QP takes (R300): an RC QP in RTS whose function may master the bus, whose slice may work, and with
the response's PSN outstanding. -/
def State.takesResp (s : State) (h : Half) (k : Nat) (r : RoceResp) : Bool :=
  s.forwards h && Nat.blt k 1048576 && r.qp == k + 0x100000 && qpHalf k == h && (s.qpk k).st == .rts && !qrUd (s.qpk k).record
    && s.mastering (s.qpk k).sq.fn && s.sliceOn (s.qpk k).sq.slice
    && Nat.blt (psnDist (s.qpk k).unacked r.psn) (psnDist (s.qpk k).unacked (s.qpk k).nextPsn)

/-- A command of a doorbell block has ended with a status; no other function is touched (R278). -/
def State.cmdEnds (t s : State) (q : QRef) (v : Nat) : Prop :=
  mget (t.fn (fkey q.fn)).rdqStatus (s.rdqBlock q).2 0 = v ∧ (∀ f, f ≠ fkey q.fn → t.fn f = s.fn f)
    ∧ { t.fn (fkey q.fn) with rdqStatus := (s.fn (fkey q.fn)).rdqStatus } = s.fn (fkey q.fn)

/-- A completion of a kind has been written to a CQ since a state (R104, R105). -/
def State.wroteCqe (t s : State) (cq : Nat) (p : Cqe → Prop) : Prop :=
  ∃ l i ph x tm, t.out = l ++ s.out ∧ .cqe cq i ph x tm ∈ l ∧ p x

/-- A completion of an entry with a status has been written to a CQ since a state (R104, R105). -/
def State.completed (t s : State) (cq : Nat) (e : Entry) (status : Nat) : Prop :=
  t.wroteCqe s cq fun x => x.status = BitVec.ofNat 8 status ∧ x.index = e.index ∧ x.tag = e.tag

/-- A completion of a storage command with a status has been written since a state (R334). -/
def State.ended (t s : State) (cq : Nat) (c : SCmd) (status : Nat) : Prop :=
  t.wroteCqe s cq fun x => x.status = BitVec.ofNat 8 status ∧ x.index = c.seq ∧ x.tag = scTag c.cmd

/-- A storage command of a queue is gone from it. -/
def State.gone (t : State) (k : Nat) (c : SCmd) : Prop := ∀ x ∈ (t.stq k).cmds, x.seq ≠ c.seq

/-- A CQ takes completions at once: its function may master the bus and it is not in CQ_FAULT (R61, R112). -/
def State.cqTakes (s : State) (cq : Nat) : Bool := s.mastering (s.cq cq).fn && !(s.cq cq).faulted

/-- The I/O command a queue would start now with an opcode: its oldest unstarted one, eligible and granted (R325). -/
def State.starts (s : State) (k op : Nat) (c : SCmd) : Bool :=
  !s.stqAdmin k && (s.stq k).next == some c && scOp c.cmd == op && s.eligible k c && (s.grantNow k c).isSome

/-- The work of a started I/O command has come to an outcome. -/
def State.workDone (t : State) (k : Nat) (c : SCmd) (d : Done) : Prop :=
  ∃ x ∈ (t.stq k).cmds, x.seq = c.seq ∧ x.started = true ∧ x.outcome = some (BitVec.ofNat 8 d.1, d.2.1, d.2.2)

/-- The command an admin queue starts now with an opcode (R325, R338). -/
def State.adminStarts (s : State) (k op : Nat) (c : SCmd) : Bool :=
  s.stqAdmin k && (s.stq k).next == some c && scOp c.cmd == op && s.stqRuns k && !s.scMalformed k c.cmd
    && s.slotFor (s.stqCq k) (stqBase + k) && s.storage.detachWait.isEmpty

/-- A namespace command is carried out: through NS_CMD, or from frame 0 of PF2 of a port (R339, R342). -/
def State.nsTaken (s : State) (src : AdminSrc) (op : Nat) (cmd : BitVec 512) : Bool :=
  s.storage.detachWait.isEmpty &&
    match src with
    | .mgmt w c => c == cmd && scOp c == op && s.grants w 0xA400 3 (leBytes 64 c.toNat) && !nsCmdBusy w s && !badNsid (scNsid c)
    | .queue k =>
      Nat.ble 8192 k && match (s.stq k).next with
        | some c => c.cmd == cmd && s.adminStarts k op c
        | none => false

/-- A namespace command has ended with a status where it came from: NS_CMD_RESULT, or a completion (R334, R342). -/
def State.nsEnds (t s : State) (src : AdminSrc) (st : Nat) : Prop :=
  match src with
  | .mgmt w _ => t.sel w.sess (obj 0xA400 4) 0 = st ∧ t.answered w rsOk []
  | .queue k =>
    ∀ c, (s.stq k).next = some c → t.gone k c ∧ (s.cqTakes (s.stqCq k) = true → t.ended s (s.stqCq k) c st)

/-! ### Nib threads (R217, R227, R249) -/

/-- A thread is ready, no breakpoint stands at its instruction, and the instruction is a word, by every bit that its meaning
uses. -/
def State.issues (s : State) (t : Th) (w : BitVec 32) : Bool :=
  s.ready t.unit.val t.slot.val && !(s.th t.unit.val t.slot.val).atBreak
    && (match (s.nib t.unit.val).fetch (s.th t.unit.val t.slot.val).pc with
      | some c => (usedBits c).isSome && sameWord c w
      | none => false)

/-- The thread. -/
def State.thr (s : State) (t : Th) : Thread := s.th t.unit.val t.slot.val

/-- The value of a register of a thread; v0 reads 0. -/
def State.rv (s : State) (t : Th) (r : Reg) : Word := (s.thr t).reg r.toNat

/-- The device with a thread replaced; an instruction carried out ends the pass of a breakpoint. -/
def State.putThr (s : State) (t : Th) (x : Thread) : State := s.setTh t.unit.val t.slot.val { x with skip := false }

/-- The device after an instruction that writes one register and goes on to the next. -/
def State.wrote (s : State) (t : Th) (rd : Reg) (v : Word) : State := s.putThr t ((s.thr t).setReg rd.toNat v).next

/-- The device after an instruction that faults with a code of R242. -/
def State.faulted (s : State) (t : Th) (code : Nat) : State :=
  (s.putThr t (s.thr t)).threadFault t.unit.val t.slot.val code

/-! ### Units (R410, R414) -/

/-- A UNIT_CMD gets as far as the unit: the write is granted, no command of the unit runs, the half's SUPV is up, and the unit is
no SUPV. -/
def State.takesUnitCmd (s : State) (w : Who) (u : UnitRef) (code : Nat) : Bool :=
  s.grants w (0x4000 + 16 * unitId u.half u.index.val) 2 (leBytes 2 code) && !(s.unit u.half u.index.val).busy
    && (s.half u.half).supvUp && u.index.val != 16

/-- The unit of a reference. -/
def State.unitOf (s : State) (u : UnitRef) : UnitS := s.unit u.half u.index.val

/-- Every other unit is as it was. -/
def State.otherUnits (t s : State) (u : UnitRef) : Prop :=
  ∀ g j, ¬ (g = u.half ∧ j = u.index.val) → t.unit g j = s.unit g j

/-- A UNIT_CMD has been answered and changes nothing outside the halves' own state and one unit. -/
def State.unitCmdTaken (t s : State) (w : Who) (u : UnitRef) : Prop :=
  t.answered w rsOk [] ∧ t.otherUnits s u ∧ { t.quiet with k := s.quiet.k, q := s.quiet.q } = s.quiet

/-- A UNIT_CMD has ended with a status, the unit in a state. -/
def State.unitEnded (t : State) (u : UnitRef) (st : UnitSt) (status : Nat) : Prop :=
  (t.unitOf u).st = st ∧ (t.unitOf u).busy = false ∧ (t.unitOf u).status = status

/-- A rotation visit of a half is of a unit. -/
def State.visits (s : State) (u : UnitRef) : Bool := (s.half u.half).rot.unit == some u.index.val

end Sys2Proof.Machine
end

