-- ==== Sys2Proof/Certificates/Slice0/Obligations.lean ====
section
/-! DEFINITION. The statements for the provers: what each command does and leaves unchanged, family by family, and what holds of
every step. -/

open Sys2Proof Sys2Proof.Machine

/-- VIN_RISE, VIN_DIP (R440, R441, R447): the rails and PWRGOOD follow VIN at 10.2 V and 10.8 V; a dip to 9.8 V or above resets
nothing; below it PWRGOOD falls and the device is in reset, after an unorderly loss where it ran; above 15 V the spec gives no
effect. -/
def Obligations.SupplyVoltageEffects : Prop :=
  (∀ (s : State) (mv : Nat), s.board.vin < mv → mv ≤ 15000 →
    ∃ t, exec (.vinRise mv) s = .next t ∧ t.board.vin = mv
      ∧ (t.board.rails = true ↔ s.board.rails = true ∨ 10200 ≤ mv)
      ∧ (t.board.pwrgood = true ↔ s.board.pwrgood = true ∨ 10800 ≤ mv)
      ∧ { t with board := { t.board with vin := s.board.vin, rails := s.board.rails, pwrgood := s.board.pwrgood } } = s)
  ∧ (∀ (s : State) (mv : Nat), 15000 < mv → exec (.vinRise mv) s = .fault .beyondAbsoluteMaximum)
  ∧ (∀ (s : State) (mv : Nat), mv < s.board.vin → 9800 ≤ mv →
    exec (.vinDip mv) s = .next { s with board := { s.board with vin := mv } })
  ∧ (∀ (s : State) (mv : Nat), mv < s.board.vin → mv < 9800 →
    ∃ t, exec (.vinDip mv) s = .next t ∧ t.board.vin = mv ∧ t.board.pwrgood = false ∧ t.board.boot = .inReset
      ∧ (s.board.boot ≠ .inReset → t.nv.orderly = false)
      ∧ t.nv.keySlots = s.nv.keySlots ∧ t.nv.floorBits = s.nv.floorBits ∧ t.nv.slotA = s.nv.slotA ∧ t.nv.slotB = s.nv.slotB
      ∧ t.k = State.reset.k ∧ t.q = State.reset.q ∧ t.mgmt = State.reset.mgmt)

/-- PORN_ASSERT, PORN_RELEASE, PWRGOOD_RISE_PORN_HIGH, PAYLOAD_HASH_CHECK (R441, R442, R367, R368): what an assertion of PORn
keeps and resets; that a release with PWRGOOD high samples the straps and starts the payload of the chosen slot, or RECOVERY;
that the outputs are ungated by a good payload hash, and that the first failure only rereads the payload. -/
def Obligations.ResetAndColdStart : Prop :=
  (∀ (s : State) (orderly : Bool), s.board.porn = true →
    ∃ t, exec (.pornAssert orderly) s = .next t ∧ t.board.porn = false ∧ t.board.boot = .inReset
      ∧ t.k = State.reset.k ∧ t.q = State.reset.q ∧ t.mgmt = State.reset.mgmt ∧ t.slices = [] ∧ t.wqs = [] ∧ t.cqs = []
      ∧ t.nv.keySlots = s.nv.keySlots ∧ t.nv.floorBits = s.nv.floorBits ∧ t.nv.slotA = s.nv.slotA ∧ t.nv.slotB = s.nv.slotB
      ∧ (s.board.boot ≠ .inReset → t.nv.orderly = orderly ∧
          (orderly = true → t.nv.lifeRecord = some (Nat.max s.k.gov.lifeUsed s.q.gov.lifeUsed))))
  ∧ (∀ (s : State) (straps : BitVec 8), s.board.porn = false → s.board.pwrgood = false →
    exec (.pornRelease straps) s = .next { s with board := { s.board with porn := true } })
  ∧ (∀ (s : State) (straps : BitVec 8), s.board.porn = false → s.board.pwrgood = true → s.board.boot = .inReset →
    ∃ t, exec (.pornRelease straps) s = .next t ∧ t.board.porn = true ∧ t.board.straps = straps
      ∧ (straps.getLsbD 4 = true ∨ s.nv.rejectTried.chooseSlot = none → t.board.boot = .recovery)
      ∧ (∀ i, straps.getLsbD 4 = false → s.nv.rejectTried.chooseSlot = some i → t.board.boot = .streaming ∧ t.board.slot = i))
  ∧ (∀ (s : State) (straps : BitVec 8), s.board.porn = true → s.board.pwrgood = true → s.board.boot = .inReset →
    ∃ t, exec (.pwrgoodRisePornHigh straps) s = .next t ∧ t.board.porn = true ∧ t.board.straps = straps
      ∧ (straps.getLsbD 4 = true ∨ s.nv.rejectTried.chooseSlot = none → t.board.boot = .recovery)
      ∧ (∀ i, straps.getLsbD 4 = false → s.nv.rejectTried.chooseSlot = some i → t.board.boot = .streaming ∧ t.board.slot = i))
  ∧ (∀ s : State, s.board.boot = .streaming →
    ∃ t, exec (.payloadHashCheck true) s = .next t ∧ t.board.boot = .running ∧ t.nv.store.epoch = s.nv.store.epoch + 1
      ∧ t.k.cust.holds = true ∧ t.q.cust.holds = false ∧ t.mgmt.marks = [])
  ∧ (∀ s : State, s.board.boot = .streaming → s.board.rereads = 0 →
    exec (.payloadHashCheck false) s = .next { s with board := { s.board with rereads := 1 } })

/-- GOVERNOR_SAMPLE, LIFE_RECORD_HOURLY, THERMAL_STOP, PACE_MODE_WRITE (R22, R23, R24, R26, R27, R452): the rail stays within
0.55 to 0.90 V and the other half's rail is not touched; the accrual keeps the bound of the mode at 85 °C or below; the throttle
starts at 110 °C and ends below 105 °C; the record takes the higher of the two halves' budgets; 120 °C stops the half; MAX needs
the OWNER role. -/
def Obligations.GovernorAndLifeBudget : Prop :=
  (∀ (s : State) (h : Half) (c : Int), s.board.boot = .running → (s.half h).supvUp = true →
    550 ≤ (s.half h).gov.vcore → (s.half h).gov.vcore ≤ 900 →
    ∃ t, exec (.governorSample h c) s = .next t ∧ (t.half h).gov.temp = c
      ∧ 550 ≤ (t.half h).gov.vcore ∧ (t.half h).gov.vcore ≤ 900 ∧ (t.half h.other).gov.vcore = (s.half h.other).gov.vcore
      ∧ (1100 ≤ c → (t.half h).gov.throttled = true) ∧ (c < 1050 → (t.half h).gov.throttled = false)
      ∧ (1050 ≤ c → c < 1100 → (t.half h).gov.throttled = (s.half h).gov.throttled)
      ∧ (c ≤ 850 → s.param h 0x2000 1 0 0 ≠ 2 → (t.half h).gov.lifeRate ≤ 40000)
      ∧ (c ≤ 850 → (t.half h).gov.lifeRate ≤ 160000)
      ∧ ((s.half h).gov.lifeUsed < 2 ^ 32 → (s.half h).gov.lifeUsed ≤ (t.half h).gov.lifeUsed ∧ (t.half h).gov.lifeUsed < 2 ^ 32)
      ∧ t.wqs = s.wqs ∧ t.slices = s.slices ∧ t.nv = s.nv ∧ t.board = s.board)
  ∧ (∀ s : State, s.board.boot = .running →
    ∃ t, exec .lifeRecordHourly s = .next t
      ∧ t.nv.lifeRecord = some (Nat.max s.k.gov.lifeUsed s.q.gov.lifeUsed)
      ∧ t.nv.store.life = some (Nat.max s.k.gov.lifeUsed s.q.gov.lifeUsed)
      ∧ { t with nv := s.nv, mgmt := { t.mgmt with storeNext := s.mgmt.storeNext } } = s)
  ∧ (∀ (s : State) (h : Half), s.board.boot = .running → (s.half h).stopped = false →
    ∃ t, exec (.thermalStop h) s = .next t ∧ (t.half h).stopped = true ∧ (t.half h.other).stopped = (s.half h.other).stopped
      ∧ (t.half h).supvUp = (s.half h).supvUp)
  ∧ (∀ (s : State) (w : Who) (v : BitVec 8), s.grants w 0x2000 1 (leBytes 1 v.toNat) = true → v.toNat ≤ 2 →
    (v = 0 ∨ (s.k.gov.trimFallback = false ∧ s.q.gov.trimFallback = false)) →
    ∃ t, exec (.paceModeWrite w v) s = .next t ∧ t.answered w rsOk [] ∧ t.param (s.server w.sess) 0x2000 1 0 0 = v.toNat
      ∧ (s.cstl.split = false → ∀ h, t.param h 0x2000 1 0 0 = v.toNat)
      ∧ { t.quiet with mgmt := { t.quiet.mgmt with paramsK := s.mgmt.paramsK, paramsQ := s.mgmt.paramsQ } } = s.quiet)
  ∧ (∀ (s : State) (w : Who), s.board.boot = .running → (s.half (s.server w.sess)).supvUp = true → s.role w = 2 →
    ∃ t, exec (.paceModeWrite w 2) s = .next t ∧ t.answered w rsDenied [] ∧ t.quiet = s.quiet)

/-- PERST_ASSERT, LINK_DL_DOWN, LINK_DL_UP (R38, R39, R65, R67): an endpoint port that is reset or loses its link has no link, no
outstanding tag, no IDE stream and functions that may not master; a root port only loses its link; a link comes up with the rate,
the width and the mode it trained. -/
def Obligations.HostPortLinkEvents : Prop :=
  (∀ (s : State) (p : Fin 4), s.board.boot ≠ .inReset → (s.port p.val).root = false →
    ∃ t, exec (.perstAssert p) s = .next t ∧ (t.port p.val).up = false ∧ (t.port p.val).tags = [] ∧ (t.port p.val).ide = []
      ∧ (∀ n, n < 4 → (t.fn (fnKey p.val n)).bme = false) ∧ (∀ q, q ≠ p.val → (t.port q).up = (s.port q).up))
  ∧ (∀ (s : State) (p : Fin 4), (s.port p.val).up = true → (s.port p.val).root = false →
    ∃ t, exec (.linkDlDown p) s = .next t ∧ (t.port p.val).up = false ∧ (t.port p.val).tags = [] ∧ (t.port p.val).ide = []
      ∧ (∀ n, n < 4 → (t.fn (fnKey p.val n)).bme = false) ∧ (∀ q, q ≠ p.val → (t.port q).up = (s.port q).up))
  ∧ (∀ (s : State) (p : Fin 4), (s.port p.val).up = true → (s.port p.val).root = true →
    ∃ t, exec (.linkDlDown p) s = .next t ∧ (t.port p.val).up = false ∧ (∀ q, q ≠ p.val → t.port q = s.port q)
      ∧ { t with ports := s.ports } = s)
  ∧ (∀ (s : State) (p : Fin 4) (rate width : Nat) (flit : Bool), (s.port p.val).up = false → (s.port p.val).root = false →
    s.portTrains p.val = true → s.trainable p.val rate width flit = true →
    ∃ t, exec (.linkDlUp p rate width flit) s = .next t
      ∧ t.port p.val = { s.port p.val with up := true, rate := rate, width := width, flit := flit }
      ∧ (∀ q, q ≠ p.val → t.port q = s.port q) ∧ t.fns = s.fns ∧ t.wqs = s.wqs ∧ t.slices = s.slices ∧ t.nv = s.nv)

/-- INTERRUPT_ENABLE_CHANGE, VECTOR_UNMASK (R50 to R52): the mechanism and the allocation are as written, and no interrupt stays
held once a function that may send one has a mechanism; a vector that is unmasked keeps no pending bit. -/
def Obligations.InterruptEnablesAndMasks : Prop :=
  (∀ (s : State) (f : FnRef) (msi msix : Bool) (n : Nat), s.present (fkey f) = true → f.num.val < 4 →
    n ∈ [1, 2, 4, 8, 16, 32] →
    ∃ t, exec (.interruptEnableChange f msi msix n) s = .next t
      ∧ (t.fn (fkey f)).msi = msi ∧ (t.fn (fkey f)).msix = msix ∧ (t.fn (fkey f)).msiVectors = n
      ∧ (s.mastering (fkey f) = true → msi = true ∨ msix = true → (t.fn (fkey f)).heldIrq = [])
      ∧ t.wqs = s.wqs ∧ t.cqs = s.cqs ∧ t.ports = s.ports)
  ∧ (∀ (s : State) (f : FnRef) (v : Nat), s.present (fkey f) = true → (s.fn (fkey f)).d3 = false →
    (s.fn (fkey f)).msi = false ∨ (s.fn (fkey f)).msix = true → v < s.tableSize (fkey f) →
    ∃ t, exec (.vectorUnmask f v) s = .next t ∧ mget (t.fn (fkey f)).unmasked v false = true
      ∧ ((s.fn (fkey f)).msix = true → (s.fn (fkey f)).fnMask = false → mget (t.fn (fkey f)).pba v false = false)
      ∧ t.wqs = s.wqs ∧ t.cqs = s.cqs ∧ t.ports = s.ports)
  ∧ (∀ (s : State) (f : FnRef) (v : Nat), s.present (fkey f) = true →
    (s.fn (fkey f)).msi = true → (s.fn (fkey f)).msix = false → v < 32 →
    ∃ t, exec (.vectorUnmask f v) s = .next t ∧ bit (t.fn (fkey f)).msiMask v = false
      ∧ mget (t.fn (fkey f)).pba v false = false ∧ t.wqs = s.wqs ∧ t.cqs = s.cqs ∧ t.ports = s.ports)

/-- COMPLETION_ARRIVAL, COMPLETION_TIMEOUT, TAG_QUARANTINE_EXPIRY (R54, R55, R61, R63): a completion frees its tag; one for no
outstanding tag is reported; one for a quarantined tag is dropped and counted; data reaches the copy descriptor it was read for;
a timeout is reported and quarantines the tag until a further period has passed. -/
def Obligations.CompletionsAndTags : Prop :=
  (∀ (s : State) (p : Fin 4) (tag : Nat) (st : CplStatus), (s.port p.val).root = false → (s.port p.val).up = true →
    mfind (s.port p.val).tags tag = none →
    ∃ t, exec (.completionArrival p tag st) s = .next t ∧ t.out = .aer (fnKey p.val 0) :: s.out ∧ { t with out := s.out } = s)
  ∧ (∀ (s : State) (p : Fin 4) (tag : Nat) (st : CplStatus) (x : Tag), (s.port p.val).root = false → (s.port p.val).up = true →
    mfind (s.port p.val).tags tag = some x → x.quarantined = true →
    ∃ t, exec (.completionArrival p tag st) s = .next t ∧ (t.fn x.fn).lateCpl = sat31 (s.fn x.fn).lateCpl
      ∧ (x.discard = true → t.ports = s.ports) ∧ (x.discard = false → mfind (t.port p.val).tags tag = none))
  ∧ (∀ (s : State) (p : Fin 4) (tag : Nat) (st : CplStatus) (x : Tag), (s.port p.val).root = false → (s.port p.val).up = true →
    mfind (s.port p.val).tags tag = some x → x.quarantined = false → x.discard = true → 4096 ≤ x.slice →
    ∃ t, exec (.completionArrival p tag st) s = .next t ∧ mfind (t.port p.val).tags tag = none
      ∧ (∀ v, v ≠ tag → mfind (t.port p.val).tags v = mfind (s.port p.val).tags v) ∧ { t with ports := s.ports } = s)
  ∧ (∀ (s : State) (p : Fin 4) (tag c : Nat) (data : List Byte) (x : Tag) (r : CopyRun), (s.port p.val).root = false →
    (s.port p.val).up = true → mfind (s.port p.val).tags tag = some x → x.quarantined = false → x.discard = false →
    4096 ≤ x.slice → x.kind = 1 → x.queue = chanBase + c → (s.chan c).run = some r → r.result = none → r.index = x.entry →
    ∃ t, exec (.completionArrival p tag (.ok data)) s = .next t ∧ mfind (t.port p.val).tags tag = none
      ∧ (t.chan c).run = some (r.copy { bytes := data, failed := false })
      ∧ { t with ports := s.ports, chans := s.chans } = s)
  ∧ (∀ (s : State) (p : Fin 4) (tag : Nat) (x : Tag), mfind (s.port p.val).tags tag = some x → x.quarantined = false →
    ∃ t y, exec (.completionTimeout p tag) s = .next t ∧ mfind (t.port p.val).tags tag = some y ∧ y.quarantined = true
      ∧ y.discard = true ∧ y.since = t.time (portHalf p.val) ∧ x.since + (s.fn x.fn).ctoNs ≤ t.time (portHalf p.val)
      ∧ .aer x.fn ∈ t.out)
  ∧ (∀ (s : State) (p : Fin 4) (tag : Nat) (x : Tag), mfind (s.port p.val).tags tag = some x → x.quarantined = true →
    4096 ≤ x.slice →
    ∃ t, exec (.tagQuarantineExpiry p tag) s = .next t ∧ mfind (t.port p.val).tags tag = none
      ∧ (∀ v, v ≠ tag → mfind (t.port p.val).tags v = mfind (s.port p.val).tags v)
      ∧ x.since + (s.fn x.fn).ctoNs ≤ t.time (portHalf p.val) ∧ t.out = s.out ∧ t.fns = s.fns ∧ t.wqs = s.wqs)

/-- IDE_INTEGRITY_FAIL, IDE_KM_SETUP and the SPDM requests (R56, R57, R381): an integrity failure makes the stream insecure until
keys come again over a secured session; each SPDM request is answered at its stage of the session and moves it on. The request
and response codes and the stages are the model's (log 18). -/
def Obligations.IdeAndSpdmSessions : Prop :=
  (∀ (s : State) (p i : Fin 4), (s.ideStream p.val i.val).secure = true →
    ∃ t, exec (.ideIntegrityFail p i) s = .next t ∧ (t.ideStream p.val i.val).secure = false
      ∧ (t.ideStream p.val i.val).failed = true ∧ (∀ j, j ≠ i.val → t.ideStream p.val j = s.ideStream p.val j)
      ∧ (∀ q, q ≠ p.val → t.port q = s.port q) ∧ t.fns = s.fns ∧ t.nv = s.nv)
  ∧ (∀ (s : State) (p i : Fin 4) (key : BitVec 256), s.present (fnKey p.val 0) = true → (s.port p.val).spdm = 5 →
    ∃ t, exec (.ideKmSetup p i key) s = .next t
      ∧ t.ideStream p.val i.val = { secure := true, key := key, failed := false }
      ∧ (∀ j, j ≠ i.val → t.ideStream p.val j = s.ideStream p.val j) ∧ { t with ports := s.ports } = s)
  ∧ (∀ (s : State) (p : Fin 4), s.present (fnKey p.val 0) = true →
    ((s.port p.val).spdm ≤ 5 → ∃ t, exec (.spdmGetVersion p) s = .next t ∧ (t.port p.val).spdm = 1
      ∧ t.out = .spdm p.val spVersion [0x12, 0x13] :: s.out ∧ { t with ports := s.ports, out := s.out } = s)
    ∧ ((s.port p.val).spdm = 1 → ∃ t, exec (.spdmGetCapabilities p) s = .next t ∧ (t.port p.val).spdm = 2
      ∧ t.out = .spdm p.val spCapabilities [] :: s.out ∧ { t with ports := s.ports, out := s.out } = s)
    ∧ ((s.port p.val).spdm = 2 → ∃ t, exec (.spdmNegotiateAlgorithms p) s = .next t ∧ (t.port p.val).spdm = 3
      ∧ t.out = .spdm p.val spAlgorithms [] :: s.out ∧ { t with ports := s.ports, out := s.out } = s)
    ∧ (3 ≤ (s.port p.val).spdm → (s.port p.val).spdm ≤ 5 →
      (∃ t, exec (.spdmGetDigests p) s = .next t ∧ { t with out := s.out } = s
        ∧ t.out = .spdm p.val spDigests (digestBytes (Config.sha384 s.chain).toNat) :: s.out)
      ∧ (∀ off len, ∃ t, exec (.spdmGetCertificate p off len) s = .next t ∧ { t with out := s.out } = s
        ∧ t.out = .spdm p.val spCertificate ((s.chain.drop off).take len) :: s.out)
      ∧ (∀ i, 1 ≤ i → i ≤ 12 → ∃ t, exec (.spdmGetMeasurements p i) s = .next t ∧ { t with out := s.out } = s
        ∧ t.out = .spdm p.val spMeasurements (s.measurement i) :: s.out))
    ∧ ((s.port p.val).spdm = 3 →
      (∀ nonce, ∃ t body, exec (.spdmChallenge p nonce) s = .next t ∧ t.out = .spdm p.val spChallenge body :: s.out
        ∧ (digestBytes (Config.sha384 s.chain).toNat).isPrefixOf body = true ∧ t.fresh = s.fresh + 1
        ∧ { t with out := s.out, fresh := s.fresh } = s)
      ∧ (∀ share, ∃ t body, exec (.spdmKeyExchange p share) s = .next t ∧ t.out = .spdm p.val spKeyExchange body :: s.out
        ∧ (t.port p.val).spdm = 4 ∧ (t.port p.val).spdmShare = share ∧ (t.port p.val).spdmKeys = 0))
    ∧ ((s.port p.val).spdm = 4 →
      (∃ t, exec (.spdmFinish p (Config.spdmVerify (s.port p.val).spdmShare (s.port p.val).spdmDraw)) s = .next t
        ∧ (t.port p.val).spdm = 5 ∧ t.out = .spdm p.val spFinish [] :: s.out)
      ∧ (∀ v, v ≠ Config.spdmVerify (s.port p.val).spdmShare (s.port p.val).spdmDraw →
        ∃ t, exec (.spdmFinish p v) s = .next t ∧ (t.port p.val).spdm = 3))
    ∧ ((s.port p.val).spdm = 5 →
      (∃ t, exec (.spdmHeartbeat p) s = .next t ∧ t.out = .spdm p.val spHeartbeat [] :: s.out ∧ { t with out := s.out } = s)
      ∧ (∃ t, exec (.spdmKeyUpdate p) s = .next t ∧ (t.port p.val).spdmKeys = (s.port p.val).spdmKeys + 1
        ∧ (t.port p.val).spdm = 5 ∧ t.out = .spdm p.val spKeyUpdate [] :: s.out)
      ∧ (∃ t, exec (.spdmEndSession p) s = .next t ∧ (t.port p.val).spdm = 3 ∧ t.out = .spdm p.val spEndSession [] :: s.out)))

/-- BME_CLEAR, BME_SET, D3HOT_ENTRY, D0_RETURN, PME_RETRY, PME_STATUS_CLEAR (R58, R60, R61, R62): what becomes of a function's bus
mastering and power state; while bus mastering is off, none of its work queues runs. Also FLR_INITIATE, FLR_DONE, VF_ENABLE_CLEAR (R63, R82, R83): the function is in its reset state and answers nothing until the
reset is done; VFs leave the hierarchy with VF Enable. -/
def Obligations.FunctionPowerMasteringAndReset : Prop :=
  (∀ (s : State) (f : FnRef), s.present (fkey f) = true → (s.fn (fkey f)).bme = true →
    ∃ t, exec (.bmeClear f) s = .next t ∧ (t.fn (fkey f)).bme = false
      ∧ (∀ k, k ≠ fkey f → (t.fn k).bme = (s.fn k).bme)
      ∧ (∀ q, q < qpBase → (s.wq q).fn = fkey f → (t.wq q).st = .masterOff ∨ (t.wq q).st = .disabled))
  ∧ (∀ (s : State) (f : FnRef), s.present (fkey f) = true → (s.fn (fkey f)).bme = false →
    ∃ t, exec (.bmeSet f) s = .next t ∧ (t.fn (fkey f)).bme = true ∧ (∀ k, k ≠ fkey f → (t.fn k).bme = (s.fn k).bme))
  ∧ (∀ (s : State) (f : FnRef), s.present (fkey f) = true → f.num.val < 4 → (s.fn (fkey f)).d3 = false →
    ∃ t, exec (.d3hotEntry f) s = .next t ∧ (t.fn (fkey f)).d3 = true ∧ (t.fn (fkey f)).bme = (s.fn (fkey f)).bme
      ∧ t.mastering (fkey f) = false ∧ (∀ k, k ≠ fkey f → (t.fn k).d3 = (s.fn k).d3))
  ∧ (∀ (s : State) (f : FnRef), s.present (fkey f) = true → (s.fn (fkey f)).d3 = true →
    ∃ t, exec (.d0Return f) s = .next t ∧ (t.fn (fkey f)).d3 = false ∧ (t.fn (fkey f)).bme = (s.fn (fkey f)).bme
      ∧ (∀ k, k ≠ fkey f → (t.fn k).d3 = (s.fn k).d3))
  ∧ (∀ (s : State) (f : FnRef), (s.fn (fkey f)).pmeStatus = true → (s.port f.port.val).up = true →
    ∃ t, exec (.pmeRetry f) s = .next t ∧ t.out = .pme (fkey f) :: s.out ∧ { t with out := s.out } = s)
  ∧ (∀ (s : State) (f : FnRef), s.present (fkey f) = true →
    ∃ t, exec (.pmeStatusClear f) s = .next t ∧ t.fn (fkey f) = { s.fn (fkey f) with pmeStatus := false }
      ∧ (∀ k, k ≠ fkey f → t.fn k = s.fn k) ∧ { t with fns := s.fns } = s)
  ∧ (∀ (s : State) (f : FnRef), s.present (fkey f) = true →
    ∃ t, exec (.flrInitiate f) s = .next t ∧ t.fn (fkey f) = { flr := true } ∧ t.present (fkey f) = false)
  ∧ (∀ (s : State) (f : FnRef), (s.fn (fkey f)).flr = true →
    ∃ t, exec (.flrDone f) s = .next t ∧ t.fn (fkey f) = { s.fn (fkey f) with flr := false }
      ∧ (∀ k, k ≠ fkey f → t.fn k = s.fn k) ∧ { t with fns := s.fns } = s)
  ∧ (∀ (s : State) (f : FnRef), s.present (fkey f) = true → f.num.val = 1 ∨ f.num.val = 2 → (s.fn (fkey f)).vfEnable = true →
    ∃ t, exec (.vfEnableClear f) s = .next t ∧ (t.fn (fkey f)).vfEnable = false
      ∧ (∀ n, 4 ≤ n → n < 516 → fnPf n = f.num.val → t.fn (fnKey f.port.val n) = {}))

/-- MGMT_TIME_LO_READ, LATE_CPL_READ, FAULT_SUMMARY_CLEAR (R45, R47, R48): the low part of the device time is returned and the
high part latched with it; LATE_CPL returns its count and clears; a 1 written to a fault bit clears it. Also SLICE_CNT_CLEAR, PF_CNT_CLEAR (R86): the counters named are 0, and no other changes. -/
def Obligations.StatusReadsAndCounterClears : Prop :=
  (∀ (s : State) (p : Fin 4), s.present (fnKey p.val 0) = true → (s.fn (fnKey p.val 0)).d3 = false →
    ∃ t, exec (.mgmtTimeLoRead p) s = .next t ∧ t.out = .read (s.time (portHalf p.val) % 2 ^ 31) :: s.out
      ∧ t.port p.val = { s.port p.val with timeHi := s.time (portHalf p.val) / 2 ^ 31 % 2 ^ 31 }
      ∧ (∀ q, q ≠ p.val → t.port q = s.port q) ∧ { t with ports := s.ports, out := s.out } = s)
  ∧ (∀ (s : State) (f : FnRef), s.present (fkey f) = true → (s.fn (fkey f)).d3 = false →
    ∃ t, exec (.lateCplRead f) s = .next t ∧ t.out = .read (s.fn (fkey f)).lateCpl :: s.out
      ∧ t.fn (fkey f) = { s.fn (fkey f) with lateCpl := 0 } ∧ (∀ k, k ≠ fkey f → t.fn k = s.fn k)
      ∧ { t with fns := s.fns, out := s.out } = s)
  ∧ (∀ (s : State) (f : FnRef) (v : BitVec 32), s.present (fkey f) = true → (s.fn (fkey f)).d3 = false →
    fnPf f.num.val = 1 ∨ fnPf f.num.val = 2 →
    ∃ t, exec (.faultSummaryClear f v) s = .next t
      ∧ (∀ i : Nat, i < 4 → (t.fn (fkey f)).faultSummary.getLsbD i = ((s.fn (fkey f)).faultSummary.getLsbD i && !v.getLsbD i))
      ∧ (∀ k, k ≠ fkey f → t.fn k = s.fn k) ∧ { t with fns := s.fns } = s)
  ∧ (∀ (s : State) (w : Who) (v : BitVec 16), s.grants w 0x6000 3 (leBytes 2 v.toNat) = true → s.cstl.split = false →
    v = 0xFFFF ∨ (s.slice v.toNat).used = true →
    ∃ t, exec (.sliceCntClear w v) s = .next t ∧ t.answered w rsOk []
      ∧ (∀ k, v = 0xFFFF ∨ k / 32 = v.toNat → mget t.sliceCnt k 0 = 0)
      ∧ (∀ k, v ≠ 0xFFFF → k / 32 ≠ v.toNat → mget t.sliceCnt k 0 = mget s.sliceCnt k 0)
      ∧ { t.quiet with sliceCnt := s.sliceCnt } = s.quiet)
  ∧ (∀ (s : State) (w : Who) (v : BitVec 8), s.grants w 0x6000 6 (leBytes 1 v.toNat) = true →
    v = 0xFF ∨ (v.toNat < 64 ∧ (v.toNat % 16 = 1 ∨ v.toNat % 16 = 2)) →
    ∃ t, exec (.pfCntClear w v) s = .next t ∧ t.answered w rsOk []
      ∧ (∀ k, v = 0xFF ∨ k = v.toNat → mget t.pfCnt k 0 = 0)
      ∧ (∀ k, v ≠ 0xFF → k ≠ v.toNat → mget t.pfCnt k 0 = mget s.pfCnt k 0)
      ∧ { t.quiet with pfCnt := s.pfCnt } = s.quiet)

/-- The slice commands (R71 to R75, R80, R81, R83, R85): with no command in hand and the halves joined, each takes the slice to
its state, answers in SLICE_CMD_RESULT, and leaves every other slice as it is. -/
def Obligations.SliceCommandsMoveSlices : Prop :=
  (∀ (s : State) (w : Who) (rec : BitVec 512) (x : Slice), s.grants w 0x5000 2 (leBytes 64 (withOp rec 1).toNat) = true →
    s.cstl.split = false → s.mgmt.sliceQ = [] → s.createBad (withOp rec 1) = false → s.allot (withOp rec 1) = some x →
    ∃ t, exec (.sliceCreate w rec) s = .next t ∧ t.answered w rsOk [] ∧ t.slice (recId rec) = x ∧ x.st = .disabled
      ∧ x.record = withOp rec 1 ∧ (∀ i, i ≠ recId rec → t.slice i = s.slice i) ∧ t.mgmt.sliceQ = []
      ∧ t.sel w.sess (obj 0x5000 3) 0 = 256 + stOk)
  ∧ (∀ (s : State) (w : Who) (rec : BitVec 512), s.grants w 0x5000 2 (leBytes 64 (withOp rec 1).toNat) = true →
    s.cstl.split = false → s.mgmt.sliceQ = [] → s.createBad (withOp rec 1) = true →
    (s.slice (recId rec)).st ≠ .disabling → (s.slice (recId rec)).st ≠ .destroying →
    ∃ t, exec (.sliceCreate w rec) s = .next t ∧ t.answered w rsOk [] ∧ t.slices = s.slices
      ∧ t.sel w.sess (obj 0x5000 3) 0 = (s.slice (recId rec)).st.code * 256 + stRange)
  ∧ (∀ (s : State) (w : Who) (rec : BitVec 512), s.grants w 0x5000 2 (leBytes 64 (withOp rec 2).toNat) = true →
    s.cstl.split = false → s.mgmt.sliceQ = [] → recId rec < 4096 →
    (s.slice (recId rec)).st = .disabled ∨ (s.slice (recId rec)).st = .enabled →
    ∃ t, exec (.sliceEnable w rec) s = .next t ∧ t.answered w rsOk []
      ∧ t.slice (recId rec) = { s.slice (recId rec) with st := .enabled } ∧ (∀ i, i ≠ recId rec → t.slice i = s.slice i)
      ∧ t.wqs = s.wqs ∧ t.cqs = s.cqs ∧ t.mgmt.sliceQ = [])
  ∧ (∀ (s : State) (w : Who) (rec : BitVec 512), s.grants w 0x5000 2 (leBytes 64 (withOp rec 3).toNat) = true →
    s.cstl.split = false → s.mgmt.sliceQ = [] → recId rec < 4096 → (s.slice (recId rec)).st = .enabled →
    s.storage.detachWait = [] →
    ∃ t, exec (.sliceDisable w rec) s = .next t ∧ t.answered w rsOk []
      ∧ (s.sliceIdle (recId rec) = true → (t.slice (recId rec)).st = .disabled ∧ t.mgmt.sliceQ = [])
      ∧ ((t.slice (recId rec)).st = .disabling ∨ (t.slice (recId rec)).st = .disabled)
      ∧ (t.slice (recId rec)).record = (s.slice (recId rec)).record)
  ∧ (∀ (s : State) (w : Who) (rec : BitVec 512), s.grants w 0x5000 2 (leBytes 64 (withOp rec 4).toNat) = true →
    s.cstl.split = false → s.mgmt.sliceQ = [] → recId rec < 4096 →
    (s.slice (recId rec)).st = .disabled ∨ (s.slice (recId rec)).st = .enabled →
    ∃ t, exec (.sliceReset w rec) s = .next t ∧ t.answered w rsOk []
      ∧ (t.slice (recId rec)).st = (s.slice (recId rec)).st ∧ (t.slice (recId rec)).record = (s.slice (recId rec)).record
      ∧ (∀ k, k < qpBase → inBlocks (recHome (s.slice (recId rec)).record) 65536 (s.slice (recId rec)).wqs k = true →
          (t.wq k).st = .disabled))
  ∧ (∀ (s : State) (w : Who) (rec : BitVec 512), s.grants w 0x5000 2 (leBytes 64 (withOp rec 5).toNat) = true →
    s.cstl.split = false → s.mgmt.sliceQ = [] → recId rec < 4096 → (s.slice (recId rec)).st = .disabled →
    (s.port (recPort (s.slice (recId rec)).record)).tags.all (fun e => e.2.slice != recId rec) = true →
    ∃ t, exec (.sliceDestroy w rec) s = .next t ∧ t.answered w rsOk [] ∧ t.slice (recId rec) = {} ∧ t.mgmt.sliceQ = []
      ∧ t.sel w.sess (obj 0x5000 3) 0 = stOk)
  ∧ (∀ (s : State) (w : Who) (rec : BitVec 512), s.grants w 0x5000 2 (leBytes 64 (withOp rec 6).toNat) = true →
    s.cstl.split = false → s.mgmt.sliceQ = [] → recId rec < 4096 →
    (s.slice (recId rec)).st = .disabled ∨ (s.slice (recId rec)).st = .enabled →
    recHostMin rec ≤ recHostMax rec → fld rec 336 16 ≤ 1023 → recHostMin rec ≤ 4096 → recWeight rec ≠ 0 →
    s.hostMinSum (recPort (s.slice (recId rec)).record) (recId rec) + recHostMin rec ≤ 4096 →
    ∃ t, exec (.sliceSetQos w rec) s = .next t ∧ t.answered w rsOk []
      ∧ recHostMin (t.slice (recId rec)).record = recHostMin rec ∧ recHostMax (t.slice (recId rec)).record = recHostMax rec
      ∧ recMinIrq (t.slice (recId rec)).record = recMinIrq rec ∧ recWeight (t.slice (recId rec)).record = recWeight rec
      ∧ { t.slice (recId rec) with record := (s.slice (recId rec)).record } = s.slice (recId rec)
      ∧ (∀ i, i ≠ recId rec → t.slice i = s.slice i))
  ∧ (∀ (s : State) (c : SliceCmd) (rest : List SliceCmd), s.mgmt.sliceQ = c :: rest → c.started = false → recOp c.record = 2 →
    recId c.record < 4096 → (s.slice (recId c.record)).st = .disabled →
    ∃ t, exec .sliceCmdDequeue s = .next t ∧ t.mgmt.sliceQ = rest ∧ (t.slice (recId c.record)).st = .enabled
      ∧ { t with slices := s.slices, mgmt := s.mgmt } = s)

/-- WQ_DOORBELL, WQ_PUSH_WRITE, WQ_ENABLE, WQ_DISABLE, WQ_ABORT and the reads that clear (R9, R90, R97, R98, R102, R111, R117): a
doorbell value is taken only while it does not go backward and stays within the ring, else it is ignored and counted; a queue runs
from its published head, and drains when it is disabled. -/
def Obligations.WorkQueueRegisters : Prop :=
  (∀ (s : State) (q : QRef) (pi : BitVec 16) (h : Half) (e sl : Nat), s.reachesFrame q 0 h e sl = true →
    ∃ t, exec (.wqDoorbell q pi) s = .next t
      ∧ ((s.wq (wqKey h e)).st = .running → s.sliceOn (s.wq (wqKey h e)).slice = true →
          (s.wq (wqKey h e)).doorbellOk pi = true →
          (t.wq (wqKey h e)).doorbell = pi ∧ (t.wq (wqKey h e)).push = []
            ∧ (t.wq (wqKey h e)).dbIgnored = (s.wq (wqKey h e)).dbIgnored)
      ∧ ((s.wq (wqKey h e)).st ≠ .running ∨ (s.wq (wqKey h e)).doorbellOk pi = false →
          t.wq (wqKey h e) = { s.wq (wqKey h e) with dbIgnored := sat31 (s.wq (wqKey h e)).dbIgnored })
      ∧ (t.wq (wqKey h e)).fetched = (s.wq (wqKey h e)).fetched ∧ (t.wq (wqKey h e)).started = (s.wq (wqKey h e)).started
      ∧ (∀ k, k ≠ wqKey h e → t.wq k = s.wq k) ∧ { t with wqs := s.wqs } = s)
  ∧ (∀ (s : State) (q : QRef) (unit : Fin 4) (data : BitVec 512) (full : Bool) (h : Half) (e sl : Nat),
    s.reachesFrame q 0 h e sl = true → (s.wq (wqKey h e)).st = .running → s.sliceOn (s.wq (wqKey h e)).slice = true →
    ∃ t, exec (.wqPushWrite q unit data full) s = .next t ∧ mfind (t.wq (wqKey h e)).push unit.val = some (data, full)
      ∧ { t.wq (wqKey h e) with push := (s.wq (wqKey h e)).push } = s.wq (wqKey h e)
      ∧ (∀ k, k ≠ wqKey h e → t.wq k = s.wq k) ∧ { t with wqs := s.wqs } = s)
  ∧ (∀ (s : State) (q : QRef) (h : Half) (e sl : Nat), s.reachesFrame q 0 h e sl = true →
    (s.wq (wqKey h e)).st = .disabled ∨ (s.wq (wqKey h e)).st = .fetchFault →
    ∃ t, exec (.wqEnable q) s = .next t
      ∧ (6 ≤ (s.wq (wqKey h e)).logSize → (s.wq (wqKey h e)).logSize ≤ 15 →
          s.cqOk h 0 sl (s.wq (wqKey h e)).cq.toNat = true →
          (t.wq (wqKey h e)).st = .running ∧ (t.wq (wqKey h e)).cfgErr = false ∧ (t.wq (wqKey h e)).fetched = []
            ∧ (t.wq (wqKey h e)).doorbell = (s.wq (wqKey h e)).head ∧ (t.wq (wqKey h e)).head = (s.wq (wqKey h e)).head
            ∧ (t.wq (wqKey h e)).slice = sl)
      ∧ ((s.wq (wqKey h e)).logSize < 6 ∨ 15 < (s.wq (wqKey h e)).logSize ∨
          s.cqOk h 0 sl (s.wq (wqKey h e)).cq.toNat = false →
          t.wq (wqKey h e) = { s.wq (wqKey h e) with cfgErr := true })
      ∧ (∀ k, k ≠ wqKey h e → t.wq k = s.wq k) ∧ { t with wqs := s.wqs } = s)
  ∧ (∀ (s : State) (q : QRef) (h : Half) (e sl : Nat), s.reachesFrame q 0 h e sl = true →
    (s.wq (wqKey h e)).st = .running →
    ∃ t, exec (.wqDisable q) s = .next t ∧ (t.wq (wqKey h e)).fetched = []
      ∧ (t.wq (wqKey h e)).fetchPt = (s.wq (wqKey h e)).head ∧ (t.wq (wqKey h e)).started = (s.wq (wqKey h e)).started
      ∧ ((s.wq (wqKey h e)).started ≠ [] → (t.wq (wqKey h e)).st = .draining)
      ∧ ((s.wq (wqKey h e)).started = [] → 4096 ≤ (s.wq (wqKey h e)).slice → (t.wq (wqKey h e)).st = .disabled))
  ∧ (∀ (s : State) (q : QRef) (i tag atag : BitVec 16) (h : Half) (e sl : Nat), s.reachesFrame q 0 h e sl = true →
    (s.wq (wqKey h e)).st = .running → (s.wq (wqKey h e)).abort = none →
    (s.wq (wqKey h e)).fetched.any (fun x => x.index = i && x.tag = tag) = false →
    (s.wq (wqKey h e)).started.any (fun x => x.index = i && x.tag = tag) = true →
    ∃ t, exec (.wqAbort q i tag atag) s = .next t
      ∧ t.wq (wqKey h e) = { s.wq (wqKey h e) with abort := some { index := i, tag := tag, atag := atag } }
      ∧ (∀ k, k ≠ wqKey h e → t.wq k = s.wq k) ∧ { t with wqs := s.wqs } = s)
  ∧ (∀ (s : State) (q : QRef) (h : Half) (e sl : Nat), s.reachesFrame q 0 h e sl = true →
    (∃ t, exec (.wqMalformedRead q) s = .next t ∧ t.out = .read (s.wq (wqKey h e)).malformed :: s.out
      ∧ t.wq (wqKey h e) = { s.wq (wqKey h e) with malformed := 0 } ∧ (∀ k, k ≠ wqKey h e → t.wq k = s.wq k)
      ∧ { t with wqs := s.wqs, out := s.out } = s)
    ∧ (∃ t, exec (.wqDbIgnoredRead q) s = .next t ∧ t.out = .read (s.wq (wqKey h e)).dbIgnored :: s.out
      ∧ t.wq (wqKey h e) = { s.wq (wqKey h e) with dbIgnored := 0 } ∧ (∀ k, k ≠ wqKey h e → t.wq k = s.wq k)
      ∧ { t with wqs := s.wqs, out := s.out } = s))

/-- WQ_FETCH, MALFORMED_ENTRY, NOP_ENTRY, ETH_SEND_ENTRY (R93, R94, R96, R101, R108, R112): a fetch appends the next entry to the
fetched ones, and a failed fetch puts the queue into FETCH_FAULT; the first fetched entry starts with a reserved CQ slot, and ends
with its status where it has no frame to send. -/
def Obligations.WorkEntriesFetchAndStart : Prop :=
  (∀ (s : State) (k : Nat) (slots : List (BitVec 512)) (e : Entry), k < qpBase → s.canFetch k = true →
    (s.wq k).nextEntry slots = some e → e.units ≤ dist (s.wq k).fetchPt (s.wq k).doorbell → (s.wq k).abort = none →
    ∃ t, exec (.wqFetch k (some slots)) s = .next t ∧ (t.wq k).fetched = (s.wq k).fetched ++ [e] ∧ e.index = (s.wq k).fetchPt
      ∧ (t.wq k).fetchPt = (s.wq k).fetchPt + BitVec.ofNat 16 e.units ∧ (t.wq k).head = (s.wq k).head
      ∧ (∀ j, j ≠ k → t.wq j = s.wq j) ∧ { t with wqs := s.wqs } = s)
  ∧ (∀ (s : State) (k : Nat), k < qpBase → s.canFetch k = true → (s.wq k).nextEntry [] = none → (s.wq k).started ≠ [] →
    4096 ≤ (s.wq k).slice →
    ∃ t, exec (.wqFetch k none) s = .next t ∧ (t.wq k).st = .fetchFault ∧ (t.wq k).fetched = []
      ∧ (t.wq k).started = (s.wq k).started ∧ bit (t.fn (s.wq k).fn).faultSummary 0 = true)
  ∧ (∀ (s : State) (k : Nat) (e : Entry), k < qpBase → s.nextStart k = some e → s.entryBad k e = true →
    s.slotFor (s.queueCq k) k = true →
    ∃ t, exec (.malformedEntry k) s = .next t ∧ (t.wq k).malformed = sat31 (s.wq k).malformed
      ∧ (t.wq k).lastDone = some e.index ∧ (∀ x ∈ (t.wq k).fetched, x.index ≠ e.index))
  ∧ (∀ (s : State) (k : Nat) (e : Entry) (canWrite : Bool), k < qpBase → s.nextStart k = some e → e.opcode = 0 →
    s.entryBad k e = false → s.slotFor (s.queueCq k) k = true →
    ∃ t, exec (.nopEntry k canWrite) s = .next t ∧ (t.wq k).lastDone = some e.index
      ∧ (t.wq k).malformed = (s.wq k).malformed ∧ (∀ x ∈ (t.wq k).fetched, x.index ≠ e.index))
  ∧ (∀ (s : State) (k n : Nat) (e : Entry) (bs : List Byte) (canWrite : Bool), k < qpBase → s.nextStart k = some e →
    e.opcode = 1 → (s.wq k).ethBad e = false → e.isInline = false → s.slotFor (s.queueCq k) k = true →
    (s.wq k).slice < 4096 → steerPort (s.txSteer (qHalf k) (s.wq k).slice) e.txMeta = some n →
    ethHalf n = qHalf k → (s.slice (s.wq k).slice).st = .enabled →
    ∃ t, exec (.ethSendEntry k (some bs) canWrite) s = .next t ∧ e ∈ (t.wq k).started
      ∧ (∃ f, (t.half (ethHalf n)).cls.flight = (s.half (ethHalf n)).cls.flight ++ [f] ∧ f.dir = true ∧ f.port = n
          ∧ f.wq = k ∧ f.entry = e.index ∧ f.bytes = padFrame (fit e.frameLen bs) ∧ mdSlice f.md = (s.wq k).slice)
      ∧ (t.cq (s.queueCq k)).reserved = (s.cq (s.queueCq k)).reserved + 1)

/-- XPORT_RX_DELIVER, BLOTTER_TIME_DUE, SLICE_INTERVAL_END (R77, R109, R114): a frame for a queue without a fetched receive entry
is dropped and counted; a frame of the RDMA transport leaves for it; an interrupt that time makes due is handed over; the interval
of a slice ends and its next vectors are passed. -/
def Obligations.DeliveryAndInterruptTiming : Prop :=
  (∀ (s s1 : State) (h : Half) (f : Frame) (canWrite : Bool), s.forwards h = true →
    s.takeFlight h (·.stage = .xport) = some (f, s1) → f.forRdma = true →
    exec (.xportRxDeliver h canWrite) s = .next s1)
  ∧ (∀ (s s1 : State) (h : Half) (f : Frame) (e : Nat) (canWrite : Bool), s.forwards h = true →
    s.takeFlight h (·.stage = .xport) = some (f, s1) → f.forRdma = false →
    blkNth (s.slice (mdSlice f.md)).wqs (mdQueue f.md) = some e →
    (s.slice (mdSlice f.md)).st = .enabled → (s.fn (recFn (s.slice (mdSlice f.md)).record)).d3 = false →
    (s.fn (recFn (s.slice (mdSlice f.md)).record)).flr = false →
    (s.port (keyPort (recFn (s.slice (mdSlice f.md)).record))).up = true →
    (s.queue (wqKey (recHome (s.slice (mdSlice f.md)).record) e)).fetched = [] →
    ∃ t, exec (.xportRxDeliver h canWrite) s = .next t
      ∧ t = s1.countSlice (recHome (s.slice (mdSlice f.md)).record) (mdSlice f.md) cRxNobuf 1)
  ∧ (∀ (s : State) (k : Nat), (s.cq k).irqEn = true → 0 < (s.cq k).u → (s.cq k).due = false → (s.fn (s.cq k).fn).d3 = false →
    4096 ≤ (s.cq k).slice →
    ∃ t, exec (.blotterTimeDue k) s = .next t ∧ (t.cq k).u = 0
      ∧ (s.cq k).t0 + (s.cq k).modTime * 1000 ≤ t.time (portHalf (keyPort (s.cq k).fn))
      ∧ (∀ j, j ≠ k → t.cq j = s.cq j) ∧ t.wqs = s.wqs)
  ∧ (∀ (s : State) (id l : Nat), (s.slice id).lastMsg = some l → (s.slice id).heldVecs = [] →
    ∃ t, exec (.sliceIntervalEnd id) s = .next t ∧ (t.slice id).lastMsg = none ∧ (t.slice id).heldVecs = []
      ∧ l + recMinIrq (s.slice id).record * 1000 ≤ t.time (recHome (s.slice id).record)
      ∧ (∀ i, i ≠ id → t.slice i = s.slice i) ∧ t.wqs = s.wqs ∧ t.cqs = s.cqs ∧ t.out = s.out)

/-- CQ_HEAD_WRITE, CQ_ENABLE, CQ_DISABLE, CQ_CFG_WRITE, CQ_NOSLOT_READ (R99, R100, R105): HEAD moves only as far as TAIL; an enabled
CQ is empty; a CQ with an enabled queue bound to it stays enabled; LOG_SIZE is taken only while ENABLE is 0. -/
def Obligations.CompletionQueueRegisters : Prop :=
  (∀ (s : State) (q : QRef) (v : BitVec 16) (h : Half) (e sl : Nat), s.reachesFrame q 1 h e sl = true →
    dist (s.cq (cqFrameKey q h e)).head (s.cq (cqFrameKey q h e)).tail < dist (s.cq (cqFrameKey q h e)).head v →
    ∃ t, exec (.cqHeadWrite q v) s = .next t
      ∧ t.cq (cqFrameKey q h e) = { s.cq (cqFrameKey q h e) with headErr := true }
      ∧ (∀ k, k ≠ cqFrameKey q h e → t.cq k = s.cq k) ∧ { t with cqs := s.cqs } = s)
  ∧ (∀ (s : State) (q : QRef) (v : BitVec 16) (h : Half) (e sl : Nat), s.reachesFrame q 1 h e sl = true →
    dist (s.cq (cqFrameKey q h e)).head v ≤ dist (s.cq (cqFrameKey q h e)).head (s.cq (cqFrameKey q h e)).tail →
    (s.fn (s.cq (cqFrameKey q h e)).fn).due = [] →
    ∃ t, exec (.cqHeadWrite q v) s = .next t ∧ t.cq (cqFrameKey q h e) = { s.cq (cqFrameKey q h e) with head := v }
      ∧ (∀ k, k ≠ cqFrameKey q h e → t.cq k = s.cq k))
  ∧ (∀ (s : State) (q : QRef) (h : Half) (e sl : Nat), s.reachesFrame q 1 h e sl = true →
    (s.cq (cqFrameKey q h e)).enable = false → 4 ≤ (s.cq (cqFrameKey q h e)).logSize →
    ∃ t, exec (.cqEnable q) s = .next t ∧ (t.cq (cqFrameKey q h e)).enable = true ∧ (t.cq (cqFrameKey q h e)).head = 0
      ∧ (t.cq (cqFrameKey q h e)).tail = 0 ∧ (t.cq (cqFrameKey q h e)).reserved = 0
      ∧ (t.cq (cqFrameKey q h e)).cfgErr = false ∧ (t.cq (cqFrameKey q h e)).slice = sl
      ∧ (∀ k, k ≠ cqFrameKey q h e → t.cq k = s.cq k) ∧ t.wqs = s.wqs)
  ∧ (∀ (s : State) (q : QRef) (h : Half) (e sl : Nat), s.reachesFrame q 1 h e sl = true →
    (s.cq (cqFrameKey q h e)).enable = true →
    ∃ t, exec (.cqDisable q) s = .next t
      ∧ (s.cqBound (cqFrameKey q h e) = true → t = s)
      ∧ (s.cqBound (cqFrameKey q h e) = false → (t.cq (cqFrameKey q h e)).enable = false
          ∧ (t.cq (cqFrameKey q h e)).heldCpl = [] ∧ (t.cq (cqFrameKey q h e)).reserved = 0
          ∧ (∀ k, k ≠ cqFrameKey q h e → t.cq k = s.cq k)))
  ∧ (∀ (s : State) (q : QRef) (cfg md : BitVec 32) (h : Half) (e sl : Nat), s.reachesFrame q 1 h e sl = true →
    ∃ t, exec (.cqCfgWrite q cfg md) s = .next t
      ∧ (t.cq (cqFrameKey q h e)).irqEn = cfg.getLsbD 20 ∧ (t.cq (cqFrameKey q h e)).vector = cfg.toNat % 2 ^ 11
      ∧ (t.cq (cqFrameKey q h e)).modTime = md.toNat / 2 ^ 16 % 2 ^ 10 ∧ (t.cq (cqFrameKey q h e)).modCount = md.toNat % 2 ^ 8
      ∧ ((s.cq (cqFrameKey q h e)).enable = true → (t.cq (cqFrameKey q h e)).logSize = (s.cq (cqFrameKey q h e)).logSize)
      ∧ ((s.cq (cqFrameKey q h e)).enable = false → (t.cq (cqFrameKey q h e)).logSize = cfg.toNat / 2 ^ 16 % 2 ^ 4)
      ∧ (t.cq (cqFrameKey q h e)).head = (s.cq (cqFrameKey q h e)).head
      ∧ (t.cq (cqFrameKey q h e)).tail = (s.cq (cqFrameKey q h e)).tail
      ∧ (∀ k, k ≠ cqFrameKey q h e → t.cq k = s.cq k) ∧ { t with cqs := s.cqs } = s)
  ∧ (∀ (s : State) (q : QRef) (h : Half) (e sl : Nat), s.reachesFrame q 1 h e sl = true →
    ∃ t, exec (.cqNoslotRead q) s = .next t ∧ t.out = .read (s.cq (cqFrameKey q h e)).noslot :: s.out
      ∧ t.cq (cqFrameKey q h e) = { s.cq (cqFrameKey q h e) with noslot := 0 }
      ∧ (∀ k, k ≠ cqFrameKey q h e → t.cq k = s.cq k) ∧ { t with cqs := s.cqs, out := s.out } = s)

/-- CPY_DOORBELL, CPY_ENABLE, CPY_DISABLE, CPY_FETCH, CPY_GATE_EVAL, CPY_ABORT, CPY_FAULT_CLEAR and the reads that clear (R122 to
R126, R129, R131, R132, R135). -/
def Obligations.CopyChannelRegisters : Prop :=
  (∀ (s : State) (p : Fin 4) (c : Fin 64) (pi : BitVec 16), s.reachesChan p = true →
    ∃ t, exec (.cpyDoorbell p c pi) s = .next t
      ∧ ((s.chan (chanKey p c)).st = .running →
          dist (s.chan (chanKey p c)).oldest (s.chan (chanKey p c)).doorbell ≤ dist (s.chan (chanKey p c)).oldest pi →
          dist (s.chan (chanKey p c)).oldest pi ≤ 2 ^ (s.chan (chanKey p c)).logSize →
          t.chan (chanKey p c) = { s.chan (chanKey p c) with doorbell := pi, stopped := false })
      ∧ ((s.chan (chanKey p c)).st ≠ .running →
          t.chan (chanKey p c) = { s.chan (chanKey p c) with dbIgnored := sat31 (s.chan (chanKey p c)).dbIgnored })
      ∧ (∀ k, k ≠ chanKey p c → t.chan k = s.chan k) ∧ { t with chans := s.chans } = s)
  ∧ (∀ (s : State) (p : Fin 4) (c : Fin 64), s.reachesChan p = true → (s.chan (chanKey p c)).st = .disabled →
    (s.chan (chanKey p c)).paced = false → 4 ≤ (s.chan (chanKey p c)).logSize → (s.cq (chanCq (chanKey p c))).enable = true →
    ∃ t, exec (.cpyEnable p c) s = .next t ∧ (t.chan (chanKey p c)).st = .running ∧ (t.chan (chanKey p c)).cfgErr = false
      ∧ (t.chan (chanKey p c)).fetched = [] ∧ (t.chan (chanKey p c)).fetchPt = (s.chan (chanKey p c)).head
      ∧ (t.chan (chanKey p c)).doorbell = (s.chan (chanKey p c)).head
      ∧ (∀ k, k ≠ chanKey p c → t.chan k = s.chan k) ∧ { t with chans := s.chans } = s)
  ∧ (∀ (s : State) (p : Fin 4) (c : Fin 64), s.reachesChan p = true → (s.chan (chanKey p c)).st = .running →
    ∃ t, exec (.cpyDisable p c) s = .next t ∧ (t.chan (chanKey p c)).fetched = []
      ∧ (t.chan (chanKey p c)).fetchPt = (s.chan (chanKey p c)).head
      ∧ ((s.chan (chanKey p c)).run.isSome = true → (t.chan (chanKey p c)).st = .draining)
      ∧ ((s.chan (chanKey p c)).run = none → (t.chan (chanKey p c)).st = .disabled))
  ∧ (∀ (s : State) (p : Fin 4) (c : Fin 64) (d : BitVec 256), (s.chan (chanKey p c)).st = .running →
    s.mastering (chanFn (chanKey p c)) = true → s.forwards (chanHalfOf (chanKey p c)) = true →
    (s.chan (chanKey p c)).stopped = false → (s.chan (chanKey p c)).fetched.length < 16 →
    (s.chan (chanKey p c)).fetchPt ≠ (s.chan (chanKey p c)).doorbell → (s.chan (chanKey p c)).abort = none →
    ∃ t, exec (.cpyFetch p c (some d)) s = .next t
      ∧ (d.getLsbD 63 = true → t.chan (chanKey p c) = { s.chan (chanKey p c) with
          fetchPt := (s.chan (chanKey p c)).fetchPt + 1
          fetched := (s.chan (chanKey p c)).fetched ++ [((s.chan (chanKey p c)).fetchPt, d)] })
      ∧ (d.getLsbD 63 = false → t.chan (chanKey p c) = { s.chan (chanKey p c) with stopped := true })
      ∧ (∀ k, k ≠ chanKey p c → t.chan k = s.chan k) ∧ { t with chans := s.chans } = s)
  ∧ (∀ (s : State) (p : Fin 4) (c : Fin 64) (f : Nat), (s.chan (chanKey p c)).paced = true →
    (s.chan (chanKey p c)).st = .running → s.watchFill (chanKey p c) = some f →
    ∃ t, exec (.cpyGateEval p c) s = .next t ∧ (t.chan (chanKey p c)).fill = f ∧ (t.chan (chanKey p c)).watchLost = false
      ∧ ((s.chan (chanKey p c)).high ≤ f → (t.chan (chanKey p c)).gate = true)
      ∧ (f < (s.chan (chanKey p c)).high → f ≤ (s.chan (chanKey p c)).low → (t.chan (chanKey p c)).gate = false)
      ∧ (f < (s.chan (chanKey p c)).high → (s.chan (chanKey p c)).low < f →
          (t.chan (chanKey p c)).gate = (s.chan (chanKey p c)).gate)
      ∧ (∀ k, k ≠ chanKey p c → t.chan k = s.chan k) ∧ { t with chans := s.chans } = s)
  ∧ (∀ (s : State) (p : Fin 4) (c : Fin 64), (s.chan (chanKey p c)).paced = true →
    (s.chan (chanKey p c)).st = .running → s.watchFill (chanKey p c) = none →
    ∃ t, exec (.cpyGateEval p c) s = .next t ∧ (t.chan (chanKey p c)).fill = 0 ∧ (t.chan (chanKey p c)).watchLost = true
      ∧ (t.chan (chanKey p c)).gate = false
      ∧ ((s.chan (chanKey p c)).watchLost = false → (t.port p.val).cpyFault.getLsbD c.val = true))
  ∧ (∀ (s : State) (p : Fin 4) (c : Fin 64) (i tag atag : BitVec 16) (r : CopyRun), s.reachesChan p = true →
    (s.chan (chanKey p c)).st = .running → (s.chan (chanKey p c)).abort = none → (s.chan (chanKey p c)).run = some r →
    r.index = i → dTag r.headDesc = tag → (s.chan (chanKey p c)).fetched = [] →
    ∃ t, exec (.cpyAbort p c i tag atag) s = .next t
      ∧ t.chan (chanKey p c) = { s.chan (chanKey p c) with abort := some { index := i, tag := tag, atag := atag } }
      ∧ (∀ k, k ≠ chanKey p c → t.chan k = s.chan k) ∧ { t with chans := s.chans } = s)
  ∧ (∀ (s : State) (p r : Fin 4) (v : BitVec 32), s.reachesChan p = true →
    ∃ t, exec (.cpyFaultClear p r v) s = .next t
      ∧ (∀ i : Nat, i < 64 → (t.port p.val).cpyFault.getLsbD i =
          ((s.port p.val).cpyFault.getLsbD i && !(decide (i / 16 = r.val) && v.getLsbD (i % 16))))
      ∧ (∀ q, q ≠ p.val → t.port q = s.port q) ∧ { t with ports := s.ports } = s)
  ∧ (∀ (s : State) (p : Fin 4) (c : Fin 64), s.reachesChan p = true →
    (∃ t, exec (.cpyChMalformedRead p c) s = .next t ∧ t.out = .read (s.chan (chanKey p c)).malformed :: s.out
      ∧ t.chan (chanKey p c) = { s.chan (chanKey p c) with malformed := 0 }
      ∧ (∀ k, k ≠ chanKey p c → t.chan k = s.chan k) ∧ { t with chans := s.chans, out := s.out } = s)
    ∧ (∃ t, exec (.cpyChDbIgnoredRead p c) s = .next t ∧ t.out = .read (s.chan (chanKey p c)).dbIgnored :: s.out
      ∧ t.chan (chanKey p c) = { s.chan (chanKey p c) with dbIgnored := 0 }
      ∧ (∀ k, k ≠ chanKey p c → t.chan k = s.chan k) ∧ { t with chans := s.chans, out := s.out } = s))

/-- COPY_DESC, FILL_DESC, COMPARE_DESC, CHAIN_HOP_FETCH, DESC_END (R127, R128, R130, R133, R134): what each step does to the
descriptor in execution. COPY appends the bytes it read, FILL the constant's bytes by the offset in the chain, COMPARE stops at
the first difference; a chain goes on below the hop limit and ends at it; the end of a descriptor writes its ring slot with OWN 0. -/
def Obligations.CopyDescriptorsExecute : Prop :=
  (∀ (s : State) (p : Fin 4) (c : Fin 64) (bs : List Byte) (r : CopyRun), (s.chan (chanKey p c)).run = some r →
    dOp r.headDesc = 1 → r.result = none → s.chanOn (chanKey p c) = true → bs ≠ [] → bs.length ≤ r.left →
    ∃ t x, exec (.copyDesc p c { bytes := bs, failed := false }) s = .next t ∧ (t.chan (chanKey p c)).run = some x
      ∧ x.data = r.data ++ bs ∧ x.total = r.total + bs.length ∧ x.hopDone = r.hopDone + bs.length ∧ x.hop = r.hop
      ∧ (bs.length < r.left → x.result = none)
      ∧ (bs.length = r.left → dChain r.hop = false → x.result = some (BitVec.ofNat 8 stOk, x.total))
      ∧ (∀ k, k ≠ chanKey p c → t.chan k = s.chan k) ∧ { t with chans := s.chans } = s)
  ∧ (∀ (s : State) (p : Fin 4) (c : Fin 64) (r : CopyRun), (s.chan (chanKey p c)).run = some r →
    dOp r.headDesc = 2 → r.result = none → s.chanOn (chanKey p c) = true → r.hopDone ≤ dLen r.hop →
    ∃ t x, exec (.fillDesc p c) s = .next t ∧ (t.chan (chanKey p c)).run = some x ∧ x.hopDone = dLen r.hop
      ∧ x.total = r.total + r.left ∧ x.data.length = r.data.length + r.left
      ∧ (∀ i, i < r.left → x.data[r.data.length + i]? =
          some (BitVec.ofNat 8 (dSrc r.headDesc / 2 ^ (8 * ((r.total + i) % 8)))))
      ∧ (∀ k, k ≠ chanKey p c → t.chan k = s.chan k) ∧ { t with chans := s.chans } = s)
  ∧ (∀ (s : State) (p : Fin 4) (c : Fin 64) (a b : List Byte) (r : CopyRun), (s.chan (chanKey p c)).run = some r →
    dOp r.headDesc = 3 → r.result = none → s.chanOn (chanKey p c) = true → a.length = r.left → b.length = r.left →
    ∃ t x, exec (.compareDesc p c { bytes := a, failed := false } { bytes := b, failed := false }) s = .next t
      ∧ (t.chan (chanKey p c)).run = some x ∧ x.data = r.data
      ∧ (a = b → x.total = r.total + r.left ∧ x.hopDone = r.hopDone + r.left)
      ∧ (∀ n, n < r.left → a.take n = b.take n → a[n]? ≠ b[n]? →
          x.result = some (BitVec.ofNat 8 stMismatch, r.total + n) ∧ x.total = r.total + n)
      ∧ (∀ k, k ≠ chanKey p c → t.chan k = s.chan k) ∧ { t with chans := s.chans } = s)
  ∧ (∀ (s : State) (p : Fin 4) (c : Fin 64) (d : BitVec 256) (r : CopyRun), (s.chan (chanKey p c)).run = some r →
    r.result = none → dChain r.hop = true → r.left = 0 → s.chanOn (chanKey p c) = true →
    ∃ t x, exec (.chainHopFetch p c (some d)) s = .next t ∧ (t.chan (chanKey p c)).run = some x
      ∧ (r.hops < s.hopLimit p.val → x.hop = d ∧ x.hops = r.hops + 1 ∧ x.hopDone = 0 ∧ x.total = r.total ∧ x.data = r.data)
      ∧ (s.hopLimit p.val ≤ r.hops → x = { r with result := some (BitVec.ofNat 8 stChainLimit, r.total) })
      ∧ (∀ k, k ≠ chanKey p c → t.chan k = s.chan k) ∧ { t with chans := s.chans } = s)
  ∧ (∀ (s : State) (p : Fin 4) (c : Fin 64) (canWrite : Bool) (r : CopyRun) (st : BitVec 8) (n : Nat),
    (s.chan (chanKey p c)).run = some r → r.result = some (st, n) → st.toNat ≠ stMasterOff →
    ∃ t, exec (.descEnd p c canWrite) s = .next t ∧ (t.chan (chanKey p c)).run = none
      ∧ (t.chan (chanKey p c)).lastDone = some r.index
      ∧ .copySlot (chanKey p c) r.index (dDone r.headDesc st.toNat) ∈ t.out ∧ .copyWrite (chanKey p c) r.data ∈ t.out
      ∧ (dDone r.headDesc st.toNat).getLsbD 63 = false)

/-- ARBITER_DECISION, REQ_PRIORITY_WRITE, ARB_CLEAR (R137, R138, R140 to R142): a memory or lane arbiter grants a waiting request of
the highest effective priority, whose age returns to 0 while that of every other waiting one rises; a base priority applies from
the next decision; clearing leaves priorities and ages. -/
def Obligations.ArbitersGrantByPriorityAndAge : Prop :=
  (∀ (s : State) (kind inst : Nat), s.board.boot = .running → arbExists kind inst = true → kind ≠ 1 → kind ≠ 6 →
    ∃ t, exec (.arbiterDecision kind inst [] false) s = .next t
      ∧ ((∀ e ∈ (s.arb kind inst).reqs, e.2.waiting = false) → (t.arb kind inst).holder = none)
      ∧ ((∃ e ∈ (s.arb kind inst).reqs, e.2.waiting = true ∧ s.reqOk kind inst e.1 = true) →
        ∃ w x, (t.arb kind inst).holder = some w ∧ (w, x) ∈ (s.arb kind inst).reqs ∧ x.waiting = true
          ∧ (w, x.grant (s.time (arbHalf kind inst)) false) ∈ (t.arb kind inst).reqs
          ∧ (x.grant (s.time (arbHalf kind inst)) false).l = 0
          ∧ (∀ e ∈ (s.arb kind inst).reqs, e.2.waiting = true → s.reqOk kind inst e.1 = true →
              s.effective kind inst e.1 e.2 ≤ s.effective kind inst w x
              ∧ (e.1 ≠ w → ∃ y, (e.1, y) ∈ (t.arb kind inst).reqs ∧ y.l = e.2.l + 1 ∧ y.waiting = true)))
      ∧ { t with arbs := s.arbs } = s)
  ∧ (∀ (s : State) (w : Who) (v : BitVec 8), s.grants w 0x9000 5 (leBytes 1 v.toNat) = true → v.toNat ≤ 7 →
    s.arbSelOk w.sess (s.reqSel w.sess) = true →
    ∃ t, exec (.reqPriorityWrite w v) s = .next t ∧ t.answered w rsOk []
      ∧ mget (t.arb (s.arbSel w.sess / 256) (s.arbSel w.sess % 256)).reqs (s.reqSel w.sess) {} =
        { mget (s.arb (s.arbSel w.sess / 256) (s.arbSel w.sess % 256)).reqs (s.reqSel w.sess) {} with base := some v.toNat }
      ∧ { t.quiet with arbs := s.arbs } = s.quiet)
  ∧ (∀ (s : State) (w : Who) (v : BitVec 16), s.grants w 0x9000 4 (leBytes 2 v.toNat) = true → v ≠ 0xFFFF →
    s.arbSelOk w.sess v.toNat = true →
    ∃ t, exec (.arbClear w v) s = .next t ∧ t.answered w rsOk []
      ∧ mget (t.arb (s.arbSel w.sess / 256) (s.arbSel w.sess % 256)).reqs v.toNat {} =
        { mget (s.arb (s.arbSel w.sess / 256) (s.arbSel w.sess % 256)).reqs v.toNat {} with grants := 0, waits := 0, longest := 0 }
      ∧ { t.quiet with arbs := s.arbs } = s.quiet)

/-- FRAME_RECEIVE, FRAME_TRANSMIT, MGMT_FRAME_RECEIVE (R147 to R149, R151, R156, R160): which check drops a frame and which counter
counts it; a frame that passes goes to CIPHER with its timestamp; a frame leaves its port unless the port is down or the frame is
too long. -/
def Obligations.FramesAtTheNetworkPorts : Prop :=
  (∀ (s : State) (n : Fin 16) (bs : List Byte) (fcs fec : Bool), (s.ethPort n.val).link = true → s.board.boot = .running →
    ∃ t, exec (.frameReceive n bs fcs fec) s = .next t
      ∧ (fec = false → t.cnt (0x6100 + n.val) 8 = s.cnt (0x6100 + n.val) 8 + 1
          ∧ t.cnt (0x6100 + n.val) 3 = s.cnt (0x6100 + n.val) 3 + 1 ∧ { t with stat := s.stat } = s)
      ∧ (fec = true → fcs = false → t.cnt (0x6100 + n.val) 3 = s.cnt (0x6100 + n.val) 3 + 1 ∧ { t with stat := s.stat } = s)
      ∧ (fec = true → fcs = true → bs.length < 60 → t.cnt (0x6100 + n.val) 4 = s.cnt (0x6100 + n.val) 4 + 1
          ∧ { t with stat := s.stat } = s)
      ∧ (fec = true → fcs = true → 60 ≤ bs.length → s.rxLimit n.val bs < bs.length + 4 →
          t.cnt (0x6100 + n.val) 5 = s.cnt (0x6100 + n.val) 5 + 1 ∧ { t with stat := s.stat } = s)
      ∧ (fec = true → fcs = true → 60 ≤ bs.length → bs.length + 4 ≤ s.rxLimit n.val bs → beAt bs 12 2 ≠ 0x8808 →
          s.forwards (ethHalf n.val) = true →
          t.cnt (0x6100 + n.val) 1 = s.cnt (0x6100 + n.val) 1 + bs.length + 4
            ∧ t.cnt (0x6100 + n.val) 2 = s.cnt (0x6100 + n.val) 2 + 1
            ∧ ∃ f, (t.half (ethHalf n.val)).cls.flight = (s.half (ethHalf n.val)).cls.flight ++ [f] ∧ f.bytes = bs
              ∧ f.port = n.val ∧ f.dir = false ∧ f.stage = .cipherRx
              ∧ f.rxTime = ((s.time (ethHalf n.val) : Int) + s.asym n.val).toNat))
  ∧ (∀ (s s1 : State) (n : Fin 16) (f : Frame),
    s.takeFlight (ethHalf n.val) (fun x => x.stage = .net && x.port = n.val) = some (f, s1) →
    ∃ t, exec (.frameTransmit n) s = .next t ∧ (t.half (ethHalf n.val)).cls.flight = (s1.half (ethHalf n.val)).cls.flight
      ∧ ((s.ethPort n.val).link = false → t.cnt (0x6100 + n.val) 0x0E = s.cnt (0x6100 + n.val) 0x0E + 1)
      ∧ ((s.ethPort n.val).link = true → s.maxFrame n.val < f.bytes.length + 4 →
          t.cnt (0x6100 + n.val) 0x0D = s.cnt (0x6100 + n.val) 0x0D + 1)
      ∧ ((s.ethPort n.val).link = true → f.bytes.length + 4 ≤ s.maxFrame n.val →
          s.param (ethHalf n.val) 0xA618 (n.val + 1) 0 0 = 0 →
          .ethTx n.val f.bytes ((s.time (ethHalf n.val) : Int) + s.asym n.val).toNat ∈ t.out
            ∧ t.cnt (0x6100 + n.val) 0x0C = s.cnt (0x6100 + n.val) 0x0C + 1)
      ∧ (f.rdma = true ∨ f.mirrored = true → (s.ethPort n.val).link = false → t = s1.countPort n.val 0x0E 1))
  ∧ (∀ (s : State) (h : Half) (kind : MgmtFrame) (len : Nat), s.board.boot ≠ .inReset → kind ≠ .otherFrame → len ≤ 1522 →
    (s.mgmtRx h).2 < 20000 →
    ∃ t, exec (.mgmtFrameReceive h kind len) s = .next t ∧ t.out = .mgmtFrame h :: s.out ∧ 1 ≤ (t.mgmtRx h).2
      ∧ { t with out := s.out, mgmt := s.mgmt } = s)
  ∧ (∀ (s : State) (h : Half) (kind : MgmtFrame) (len : Nat), kind = .otherFrame ∨ 1522 < len →
    exec (.mgmtFrameReceive h kind len) s = .next s)

/-- PAUSE_FRAME_RECEIVE, PFC_FRAME_RECEIVE, PAUSE_EXPIRY, PFC_XOFF_REPEAT, PFC_STORM (R152 to R155): received quanta hold the
priorities they name until their time has passed; quanta of 0 release them; a priority held for PFC_WD_MS is stormed. -/
def Obligations.PauseAndPriorityFlowControl : Prop :=
  (∀ (s : State) (n : Fin 16) (v : BitVec 16), (s.ethPort n.val).link = true → s.flowMode n.val = 1 →
    ∃ t, exec (.pauseFrameReceive n v) s = .next t ∧ t.cnt (0x6100 + n.val) 6 = s.cnt (0x6100 + n.val) 6 + 1
      ∧ (v ≠ 0 → ∀ p, p < 8 → ∃ y, mfind (t.ethPort n.val).paused p = some y
          ∧ y.deadline = s.time (ethHalf n.val) + v.toNat * 512000 / Nat.max (modeRate (s.ethPort n.val).trained) 1)
      ∧ (v = 0 → ∀ p, p < 8 → mfind (t.ethPort n.val).paused p = none ∧ (t.ethPort n.val).stormed.getLsbD p = false)
      ∧ (∀ m, m ≠ n.val → t.ethPort m = s.ethPort m) ∧ { t with eth := s.eth, stat := s.stat } = s)
  ∧ (∀ (s : State) (n : Fin 16) (v : BitVec 16), (s.ethPort n.val).link = true → s.flowMode n.val ≠ 1 →
    ∃ t, exec (.pauseFrameReceive n v) s = .next t ∧ t.cnt (0x6100 + n.val) 6 = s.cnt (0x6100 + n.val) 6 + 1
      ∧ { t with stat := s.stat } = s)
  ∧ (∀ (s : State) (n : Fin 16) (mask : BitVec 8) (q : BitVec 128), (s.ethPort n.val).link = true →
    ∃ t, exec (.pfcFrameReceive n mask q) s = .next t
      ∧ (∀ p, p < 8 → mask.getLsbD p = true →
          t.cnt (0x6100 + n.val) (0x1A + p) = s.cnt (0x6100 + n.val) (0x1A + p) + 1
          ∧ (s.lossless n.val p = true → fld q (16 * p) 16 ≠ 0 → ∃ y, mfind (t.ethPort n.val).paused p = some y
              ∧ y.deadline = s.time (ethHalf n.val) + fld q (16 * p) 16 * 512000 / Nat.max (modeRate (s.ethPort n.val).trained) 1)
          ∧ (s.lossless n.val p = true → fld q (16 * p) 16 = 0 → mfind (t.ethPort n.val).paused p = none))
      ∧ (∀ p, p < 8 → mask.getLsbD p = false ∨ s.lossless n.val p = false →
          mfind (t.ethPort n.val).paused p = mfind (s.ethPort n.val).paused p)
      ∧ (∀ m, m ≠ n.val → t.ethPort m = s.ethPort m) ∧ { t with eth := s.eth, stat := s.stat } = s)
  ∧ (∀ (s : State) (n : Fin 16) (p : Fin 8) (y : Pause), mfind (s.ethPort n.val).paused p.val = some y →
    ∃ t, exec (.pauseExpiry n p) s = .next t ∧ mfind (t.ethPort n.val).paused p.val = none
      ∧ (t.ethPort n.val).stormed.getLsbD p.val = false ∧ y.deadline ≤ t.time (ethHalf n.val)
      ∧ (∀ r, r ≠ p.val → mfind (t.ethPort n.val).paused r = mfind (s.ethPort n.val).paused r)
      ∧ (∀ m, m ≠ n.val → t.ethPort m = s.ethPort m) ∧ t.out = s.out)
  ∧ (∀ (s : State) (n : Fin 16) (p : Fin 8), (s.ethPort n.val).xoff.getLsbD p.val = true →
    s.xonCells n.val < s.ingress n.val p.val →
    ∃ t, exec (.pfcXoffRepeat n p) s = .next t ∧ t.out = .pfcTx n.val p.val 0xFFFF :: s.out ∧ t.eth = s.eth)
  ∧ (∀ (s : State) (n : Fin 16) (p : Fin 8) (y : Pause), mfind (s.ethPort n.val).paused p.val = some y →
    s.param (ethHalf n.val) 0xA600 5 0 100 ≠ 0 → (s.ethPort n.val).stormed.getLsbD p.val = false →
    ∃ t, exec (.pfcStorm n p) s = .next t ∧ (t.ethPort n.val).stormed.getLsbD p.val = true
      ∧ (t.ethPort n.val).paused = (s.ethPort n.val).paused
      ∧ y.since + s.param (ethHalf n.val) 0xA600 5 0 100 * 1000000 ≤ t.time (ethHalf n.val)
      ∧ (∀ m, m ≠ n.val → t.ethPort m = s.ethPort m))

/-- PORT_MODE_WRITE, PORT_LINK_UP, PORT_LINK_LOSS, PORT_CNT_CLEAR, MGMT_LINK_CHANGE (R143, R144, R146, R151, R159, R161): a permitted
mode is taken and takes the port down, another is refused; the loss of a link is counted; clearing a port's counters leaves every
other counter. Also TB_RATE_WRITE, TB_ADJUST_WRITE (R30, R31): while the halves are joined, a rate applies to both copies of the timebase; a
forward correction above 1 ms is a step, any other is slewed. -/
def Obligations.NetworkPortLinksAndTimebase : Prop :=
  (∀ (s : State) (w : Who) (n : Fin 16) (v : BitVec 8), s.grants w 0xA610 (n.val + 1) (leBytes 1 v.toNat) = true →
    s.cstl.split = false →
    ∃ t, exec (.portModeWrite w n v) s = .next t
      ∧ (s.modeOk n.val v.toNat = true → t.answered w rsOk [] ∧ t.portMode n.val = v.toNat ∧ (t.ethPort n.val).link = false
          ∧ (∀ m, m < 16 → m ≠ n.val → t.portMode m = s.portMode m ∧ t.ethPort m = s.ethPort m))
      ∧ (s.modeOk n.val v.toNat = false → t.answered w rsRefused [] ∧ t.quiet = s.quiet))
  ∧ (∀ (s : State) (n : Fin 16) (an : Bool), s.linkable n.val = true →
    ∃ t, exec (.portLinkUp n an) s = .next t ∧ (t.ethPort n.val).link = true ∧ (t.ethPort n.val).trained = s.portMode n.val
      ∧ (∀ m, m ≠ n.val → t.ethPort m = s.ethPort m) ∧ { t with eth := s.eth } = s)
  ∧ (∀ (s : State) (n : Fin 16) (rf lf : Bool), (s.ethPort n.val).link = true →
    ∃ t, exec (.portLinkLoss n rf lf) s = .next t ∧ (t.ethPort n.val).link = false ∧ (t.ethPort n.val).trained = 0
      ∧ (t.ethPort n.val).remoteFault = rf ∧ (t.ethPort n.val).localFault = lf
      ∧ t.cnt (0x6100 + n.val) 9 = s.cnt (0x6100 + n.val) 9 + 1 ∧ (∀ m, m ≠ n.val → t.ethPort m = s.ethPort m))
  ∧ (∀ (s : State) (w : Who) (v : BitVec 16), s.grants w 0xA600 6 (leBytes 2 v.toNat) = true → s.cstl.split = false →
    v.toNat < 16 →
    ∃ t, exec (.portCntClear w v) s = .next t ∧ t.answered w rsOk [] ∧ (∀ i, i < 256 → t.cnt (0x6100 + v.toNat) i = 0)
      ∧ (∀ x i, i < 256 → x ≠ 0x6100 + v.toNat → x ≠ 0x6900 → x ≠ 0x6901 → t.cnt x i = s.cnt x i) ∧ t.quiet = s.quiet)
  ∧ (∀ (s : State) (h : Half) (up : Bool) (sp : Fin 3),
    ∃ t, exec (.mgmtLinkChange h up sp) s = .next t
      ∧ (h = .k → t.mgmt.linkK = BitVec.ofNat 8 (2 * sp.val + b2n up) ∧ t.mgmt.linkQ = s.mgmt.linkQ)
      ∧ (h = .q → t.mgmt.linkQ = BitVec.ofNat 8 (2 * sp.val + b2n up) ∧ t.mgmt.linkK = s.mgmt.linkK)
      ∧ { t with mgmt := { t.mgmt with linkK := s.mgmt.linkK, linkQ := s.mgmt.linkQ } } = s)
  ∧ (∀ (s : State) (w : Who) (v : BitVec 32), s.grants w 0xA600 2 (leBytes 4 v.toNat) = true → s.cstl.split = false →
    ∃ t, exec (.tbRateWrite w v) s = .next t ∧ t.answered w rsOk [] ∧ t.k.gov.rate = v.toInt ∧ t.q.gov.rate = v.toInt
      ∧ t.k.gov.time = s.k.gov.time ∧ t.q.gov.time = s.q.gov.time ∧ t.k.gov.slew = s.k.gov.slew ∧ t.q.gov.slew = s.q.gov.slew)
  ∧ (∀ (s : State) (w : Who) (v : BitVec 32), s.grants w 0xA600 3 (leBytes 4 v.toNat) = true → s.cstl.split = false →
    ∃ t, exec (.tbAdjustWrite w v) s = .next t ∧ t.answered w rsOk []
      ∧ (1000000 < v.toInt → ∀ h, ((t.time h : Int) = s.time h + v.toInt) ∧ (t.half h).gov.slew = (s.half h).gov.slew)
      ∧ (v.toInt ≤ 1000000 → ∀ h, t.time h = s.time h ∧ (t.half h).gov.slew = (s.half h).gov.slew + v.toInt * 2 ^ 32)
      ∧ (∀ h, (t.half h).gov.rate = (s.half h).gov.rate))

/-- MACSEC_RX, MACSEC_TX_ASSIGN, ESP_OUT_APPLY, LANE_FAILURE (R260 to R263, R266, R267, R271, R421): what CIPHER does with a
received frame of a protected port, which counter counts it and what its SA keeps; each protected frame takes the next value of
its SA; a failed lane is replaced by the spare, then leaves four lanes, then fails the unit and empties the key store. -/
def Obligations.CipherLanesProtectFrames : Prop :=
  (∀ (s s1 : State) (n : Fin 16) (ok : Bool) (f : Frame), s.forwards (ethHalf n.val) = true →
    s.takeFlight (ethHalf n.val) (fun x => x.stage = .cipherRx && x.port = n.val) = some (f, s1) →
    (s.macsecOn n.val = false →
      exec (.macsecRx n ok) s = .next (s1.addFlight (ethHalf n.val) { f with stage := .parse }))
    ∧ (s.macsecOn n.val = true → s.cipherOut (ethHalf n.val) = true → f.dir = false →
        ∃ t, exec (.macsecRx n ok) s = .next t
          ∧ t.cnt (0x6A00 + (ethHalf n.val).num) 3 = s.cnt (0x6A00 + (ethHalf n.val).num) 3 + 1
          ∧ { t with stat := s.stat } = s1)
    ∧ (s.macsecOn n.val = true → s.cipherOut (ethHalf n.val) = false → beAt f.bytes 12 2 ≠ 0x88E5 →
        ∃ t, exec (.macsecRx n ok) s = .next t
          ∧ t.cnt (0x6500 + (ethHalf n.val).num) 4 = s.cnt (0x6500 + (ethHalf n.val).num) 4 + 1
          ∧ (mcValidate (s.macsecRec n.val) = 2 → { t with stat := s.stat } = s1)
          ∧ (mcValidate (s.macsecRec n.val) ≠ 2 →
              { t with stat := s.stat } = s1.addFlight (ethHalf n.val) { f with stage := .parse }))
    ∧ (s.macsecOn n.val = true → s.cipherOut (ethHalf n.val) = false → beAt f.bytes 12 2 = 0x88E5 →
        badTag f.bytes = true ∨ s.rxSa (ethHalf n.val) (s.macsecRec n.val) f.bytes = none →
        ∃ t, exec (.macsecRx n ok) s = .next t
          ∧ t.cnt (0x6500 + (ethHalf n.val).num) 3 = s.cnt (0x6500 + (ethHalf n.val).num) 3 + 1
          ∧ { t with stat := s.stat } = s1)
    ∧ (∀ i, s.macsecOn n.val = true → s.cipherOut (ethHalf n.val) = false → beAt f.bytes 12 2 = 0x88E5 →
        badTag f.bytes = false → s.rxSa (ethHalf n.val) (s.macsecRec n.val) f.bytes = some i →
        ∃ t, exec (.macsecRx n ok) s = .next t
          ∧ (ok = false →
              t.cnt (0x6500 + (ethHalf n.val).num) 1 = s.cnt (0x6500 + (ethHalf n.val).num) 1 + 1
              ∧ t.sa (ethHalf n.val) i =
                  { s.sa (ethHalf n.val) i with integrity := (s.sa (ethHalf n.val) i).integrity + 1 }
              ∧ (t.half (ethHalf n.val)).cls = (s1.half (ethHalf n.val)).cls)
          ∧ (ok = true → (s.sa (ethHalf n.val) i).next ≤ fullPn (s.sa (ethHalf n.val) i).next (beAt f.bytes 16 4) →
              t.sa (ethHalf n.val) i = { s.sa (ethHalf n.val) i with
                next := Nat.max (s.sa (ethHalf n.val) i).next
                  (fullPn (s.sa (ethHalf n.val) i).next (beAt f.bytes 16 4) + 1 - mcReplay (s.macsecRec n.val))
                frames := (s.sa (ethHalf n.val) i).frames + 1
                octets := (s.sa (ethHalf n.val) i).octets + f.bytes.length }
              ∧ (t.half (ethHalf n.val)).cls.flight = (s1.half (ethHalf n.val)).cls.flight
                  ++ [{ f with
                        macsec := true, stage := .parse
                        bytes := openTag (s.sa (ethHalf n.val) i)
                          (fullPn (s.sa (ethHalf n.val) i).next (beAt f.bytes 16 4)) f.bytes }])
          ∧ (ok = true → fullPn (s.sa (ethHalf n.val) i).next (beAt f.bytes 16 4) < (s.sa (ethHalf n.val) i).next →
              t.cnt (0x6500 + (ethHalf n.val).num) 2 = s.cnt (0x6500 + (ethHalf n.val).num) 2 + 1
              ∧ (t.sa (ethHalf n.val) i).late = (s.sa (ethHalf n.val) i).late + 1
              ∧ (mcValidate (s.macsecRec n.val) = 2 →
                  (t.half (ethHalf n.val)).cls = (s1.half (ethHalf n.val)).cls))
          ∧ (∀ j, j ≠ i → t.sa (ethHalf n.val) j = s.sa (ethHalf n.val) j)
          ∧ t.half (ethHalf n.val).other = s.half (ethHalf n.val).other))
  ∧ (∀ (s s1 : State) (n : Fin 16) (f : Frame), s.forwards (ethHalf n.val) = true →
    s.takeFlight (ethHalf n.val) (fun x => x.stage = .macsecTx && x.port = n.val) = some (f, s1) →
    (s.macsecOn n.val = false →
      exec (.macsecTxAssign n) s = .next (s1.addFlight (ethHalf n.val) { f with stage := .tmgr }))
    ∧ (∀ i, s.macsecOn n.val = true → s.cipherOut (ethHalf n.val) = false →
        mcTxSa (s.macsecRec n.val) (mcTxAn (s.macsecRec n.val)) = i → i < 16384 →
        (s.sa (ethHalf n.val) i).serves 1 = true →
        ∃ t, exec (.macsecTxAssign n) s = .next t
          ∧ ((s.sa (ethHalf n.val) i).st ≠ .exhausted →
              (t.half (ethHalf n.val)).cls.flight =
                (s1.half (ethHalf n.val)).cls.flight ++ [{ f with isSealed := true, stage := .tmgr }]
              ∧ (t.sa (ethHalf n.val) i).frames = (s.sa (ethHalf n.val) i).frames + 1
              ∧ ((s.sa (ethHalf n.val) i).next ≠ 18446744073709551615 →
                  (t.sa (ethHalf n.val) i).next = (s.sa (ethHalf n.val) i).next + 1)
              ∧ ((s.sa (ethHalf n.val) i).next = 18446744073709551615 → (t.sa (ethHalf n.val) i).st = .exhausted)
              ∧ ((s.sa (ethHalf n.val) i).st = .ready → (s.sa (ethHalf n.val) i).next ≠ 18446744073709551615 →
                  s.param (ethHalf n.val) 0xA200 2 0 0x4000000000000000 ≤ (s.sa (ethHalf n.val) i).next + 1 →
                  (t.sa (ethHalf n.val) i).st = .marked))
          ∧ ((s.sa (ethHalf n.val) i).st = .exhausted →
              t.cnt (0x6500 + (ethHalf n.val).num) 6 = s.cnt (0x6500 + (ethHalf n.val).num) 6 + 1
              ∧ (t.half (ethHalf n.val)).cls.flight = (s1.half (ethHalf n.val)).cls.flight)))
  ∧ (∀ (s s1 : State) (h : Half) (f : Frame), s.forwards h = true →
    s.takeFlight h (fun x => x.stage = .espTx) = some (f, s1) →
    (f.espHeader = none → exec (.espOutApply h) s = .next (s1.addFlight h { f with stage := .macsecTx }))
    ∧ (∀ hdr i, f.espHeader = some hdr → s.cipherOut h = false →
        s.espSa h (beAt f.bytes hdr 4) (mdSlice f.md) = some i → (s.sa h i).st ≠ .exhausted →
        ∃ t, exec (.espOutApply h) s = .next t
          ∧ (t.half h).cls.flight = (s1.half h).cls.flight
              ++ [{ f with stage := .macsecTx, bytes := espSeal (s.sa h i) (s.sa h i).next hdr f }]
          ∧ (t.sa h i).frames = (s.sa h i).frames + 1
          ∧ ((s.sa h i).next ≠ saLast (s.sa h i).record → (t.sa h i).next = (s.sa h i).next + 1)
          ∧ ((s.sa h i).next = saLast (s.sa h i).record → (t.sa h i).st = .exhausted)
          ∧ (∀ j, j ≠ i → t.sa h j = s.sa h j))
    ∧ (∀ hdr, f.espHeader = some hdr → s.cipherOut h = false →
        s.espSa h (beAt f.bytes hdr 4) (mdSlice f.md) = none →
        exec (.espOutApply h) s = .next (s1.addFlight h { f with stage := .macsecTx })))
  ∧ (∀ (s : State) (h : Half), s.powered h 9 = true →
    ∃ t, exec (.laneFailure h []) s = .next t
      ∧ (0 < (s.half h).cipher.spares → (t.half h).cipher = { (s.half h).cipher with spares := 0 }
          ∧ (t.unit h 9).degraded = true ∧ (t.unit h 9).st = (s.unit h 9).st)
      ∧ ((s.half h).cipher.spares = 0 → (s.half h).cipher.lanes = 5 →
          (t.half h).cipher = { (s.half h).cipher with lanes := 4 } ∧ t.unit h 9 = s.unit h 9)
      ∧ ((s.half h).cipher.spares = 0 → (s.half h).cipher.lanes ≠ 5 →
          (t.unit h 9).st = .failed ∧ (t.half h).cipher.sas = [] ∧ (t.half h).cipher.xts = [])
      ∧ (t.half h).cls.flight = (s.half h).cls.flight
      ∧ (t.half h.other).cipher = (s.half h.other).cipher)

/-- SA_INSTALL, SA_DELETE, SA_CHANGE, SA_FENCE_END, MACSEC_CONFIG_WRITE, HARDEN_WRITE, CIPHER_CNT_CLEAR (R255 to R259, R269, R272):
an install makes a READY SA from the record and the unwrapped key and is refused where the key does not unwrap; a deletion fences
and then empties the slot; a change takes only ENABLE and REPLAY_WIN; a port's record and the hardening level are taken or
refused. -/
def Obligations.KeyStoreWrites : Prop :=
  (∀ (s : State) (w : Who) (rec : BitVec 640) (key : BitVec 256) (h : Half) (i : Nat),
    s.grants w 0xA200 4 (leBytes 80 rec.toNat) = true → h = halfOf (s.sel w.sess (obj 0xA200 3) 0 / 65536) →
    i = s.sel w.sess (obj 0xA200 3) 0 % 16384 → (s.cstl.split = true → h = s.server w.sess) → saKind rec ≠ 0 →
    s.saKey rec = some key → s.saOk h i rec = true → (s.sa h i).st = .empty →
    ∃ t, exec (.saInstall w rec) s = .next t ∧ t.answered w rsOk []
      ∧ (t.sa h i).key = key ∧ (t.sa h i).next = saPn rec ∧ saKind (t.sa h i).record = saKind rec
      ∧ saSpi (t.sa h i).record = saSpi rec ∧ saEnable (t.sa h i).record = saEnable rec
      ∧ saWin (t.sa h i).record = saWin rec ∧ saSalt (t.sa h i).record = saSalt rec ∧ (t.sa h i).frames = 0
      ∧ fld (t.sa h i).record 256 320 = 0
      ∧ ((saKind rec = 2 ∨ saKind rec = 4 ∨ saPn rec < s.rekeyMark h rec) → (t.sa h i).st = .ready)
      ∧ ((saKind rec = 1 ∨ saKind rec = 3) → s.rekeyMark h rec ≤ saPn rec → (t.sa h i).st = .marked)
      ∧ (∀ j, j ≠ i → t.sa h j = s.sa h j) ∧ (t.half h.other).cipher = (s.half h.other).cipher
      ∧ { t.quiet with k := s.quiet.k, q := s.quiet.q } = s.quiet)
  ∧ (∀ (s : State) (w : Who) (rec : BitVec 640), s.grants w 0xA200 4 (leBytes 80 rec.toNat) = true → saKind rec ≠ 0 →
    s.saKey rec = none ∨ (s.cstl.split = true ∧ halfOf (s.sel w.sess (obj 0xA200 3) 0 / 65536) ≠ s.server w.sess)
      ∨ s.saOk (halfOf (s.sel w.sess (obj 0xA200 3) 0 / 65536)) (s.sel w.sess (obj 0xA200 3) 0 % 16384) rec = false →
    ∃ t, exec (.saInstall w rec) s = .next t ∧ t.answered w rsRefused [] ∧ t.quiet = s.quiet)
  ∧ (∀ (s : State) (w : Who) (rec : BitVec 640) (h : Half) (i : Nat),
    s.grants w 0xA200 4 (leBytes 80 rec.toNat) = true → h = halfOf (s.sel w.sess (obj 0xA200 3) 0 / 65536) →
    i = s.sel w.sess (obj 0xA200 3) 0 % 16384 → (s.cstl.split = true → h = s.server w.sess) → saKind rec = 0 →
    ∃ t, exec (.saDelete w rec) s = .next t ∧ t.answered w rsOk []
      ∧ ((s.sa h i).st ≠ .empty → t.sa h i = { s.sa h i with st := .fencing })
      ∧ ((s.sa h i).st = .empty → t.sa h i = s.sa h i)
      ∧ (∀ j, j ≠ i → t.sa h j = s.sa h j) ∧ (t.half h.other).cipher = (s.half h.other).cipher
      ∧ { t.quiet with k := s.quiet.k, q := s.quiet.q } = s.quiet)
  ∧ (∀ (s : State) (w : Who) (rec : BitVec 640) (key : BitVec 256) (h : Half) (i : Nat),
    s.grants w 0xA200 4 (leBytes 80 rec.toNat) = true → h = halfOf (s.sel w.sess (obj 0xA200 3) 0 / 65536) →
    i = s.sel w.sess (obj 0xA200 3) 0 % 16384 → (s.cstl.split = true → h = s.server w.sess) → saKind rec ≠ 0 →
    s.saKey rec = some key → s.saOk h i rec = true → (s.sa h i).st ≠ .empty → (s.sa h i).st ≠ .fencing →
    ∃ t, exec (.saChange w rec) s = .next t
      ∧ (saKind rec = saKind (s.sa h i).record → key = (s.sa h i).key → saSpi rec = saSpi (s.sa h i).record →
          t.answered w rsOk [] ∧ saEnable (t.sa h i).record = saEnable rec ∧ saWin (t.sa h i).record = saWin rec
          ∧ { t.sa h i with record := (s.sa h i).record } = s.sa h i
          ∧ (∀ b : Nat, b ≠ 9 → (b < 224 ∨ 240 ≤ b) →
              (t.sa h i).record.getLsbD b = (s.sa h i).record.getLsbD b))
      ∧ ((saKind rec ≠ saKind (s.sa h i).record ∨ key ≠ (s.sa h i).key ∨ saSpi rec ≠ saSpi (s.sa h i).record) →
          t.answered w rsRefused [] ∧ t.quiet = s.quiet)
      ∧ (∀ j, j ≠ i → t.sa h j = s.sa h j))
  ∧ (∀ (s : State) (h : Half) (i : Nat), (s.sa h i).st = .fencing → mfind (s.half h).cipher.waitInstall i = none →
    ∃ t, exec (.saFenceEnd h i) s = .next t ∧ t.sa h i = {} ∧ (∀ j, j ≠ i → t.sa h j = s.sa h j)
      ∧ t.half h.other = s.half h.other ∧ { t with k := s.k, q := s.q } = s)
  ∧ (∀ (s : State) (w : Who) (n : Fin 16) (rec : BitVec 704),
    s.grants w 0xA210 (n.val + 1) (leBytes 88 rec.toNat) = true →
    ∃ t, exec (.macsecConfigWrite w n rec) s = .next t
      ∧ (s.macsecOk n.val rec = true → t.answered w rsOk []
          ∧ (s.cstl.split = false ∨ s.server w.sess = ethHalf n.val → t.macsecRec n.val = rec)
          ∧ (∀ m, m < 16 → m ≠ n.val → t.macsecRec m = s.macsecRec m)
          ∧ { t.quiet with mgmt := s.quiet.mgmt } = s.quiet)
      ∧ (s.macsecOk n.val rec = false → t.answered w rsRefused [] ∧ t.quiet = s.quiet))
  ∧ (∀ (s : State) (w : Who) (v : BitVec 8), s.grants w 0xA200 1 (leBytes 1 v.toNat) = true →
    ∃ t, exec (.hardenWrite w v) s = .next t
      ∧ (v.toNat ≤ 2 → t.answered w rsOk [] ∧ t.param (s.server w.sess) 0xA200 1 0 0 = v.toNat
          ∧ { t.quiet with mgmt := s.quiet.mgmt } = s.quiet)
      ∧ (2 < v.toNat → t.answered w rsRefused [] ∧ t.quiet = s.quiet))
  ∧ (∀ (s : State) (w : Who) (v : BitVec 8), s.grants w 0xA200 0x0B (leBytes 1 v.toNat) = true →
    s.maskOk w.sess v.toNat = true →
    ∃ t, exec (.cipherCntClear w v) s = .next t ∧ t.answered w rsOk []
      ∧ (∀ h i, inMask v.toNat h = true → i < 256 → t.cnt (0x6500 + h.num) i = 0)
      ∧ (∀ h i, inMask v.toNat h = true →
          t.sa h i = { s.sa h i with frames := 0, octets := 0, integrity := 0, late := 0 })
      ∧ (∀ h i, inMask v.toNat h = false → t.sa h i = s.sa h i))

/-- PIPELINE_ENTRY, ORDERED_RELEASE, TX_STEER_WRITE (R163, R164, R170, R175, R179, R181, R184): the oldest frame enters the chosen
pipeline, numbered in its stream; a frame that fails to parse, one without a slice and one with verdict drop leave the stream and
are counted; one that passes waits for its release in order. -/
def Obligations.ClassificationOfFrames : Prop :=
  (∀ (s s1 : State) (h : Half) (f : Frame), s.forwards h = true →
    s.takeFlight h (fun x => x.stage = .parse) = some (f, s1) →
    (s.choosePipe h = none → f.dir = false →
      ∃ t, exec (.pipelineEntry h) s = .next t ∧ t.cnt (0x6A00 + h.num) 1 = s.cnt (0x6A00 + h.num) 1 + 1
        ∧ { t with stat := s.stat } = s1)
    ∧ (∀ (pipe : Nat) (p : Psr) (g : Frame) (y : Staged), s.choosePipe h = some pipe → p = parse (s.half h).cls.live f.bytes →
        g = s.parsed h f p → y = (s.half h).cls.live.classify (b2n f.dir) g.bytes g.md →
        ∃ t, exec (.pipelineEntry h) s = .next t
          ∧ mget (t.half h).cls.numbered f.stream 0 = mget (s.half h).cls.numbered f.stream 0 + 1
          ∧ (p.err ≠ 0 → t.cnt (0x6200 + h.num) 0x11 = s.cnt (0x6200 + h.num) 0x11 + 1
              ∧ (t.half h).cls.flight = (s1.half h).cls.flight)
          ∧ (p.err = 0 → f.dir = false → mdVerdict y.md = 0 → mdChosen y.md = false →
              t.cnt (0x6200 + h.num) 0x12 = s.cnt (0x6200 + h.num) 0x12 + 1
              ∧ (t.half h).cls.flight = (s1.half h).cls.flight)
          ∧ (p.err = 0 → mdVerdict y.md = 1 → mdMirror y.md = 0 →
              t.cnt (0x6200 + h.num) 0x16 = s.cnt (0x6200 + h.num) 0x16 + 1
              ∧ (t.half h).cls.flight = (s1.half h).cls.flight)
          ∧ (p.err = 0 → f.dir = false → mdVerdict y.md = 0 → mdChosen y.md = true → mdMirror y.md = 0 → mdAprog y.md = 0 →
              y.polEn = false → (s.slice (mdSlice y.md)).st = .enabled →
              s.rxQueueOk (mdSlice y.md) (mdQueue y.md) = true →
              (t.half h).cls.flight = (s1.half h).cls.flight
                ++ [{ g with
                      pipe := pipe, seq := mget (s.half h).cls.numbered f.stream 0, md := y.md, polEn := false, leafSet := y.leafSet
                      stage := .ordered }])))
  ∧ (∀ (s s1 : State) (h : Half) (stream : Nat) (f : Frame),
    s.takeFlight h (fun x => x.stage = .ordered && x.stream = stream) = some (f, s1) →
    exec (.orderedRelease h stream) s =
      .next (s1.addFlight h { f with stage := if f.dir then .espTx else .tmgr }))
  ∧ (∀ (s : State) (w : Who) (rec : BitVec 288), s.grants w 0xA010 2 (leBytes 36 rec.toNat) = true →
    ((s.slice (s.steerSel w.sess)).used = true → fld rec 16 8 < 16 →
      (s.cstl.split = true → recHome (s.slice (s.steerSel w.sess)).record = s.server w.sess) →
      ∃ t, exec (.txSteerWrite w rec) s = .next t ∧ t.answered w rsOk []
        ∧ t.txSteer (recHome (s.slice (s.steerSel w.sess)).record) (s.steerSel w.sess) = rec.toNat
        ∧ (∀ h j, j ≠ s.steerSel w.sess → t.txSteer h j = s.txSteer h j)
        ∧ { t.quiet with mgmt := s.quiet.mgmt } = s.quiet)
    ∧ ((s.slice (s.steerSel w.sess)).used = false →
      ∃ t, exec (.txSteerWrite w rec) s = .next t ∧ t.answered w rsNotFound [] ∧ t.quiet = s.quiet)
    ∧ ((s.slice (s.steerSel w.sess)).used = true → 16 ≤ fld rec 16 8 →
      ∃ t, exec (.txSteerWrite w rec) s = .next t ∧ t.answered w rsRefused [] ∧ t.quiet = s.quiet))

/-- STAGE_RECORD_WRITE, COMMIT_WRITE, COMMIT_SWAP, COMMIT_TIMEOUT, STAGE_DISCARD, CLS_CNT_CLEAR (R185 to R190, R251, R429): staged
changes belong to one session and touch no live table; a commit is refused whole with its first failing change, or waits and then
takes effect on a half in one swap, 500 µs after the last at the earliest; one that waits 10 ms ends OTHER_HALF. -/
def Obligations.StagingAndCommits : Prop :=
  (∀ (s : State) (w : Who) (rec : BitVec 896), s.grants w 0xA000 1 (leBytes 112 rec.toNat) = true →
    ∃ t, exec (.stageRecordWrite w rec) s = .next t
      ∧ (s.mgmt.staging.owner = none ∨ s.mgmt.staging.owner = some w.sess → s.mgmt.staging.changes.length < 4096 →
          t.answered w rsOk []
          ∧ t.mgmt.staging = { s.mgmt.staging with owner := some w.sess, changes := s.mgmt.staging.changes ++ [rec] }
          ∧ { t.quiet with mgmt := s.quiet.mgmt } = s.quiet)
      ∧ ((s.mgmt.staging.owner ≠ none ∧ s.mgmt.staging.owner ≠ some w.sess) ∨ 4096 ≤ s.mgmt.staging.changes.length →
          t.answered w rsRefused [] ∧ t.quiet = s.quiet))
  ∧ (∀ (s : State) (w : Who) (v : BitVec 8), s.grants w 0xA000 3 [v] = true →
    (s.mgmt.staging.waitK = true ∨ s.mgmt.staging.waitQ = true →
      ∃ t, exec (.commitWrite w v) s = .next t ∧ t.answered w rsBusy [] ∧ t.quiet = s.quiet)
    ∧ (s.mgmt.staging.waitK = false → s.mgmt.staging.waitQ = false → v.toNat < 4 →
        s.mgmt.staging.owner = none ∨ s.mgmt.staging.owner = some w.sess →
        ∃ t, exec (.commitWrite w v) s = .next t ∧ t.answered w rsOk []
          ∧ t.mgmt.staging.owner = none ∧ t.mgmt.staging.changes = [] ∧ t.k.cls = s.k.cls ∧ t.q.cls = s.q.cls
          ∧ (∀ n st, s.firstFail w.sess v.toNat 0 s.mgmt.staging.changes s.k.cls.live s.q.cls.live = some (n, st) →
              t.mgmt.staging.result = n * 65536 + st ∧ t.mgmt.staging.waitK = false ∧ t.mgmt.staging.waitQ = false)
          ∧ (s.firstFail w.sess v.toNat 0 s.mgmt.staging.changes s.k.cls.live s.q.cls.live = none →
              t.mgmt.staging.pending = s.mgmt.staging.changes
              ∧ t.mgmt.staging.waitK = (inMask v.toNat .k && s.reaches w.sess .k)
              ∧ t.mgmt.staging.waitQ = (inMask v.toNat .q && s.reaches w.sess .q)
              ∧ t.mgmt.staging.since = s.time (s.server w.sess))))
  ∧ (∀ (s : State) (h : Half), s.mgmt.staging.waitsFor h = true → s.parseMoves h = false → (s.half h).stopped = false →
    ∃ t, exec (.commitSwap h) s = .next t
      ∧ (t.half h).cls.live = s.mgmt.staging.pending.foldl (fun l c =>
          if inMask (chHalves c) h then (match l.change c with | .ok m => m | .error _ => l) else l) (s.half h).cls.live
      ∧ (∀ x, (s.half h).cls.lastSwap = some x → x + 500000 ≤ t.time h)
      ∧ (t.half h).cls.lastSwap = some (t.time h) ∧ t.mgmt.staging.lastCommit = t.time h
      ∧ t.cnt (0x6200 + h.num) 0x19 = s.cnt (0x6200 + h.num) 0x19 + 1
      ∧ (t.half h.other).cls = (s.half h.other).cls ∧ t.mgmt.staging.waitsFor h = false
      ∧ (s.mgmt.staging.waitsFor h.other = false → t.mgmt.staging.result = stOk ∧ t.mgmt.staging.pending = [])
      ∧ (s.mgmt.staging.waitsFor h.other = true → t.mgmt.staging.waitsFor h.other = true
          ∧ t.mgmt.staging.pending = s.mgmt.staging.pending))
  ∧ (∀ s : State, s.mgmt.staging.waitK = true ∨ s.mgmt.staging.waitQ = true →
    ∃ t, exec .commitTimeout s = .next t ∧ t.mgmt.staging.waitK = false ∧ t.mgmt.staging.waitQ = false
      ∧ t.mgmt.staging.pending = [] ∧ t.mgmt.staging.result % 65536 = stOtherHalf
      ∧ t.k.cls = s.k.cls ∧ t.q.cls = s.q.cls
      ∧ (s.mgmt.staging.waitK = true → s.mgmt.staging.since + 10000000 ≤ t.time .k)
      ∧ (s.mgmt.staging.waitK = false → s.mgmt.staging.since + 10000000 ≤ t.time .q))
  ∧ (∀ (s : State) (w : Who), s.grants w 0xA000 5 [1] = true →
    s.mgmt.staging.owner = none ∨ s.mgmt.staging.owner = some w.sess →
    ∃ t, exec (.stageDiscard w 1) s = .next t ∧ t.answered w rsOk []
      ∧ t.mgmt.staging = { s.mgmt.staging with owner := none, changes := [] }
      ∧ { t.quiet with mgmt := s.quiet.mgmt } = s.quiet)
  ∧ (∀ (s : State) (w : Who) (v : BitVec 8), s.grants w 0xA000 0x0B (leBytes 1 v.toNat) = true →
    s.maskOk w.sess v.toNat = true →
    ∃ t, exec (.clsCntClear w v) s = .next t ∧ t.answered w rsOk [] ∧ t.quiet = s.quiet
      ∧ (∀ h i, inMask v.toNat h = true → i < 256 → t.cnt (0x6200 + h.num) i = 0 ∧ t.cnt (0x6408 + h.num) i = 0
          ∧ t.cnt (0x6A00 + h.num) i = 0 ∧ ∀ u, u < 4 → t.cnt (0x6400 + 4 * h.num + u) i = 0))

/-- TMGR_ADMIT, HOSTQ_SEND, SCHED_SEND, BUCKET_REFILL (R191, R195, R196, R198, R203 to R205): a received frame joins its slice's
host-bound queue or is counted where it is dropped; a frame for a leaf meets the link, ENABLE and tail checks in that order; one
frame leaves a queue at its service; a refill adds rate × interval, capped at the burst. -/
def Obligations.TrafficManagerQueues : Prop :=
  (∀ (s s1 : State) (h : Half) (f : Frame), s.forwards h = true →
    s.takeFlight h (fun x => x.stage = .tmgr) = some (f, s1) →
    (f.dir = false → s.hostDrop h f = none →
      ∃ t, exec (.tmgrAdmit h) s = .next t
        ∧ t.hostq h (mdSlice f.md) = { s.hostq h (mdSlice f.md) with frames := (s.hostq h (mdSlice f.md)).frames ++ [f] }
        ∧ (∀ i, i ≠ mdSlice f.md → t.hostq h i = s.hostq h i) ∧ (t.half h).cls = (s1.half h).cls)
    ∧ (∀ k, f.dir = false → s.hostDrop h f = some k →
      ∃ t, exec (.tmgrAdmit h) s = .next t ∧ t.cnt (0x6300 + h.num) k = s.cnt (0x6300 + h.num) k + 1
        ∧ { t with stat := s.stat, sliceCnt := s.sliceCnt } = s1)
    ∧ (f.dir = false → s.lossless f.port (s.prio f) = false →
        s.hostqMax h < cellSum (s.hostq h (mdSlice f.md)).frames + f.cells → s.hostDrop h f = some 7)
    ∧ (f.dir = true → (s.ethPort f.port).link = false →
      ∃ t, exec (.tmgrAdmit h) s = .next t ∧ t.cnt (0x6100 + f.port) 0x0E = s.cnt (0x6100 + f.port) 0x0E + 1
        ∧ (∀ i, (t.node h 3 i).frames = (s.node h 3 i).frames) ∧ (t.half h).tmgr.hostq = (s.half h).tmgr.hostq)
    ∧ (f.dir = true → (s.ethPort f.port).link = true →
        bit (s.ethPort f.port).stormed (ndTc (s.node h 3 (mdLeaf f.md)).record) = false →
        ∃ t, exec (.tmgrAdmit h) s = .next t
          ∧ (ndEnable (s.node h 3 (mdLeaf f.md)).record = false →
              t.cnt (0x6300 + h.num) 8 = s.cnt (0x6300 + h.num) 8 + 1
              ∧ (t.node h 3 (mdLeaf f.md)).frames = (s.node h 3 (mdLeaf f.md)).frames)
          ∧ (ndEnable (s.node h 3 (mdLeaf f.md)).record = true →
              profMax (s.profile h (ndProfile (s.node h 3 (mdLeaf f.md)).record))
                < cellSum (s.node h 3 (mdLeaf f.md)).frames + f.cells →
              t.cnt (0x6300 + h.num) 2 = s.cnt (0x6300 + h.num) 2 + 1
              ∧ (t.node h 3 (mdLeaf f.md)).tailDrop = (s.node h 3 (mdLeaf f.md)).tailDrop + 1
              ∧ (t.node h 3 (mdLeaf f.md)).frames = (s.node h 3 (mdLeaf f.md)).frames)
          ∧ (ndEnable (s.node h 3 (mdLeaf f.md)).record = true →
              cellSum (s.node h 3 (mdLeaf f.md)).frames + f.cells
                ≤ profMax (s.profile h (ndProfile (s.node h 3 (mdLeaf f.md)).record)) →
              profPmax (s.profile h (ndProfile (s.node h 3 (mdLeaf f.md)).record)) = 0 →
              ((t.node h 3 (mdLeaf f.md)).frames =
                  (s.node h 3 (mdLeaf f.md)).frames ++ [{ f with leaf := mdLeaf f.md }]
                ∧ t.cnt (0x6300 + h.num) 1 = s.cnt (0x6300 + h.num) 1)
              ∨ ((t.node h 3 (mdLeaf f.md)).frames = (s.node h 3 (mdLeaf f.md)).frames
                ∧ t.cnt (0x6300 + h.num) 1 = s.cnt (0x6300 + h.num) 1 + 1))))
  ∧ (∀ (s : State) (h : Half) (i : Nat) (d : Map Int) (f : Frame) (rest : List Frame), s.forwards h = true →
    s.hostChoose h = some (i, d) → (s.hostq h i).frames = f :: rest →
    ∃ t, exec (.hostqSend h) s = .next t ∧ (t.hostq h i).frames = rest ∧ (t.hostq h i).deficit = mget d i 0 - f.len
      ∧ (recHome (s.slice (mdSlice f.md)).record = h ∨ s.cstl.split = false →
          (t.half (recHome (s.slice (mdSlice f.md)).record)).cls.flight =
            (s.half (recHome (s.slice (mdSlice f.md)).record)).cls.flight ++ [{ f with stage := .xport }])
      ∧ (recHome (s.slice (mdSlice f.md)).record ≠ h → s.cstl.split = true →
          t.cnt (0x6A00 + h.num) 2 = s.cnt (0x6A00 + h.num) 2 + 1 ∧ t.k.cls = s.k.cls ∧ t.q.cls = s.q.cls)
      ∧ (∀ j, j ≠ i → (t.hostq h j).frames = (s.hostq h j).frames))
  ∧ (∀ (s : State) (n : Fin 16) (p : Path) (dg da dl : Map Int) (f : Frame) (rest : List Frame),
    s.forwards (ethHalf n.val) = true → s.works (ethHalf n.val) 13 = true → s.schedule n.val = some (p, dg, da, dl) →
    (s.node (ethHalf n.val) 3 p.leaf).frames = f :: rest →
    ∃ t, exec (.schedSend n) s = .next t ∧ (t.node (ethHalf n.val) 3 p.leaf).frames = rest
      ∧ (s.node (ethHalf n.val) 3 p.leaf).sent < (t.node (ethHalf n.val) 3 p.leaf).sent
      ∧ (t.half (ethHalf n.val)).cls.flight =
          (s.half (ethHalf n.val)).cls.flight ++ [{ f with stage := .net, port := n.val }])
  ∧ (∀ (s : State) (h : Half) (level n : Nat), n < levelSize level → s.board.boot = .running →
    ∃ t, exec (.bucketRefill h level n) s = .next t
      ∧ (t.node h level n).record = (s.node h level n).next.getD (s.node h level n).record
      ∧ (t.node h level n).cb = Min.min
          ((s.node h level n).cb
            + ((ndCir (t.node h level n).record * (if level = 3 then 8 else 1) * 4294967296 / 8000 : Nat) : Int))
          ((ndCbs (t.node h level n).record : Int) * 4294967296)
      ∧ (t.node h level n).pb = Min.min
          ((s.node h level n).pb
            + ((ndPir (t.node h level n).record * (if level = 3 then 8 else 1) * 4294967296 / 8000 : Nat) : Int))
          ((ndPbs (t.node h level n).record : Int) * 4294967296)
      ∧ (t.node h level n).frames = (s.node h level n).frames
      ∧ (∀ l m, nodeKey l m ≠ nodeKey level n → t.node h l m = s.node h l m)
      ∧ t.half h.other = s.half h.other ∧ { t with k := s.k, q := s.q } = s)

/-- NODE_RECORD_WRITE, ATTACH_WRITE, QUEUE_PROFILE_WRITE, PFC_THRESH_WRITE, POLICER_WRITE, TM_CNT_CLEAR (R193, R194, R199, R201,
R202, R205, R208, R210, R212): ENABLE, ATTACH, TC and QPROFILE of a leaf apply at once, every other field at the next refill; a
leaf that is disabled discards its frames; values out of range are refused with no effect. -/
def Obligations.TrafficManagerObjects : Prop :=
  (∀ (s : State) (w : Who) (rec r : BitVec 256) (x : NodeSel), s.grants w 0xA100 2 (leBytes 32 rec.toNat) = true →
    x = s.nodeSel w.sess → x.exists_ = true → s.away w.sess x.half = false →
    r = nodeTaken x.level (s.node x.half x.level x.num).latest rec →
    (nodeRange x.level rec = true → s.moves x r = false → overReserved s (s.writeNode x r) x.half = false →
      ∃ t, exec (.nodeRecordWrite w rec) s = .next t ∧ t.answered w rsOk []
        ∧ (t.node x.half x.level x.num).next = some r
        ∧ (x.level = 3 → ndEnable (t.node x.half 3 x.num).record = ndEnable rec
            ∧ ndTc (t.node x.half 3 x.num).record = ndTc rec ∧ ndAttach (t.node x.half 3 x.num).record = ndAttach rec
            ∧ ndProfile (t.node x.half 3 x.num).record = ndProfile rec)
        ∧ (x.level ≠ 3 → (t.node x.half x.level x.num).record = (s.node x.half x.level x.num).record)
        ∧ ndCir (t.node x.half x.level x.num).record = ndCir (s.node x.half x.level x.num).record
        ∧ ndPir (t.node x.half x.level x.num).record = ndPir (s.node x.half x.level x.num).record
        ∧ ndOwner r = ndOwner (s.node x.half x.level x.num).latest
        ∧ (x.level = 3 → ndEnable rec = false → (t.node x.half 3 x.num).frames = []
            ∧ t.cnt (0x6300 + x.half.num) 8 = s.cnt (0x6300 + x.half.num) 8 + (s.node x.half 3 x.num).frames.length)
        ∧ (x.level ≠ 3 ∨ ndEnable rec = true →
            (t.node x.half x.level x.num).frames = (s.node x.half x.level x.num).frames)
        ∧ (∀ l m, nodeKey l m ≠ nodeKey x.level x.num → t.node x.half l m = s.node x.half l m))
    ∧ (nodeRange x.level rec = false ∨ s.moves x r = true →
      ∃ t, exec (.nodeRecordWrite w rec) s = .next t ∧ t.answered w rsRefused [] ∧ t.quiet = s.quiet))
  ∧ (∀ (s : State) (w : Who) (rec : BitVec 512) (x : NodeSel), s.grants w 0xA100 3 (leBytes 64 rec.toNat) = true →
    x = s.nodeSel w.sess → x.exists_ = true → s.away w.sess x.half = false →
    (x.level = 2 → attachRange rec = true → (∀ i, i < 16 → s.attachHolds x.half x.num i = false) →
      ∃ t, exec (.attachWrite w rec) s = .next t ∧ t.answered w rsOk []
        ∧ t.node x.half 2 x.num = { s.node x.half 2 x.num with attNext := some rec }
        ∧ (∀ l m, nodeKey l m ≠ nodeKey 2 x.num → t.node x.half l m = s.node x.half l m))
    ∧ (x.level = 2 → attachRange rec = false →
      ∃ t, exec (.attachWrite w rec) s = .next t ∧ t.answered w rsRefused [] ∧ t.quiet = s.quiet)
    ∧ (x.level ≠ 2 → ∃ t, exec (.attachWrite w rec) s = .next t ∧ t.answered w rsNotFound [] ∧ t.quiet = s.quiet))
  ∧ (∀ (s : State) (w : Who) (rec : BitVec 128) (v : Nat) (h : Half), s.grants w 0xA100 7 (leBytes 16 rec.toNat) = true →
    v = s.sel w.sess (obj 0xA100 6) 0 → h = halfOf (v / 64 % 2) → s.away w.sess h = false →
    (profileRange rec = true → overReserved s (s.setParam h 0xA100 7 (v % 128) rec.toNat) h = false →
      ∃ t, exec (.queueProfileWrite w rec) s = .next t ∧ t.answered w rsOk [] ∧ t.profile h (v % 64) = rec
        ∧ (∀ g i, i < 64 → (g ≠ h ∨ i ≠ v % 64) → t.profile g i = s.profile g i)
        ∧ { t.quiet with mgmt := s.quiet.mgmt } = s.quiet)
    ∧ (profileRange rec = false →
      ∃ t, exec (.queueProfileWrite w rec) s = .next t ∧ t.answered w rsRefused [] ∧ t.quiet = s.quiet))
  ∧ (∀ (s : State) (w : Who) (n : Fin 16) (rec : BitVec 96), s.grants w 0xA110 (n.val + 1) (leBytes 12 rec.toNat) = true →
    (fld rec 32 32 < fld rec 0 32 →
      overReserved s (s.setParam (ethHalf n.val) 0xA110 (n.val + 1) 0 rec.toNat) (ethHalf n.val) = false →
      ∃ t, exec (.pfcThreshWrite w n rec) s = .next t ∧ t.answered w rsOk [] ∧ t.xoffCells n.val = fld rec 0 32
        ∧ t.xonCells n.val = fld rec 32 32 ∧ t.headroomCells n.val = fld rec 64 32
        ∧ (∀ p, p < 8 → s.lossless n.val p = true → fld rec 0 32 < s.ingress n.val p →
            (t.ethPort n.val).xoff.getLsbD p = true)
        ∧ (∀ p, p < 8 → s.lossless n.val p = true → s.ingress n.val p ≤ fld rec 32 32 →
            (t.ethPort n.val).xoff.getLsbD p = false)
        ∧ (∀ m, m ≠ n.val → t.ethPort m = s.ethPort m))
    ∧ (fld rec 0 32 ≤ fld rec 32 32 →
      ∃ t, exec (.pfcThreshWrite w n rec) s = .next t ∧ t.answered w rsRefused [] ∧ t.quiet = s.quiet))
  ∧ (∀ (s : State) (w : Who) (rec : BitVec 256) (v : Nat) (h : Half), s.grants w 0xA100 0x0A (leBytes 32 rec.toNat) = true →
    v = s.sel w.sess (obj 0xA100 9) 0 → h = halfOf (v / 65536 % 2) → s.away w.sess h = false →
    (policerRange rec = true →
      ∃ t, exec (.policerWrite w rec) s = .next t ∧ t.answered w rsOk []
        ∧ t.policer h (v % 65536) = (s.policer h (v % 65536)).write (setFld rec 160 16 0) (s.time h)
        ∧ poCir (t.policer h (v % 65536)).record = poCir rec ∧ poMode (t.policer h (v % 65536)).record = poMode rec
        ∧ (t.policer h (v % 65536)).tc ≤ poCbs rec * 4294967296 ∧ (t.policer h (v % 65536)).te ≤ poEbs rec * 4294967296
        ∧ (∀ i, i ≠ v % 65536 → t.policer h i = s.policer h i))
    ∧ (policerRange rec = false →
      ∃ t, exec (.policerWrite w rec) s = .next t ∧ t.answered w rsRefused [] ∧ t.quiet = s.quiet))
  ∧ (∀ (s : State) (w : Who) (v : BitVec 8), s.grants w 0xA100 0x0D (leBytes 1 v.toNat) = true →
    s.maskOk w.sess v.toNat = true →
    ∃ t, exec (.tmCntClear w v) s = .next t ∧ t.answered w rsOk []
      ∧ (∀ h i, inMask v.toNat h = true → i < 256 → t.cnt (0x6300 + h.num) i = 0)
      ∧ (∀ h l n, inMask v.toNat h = true → t.node h l n =
          { s.node h l n with sent := 0, sentBytes := 0, tailDrop := 0, wredDrop := 0, ecnMark := 0 })
      ∧ (∀ h i, inMask v.toNat h = true → t.policer h i = { s.policer h i with stats := [] }))

/-- The ALU instructions of a nib thread that issues them (R229): the value rd takes, on the full 64 bits; the thread goes on at the
next instruction, and nothing else changes. -/
def Obligations.NibAluInstructions : Prop :=
  ∀ (s : State) (t : Th) (rd ra rb : Reg),
    (s.issues t (encR 0x00 rd.toNat ra.toNat rb.toNat 0x000) = true →
      exec (.add t rd ra rb) s = .next (s.wrote t rd (s.rv t ra + s.rv t rb)))
    ∧ (s.issues t (encR 0x00 rd.toNat ra.toNat rb.toNat 0x001) = true →
      exec (.sub t rd ra rb) s = .next (s.wrote t rd (s.rv t ra - s.rv t rb)))
    ∧ (s.issues t (encR 0x00 rd.toNat ra.toNat rb.toNat 0x002) = true →
      exec (.and t rd ra rb) s = .next (s.wrote t rd (s.rv t ra &&& s.rv t rb)))
    ∧ (s.issues t (encR 0x00 rd.toNat ra.toNat rb.toNat 0x003) = true →
      exec (.or t rd ra rb) s = .next (s.wrote t rd (s.rv t ra ||| s.rv t rb)))
    ∧ (s.issues t (encR 0x00 rd.toNat ra.toNat rb.toNat 0x004) = true →
      exec (.xor t rd ra rb) s = .next (s.wrote t rd (s.rv t ra ^^^ s.rv t rb)))
    ∧ (s.issues t (encR 0x00 rd.toNat ra.toNat rb.toNat 0x005) = true →
      exec (.andn t rd ra rb) s = .next (s.wrote t rd (s.rv t ra &&& ~~~ s.rv t rb)))
    ∧ (s.issues t (encR 0x00 rd.toNat ra.toNat rb.toNat 0x006) = true →
      exec (.sll t rd ra rb) s = .next (s.wrote t rd (s.rv t ra <<< ((s.rv t rb).toNat % 64))))
    ∧ (s.issues t (encR 0x00 rd.toNat ra.toNat rb.toNat 0x007) = true →
      exec (.srl t rd ra rb) s = .next (s.wrote t rd (s.rv t ra >>> ((s.rv t rb).toNat % 64))))
    ∧ (s.issues t (encR 0x00 rd.toNat ra.toNat rb.toNat 0x008) = true →
      exec (.sra t rd ra rb) s = .next (s.wrote t rd ((s.rv t ra).sshiftRight ((s.rv t rb).toNat % 64))))
    ∧ (s.issues t (encR 0x00 rd.toNat ra.toNat rb.toNat 0x009) = true →
      exec (.rol t rd ra rb) s = .next (s.wrote t rd ((s.rv t ra).rotateLeft ((s.rv t rb).toNat % 64))))
    ∧ (s.issues t (encR 0x00 rd.toNat ra.toNat rb.toNat 0x00A) = true →
      exec (.slt t rd ra rb) s = .next (s.wrote t rd (if (s.rv t ra).toInt < (s.rv t rb).toInt then 1 else 0)))
    ∧ (s.issues t (encR 0x00 rd.toNat ra.toNat rb.toNat 0x00B) = true →
      exec (.sltu t rd ra rb) s = .next (s.wrote t rd (if (s.rv t ra).toNat < (s.rv t rb).toNat then 1 else 0)))
    ∧ (s.issues t (encR 0x00 rd.toNat ra.toNat rb.toNat 0x00C) = true →
      exec (.mul t rd ra rb) s = .next (s.wrote t rd (s.rv t ra * s.rv t rb)))
    ∧ (s.issues t (encR 0x00 rd.toNat ra.toNat rb.toNat 0x00D) = true →
      exec (.mulhu t rd ra rb) s = .next (s.wrote t rd (BitVec.ofNat 64 ((s.rv t ra).toNat * (s.rv t rb).toNat / 2 ^ 64))))
    ∧ (s.issues t (encR 0x00 rd.toNat ra.toNat rb.toNat 0x00E) = true →
      exec (.min t rd ra rb) s = .next (s.wrote t rd (if (s.rv t ra).toInt ≤ (s.rv t rb).toInt then s.rv t ra else s.rv t rb)))
    ∧ (s.issues t (encR 0x00 rd.toNat ra.toNat rb.toNat 0x00F) = true →
      exec (.max t rd ra rb) s = .next (s.wrote t rd (if (s.rv t ra).toInt ≤ (s.rv t rb).toInt then s.rv t rb else s.rv t ra)))
    ∧ (∀ n : Nat, n ≤ 64 → (∀ i, i < n → (s.rv t ra).getLsbD (63 - i) = false) →
        (n < 64 → (s.rv t ra).getLsbD (63 - n) = true) → s.issues t (encR 0x00 rd.toNat ra.toNat rb.toNat 0x010) = true →
        exec (.clz t rd ra rb) s = .next (s.wrote t rd (BitVec.ofNat 64 n)))
    ∧ (s.issues t (encR 0x00 rd.toNat ra.toNat rb.toNat 0x011) = true →
      exec (.popc t rd ra rb) s =
        .next (s.wrote t rd (BitVec.ofNat 64 ((List.range 64).filter fun i => (s.rv t ra).getLsbD i).length)))
    ∧ (s.issues t (encR 0x00 rd.toNat ra.toNat rb.toNat 0x012) = true →
      ∃ v : Word, exec (.bswap t rd ra rb) s = .next (s.wrote t rd v)
        ∧ ∀ i, i < 8 → v.extractLsb' (8 * i) 8 = (s.rv t ra).extractLsb' (56 - 8 * i) 8)
    ∧ (s.issues t (encR 0x00 rd.toNat ra.toNat rb.toNat 0x013) = true →
      exec (.crc32c t rd ra rb) s = .next (s.wrote t rd
        ((crcUpdate ((s.rv t ra).truncate 32) (beBytes 8 (s.rv t rb).toNat)).zeroExtend 64)))

/-- The immediate instructions of a nib thread that issues them (R228): the value rd takes; EXT and INS with POS + LEN above 64 fault
with ILLEGAL. -/
def Obligations.NibImmediateInstructions : Prop :=
  ∀ (s : State) (t : Th) (rd ra : Reg) (imm : BitVec 16),
    (s.issues t (encI 0x01 rd.toNat ra.toNat imm.toNat) = true →
      exec (.addi t rd ra imm) s = .next (s.wrote t rd (s.rv t ra + imm.signExtend 64)))
    ∧ (s.issues t (encI 0x02 rd.toNat ra.toNat imm.toNat) = true →
      exec (.andi t rd ra imm) s = .next (s.wrote t rd (s.rv t ra &&& imm.zeroExtend 64)))
    ∧ (s.issues t (encI 0x03 rd.toNat ra.toNat imm.toNat) = true →
      exec (.ori t rd ra imm) s = .next (s.wrote t rd (s.rv t ra ||| imm.zeroExtend 64)))
    ∧ (s.issues t (encI 0x04 rd.toNat ra.toNat imm.toNat) = true →
      exec (.xori t rd ra imm) s = .next (s.wrote t rd (s.rv t ra ^^^ imm.zeroExtend 64)))
    ∧ (s.issues t (encI 0x05 rd.toNat ra.toNat imm.toNat) = true →
      exec (.slli t rd ra imm) s = .next (s.wrote t rd (s.rv t ra <<< (imm.toNat % 64))))
    ∧ (s.issues t (encI 0x06 rd.toNat ra.toNat imm.toNat) = true →
      exec (.srli t rd ra imm) s = .next (s.wrote t rd (s.rv t ra >>> (imm.toNat % 64))))
    ∧ (s.issues t (encI 0x07 rd.toNat ra.toNat imm.toNat) = true →
      exec (.srai t rd ra imm) s = .next (s.wrote t rd ((s.rv t ra).sshiftRight (imm.toNat % 64))))
    ∧ (s.issues t (encI 0x08 rd.toNat ra.toNat imm.toNat) = true →
      exec (.slti t rd ra imm) s = .next (s.wrote t rd (if (s.rv t ra).toInt < imm.toInt then 1 else 0)))
    ∧ (s.issues t (encI 0x09 rd.toNat ra.toNat imm.toNat) = true →
      exec (.sltiu t rd ra imm) s = .next (s.wrote t rd (if (s.rv t ra).toNat < (imm.signExtend 64).toNat then 1 else 0)))
    ∧ (s.issues t (encI 0x0A rd.toNat ra.toNat imm.toNat) = true →
      exec (.lui t rd ra imm) s = .next (s.wrote t rd (imm.signExtend 64 <<< (16 : Nat))))
    ∧ (s.issues t (encI 0x0B rd.toNat ra.toNat imm.toNat) = true →
      exec (.shori t rd ra imm) s = .next (s.wrote t rd ((s.rv t ra <<< (16 : Nat)) ||| imm.zeroExtend 64)))
    ∧ (∀ pos len : Nat, pos = imm.toNat % 64 → len = imm.toNat / 64 % 64 + 1 →
        (s.issues t (encI 0x0C rd.toNat ra.toNat imm.toNat) = true → pos + len ≤ 64 →
          ∃ v : Word, exec (.ext t rd ra imm) s = .next (s.wrote t rd v)
            ∧ ∀ i, i < 64 → v.getLsbD i = (decide (i < len) && (s.rv t ra).getLsbD (pos + i)))
        ∧ (s.issues t (encI 0x0C rd.toNat ra.toNat imm.toNat) = true → 64 < pos + len →
          exec (.ext t rd ra imm) s = .next (s.faulted t 1))
        ∧ (s.issues t (encI 0x0D rd.toNat ra.toNat imm.toNat) = true → pos + len ≤ 64 →
          ∃ v : Word, exec (.ins t rd ra imm) s = .next (s.wrote t rd v)
            ∧ ∀ i, i < 64 → v.getLsbD i =
                if pos ≤ i ∧ i < pos + len then (s.rv t ra).getLsbD (i - pos) else (s.rv t rd).getLsbD i)
        ∧ (s.issues t (encI 0x0D rd.toNat ra.toNat imm.toNat) = true → 64 < pos + len →
          exec (.ins t rd ra imm) s = .next (s.faulted t 1)))

/-- LB, LH, LW, LD, SB, SH, SW, SD, ATOM_ADD, ATOM_SWAP, ATOM_CAS, ATOM_OR, ATOM_AND (R225, R226, R228, R242): accesses are
big-endian and naturally aligned; each region of the map is read and written, and every other byte stays; a misaligned access, one
outside the map, one to read-only bytes and one to the frame window without a frame fault with no effect. -/
def Obligations.NibLoadsStoresAndAtomics : Prop :=
  (∀ (s : State) (t : Th) (rd ra : Reg) (imm : BitVec 16) (i : Instr) (k a : Nat),
    (i, k) ∈ [(Instr.lb t rd ra imm, 0), (.lh t rd ra imm, 1), (.lw t rd ra imm, 2), (.ld t rd ra imm, 3)] →
    s.issues t (encI (0x10 + k) rd.toNat ra.toNat imm.toNat) = true → a = (s.rv t ra + imm.signExtend 64).toNat →
    (a % 2 ^ k ≠ 0 → exec i s = .next (s.faulted t 2))
    ∧ (a % 2 ^ k = 0 → a < 0x1000 →
        exec i s = .next (s.wrote t rd (BitVec.ofNat 64 (beNat (memBytes (s.thr t).scratch a (2 ^ k))))))
    ∧ (a % 2 ^ k = 0 → 0x1000000 ≤ a → a < 0x1200000 →
        exec i s = .next (s.wrote t rd (BitVec.ofNat 64
          (beNat (memBytes (s.nib t.unit.val).shared (a - 0x1000000) (2 ^ k))))))
    ∧ (a % 2 ^ k = 0 → 0x40000000 ≤ a → a < 0x40000000 + (s.nib t.unit.val).img 20 2 * 1048576 → a < 4294967296 →
        (s.nib t.unit.val).lost = none →
        exec i s = .next (s.wrote t rd (BitVec.ofNat 64
          (beNat (memBytes (s.nib t.unit.val).overflow (a - 0x40000000) (2 ^ k))))))
    ∧ (∀ f, a % 2 ^ k = 0 → (s.thr t).frame = some f →
        (0x10000 ≤ a → a < 0x10100 →
          exec i s = .next (s.wrote t rd (BitVec.ofNat 64 (beNat (slice f.bytes (a - 0x10000) (2 ^ k))))))
        ∧ (0x10100 ≤ a → a < 0x10120 →
          exec i s = .next (s.wrote t rd (BitVec.ofNat 64 (beNat (slice (beBytes 32 f.md.toNat) (a - 0x10100) (2 ^ k))))))
        ∧ (0x10120 ≤ a → a < 0x10128 →
          exec i s = .next (s.wrote t rd (BitVec.ofNat 64 (beNat (slice f.info (a - 0x10120) (2 ^ k)))))))
    ∧ (a % 2 ^ k = 0 → 0x10000 ≤ a → a < 0x10128 → (s.thr t).frame = none → exec i s = .next (s.faulted t 4))
    ∧ (a % 2 ^ k = 0 → 4294967296 ≤ a ∨ (s.nib t.unit.val).region a = none → exec i s = .next (s.faulted t 3)))
  ∧ (∀ (s : State) (t : Th) (rd ra : Reg) (imm : BitVec 16) (i : Instr) (k a : Nat) (bs : List Byte),
    (i, k) ∈ [(Instr.sb t rd ra imm, 0), (.sh t rd ra imm, 1), (.sw t rd ra imm, 2), (.sd t rd ra imm, 3)] →
    s.issues t (encI (0x14 + k) rd.toNat ra.toNat imm.toNat) = true → a = (s.rv t ra + imm.signExtend 64).toNat →
    bs = beBytes (2 ^ k) (s.rv t rd).toNat →
    (a % 2 ^ k ≠ 0 → exec i s = .next (s.faulted t 2))
    ∧ (a % 2 ^ k = 0 → a < 0x1000 →
        exec i s = .next (s.putThr t { s.thr t with scratch := memPut (s.thr t).scratch a bs }.next))
    ∧ (a % 2 ^ k = 0 → 0x1000000 ≤ a → a < 0x1200000 →
        ∃ r, exec i s = .next r ∧ (r.nib t.unit.val).shared = memPut (s.nib t.unit.val).shared (a - 0x1000000) bs
          ∧ r.setNib t.unit.val { r.nib t.unit.val with shared := (s.nib t.unit.val).shared } = s.putThr t (s.thr t).next)
    ∧ (a % 2 ^ k = 0 → 0x40000000 ≤ a → a < 0x40000000 + (s.nib t.unit.val).img 20 2 * 1048576 → a < 4294967296 →
        (s.nib t.unit.val).lost = none →
        ∃ r, exec i s = .next r ∧ (r.nib t.unit.val).overflow = memPut (s.nib t.unit.val).overflow (a - 0x40000000) bs
          ∧ r.setNib t.unit.val { r.nib t.unit.val with overflow := (s.nib t.unit.val).overflow } = s.putThr t (s.thr t).next)
    ∧ (∀ f, a % 2 ^ k = 0 → (s.thr t).frame = some f →
        (0x10000 ≤ a → a < 0x10100 → a - 0x10000 + 2 ^ k ≤ f.bytes.length →
          exec i s = .next (s.putThr t
            { s.thr t with frame := some { f with bytes := patch f.bytes (a - 0x10000) bs } }.next))
        ∧ (0x10000 ≤ a → a < 0x10100 → f.bytes.length < a - 0x10000 + 2 ^ k → exec i s = .next (s.faulted t 3))
        ∧ (0x10100 ≤ a → a < 0x10120 → exec i s = .next (s.putThr t { s.thr t with
            frame := some { f with md := BitVec.ofNat 256 (beNat (patch (beBytes 32 f.md.toNat) (a - 0x10100) bs)) } }.next))
        ∧ (0x10120 ≤ a → a < 0x10128 → exec i s = .next (s.faulted t 3)))
    ∧ (a % 2 ^ k = 0 → 0x10000 ≤ a → a < 0x10128 → (s.thr t).frame = none → exec i s = .next (s.faulted t 4))
    ∧ (a % 2 ^ k = 0 → 4294967296 ≤ a ∨ (s.nib t.unit.val).region a = none → exec i s = .next (s.faulted t 3)))
  ∧ (∀ (s : State) (t : Th) (rd ra rb : Reg) (i : Instr) (k a : Nat) (old new : Word),
    (i, k, new) ∈ [(Instr.atomAdd t rd ra rb, 0, old + s.rv t rb), (.atomSwap t rd ra rb, 1, s.rv t rb),
      (.atomCas t rd ra rb, 2, if old = s.rv t rd then s.rv t rb else old), (.atomOr t rd ra rb, 3, old ||| s.rv t rb),
      (.atomAnd t rd ra rb, 4, old &&& s.rv t rb)] →
    s.issues t (encR 0x18 rd.toNat ra.toNat rb.toNat k) = true → a = (s.rv t ra).toNat →
    old = BitVec.ofNat 64 (beNat (memBytes (s.nib t.unit.val).shared (a - 0x1000000) 8)) →
    (0x1000000 ≤ a → a < 0x1200000 → a % 8 = 0 →
      ∃ r, exec i s = .next r
        ∧ (r.nib t.unit.val).shared = memPut (s.nib t.unit.val).shared (a - 0x1000000) (beBytes 8 new.toNat)
        ∧ r.setNib t.unit.val { r.nib t.unit.val with shared := (s.nib t.unit.val).shared } = s.wrote t rd old)
    ∧ (a < 0x1000000 ∨ 0x1200000 ≤ a ∨ a % 8 ≠ 0 → exec i s = .next (s.faulted t 3)))
  ∧ (∀ (m : Map Byte) (o b : Nat) (bs : List Byte),
    mget (memPut m o bs) b 0 = if o ≤ b ∧ b < o + bs.length then bs.getD (b - o) 0 else mget m b 0)

/-- BEQ, BNE, BLT, BGE, BLTU, BGEU, J, CALL, JR (R227, R228): a branch is taken by the comparison it names, to its own address plus
4 × sext(OFF); CALL and JR keep the address of the next instruction. -/
def Obligations.NibControlFlow : Prop :=
  (∀ (s : State) (t : Th) (ra rb : Reg) (off : BitVec 16) (i : Instr) (k : Nat) (taken : Bool),
    (i, k, taken) ∈ [(Instr.beq t ra rb off, 0, decide (s.rv t ra = s.rv t rb)),
      (.bne t ra rb off, 1, decide (s.rv t ra ≠ s.rv t rb)),
      (.blt t ra rb off, 2, decide ((s.rv t ra).toInt < (s.rv t rb).toInt)),
      (.bge t ra rb off, 3, decide ((s.rv t rb).toInt ≤ (s.rv t ra).toInt)),
      (.bltu t ra rb off, 4, decide ((s.rv t ra).toNat < (s.rv t rb).toNat)),
      (.bgeu t ra rb off, 5, decide ((s.rv t rb).toNat ≤ (s.rv t ra).toNat))] →
    s.issues t (encI (0x20 + k) ra.toNat rb.toNat off.toNat) = true →
    exec i s = .next (s.putThr t (if taken then
        { s.thr t with st := .running, pc := ((((s.thr t).pc : Int) + 4 * off.toInt) % 4294967296).toNat }
      else { s.thr t with st := .running, pc := (s.thr t).pc + 4 })))
  ∧ (∀ (s : State) (t : Th) (off : BitVec 26),
    (s.issues t (encJ 0x26 off.toNat) = true → exec (.j t off) s = .next (s.putThr t
      { s.thr t with st := .running, pc := ((((s.thr t).pc : Int) + 4 * off.toInt) % 4294967296).toNat }))
    ∧ (s.issues t (encJ 0x27 off.toNat) = true → exec (.call t off) s = .next (s.putThr t
      { (s.thr t).setReg 31 (BitVec.ofNat 64 ((s.thr t).pc + 4)) with
        st := .running, pc := ((((s.thr t).pc : Int) + 4 * off.toInt) % 4294967296).toNat })))
  ∧ (∀ (s : State) (t : Th) (rd ra rb : Reg), s.issues t (encR 0x28 rd.toNat ra.toNat rb.toNat 0) = true →
    exec (.jr t rd ra rb) s = .next (s.putThr t
      { (s.thr t).setReg rd.toNat (BitVec.ofNat 64 ((s.thr t).pc + 4)) with
        st := .running, pc := (s.rv t ra).toNat % 4294967296 }))

/-- WFE, SIG, TIMER, TIME, SELF, FENCE, STOP, BRK, TR (R230, R231, R233, R248, R249): WFE returns and clears the pending events of its
mask or waits; SIG sets its event in another thread; BRK halts an armed thread and otherwise faults; TR delivers a lookup result or
stalls. -/
def Obligations.NibSystemInstructions : Prop :=
  (∀ (s : State) (t : Th) (rd ra rb : Reg) (m e : BitVec 32), s.issues t (encR 0x30 rd.toNat ra.toNat rb.toNat 0) = true →
    m = (s.rv t ra).truncate 32 ||| (if t.slot.val = 0 then 0x100#32 else 0#32) →
    e = (s.nib t.unit.val).events (s.thr t) &&& m →
    (e = 0 → exec (.wfe t rd ra rb) s = .next (s.putThr t
      { s.thr t with st := .waiting, mask := m, wfeRd := rd, since := s.time (nibHalf t.unit.val) }))
    ∧ (e ≠ 0 → ∃ r, exec (.wfe t rd ra rb) s = .next r
      ∧ r.thr t = ({ s.thr t with
          skip := false, mask := m, wfeRd := rd, since := s.time (nibHalf t.unit.val)
          pend := (s.thr t).pend &&& ~~~ e }.setReg rd.toNat (e.zeroExtend 64)).next
      ∧ (∀ i, i ≠ t.slot.val → r.th t.unit.val i = s.th t.unit.val i) ∧ { r with nibs := s.nibs } = s))
  ∧ (∀ (s : State) (t : Th) (rd ra rb : Reg) (j : Nat), s.issues t (encR 0x30 rd.toNat ra.toNat rb.toNat 1) = true →
    j = (s.rv t ra).toNat % 64 → j ≠ t.slot.val →
    ((s.th t.unit.val j).st = .idle → exec (.sig t rd ra rb) s = .next (s.putThr t (s.thr t).next))
    ∧ ((s.th t.unit.val j).st ≠ .idle → ∃ r, exec (.sig t rd ra rb) s = .next r
        ∧ r.thr t = { (s.thr t).next with skip := false }
        ∧ ((s.th t.unit.val j).st ≠ .waiting →
            r.th t.unit.val j = { s.th t.unit.val j with pend := (s.th t.unit.val j).pend ||| 0x40#32 })
        ∧ ((s.th t.unit.val j).st = .waiting → (s.th t.unit.val j).halted = none →
            (s.th t.unit.val j).mask.getLsbD 6 = true →
            (r.th t.unit.val j).st = .running ∧ (r.th t.unit.val j).pend.getLsbD 6 = false)
        ∧ (∀ i, i ≠ j → i ≠ t.slot.val → r.th t.unit.val i = s.th t.unit.val i) ∧ { r with nibs := s.nibs } = s))
  ∧ (∀ (s : State) (t : Th) (rd ra rb : Reg),
    (s.issues t (encR 0x30 rd.toNat ra.toNat rb.toNat 2) = true → (s.rv t ra).toNat < 2 ^ 40 →
      exec (.timer t rd ra rb) s = .next (s.putThr t { (s.thr t).next with
        timer := if s.rv t ra = 0 then none
          else some (s.time (nibHalf t.unit.val) + ((s.rv t ra).toNat + 7) / 8 * 8) }))
    ∧ (s.issues t (encR 0x30 rd.toNat ra.toNat rb.toNat 3) = true →
      exec (.time t rd ra rb) s = .next (s.wrote t rd (BitVec.ofNat 64 (s.time (nibHalf t.unit.val)))))
    ∧ (s.issues t (encR 0x30 rd.toNat ra.toNat rb.toNat 4) = true →
      exec (.self t rd ra rb) s = .next (s.wrote t rd
        (BitVec.ofNat 64 (unitId (nibHalf t.unit.val) (t.unit.val % 4) * 256 + t.slot.val))))
    ∧ (s.issues t (encR 0x30 rd.toNat ra.toNat rb.toNat 5) = true →
      exec (.fence t rd ra rb) s = .next (s.putThr t (s.thr t).next))
    ∧ (s.issues t (encR 0x30 rd.toNat ra.toNat rb.toNat 6) = true →
      exec (.stop t rd ra rb) s = .next (s.putThr t { (s.thr t).next with st := .stopped }))
    ∧ (s.issues t (encR 0x30 rd.toNat ra.toNat rb.toNat 7) = true → (s.thr t).armed = true → s.nv.programBlown = false →
      exec (.brk t rd ra rb) s = .next (s.putThr t { s.thr t with halted := some 3 }))
    ∧ (s.issues t (encR 0x30 rd.toNat ra.toNat rb.toNat 7) = true → (s.thr t).armed = false ∨ s.nv.programBlown = true →
      exec (.brk t rd ra rb) s = .next (s.faulted t 8)))
  ∧ (∀ (s : State) (t : Th) (rd ra rb : Reg), s.issues t (encR 0x30 rd.toNat ra.toNat rb.toNat 8) = true →
    (rd.toNat = 0 ∨ 28 < rd.toNat → exec (.tr t rd ra rb) s = .next (s.faulted t 7))
    ∧ (1 ≤ rd.toNat → rd.toNat ≤ 28 → (s.thr t).result = none →
        exec (.tr t rd ra rb) s = .next (s.putThr t { s.thr t with st := .stallTr }))
    ∧ (∀ a b c d, 1 ≤ rd.toNat → rd.toNat ≤ 28 → (s.thr t).result = some [a, b, c, d] →
        exec (.tr t rd ra rb) s = .next (s.putThr t
          { ((((s.thr t).setReg rd.toNat a).setReg (rd.toNat + 1) b).setReg (rd.toNat + 2) c).setReg (rd.toNat + 3) d with
            result := none }.next)))

/-- PEND_FORWARD, PEND_DROP, PEND_EXCEPTION, PLEN, TQ (R223, R231): the verdict ends the held frame, which goes on to TMGR or, sent by
a host, through CIPHER, or is dropped, or goes to the exception pool, and counts; without a held frame PEND and PLEN fault; TQ takes
the key from its registers and stalls while a lookup or its result is outstanding. -/
def Obligations.NibPacketsAndLookups : Prop :=
  (∀ (s : State) (t : Th) (rd ra rb : Reg) (f g : Frame), s.issues t (encR 0x31 rd.toNat ra.toNat rb.toNat 0) = true →
    (s.thr t).frame = some f → g = { f with md := f.pendWord, exc := false } → (s.rv t ra).toNat % 256 = 0 →
    ∃ r, exec (.pendForward t rd ra rb) s = .next r
      ∧ (r.thr t).frame = none ∧ (r.thr t).pc = (s.thr t).pc + 4 ∧ (r.thr t).st = .running ∧ (r.thr t).regs = (s.thr t).regs
      ∧ (g.dir = false → mdChosen g.md = false →
          r.cnt (0x6400 + t.unit.val) 5 = s.cnt (0x6400 + t.unit.val) 5 + 1
          ∧ r.k.cls = s.k.cls ∧ r.q.cls = s.q.cls)
      ∧ (g.dir = true ∨ mdChosen g.md = true → s.isolate (nibHalf t.unit.val) g = none →
          mdMirror g.md = 0 ∨ mdMirror g.md = mdMirror f.mdIn →
          r.cnt (0x6400 + t.unit.val) 4 = s.cnt (0x6400 + t.unit.val) 4 + 1
          ∧ (r.half (nibHalf t.unit.val)).cls.flight = (s.half (nibHalf t.unit.val)).cls.flight
              ++ [{ g with stage := if g.dir then .espTx else .tmgr }]))
  ∧ (∀ (s : State) (t : Th) (rd ra rb : Reg) (f : Frame), s.issues t (encR 0x31 rd.toNat ra.toNat rb.toNat 0) = true →
    (s.thr t).frame = some f →
    ((s.rv t ra).toNat % 256 ≠ 0 → (s.rv t ra).toNat % 256 ≠ 2 → ∃ r, exec (.pendDrop t rd ra rb) s = .next r
      ∧ (r.thr t).frame = none ∧ (r.thr t).pc = (s.thr t).pc + 4 ∧ (r.thr t).regs = (s.thr t).regs
      ∧ r.cnt (0x6400 + t.unit.val) 5 = s.cnt (0x6400 + t.unit.val) 5 + 1
      ∧ (r.half (nibHalf t.unit.val)).cls.flight = (s.half (nibHalf t.unit.val)).cls.flight)
    ∧ ((s.rv t ra).toNat % 256 = 2 → 0x20 ≤ (s.rv t ra).toNat / 256 % 256 → ∃ r, exec (.pendException t rd ra rb) s = .next r
      ∧ (r.thr t).frame = none ∧ (r.thr t).pc = (s.thr t).pc + 4 ∧ (r.thr t).regs = (s.thr t).regs
      ∧ ((s.thr t).frameExc = false → r.cnt (0x6400 + t.unit.val) 6 = s.cnt (0x6400 + t.unit.val) 6 + 1)
      ∧ ((s.thr t).frameExc = true → r.cnt (0x6400 + t.unit.val) 5 = s.cnt (0x6400 + t.unit.val) 5 + 1)
      ∧ (r.half (nibHalf t.unit.val)).cls.flight = (s.half (nibHalf t.unit.val)).cls.flight))
  ∧ (∀ (s : State) (t : Th) (rd ra rb : Reg) (i : Instr), s.issues t (encR 0x31 rd.toNat ra.toNat rb.toNat 0) = true →
    (s.thr t).frame = none →
    (i, true) ∈ [(Instr.pendForward t rd ra rb, (s.rv t ra).toNat % 256 == 0),
      (.pendDrop t rd ra rb, (s.rv t ra).toNat % 256 != 0 && (s.rv t ra).toNat % 256 != 2),
      (.pendException t rd ra rb, (s.rv t ra).toNat % 256 == 2)] →
    exec i s = .next (s.faulted t 4))
  ∧ (∀ (s : State) (t : Th) (rd ra rb : Reg), s.issues t (encR 0x31 rd.toNat ra.toNat rb.toNat 1) = true →
    ((s.thr t).frame = none → exec (.plen t rd ra rb) s = .next (s.faulted t 4))
    ∧ (∀ f, (s.thr t).frame = some f →
        exec (.plen t rd ra rb) s = .next (s.wrote t rd (BitVec.ofNat 64 f.bytes.length))))
  ∧ (∀ (s : State) (t : Th) (rd ra : Reg) (imm : BitVec 16) (k : Nat) (g : Nat → Nat),
    s.issues t (encI 0x32 rd.toNat ra.toNat imm.toNat) = true → k = imm.toNat % 16 →
    g = (fun i => ((s.thr t).reg (ra.toNat + i)).toNat) →
    ((k = 1 ∨ k = 4) → ra.toNat = 0 ∨ 27 < ra.toNat → exec (.tq t rd ra imm) s = .next (s.faulted t 7))
    ∧ (k = 2 → ra.toNat = 0 ∨ 30 < ra.toNat → exec (.tq t rd ra imm) s = .next (s.faulted t 7))
    ∧ (k = 3 → ra.toNat = 0 ∨ 29 < ra.toNat → exec (.tq t rd ra imm) s = .next (s.faulted t 7))
    ∧ (1 ≤ ra.toNat → ra.toNat ≤ 27 → (s.thr t).lookup.isSome = true ∨ (s.thr t).result.isSome = true →
        exec (.tq t rd ra imm) s = .next (s.putThr t { s.thr t with st := .stallTq }))
    ∧ (∀ key, (s.thr t).lookup = none → (s.thr t).result = none → 1 ≤ ra.toNat → ra.toNat ≤ 27 →
        ((k = 1 ∨ k = 4) → key = g 0 * 2 ^ 256 + g 1 * 2 ^ 192 + g 2 * 2 ^ 128 + g 3 * 2 ^ 64 + g 4) →
        (k = 2 → key = g 0 % 2 ^ 16 * 2 ^ 128 + g 1 % 2 ^ 32) →
        (k = 3 → key = g 0 % 2 ^ 16 * 2 ^ 128 + g 1 * 2 ^ 64 + g 2) →
        (k = 0 ∨ 5 ≤ k → key = g 0 % 2 ^ 16) →
        exec (.tq t rd ra imm) s = .next (s.putThr t { (s.thr t).next with lookup := some (k, key) })))

/-- CHW, CHC, CHR, CHWATCH, CHX, LACQ, LTRY, LREL, LMOV, CSUB_COPY, CSUB_ESP_OUT, CSUB_ESP_IN (R232, R234, R235, R237, R238, R242): a
message is staged, then appended whole or kept where the channel is full; a frame has its lock at the head of its queue, and leaving
passes it on; a submission is taken, stalls as the fifth, or faults by its address. -/
def Obligations.NibChannelsLocksAndSubmissions : Prop :=
  (∀ (s : State) (t : Th) (rd ra rb : Reg) (c : Nat), s.issues t (encR 0x34 rd.toNat ra.toNat rb.toNat 0) = true →
    c = (s.rv t rb).toNat % 64 →
    ((s.thr t).staged = none →
      exec (.chw t rd ra rb) s = .next (s.putThr t { (s.thr t).next with staged := some (c, [s.rv t ra]) }))
    ∧ (∀ d ws, (s.thr t).staged = some (d, ws) → d = c → ws.length < 8 →
      exec (.chw t rd ra rb) s = .next (s.putThr t { (s.thr t).next with staged := some (c, ws ++ [s.rv t ra]) }))
    ∧ (∀ d ws, (s.thr t).staged = some (d, ws) → d ≠ c ∨ 8 ≤ ws.length →
      exec (.chw t rd ra rb) s = .next (s.faulted t 5)))
  ∧ (∀ (s : State) (t : Th) (rd ra rb : Reg), s.issues t (encR 0x34 rd.toNat ra.toNat rb.toNat 1) = true →
    ((s.thr t).staged = none → exec (.chc t rd ra rb) s = .next (s.wrote t rd 2))
    ∧ (∀ c ws, (s.thr t).staged = some (c, ws) → 16 ≤ (mget (s.nib t.unit.val).chans c []).length →
        exec (.chc t rd ra rb) s = .next (s.wrote t rd 1))
    ∧ (∀ c ws, (s.thr t).staged = some (c, ws) → (mget (s.nib t.unit.val).chans c []).length < 16 →
        ∃ r, exec (.chc t rd ra rb) s = .next r
          ∧ mget (r.nib t.unit.val).chans c [] = mget (s.nib t.unit.val).chans c [] ++ [ws]
          ∧ (∀ d, d ≠ c → mget (r.nib t.unit.val).chans d [] = mget (s.nib t.unit.val).chans d [])
          ∧ r.thr t = ({ s.thr t with staged := none, skip := false }.setReg rd.toNat 0).next
          ∧ { r with nibs := s.nibs } = s))
  ∧ (∀ (s : State) (t : Th) (rd ra rb : Reg) (c : Nat), s.issues t (encR 0x34 rd.toNat ra.toNat rb.toNat 2) = true →
    c = (s.rv t ra).toNat % 64 →
    (rd.toNat = 0 ∨ 23 < rd.toNat → exec (.chr t rd ra rb) s = .next (s.faulted t 7))
    ∧ (1 ≤ rd.toNat → rd.toNat ≤ 23 → mget (s.nib t.unit.val).chans c [] = [] →
        exec (.chr t rd ra rb) s = .next (s.wrote t rd 0))
    ∧ (∀ m rest, 1 ≤ rd.toNat → rd.toNat ≤ 23 → mget (s.nib t.unit.val).chans c [] = m :: rest →
        ∃ r, exec (.chr t rd ra rb) s = .next r ∧ mget (r.nib t.unit.val).chans c [] = rest
          ∧ (∀ d, d ≠ c → mget (r.nib t.unit.val).chans d [] = mget (s.nib t.unit.val).chans d [])
          ∧ (r.thr t).reg rd.toNat = BitVec.ofNat 64 m.length
          ∧ (∀ x, x ≠ rd.toNat → (r.thr t).reg x =
              if rd.toNat < x ∧ x ≤ rd.toNat + m.length then m.getD (x - rd.toNat - 1) 0 else (s.thr t).reg x)
          ∧ (r.thr t).pc = (s.thr t).pc + 4 ∧ { r with nibs := s.nibs } = s))
  ∧ (∀ (s : State) (t : Th) (rd ra rb : Reg),
    (s.issues t (encR 0x34 rd.toNat ra.toNat rb.toNat 3) = true →
      exec (.chwatch t rd ra rb) s = .next (s.putThr t { (s.thr t).next with watch := s.rv t ra }))
    ∧ (s.issues t (encR 0x34 rd.toNat ra.toNat rb.toNat 4) = true →
      exec (.chx t rd ra rb) s = .next (s.putThr t { (s.thr t).next with staged := none })))
  ∧ (∀ (s : State) (t : Th) (rd ra rb : Reg) (f : Frame) (n : Nat), (s.thr t).frame = some f →
    (s.nib t.unit.val).lockOf f.arrival = some n →
    (∀ i, (i, true) ∈ [(Instr.lacq t rd ra rb, s.issues t (encR 0x35 rd.toNat ra.toNat rb.toNat 0)),
        (.ltry t rd ra rb, s.issues t (encR 0x35 rd.toNat ra.toNat rb.toNat 1))] →
      ((s.nib t.unit.val).lock n).queue.head? = some f.arrival →
      exec i s = .next (s.putThr t (({ s.thr t with
          holds := true, poisoned := ((s.nib t.unit.val).lock n).poisoned, wantLock := false }.setReg rd.toNat
        (if ((s.nib t.unit.val).lock n).poisoned then 1 else 0)).next)))
    ∧ (s.issues t (encR 0x35 rd.toNat ra.toNat rb.toNat 0) = true →
        ((s.nib t.unit.val).lock n).queue.head? ≠ some f.arrival →
        exec (.lacq t rd ra rb) s = .next (s.putThr t { s.thr t with st := .waitLock, wfeRd := rd }))
    ∧ (s.issues t (encR 0x35 rd.toNat ra.toNat rb.toNat 1) = true →
        ((s.nib t.unit.val).lock n).queue.head? ≠ some f.arrival →
        exec (.ltry t rd ra rb) s = .next (s.putThr t { ((s.thr t).setReg rd.toNat 2).next with wantLock := true }))
    ∧ (s.issues t (encR 0x35 rd.toNat ra.toNat rb.toNat 2) = true → ∃ r, exec (.lrel t rd ra rb) s = .next r
        ∧ ((r.nib t.unit.val).lock n).queue = ((s.nib t.unit.val).lock n).queue.erase f.arrival
        ∧ ((s.thr t).holds = true → ((r.nib t.unit.val).lock n).poisoned = false)
        ∧ ((s.thr t).holds = false → ((r.nib t.unit.val).lock n).poisoned = ((s.nib t.unit.val).lock n).poisoned)
        ∧ r.thr t = { s.thr t with holds := false, poisoned := false, wantLock := false, skip := false }.next
        ∧ (∀ a rest j, ((s.nib t.unit.val).lock n).queue.erase f.arrival = a :: rest → a ≠ f.arrival →
            (s.nib t.unit.val).holder a = some j → (s.th t.unit.val j).st = .waitLock →
            (s.th t.unit.val j).halted = none → j ≠ t.slot.val →
            (r.th t.unit.val j).holds = true ∧ (r.th t.unit.val j).st = .running)
        ∧ { r with nibs := s.nibs } = s)
    ∧ (∀ m, s.issues t (encR 0x35 rd.toNat ra.toNat rb.toNat 3) = true → m = (s.rv t ra).toNat % 4096 →
        ∃ r, exec (.lmov t rd ra rb) s = .next r
          ∧ ((r.nib t.unit.val).lock m).queue =
              (if m = n then ((s.nib t.unit.val).lock n).queue.erase f.arrival else ((s.nib t.unit.val).lock m).queue)
                ++ [f.arrival]
          ∧ (m ≠ n → ((r.nib t.unit.val).lock n).queue = ((s.nib t.unit.val).lock n).queue.erase f.arrival)
          ∧ r.thr t = { s.thr t with holds := false, poisoned := false, wantLock := false, skip := false }.next
          ∧ { r with nibs := s.nibs } = s))
  ∧ (∀ (s : State) (t : Th) (rd ra rb : Reg), (s.nib t.unit.val).heldLock t.slot.val = none →
    (∀ i, (i, true) ∈ [(Instr.lacq t rd ra rb, s.issues t (encR 0x35 rd.toNat ra.toNat rb.toNat 0)),
        (.ltry t rd ra rb, s.issues t (encR 0x35 rd.toNat ra.toNat rb.toNat 1)),
        (.lmov t rd ra rb, s.issues t (encR 0x35 rd.toNat ra.toNat rb.toNat 3))] →
      exec i s = .next (s.faulted t 6))
    ∧ (s.issues t (encR 0x35 rd.toNat ra.toNat rb.toNat 2) = true →
        exec (.lrel t rd ra rb) s = .next (s.putThr t (s.thr t).next)))
  ∧ (∀ (s : State) (t : Th) (rd ra : Reg) (imm : BitVec 16) (i : Instr) (a kind op : Nat),
    s.issues t (encI 0x36 rd.toNat ra.toNat imm.toNat) = true → a = (s.rv t ra + imm.signExtend 64).toNat →
    kind = (mget (s.thr t).scratch a 0).toNat → op = (mget (s.thr t).scratch (a + 2) 0).toNat →
    (i, true) ∈ [(Instr.csubCopy t rd ra imm, kind != 2), (.csubEspOut t rd ra imm, kind == 2 && op != 2),
      (.csubEspIn t rd ra imm, kind == 2 && op == 2)] →
    (a % 64 ≠ 0 → exec i s = .next (s.faulted t 2))
    ∧ (a % 64 = 0 → 0x1000 ≤ a → exec i s = .next (s.faulted t 3))
    ∧ (a % 64 = 0 → a < 0x1000 → 4 ≤ (s.thr t).subs.length + (s.thr t).deadSubs.length →
        exec i s = .next (s.putThr t { s.thr t with st := .stallCsub }))
    ∧ (a % 64 = 0 → a < 0x1000 → (s.thr t).subs.length + (s.thr t).deadSubs.length < 4 → kind = 1 ∨ kind = 2 →
        exec i s = .next (s.putThr t { (s.thr t).next with
          subs := (s.thr t).subs ++ [{ kind := kind, addr := a, frame := (s.thr t).frame.map (·.arrival) }] }))
    ∧ (a % 64 = 0 → a < 0x1000 → (s.thr t).subs.length + (s.thr t).deadSubs.length < 4 → kind ≠ 1 → kind ≠ 2 →
        exec i s = .next (s.putThr t { (s.thr t).next with
          scratch := mset (s.thr t).scratch (a + 1) (BitVec.ofNat 8 stMalformed) 0 })))

/-- FRAME_DELIVER, TBL_RESULT_READY, COPY_SUBMIT_END, CIPHER_SUBMIT_END, THREAD_TIMER_FIRE, STALEMATE, NIB_DRAIN_LIMIT (R222, R230 to
R232, R241, R247, R264, R265): a thread gets the oldest frame of its class with v1 and v2 set; results, statuses and events reach the
thread that asked; a timer and the stalemate detector act at their time; a unit that has drained for 1 ms holds no frame. -/
def Obligations.NibUnitEvents : Prop :=
  (∀ (s : State) (u : Fin 8) (f : Frame) (rest : List Frame) (i : Nat), s.nibRuns u.val = true →
    ((s.nib u.val).waitD = f :: rest → (List.range 64).find? ((s.nib u.val).takes 1) = some i →
      ∃ r, exec (.frameDeliver u .dispatch) s = .next r ∧ (r.nib u.val).waitD = rest
        ∧ (r.th u.val i).frame = some f ∧ (r.th u.val i).st = .running ∧ (r.th u.val i).frameExc = false
        ∧ (r.th u.val i).pc = ((s.nib u.val).entry (mdAprog f.md)).getD 0
        ∧ (r.th u.val i).reg 1 = BitVec.ofNat 64 (mdAprog f.md) ∧ (r.th u.val i).reg 2 = BitVec.ofNat 64 f.bytes.length
        ∧ r.cnt (0x6400 + u.val) 1 = s.cnt (0x6400 + u.val) 1 + 1
        ∧ (∀ j, j ≠ i → r.th u.val j = s.th u.val j) ∧ { r with nibs := s.nibs, stat := s.stat } = s)
    ∧ ((s.nib u.val).waitE = f :: rest → (List.range 64).find? ((s.nib u.val).takes 2) = some i →
      ∃ r, exec (.frameDeliver u .exception) s = .next r ∧ (r.nib u.val).waitE = rest
        ∧ (r.th u.val i).frame = some f ∧ (r.th u.val i).st = .running ∧ (r.th u.val i).frameExc = true
        ∧ (r.th u.val i).pc = (s.nib u.val).img 24 4
        ∧ (r.th u.val i).reg 1 = BitVec.ofNat 64 (f.reason % 256 * 256 + f.detail % 256)
        ∧ (r.th u.val i).reg 2 = BitVec.ofNat 64 f.bytes.length
        ∧ r.cnt (0x6400 + u.val) 2 = s.cnt (0x6400 + u.val) 2 + 1
        ∧ (∀ j, j ≠ i → r.th u.val j = s.th u.val j) ∧ { r with nibs := s.nibs, stat := s.stat } = s))
  ∧ (∀ (s : State) (t : Th) (k key : Nat), (s.thr t).lookup = some (k, key) → s.active (nibHalf t.unit.val) 7 = true →
    ∃ r w, exec (.tblResultReady t) s = .next r ∧ (r.thr t).lookup = none ∧ (r.thr t).result = some w
      ∧ (k = 0 ∨ 8 < k → w.head? = some 2)
      ∧ (1 ≤ k → k ≤ 8 → (s.half (nibHalf t.unit.val)).cls.live.hit k key (key / 2 ^ 128) (key % 2 ^ 128) = none →
          w.head? = some 0)
      ∧ (∀ a, 1 ≤ k → k ≤ 8 → (s.half (nibHalf t.unit.val)).cls.live.hit k key (key / 2 ^ 128) (key % 2 ^ 128) = some a →
          w = [1, BitVec.ofNat 64 (beAt (leBytes 24 a.toNat) 0 8), BitVec.ofNat 64 (beAt (leBytes 24 a.toNat) 8 8),
                BitVec.ofNat 64 (beAt (leBytes 24 a.toNat) 16 8)])
      ∧ ((s.thr t).st = .stallTr → (r.thr t).st = .running)
      ∧ ((s.thr t).st ≠ .waiting → (r.thr t).pend = (s.thr t).pend ||| 0x2#32)
      ∧ (∀ j, j ≠ t.slot.val → r.th t.unit.val j = s.th t.unit.val j)
      ∧ { r with nibs := s.nibs, fresh := s.fresh } = s)
  ∧ (∀ (s : State) (t : Th) (b : Sub) (rest : List Sub) (n src dst : Nat), takeSub 1 (s.thr t).deadSubs = none →
    takeSub 1 (s.thr t).subs = some (b, rest) → n = beAt (memBytes (s.thr t).scratch b.addr 64) 16 4 →
    src = beAt (memBytes (s.thr t).scratch b.addr 64) 8 4 → dst = beAt (memBytes (s.thr t).scratch b.addr 64) 12 4 →
    ∃ r, exec (.copySubmitEnd t) s = .next r ∧ (r.thr t).subs = rest
      ∧ ((s.thr t).st ≠ .waiting → (r.thr t).pend = (s.thr t).pend ||| 0x8#32)
      ∧ (n = 0 ∨ 65536 < n → mget (r.thr t).scratch (b.addr + 1) 0 = BitVec.ofNat 8 stRange)
      ∧ (1 ≤ n → src + n ≤ 0x1000 → dst + n ≤ 0x1000 → mget (r.thr t).scratch (b.addr + 1) 0 = BitVec.ofNat 8 stOk
          ∧ ∀ j, j < n → dst + j ≠ b.addr + 1 →
              mget (r.thr t).scratch (dst + j) 0 = mget (s.thr t).scratch (src + j) 0)
      ∧ { r with nibs := s.nibs } = s)
  ∧ (∀ (s s2 : State) (t : Th) (icvOk : Bool) (b : Sub) (rest : List Sub) (f : Frame) (rec : List Byte) (st : Nat)
    (y : Option (List Byte × Nat)), takeSub 2 (s.thr t).deadSubs = none →
    takeSub 2 (s.thr t).subs = some (b, rest) → rec = memBytes (s.thr t).scratch b.addr 64 →
    ∃ r, exec (.cipherSubmitEnd t icvOk) s = .next r ∧ (r.thr t).subs = rest
      ∧ ((s.thr t).st ≠ .waiting → (r.thr t).pend = (s.thr t).pend ||| 0x4#32)
      ∧ (s.works (nibHalf t.unit.val) 9 = false → mget (r.thr t).scratch (b.addr + 1) 0 = BitVec.ofNat 8 stMedia
          ∧ (r.thr t).frame = (s.thr t).frame)
      ∧ (s.works (nibHalf t.unit.val) 9 = true → leAt rec 2 1 ≠ 1 → leAt rec 2 1 ≠ 2 →
          mget (r.thr t).scratch (b.addr + 1) 0 = BitVec.ofNat 8 stMalformed ∧ (r.thr t).frame = (s.thr t).frame)
      ∧ (s.works (nibHalf t.unit.val) 9 = true → (s.thr t).frame = some f → b.frame = some f.arrival →
          (leAt rec 2 1 = 1 ∧ s.espOut (nibHalf t.unit.val) (leAt rec 4 2) (leAt rec 6 2) f = (s2, st, y))
            ∨ (leAt rec 2 1 = 2 ∧ s.espIn (nibHalf t.unit.val) (leAt rec 4 2) (leAt rec 6 2) f icvOk = (s2, st, y)) →
          mget (r.thr t).scratch (b.addr + 1) 0 = BitVec.ofNat 8 st ∧ r.k.cipher = s2.k.cipher ∧ r.q.cipher = s2.q.cipher
          ∧ (y = none → (r.thr t).frame = some f)
          ∧ (∀ bs seq, y = some (bs, seq) → (r.thr t).frame = some { f with bytes := bs }
              ∧ memBytes (r.thr t).scratch (b.addr + 8) 2 = leBytes 2 bs.length
              ∧ memBytes (r.thr t).scratch (b.addr + 16) 8 = leBytes 8 seq)))
  ∧ (∀ (s : State) (t : Th) (d : Nat), (s.thr t).timer = some d →
    ∃ r, exec (.threadTimerFire t) s = .next r ∧ d ≤ r.time (nibHalf t.unit.val) ∧ (r.thr t).timer = none
      ∧ ((s.thr t).st ≠ .waiting → (r.thr t).pend = (s.thr t).pend ||| 0x10#32)
      ∧ ((s.thr t).st = .waiting → (s.thr t).halted = none → (s.thr t).mask.getLsbD 4 = true → (r.thr t).st = .running)
      ∧ (∀ j, j ≠ t.slot.val → r.th t.unit.val j = s.th t.unit.val j) ∧ r.out = s.out)
  ∧ (∀ (s : State) (u : Fin 8), s.nibRuns u.val = true → (s.nib u.val).stale = true →
    (s.nib u.val).staleFired = false →
    ∃ r, exec (.stalemate u) s = .next r ∧ r.cnt (0x6400 + u.val) 9 = s.cnt (0x6400 + u.val) 9 + 1
      ∧ (∀ e ∈ (s.nib u.val).threads, e.2.leftOut = false → e.2.since + 10000 ≤ r.time (nibHalf u.val))
      ∧ ((s.th u.val 0).st = .waiting → (s.th u.val 0).halted = none → (s.th u.val 0).mask.getLsbD 8 = true →
          (r.th u.val 0).st = .running)
      ∧ ((s.th u.val 0).st ≠ .waiting → (r.th u.val 0).pend = (s.th u.val 0).pend ||| 0x100#32
          ∧ (r.nib u.val).staleFired = true)
      ∧ (∀ j, j ≠ 0 → r.th u.val j = s.th u.val j))
  ∧ (∀ (s : State) (u : Fin 8), (s.unit (nibHalf u.val) (u.val % 4)).st = .draining →
    ∃ r, exec (.nibDrainLimit u) s = .next r
      ∧ (s.unit (nibHalf u.val) (u.val % 4)).since + 1000000 ≤ r.time (nibHalf u.val)
      ∧ (r.nib u.val).waitD = [] ∧ (r.nib u.val).waitE = [] ∧ (∀ i, i < 64 → (r.th u.val i).frame = none))

/-- LOAD_DATA_WRITE, LOAD_BEGIN, LOAD_VERIFY, LOAD_INSTALL, LOAD_INSTALL_DONE, LOAD_CANCEL, DBG_HALT, DBG_RESUME, DBG_STEP, DBG_RESET,
DBG_ARM, DBG_DISARM (R245, R246, R248 to R250): the load of an action image, its install in a unit in SERVICE, and what each debug
command does to the selected thread. -/
def Obligations.NibImagesAndDebug : Prop :=
  (∀ (s : State) (w : Who) (bs : List Byte), s.grants w 0xA700 2 bs = true → s.mgmt.nibLoad.busy = false →
    s.mgmt.nibLoad.mine w.sess = true → s.mgmt.nibLoad.buf.length + bs.length ≤ 4194304 →
    ∃ t, exec (.loadDataWrite w bs) s = .next t ∧ t.answered w rsOk []
      ∧ t.mgmt.nibLoad =
          { s.mgmt.nibLoad with owner := some w.sess, buf := s.mgmt.nibLoad.buf ++ bs, verified := false }
      ∧ { t.quiet with mgmt := s.quiet.mgmt } = s.quiet)
  ∧ (∀ (s : State) (w : Who) (v : Byte), s.grants w 0xA700 3 [v] = true → s.mgmt.nibLoad.busy = true →
    (∃ t, exec (.loadBegin w) s = .next t ∧ (v = 1 → t.answered w rsBusy [] ∧ t.quiet = s.quiet))
    ∧ (∃ t, exec (.loadInstall w) s = .next t ∧ (v = 3 → t.answered w rsBusy [] ∧ t.quiet = s.quiet)))
  ∧ (∀ (s : State) (w : Who), s.mgmt.nibLoad.busy = false →
    (s.grants w 0xA700 3 [1] = true → s.mgmt.nibLoad.mine w.sess = true →
      ∃ t, exec (.loadBegin w) s = .next t ∧ t.answered w rsOk []
        ∧ t.mgmt.nibLoad = { owner := some w.sess, target := s.loadTarget w.sess }
        ∧ { t.quiet with mgmt := s.quiet.mgmt } = s.quiet)
    ∧ (s.grants w 0xA700 3 [2] = true → s.mgmt.nibLoad.owner = some w.sess →
      ∃ t, exec (.loadVerify w) s = .next t ∧ t.answered w rsOk []
        ∧ t.mgmt.nibLoad = { s.mgmt.nibLoad with
            status := s.verifyAction s.mgmt.nibLoad.buf
            verified := decide (s.verifyAction s.mgmt.nibLoad.buf = stOk) }
        ∧ { t.quiet with mgmt := s.quiet.mgmt } = s.quiet)
    ∧ (s.grants w 0xA700 3 [3] = true → s.mgmt.nibLoad.owner = some w.sess → s.cstl.split = false →
      ∃ t, exec (.loadInstall w) s = .next t
        ∧ (s.mgmt.nibLoad.verified = false → t.answered w rsRefused [] ∧ t.quiet = s.quiet)
        ∧ (s.mgmt.nibLoad.verified = true → s.installable s.mgmt.nibLoad.target = false →
            t.answered w rsOk [] ∧ t.mgmt.nibLoad = { s.mgmt.nibLoad with status := stRange })
        ∧ (s.mgmt.nibLoad.verified = true → s.installable s.mgmt.nibLoad.target = true →
            s.overflowFits s.mgmt.nibLoad.target (imOverflow (envPayload s.mgmt.nibLoad.buf)) = false →
            t.answered w rsOk [] ∧ t.mgmt.nibLoad = { s.mgmt.nibLoad with status := stQuota })
        ∧ (s.mgmt.nibLoad.verified = true → s.installable s.mgmt.nibLoad.target = true →
            s.overflowFits s.mgmt.nibLoad.target (imOverflow (envPayload s.mgmt.nibLoad.buf)) = true →
            t.answered w rsOk [] ∧ t.mgmt.nibLoad = { s.mgmt.nibLoad with busy := true, status := stOk }))
    ∧ (s.grants w 0xA700 3 [4] = true → s.mgmt.nibLoad.owner = some w.sess →
      ∃ t, exec (.loadCancel w) s = .next t ∧ t.answered w rsOk [] ∧ t.mgmt.nibLoad.buf = []
        ∧ t.mgmt.nibLoad.owner = none ∧ t.nibs = s.nibs))
  ∧ (∀ (s : State) (p : List Byte), s.mgmt.nibLoad.busy = true → s.installable s.mgmt.nibLoad.target = true →
    p = envPayload s.mgmt.nibLoad.buf →
    ∃ t, exec .loadInstallDone s = .next t ∧ t.mgmt.nibLoad.busy = false ∧ t.mgmt.nibLoad.owner = none
      ∧ t.mgmt.nibLoad.status = stOk ∧ (t.nib s.mgmt.nibLoad.target).image = some (slice p 0 1152)
      ∧ (∀ i, i < imCodeLen p / 4 →
          mget (t.nib s.mgmt.nibLoad.target).code i 0 = BitVec.ofNat 32 (beAt p (1152 + 4 * i) 4))
      ∧ (∀ i, (t.th s.mgmt.nibLoad.target i).frame = none ∧ (t.th s.mgmt.nibLoad.target i).staged = none
          ∧ (t.th s.mgmt.nibLoad.target i).scratch = [])
      ∧ (t.nib s.mgmt.nibLoad.target).waitD = [] ∧ (t.nib s.mgmt.nibLoad.target).waitE = []
      ∧ (t.nib s.mgmt.nibLoad.target).locks = [] ∧ (t.nib s.mgmt.nibLoad.target).chans = []
      ∧ (∀ u, u ≠ s.mgmt.nibLoad.target → t.nib u = s.nib u))
  ∧ (∀ (s : State) (w : Who) (u i : Nat), s.dbgThread w.sess = (u, i) → s.cstl.split = false →
    (s.grants w 0xA720 2 [1] = true → (s.th u i).halted = none →
      ∃ t, exec (.dbgHalt w) s = .next t ∧ t.answered w rsOk [] ∧ t.th u i = { s.th u i with halted := some 1 }
        ∧ (∀ j, j ≠ i → t.th u j = s.th u j) ∧ { t.quiet with nibs := s.nibs } = s.quiet)
    ∧ (s.grants w 0xA720 2 [2] = true → (s.th u i).halted.isSome = true → (s.th u i).st = .running →
      ∃ t, exec (.dbgResume w) s = .next t ∧ t.answered w rsOk []
        ∧ t.th u i = { s.th u i with halted := none, skip := true }
        ∧ (∀ j, j ≠ i → t.th u j = s.th u j) ∧ { t.quiet with nibs := s.nibs } = s.quiet)
    ∧ (s.grants w 0xA720 2 [3] = true → (s.th u i).halted = none →
      ∃ t, exec (.dbgStep w) s = .next t ∧ t.answered w rsRefused [] ∧ t.quiet = s.quiet)
    ∧ (∀ c f s2, s.grants w 0xA720 2 [3] = true → (s.th u i).halted.isSome = true → (s.th u i).st = .running →
        s.nibRuns u = true → (s.nib u).fetch (s.th u i).pc = some c → nibMeaning c = some f →
        f ((s.accepted w).setTh u i { s.th u i with halted := none, skip := false }) u i c = .ok s2 →
        (s2.th u i).halted = none →
        ∃ t, exec (.dbgStep w) s = .next t ∧ t.answered w rsOk [] ∧ t.th u i = { s2.th u i with halted := some 4 }
          ∧ { t with out := s2.out, nibs := s2.nibs } = s2)
    ∧ (s.grants w 0xA720 2 [4] = true →
      ∃ t, exec (.dbgReset w) s = .next t ∧ t.answered w rsOk [] ∧ (t.th u i).halted = none ∧ (t.th u i).frame = none
        ∧ (t.th u i).staged = none ∧ (t.th u i).timer = none ∧ (t.th u i).pend = 0 ∧ (∀ r, (t.th u i).reg r = 0))
    ∧ (s.grants w 0xA720 2 [5] = true → ∃ t, exec (.dbgArm w) s = .next t ∧ t.answered w rsOk []
        ∧ t.th u i = { s.th u i with armed := true } ∧ (∀ j, j ≠ i → t.th u j = s.th u j)
        ∧ { t.quiet with nibs := s.nibs } = s.quiet)
    ∧ (s.grants w 0xA720 2 [6] = true → ∃ t, exec (.dbgDisarm w) s = .next t ∧ t.answered w rsOk []
        ∧ t.th u i = { s.th u i with armed := false } ∧ (∀ j, j ≠ i → t.th u j = s.th u j)
        ∧ { t.quiet with nibs := s.nibs } = s.quiet))

/-- The words of the nib instructions (R227, R228, R229, R230, R234, R238): decoding the word of an instruction gives that instruction
with every operand; a decoded instruction's word agrees with the word in every bit that its meaning uses; a word with an undefined OP
or FUNC decodes to nothing. -/
def Obligations.NibWordsDecodeAndEncode : Prop :=
  (∀ (i : Instr) (t : Th) (w : BitVec 32), nibWord i = some (t, w) → i ∈ nibDecode t w)
  ∧ (∀ (i : Instr) (t : Th) (w : BitVec 32), i ∈ nibDecode t w →
      ∃ v, nibWord i = some (t, v) ∧ sameWord w v = true)
  ∧ (∀ (t : Th) (w : BitVec 32), nibDecode t w = [] ↔ usedBits w = none)
  ∧ (∀ (t : Th) (w : BitVec 32), fOp w ≠ 0x31 → fOp w ≠ 0x36 → (nibDecode t w).length ≤ 1)

/-- A nib instruction acts only where its word stands at the thread's address, and an undefined word there faults with ILLEGAL (R217,
R227, R242): a fault restarts the thread, is recorded with its code and address, and counts. -/
def Obligations.NibInstructionsActAtTheirWord : Prop :=
  (∀ (s : State) (i : Instr) (t : Th) (w c : BitVec 32), nibWord i = some (t, w) →
    s.ready t.unit.val t.slot.val = true → (s.nib t.unit.val).fetch (s.thr t).pc = some c → (usedBits c).isSome = true →
    sameWord c w = false → exec i s = .next s)
  ∧ (∀ (s : State) (i : Instr) (t : Th) (w : BitVec 32), nibWord i = some (t, w) →
    s.ready t.unit.val t.slot.val = false → exec i s = .next s)
  ∧ (∀ (s : State) (t : Th) (rd ra rb : Reg) (c : BitVec 32), s.ready t.unit.val t.slot.val = true →
    (s.nib t.unit.val).fetch (s.thr t).pc = some c → usedBits c = none →
    exec (.add t rd ra rb) s = .next (s.threadFault t.unit.val t.slot.val 1))
  ∧ (∀ (s : State) (t : Th) (code : Nat), (s.thr t).frame = none →
    (s.threadFault t.unit.val t.slot.val code).cnt (0x6400 + t.unit.val) 7 = s.cnt (0x6400 + t.unit.val) 7 + 1
    ∧ ((s.threadFault t.unit.val t.slot.val code).nib t.unit.val).faultLog =
        ((s.time (nibHalf t.unit.val), t.slot.val, code, (s.thr t).pc) :: (s.nib t.unit.val).faultLog).take 16
    ∧ ((s.threadFault t.unit.val t.slot.val code).thr t).staged = none
    ∧ ((s.threadFault t.unit.val t.slot.val code).thr t).timer = none
    ∧ ((s.threadFault t.unit.val t.slot.val code).thr t).pend = 0
    ∧ (∀ r, ((s.threadFault t.unit.val t.slot.val code).thr t).reg r = 0)
    ∧ (∀ j, j ≠ t.slot.val → (s.threadFault t.unit.val t.slot.val code).th t.unit.val j = s.th t.unit.val j))

/-- RDQ_SQ_DOORBELL, RDQ_RQ_DOORBELL, RDQ_DB_IGNORED_READ, QP_MODIFY, QP_ABORT, QP_CONTEXT_FETCH_DONE, PARK_TIMEOUT (R278 to R283,
R291, R292, R304): a doorbell is an 8-byte write that follows the rules of work queues and fetches an absent context; MODIFY makes
the permitted transitions and no others; a failed context fetch takes the QP to ERROR. -/
def Obligations.QueuePairCommands : Prop :=
  (∀ (s : State) (q : QRef) (qp : BitVec 20) (pi : BitVec 16) (k i : Nat) (c : Instr), s.reachesQp q qp.toNat k = true →
    (c, i) ∈ [(.rdqSqDoorbell q qp pi true, 0), (.rdqRqDoorbell q qp pi true, 1)] →
    ∃ t, exec c s = .next t
      ∧ ((s.qpk k).st ≠ .reset → (s.queue (sqOf k + i)).st = .running → s.sliceOn (s.queue (sqOf k + i)).slice = true →
          (s.queue (sqOf k + i)).doorbellOk pi = true →
          t.queue (sqOf k + i) = { s.queue (sqOf k + i) with doorbell := pi } ∧ t.queue (sqOf k + 1 - i) = s.queue (sqOf k + 1 - i)
          ∧ t.otherQps s k
          ∧ ((s.qpk k).cached = true → t.withQpsOf s (qpHalf k) = s)
          ∧ ((s.qpk k).cached = false → (t.qpk k).fetching = true
              ∧ ((s.qpk k).fetching = false →
                  t.cnt (0x6600 + (qpHalf k).num) 0x10 = s.cnt (0x6600 + (qpHalf k).num) 0x10 + 1)))
      ∧ ((s.qpk k).st = .reset → { t with fns := s.fns } = s
          ∧ mget (t.fn (fkey q.fn)).dbIgnored (s.rdqBlock q).2 0 = sat31 (mget (s.fn (fkey q.fn)).dbIgnored (s.rdqBlock q).2 0)))
  ∧ (∀ (s : State) (q : QRef) (qp : BitVec 20) (pi : BitVec 16) (c : Instr), s.reachesBlock q = true →
    c ∈ [.rdqSqDoorbell q qp pi false, .rdqRqDoorbell q qp pi false] →
    ∃ t, exec c s = .next t ∧ { t with fns := s.fns } = s
      ∧ mget (t.fn (fkey q.fn)).dbIgnored (s.rdqBlock q).2 0 = sat31 (mget (s.fn (fkey q.fn)).dbIgnored (s.rdqBlock q).2 0))
  ∧ (∀ (s : State) (q : QRef), s.reachesBlock q = true →
    ∃ t, exec (.rdqDbIgnoredRead q) s = .next t
      ∧ t.out = .read (mget (s.fn (fkey q.fn)).dbIgnored (s.rdqBlock q).2 0) :: s.out
      ∧ mget (t.fn (fkey q.fn)).dbIgnored (s.rdqBlock q).2 0 = 0 ∧ { t with fns := s.fns, out := s.out } = s)
  ∧ (∀ (s : State) (q : QRef) (r : BitVec 1024) (k : Nat), s.reachesQp q (qrQp r) k = true → qrOp r = 1 →
    ((s.qpk k).st = .reset → qrState r = 1 → s.initOk k ((s.rdqBlock q).1.getD 4096) r = true →
      ((s.half (qpHalf k)).rdma.qps.filter fun e => e.2.cached).length < 16384 →
      ∃ t, exec (.qpModify q r) s = .next t ∧ (t.qpk k).st = .init ∧ (t.qpk k).cached = true
        ∧ (t.qpk k).sq.base = BitVec.ofNat 64 (qrSqBase r) ∧ (t.qpk k).rq.base = BitVec.ofNat 64 (qrRqBase r)
        ∧ (t.qpk k).sq.logSize = qrSqLog r ∧ (t.qpk k).rq.logSize = qrRqLog r ∧ (t.qpk k).sq.cq = qrSqCq r
        ∧ (t.qpk k).rq.cq = qrRqCq r ∧ qrUd (t.qpk k).record = qrUd r ∧ qrQKey (t.qpk k).record = qrQKey r
        ∧ t.cmdEnds s q (QpSt.code .init * 256 + stOk) ∧ t.otherQps s k
        ∧ { t.withRdmaOf s (qpHalf k) with fns := s.fns } = s)
    ∧ ((s.qpk k).st = .init → qrState r = 2 →
      ∃ t, exec (.qpModify q r) s = .next t ∧ (t.qpk k).st = .rtr ∧ fld (t.qpk k).record 256 416 = fld r 256 416
        ∧ (qrUd (s.qpk k).record = false → (t.qpk k).ePsn = qrRqPsn r ∧ qrDestQpn (t.qpk k).record = qrDestQpn r)
        ∧ (t.qpk k).sq = (s.qpk k).sq ∧ (t.qpk k).rq = (s.qpk k).rq
        ∧ t.cmdEnds s q (QpSt.code .rtr * 256 + stOk) ∧ t.otherQps s k
        ∧ { t.withRdmaOf s (qpHalf k) with fns := s.fns } = s)
    ∧ ((s.qpk k).st = .rtr → qrState r = 3 → timersOk r = true →
      ∃ t, exec (.qpModify q r) s = .next t ∧ (t.qpk k).st = .rts ∧ (t.qpk k).nextPsn = qrSqPsn r ∧ (t.qpk k).unacked = qrSqPsn r
        ∧ (t.qpk k).retries = qrRetry r ∧ (t.qpk k).rnrLeft = qrRnrRetry r ∧ qrTimeout (t.qpk k).record = qrTimeout r
        ∧ (t.qpk k).sq = (s.qpk k).sq ∧ (t.qpk k).rq = (s.qpk k).rq
        ∧ t.cmdEnds s q (QpSt.code .rts * 256 + stOk) ∧ t.otherQps s k
        ∧ { t.withRdmaOf s (qpHalf k) with fns := s.fns } = s)
    ∧ ((s.qpk k).st = .rts → qrState r = 3 → timersOk r = true →
      ∃ t, exec (.qpModify q r) s = .next t
        ∧ { t.qpk k with record := (s.qpk k).record } = s.qpk k ∧ qrRetry (t.qpk k).record = qrRetry r
        ∧ qrMinRnr (t.qpk k).record = qrMinRnr r ∧ qrWriteEn (t.qpk k).record = qrWriteEn r
        ∧ qrDestQpn (t.qpk k).record = qrDestQpn (s.qpk k).record
        ∧ t.cmdEnds s q (QpSt.code .rts * 256 + stOk) ∧ t.otherQps s k
        ∧ { t.withRdmaOf s (qpHalf k) with fns := s.fns } = s)
    ∧ (qrState r ≠ 0 → qrState r ≠ 4 →
      ((s.qpk k).st = .error ∨ (s.qpk k).st = .reset ∧ qrState r ≠ 1 ∨ (s.qpk k).st = .init ∧ qrState r ≠ 2
        ∨ (s.qpk k).st = .rtr ∧ qrState r ≠ 3 ∨ (s.qpk k).st = .rts ∧ qrState r ≠ 3) →
      ∃ t, exec (.qpModify q r) s = .next t ∧ t.cmdEnds s q ((s.qpk k).st.code * 256 + stRange) ∧ { t with fns := s.fns } = s)
    ∧ (qrState r = 0 → (s.qpk k).sq.started = [] → (s.qpk k).rq.started = [] → (s.qpk k).sq.abort = none →
      s.sliceOn (s.qpk k).slice = true →
      ∃ t, exec (.qpModify q r) s = .next t ∧ t.qpk k = {} ∧ t.cmdEnds s q stOk ∧ t.otherQps s k ∧ t.out = s.out)
    ∧ (qrState r = 4 → (s.qpk k).st = .rts → (s.qpk k).sq.started = [] → (s.qpk k).sq.fetched = [] →
      (s.qpk k).rq.started = [] → (s.qpk k).rq.fetched = [] → s.sliceOn (s.qpk k).sq.slice = true →
      ∃ t, exec (.qpModify q r) s = .next t ∧ (t.qpk k).st = .error ∧ (t.qpk k).outst = [] ∧ t.otherQps s k))
  ∧ (∀ (s : State) (q : QRef) (r : BitVec 1024) (k : Nat), s.reachesQp q (qrQp r) k = true →
    ((s.qpk k).st ≠ .rts ∨ (s.qpk k).sq.abort ≠ none →
      ∃ t, exec (.qpAbort q r) s = .next t ∧ t.cmdEnds s q ((s.qpk k).st.code * 256 + stRange) ∧ { t with fns := s.fns } = s)
    ∧ (∀ a : Abort, a.index = BitVec.ofNat 16 (fld r 80 16) → a.tag = BitVec.ofNat 16 (fld r 64 16) →
      a.atag = BitVec.ofNat 16 (fld r 96 16) →
      (s.qpk k).st = .rts → (s.qpk k).sq.abort = none → (s.qpk k).sq.fetched.any a.hits = false →
      (s.qpk k).sq.started.any a.hits = true →
      (∀ e ∈ (s.qpk k).sq.started, a.hits e = true → (s.qpk k).outst.any (fun o => o.entry.index = e.index) = true) →
      ∃ t, exec (.qpAbort q r) s = .next t ∧ t.qpk k = { s.qpk k with sq := { (s.qpk k).sq with abort := some a } }
        ∧ t.cmdEnds s q (QpSt.code .rts * 256 + stOk) ∧ t.otherQps s k
        ∧ { t.withQpsOf s (qpHalf k) with fns := s.fns } = s))
  ∧ (∀ (s : State) (k : Nat), (s.qpk k).fetching = true → (s.qpk k).cached = false → (s.qpk k).parked = [] →
    (((s.half (qpHalf k)).rdma.qps.filter fun e => e.2.cached).length < 16384 →
      ∃ t, exec (.qpContextFetchDone k true) s = .next t ∧ (t.qpk k).cached = true ∧ (t.qpk k).fetching = false
        ∧ (t.qpk k).st = (s.qpk k).st ∧ (t.qpk k).sq = (s.qpk k).sq ∧ (t.qpk k).rq = (s.qpk k).rq ∧ t.otherQps s k
        ∧ t.withRdmaOf s (qpHalf k) = s)
    ∧ ((s.qpk k).st = .rts → (s.qpk k).sq.fetched = [] → (s.qpk k).sq.started = [] → (s.qpk k).rq.fetched = [] →
      (s.qpk k).rq.started = [] → 4096 ≤ (s.qpk k).sq.slice →
      ∃ t, exec (.qpContextFetchDone k false) s = .next t ∧ (t.qpk k).st = .error ∧ (t.qpk k).fetching = false
        ∧ bit (t.fn (s.qpk k).sq.fn).faultSummary 3 = true ∧ t.otherQps s k))
  ∧ (∀ (s : State) (k : Nat), (s.qpk k).parked ≠ [] →
    ∃ t, exec (.parkTimeout k) s = .next t ∧ t.qpk k = { s.qpk k with parked := [] } ∧ t.otherQps s k
      ∧ t.cnt (0x6600 + (qpHalf k).num) 5 = s.cnt (0x6600 + (qpHalf k).num) 5 + (s.qpk k).parked.length
      ∧ (s.qpk k).parkedAt + 20000 ≤ t.time (qpHalf k) ∧ t.out = s.out)

/-- RDMA_SEND, RDMA_SEND_IMM, RDMA_WRITE, RDMA_WRITE_IMM, RDMA_READ, RDMA_CAS, RDMA_FADD, ROCE_RESPONSE_RECEIVE, ACK_TIMEOUT,
RNR_TIMER_EXPIRY (R285, R286, R290, R300, R301, R303): the next entry of a send queue starts with a reserved slot and its packets
leave with consecutive PSNs; an ACK, the last READ data or an atomic's value completes it; a NAK or the end of the retries ends it
with an error and takes the QP to ERROR. -/
def Obligations.RdmaRequester : Prop :=
  (∀ (s : State) (k n op : Nat) (e : Entry) (bs : List Byte) (c : Instr),
    (c, op) ∈ [(.rdmaSend k (some bs), 0x10), (.rdmaSendImm k (some bs), 0x11), (.rdmaWrite k (some bs), 0x12),
      (.rdmaWriteImm k (some bs), 0x13), (.rdmaRead k, 0x14), (.rdmaCas k, 0x15), (.rdmaFadd k, 0x16)] →
    s.sqNext k = some e → e.opcode = op → e.sqBad (qrUd (s.qpk k).record) (qrMtu (s.qpk k).record) = false →
    qrUd (s.qpk k).record = false → s.slotFor (s.queueCq (sqOf k)) (sqOf k) = true →
    (0x14 ≤ op → (s.qpk k).readsOut < qrReqDepth (s.qpk k).record) →
    s.slicePort (qpHalf k) (s.qpk k).slice (qrTxMeta (s.qpk k).record) = some n → ethHalf n = qpHalf k →
    ∃ t ds, exec c s = .next t
      ∧ ds = (if 0x14 ≤ op then [] else if e.rdmaInline ∨ e.rdmaLen = 0 then e.rdmaInlineData false else fit e.rdmaLen bs)
      ∧ t.out = (reqPackets k (s.qpk k).nextPsn op (qrMtu (s.qpk k).record) e.rdmaLen ds).reverse ++ s.out
      ∧ e ∈ (t.qpk k).sq.started ∧ (∀ x ∈ (t.qpk k).sq.fetched, x.index ≠ e.index)
      ∧ (∃ o, (t.qpk k).outst = (s.qpk k).outst ++ [o] ∧ o.entry = e ∧ o.psn = (s.qpk k).nextPsn ∧ o.got = 0
          ∧ o.npkts = if 0x15 ≤ op then 1 else packets e.rdmaLen (qrMtu (s.qpk k).record))
      ∧ (t.qpk k).nextPsn = psnAdd (s.qpk k).nextPsn (if 0x15 ≤ op then 1 else packets e.rdmaLen (qrMtu (s.qpk k).record))
      ∧ (t.cq (s.queueCq (sqOf k))).reserved = (s.cq (s.queueCq (sqOf k))).reserved + 1 ∧ t.otherQps s k)
  ∧ (∀ (s : State) (k op v : Nat) (e : Entry) (c : Instr),
    (c, op) ∈ [(.rdmaSend k none, 0x10), (.rdmaSendImm k none, 0x11), (.rdmaWrite k none, 0x12), (.rdmaWriteImm k none, 0x13)] →
    s.sqNext k = some e → e.opcode = op → e.sqBad (qrUd (s.qpk k).record) (qrMtu (s.qpk k).record) = false →
    e.rdmaInline = false → e.rdmaLen ≠ 0 → s.slotFor (s.queueCq (sqOf k)) (sqOf k) = true →
    s.freeTag (s.qpk k).sq.fn = some v →
    ∃ t, exec c s = .next t ∧ e ∈ (t.qpk k).sq.started ∧ (t.qpk k).outst = (s.qpk k).outst ∧ t.out = s.out
      ∧ (∃ x, mfind (t.port (keyPort (s.qpk k).sq.fn)).tags v = some x ∧ x.kind = 2 ∧ x.queue = sqOf k ∧ x.entry = e.index))
  ∧ (∀ (s : State) (k op : Nat) (e : Entry) (bs : List Byte) (c : Instr),
    (c, op) ∈ [(.rdmaSend k (some bs), 0x10), (.rdmaSendImm k (some bs), 0x11)] →
    s.sqNext k = some e → e.opcode = op → e.sqBad true (qrMtu (s.qpk k).record) = false →
    qrUd (s.qpk k).record = true → s.slotFor (s.queueCq (sqOf k)) (sqOf k) = true →
    ∃ t, exec c s = .next t ∧ (t.qpk k).nextPsn = psnAdd (s.qpk k).nextPsn 1 ∧ (t.qpk k).outst = (s.qpk k).outst
      ∧ (t.qpk k).sq.lastDone = some e.index ∧ (∀ x ∈ (t.qpk k).sq.started, x.index ≠ e.index)
      ∧ ((s.qpk k).sq.abort = none → t.otherQps s k))
  ∧ (∀ (s : State) (h : Half) (k : Nat) (r : RoceResp) (o : Outst), s.takesResp h k r = true → (s.qpk k).outst = [o] →
    ((r.answer = .ack ∧ o.entry.opcode < 0x14 ∧ psnAtOrAfter (psnAdd o.psn (o.npkts - 1)) r.psn = true
        ∨ (∃ d, r.answer = .readData d true ∧ o.entry.opcode = 0x14 ∧ r.psn = o.psn ∧ o.got = 0)
        ∨ (∃ v, r.answer = .atomicData v ∧ 0x15 ≤ o.entry.opcode ∧ r.psn = o.psn)) →
      ∃ t, exec (.roceResponseReceive h r) s = .next t ∧ (t.qpk k).outst = [] ∧ (t.qpk k).st = .rts
        ∧ (t.qpk k).unacked = psnAdd o.psn o.npkts ∧ (t.qpk k).retries = qrRetry (s.qpk k).record
        ∧ (t.qpk k).rnrLeft = qrRnrRetry (s.qpk k).record ∧ (t.qpk k).sq.lastDone = some o.entry.index
        ∧ ((s.qpk k).sq.abort = none → t.otherQps s k)
        ∧ (s.cqTakes (s.queueCq (sqOf k)) = true → t.completed s (s.queueCq (sqOf k)) o.entry stOk)
        ∧ (∀ d, r.answer = .readData d true → .dma (sqOf k) d ∈ t.out)
        ∧ (∀ v, r.answer = .atomicData v → .dma (sqOf k) (leBytes 8 v.toNat) ∈ t.out))
    ∧ (r.answer = .ack → o.entry.opcode < 0x14 → psnDist o.psn r.psn + 1 < o.npkts → o.npkts ≤ 8388608 →
        psnAtOrAfter (s.qpk k).unacked r.psn = true →
      ∃ t, exec (.roceResponseReceive h r) s = .next t ∧ (t.qpk k).outst = [o] ∧ (t.qpk k).unacked = r.psn + 1
        ∧ (t.qpk k).retries = qrRetry (s.qpk k).record ∧ (t.qpk k).sq = (s.qpk k).sq ∧ t.otherQps s k
        ∧ t.withQpsOf s (qpHalf k) = s)
    ∧ (r.psn = o.psn → 0 < o.npkts → o.npkts ≤ 8388608 →
      (r.answer = .nakSequence →
        ∃ t, exec (.roceResponseReceive h r) s = .next t ∧ (t.qpk k).outst = [{ o with got := 0 }]
          ∧ (t.qpk k).unacked = (s.qpk k).unacked ∧ (t.qpk k).retries = (s.qpk k).retries ∧ (t.qpk k).sq = (s.qpk k).sq
          ∧ t.otherQps s k)
      ∧ (∀ c, r.answer = .nakRnr c →
        ∃ t, exec (.roceResponseReceive h r) s = .next t
          ∧ ((s.qpk k).rnrLeft = 0 → (t.qpk k).st = .error
              ∧ (s.cqTakes (s.queueCq (sqOf k)) = true →
                  t.completed s (s.queueCq (sqOf k)) o.entry stRetryExceeded))
          ∧ ((s.qpk k).rnrLeft ≠ 0 → (t.qpk k).rnrAt = some (s.time h + rnrTime c) ∧ (t.qpk k).outst = [o]
              ∧ (t.qpk k).rnrLeft = if qrRnrRetry (s.qpk k).record = 7 then 7 else (s.qpk k).rnrLeft - 1))
      ∧ (∀ st, (r.answer, st) ∈ [(.nakAccess, stAccess), (.nakInvalid, stRemote), (.nakOperational, stRemote)] →
        ∃ t, exec (.roceResponseReceive h r) s = .next t ∧ (t.qpk k).st = .error ∧ (t.qpk k).outst = []
          ∧ bit (t.fn (s.qpk k).sq.fn).faultSummary 3 = true
          ∧ (s.cqTakes (s.queueCq (sqOf k)) = true → t.completed s (s.queueCq (sqOf k)) o.entry st))))
  ∧ (∀ (s : State) (k : Nat) (o : Outst) (rest : List Outst), (s.qpk k).st = .rts → (s.qpk k).outst = o :: rest →
    (s.qpk k).rnrAt = none → s.sliceOn (s.qpk k).sq.slice = true →
    ∃ t, exec (.ackTimeout k) s = .next t
      ∧ (s.qpk k).ackFrom + 4096 * 2 ^ qrTimeout (s.qpk k).record ≤ t.time (qpHalf k)
      ∧ t.cnt (0x6600 + (qpHalf k).num) 0x0B = s.cnt (0x6600 + (qpHalf k).num) 0x0B + 1
      ∧ ((s.qpk k).retries ≠ 0 → (t.qpk k).retries = (s.qpk k).retries - 1 ∧ (t.qpk k).st = .rts
          ∧ (t.qpk k).unacked = (s.qpk k).unacked ∧ (t.qpk k).sq = (s.qpk k).sq ∧ t.otherQps s k)
      ∧ ((s.qpk k).retries = 0 → (t.qpk k).st = .error
          ∧ (s.cqTakes (s.queueCq (sqOf k)) = true → t.completed s (s.queueCq (sqOf k)) o.entry stRetryExceeded)))
  ∧ (∀ (s : State) (k a : Nat), (s.qpk k).rnrAt = some a →
    ∃ t, exec (.rnrTimerExpiry k) s = .next t ∧ a ≤ t.time (qpHalf k) ∧ (t.qpk k).rnrAt = none
      ∧ (t.qpk k).outst = (s.qpk k).outst.map (fun o => { o with got := 0 }) ∧ (t.qpk k).unacked = (s.qpk k).unacked
      ∧ (t.qpk k).sq = (s.qpk k).sq ∧ t.otherQps s k)

/-- ROCE_RECEIVE, CNP_RECEIVE, CC_WINDOW_END (R276, R280, R291, R292, R295, R298 to R302, R306): what the transport takes, drops and
counts; a packet in order is executed once, a duplicate is never placed again, one ahead draws one NAK; a window check that fails
draws a NAK and leaves the QP's state; a group's rate falls in a window with CNPs and recovers in calm ones. -/
def Obligations.RdmaResponder : Prop :=
  (∀ (s : State) (h : Half) (k : Nat) (p : RocePkt), s.forwards h = true → p.roce = true → k < 1048576 →
    p.destQp = k + 0x100000 →
    (qpHalf k ≠ h ∨ s.qpHolder k ≠ p.slice →
      ∃ t, exec (.roceReceive h p) s = .next t ∧ t.cnt (0x6600 + h.num) 1 = s.cnt (0x6600 + h.num) 1 + 1
        ∧ { t with stat := s.stat } = s)
    ∧ (qpHalf k = h → s.qpHolder k = p.slice →
      (p.icrcOk = false →
        ∃ t, exec (.roceReceive h p) s = .next t ∧ t.cnt (0x6600 + h.num) 3 = s.cnt (0x6600 + h.num) 3 + 1
          ∧ { t with stat := s.stat } = s)
      ∧ (p.icrcOk = true → (s.qpk k).st = .reset ∨ (s.qpk k).st = .init ∨ (s.qpk k).st = .error →
        ∃ t, exec (.roceReceive h p) s = .next t ∧ t.cnt (0x6600 + h.num) 2 = s.cnt (0x6600 + h.num) 2 + 1
          ∧ { t with stat := s.stat } = s)))
  ∧ (∀ (s : State) (h : Half) (k : Nat) (p : RocePkt), s.takesRoce h k p = true → (s.qpk k).cached = false →
    (s.parkedBytes h + p.payload.length ≤ 2097152 →
      ∃ t, exec (.roceReceive h p) s = .next t ∧ (t.qpk k).parked = (s.qpk k).parked ++ [p] ∧ (t.qpk k).fetching = true
        ∧ (t.qpk k).ePsn = (s.qpk k).ePsn ∧ t.otherQps s k ∧ t.out = s.out)
    ∧ (2097152 < s.parkedBytes h + p.payload.length →
      ∃ t, exec (.roceReceive h p) s = .next t ∧ t.cnt (0x6600 + h.num) 4 = s.cnt (0x6600 + h.num) 4 + 1
        ∧ { t with stat := s.stat } = s))
  ∧ (∀ (s : State) (h : Half) (k n : Nat) (p : RocePkt), s.takesRoce h k p = true → (s.qpk k).cached = true →
    qrUd (s.qpk k).record = false → p.ce = false →
    s.slicePort h (s.qpk k).slice (qrTxMeta (s.qpk k).record) = some n → ethHalf n = h →
    (p.psn = (s.qpk k).ePsn → p.first = true →
      (p.op = .read → qrReadEn (s.qpk k).record = true → s.windowOk k p.rkey p.va.toNat p.total 0 = true →
        ∃ t, exec (.roceReceive h p) s = .next t
          ∧ t.out = .roceTx h (qrDestQpn (s.qpk k).record) p.psn (.readData (fit p.total p.payload) true) :: s.out
          ∧ (t.qpk k).ePsn = psnAdd p.psn (packets p.total (qrMtu (s.qpk k).record)) ∧ (t.qpk k).msn = (s.qpk k).msn + 1
          ∧ t.otherQps s k ∧ { t.withRdmaOf s h with out := s.out } = s)
      ∧ (∀ right, (p.op, right) ∈ [(.read, 0), (.write, 1)] → s.windowOk k p.rkey p.va.toNat p.total right = false →
          qrReadEn (s.qpk k).record = true → qrWriteEn (s.qpk k).record = true →
        ∃ t, exec (.roceReceive h p) s = .next t
          ∧ t.out = .roceTx h (qrDestQpn (s.qpk k).record) p.psn .nakAccess :: s.out ∧ (t.qpk k).st = (s.qpk k).st
          ∧ t.cnt (0x6600 + h.num) 6 = s.cnt (0x6600 + h.num) 6 + 1 ∧ t.otherQps s k)
      ∧ (p.op = .write → p.last = true → p.imm = none → p.ackReq = true → qrWriteEn (s.qpk k).record = true →
          s.windowOk k p.rkey p.va.toNat p.total 1 = true →
        ∃ t, exec (.roceReceive h p) s = .next t
          ∧ t.out = .roceTx h (qrDestQpn (s.qpk k).record) p.psn .ack :: .dma (rqOf k) p.payload :: s.out
          ∧ (t.qpk k).ePsn = p.psn + 1 ∧ (t.qpk k).msn = (s.qpk k).msn + 1 ∧ (t.qpk k).rq = (s.qpk k).rq
          ∧ t.otherQps s k ∧ { t.withRdmaOf s h with out := s.out } = s)
      ∧ (∀ old, p.op = .cas ∨ p.op = .fadd → qrAtomicEn (s.qpk k).record = true →
          s.windowOk k p.rkey p.va.toNat 8 2 = true → p.atomicResult = some old →
        ∃ t, exec (.roceReceive h p) s = .next t
          ∧ t.out = .roceTx h (qrDestQpn (s.qpk k).record) p.psn (.atomicData old) :: s.out
          ∧ (t.qpk k).ePsn = p.psn + 1 ∧ (t.qpk k).atomics = ((p.psn, old) :: (s.qpk k).atomics).take 32
          ∧ t.otherQps s k ∧ { t.withRdmaOf s h with out := s.out } = s)
      ∧ (p.op = .send → s.rqNext k = none →
        ∃ t, exec (.roceReceive h p) s = .next t ∧ (t.qpk k).ePsn = (s.qpk k).ePsn ∧ (t.qpk k).rq = (s.qpk k).rq
          ∧ t.out = .roceTx h (qrDestQpn (s.qpk k).record) p.psn (.nakRnr (rnrCode (qrMinRnr (s.qpk k).record))) :: s.out
          ∧ t.cnt (0x6600 + h.num) 0x0C = s.cnt (0x6600 + h.num) 0x0C + 1)
      ∧ (∀ e, p.op = .send → p.last = true → s.rqNext k = some e → p.payload.length ≤ e.recvRoom →
        ∃ t, exec (.roceReceive h p) s = .next t ∧ (t.qpk k).ePsn = p.psn + 1 ∧ (t.qpk k).msn = (s.qpk k).msn + 1
          ∧ (t.qpk k).rq.lastDone = some e.index ∧ .dma (rqOf k) p.payload ∈ t.out
          ∧ ((s.qpk k).rq.abort = none → t.otherQps s k)
          ∧ (s.cqTakes (s.queueCq (rqOf k)) = true → t.completed s (s.queueCq (rqOf k)) e stOk)))
    ∧ (p.psn ≠ (s.qpk k).ePsn → psnDist (s.qpk k).ePsn p.psn < 8388608 →
        ∃ t, exec (.roceReceive h p) s = .next t ∧ (t.qpk k).ePsn = (s.qpk k).ePsn ∧ (t.qpk k).nakSent = true
          ∧ ((s.qpk k).nakSent = true → t.out = s.out)
          ∧ ((s.qpk k).nakSent = false →
              t.out = .roceTx h (qrDestQpn (s.qpk k).record) (s.qpk k).ePsn .nakSequence :: s.out)
          ∧ t.otherQps s k ∧ { t.withRdmaOf s h with out := s.out } = s)
    ∧ (8388608 ≤ psnDist (s.qpk k).ePsn p.psn →
      (p.op = .send ∨ p.op = .write →
        ∃ t, exec (.roceReceive h p) s = .next t ∧ (t.qpk k).ePsn = (s.qpk k).ePsn ∧ (t.qpk k).rq = (s.qpk k).rq
          ∧ t.out = .roceTx h (qrDestQpn (s.qpk k).record) ((s.qpk k).ePsn - 1) .ack :: s.out
          ∧ t.cnt (0x6600 + h.num) 7 = s.cnt (0x6600 + h.num) 7 + 1 ∧ t.otherQps s k)
      ∧ (∀ v, p.op = .cas ∨ p.op = .fadd → (s.qpk k).atomics.find? (fun x => x.1 = p.psn) = some v →
        ∃ t, exec (.roceReceive h p) s = .next t
          ∧ t.out = .roceTx h (qrDestQpn (s.qpk k).record) p.psn (.atomicData v.2) :: s.out
          ∧ (t.qpk k).ePsn = (s.qpk k).ePsn ∧ (t.qpk k).atomics = (s.qpk k).atomics ∧ t.otherQps s k)))
  ∧ (∀ (s : State) (h : Half) (k : Nat), s.forwards h = true → k < 1048576 → qpHalf k = h →
    ∃ t, exec (.cnpReceive h (k + 0x100000)) s = .next t
      ∧ t.cnt (0x6600 + h.num) 0x0E = s.cnt (0x6600 + h.num) 0x0E + 1 ∧ (t.half h).rdma.qps = (s.half h).rdma.qps
      ∧ (∀ g x, mfind (s.half h).rdma.groups g = some x →
          mfind (t.half h).rdma.groups g = some (if s.ccEn h = true ∧ (s.qpk k).st = .rts ∧ qrUd (s.qpk k).record = false
              ∧ g = qpGroup (s.qpk k).record then { x with cnps := x.cnps + 1 } else x)))
  ∧ (∀ (s : State) (h : Half), s.running = true → s.ccEn h = true → 0 < s.param h 0xA300 4 0 40 →
    ∃ t, exec (.ccWindowEnd h) s = .next t
      ∧ t.time h = (s.time h / (s.param h 0xA300 4 0 40 * 1000) + 1) * (s.param h 0xA300 4 0 40 * 1000)
      ∧ (t.half h).rdma.qps = (s.half h).rdma.qps
      ∧ (∀ g x, mfind (s.half h).rdma.groups g = some x → ∃ y, mfind (t.half h).rdma.groups g = some y ∧ y.cnps = 0
          ∧ (0 < x.cnps → y.calm = 0 ∧ y.ceiling = x.rate
              ∧ y.level = x.level + (Min.min 1 ((x.cnps : Rat) / (s.param h 0xA300 0x0C 0 4 : Rat)) - x.level)
                  * ((s.param h 0xA300 3 0 16384 : Rat) / 65536)
              ∧ y.rate = Max.max (s.param h 0xA300 7 0 100 : Rat)
                  (x.rate * (1 - y.level * ((s.param h 0xA300 5 0 32768 : Rat) / 65536))))
          ∧ (x.cnps = 0 → y.calm = x.calm + 1
              ∧ y.level = x.level * (1 - (s.param h 0xA300 3 0 16384 : Rat) / 65536)
              ∧ (y.calm ≤ s.param h 0xA300 0x0D 0 3 → y.ceiling = x.ceiling
                  ∧ y.rate = x.rate + (x.ceiling - x.rate) / 4))))

/-- WIN_OPEN, WIN_REVOKE, WIN_REVOKE_DONE, WIN_BASE_LEN_WRITE, RDMA_CNT_CLEAR (R293, R294, R296, R307): a window opens only from
CLOSED or REVOKED with a range inside the address space and a new generation; its range may be set only then; any other command
sets CMD_ERR and changes nothing else. -/
def Obligations.RdmaWindows : Prop :=
  (∀ (s : State) (q : QRef) (rights : BitVec 3) (h : Half) (e sl : Nat), s.reachesFrame q 3 h e sl = true →
    ∃ t, exec (.winOpen q rights) s = .next t
      ∧ ((s.win h e).st = .closed ∨ (s.win h e).st = .revoked → 0 < (s.win h e).len.toNat →
          (s.win h e).base.toNat + (s.win h e).len.toNat ≤ 2 ^ 64 →
          (t.win h e).st = .opened ∧ (t.win h e).rights = rights
            ∧ (t.win h e).gen = (if (s.win h e).gen = 255 then 1 else (s.win h e).gen + 1)
            ∧ (t.win h e).cmdErr = (s.win h e).cmdErr)
      ∧ ((s.win h e).st = .opened ∨ (s.win h e).st = .revoking ∨ (s.win h e).len = 0
            ∨ 2 ^ 64 < (s.win h e).base.toNat + (s.win h e).len.toNat →
          (t.win h e).st = (s.win h e).st ∧ (t.win h e).rights = (s.win h e).rights ∧ (t.win h e).gen = (s.win h e).gen
            ∧ (t.win h e).cmdErr = true)
      ∧ (t.win h e).base = (s.win h e).base ∧ (t.win h e).len = (s.win h e).len
      ∧ (∀ g i, ¬ (g = h ∧ i = e) → t.win g i = s.win g i) ∧ t.withWinsOf s h = s)
  ∧ (∀ (s : State) (q : QRef) (h : Half) (e sl : Nat), s.reachesFrame q 3 h e sl = true →
    ∃ t, exec (.winRevoke q) s = .next t
      ∧ ((s.win h e).st = .opened → (t.win h e).st = .revoking ∧ (t.win h e).cmdErr = (s.win h e).cmdErr)
      ∧ ((s.win h e).st ≠ .opened → (t.win h e).st = (s.win h e).st ∧ (t.win h e).cmdErr = true)
      ∧ (t.win h e).base = (s.win h e).base ∧ (t.win h e).len = (s.win h e).len ∧ (t.win h e).gen = (s.win h e).gen
      ∧ (∀ g i, ¬ (g = h ∧ i = e) → t.win g i = s.win g i) ∧ t.withWinsOf s h = s)
  ∧ (∀ (s : State) (i : Nat),
    ∃ t, exec (.winRevokeDone i) s = .next t
      ∧ ((s.win (halfOf (i / 131072)) (i % 131072)).st = .revoking →
          t.win (halfOf (i / 131072)) (i % 131072) = { s.win (halfOf (i / 131072)) (i % 131072) with st := .revoked })
      ∧ ((s.win (halfOf (i / 131072)) (i % 131072)).st ≠ .revoking → t = s)
      ∧ (∀ g j, ¬ (g = halfOf (i / 131072) ∧ j = i % 131072) → t.win g j = s.win g j)
      ∧ t.withWinsOf s (halfOf (i / 131072)) = s)
  ∧ (∀ (s : State) (q : QRef) (base : BitVec 64) (len : BitVec 40) (h : Half) (e sl : Nat), s.reachesFrame q 3 h e sl = true →
    ∃ t, exec (.winBaseLenWrite q base len) s = .next t
      ∧ ((s.win h e).st = .closed ∨ (s.win h e).st = .revoked → (t.win h e).base = base ∧ (t.win h e).len = len
            ∧ (t.win h e).cmdErr = (s.win h e).cmdErr)
      ∧ ((s.win h e).st = .opened ∨ (s.win h e).st = .revoking → (t.win h e).base = (s.win h e).base
            ∧ (t.win h e).len = (s.win h e).len ∧ (t.win h e).cmdErr = true)
      ∧ (t.win h e).st = (s.win h e).st ∧ (t.win h e).gen = (s.win h e).gen
      ∧ (∀ g i, ¬ (g = h ∧ i = e) → t.win g i = s.win g i) ∧ t.withWinsOf s h = s)
  ∧ (∀ (s : State) (w : Who) (v : BitVec 8), s.grants w 0xA300 0x0B [v] = true → s.maskOk w.sess v.toNat = true →
    ∃ t, exec (.rdmaCntClear w v) s = .next t ∧ t.answered w rsOk [] ∧ t.quiet = s.quiet
      ∧ (∀ h i, inMask v.toNat h = true → i < 256 → t.cnt (0x6600 + h.num) i = 0))

/-- STQ_TASK_COMMIT, STQ_CMD_ACCEPT, STQ_ENABLE, STQ_DISABLE, STQ_TASK_IGNORED_READ, STQ_MALFORMED_READ (R316 to R320): a task is
committed by the write that sets VALID, else ignored and counted; commands are accepted in the order of their commits with rising
sequence numbers. -/
def Obligations.StorageQueueRegisters : Prop :=
  (∀ (s : State) (q : QRef) (task : Fin 16) (cmd : BitVec 512) (h : Half) (e sl : Nat), s.reachesFrame q 2 h e sl = true →
    unassigned e sl = false →
    ∃ t, exec (.stqTaskCommit q task cmd) s = .next t
      ∧ ((s.stq (stqKey q h e sl)).st = .running → (s.stq (stqKey q h e sl)).frozen = false →
          s.sliceOn (s.stq (stqKey q h e sl)).slice = true → (s.stq (stqKey q h e sl)).taken task.val = false →
          mget (t.stq (stqKey q h e sl)).tasks task.val 0 = cmd
          ∧ (t.stq (stqKey q h e sl)).committed =
              (if cmd.getLsbD 511 then (s.stq (stqKey q h e sl)).committed ++ [task.val] else (s.stq (stqKey q h e sl)).committed)
          ∧ (t.stq (stqKey q h e sl)).taskIgnored = (s.stq (stqKey q h e sl)).taskIgnored)
      ∧ ((s.stq (stqKey q h e sl)).st ≠ .running ∨ (s.stq (stqKey q h e sl)).frozen = true
            ∨ (s.stq (stqKey q h e sl)).taken task.val = true →
          t.stq (stqKey q h e sl) =
            { s.stq (stqKey q h e sl) with taskIgnored := sat31 (s.stq (stqKey q h e sl)).taskIgnored })
      ∧ (t.stq (stqKey q h e sl)).cmds = (s.stq (stqKey q h e sl)).cmds
      ∧ (∀ j, j ≠ stqKey q h e sl → t.stq j = s.stq j)
      ∧ { t with storage := { t.storage with stqs := s.storage.stqs } } = s)
  ∧ (∀ (s : State) (k n : Nat) (rest : List Nat), (s.stq k).committed = n :: rest → (s.stq k).st = .running →
    s.forwards (stqHalf k) = true → (s.stq k).cmds.length < 256 →
    ∃ t c, exec (.stqCmdAccept k) s = .next t ∧ (t.stq k).cmds = (s.stq k).cmds ++ [c] ∧ c.seq = (s.stq k).nextSeq
      ∧ c.cmd = mget (s.stq k).tasks n 0 ∧ c.started = false ∧ c.arrival = s.storage.arrivals
      ∧ t.storage.arrivals = s.storage.arrivals + 1 ∧ (t.stq k).nextSeq = (s.stq k).nextSeq + 1
      ∧ (t.stq k).committed = rest ∧ mget (t.stq k).tasks n 0 = 0
      ∧ (∀ j, j ≠ k → t.stq j = s.stq j) ∧ t.storage.nss = s.storage.nss ∧ { t with storage := s.storage, stat := s.stat } = s)
  ∧ (∀ (s : State) (q : QRef) (h : Half) (e sl : Nat), s.reachesFrame q 2 h e sl = true → unassigned e sl = false →
    (s.stq (stqKey q h e sl)).st = .disabled →
    ∃ t, exec (.stqEnable q) s = .next t
      ∧ (s.cqOk (stqHalf (stqKey q h e sl)) 1 sl (s.stq (stqKey q h e sl)).cq.toNat = true →
          (t.stq (stqKey q h e sl)).st = .running ∧ (t.stq (stqKey q h e sl)).cfgErr = false
          ∧ (t.stq (stqKey q h e sl)).nextSeq = (s.stq (stqKey q h e sl)).head ∧ (t.stq (stqKey q h e sl)).slice = sl)
      ∧ (s.cqOk (stqHalf (stqKey q h e sl)) 1 sl (s.stq (stqKey q h e sl)).cq.toNat = false →
          t.stq (stqKey q h e sl) = { s.stq (stqKey q h e sl) with cfgErr := true })
      ∧ (∀ j, j ≠ stqKey q h e sl → t.stq j = s.stq j)
      ∧ { t with storage := { t.storage with stqs := s.storage.stqs } } = s)
  ∧ (∀ (s : State) (q : QRef) (h : Half) (e sl : Nat), s.reachesFrame q 2 h e sl = true → unassigned e sl = false →
    (s.stq (stqKey q h e sl)).st = .running → s.storage.detachWait = [] →
    ∃ t, exec (.stqDisable q) s = .next t ∧ (t.stq (stqKey q h e sl)).committed = []
      ∧ (t.stq (stqKey q h e sl)).cmds = (s.stq (stqKey q h e sl)).cmds.filter (fun c => c.started)
      ∧ ((s.stq (stqKey q h e sl)).cmds.any (fun c => c.started) = true → (t.stq (stqKey q h e sl)).st = .draining)
      ∧ ((s.stq (stqKey q h e sl)).cmds.any (fun c => c.started) = false →
          s.sliceOn (s.stq (stqKey q h e sl)).slice = true → (t.stq (stqKey q h e sl)).st = .disabled)
      ∧ (∀ j, j ≠ stqKey q h e sl → t.stq j = s.stq j) ∧ t.storage.nss = s.storage.nss)
  ∧ (∀ (s : State) (q : QRef) (h : Half) (e sl : Nat), s.reachesFrame q 2 h e sl = true →
    (∃ t, exec (.stqTaskIgnoredRead q) s = .next t ∧ t.out = .read (s.stq (stqKey q h e sl)).taskIgnored :: s.out
      ∧ t.stq (stqKey q h e sl) = { s.stq (stqKey q h e sl) with taskIgnored := 0 }
      ∧ (∀ j, j ≠ stqKey q h e sl → t.stq j = s.stq j) ∧ { t with storage := s.storage, out := s.out } = s)
    ∧ (∃ t, exec (.stqMalformedRead q) s = .next t ∧ t.out = .read (s.stq (stqKey q h e sl)).malformed :: s.out
      ∧ t.stq (stqKey q h e sl) = { s.stq (stqKey q h e sl) with malformed := 0 }
      ∧ (∀ j, j ≠ stqKey q h e sl → t.stq j = s.stq j) ∧ { t with storage := s.storage, out := s.out } = s))

/-- STORAGE_READ, STORAGE_WRITE, STORAGE_COMPARE, STORAGE_FLUSH, STORAGE_DEALLOCATE, STORAGE_WRITE_ZEROES, STORAGE_CMD_COMPLETE,
FREEZE_WAIT_EXPIRY, LOCKED_WAIT_EXPIRY, WRITE_BUFFER_PLACE (R311 to R315, R322, R324, R330, R331, R334 to R336): a READ returns the
latest content; a WRITE that ends OK is what later commands read, and no block outside its range changes; FLUSH and FUA leave
nothing buffered; a completion that freezes freezes its queue. -/
def Obligations.StorageCommands : Prop :=
  (∀ (s : State) (k : Nat) (c : SCmd), s.starts k 1 c = true →
    ∃ t, exec (.storageRead k) s = .next t ∧ t.storage.nss = s.storage.nss
      ∧ ((s.ns (scNsid c.cmd)).firstBad (scSlba c.cmd) (scNlb c.cmd) = none →
          t.out = .dma (stqBase + k) (s.blocks (scNsid c.cmd) (scSlba c.cmd) (scNlb c.cmd)) :: s.out
          ∧ t.workDone k c (stOk, scNlb c.cmd * (s.ns (scNsid c.cmd)).lbaSize, 0))
      ∧ (∀ b, (s.ns (scNsid c.cmd)).firstBad (scSlba c.cmd) (scNlb c.cmd) = some b →
          t.out = s.out ∧ t.workDone k c (stMedia, 0, b)))
  ∧ (∀ (s : State) (k : Nat) (c : SCmd) (bs : List Byte), s.starts k 2 c = true → bs.length = s.scBytes c →
    ∃ t d, exec (.storageWrite k (some bs)) s = .next t ∧ t.workDone k c d ∧ t.out = s.out
      ∧ (∀ id, id ≠ scNsid c.cmd → t.ns id = s.ns id)
      ∧ (scFua c.cmd = false →
          (∀ b, b < (s.ns (scNsid c.cmd)).size → b < scSlba c.cmd ∨ scSlba c.cmd + scNlb c.cmd ≤ b →
            (t.ns (scNsid c.cmd)).block (t.xtsKey (scNsid c.cmd)) b = (s.ns (scNsid c.cmd)).block (s.xtsKey (scNsid c.cmd)) b)
          ∧ (d.1 = stOk → ∀ i, i < scNlb c.cmd →
            (t.ns (scNsid c.cmd)).block (t.xtsKey (scNsid c.cmd)) (scSlba c.cmd + i) =
              leAt bs (i * (s.ns (scNsid c.cmd)).lbaSize) (s.ns (scNsid c.cmd)).lbaSize))
      ∧ (scFua c.cmd = true → d.1 = stOk →
          ∀ g ∈ (s.ns (scNsid c.cmd)).granules (scSlba c.cmd) (scNlb c.cmd), (t.ns (scNsid c.cmd)).latest g = none))
  ∧ (∀ (s : State) (k : Nat) (c : SCmd) (bs : List Byte), s.starts k 6 c = true → bs.length = s.scBytes c →
    (s.ns (scNsid c.cmd)).firstBad (scSlba c.cmd) (scNlb c.cmd) = none →
    ∃ t, exec (.storageCompare k (some bs)) s = .next t ∧ t.storage.nss = s.storage.nss ∧ t.out = s.out
      ∧ (s.blocks (scNsid c.cmd) (scSlba c.cmd) (scNlb c.cmd) = bs → t.workDone k c (stOk, bs.length, 0))
      ∧ (∀ i, i < bs.length → (s.blocks (scNsid c.cmd) (scSlba c.cmd) (scNlb c.cmd)).take i = bs.take i →
          (s.blocks (scNsid c.cmd) (scSlba c.cmd) (scNlb c.cmd))[i]? ≠ bs[i]? → t.workDone k c (stMismatch, bs.length, i)))
  ∧ (∀ (s : State) (k : Nat) (c : SCmd), s.starts k 3 c = true →
    ∃ t d, exec (.storageFlush k) s = .next t ∧ t.workDone k c d ∧ t.out = s.out
      ∧ (s.pinned (scNsid c.cmd) = true → d.1 = stQuota ∧ t.storage.nss = s.storage.nss)
      ∧ (d.1 = stOk → ∀ g, (t.ns (scNsid c.cmd)).latest g = none)
      ∧ (∀ id, id ≠ scNsid c.cmd → t.ns id = s.ns id))
  ∧ (∀ (s : State) (k op : Nat) (c : SCmd) (i : Instr),
    (i, op) ∈ [(.storageDeallocate k, 4), (.storageWriteZeroes k, 5)] → s.starts k op c = true →
    ∃ t d, exec i s = .next t ∧ t.workDone k c d ∧ t.out = s.out ∧ (∀ id, id ≠ scNsid c.cmd → t.ns id = s.ns id)
      ∧ ((op = 4 ∨ scFua c.cmd = false) →
          (∀ b, b < (s.ns (scNsid c.cmd)).size → b < scSlba c.cmd ∨ scSlba c.cmd + scNlb c.cmd ≤ b →
            (t.ns (scNsid c.cmd)).block (t.xtsKey (scNsid c.cmd)) b = (s.ns (scNsid c.cmd)).block (s.xtsKey (scNsid c.cmd)) b)
          ∧ (d.1 = stOk → ∀ b, scSlba c.cmd ≤ b → b < scSlba c.cmd + scNlb c.cmd →
              (s.ns (scNsid c.cmd)).mapped (b / (s.ns (scNsid c.cmd)).per) = true
                ∨ ((s.ns (scNsid c.cmd)).latest (b / (s.ns (scNsid c.cmd)).per)).isSome = true →
              (t.ns (scNsid c.cmd)).block (t.xtsKey (scNsid c.cmd)) b = 0)))
  ∧ (∀ (s : State) (k : Nat) (c : SCmd) (st : BitVec 8) (n d : Nat),
    (s.stq k).cmds.find? (fun x => x.seq.toNat = c.seq.toNat) = some c → c.started = true → c.outcome = some (st, n, d) →
    s.sliceOn (s.stq k).slice = true → s.storage.detachWait = [] → (s.stq k).abort = none →
    ∃ t, exec (.storageCmdComplete k c.seq.toNat true) s = .next t ∧ t.gone k c ∧ (t.stq k).lastDone = some c.seq
      ∧ (s.stqAdmin k = false → freezes st.toNat = true → (t.stq k).frozen = true)
      ∧ (freezes st.toNat = false → (t.stq k).frozen = (s.stq k).frozen)
      ∧ (s.cqTakes (s.stqCq k) = true → t.ended s (s.stqCq k) c st.toNat) ∧ t.storage.nss = s.storage.nss)
  ∧ (∀ (s : State) (k st : Nat) (c : SCmd), s.stqAdmin k = false → (s.stq k).next = some c →
    (s.stq k).cmds.find? (fun x => x.seq.toNat = c.seq.toNat) = some c → s.stqRuns k = true → s.cmdFault k c = some st →
    s.slotFor (s.stqCq k) (stqBase + k) = true → s.storage.detachWait = [] →
    ∃ t, exec (.storageCmdComplete k c.seq.toNat true) s = .next t ∧ t.gone k c ∧ t.storage.nss = s.storage.nss
      ∧ (freezes st = true → (t.stq k).frozen = true)
      ∧ (s.cqTakes (s.stqCq k) = true → t.ended s (s.stqCq k) c st))
  ∧ (∀ (s : State) (k a : Nat) (c : SCmd), (s.stq k).cmds.find? (fun x => x.seq.toNat = c.seq.toNat && !x.started) = some c →
    (s.frozenFor k c = some a →
      ∃ t, exec (.freezeWaitExpiry k c.seq.toNat) s = .next t ∧ t.gone k c ∧ t.storage.drives = s.storage.drives
        ∧ Nat.max a c.since + s.freezeWait (stqHalf k) ≤ t.time (stqHalf k))
    ∧ (s.stqAdmin k = false → s.cmdFault k c = none → (s.ns (scNsid c.cmd)).st = .locked →
      ∃ t, exec (.lockedWaitExpiry k c.seq.toNat) s = .next t ∧ t.gone k c ∧ t.storage.drives = s.storage.drives
        ∧ Nat.max (s.ns (scNsid c.cmd)).lockedAt c.since + s.freezeWait (stqHalf k) ≤ t.time (stqHalf k)))
  ∧ (∀ (s : State) (id g : Nat), ((s.ns id).latest g).isSome = true → (s.half (s.ns id).home).stopped = false →
    s.placeable id g = true →
    ∃ t, exec (.writeBufferPlace id g) s = .next t ∧ (t.ns id).latest g = none
      ∧ (∀ d, (s.ns id).holds g = true → s.bestDrive (s.ns id).home = some d → mfind (t.ns id).place g = some d)
      ∧ ((s.ns id).holds g = false → mfind (t.ns id).place g = none)
      ∧ (∀ i, i ≠ g → mget (t.ns id).buf i [] = mget (s.ns id).buf i []) ∧ (∀ j, j ≠ id → t.ns j = s.ns j)
      ∧ t.storage.stqs = s.storage.stqs)

/-- NS_CREATE, NS_DELETE, NS_ATTACH, NS_DETACH, NS_FORMAT, LOG_READ_PAGE, FEATURE_GET, FEATURE_SET, QUEUE_RESUME, QUEUE_RESET,
STORAGE_ABORT (R310, R337 to R342): what each admin command does to namespaces and queues, through PF2's frame 0 or NS_CMD; a
namespace command on a slice's admin queue ends ACCESS. -/
def Obligations.StorageAdminCommands : Prop :=
  (∀ (s : State) (src : AdminSrc) (c : BitVec 512), s.nsTaken src 0x80 c = true →
    s.canReach (s.srcHalf src) (halfOf (scArg1 c % 2)) = true →
    ∃ t, exec (.nsCreate src) s = .next t ∧ t.storage.drives = s.storage.drives
      ∧ ((mfind s.storage.nss (scNsid c)).isSome = true → t.nsEnds s src stRange ∧ t.storage.nss = s.storage.nss)
      ∧ (mfind s.storage.nss (scNsid c) = none →
          (∀ n : Nat, n = scSlba c * (if scArg1 c / 2 % 2 = 1 then 4096 else 512) →
            (s.poolCap (halfOf (scArg1 c % 2)) * 97 < (s.nsBytes (halfOf (scArg1 c % 2)) + n) * 100 →
              t.nsEnds s src stQuota ∧ t.storage.nss = s.storage.nss)
            ∧ ((s.nsBytes (halfOf (scArg1 c % 2)) + n) * 100 ≤ s.poolCap (halfOf (scArg1 c % 2)) * 97 →
              s.nsBytes .k + s.nsBytes .q + n ≤ 256000000000000 →
              t.nsEnds s src stOk
              ∧ (∃ x, mfind t.storage.nss (scNsid c) = some x ∧ x.home = halfOf (scArg1 c % 2) ∧ x.size = scSlba c
                  ∧ (x.lba4k = true ↔ scArg1 c / 2 % 2 = 1) ∧ (x.encrypt = true ↔ scArg1 c / 4 % 2 = 1)
                  ∧ x.attached = [] ∧ x.media = [] ∧ x.st = if scArg1 c / 4 % 2 = 1 then .locked else .ready)
              ∧ (∀ id, id ≠ scNsid c → mfind t.storage.nss id = mfind s.storage.nss id)))))
  ∧ (∀ (s : State) (src : AdminSrc) (c : BitVec 512) (n : Ns), s.nsTaken src 0x81 c = true →
    mfind s.storage.nss (scNsid c) = some n → s.canReach (s.srcHalf src) n.home = true →
    ∃ t, exec (.nsDelete src) s = .next t
      ∧ (n.attached ≠ [] → t.nsEnds s src stRange ∧ t.storage.nss = s.storage.nss)
      ∧ (n.attached = [] → t.nsEnds s src stOk ∧ mfind t.storage.nss (scNsid c) = none
          ∧ mfind (t.half n.home).cipher.xts (scNsid c - 1) = none
          ∧ (∀ id, id ≠ scNsid c → mfind t.storage.nss id = mfind s.storage.nss id)))
  ∧ (∀ (s : State) (src : AdminSrc) (c : BitVec 512) (n : Ns), s.nsTaken src 0x82 c = true →
    mfind s.storage.nss (scNsid c) = some n → s.canReach (s.srcHalf src) n.home = true →
    ∃ t, exec (.nsAttach src) s = .next t ∧ (∀ id, id ≠ scNsid c → t.ns id = s.ns id)
      ∧ (n.attached.contains (scArg1 c % 4096) = true → t.nsEnds s src stOk ∧ t.ns (scNsid c) = n)
      ∧ (n.attached.contains (scArg1 c % 4096) = false →
          ((s.slice (scArg1 c % 4096)).used = true → s.nsCount (scArg1 c % 4096) < recNs (s.slice (scArg1 c % 4096)).record →
            t.nsEnds s src stOk ∧ t.ns (scNsid c) = { n with attached := n.attached ++ [scArg1 c % 4096] })
          ∧ ((s.slice (scArg1 c % 4096)).used = false ∨ recNs (s.slice (scArg1 c % 4096)).record ≤ s.nsCount (scArg1 c % 4096) →
            t.nsEnds s src stQuota ∧ t.ns (scNsid c) = n)))
  ∧ (∀ (s : State) (src : AdminSrc) (c : BitVec 512) (n : Ns), s.nsTaken src 0x83 c = true →
    mfind s.storage.nss (scNsid c) = some n → s.canReach (s.srcHalf src) n.home = true →
    n.attached.contains (scArg1 c % 4096) = true →
    ∃ t, exec (.nsDetach src) s = .next t ∧ (∀ id, id ≠ scNsid c → t.ns id = s.ns id)
      ∧ (s.nsBusy (scNsid c) (scArg1 c % 4096) s.storage.arrivals = false →
          t.ns (scNsid c) = { n with attached := n.attached.erase (scArg1 c % 4096) } ∧ t.storage.detachWait = [])
      ∧ (s.nsBusy (scNsid c) (scArg1 c % 4096) s.storage.arrivals = true →
          t.ns (scNsid c) = n ∧ t.storage.detachWait = [(scNsid c, scArg1 c % 4096, s.storage.arrivals, src)]))
  ∧ (∀ (s : State) (src : AdminSrc) (c : BitVec 512) (n : Ns), s.nsTaken src 0x84 c = true →
    mfind s.storage.nss (scNsid c) = some n → s.canReach (s.srcHalf src) n.home = true →
    ∃ t, exec (.nsFormat src) s = .next t ∧ (∀ id, id ≠ scNsid c → t.ns id = s.ns id)
      ∧ (n.attached ≠ [] → t.nsEnds s src stRange ∧ t.ns (scNsid c) = n)
      ∧ (n.attached = [] → t.nsEnds s src stOk ∧ (t.ns (scNsid c)).media = [] ∧ (t.ns (scNsid c)).buf = []
          ∧ (t.ns (scNsid c)).place = [] ∧ ((t.ns (scNsid c)).lba4k = true ↔ scArg1 c / 2 % 2 = 1)
          ∧ (t.ns (scNsid c)).size = n.bytes / (t.ns (scNsid c)).lbaSize ∧ (t.ns (scNsid c)).home = n.home
          ∧ (t.ns (scNsid c)).encrypt = n.encrypt))
  ∧ (∀ (s : State) (src : AdminSrc) (c : BitVec 512) (op : Nat) (i : Instr),
    (i, op) ∈ [(.nsDelete src, 0x81), (.nsAttach src, 0x82), (.nsDetach src, 0x83), (.nsFormat src, 0x84)] →
    s.nsTaken src op c = true → mfind s.storage.nss (scNsid c) = none →
    ∃ t, exec i s = .next t ∧ t.nsEnds s src stAccess ∧ t.storage.nss = s.storage.nss)
  ∧ (∀ (s : State) (k op : Nat) (c : SCmd) (i : Instr), k < 8192 → s.adminStarts k op c = true →
    (i, op) ∈ [(.nsCreate (.queue k), 0x80), (.nsDelete (.queue k), 0x81), (.nsAttach (.queue k), 0x82),
      (.nsDetach (.queue k), 0x83), (.nsFormat (.queue k), 0x84)] →
    ∃ t, exec i s = .next t ∧ t.gone k c ∧ t.storage.nss = s.storage.nss
      ∧ (s.cqTakes (s.stqCq k) = true → t.ended s (s.stqCq k) c stAccess))
  ∧ (∀ (s : State) (k : Nat) (c : SCmd) (data : List Byte), s.adminStarts k 0x85 c = true →
    (scArg1 c.cmd % 256 = 1 ∧ data = s.errorPage k ∨ scArg1 c.cmd % 256 = 2 ∧ data = s.nsPage k) →
    ∃ t, exec (.logReadPage k) s = .next t ∧ t.gone k c ∧ t.storage.nss = s.storage.nss
      ∧ (data.length ≤ scDlen c.cmd → .dma (stqBase + k) data ∈ t.out
          ∧ (s.cqTakes (s.stqCq k) = true → t.ended s (s.stqCq k) c stOk))
      ∧ (scDlen c.cmd < data.length → s.cqTakes (s.stqCq k) = true → t.ended s (s.stqCq k) c stMalformed))
  ∧ (∀ (s : State) (k n : Nat) (c : SCmd), s.adminStarts k 0x86 c = true → s.namedStq k (scQueue c.cmd) = some n →
    ∃ t, exec (.featureGet k) s = .next t ∧ t.gone k c ∧ t.storage.nss = s.storage.nss
      ∧ (scArg1 c.cmd % 256 = 1 → s.cqTakes (s.stqCq k) = true →
          t.wroteCqe s (s.stqCq k) fun x => x.index = c.seq ∧ x.data = BitVec.ofNat 64 (s.stq n).cls)
      ∧ (scArg1 c.cmd % 256 = 2 → s.cqTakes (s.stqCq k) = true →
          t.wroteCqe s (s.stqCq k) fun x => x.index = c.seq ∧ x.data = BitVec.ofNat 64 (s.wbufUse (stqHalf k))))
  ∧ (∀ (s : State) (k n : Nat) (c : SCmd), s.namedStq k (scQueue c.cmd) = some n →
    (s.adminStarts k 0x87 c = true →
      ∃ t, exec (.featureSet k) s = .next t ∧ t.gone k c ∧ t.storage.nss = s.storage.nss
        ∧ (scArg1 c.cmd % 256 = 1 → scSlba c.cmd < 4 → (t.stq n).cls = scSlba c.cmd)
        ∧ (scArg1 c.cmd % 256 ≠ 1 ∨ 4 ≤ scSlba c.cmd → (t.stq n).cls = (s.stq n).cls))
    ∧ (s.adminStarts k 0x88 c = true →
      ∃ t, exec (.queueResume k) s = .next t ∧ t.gone k c ∧ (t.stq n).frozen = false ∧ t.storage.nss = s.storage.nss
        ∧ (n ≠ k → (s.stq k).abort = none → (t.stq n).cmds = (s.stq n).cmds))
    ∧ (s.adminStarts k 0x89 c = true →
      ∃ t, exec (.queueReset k) s = .next t ∧ t.gone k c ∧ (t.stq n).frozen = false ∧ t.storage.nss = s.storage.nss
        ∧ (∀ x ∈ (t.stq n).cmds, x.started = true))
    ∧ (s.adminStarts k 0x8A c = true → (s.stq n).abort = none → n ≠ k →
      (∀ d, (s.stq n).cmds.find? (fun d => d.seq = BitVec.ofNat 16 (scArg2 c.cmd) && scTag d.cmd = BitVec.ofNat 16 (scArg1 c.cmd))
          = some d →
        ∃ t, exec (.storageAbort k) s = .next t ∧ t.storage.nss = s.storage.nss
          ∧ (d.started = true → (t.stq n).cmds = (s.stq n).cmds
              ∧ (t.stq n).abort = some ({ index := d.seq, tag := scTag d.cmd, atag := scTag c.cmd }, k, c.seq))
          ∧ (d.started = false → t.gone n d ∧ t.gone k c))
      ∧ ((s.stq n).cmds.find? (fun d => d.seq = BitVec.ofNat 16 (scArg2 c.cmd) && scTag d.cmd = BitVec.ofNat 16 (scArg1 c.cmd))
          = none →
        ∃ t, exec (.storageAbort k) s = .next t ∧ t.gone k c ∧ (t.stq n).cmds = (s.stq n).cmds)))

/-- DRIVE_SURPRISE_REMOVAL, ROOT_PORT_LINK_UP, DRIVE_ADMIT, DRIVE_RETIRE, DRIVE_RETIRE_DONE, MAP_REBUILD_DONE, NS_KEY_WRITE,
STQ_CNT_CLEAR (R66, R67, R310, R312, R315, R333, R342, R360): the states of a drive, what its loss makes unreadable, and when a
namespace becomes READY. -/
def Obligations.DrivesAndNamespaceKeys : Prop :=
  (∀ (s : State) (d : Fin 64),
    ∃ t, exec (.driveSurpriseRemoval d) s = .next t ∧ (∀ e, e ≠ d.val → t.drive e = s.drive e)
      ∧ ((s.drive d.val).st = .absent → t = s)
      ∧ ((s.drive d.val).st = .admitted ∨ (s.drive d.val).st = .retiring →
          t.drive d.val = { s.drive d.val with st := .failed }
          ∧ (∀ id g, mfind (s.ns id).place g = some d.val → (t.ns id).mapped g = false
              ∧ ((s.ns id).latest g = none → (t.ns id).unreadable g = true))
          ∧ (∀ id g, (s.ns id).lost.contains g = true → (t.ns id).lost.contains g = true)
          ∧ (∀ id, (t.ns id).buf = (s.ns id).buf ∧ (t.ns id).media = (s.ns id).media))
      ∧ ((s.drive d.val).st = .present ∨ (s.drive d.val).st = .failed → t.drive d.val = {} ∧ t.storage.nss = s.storage.nss))
  ∧ (∀ (s : State) (p : Fin 4) (x : DriveId), s.running = true → (s.port p.val).root = true →
    s.powered (portHalf p.val) (11 + p.val % 2) = true →
    ∃ t, exec (.rootPortLinkUp p [x]) s = .next t ∧ (t.port p.val).up = true ∧ (∀ r, r ≠ p.val → t.port r = s.port r)
      ∧ ((s.drive (p.val * 16 + x.slot.val)).st = .absent ∨ (s.drive (p.val * 16 + x.slot.val)).st = .present
          ∨ (s.drive (p.val * 16 + x.slot.val)).st = .failed →
        t.drive (p.val * 16 + x.slot.val) = { st := .present, capacity := x.capacity, lba4k := x.lba4k, serial := x.serial })
      ∧ ((s.drive (p.val * 16 + x.slot.val)).st = .admitted ∨ (s.drive (p.val * 16 + x.slot.val)).st = .retiring →
        t.drive (p.val * 16 + x.slot.val) = s.drive (p.val * 16 + x.slot.val))
      ∧ (∀ e, e ≠ p.val * 16 + x.slot.val → t.drive e = s.drive e) ∧ { t with ports := s.ports, storage := s.storage } = s)
  ∧ (∀ (s : State) (w : Who), s.grants w 0xA400 0x0D [1] = true → s.driveSel w.sess < 64 →
    ∃ t, exec (.driveAdmit w) s = .next t
      ∧ ((s.drive (s.driveSel w.sess)).st = .present → s.canReach (s.server w.sess) (driveHalf (s.driveSel w.sess)) = true →
          mapBytes (s.poolCap (driveHalf (s.driveSel w.sess)) + (s.drive (s.driveSel w.sess)).capacity)
            ≤ s.mapRoom (driveHalf (s.driveSel w.sess)) →
          t.answered w rsOk [] ∧ t.drive (s.driveSel w.sess) = { s.drive (s.driveSel w.sess) with st := .admitted }
          ∧ (∀ e, e ≠ s.driveSel w.sess → t.drive e = s.drive e) ∧ t.storage.nss = s.storage.nss)
      ∧ ((s.drive (s.driveSel w.sess)).st ≠ .present
            ∨ s.canReach (s.server w.sess) (driveHalf (s.driveSel w.sess)) = false
            ∨ s.mapRoom (driveHalf (s.driveSel w.sess))
              < mapBytes (s.poolCap (driveHalf (s.driveSel w.sess)) + (s.drive (s.driveSel w.sess)).capacity) →
          t.answered w rsRefused [] ∧ t.quiet = s.quiet))
  ∧ (∀ (s : State) (w : Who), s.grants w 0xA400 0x0D [2] = true → s.driveSel w.sess < 64 →
    ∃ t, exec (.driveRetire w) s = .next t
      ∧ ((s.drive (s.driveSel w.sess)).st = .admitted → s.canReach (s.server w.sess) (driveHalf (s.driveSel w.sess)) = true →
          s.retireFits (s.driveSel w.sess) = true →
          t.answered w rsOk [] ∧ t.drive (s.driveSel w.sess) = { s.drive (s.driveSel w.sess) with st := .retiring }
          ∧ (∀ e, e ≠ s.driveSel w.sess → t.drive e = s.drive e) ∧ t.storage.nss = s.storage.nss)
      ∧ ((s.drive (s.driveSel w.sess)).st ≠ .admitted
            ∨ s.canReach (s.server w.sess) (driveHalf (s.driveSel w.sess)) = false ∨ s.retireFits (s.driveSel w.sess) = false →
          t.answered w rsRefused [] ∧ t.quiet = s.quiet))
  ∧ (∀ (s : State) (d : Fin 64), (s.drive d.val).st = .retiring →
    ∃ t, exec (.driveRetireDone d) s = .next t ∧ (∀ e, e ≠ d.val → t.drive e = s.drive e)
      ∧ (s.driveHeld d.val = 0 → (t.drive d.val).st = .present)
      ∧ ((t.drive d.val).st = .present → t.driveHeld d.val = 0)
      ∧ ((t.drive d.val).st = .retiring ∨ (t.drive d.val).st = .present))
  ∧ (∀ (s : State) (id : Nat), (s.ns id).st = .recovering → s.running = true → (s.half (s.ns id).home).stopped = false →
    ∃ t, exec (.mapRebuildDone id) s = .next t
      ∧ (s.mapHeld (s.ns id).home = true →
          (s.ns id).encrypt = false ∨ (mfind (s.half (s.ns id).home).cipher.xts (id - 1)).isSome = true →
          t.ns id = { s.ns id with st := .ready })
      ∧ (s.mapHeld (s.ns id).home = false
            ∨ (s.ns id).encrypt = true ∧ mfind (s.half (s.ns id).home).cipher.xts (id - 1) = none →
          t.ns id = { s.ns id with st := .locked, lockedAt := s.time (s.ns id).home })
      ∧ (∀ j, j ≠ id → t.ns j = s.ns j) ∧ { t with storage := s.storage } = s)
  ∧ (∀ (s : State) (w : Who) (rec : BitVec 576) (kek : Nat), s.grants w 0xA400 0x0E (leBytes 72 rec.toNat) = true →
    (mfind s.storage.nss (s.nsSel w.sess)).isSome = true → s.unseal s.nv.store.kwk = some kek →
    ∃ t, exec (.nsKeyWrite w rec) s = .next t
      ∧ ((s.ns (s.nsSel w.sess)).encrypt = true → Config.unwraps kek (leBytes 72 rec.toNat) = true →
          s.canReach (s.server w.sess) (s.ns (s.nsSel w.sess)).home = true →
          t.answered w rsOk [] ∧ t.xtsKey (s.nsSel w.sess) = BitVec.ofNat 512 (Config.unwrapped kek (leBytes 72 rec.toNat))
          ∧ ((s.ns (s.nsSel w.sess)).st = .locked → s.mapHeld (s.ns (s.nsSel w.sess)).home = true →
              (t.ns (s.nsSel w.sess)).st = .ready)
          ∧ (∀ j, j ≠ s.nsSel w.sess → t.ns j = s.ns j))
      ∧ ((s.ns (s.nsSel w.sess)).encrypt = false ∨ Config.unwraps kek (leBytes 72 rec.toNat) = false →
          t.answered w rsRefused [] ∧ t.quiet = s.quiet))
  ∧ (∀ (s : State) (w : Who) (v : BitVec 8), s.grants w 0xA400 0x0F [v] = true → s.maskOk w.sess v.toNat = true →
    ∃ t, exec (.stqCntClear w v) s = .next t ∧ t.answered w rsOk [] ∧ t.quiet = s.quiet
      ∧ (∀ h i, inMask v.toNat h = true → i < 256 → t.cnt (0x6700 + h.num) i = 0))

/-- DRAM_LINE_READ, PATROL_SCRUB, ROW_REPAIR, REFRESH, DIMM_SENSOR_POLL, DQS_TRACK, CHANNEL_RETRAIN (R347, R348, R351 to R353, R356
to R358): a correctable error is counted and written back, an uncorrectable one poisons its line, and a poisoned line is read as
such until it is rewritten; the scrub goes through the lines in turn; a repair uses a resource or retires the row's pages. -/
def Obligations.MemoryErrorsAndCare : Prop :=
  (∀ (s : State) (c : Fin 8) (line : Nat) (user : DramUser), s.running = true → (s.dram c.val).st = .running →
    s.lineChan (chanHalf c.val) line = some c.val →
    (mfind (s.dram c.val).poisoned line = none →
      (∃ t, exec (.dramLineRead c line .clean user) s = .next t ∧ t.cnt (0x6800 + c.val) 1 = s.cnt (0x6800 + c.val) 1 + 1
        ∧ t.cnt (0x6800 + c.val) 3 = s.cnt (0x6800 + c.val) 3 ∧ t.cnt (0x6800 + c.val) 4 = s.cnt (0x6800 + c.val) 4
        ∧ t.out = s.out ∧ t.storage = s.storage ∧ (t.dram c.val).poisoned = (s.dram c.val).poisoned
        ∧ (∀ d, d ≠ c.val → t.dram d = s.dram d) ∧ { t with mem := s.mem, stat := s.stat } = s)
      ∧ (∀ d, ∃ t, exec (.dramLineRead c line (.correctable d) user) s = .next t
        ∧ t.cnt (0x6800 + c.val) 3 = s.cnt (0x6800 + c.val) 3 + 1 ∧ t.out = .dram c.val 2 :: s.out
        ∧ (t.dram c.val).poisoned = (s.dram c.val).poisoned ∧ (∀ e, e ≠ c.val → t.dram e = s.dram e)
        ∧ { t with mem := s.mem, stat := s.stat, out := s.out } = s)
      ∧ (∃ t, exec (.dramLineRead c line .uncorrectable .other) s = .next t
        ∧ t.cnt (0x6800 + c.val) 4 = s.cnt (0x6800 + c.val) 4 + 1 ∧ (mfind (t.dram c.val).poisoned line).isSome = true
        ∧ (t.dram c.val).needRepair.contains (Config.dramRow s.mem.order line) = true
        ∧ (∀ l, l ≠ line → mfind (t.dram c.val).poisoned l = mfind (s.dram c.val).poisoned l)
        ∧ (∀ e, e ≠ c.val → t.dram e = s.dram e) ∧ t.storage = s.storage)
      ∧ (∀ id g, (s.ns id).home = chanHalf c.val → (s.ns id).holds g = true →
        ∃ t, exec (.dramLineRead c line .uncorrectable (.writeBuffer id g)) s = .next t
          ∧ (t.ns id).latest g = none ∧ (t.ns id).unreadable g = true ∧ (∀ j, j ≠ id → t.ns j = s.ns j)))
    ∧ ((mfind (s.dram c.val).poisoned line).isSome = true → ∀ err,
      ∃ t, exec (.dramLineRead c line err .other) s = .next t ∧ t.cnt (0x6800 + c.val) 5 = s.cnt (0x6800 + c.val) 5 + 1
        ∧ (t.dram c.val).poisoned = (s.dram c.val).poisoned ∧ t.storage = s.storage ∧ t.out = s.out
        ∧ { t with mem := s.mem, stat := s.stat } = s))
  ∧ (∀ (s : State) (c : Fin 8), s.running = true → (s.dram c.val).st = .running →
    ∃ t, exec (.patrolScrub c .clean) s = .next t ∧ t.cnt (0x6800 + c.val) 6 = s.cnt (0x6800 + c.val) 6 + 1
      ∧ ((s.dram c.val).scrub + 1 < (s.dram c.val).lines → (t.dram c.val).scrub = (s.dram c.val).scrub + 1)
      ∧ ((s.dram c.val).lines ≤ (s.dram c.val).scrub + 1 → (t.dram c.val).scrub = 0)
      ∧ (∀ d, d ≠ c.val → t.dram d = s.dram d) ∧ { t with mem := s.mem, stat := s.stat } = s)
  ∧ (∀ (s : State) (c : Fin 8) (rank : Nat), s.running = true → (s.dram c.val).st = .running →
    ∃ t, exec (.refresh c rank) s = .next t
      ∧ (rank < (s.dram c.val).dimms * (s.dram c.val).ranks → t = s.emit (.dram c.val 1))
      ∧ ((s.dram c.val).dimms * (s.dram c.val).ranks ≤ rank → t = s))
  ∧ (∀ (s : State) (c : Fin 8), s.running = true → (s.dram c.val).st = .running →
    exec (.dqsTrack c) s = .next (s.emit (.dram c.val 3)))
  ∧ (∀ (s : State) (c : Fin 8) (temp : Int), s.running = true → (s.dram c.val).inUse = true →
    ∃ t, exec (.dimmSensorPoll c temp) s = .next t ∧ (t.dram c.val).temp = temp
      ∧ ((t.dram c.val).hot = true ↔ 95 ≤ temp)
      ∧ ((t.dram c.val).retrainDue = true ↔
          (s.dram c.val).retrainDue = true ∨ 20 ≤ (temp - (s.dram c.val).centred).natAbs)
      ∧ { t.dram c.val with
            temp := (s.dram c.val).temp, hot := (s.dram c.val).hot, retrainDue := (s.dram c.val).retrainDue } = s.dram c.val
      ∧ (∀ d, d ≠ c.val → t.dram d = s.dram d) ∧ t.out = s.out)
  ∧ (∀ (s : State) (c : Fin 8), s.running = true → (s.dram c.val).st = .running → (s.dram c.val).retrainDue = true →
    s.noneDark (chanHalf c.val) = true →
    ∃ t, exec (.channelRetrain c) s = .next t
      ∧ t.dram c.val = { s.dram c.val with centred := (s.dram c.val).temp, retrainDue := false }
      ∧ s.cnt (0x6800 + c.val) 11 ≤ t.cnt (0x6800 + c.val) 11 ∧ t.cnt (0x6800 + c.val) 11 ≤ s.cnt (0x6800 + c.val) 11 + 8000
      ∧ (∀ d, d ≠ c.val → t.dram d = s.dram d) ∧ t.out = s.out)
  ∧ (∀ (s : State) (c : Fin 8) (row : Nat), s.running = true → (s.dram c.val).st = .running →
    (s.dram c.val).needRepair.contains row = true →
    (∃ t, exec (.rowRepair c row true) s = .next t ∧ (t.dram c.val).repaired = (s.dram c.val).repaired + 1
      ∧ (t.dram c.val).needRepair = (s.dram c.val).needRepair.erase row ∧ (t.dram c.val).soft = (s.dram c.val).soft ++ [row]
      ∧ (t.dram c.val).retired = (s.dram c.val).retired ∧ (∀ d, d ≠ c.val → t.dram d = s.dram d)
      ∧ { t with mem := s.mem } = s)
    ∧ (∃ t, exec (.rowRepair c row false) s = .next t ∧ (t.dram c.val).repaired = (s.dram c.val).repaired
      ∧ (t.dram c.val).needRepair = (s.dram c.val).needRepair.erase row
      ∧ (∀ p, (s.dram c.val).retired.contains p = true → (t.dram c.val).retired.contains p = true)
      ∧ ((s.rowPages c.val row).length ≤ s.sparesLeft (chanHalf c.val) →
          ∀ p ∈ s.rowPages c.val row, (t.dram c.val).retired.contains p = true)
      ∧ (∀ d, d ≠ c.val → t.dram d = s.dram d)))

/-- FREQ_CMD_SET_A, FREQ_CMD_SET_B, CHANNEL_FREQ_SWITCH, CHANNEL_FREQ_SWITCH_DONE, DRAM_TRAINING_DONE, MEM_CNT_CLEAR (R345, R352,
R354, R362): a change of speed passes the channels of a half in rising order with one of them dark at a time and is over when the
last has exited; training brings a channel into use or takes it out. -/
def Obligations.MemorySpeedAndTraining : Prop :=
  (∀ (s : State) (w : Who) (i : Instr) (v : Nat), (i, v) ∈ [(.freqCmdSetA w, 1), (.freqCmdSetB w, 2)] →
    s.grants w 0xA500 5 (leBytes 1 v) = true →
    ∃ t, exec i s = .next t
      ∧ (s.mem.busy = true → t.answered w rsRefused [] ∧ t.quiet = s.quiet)
      ∧ (s.mem.busy = false → s.cstl.split = false → t.answered w rsOk [] ∧ (t.mem.target = true ↔ v = 2)
          ∧ (t.mem.busy = true ↔ s.usedChans .k ≠ [] ∨ s.usedChans .q ≠ [])
          ∧ (∀ c, t.dram c = { s.dram c with switchDone := (t.dram c).switchDone })
          ∧ (∀ c, c ∈ s.usedChans .k ∨ c ∈ s.usedChans .q → (t.dram c).switchDone = false)
          ∧ { t.quiet with mem := s.quiet.mem } = s.quiet))
  ∧ (∀ (s : State) (c : Fin 8), s.mem.busy = true → (s.dram c.val).st = .running →
    ∃ t, exec (.channelFreqSwitch c) s = .next t
      ∧ ((s.switchLeft (chanHalf c.val)).head? = some c.val → s.noneDark (chanHalf c.val) = true →
          t.dram c.val = { s.dram c.val with st := .changing })
      ∧ ((s.switchLeft (chanHalf c.val)).head? ≠ some c.val ∨ s.noneDark (chanHalf c.val) = false → t = s)
      ∧ (∀ d, d ≠ c.val → t.dram d = s.dram d) ∧ { t with mem := s.mem } = s)
  ∧ (∀ (s : State) (c : Fin 8) (dark : Nat), (s.dram c.val).st = .changing →
    ∃ t, exec (.channelFreqSwitchDone c dark) s = .next t
      ∧ t.dram c.val = { s.dram c.val with
          st := .running, setB := s.mem.target, switchDone := true
          speed := if s.mem.target then (s.dram c.val).speedB else (s.dram c.val).speedA }
      ∧ t.cnt (0x6800 + c.val) 11 = s.cnt (0x6800 + c.val) 11 + Nat.min dark 12000
      ∧ (t.switchLeft .k = [] → t.switchLeft .q = [] → t.mem.busy = false)
      ∧ (t.switchLeft .k ≠ [] ∨ t.switchLeft .q ≠ [] → t.mem.busy = s.mem.busy)
      ∧ (∀ d, d ≠ c.val → t.dram d = s.dram d) ∧ { t with mem := s.mem, stat := s.stat } = s)
  ∧ (∀ (s : State) (c : Fin 8) (d : Nat), (s.dram c.val).st = .training → (s.unit (chanHalf c.val) 14).st = .active →
    d ∈ halfChans (chanHalf c.val) → d ≠ c.val → (s.dram d).st = .training →
    (∃ t, exec (.dramTrainingDone c true) s = .next t ∧ (t.dram c.val).st = .running ∧ (t.dram c.val).setB = false
      ∧ (t.dram c.val).speed = (t.dram c.val).speedA
      ∧ (t.dram c.val).speedA = (s.dram c.val).cap (s.param (chanHalf c.val) 0xA500 3 0 6400)
      ∧ (t.dram c.val).speedB = (s.dram c.val).cap (s.param (chanHalf c.val) 0xA500 4 0 4800)
      ∧ (t.dram c.val).retrainDue = false ∧ (∀ e, e ≠ c.val → t.dram e = s.dram e))
    ∧ (∃ t, exec (.dramTrainingDone c false) s = .next t ∧ t.dram c.val = { s.dram c.val with st := .failed, speed := 0 }
      ∧ (∀ e, e ≠ c.val → t.dram e = s.dram e) ∧ t.out = s.out))
  ∧ (∀ (s : State) (w : Who) (v : BitVec 8), s.grants w 0xA500 0x0E [v] = true → s.maskOk w.sess v.toNat = true →
    ∃ t, exec (.memCntClear w v) s = .next t ∧ t.answered w rsOk [] ∧ t.quiet = s.quiet
      ∧ (∀ h c i, inMask v.toNat h = true → c < 4 → i < 256 → t.cnt (0x6800 + (4 * h.num + c)) i = 0))

/-- IMG_DATA_WRITE, IMG_BEGIN, IMG_VERIFY, IMG_VERIFY_DONE, IMG_ARM, IMG_ACTIVATE, IMG_CANCEL, CONFIRM_WRITE,
TRIAL_WATCHDOG_EXPIRY, HANDOVER_COMPLETE (R366, R370, R371, R373, R374, R382): the load belongs to one session; only a verified
image is armed; a trial ends VALID by CONFIRM, else REJECTED with a fallback; a handover makes the standby primary on the new
image, or leaves the old one where the check fails. -/
def Obligations.ImageLoadAndTrials : Prop :=
  (∀ (s : State) (w : Who) (i : Instr) (v : Byte),
    (i, v) ∈ [(.imgBegin w, 1), (.imgVerify w, 2), (.imgArm w, 3), (.imgActivate w, 4), (.imgCancel w, 5)] →
    s.grants w 0x2200 6 [v] = true → s.trust.imgBusy = true →
    ∃ t, exec i s = .next t ∧ t.answered w rsBusy [] ∧ t.quiet = s.quiet)
  ∧ (∀ (s : State) (w : Who) (data : List Byte), s.grants w 0x2200 5 data = true → s.trust.imgBusy = false →
    ∃ t, exec (.imgDataWrite w data) s = .next t
      ∧ (s.trust.owner = some w.sess → s.trust.begun = true →
          (s.nv.slot s.trust.target).length + data.length ≤ 12582912 →
          t.answered w rsOk [] ∧ t.nv.slot s.trust.target = s.nv.slot s.trust.target ++ data
          ∧ t.trust = { s.trust with verified := false } ∧ { t.quiet with nv := s.nv, trust := s.trust } = s.quiet)
      ∧ (s.trust.owner ≠ some w.sess ∨ s.trust.begun = false
            ∨ 12582912 < (s.nv.slot s.trust.target).length + data.length →
          t.answered w rsRefused [] ∧ t.quiet = s.quiet))
  ∧ (∀ (s : State) (w : Who), s.grants w 0x2200 6 [1] = true → s.trust.imgBusy = false →
    ∃ t, exec (.imgBegin w) s = .next t
      ∧ (s.imgMine w.sess = true → t.answered w rsOk [] ∧ t.nv.slot s.updateSlot = [] ∧ t.nv.slotState s.updateSlot = slErased
          ∧ t.trust.owner = some w.sess ∧ t.trust.target = s.updateSlot ∧ t.trust.begun = true ∧ t.trust.verified = false
          ∧ { t.quiet with nv := s.nv, trust := s.trust } = s.quiet)
      ∧ (s.imgMine w.sess = false → t.answered w rsRefused [] ∧ t.quiet = s.quiet))
  ∧ (∀ (s : State) (w : Who), s.grants w 0x2200 6 [2] = true → s.trust.imgBusy = false →
    ∃ t, exec (.imgVerify w) s = .next t
      ∧ (s.trust.owner = some w.sess → s.trust.begun = true → t.answered w rsOk []
          ∧ t.trust = { s.trust with imgBusy := true } ∧ { t.quiet with trust := s.trust } = s.quiet)
      ∧ (s.trust.owner ≠ some w.sess ∨ s.trust.begun = false → t.answered w rsRefused [] ∧ t.quiet = s.quiet))
  ∧ (∀ (s : State), ∃ t, exec .imgVerifyDone s = .next t ∧ (s.trust.imgBusy = false → t = s)
      ∧ (s.trust.imgBusy = true → t.trust.imgBusy = false ∧ { t with trust := s.trust } = s
          ∧ t.trust.imgStatus = s.nv.checkImage 1 supvLimit (s.nv.slot s.trust.target)
          ∧ (t.trust.verified = true ↔ s.nv.checkImage 1 supvLimit (s.nv.slot s.trust.target) = stOk)))
  ∧ (∀ (s : State) (w : Who), s.grants w 0x2200 6 [3] = true → s.trust.imgBusy = false →
    ∃ t, exec (.imgArm w) s = .next t
      ∧ (s.trust.owner = some w.sess → s.trust.verified = true → t.answered w rsOk []
          ∧ t.nv.slotState s.trust.target = slTrial ∧ t.nv.slot s.trust.target = s.nv.slot s.trust.target
          ∧ t.trust.owner = none ∧ { t.quiet with nv := s.nv, trust := s.trust } = s.quiet)
      ∧ (s.trust.owner ≠ some w.sess ∨ s.trust.verified = false → t.answered w rsRefused [] ∧ t.quiet = s.quiet))
  ∧ (∀ (s : State) (w : Who), s.grants w 0x2200 6 [4] = true → s.trust.imgBusy = false →
    ∃ t, exec (.imgActivate w) s = .next t
      ∧ (s.imgMine w.sess = true → s.nv.slotState (1 - s.runningSlot) = slTrial → s.inStep = true →
          t.answered w rsOk [] ∧ t.nv.slotState (1 - s.runningSlot) = slTried
          ∧ t.trust = { s.trust with handover := some (1 - s.runningSlot, false) }
          ∧ { t.quiet with nv := s.nv, trust := s.trust } = s.quiet)
      ∧ (s.imgMine w.sess = false ∨ s.nv.slotState (1 - s.runningSlot) ≠ slTrial ∨ s.inStep = false →
          t.answered w rsRefused [] ∧ t.quiet = s.quiet))
  ∧ (∀ (s : State) (w : Who), s.grants w 0x2200 6 [5] = true → s.trust.imgBusy = false →
    ∃ t, exec (.imgCancel w) s = .next t
      ∧ (s.imgMine w.sess = true → t.answered w rsOk [] ∧ t.nv.slotState s.updateSlot = slErased ∧ t.trust.owner = none
          ∧ t.trust.begun = false ∧ t.trust.verified = false ∧ { t.quiet with nv := s.nv, trust := s.trust } = s.quiet)
      ∧ (s.imgMine w.sess = false → t.answered w rsRefused [] ∧ t.quiet = s.quiet))
  ∧ (∀ (s : State) (w : Who), s.grants w 0x2200 2 [1] = true →
    ∃ t, exec (.confirmWrite w 1) s = .next t
      ∧ (s.trust.trialEnd.isSome = true → t.answered w rsOk [] ∧ t.nv.slotState s.trialSlot = slValid
          ∧ t.trust = { s.trust with trialEnd := none } ∧ { t.quiet with nv := s.nv, trust := s.trust } = s.quiet)
      ∧ (s.trust.trialEnd = none → t.answered w rsRefused [] ∧ t.quiet = s.quiet))
  ∧ (∀ (s : State), ∃ t, exec .trialWatchdogExpiry s = .next t ∧ (s.trust.trialEnd = none → t = s)
      ∧ (∀ e, s.trust.trialEnd = some e → e ≤ t.now ∧ t.nv.slotState s.trialSlot = slRejected ∧ t.trust.trialEnd = none
          ∧ (∀ v, t.nv.validSlot = some v →
              (s.inStep = true → s.trust.handover = none → t.trust.handover = some (v, true))
              ∧ (s.inStep = false → t.trust.fallbackWaits = some v ∧ t.trust.handover = s.trust.handover))
          ∧ (t.nv.validSlot = none → t.trust.handover = s.trust.handover)
          ∧ { t with nv := s.nv, trust := s.trust, k := { t.k with gov := s.k.gov }, q := { t.q with gov := s.q.gov } } = s))
  ∧ (∀ (s : State), ∃ t, exec .handoverComplete s = .next t
      ∧ (s.inStep = false ∨ s.trust.handover = none → t = s)
      ∧ (∀ slot, s.inStep = true → s.trust.handover = some (slot, false) →
          (s.nv.checkImage 1 supvLimit (s.nv.slot slot) = stOk → t.cstl.primary = s.cstl.primary.other
            ∧ t.trust.slotK = slot ∧ t.trust.slotQ = slot ∧ t.trust.handover = none
            ∧ t.trust.trialEnd = some (t.now + t.trialNs))
          ∧ (s.nv.checkImage 1 supvLimit (s.nv.slot slot) ≠ stOk → t.nv.slotState slot = slRejected
            ∧ t.trust = { s.trust with handover := none } ∧ { t with nv := s.nv, trust := s.trust } = s))
      ∧ (∀ slot, s.inStep = true → s.trust.handover = some (slot, true) → t.cstl.primary = s.cstl.primary.other
          ∧ t.trust.slotK = slot ∧ t.trust.slotQ = slot ∧ t.trust.handover = none ∧ t.trust.trialEnd = s.trust.trialEnd))

/-- KEY_PROGRAM_WRITE, REVOKE_WRITE, FLOOR_RAISE_WRITE, KWK_WRITE, DEBUG_CLOSE_PROGRAM, DEBUG_CLOSE_VENDOR, DEBUG_CLOSE_BOTH (R255,
R363, R377, R379, R380): a key slot is programmed once; a revoked slot's images are REJECTED; the floor rises by fuses and only as
far as the running image meets it; the debug fuses close what they name. -/
def Obligations.KeysAndFuses : Prop :=
  (∀ (s : State) (w : Who) (rec : BitVec 392) (i : Nat), s.grants w 0x7000 4 (leBytes 49 rec.toNat) = true →
    i = s.sel w.sess (selKey 0x7000 2) 0 →
    ∃ t, exec (.keyProgramWrite w rec) s = .next t
      ∧ (s.nv.programmed i = false → 1 ≤ fld rec 0 8 → fld rec 0 8 ≤ 3 → t.answered w rsOk []
          ∧ (∃ k, mfind t.nv.keySlots i = some k ∧ k.usage = fld rec 0 8 ∧ k.hash = beNat (leBytes 48 (fld rec 8 384))
              ∧ k.revoked = s.nv.isRevoked i)
          ∧ (∀ j, j ≠ i → mfind t.nv.keySlots j = mfind s.nv.keySlots j)
          ∧ { t.quiet with nv := { t.nv with keySlots := s.nv.keySlots } } = s.quiet)
      ∧ (s.nv.programmed i = true ∨ fld rec 0 8 = 0 ∨ 3 < fld rec 0 8 → t.answered w rsRefused [] ∧ t.quiet = s.quiet))
  ∧ (∀ (s : State) (w : Who) (v : BitVec 8), s.grants w 0x7000 5 [v] = true →
    ∃ t, exec (.revokeWrite w v) s = .next t
      ∧ (v.toNat < 8 → s.nv.revokeRefused v.toNat = false → t.answered w rsOk [] ∧ t.nv.isRevoked v.toNat = true
          ∧ (s.nv.underKey 0 v.toNat = true → t.nv.slotState 0 = slRejected)
          ∧ (s.nv.underKey 1 v.toNat = true → t.nv.slotState 1 = slRejected)
          ∧ (∀ j, j ≠ v.toNat → mfind t.nv.keySlots j = mfind s.nv.keySlots j)
          ∧ t.nv.slotA = s.nv.slotA ∧ t.nv.slotB = s.nv.slotB ∧ { t.quiet with nv := s.nv } = s.quiet)
      ∧ (8 ≤ v.toNat ∨ s.nv.revokeRefused v.toNat = true → t.answered w rsRefused [] ∧ t.quiet = s.quiet))
  ∧ (∀ (s : State) (w : Who) (v : BitVec 8), s.grants w 0x7000 6 [v] = true →
    ∃ t, exec (.floorRaiseWrite w v) s = .next t
      ∧ (1 ≤ v.toNat → v.toNat ≤ 64 → s.nv.floorBits ≤ v.toNat → 1024 * v.toNat ≤ s.secVersion →
          t.answered w rsOk [] ∧ t.nv = { s.nv with floorBits := v.toNat } ∧ { t.quiet with nv := s.nv } = s.quiet)
      ∧ (v.toNat = 0 ∨ 64 < v.toNat ∨ v.toNat < s.nv.floorBits ∨ s.secVersion < 1024 * v.toNat →
          t.answered w rsRefused [] ∧ t.quiet = s.quiet))
  ∧ (∀ (s : State) (w : Who) (key : BitVec 256), s.grants w 0x7000 8 (leBytes 32 key.toNat) = true →
    ∃ t, exec (.kwkWrite w key) s = .next t ∧ t.answered w rsOk [] ∧ t.unseal t.nv.store.kwk = some key.toNat
      ∧ t.nv.floorBits = s.nv.floorBits ∧ t.nv.keySlots = s.nv.keySlots ∧ t.nv.store.keys = s.nv.store.keys
      ∧ { t.quiet with nv := s.nv, mgmt := s.quiet.mgmt } = s.quiet)
  ∧ (∀ (s : State) (w : Who) (i : Instr) (v : Byte) (p d : Bool),
    (i, v, p, d) ∈ [(.debugCloseProgram w, 1, true, false), (.debugCloseVendor w, 2, false, true),
      (.debugCloseBoth w, 3, true, true)] → s.grants w 0x7000 7 [v] = true →
    ∃ t, exec i s = .next t ∧ t.answered w rsOk [] ∧ t.nv.programBlown = (s.nv.programBlown || p)
      ∧ t.nv.vendorBlown = (s.nv.vendorBlown || d) ∧ t.nv.floorBits = s.nv.floorBits ∧ t.nv.keySlots = s.nv.keySlots
      ∧ (p = true → ∀ u i, u < 8 → (t.th u i).armed = false ∧ (t.th u i).bps = 0)
      ∧ (p = false → t.nibs = s.nibs) ∧ t.wqs = s.wqs ∧ t.storage = s.storage ∧ t.slices = s.slices)

/-- DICT_READ_REQUEST, DICT_WRITE_GENERIC: subindex 0 of an index answers its highest subindex, EPOCH, ROLE and the counters
answer their values, and a read changes nothing but its session; what does not exist is NOT_FOUND, a role too low DENIED, a read of a
WO object and a write of an RO or CONST one REFUSED, a wrong length MALFORMED; SESSION_IDLE_S takes 10 to 3,600; a generic write of
FLOOR_RAISE or CONFIRM is that command; a request of role 0 is dropped and counted. -/
def Obligations.DictionaryRequests : Prop :=
  (∀ (s : State) (w : Who) (i : BitVec 16) (sub : BitVec 8) (v : List Byte),
    s.hears w = true → s.otherHalf w.sess i.toNat sub.toNat = false →
    (i = 0x1001 ∧ sub = 1 ∧ v = leBytes 4 s.nv.store.epoch) ∨ (i = 0x1001 ∧ sub = 2 ∧ v = leBytes 1 (s.role w))
      ∨ ((objRow i.toNat 1).isSome = true ∧ (i ≠ 0xA720 ∨ s.nv.programBlown = false) ∧ sub = 0 ∧ v = leBytes 1 (topSub i.toNat))
      ∨ (0x6100 ≤ i.toNat ∧ i.toNat < 0x7000 ∧ 1 ≤ sub.toNat ∧ (objRow i.toNat sub.toNat).isSome = true
          ∧ v = leBytes 8 ((s.accepted w).cnt i.toNat sub.toNat)) →
    ∃ t, exec (.dictReadRequest w i sub) s = .next t ∧ t.answered w rsOk v ∧ t.quiet = s.quiet)
  ∧ (∀ (s : State) (w : Who) (i : BitVec 16) (sub : BitVec 8), s.hears w = true →
    (objRow i.toNat sub.toNat = none →
      ∃ t, exec (.dictReadRequest w i sub) s = .next t ∧ t.answered w rsNotFound [] ∧ t.quiet = s.quiet)
    ∧ (∀ r, objRow i.toNat sub.toNat = some r → s.role w < r.rr →
      ∃ t, exec (.dictReadRequest w i sub) s = .next t ∧ t.answered w rsDenied [] ∧ t.quiet = s.quiet)
    ∧ (∀ r, objRow i.toNat sub.toNat = some r → r.rr ≤ s.role w → r.acc = .wo → ¬ (i = 0x7000 ∧ sub = 8) →
      ∃ t, exec (.dictReadRequest w i sub) s = .next t ∧ t.answered w rsRefused [] ∧ t.quiet = s.quiet))
  ∧ (∀ (s : State) (w : Who) (i : BitVec 16) (sub : BitVec 8) (data : List Byte), s.hears w = true →
    (objRow i.toNat sub.toNat = none →
      ∃ t, exec (.dictWriteGeneric w i sub data) s = .next t ∧ t.answered w rsNotFound [] ∧ t.quiet = s.quiet)
    ∧ (∀ r, objRow i.toNat sub.toNat = some r → s.role w < writeRole r i.toNat sub.toNat (leNat data) →
      ∃ t, exec (.dictWriteGeneric w i sub data) s = .next t ∧ t.answered w rsDenied [] ∧ t.quiet = s.quiet)
    ∧ (∀ r, objRow i.toNat sub.toNat = some r → writeRole r i.toNat sub.toNat (leNat data) ≤ s.role w →
      r.acc = .ro ∨ r.acc = .const →
      ∃ t, exec (.dictWriteGeneric w i sub data) s = .next t ∧ t.answered w rsRefused [] ∧ t.quiet = s.quiet)
    ∧ (∀ r, objRow i.toNat sub.toNat = some r → writeRole r i.toNat sub.toNat (leNat data) ≤ s.role w → i ≠ 0xA720 →
      r.acc ≠ .ro → r.acc ≠ .const → r.len ≠ 0 → data.length ≠ r.len →
      ∃ t, exec (.dictWriteGeneric w i sub data) s = .next t ∧ t.answered w rsMalformed [] ∧ t.quiet = s.quiet))
  ∧ (∀ (s : State) (w : Who) (v : BitVec 16), s.grants w 0x1001 3 (leBytes 2 v.toNat) = true →
    ∃ t, exec (.dictWriteGeneric w 0x1001 3 (leBytes 2 v.toNat)) s = .next t
      ∧ (10 ≤ v.toNat → v.toNat ≤ 3600 → t.answered w rsOk [] ∧ t.param (t.server w.sess) 0x1001 3 0 300 = v.toNat
          ∧ { t.quiet with mgmt := s.quiet.mgmt } = s.quiet)
      ∧ (v.toNat < 10 ∨ 3600 < v.toNat → t.answered w rsRefused [] ∧ t.quiet = s.quiet))
  ∧ (∀ (s : State) (w : Who) (v : BitVec 8),
    exec (.dictWriteGeneric w 0x7000 6 [v]) s = exec (.floorRaiseWrite w v) s
    ∧ exec (.dictWriteGeneric w 0x2200 2 [v]) s = exec (.confirmWrite w v) s)
  ∧ (∀ (s : State) (w : Who) (i : BitVec 16) (sub : BitVec 8) (data : List Byte) (c : Instr),
    c ∈ [.dictReadRequest w i sub, .dictWriteGeneric w 0x1001 3 data] →
    s.running = true → s.served w.sess = true → s.role w = 0 →
    ∃ t, exec c s = .next t ∧ t.uncounted = s.uncounted
      ∧ t.cnt (0x6900 + (sessHalf w.sess).num) 1 = s.cnt (0x6900 + (sessHalf w.sess).num) 1 + 1
      ∧ t.cnt (0x6900 + (sessHalf w.sess).num) 2 = s.cnt (0x6900 + (sessHalf w.sess).num) 2 + 1)

/-- SYNROK_FRAME_RECEIVE (R396 to R399, R409): a message without authentication or with a wrong MAC is dropped and counted; one of
another epoch is answered STALE with the present one; the mark of its key makes a request executed once, its response sent again
when it comes again. -/
def Obligations.SynrokMessages : Prop :=
  ∀ (s : State) (h : Half) (peer : Nat) (m : List Byte),
    (s.served (.synrok h peer) = true → (s.half h).supvUp = true → msgAuth m = false →
      ∃ t, exec (.synrokFrameReceive h peer m) s = .next t ∧ t.uncounted = s.uncounted
        ∧ t.cnt (0x6900 + h.num) 1 = s.cnt (0x6900 + h.num) 1 + 1 ∧ t.cnt (0x6900 + h.num) 2 = s.cnt (0x6900 + h.num) 2 + 1)
    ∧ (∀ key, s.underKey h peer m key → macOf key (m.take (24 + msgLen m)) ≠ msgMac m →
      ∃ t, exec (.synrokFrameReceive h peer m) s = .next t ∧ t.uncounted = s.uncounted
        ∧ t.cnt (0x6900 + h.num) 2 = s.cnt (0x6900 + h.num) 2 + 1)
    ∧ (∀ key, s.underKey h peer m key → macOf key (m.take (24 + msgLen m)) = msgMac m → msgEpoch m ≠ s.nv.store.epoch →
      ∃ t, exec (.synrokFrameReceive h peer m) s = .next t ∧ t.quiet = s.quiet
        ∧ t.out = .respMsg (.synrok h peer) (replyMsg m (some key) rsStale (leBytes 4 s.nv.store.epoch)) :: s.out
        ∧ t.cnt (0x6900 + h.num) 4 = s.cnt (0x6900 + h.num) 4 + 1)
    ∧ (∀ key x, s.underKey h peer m key → macOf key (m.take (24 + msgLen m)) = msgMac m → msgEpoch m = s.nv.store.epoch →
      mfind s.mgmt.marks (markKey h m) = some x → x.seq = msgSeq m → x.req = m →
      ∃ t, exec (.synrokFrameReceive h peer m) s = .next t ∧ t.quiet = s.quiet
        ∧ t.out = .respMsg (.synrok h peer) x.resp :: s.out)
    ∧ (∀ key x, s.underKey h peer m key → macOf key (m.take (24 + msgLen m)) = msgMac m → msgEpoch m = s.nv.store.epoch →
      mfind s.mgmt.marks (markKey h m) = some x → msgSeq m < x.seq ∨ (x.seq = msgSeq m ∧ x.req ≠ m) →
      ∃ t, exec (.synrokFrameReceive h peer m) s = .next t ∧ t.uncounted = s.uncounted
        ∧ t.cnt (0x6900 + h.num) 3 = s.cnt (0x6900 + h.num) 3 + 1)
    ∧ (∀ key r, s.underKey h peer m key → macOf key (m.take (24 + msgLen m)) = msgMac m → msgEpoch m = s.nv.store.epoch →
      (∀ x, mfind s.mgmt.marks (markKey h m) = some x → x.seq < msgSeq m) → epochRead m = true → s.running = true →
      s.trust.handover = none → 1 ≤ key % 256 → r = replyMsg m (some key) rsOk (leBytes 4 s.nv.store.epoch) →
      ∃ t, exec (.synrokFrameReceive h peer m) s = .next t ∧ t.out = .respMsg (.synrok h peer) r :: s.out
        ∧ mfind t.mgmt.marks (markKey h m) = some { seq := msgSeq m, req := m, resp := r }
        ∧ (∀ k, k ≠ markKey h m → mfind t.mgmt.marks k = mfind s.mgmt.marks k)
        ∧ { t.quiet with mgmt := s.quiet.mgmt } = s.quiet)

/-- MCTP_MESSAGE_RECEIVE, MCTP_SET_ENDPOINT_ID, MCTP_GET_ENDPOINT_ID, MCTP_GET_VERSION_SUPPORT, MCTP_GET_MESSAGE_TYPE_SUPPORT,
MCTP_GET_VENDOR_MSG_SUPPORT, MBOX_GO, MBOX_RESPONSE_DONE, MBOX_IGNORED_READ (R9, R400 to R402): a dictionary message is answered
on the medium it came by, malformed ones MALFORMED; the mailbox copies a request at GO, ignores and counts a GO while PENDING, and
writes the response with DONE. The contents of the MCTP control responses are the model's (PRESUMED, from DSP0236). -/
def Obligations.MctpAndMailbox : Prop :=
  (∀ (s : State) (h : Half) (m e : Nat) (msg : List Byte), s.mediumOk h m = true → s.served (.mctp h m e) = true →
    s.running = true → s.trust.handover = none → msg.length ≤ 1448 →
    ∃ t, exec (.mctpMessageReceive h m e (mctpHead ++ msg)) s = .next t
      ∧ (msgOk msg = false → t.quiet = s.quiet
          ∧ t.out = .respMsg (.mctp h m e) (mctpHead ++ replyMsg msg none rsMalformed []) :: s.out)
      ∧ (epochRead msg = true → msgAuth msg = false → 1 ≤ s.role { sess := .mctp h m e, key := none } → t.quiet = s.quiet
          ∧ t.out = .respMsg (.mctp h m e) (mctpHead ++ replyMsg msg none rsOk (leBytes 4 s.nv.store.epoch)) :: s.out))
  ∧ (∀ (s : State) (h : Half) (m e : Nat) (msg : List Byte),
    s.mediumOk h m = false ∨ msg.take 4 ≠ mctpHead ∨ 1452 < msg.length → exec (.mctpMessageReceive h m e msg) s = .next s)
  ∧ (∀ (s : State) (h : Half) (m : Nat) (eid : BitVec 8), s.mediumOk h m = true →
    ∃ t, exec (.mctpSetEndpointId h m eid) s = .next t
      ∧ mget t.mgmt.eids (eidKey h m) 0 = (if eid = 0 ∨ eid = 255 then mget s.mgmt.eids (eidKey h m) 0 else eid.toNat)
      ∧ (∀ k, k ≠ eidKey h m → mget t.mgmt.eids k 0 = mget s.mgmt.eids k 0)
      ∧ { t with mgmt := { t.mgmt with eids := s.mgmt.eids }, out := s.out } = s)
  ∧ (∀ (s : State) (h : Half) (m : Nat) (i : Instr) (code : Nat) (l : List Nat),
    (i, code, l) ∈ [(.mctpGetEndpointId h m, 2, [0, mget s.mgmt.eids (eidKey h m) 0, 0, 0]),
      (.mctpGetVersionSupport h m, 4, [0, 1, 0xF1, 0xF3, 0xFF, 0]), (.mctpGetMessageTypeSupport h m, 5, [0, 1, 0x7E]),
      (.mctpGetVendorMsgSupport h m, 6, [0, 0xFF, 0, 0x1F, 0xA6, Config.mctpVendorSet.toNat / 256,
        Config.mctpVendorSet.toNat % 256])] →
    exec i s = .next (if s.mediumOk h m = true then s.emit (.mctp h code l) else s))
  ∧ (∀ (s : State) (p : Fin 4) (msg : List Byte), s.present (fnKey p.val 0) = true → (s.fn (fnKey p.val 0)).d3 = false →
    ∃ t, exec (.mboxGo p msg) s = .next t ∧ (∀ n, n ≠ p.val → t.port n = s.port n) ∧ { t with ports := s.ports } = s
      ∧ { t.port p.val with mboxBuf := [], mboxReq := none, mboxIgnored := 0 }
          = { s.port p.val with mboxBuf := [], mboxReq := none, mboxIgnored := 0 }
      ∧ (t.port p.val).mboxBuf = overBuffer msg (s.port p.val).mboxBuf
      ∧ ((s.port p.val).mboxReq = none → (t.port p.val).mboxReq = some (mboxMessage (overBuffer msg (s.port p.val).mboxBuf))
          ∧ (t.port p.val).mboxIgnored = (s.port p.val).mboxIgnored)
      ∧ ((s.port p.val).mboxReq.isSome = true → (t.port p.val).mboxReq = (s.port p.val).mboxReq
          ∧ (t.port p.val).mboxIgnored = sat31 (s.port p.val).mboxIgnored))
  ∧ (∀ (s : State) (p : Fin 4) (m : List Byte), (s.port p.val).mboxReq = some m → s.served (.mbox p) = true →
    (s.half (portHalf p.val)).supvUp = true → s.running = true → s.trust.handover = none → epochRead m = true →
    msgAuth m = false → 1 ≤ s.role { sess := .mbox p, key := none } →
    ∃ t, exec (.mboxResponseDone p) s = .next t ∧ (t.port p.val).mboxReq = none ∧ t.nv = s.nv
      ∧ (∀ n, n ≠ p.val → t.port n = s.port n)
      ∧ ((s.port p.val).mboxDrop = true → (t.port p.val).mboxDone = (s.port p.val).mboxDone
          ∧ (t.port p.val).mboxResp = (s.port p.val).mboxResp ∧ { t.quiet with ports := s.ports } = s.quiet)
      ∧ ((s.port p.val).mboxDrop = false → (t.port p.val).mboxDone = true
          ∧ (t.port p.val).mboxResp
              = overBuffer (replyMsg m none rsOk (leBytes 4 s.nv.store.epoch)) (s.port p.val).mboxResp
          ∧ ((s.port p.val).mboxIrq = false → { t.quiet with ports := s.ports } = s.quiet)))
  ∧ (∀ (s : State) (p : Fin 4), s.present (fnKey p.val 0) = true → (s.fn (fnKey p.val 0)).d3 = false →
    ∃ t, exec (.mboxIgnoredRead p) s = .next t ∧ t.out = .read (s.port p.val).mboxIgnored :: s.out
      ∧ t.port p.val = { s.port p.val with mboxIgnored := 0 } ∧ (∀ n, n ≠ p.val → t.port n = s.port n)
      ∧ { t with ports := s.ports, out := s.out } = s)

/-- RW_REGISTER_WRITE (R7, R10, R43, R44, R97): a dword written where a command has its register is that command; an offset that is
not a dword's has no effect; a register of the configuration space with no command is kept as written (the places in the
configuration space are the model's, PRESUMED). A frame that the function does not hold (R69): a doorbell written to it changes no queue and counts in FOREIGN_FRAME. -/
def Obligations.RegisterWritesByOffset : Prop :=
  (∀ (s : State) (f : FnRef) (space : Fin 3) (off : Nat) (v : BitVec 32), off % 4 ≠ 0 →
    exec (.rwRegisterWrite f space off v) s = .next s)
  ∧ (∀ (s : State) (f : FnRef) (v : BitVec 32),
    exec (.rwRegisterWrite f 2 4 v) s = (if bit v 2 then exec (.bmeSet f) s else exec (.bmeClear f) s))
  ∧ (∀ (s : State) (f : FnRef) (n : Fin 65536) (v : BitVec 32), f.num = 1 →
    exec (.rwRegisterWrite f 0 (0x1000000 + 512 * n.val + 0x18) v) s
        = exec (.wqDoorbell { fn := f, frame := n.val } (v.setWidth 16)) s
    ∧ exec (.rwRegisterWrite f 0 (0x1000000 + 512 * n.val + 0x14) v) s
        = (if bit v 0 then exec (.wqEnable { fn := f, frame := n.val }) s
           else exec (.wqDisable { fn := f, frame := n.val }) s))
  ∧ (∀ (s : State) (f : FnRef) (off : Nat) (v : BitVec 32), s.present (fkey f) = true → off % 4 = 0 →
    off ∉ [0x004, 0x044, 0x050, 0x060, 0x078, 0x098, 0x0B0, 0x158, 0x400] →
    ∃ t, exec (.rwRegisterWrite f 2 off v) s = .next t ∧ mget (t.fn (fkey f)).cfg (off / 4) 0 = v
      ∧ (∀ k, k ≠ off / 4 → mget (t.fn (fkey f)).cfg k 0 = mget (s.fn (fkey f)).cfg k 0)
      ∧ { t.fn (fkey f) with cfg := (s.fn (fkey f)).cfg } = s.fn (fkey f)
      ∧ (∀ k, k ≠ fkey f → t.fn k = s.fn k) ∧ { t with fns := s.fns } = s)
  ∧ (∀ (s : State) (f : FnRef) (n : Fin 65536) (v : BitVec 32) (h : Half) (e sl k : Nat), f.num = 1 →
    s.reachesFrame { fn := f, frame := n.val } 0 h e sl = true → k = wqKey h e → (s.queue k).st = .disabled →
    ∃ t, exec (.rwRegisterWrite f 0 (0x1000000 + 512 * n.val) v) s = .next t ∧ (t.queue k).base = setLo (s.queue k).base v 12
      ∧ { t.queue k with base := (s.queue k).base } = s.queue k ∧ (∀ j, j ≠ k → t.queue j = s.queue j)
      ∧ { t with wqs := s.wqs } = s)
  ∧ (∀ (s : State) (q : QRef) (pi : BitVec 16), s.present (fkey q.fn) = true → (s.fn (fkey q.fn)).d3 = false →
    s.frame q.fn 0 q.frame = .foreign →
    ∃ t, exec (.wqDoorbell q pi) s = .next t ∧ { t with pfCnt := s.pfCnt } = s
      ∧ mget t.pfCnt (q.fn.port.val * 16 + fnPf q.fn.num) 0 = mget s.pfCnt (q.fn.port.val * 16 + fnPf q.fn.num) 0 + 1)

/-- STORE_COMMIT, STORE_DEFAULTS, STORE_COMMIT_DONE, PROFILE_DATA_WRITE, PROFILE_BEGIN, PROFILE_VERIFY, PROFILE_APPLY,
PROFILE_CANCEL (R390 to R392, R395, R403, R404): a commit holds every RWP value, or none for DEFAULTS, with the next generation, and
is in force when it ends; a profile belongs to one session, and APPLY changes a parameter only where every entry passes. -/
def Obligations.StoreAndProfiles : Prop :=
  (∀ (s : State) (w : Who) (i : Instr) (v : Byte), (i, v) ∈ [(.storeCommit w, 1), (.storeDefaults w, 2)] →
    s.grants w 0x1010 1 [v] = true →
    ∃ t, exec i s = .next t
      ∧ (s.mgmt.storeBusy = true → t.answered w rsBusy [] ∧ t.quiet = s.quiet)
      ∧ (s.mgmt.storeBusy = false → t.answered w rsOk [] ∧ t.mgmt.storeBusy = true
          ∧ { t.quiet with mgmt := { t.quiet.mgmt with storeBusy := false, storeNext := s.mgmt.storeNext } } = s.quiet
          ∧ (∃ c, t.mgmt.storeNext = some c ∧ c.gen = s.nv.store.gen + 1 ∧ c.valid = true
              ∧ (s.cstl.split = false → v = 1 → c.paramsK = rwpOf s.mgmt.paramsK ∧ c.paramsQ = rwpOf s.mgmt.paramsQ)
              ∧ (s.cstl.split = false → v = 2 → c.paramsK = [] ∧ c.paramsQ = [])
              ∧ { c with gen := 0, valid := true, paramsK := [], paramsQ := [] }
                  = { s.nv.store with gen := 0, valid := true, paramsK := [], paramsQ := [] })))
  ∧ (∀ (s : State), ∃ t, exec .storeCommitDone s = .next t ∧ (s.mgmt.storeNext = none → t = s)
      ∧ (∀ c, s.mgmt.storeNext = some c →
          t.mgmt.storeBusy = false ∧ t.mgmt.storeNext = none ∧ t.mgmt.storeStatus = stOk ∧ t.mgmt.profile.busy = false
          ∧ (c.valid = true → s.nv.store.gen < c.gen → t.nv.store = c)
          ∧ (s.nv.second = true → t.nv.copy1 = s.nv.copy1) ∧ (s.nv.second = false → t.nv.copy0 = s.nv.copy0)
          ∧ t.mgmt.paramsK = s.mgmt.paramsK ∧ t.mgmt.paramsQ = s.mgmt.paramsQ
          ∧ { t with nv := { t.nv with copy0 := s.nv.copy0, copy1 := s.nv.copy1 }, mgmt := s.mgmt } = s))
  ∧ (∀ (s : State) (w : Who) (i : Instr) (v : Byte),
    (i, v) ∈ [(.profileBegin w, 1), (.profileVerify w, 2), (.profileApply w, 3), (.profileCancel w, 4)] →
    s.grants w 0x1011 2 [v] = true → s.mgmt.profile.busy = true ∨ (v = 3 ∧ s.mgmt.storeBusy = true) →
    ∃ t, exec i s = .next t ∧ t.answered w rsBusy [] ∧ t.quiet = s.quiet)
  ∧ (∀ (s : State) (w : Who) (i : Instr) (v : Byte),
    (i, v) ∈ [(.profileVerify w, 2), (.profileApply w, 3), (.profileCancel w, 4)] →
    s.grants w 0x1011 2 [v] = true → s.mgmt.profile.busy = false → s.mgmt.storeBusy = false →
    s.mgmt.profile.owner ≠ some w.sess → ∃ t, exec i s = .next t ∧ t.answered w rsRefused [] ∧ t.quiet = s.quiet)
  ∧ (∀ (s : State) (w : Who) (data : List Byte), s.grants w 0x1011 1 data = true → s.mgmt.profile.busy = false →
    ∃ t, exec (.profileDataWrite w data) s = .next t
      ∧ (s.mgmt.profile.mine w.sess = true → s.mgmt.profile.buf.length + data.length ≤ 1048576 → t.answered w rsOk []
          ∧ t.mgmt.profile
              = { s.mgmt.profile with owner := some w.sess, buf := s.mgmt.profile.buf ++ data, verified := false }
          ∧ { t.quiet with mgmt := { t.quiet.mgmt with profile := s.mgmt.profile } } = s.quiet)
      ∧ (s.mgmt.profile.mine w.sess = false ∨ 1048576 < s.mgmt.profile.buf.length + data.length →
          t.answered w rsRefused [] ∧ t.quiet = s.quiet))
  ∧ (∀ (s : State) (w : Who), s.grants w 0x1011 2 [1] = true → s.mgmt.profile.busy = false →
    ∃ t, exec (.profileBegin w) s = .next t
      ∧ (s.mgmt.profile.mine w.sess = true → t.answered w rsOk [] ∧ t.mgmt.profile = { owner := some w.sess }
          ∧ { t.quiet with mgmt := { t.quiet.mgmt with profile := s.mgmt.profile } } = s.quiet)
      ∧ (s.mgmt.profile.mine w.sess = false → t.answered w rsRefused [] ∧ t.quiet = s.quiet))
  ∧ (∀ (s : State) (w : Who) (r : Nat × Nat × State), s.grants w 0x1011 2 [2] = true → s.mgmt.profile.busy = false →
    s.mgmt.profile.owner = some w.sess → r = (s.accepted w).tryProfile w s.mgmt.profile.buf →
    ∃ t, exec (.profileVerify w) s = .next t ∧ t.answered w rsOk []
      ∧ t.mgmt.profile = { s.mgmt.profile with status := r.1, failing := r.2.1, verified := r.1 = rsOk }
      ∧ (s.nv.checkImage 3 profileLimit s.mgmt.profile.buf ≠ stOk →
          r.1 = s.nv.checkImage 3 profileLimit s.mgmt.profile.buf ∧ r.2.1 = 0)
      ∧ { t.quiet with mgmt := { t.quiet.mgmt with profile := s.mgmt.profile } } = s.quiet)
  ∧ (∀ (s : State) (w : Who) (r : Nat × Nat × State), s.grants w 0x1011 2 [3] = true → s.mgmt.profile.busy = false →
    s.mgmt.storeBusy = false → s.mgmt.profile.owner = some w.sess → r = (s.accepted w).tryProfile w s.mgmt.profile.buf →
    ∃ t, exec (.profileApply w) s = .next t ∧ t.answered w rsOk []
      ∧ (r.1 ≠ rsOk → t.mgmt.profile = { s.mgmt.profile with status := r.1, failing := r.2.1, verified := false }
          ∧ { t.quiet with mgmt := { t.quiet.mgmt with profile := s.mgmt.profile } } = s.quiet)
      ∧ (r.1 = rsOk → t.mgmt.profile = { s.mgmt.profile with busy := true, status := rsOk, failing := 0, verified := true }
          ∧ t.mgmt.storeBusy = true ∧ t.mgmt.paramsK = r.2.2.mgmt.paramsK ∧ t.mgmt.paramsQ = r.2.2.mgmt.paramsQ
          ∧ (∃ c, t.mgmt.storeNext = some c ∧ c.gen = r.2.2.nv.store.gen + 1
              ∧ (r.2.2.cstl.split = false → c.paramsK = rwpOf t.mgmt.paramsK ∧ c.paramsQ = rwpOf t.mgmt.paramsQ))))
  ∧ (∀ (s : State) (w : Who), s.grants w 0x1011 2 [4] = true → s.mgmt.profile.busy = false →
    s.mgmt.profile.owner = some w.sess →
    ∃ t, exec (.profileCancel w) s = .next t ∧ t.answered w rsOk []
      ∧ t.mgmt.profile = { status := s.mgmt.profile.status, failing := s.mgmt.profile.failing }
      ∧ { t.quiet with mgmt := { t.quiet.mgmt with profile := s.mgmt.profile } } = s.quiet)

/-- CAL_DATA_WRITE, CAL_COMMIT, CAL_REVERT, CAL_COMMIT_DONE, AUTH_KEY_WRITE, MGMT_NET_WRITE, ALERT_ACK_WRITE, LOG_READ,
SESSION_IDLE_EXPIRY (R389, R395, R405 to R407, R427, R428): calibration data change a working copy, which COMMIT programs; a key is
written or deleted in the store; LOG_READ returns records from the cursor and moves it; an idle session loses what it owns. -/
def Obligations.CalibrationKeysAndLogs : Prop :=
  (∀ (s : State) (w : Who) (b : Fin 1024) (data : List Byte), s.grants w (0x3000 + b.val / 4) (1 + b.val % 4) data = true →
    ∃ t, exec (.calDataWrite w b data) s = .next t
      ∧ (s.mgmt.calBusy = true → t.answered w rsRefused [] ∧ t.quiet = s.quiet)
      ∧ (s.mgmt.calBusy = false → t.answered w rsOk [] ∧ t.workBlock b.val = data
          ∧ (∀ c, c ≠ b.val → t.workBlock c = s.workBlock c)
          ∧ { t.quiet with mgmt := { t.quiet.mgmt with calWork := s.mgmt.calWork } } = s.quiet))
  ∧ (∀ (s : State) (w : Who), s.grants w 0x3000 5 [1] = true →
    ∃ t, exec (.calCommit w) s = .next t
      ∧ (s.mgmt.calBusy = true → t.answered w rsBusy [] ∧ t.quiet = s.quiet)
      ∧ (s.mgmt.calBusy = false → (∀ p ∈ s.changedPages, s.calPageOk p = true) → t.answered w rsOk []
          ∧ t.mgmt.calBusy = true ∧ { t.quiet with mgmt := { t.quiet.mgmt with calBusy := false } } = s.quiet)
      ∧ (s.mgmt.calBusy = false → (∃ p ∈ s.changedPages, s.calPageOk p = false) →
          t.answered w rsRefused [] ∧ t.quiet = s.quiet))
  ∧ (∀ (s : State) (w : Who), s.grants w 0x3000 5 [2] = true →
    ∃ t, exec (.calRevert w) s = .next t
      ∧ (s.mgmt.calBusy = true → t.answered w rsBusy [] ∧ t.quiet = s.quiet)
      ∧ (s.mgmt.calBusy = false → t.answered w rsOk [] ∧ (∀ b, t.workBlock b = s.nv.calBlock b)
          ∧ { t.quiet with mgmt := { t.quiet.mgmt with calWork := s.mgmt.calWork } } = s.quiet))
  ∧ (∀ (s : State), ∃ t, exec .calCommitDone s = .next t ∧ (s.mgmt.calBusy = false → t = s)
      ∧ (s.mgmt.calBusy = true → t.mgmt.calBusy = false ∧ t.mgmt.calStatus = stOk ∧ t.mgmt.calWork = []
          ∧ ((∀ b, (s.workBlock b).length = 1024) → ∀ b, t.nv.calBlock b = s.workBlock b)
          ∧ { t with nv := { t.nv with cal := s.nv.cal, calBad := s.nv.calBad }, mgmt := s.mgmt } = s))
  ∧ (∀ (s : State) (w : Who) (n : Fin 8) (rec : BitVec 392), s.grants w 0x1020 (n.val + 1) (leBytes 49 rec.toNat) = true →
    ∃ t, exec (.authKeyWrite w n rec) s = .next t
      ∧ (3 < fld rec 0 8 → t.answered w rsRefused [] ∧ t.quiet = s.quiet)
      ∧ (fld rec 0 8 ≤ 3 → t.answered w rsOk [] ∧ t.keyRole n.val = fld rec 0 8
          ∧ (1 ≤ fld rec 0 8 → t.unseal (mfind t.nv.store.keys n.val) = some rec.toNat)
          ∧ (∀ m, m ≠ n.val → mfind t.nv.store.keys m = mfind s.nv.store.keys m)
          ∧ t.nv.store.epoch = s.nv.store.epoch ∧ t.nv.store.kwk = s.nv.store.kwk
          ∧ { t.quiet with nv := s.nv, mgmt := s.quiet.mgmt } = s.quiet))
  ∧ (∀ (s : State) (w : Who) (h : Half) (rec : BitVec 320), s.grants w 0x1022 (h.num + 1) (leBytes 40 rec.toNat) = true →
    ∃ t, exec (.mgmtNetWrite w h rec) s = .next t ∧ t.answered w rsOk []
      ∧ t.param (t.server w.sess) 0x1022 (h.num + 1) 0 0 = rec.toNat
      ∧ (∀ g k, k ≠ okey 0x1022 (h.num + 1) 0 → mfind (t.params g) k = mfind (s.params g) k)
      ∧ { t.quiet with mgmt := s.quiet.mgmt } = s.quiet)
  ∧ (∀ (s : State) (w : Who) (h : Half) (v : BitVec 64), s.grants w (0x8000 + h.num) 4 (leBytes 8 v.toNat) = true →
    ∃ t, exec (.alertAckWrite w h v) s = .next t ∧ t.answered w rsOk []
      ∧ (t.half h).log = { (s.half h).log with acked := max (s.half h).log.acked v.toNat }
      ∧ t.half h.other = s.half h.other ∧ { t.half h with log := (s.half h).log } = s.half h
      ∧ { t.quiet with k := s.quiet.k, q := s.quiet.q } = s.quiet)
  ∧ (∀ (s : State) (w : Who) (h : Half), s.hears w = true → s.otherHalf w.sess (0x8000 + h.num) 2 = false →
    ∃ t, exec (.logRead w h) s = .next t
      ∧ t.answered w rsOk (fit 1024 ((s.logRecs w.sess h).flatMap EventRec.bytes))
      ∧ (∀ r, (s.logRecs w.sess h).getLast? = some r → t.logCursor w.sess h = r.seq + 1)
      ∧ (s.logRecs w.sess h = [] → t.logCursor w.sess h = s.logCursor w.sess h) ∧ t.quiet = s.quiet)
  ∧ (∀ (s : State) (ss : Session), ∃ t, exec (.sessionIdleExpiry ss) s = .next t
      ∧ ((∀ x ∈ s.mgmt.sessions, x.sess ≠ ss) → t = s)
      ∧ ((∃ x ∈ s.mgmt.sessions, x.sess = ss) → (∀ x ∈ t.mgmt.sessions, x.sess ≠ ss)
          ∧ (∀ x ∈ s.mgmt.sessions, x.sess ≠ ss → x ∈ t.mgmt.sessions)
          ∧ (s.mgmt.staging.owner = some ss → t.mgmt.staging.owner = none ∧ t.mgmt.staging.changes = [])
          ∧ (s.mgmt.staging.owner ≠ some ss → t.mgmt.staging = s.mgmt.staging)
          ∧ t.mgmt.profile.owner ≠ some ss ∧ t.mgmt.nibLoad.owner ≠ some ss
          ∧ (s.mgmt.nibLoad.owner ≠ some ss → t.mgmt.nibLoad = s.mgmt.nibLoad)
          ∧ (s.trust.owner = some ss → t.nv.slotState s.trust.target = slErased ∧ t.trust.owner = none)
          ∧ (s.trust.owner ≠ some ss → t.nv = s.nv ∧ t.trust = s.trust)
          ∧ ({ t.k with gov := s.k.gov } = s.k ∧ { t.q with gov := s.q.gov } = s.q)
          ∧ { t with nv := s.nv, trust := s.trust, mgmt := s.mgmt, k := s.k, q := s.q } = s))

/-- UNIT_DRAIN, UNIT_DRAIN_FORCE, UNIT_RETURN, UNIT_POWER_OFF, UNIT_POWER_ON, UNIT_DRAIN_DONE, UNIT_RETURN_DONE, SELFTEST_DONE,
TRANSITION_OVERRUN, ROTATION_VISIT_START (R410 to R418): each command acts from the states the table allows and ends RANGE from
another; a transition ends in the state it leads to, and one that overruns its limit in FAILED. -/
def Obligations.UnitStates : Prop :=
  (∀ (s : State) (w : Who) (u : UnitRef) (c : Instr) (code : Nat),
    (c, code) ∈ [(.unitDrain w u, 1), (.unitDrainForce w u, 0x8001), (.unitReturn w u, 2), (.unitPowerOff w u, 3),
      (.unitPowerOn w u, 4)] → s.grants w (0x4000 + 16 * unitId u.half u.index.val) 2 (leBytes 2 code) = true →
    ∃ t, exec c s = .next t
      ∧ ((s.unitOf u).busy = true → t.answered w rsBusy [] ∧ t.quiet = s.quiet)
      ∧ ((s.unitOf u).busy = false → (s.half u.half).supvUp = false ∨ u.index.val = 16 → t.unitCmdTaken s w u
          ∧ t.unitEnded u (s.unitOf u).st (if (s.half u.half).supvUp then stRange else stOtherHalf)))
  ∧ (∀ (s : State) (w : Who) (u : UnitRef), s.takesUnitCmd w u 1 = true → s.visits u = false →
    ∃ t, exec (.unitDrain w u) s = .next t ∧ t.unitCmdTaken s w u
      ∧ ((s.unitOf u).st ≠ .active → t.unitEnded u (s.unitOf u).st stRange)
      ∧ ((s.unitOf u).st = .active → s.drainQuota u.half u.index.val = true → t.unitEnded u .active stQuota)
      ∧ ((s.unitOf u).st = .active → s.drainQuota u.half u.index.val = false →
          (t.unitOf u).st = .draining ∧ (t.unitOf u).busy = true ∧ (t.unitOf u).since = s.time u.half))
  ∧ (∀ (s : State) (w : Who) (u : UnitRef), s.takesUnitCmd w u 0x8001 = true → s.visits u = false →
    ∃ t, exec (.unitDrainForce w u) s = .next t ∧ t.answered w rsOk []
      ∧ ((s.unitOf u).st ≠ .active → t.unitCmdTaken s w u ∧ t.unitEnded u (s.unitOf u).st stRange)
      ∧ ((s.unitOf u).st = .active → s.forceQuota u.half u.index.val = true →
          t.unitCmdTaken s w u ∧ t.unitEnded u .active stQuota)
      ∧ ((s.unitOf u).st = .active → s.forceQuota u.half u.index.val = false →
          (t.unitOf u).st = .draining ∧ (t.unitOf u).busy = true))
  ∧ (∀ (s : State) (w : Who) (u : UnitRef), s.takesUnitCmd w u 2 = true →
    ∃ t, exec (.unitReturn w u) s = .next t ∧ t.unitCmdTaken s w u
      ∧ ((s.unitOf u).st = .service → (t.unitOf u).st = .returning ∧ (t.unitOf u).busy = true ∧ (t.unitOf u).toActive = true
          ∧ t.visits u = false)
      ∧ ((s.unitOf u).st ≠ .service → s.visits u = false → t.unitEnded u (s.unitOf u).st stRange))
  ∧ (∀ (s : State) (w : Who) (u : UnitRef), s.takesUnitCmd w u 3 = true →
    ∃ t, exec (.unitPowerOff w u) s = .next t ∧ t.unitCmdTaken s w u
      ∧ ((s.unitOf u).st = .service → t.unitEnded u .off stOk ∧ t.visits u = false)
      ∧ ((s.unitOf u).st ≠ .service → t.unitEnded u (s.unitOf u).st stRange))
  ∧ (∀ (s : State) (w : Who) (u : UnitRef), s.takesUnitCmd w u 4 = true →
    ∃ t, exec (.unitPowerOn w u) s = .next t ∧ t.unitCmdTaken s w u
      ∧ ((s.unitOf u).st = .off ∨ (s.unitOf u).st = .failed →
          (t.unitOf u).st = .returning ∧ (t.unitOf u).busy = true ∧ (t.unitOf u).toActive = false)
      ∧ ((s.unitOf u).st ≠ .off → (s.unitOf u).st ≠ .failed → t.unitEnded u (s.unitOf u).st stRange))
  ∧ (∀ (s : State) (u : UnitRef), ∃ t, exec (.unitDrainDone u) s = .next t
      ∧ ((s.unitOf u).st ≠ .draining ∨ s.unitEmpty u.half u.index.val = false → t = s)
      ∧ ((s.unitOf u).st = .draining → s.unitEmpty u.half u.index.val = true → (t.unitOf u).st = .service
          ∧ (t.unitOf u).busy = false ∧ ((s.unitOf u).busy = true → (t.unitOf u).status = stOk) ∧ t.otherUnits s u))
  ∧ (∀ (s : State) (u : UnitRef), ∃ t, exec (.unitReturnDone u) s = .next t
      ∧ ((s.unitOf u).st ≠ .returning ∨ ((s.unitOf u).toActive = false ∧ (s.unitOf u).tested = false) → t = s)
      ∧ ((s.unitOf u).st = .returning → (s.unitOf u).toActive = true → (t.unitOf u).st = .active
          ∧ (t.unitOf u).busy = false ∧ t.visits u = false ∧ t.otherUnits s u
          ∧ (s.visits u = true → (t.unitOf u).visits = (s.unitOf u).visits + 1
              ∧ t.cnt (0x6A00 + u.half.num) 6 = s.cnt (0x6A00 + u.half.num) 6 + 1))
      ∧ ((s.unitOf u).st = .returning → (s.unitOf u).toActive = false → (s.unitOf u).tested = true →
          (t.unitOf u).st = .service ∧ (t.unitOf u).busy = false ∧ t.otherUnits s u))
  ∧ (∀ (s : State) (u : UnitRef) (pass : Bool), ∃ t, exec (.selftestDone u pass) s = .next t
      ∧ ((s.unitOf u).st = .returning → (s.unitOf u).toActive = false → pass = true →
          t.unitOf u = { s.unitOf u with stFail := false, tested := true } ∧ t.otherUnits s u)
      ∧ ((s.unitOf u).st = .returning → (s.unitOf u).toActive = false → pass = false →
          (t.unitOf u).st = .failed ∧ (t.unitOf u).stFail = true ∧ (t.unitOf u).busy = false ∧ t.otherUnits s u)
      ∧ ((s.unitOf u).st = .service → s.visits u = true → pass = true →
          (t.unitOf u).st = .returning ∧ (t.unitOf u).toActive = true ∧ t.visits u = true)
      ∧ ((s.unitOf u).st = .service → s.visits u = true → pass = false → (t.unitOf u).st = .failed ∧ t.visits u = false)
      ∧ ((s.unitOf u).st = .active → s.visits u = false → t = s))
  ∧ (∀ (s : State) (u : UnitRef), u.index.val < 16 → ∃ t, exec (.transitionOverrun u) s = .next t
      ∧ ((s.unitOf u).st = .draining ∨ ((s.unitOf u).st = .returning ∧ (s.unitOf u).toActive = true) →
          (t.unitOf u).st = .failed ∧ (t.unitOf u).fatal = (s.unitOf u).fatal + 1
          ∧ (s.unitOf u).since + transLimit u.index.val (s.unitOf u).st ≤ t.time u.half)
      ∧ ((s.unitOf u).st ≠ .draining → (s.unitOf u).st ≠ .returning ∨ (s.unitOf u).toActive = false → t = s))
  ∧ (∀ (s : State) (h : Half), ∃ t, exec (.rotationVisitStart h) s = .next t
      ∧ (∀ i, s.nextVisit h = some i → s.mayVisit h i = true → (t.half h).rot.unit = some i ∧ (t.half h).rot.next = i + 1
          ∧ (i < 7 → (t.unit h i).st = .draining) ∧ (7 ≤ i → t.unit h i = s.unit h i)
          ∧ (∀ g j, ¬ (g = h ∧ j = i) → t.unit g j = s.unit g j))
      ∧ ((∀ i, s.nextVisit h = some i → s.mayVisit h i = false) → t = s))

/-- CORRECTED_FAULT, DEFERRED_FAULT, ENGINE_FAILURE, UNIT_FATAL_FAULT, ALIVE_COUNT_TIMEOUT, ROM_WATCHDOG_EXPIRY, HALF_FATAL_FAULT,
HALF_RESTART_WRITE, HEARTBEAT_SEND, GROUP_HEARTBEAT_LOSS, LINK_GROUP_RETURN, REJOIN, CUSTODY_GRANT_WRITE (R419 to R424, R430 to
R435): what each fault takes from service; the standby takes over from a primary that fails; the halves split with their last link
group and join under the half of the higher epoch; custody moves by a grant at a higher epoch. -/
def Obligations.FaultsAndCastling : Prop :=
  (∀ (s : State) (u : UnitRef) (c : Instr), (∃ e n, c = .correctedFault u e n) ∨ c = .deferredFault u →
    ∃ t, exec c s = .next t ∧ (s.powered u.half u.index.val = false → t = s)
      ∧ (s.powered u.half u.index.val = true → (t.unitOf u).st = (s.unitOf u).st ∧ t.otherUnits s u
          ∧ (c = .deferredFault u → (t.unitOf u).deferred = (s.unitOf u).deferred + 1
              ∧ (t.unitOf u).corrected = (s.unitOf u).corrected)
          ∧ (c ≠ .deferredFault u → (t.unitOf u).corrected = (s.unitOf u).corrected + 1
              ∧ (t.unitOf u).deferred = (s.unitOf u).deferred)))
  ∧ (∀ (s : State) (u : UnitRef) (k : Fin 4) (n : Nat), u.index.val ≠ 9 → u.index.val ≠ 16 →
    s.powered u.half u.index.val = true → n = mget (s.unitOf u).used (if u.index.val = 10 then k.val else 0) 0 →
    ∃ t, exec (.engineFailure u k) s = .next t
      ∧ (n < spareEngines u.index.val → (t.unitOf u).st = (s.unitOf u).st ∧ t.otherUnits s u
          ∧ mget (t.unitOf u).used (if u.index.val = 10 then k.val else 0) 0 = n + 1)
      ∧ (spareEngines u.index.val ≤ n → (t.unitOf u).st = .failed))
  ∧ (∀ (s : State) (u : UnitRef), u.index.val < 16 → ∃ t, exec (.unitFatalFault u) s = .next t
      ∧ (s.powered u.half u.index.val = false → t = s)
      ∧ (s.powered u.half u.index.val = true → (t.unitOf u).st = .failed ∧ (t.unitOf u).fatal = (s.unitOf u).fatal + 1
          ∧ (u.index.val ∈ [7, 8, 10, 14] → (t.half u.half).stopped = true)))
  ∧ (∀ (s : State) (h : Half) (c : Instr), c ∈ [.unitFatalFault { half := h, index := 16 }, .aliveCountTimeout h] →
    (s.half h).supvUp = true → s.cstl.split = false → s.cstl.groups ≠ 0 → s.trust.handover = none →
    ∃ t, exec c s = .next t ∧ (t.half h).supvUp = false ∧ (t.half h.other).supvUp = (s.half h.other).supvUp
      ∧ (s.cstl.primary = h → (s.half h.other).supvUp = true → t.cstl.primary = h.other
          ∧ (t.half h.other).cust.holds = true ∧ (t.half h).cust.holds = false
          ∧ t.cnt (0x6A00 + h.other.num) 5 = s.cnt (0x6A00 + h.other.num) 5 + 1)
      ∧ (s.cstl.primary ≠ h → t.cstl.primary = s.cstl.primary)
      ∧ (2 ≤ ((s.half h).supvFails.filter fun x => s.time h < x + 3600000000000).length →
          (t.unit h 16).st = .failed ∧ (t.half h).stopped = true))
  ∧ (∀ (s : State) (h : Half), (s.half h).supvUp = false → ∃ t, exec (.romWatchdogExpiry h) s = .next t
      ∧ (s.board.boot ≠ .running ∨ (s.unit h 16).st = .failed → t = s)
      ∧ (s.board.boot = .running → (s.unit h 16).st ≠ .failed → (t.half h).supvUp = true ∧ t.trust.trialEnd = none
          ∧ (s.trust.trialEnd.isSome = true → t.nv.slotState s.trialSlot = slRejected)
          ∧ (∀ g i, t.unit g i = s.unit g i)))
  ∧ (∀ (s : State) (h : Half), ∃ t, exec (.halfFatalFault h) s = .next t ∧ ((s.half h).stopped = true → t = s)
      ∧ ((s.half h).stopped = false → (t.half h).stopped = true ∧ (t.half h).supvUp = (s.half h).supvUp
          ∧ (∀ i, i < 16 → (t.unit h i).st = (if (s.unit h i).st = .failed then .failed else .off))
          ∧ (∀ i, t.unit h.other i = s.unit h.other i) ∧ (t.half h).cipher.sas = [] ∧ (t.half h).cls.flight = []))
  ∧ (∀ (s : State) (w : Who) (v : BitVec 8) (h : Half), s.grants w 0x2100 5 [v] = true → h = halfOf v.toNat →
    ∃ t, exec (.halfRestartWrite w v) s = .next t
      ∧ (v.toNat < 2 → (s.half h).stopped = true → (s.half h).supvUp = true → (s.half h).gov.temp ≤ 1000 →
          s.cstl.split = false → t.answered w rsOk [] ∧ (t.half h).stopped = false
          ∧ (∀ i, i < 16 → (t.unit h i).st = .returning ∧ (t.unit h i).toActive = true)
          ∧ (∀ i, t.unit h.other i = s.unit h.other i))
      ∧ (2 ≤ v.toNat ∨ (s.half h).stopped = false ∨ (s.half h).supvUp = false ∨ 1000 < (s.half h).gov.temp →
          t.answered w rsRefused [] ∧ t.quiet = s.quiet))
  ∧ (∀ (s : State) (h : Half), ∃ t, exec (.heartbeatSend h) s = .next t
      ∧ (s.cstl.groups = 0 ∨ s.cstlUp h = false → t = s)
      ∧ (s.cstl.groups ≠ 0 → s.cstlUp h = true → t.out = .heartbeat h (t.half h).alive :: s.out
          ∧ (t.half h).alive = (if (s.half h).supvUp then (s.half h).alive + 1 else (s.half h).alive)
          ∧ (∀ g, t.time g = s.time g) ∧ { t with k := s.k, q := s.q, out := s.out } = s))
  ∧ (∀ (s : State) (g : Fin 4), ∃ t, exec (.groupHeartbeatLoss g) s = .next t
      ∧ (s.cstl.groups.getLsbD g.val = false → t = s)
      ∧ (s.cstl.groups.getLsbD g.val = true →
          (∀ i, i < 4 → t.cstl.groups.getLsbD i = (s.cstl.groups.getLsbD i && i != g.val))
          ∧ (t.cstl.split = (s.cstl.split || t.cstl.groups == 0)) ∧ t.cstl.primary = s.cstl.primary
          ∧ (∀ h, s.cstl.split = false → t.cstl.groups = 0 →
              t.cnt (0x6A00 + h.num) 4 = s.cnt (0x6A00 + h.num) 4 + 1 ∧ (t.half h).cust.divergent = [])))
  ∧ (∀ (s : State) (g : Fin 4), ∃ t, exec (.linkGroupReturn g) s = .next t
      ∧ (s.cstlUp .k = false ∨ s.cstlUp .q = false → t = s)
      ∧ (s.cstlUp .k = true → s.cstlUp .q = true → t.cstl = { s.cstl with groups := s.cstl.groups ||| BitVec.ofNat 4 (2 ^ g.val) }
          ∧ { t with cstl := s.cstl, trust := s.trust } = s))
  ∧ (∀ (s : State), ∃ t, exec .rejoin s = .next t
      ∧ (s.cstl.split = false ∨ s.cstl.groups = 0 ∨ s.cstlUp .k = false ∨ s.cstlUp .q = false ∨ s.k.supvUp = false
            ∨ s.q.supvUp = false → t = s)
      ∧ (∀ h, s.cstl.split = true → s.cstl.groups ≠ 0 → s.cstlUp .k = true → s.cstlUp .q = true → s.k.supvUp = true →
          s.q.supvUp = true → h = s.nv.store.winner.1 → t.cstl.split = false ∧ t.cstl.primary = h
          ∧ (t.half h).cust.holds = true ∧ (t.half h.other).cust.holds = false ∧ (∀ g, (t.half g).cust.divergent = [])
          ∧ t.nv.store.custodyK = s.nv.store.custody h ∧ t.nv.store.custodyQ = s.nv.store.custody h))
  ∧ (∀ (s : State) (w : Who) (rec : BitVec 64) (h : Half), s.grants w 0x2300 3 (leBytes 8 rec.toNat) = true →
    h = s.server w.sess →
    ∃ t, exec (.custodyGrantWrite w rec) s = .next t
      ∧ (s.cstl.split = true → fld rec 0 8 < 2 → s.nv.store.custody h < fld rec 32 32 → mayGrant w = true →
          t.answered w rsOk [] ∧ ((t.half h).cust.holds = true ↔ fld rec 0 8 = h.num)
          ∧ t.nv.store.custody h = fld rec 32 32 ∧ t.nv.store.holder h = fld rec 0 8 ∧ t.half h.other = s.half h.other)
      ∧ (s.cstl.split = false ∨ 2 ≤ fld rec 0 8 ∨ fld rec 32 32 ≤ s.nv.store.custody h ∨ mayGrant w = false →
          t.answered w rsRefused [] ∧ t.quiet = s.quiet))

/-- A step takes the command at the front of the queue and carries it out with the queue's rest. On an empty queue it is one REFCLK
cycle (the model's choice, log 4). -/
def Obligations.StepRunsFrontCommand : Prop :=
  (∀ (s : State) (c : Instr) (rest : List Instr), s.pending = c :: rest → step s = exec c { s with pending := rest })
  ∧ (∀ (s : State), s.pending = [] → step s = .next s.tick)

/-- The state right after reset (R367, R441, R363): in reset, with nothing sent, no command waiting, no unit failed, no slice in use,
no session and key slots 0 and 1 programmed. The values that the spec does not give are the model's (log 1, log 2). -/
def Obligations.ResetLeavesTheDeviceInReset : Prop :=
  State.reset.board.boot = .inReset ∧ State.reset.pending = [] ∧ State.reset.out = [] ∧ State.reset.mgmt.sessions = []
    ∧ State.reset.cstl.split = false ∧ State.reset.nv.floorBits ≤ 64
    ∧ (∀ h i, (State.reset.unit h i).st ≠ .failed) ∧ (∀ n, (State.reset.slice n).st = .free)
    ∧ (∀ n, n < 8 → (State.reset.nv.programmed n = true ↔ n < 2)) ∧ (∀ n, State.reset.nv.isRevoked n = false)
    ∧ step State.reset = .next State.reset

/-- Fuses are only ever blown (R363, R377, R378, R380): over any step of any state the version floor does not fall and has at
most 64 bits, a closed debug fuse stays closed, a revoked key slot stays revoked, and a programmed one keeps its hash and its
usage. -/
def Obligations.FusesOnlyBlow : Prop :=
  ∀ (s t : State), step s = .next t →
    (s.nv.floorBits ≤ 64 → t.nv.floorBits ≤ 64) ∧ s.nv.floorBits ≤ t.nv.floorBits
    ∧ (s.nv.vendorBlown = true → t.nv.vendorBlown = true) ∧ (s.nv.programBlown = true → t.nv.programBlown = true)
    ∧ (∀ i, s.nv.isRevoked i = true → t.nv.isRevoked i = true)
    ∧ (∀ i k, mfind s.nv.keySlots i = some k → k.usage ≠ 0 →
        ∃ k', mfind t.nv.keySlots i = some k' ∧ k'.hash = k.hash ∧ k'.usage = k.usage)
end

