-- ==== Sys2Proof/Laws/Tables.lean ====
section
/-! SUPPORT. The tables with number keys: reading after writing, rising keys, and byte memories in canonical form. -/

namespace Sys2Proof.Machine
open Sys2Proof

variable {α : Type}

/-! ### Reading after writing -/

theorem mfind_merase (m : Map α) (k j : Nat) : mfind (merase m k) j = if j = k then none else mfind m j := by
  induction m with
  | nil => simp [merase, mfind]
  | cons e rest ih =>
    obtain ⟨a, v⟩ := e
    by_cases h : a = k
    · simp only [merase, h, if_true, ih, mfind]
      by_cases hj : j = k
      · simp [hj]
      · simp [hj, Ne.symm hj]
    · simp only [merase, if_neg h, mfind, ih]
      by_cases hj : a = j
      · have : j ≠ k := fun e => h (hj.trans e)
        simp [hj, this]
      · simp [hj]

theorem mfind_mput (m : Map α) (k j : Nat) (v : α) : mfind (mput m k v) j = if j = k then some v else mfind m j := by
  induction m with
  | nil => simp [mput, mfind, eq_comm]
  | cons e rest ih =>
    obtain ⟨a, w⟩ := e
    simp only [mput]
    split
    · simp [mfind, eq_comm]
    · split
      · rename_i h
        subst h
        by_cases hj : j = k
        · simp [mfind, hj]
        · simp [mfind, hj, Ne.symm hj]
      · rename_i h
        simp only [mfind, ih]
        by_cases hj : a = j
        · have : j ≠ k := fun e => h (hj.trans e).symm
          simp [hj, this]
        · simp [hj]

theorem mget_eq (m : Map α) (k : Nat) (d : α) : mget m k d = (mfind m k).getD d := by
  induction m with
  | nil => rfl
  | cons e rest ih =>
    obtain ⟨a, w⟩ := e
    by_cases h : a = k <;> simp [mget, mfind, h, ih]

theorem mget_mput (m : Map α) (k j : Nat) (v d : α) : mget (mput m k v) j d = if j = k then v else mget m j d := by
  simp only [mget_eq, mfind_mput]
  split <;> rfl

theorem mget_merase (m : Map α) (k j : Nat) (d : α) : mget (merase m k) j d = if j = k then d else mget m j d := by
  simp only [mget_eq, mfind_merase]
  split <;> rfl

/-- A table read after a value is set. -/
theorem mget_mset [DecidableEq α] (m : Map α) (k j : Nat) (v d : α) :
    mget (mset m k v d) j d = if j = k then v else mget m j d := by
  unfold mset
  split
  · rename_i h
    rw [mget_merase, h]
  · exact mget_mput m k j v d

@[simp] theorem mget_mset_same [DecidableEq α] (m : Map α) (k : Nat) (v d : α) : mget (mset m k v d) k d = v := by
  simp [mget_mset]

@[simp] theorem mget_mput_same (m : Map α) (k : Nat) (v d : α) : mget (mput m k v) k d = v := by simp [mget_mput]

/-! ### Rising keys -/

theorem mem_merase (m : Map α) (k : Nat) (e : Nat × α) : e ∈ merase m k ↔ e ∈ m ∧ e.1 ≠ k := by
  induction m with
  | nil => simp [merase]
  | cons x rest ih =>
    obtain ⟨a, w⟩ := x
    by_cases h : a = k
    · simp only [merase, h, if_true, ih, List.mem_cons]
      constructor
      · exact fun ⟨h1, h2⟩ => ⟨.inr h1, h2⟩
      · rintro ⟨rfl | h1, h2⟩
        · exact absurd rfl h2
        · exact ⟨h1, h2⟩
    · simp only [merase, if_neg h, List.mem_cons, ih]
      constructor
      · rintro (rfl | ⟨h1, h2⟩)
        · exact ⟨.inl rfl, h⟩
        · exact ⟨.inr h1, h2⟩
      · rintro ⟨rfl | h1, h2⟩
        · exact .inl rfl
        · exact .inr ⟨h1, h2⟩

theorem mem_mput {m : Map α} {k : Nat} {v : α} {e : Nat × α} (h : e ∈ mput m k v) : e = (k, v) ∨ e ∈ m := by
  induction m with
  | nil => exact .inl (by simpa [mput] using h)
  | cons x rest ih =>
    simp only [mput] at h
    split at h
    · rcases List.mem_cons.mp h with h | h
      · exact .inl h
      · exact .inr h
    · split at h
      · rcases List.mem_cons.mp h with h | h
        · exact .inl h
        · exact .inr (List.mem_cons_of_mem _ h)
      · rcases List.mem_cons.mp h with h | h
        · exact .inr (h ▸ List.mem_cons_self)
        · exact (ih h).imp_right (List.mem_cons_of_mem _)

theorem sorted_cons {x : Nat × α} {m : Map α} : Map.sorted (x :: m) ↔ (∀ e ∈ m, x.1 < e.1) ∧ Map.sorted m := by
  simp only [Map.sorted, List.map_cons, List.pairwise_cons, List.mem_map, forall_exists_index, and_imp,
    forall_apply_eq_imp_iff₂]

theorem sorted_merase {m : Map α} (h : Map.sorted m) (k : Nat) : Map.sorted (merase m k) := by
  induction m with
  | nil => exact h
  | cons x rest ih =>
    obtain ⟨h1, h2⟩ := sorted_cons.mp h
    obtain ⟨a, w⟩ := x
    simp only [merase]
    split
    · exact ih h2
    · exact sorted_cons.mpr ⟨fun e he => h1 e ((mem_merase rest k e).mp he).1, ih h2⟩

theorem sorted_mput {m : Map α} (h : Map.sorted m) (k : Nat) (v : α) : Map.sorted (mput m k v) := by
  induction m with
  | nil => simp [mput, Map.sorted]
  | cons x rest ih =>
    obtain ⟨h1, h2⟩ := sorted_cons.mp h
    obtain ⟨a, w⟩ := x
    simp only [mput]
    split
    · rename_i hk
      refine sorted_cons.mpr ⟨fun e he => ?_, h⟩
      rcases List.mem_cons.mp he with rfl | he
      · exact hk
      · exact Nat.lt_trans hk (h1 e he)
    · split
      · rename_i hk
        subst hk
        exact sorted_cons.mpr ⟨h1, h2⟩
      · rename_i hlt hne
        refine sorted_cons.mpr ⟨fun e he => ?_, ih h2⟩
        rcases mem_mput he with rfl | he
        · show a < k
          omega
        · exact h1 e he

theorem sorted_mset [DecidableEq α] {m : Map α} (h : Map.sorted m) (k : Nat) (v d : α) : Map.sorted (mset m k v d) := by
  unfold mset
  split
  · exact sorted_merase h k
  · exact sorted_mput h k v

/-! ### Byte memories -/

theorem wf_iff (m : Map Byte) : Memory.wf m = true ↔ Map.sorted m ∧ ∀ e ∈ m, e.2 ≠ 0 := by
  simp [Memory.wf, Map.sorted]

/-- A byte set keeps the canonical form. -/
theorem wf_mset {m : Map Byte} (h : Memory.wf m = true) (k : Nat) (b : Byte) : Memory.wf (mset m k b 0) = true := by
  obtain ⟨h1, h2⟩ := (wf_iff m).mp h
  refine (wf_iff _).mpr ⟨sorted_mset h1 k b 0, fun e he => ?_⟩
  unfold mset at he
  split at he
  · exact h2 e ((mem_merase m k e).mp he).1
  · rename_i hb
    rcases mem_mput he with rfl | he
    · exact hb
    · exact h2 e he

/-- Bytes written keep the canonical form. -/
theorem wf_memPut (bs : List Byte) {m : Map Byte} (h : Memory.wf m = true) (off : Nat) : Memory.wf (memPut m off bs) = true := by
  induction bs generalizing m off with
  | nil => exact h
  | cons b rest ih => exact ih (wf_mset h off b) (off + 1)

/-- Bytes written to the overflow area keep the canonical form while its DRAM has kept its content. -/
theorem wf_overflowPut (x : Nib) (off : Nat) (bs : List Byte) (hl : x.lost = none) (h : Memory.wf x.overflow = true) :
    Memory.wf (x.overflowPut off bs) = true := by
  simp only [Nib.overflowPut, hl]
  exact wf_memPut bs h off

/-- A byte of memory read after bytes are written. -/
theorem mget_memPut (bs : List Byte) (m : Map Byte) (off a : Nat) :
    mget (memPut m off bs) a 0 = if off ≤ a ∧ a < off + bs.length then bs.getD (a - off) 0 else mget m a 0 := by
  induction bs generalizing m off with
  | nil =>
    have : ¬ (off ≤ a ∧ a < off + ([] : List Byte).length) := by simp only [List.length_nil]; omega
    rw [if_neg this]; rfl
  | cons b rest ih =>
    simp only [memPut, ih, mget_mset, List.length_cons]
    by_cases h : a = off
    · subst h
      have h1 : ¬ (a + 1 ≤ a ∧ a < a + 1 + rest.length) := by omega
      have h2 : a ≤ a ∧ a < a + (rest.length + 1) := by omega
      rw [if_neg h1, if_pos rfl, if_pos h2]
      simp
    · by_cases h1 : off + 1 ≤ a ∧ a < off + 1 + rest.length
      · have h2 : off ≤ a ∧ a < off + (rest.length + 1) := by omega
        rw [if_pos h1, if_pos h2]
        have h3 : a - off = (a - (off + 1)) + 1 := by omega
        rw [h3, List.getD_cons_succ]
      · have h2 : ¬ (off ≤ a ∧ a < off + (rest.length + 1)) := by omega
        rw [if_neg h1, if_neg h2, if_neg h]

end Sys2Proof.Machine
end

