-- ==== Sys2Proof/Laws/State.lean ====
section
/-! SUPPORT. What each update of the state leaves unchanged, field by field, and what it sets. -/

namespace Sys2Proof.Machine
open Sys2Proof

/-! ### State.emit -/

@[simp] theorem State.emit_board (s : State) (o : Output) : (s.emit o).board = s.board := rfl
@[simp] theorem State.emit_nv (s : State) (o : Output) : (s.emit o).nv = s.nv := rfl
@[simp] theorem State.emit_trust (s : State) (o : Output) : (s.emit o).trust = s.trust := rfl
@[simp] theorem State.emit_mgmt (s : State) (o : Output) : (s.emit o).mgmt = s.mgmt := rfl
@[simp] theorem State.emit_cstl (s : State) (o : Output) : (s.emit o).cstl = s.cstl := rfl
@[simp] theorem State.emit_k (s : State) (o : Output) : (s.emit o).k = s.k := rfl
@[simp] theorem State.emit_q (s : State) (o : Output) : (s.emit o).q = s.q := rfl
@[simp] theorem State.emit_ports (s : State) (o : Output) : (s.emit o).ports = s.ports := rfl
@[simp] theorem State.emit_fns (s : State) (o : Output) : (s.emit o).fns = s.fns := rfl
@[simp] theorem State.emit_slices (s : State) (o : Output) : (s.emit o).slices = s.slices := rfl
@[simp] theorem State.emit_wqs (s : State) (o : Output) : (s.emit o).wqs = s.wqs := rfl
@[simp] theorem State.emit_cqs (s : State) (o : Output) : (s.emit o).cqs = s.cqs := rfl
@[simp] theorem State.emit_chans (s : State) (o : Output) : (s.emit o).chans = s.chans := rfl
@[simp] theorem State.emit_arbs (s : State) (o : Output) : (s.emit o).arbs = s.arbs := rfl
@[simp] theorem State.emit_eth (s : State) (o : Output) : (s.emit o).eth = s.eth := rfl
@[simp] theorem State.emit_nibs (s : State) (o : Output) : (s.emit o).nibs = s.nibs := rfl
@[simp] theorem State.emit_storage (s : State) (o : Output) : (s.emit o).storage = s.storage := rfl
@[simp] theorem State.emit_mem (s : State) (o : Output) : (s.emit o).mem = s.mem := rfl
@[simp] theorem State.emit_stat (s : State) (o : Output) : (s.emit o).stat = s.stat := rfl
@[simp] theorem State.emit_sliceCnt (s : State) (o : Output) : (s.emit o).sliceCnt = s.sliceCnt := rfl
@[simp] theorem State.emit_pfCnt (s : State) (o : Output) : (s.emit o).pfCnt = s.pfCnt := rfl
@[simp] theorem State.emit_fresh (s : State) (o : Output) : (s.emit o).fresh = s.fresh := rfl
@[simp] theorem State.emit_pending (s : State) (o : Output) : (s.emit o).pending = s.pending := rfl

/-! ### State.fresher -/

@[simp] theorem State.fresher_board (s : State) : s.fresher.board = s.board := rfl
@[simp] theorem State.fresher_nv (s : State) : s.fresher.nv = s.nv := rfl
@[simp] theorem State.fresher_trust (s : State) : s.fresher.trust = s.trust := rfl
@[simp] theorem State.fresher_mgmt (s : State) : s.fresher.mgmt = s.mgmt := rfl
@[simp] theorem State.fresher_cstl (s : State) : s.fresher.cstl = s.cstl := rfl
@[simp] theorem State.fresher_k (s : State) : s.fresher.k = s.k := rfl
@[simp] theorem State.fresher_q (s : State) : s.fresher.q = s.q := rfl
@[simp] theorem State.fresher_ports (s : State) : s.fresher.ports = s.ports := rfl
@[simp] theorem State.fresher_fns (s : State) : s.fresher.fns = s.fns := rfl
@[simp] theorem State.fresher_slices (s : State) : s.fresher.slices = s.slices := rfl
@[simp] theorem State.fresher_wqs (s : State) : s.fresher.wqs = s.wqs := rfl
@[simp] theorem State.fresher_cqs (s : State) : s.fresher.cqs = s.cqs := rfl
@[simp] theorem State.fresher_chans (s : State) : s.fresher.chans = s.chans := rfl
@[simp] theorem State.fresher_arbs (s : State) : s.fresher.arbs = s.arbs := rfl
@[simp] theorem State.fresher_eth (s : State) : s.fresher.eth = s.eth := rfl
@[simp] theorem State.fresher_nibs (s : State) : s.fresher.nibs = s.nibs := rfl
@[simp] theorem State.fresher_storage (s : State) : s.fresher.storage = s.storage := rfl
@[simp] theorem State.fresher_mem (s : State) : s.fresher.mem = s.mem := rfl
@[simp] theorem State.fresher_stat (s : State) : s.fresher.stat = s.stat := rfl
@[simp] theorem State.fresher_sliceCnt (s : State) : s.fresher.sliceCnt = s.sliceCnt := rfl
@[simp] theorem State.fresher_pfCnt (s : State) : s.fresher.pfCnt = s.pfCnt := rfl
@[simp] theorem State.fresher_out (s : State) : s.fresher.out = s.out := rfl
@[simp] theorem State.fresher_pending (s : State) : s.fresher.pending = s.pending := rfl

/-! ### State.setHalf -/

@[simp] theorem State.setHalf_board (s : State) (h : Half) (x : HalfSt) : (s.setHalf h x).board = s.board := by
  cases h <;> rfl
@[simp] theorem State.setHalf_nv (s : State) (h : Half) (x : HalfSt) : (s.setHalf h x).nv = s.nv := by
  cases h <;> rfl
@[simp] theorem State.setHalf_trust (s : State) (h : Half) (x : HalfSt) : (s.setHalf h x).trust = s.trust := by
  cases h <;> rfl
@[simp] theorem State.setHalf_mgmt (s : State) (h : Half) (x : HalfSt) : (s.setHalf h x).mgmt = s.mgmt := by
  cases h <;> rfl
@[simp] theorem State.setHalf_cstl (s : State) (h : Half) (x : HalfSt) : (s.setHalf h x).cstl = s.cstl := by
  cases h <;> rfl
@[simp] theorem State.setHalf_ports (s : State) (h : Half) (x : HalfSt) : (s.setHalf h x).ports = s.ports := by
  cases h <;> rfl
@[simp] theorem State.setHalf_fns (s : State) (h : Half) (x : HalfSt) : (s.setHalf h x).fns = s.fns := by
  cases h <;> rfl
@[simp] theorem State.setHalf_slices (s : State) (h : Half) (x : HalfSt) : (s.setHalf h x).slices = s.slices := by
  cases h <;> rfl
@[simp] theorem State.setHalf_wqs (s : State) (h : Half) (x : HalfSt) : (s.setHalf h x).wqs = s.wqs := by
  cases h <;> rfl
@[simp] theorem State.setHalf_cqs (s : State) (h : Half) (x : HalfSt) : (s.setHalf h x).cqs = s.cqs := by
  cases h <;> rfl
@[simp] theorem State.setHalf_chans (s : State) (h : Half) (x : HalfSt) : (s.setHalf h x).chans = s.chans := by
  cases h <;> rfl
@[simp] theorem State.setHalf_arbs (s : State) (h : Half) (x : HalfSt) : (s.setHalf h x).arbs = s.arbs := by
  cases h <;> rfl
@[simp] theorem State.setHalf_eth (s : State) (h : Half) (x : HalfSt) : (s.setHalf h x).eth = s.eth := by
  cases h <;> rfl
@[simp] theorem State.setHalf_nibs (s : State) (h : Half) (x : HalfSt) : (s.setHalf h x).nibs = s.nibs := by
  cases h <;> rfl
@[simp] theorem State.setHalf_storage (s : State) (h : Half) (x : HalfSt) : (s.setHalf h x).storage = s.storage := by
  cases h <;> rfl
@[simp] theorem State.setHalf_mem (s : State) (h : Half) (x : HalfSt) : (s.setHalf h x).mem = s.mem := by
  cases h <;> rfl
@[simp] theorem State.setHalf_stat (s : State) (h : Half) (x : HalfSt) : (s.setHalf h x).stat = s.stat := by
  cases h <;> rfl
@[simp] theorem State.setHalf_sliceCnt (s : State) (h : Half) (x : HalfSt) : (s.setHalf h x).sliceCnt = s.sliceCnt := by
  cases h <;> rfl
@[simp] theorem State.setHalf_pfCnt (s : State) (h : Half) (x : HalfSt) : (s.setHalf h x).pfCnt = s.pfCnt := by
  cases h <;> rfl
@[simp] theorem State.setHalf_out (s : State) (h : Half) (x : HalfSt) : (s.setHalf h x).out = s.out := by
  cases h <;> rfl
@[simp] theorem State.setHalf_fresh (s : State) (h : Half) (x : HalfSt) : (s.setHalf h x).fresh = s.fresh := by
  cases h <;> rfl
@[simp] theorem State.setHalf_pending (s : State) (h : Half) (x : HalfSt) : (s.setHalf h x).pending = s.pending := by
  cases h <;> rfl

/-! ### State.onHalf -/

@[simp] theorem State.onHalf_board (s : State) (h : Half) (f : HalfSt → HalfSt) : (s.onHalf h f).board = s.board := by
  cases h <;> rfl
@[simp] theorem State.onHalf_nv (s : State) (h : Half) (f : HalfSt → HalfSt) : (s.onHalf h f).nv = s.nv := by
  cases h <;> rfl
@[simp] theorem State.onHalf_trust (s : State) (h : Half) (f : HalfSt → HalfSt) : (s.onHalf h f).trust = s.trust := by
  cases h <;> rfl
@[simp] theorem State.onHalf_mgmt (s : State) (h : Half) (f : HalfSt → HalfSt) : (s.onHalf h f).mgmt = s.mgmt := by
  cases h <;> rfl
@[simp] theorem State.onHalf_cstl (s : State) (h : Half) (f : HalfSt → HalfSt) : (s.onHalf h f).cstl = s.cstl := by
  cases h <;> rfl
@[simp] theorem State.onHalf_ports (s : State) (h : Half) (f : HalfSt → HalfSt) : (s.onHalf h f).ports = s.ports := by
  cases h <;> rfl
@[simp] theorem State.onHalf_fns (s : State) (h : Half) (f : HalfSt → HalfSt) : (s.onHalf h f).fns = s.fns := by
  cases h <;> rfl
@[simp] theorem State.onHalf_slices (s : State) (h : Half) (f : HalfSt → HalfSt) : (s.onHalf h f).slices = s.slices := by
  cases h <;> rfl
@[simp] theorem State.onHalf_wqs (s : State) (h : Half) (f : HalfSt → HalfSt) : (s.onHalf h f).wqs = s.wqs := by
  cases h <;> rfl
@[simp] theorem State.onHalf_cqs (s : State) (h : Half) (f : HalfSt → HalfSt) : (s.onHalf h f).cqs = s.cqs := by
  cases h <;> rfl
@[simp] theorem State.onHalf_chans (s : State) (h : Half) (f : HalfSt → HalfSt) : (s.onHalf h f).chans = s.chans := by
  cases h <;> rfl
@[simp] theorem State.onHalf_arbs (s : State) (h : Half) (f : HalfSt → HalfSt) : (s.onHalf h f).arbs = s.arbs := by
  cases h <;> rfl
@[simp] theorem State.onHalf_eth (s : State) (h : Half) (f : HalfSt → HalfSt) : (s.onHalf h f).eth = s.eth := by
  cases h <;> rfl
@[simp] theorem State.onHalf_nibs (s : State) (h : Half) (f : HalfSt → HalfSt) : (s.onHalf h f).nibs = s.nibs := by
  cases h <;> rfl
@[simp] theorem State.onHalf_storage (s : State) (h : Half) (f : HalfSt → HalfSt) : (s.onHalf h f).storage = s.storage := by
  cases h <;> rfl
@[simp] theorem State.onHalf_mem (s : State) (h : Half) (f : HalfSt → HalfSt) : (s.onHalf h f).mem = s.mem := by
  cases h <;> rfl
@[simp] theorem State.onHalf_stat (s : State) (h : Half) (f : HalfSt → HalfSt) : (s.onHalf h f).stat = s.stat := by
  cases h <;> rfl
@[simp] theorem State.onHalf_sliceCnt (s : State) (h : Half) (f : HalfSt → HalfSt) : (s.onHalf h f).sliceCnt = s.sliceCnt := by
  cases h <;> rfl
@[simp] theorem State.onHalf_pfCnt (s : State) (h : Half) (f : HalfSt → HalfSt) : (s.onHalf h f).pfCnt = s.pfCnt := by
  cases h <;> rfl
@[simp] theorem State.onHalf_out (s : State) (h : Half) (f : HalfSt → HalfSt) : (s.onHalf h f).out = s.out := by
  cases h <;> rfl
@[simp] theorem State.onHalf_fresh (s : State) (h : Half) (f : HalfSt → HalfSt) : (s.onHalf h f).fresh = s.fresh := by
  cases h <;> rfl
@[simp] theorem State.onHalf_pending (s : State) (h : Half) (f : HalfSt → HalfSt) : (s.onHalf h f).pending = s.pending := by
  cases h <;> rfl

/-! ### State.onBoth -/

@[simp] theorem State.onBoth_board (s : State) (f : HalfSt → HalfSt) : (s.onBoth f).board = s.board := rfl
@[simp] theorem State.onBoth_nv (s : State) (f : HalfSt → HalfSt) : (s.onBoth f).nv = s.nv := rfl
@[simp] theorem State.onBoth_trust (s : State) (f : HalfSt → HalfSt) : (s.onBoth f).trust = s.trust := rfl
@[simp] theorem State.onBoth_mgmt (s : State) (f : HalfSt → HalfSt) : (s.onBoth f).mgmt = s.mgmt := rfl
@[simp] theorem State.onBoth_cstl (s : State) (f : HalfSt → HalfSt) : (s.onBoth f).cstl = s.cstl := rfl
@[simp] theorem State.onBoth_ports (s : State) (f : HalfSt → HalfSt) : (s.onBoth f).ports = s.ports := rfl
@[simp] theorem State.onBoth_fns (s : State) (f : HalfSt → HalfSt) : (s.onBoth f).fns = s.fns := rfl
@[simp] theorem State.onBoth_slices (s : State) (f : HalfSt → HalfSt) : (s.onBoth f).slices = s.slices := rfl
@[simp] theorem State.onBoth_wqs (s : State) (f : HalfSt → HalfSt) : (s.onBoth f).wqs = s.wqs := rfl
@[simp] theorem State.onBoth_cqs (s : State) (f : HalfSt → HalfSt) : (s.onBoth f).cqs = s.cqs := rfl
@[simp] theorem State.onBoth_chans (s : State) (f : HalfSt → HalfSt) : (s.onBoth f).chans = s.chans := rfl
@[simp] theorem State.onBoth_arbs (s : State) (f : HalfSt → HalfSt) : (s.onBoth f).arbs = s.arbs := rfl
@[simp] theorem State.onBoth_eth (s : State) (f : HalfSt → HalfSt) : (s.onBoth f).eth = s.eth := rfl
@[simp] theorem State.onBoth_nibs (s : State) (f : HalfSt → HalfSt) : (s.onBoth f).nibs = s.nibs := rfl
@[simp] theorem State.onBoth_storage (s : State) (f : HalfSt → HalfSt) : (s.onBoth f).storage = s.storage := rfl
@[simp] theorem State.onBoth_mem (s : State) (f : HalfSt → HalfSt) : (s.onBoth f).mem = s.mem := rfl
@[simp] theorem State.onBoth_stat (s : State) (f : HalfSt → HalfSt) : (s.onBoth f).stat = s.stat := rfl
@[simp] theorem State.onBoth_sliceCnt (s : State) (f : HalfSt → HalfSt) : (s.onBoth f).sliceCnt = s.sliceCnt := rfl
@[simp] theorem State.onBoth_pfCnt (s : State) (f : HalfSt → HalfSt) : (s.onBoth f).pfCnt = s.pfCnt := rfl
@[simp] theorem State.onBoth_out (s : State) (f : HalfSt → HalfSt) : (s.onBoth f).out = s.out := rfl
@[simp] theorem State.onBoth_fresh (s : State) (f : HalfSt → HalfSt) : (s.onBoth f).fresh = s.fresh := rfl
@[simp] theorem State.onBoth_pending (s : State) (f : HalfSt → HalfSt) : (s.onBoth f).pending = s.pending := rfl

/-! ### State.elapse -/

@[simp] theorem State.elapse_board (s : State) (d : Nat) : (s.elapse d).board = s.board := rfl
@[simp] theorem State.elapse_nv (s : State) (d : Nat) : (s.elapse d).nv = s.nv := rfl
@[simp] theorem State.elapse_trust (s : State) (d : Nat) : (s.elapse d).trust = s.trust := rfl
@[simp] theorem State.elapse_mgmt (s : State) (d : Nat) : (s.elapse d).mgmt = s.mgmt := rfl
@[simp] theorem State.elapse_cstl (s : State) (d : Nat) : (s.elapse d).cstl = s.cstl := rfl
@[simp] theorem State.elapse_ports (s : State) (d : Nat) : (s.elapse d).ports = s.ports := rfl
@[simp] theorem State.elapse_fns (s : State) (d : Nat) : (s.elapse d).fns = s.fns := rfl
@[simp] theorem State.elapse_slices (s : State) (d : Nat) : (s.elapse d).slices = s.slices := rfl
@[simp] theorem State.elapse_wqs (s : State) (d : Nat) : (s.elapse d).wqs = s.wqs := rfl
@[simp] theorem State.elapse_cqs (s : State) (d : Nat) : (s.elapse d).cqs = s.cqs := rfl
@[simp] theorem State.elapse_chans (s : State) (d : Nat) : (s.elapse d).chans = s.chans := rfl
@[simp] theorem State.elapse_arbs (s : State) (d : Nat) : (s.elapse d).arbs = s.arbs := rfl
@[simp] theorem State.elapse_eth (s : State) (d : Nat) : (s.elapse d).eth = s.eth := rfl
@[simp] theorem State.elapse_nibs (s : State) (d : Nat) : (s.elapse d).nibs = s.nibs := rfl
@[simp] theorem State.elapse_storage (s : State) (d : Nat) : (s.elapse d).storage = s.storage := rfl
@[simp] theorem State.elapse_mem (s : State) (d : Nat) : (s.elapse d).mem = s.mem := rfl
@[simp] theorem State.elapse_stat (s : State) (d : Nat) : (s.elapse d).stat = s.stat := rfl
@[simp] theorem State.elapse_sliceCnt (s : State) (d : Nat) : (s.elapse d).sliceCnt = s.sliceCnt := rfl
@[simp] theorem State.elapse_pfCnt (s : State) (d : Nat) : (s.elapse d).pfCnt = s.pfCnt := rfl
@[simp] theorem State.elapse_out (s : State) (d : Nat) : (s.elapse d).out = s.out := rfl
@[simp] theorem State.elapse_fresh (s : State) (d : Nat) : (s.elapse d).fresh = s.fresh := rfl
@[simp] theorem State.elapse_pending (s : State) (d : Nat) : (s.elapse d).pending = s.pending := rfl

/-! ### State.until -/

@[simp] theorem State.until_board (s : State) (h : Half) (d : Nat) : (s.until h d).board = s.board := rfl
@[simp] theorem State.until_nv (s : State) (h : Half) (d : Nat) : (s.until h d).nv = s.nv := rfl
@[simp] theorem State.until_trust (s : State) (h : Half) (d : Nat) : (s.until h d).trust = s.trust := rfl
@[simp] theorem State.until_mgmt (s : State) (h : Half) (d : Nat) : (s.until h d).mgmt = s.mgmt := rfl
@[simp] theorem State.until_cstl (s : State) (h : Half) (d : Nat) : (s.until h d).cstl = s.cstl := rfl
@[simp] theorem State.until_ports (s : State) (h : Half) (d : Nat) : (s.until h d).ports = s.ports := rfl
@[simp] theorem State.until_fns (s : State) (h : Half) (d : Nat) : (s.until h d).fns = s.fns := rfl
@[simp] theorem State.until_slices (s : State) (h : Half) (d : Nat) : (s.until h d).slices = s.slices := rfl
@[simp] theorem State.until_wqs (s : State) (h : Half) (d : Nat) : (s.until h d).wqs = s.wqs := rfl
@[simp] theorem State.until_cqs (s : State) (h : Half) (d : Nat) : (s.until h d).cqs = s.cqs := rfl
@[simp] theorem State.until_chans (s : State) (h : Half) (d : Nat) : (s.until h d).chans = s.chans := rfl
@[simp] theorem State.until_arbs (s : State) (h : Half) (d : Nat) : (s.until h d).arbs = s.arbs := rfl
@[simp] theorem State.until_eth (s : State) (h : Half) (d : Nat) : (s.until h d).eth = s.eth := rfl
@[simp] theorem State.until_nibs (s : State) (h : Half) (d : Nat) : (s.until h d).nibs = s.nibs := rfl
@[simp] theorem State.until_storage (s : State) (h : Half) (d : Nat) : (s.until h d).storage = s.storage := rfl
@[simp] theorem State.until_mem (s : State) (h : Half) (d : Nat) : (s.until h d).mem = s.mem := rfl
@[simp] theorem State.until_stat (s : State) (h : Half) (d : Nat) : (s.until h d).stat = s.stat := rfl
@[simp] theorem State.until_sliceCnt (s : State) (h : Half) (d : Nat) : (s.until h d).sliceCnt = s.sliceCnt := rfl
@[simp] theorem State.until_pfCnt (s : State) (h : Half) (d : Nat) : (s.until h d).pfCnt = s.pfCnt := rfl
@[simp] theorem State.until_out (s : State) (h : Half) (d : Nat) : (s.until h d).out = s.out := rfl
@[simp] theorem State.until_fresh (s : State) (h : Half) (d : Nat) : (s.until h d).fresh = s.fresh := rfl
@[simp] theorem State.until_pending (s : State) (h : Half) (d : Nat) : (s.until h d).pending = s.pending := rfl

/-! ### State.count -/

@[simp] theorem State.count_board (s : State) (i sub n : Nat) : (s.count i sub n).board = s.board := rfl
@[simp] theorem State.count_nv (s : State) (i sub n : Nat) : (s.count i sub n).nv = s.nv := rfl
@[simp] theorem State.count_trust (s : State) (i sub n : Nat) : (s.count i sub n).trust = s.trust := rfl
@[simp] theorem State.count_mgmt (s : State) (i sub n : Nat) : (s.count i sub n).mgmt = s.mgmt := rfl
@[simp] theorem State.count_cstl (s : State) (i sub n : Nat) : (s.count i sub n).cstl = s.cstl := rfl
@[simp] theorem State.count_k (s : State) (i sub n : Nat) : (s.count i sub n).k = s.k := rfl
@[simp] theorem State.count_q (s : State) (i sub n : Nat) : (s.count i sub n).q = s.q := rfl
@[simp] theorem State.count_ports (s : State) (i sub n : Nat) : (s.count i sub n).ports = s.ports := rfl
@[simp] theorem State.count_fns (s : State) (i sub n : Nat) : (s.count i sub n).fns = s.fns := rfl
@[simp] theorem State.count_slices (s : State) (i sub n : Nat) : (s.count i sub n).slices = s.slices := rfl
@[simp] theorem State.count_wqs (s : State) (i sub n : Nat) : (s.count i sub n).wqs = s.wqs := rfl
@[simp] theorem State.count_cqs (s : State) (i sub n : Nat) : (s.count i sub n).cqs = s.cqs := rfl
@[simp] theorem State.count_chans (s : State) (i sub n : Nat) : (s.count i sub n).chans = s.chans := rfl
@[simp] theorem State.count_arbs (s : State) (i sub n : Nat) : (s.count i sub n).arbs = s.arbs := rfl
@[simp] theorem State.count_eth (s : State) (i sub n : Nat) : (s.count i sub n).eth = s.eth := rfl
@[simp] theorem State.count_nibs (s : State) (i sub n : Nat) : (s.count i sub n).nibs = s.nibs := rfl
@[simp] theorem State.count_storage (s : State) (i sub n : Nat) : (s.count i sub n).storage = s.storage := rfl
@[simp] theorem State.count_mem (s : State) (i sub n : Nat) : (s.count i sub n).mem = s.mem := rfl
@[simp] theorem State.count_sliceCnt (s : State) (i sub n : Nat) : (s.count i sub n).sliceCnt = s.sliceCnt := rfl
@[simp] theorem State.count_pfCnt (s : State) (i sub n : Nat) : (s.count i sub n).pfCnt = s.pfCnt := rfl
@[simp] theorem State.count_out (s : State) (i sub n : Nat) : (s.count i sub n).out = s.out := rfl
@[simp] theorem State.count_fresh (s : State) (i sub n : Nat) : (s.count i sub n).fresh = s.fresh := rfl
@[simp] theorem State.count_pending (s : State) (i sub n : Nat) : (s.count i sub n).pending = s.pending := rfl

/-! ### State.countH -/

@[simp] theorem State.countH_board (s : State) (i : Nat) (h : Half) (sub n : Nat) : (s.countH i h sub n).board = s.board := rfl
@[simp] theorem State.countH_nv (s : State) (i : Nat) (h : Half) (sub n : Nat) : (s.countH i h sub n).nv = s.nv := rfl
@[simp] theorem State.countH_trust (s : State) (i : Nat) (h : Half) (sub n : Nat) : (s.countH i h sub n).trust = s.trust := rfl
@[simp] theorem State.countH_mgmt (s : State) (i : Nat) (h : Half) (sub n : Nat) : (s.countH i h sub n).mgmt = s.mgmt := rfl
@[simp] theorem State.countH_cstl (s : State) (i : Nat) (h : Half) (sub n : Nat) : (s.countH i h sub n).cstl = s.cstl := rfl
@[simp] theorem State.countH_k (s : State) (i : Nat) (h : Half) (sub n : Nat) : (s.countH i h sub n).k = s.k := rfl
@[simp] theorem State.countH_q (s : State) (i : Nat) (h : Half) (sub n : Nat) : (s.countH i h sub n).q = s.q := rfl
@[simp] theorem State.countH_ports (s : State) (i : Nat) (h : Half) (sub n : Nat) : (s.countH i h sub n).ports = s.ports := rfl
@[simp] theorem State.countH_fns (s : State) (i : Nat) (h : Half) (sub n : Nat) : (s.countH i h sub n).fns = s.fns := rfl
@[simp] theorem State.countH_slices (s : State) (i : Nat) (h : Half) (sub n : Nat) : (s.countH i h sub n).slices = s.slices := rfl
@[simp] theorem State.countH_wqs (s : State) (i : Nat) (h : Half) (sub n : Nat) : (s.countH i h sub n).wqs = s.wqs := rfl
@[simp] theorem State.countH_cqs (s : State) (i : Nat) (h : Half) (sub n : Nat) : (s.countH i h sub n).cqs = s.cqs := rfl
@[simp] theorem State.countH_chans (s : State) (i : Nat) (h : Half) (sub n : Nat) : (s.countH i h sub n).chans = s.chans := rfl
@[simp] theorem State.countH_arbs (s : State) (i : Nat) (h : Half) (sub n : Nat) : (s.countH i h sub n).arbs = s.arbs := rfl
@[simp] theorem State.countH_eth (s : State) (i : Nat) (h : Half) (sub n : Nat) : (s.countH i h sub n).eth = s.eth := rfl
@[simp] theorem State.countH_nibs (s : State) (i : Nat) (h : Half) (sub n : Nat) : (s.countH i h sub n).nibs = s.nibs := rfl
@[simp] theorem State.countH_storage (s : State) (i : Nat) (h : Half) (sub n : Nat) : (s.countH i h sub n).storage = s.storage := rfl
@[simp] theorem State.countH_mem (s : State) (i : Nat) (h : Half) (sub n : Nat) : (s.countH i h sub n).mem = s.mem := rfl
@[simp] theorem State.countH_sliceCnt (s : State) (i : Nat) (h : Half) (sub n : Nat) : (s.countH i h sub n).sliceCnt = s.sliceCnt := rfl
@[simp] theorem State.countH_pfCnt (s : State) (i : Nat) (h : Half) (sub n : Nat) : (s.countH i h sub n).pfCnt = s.pfCnt := rfl
@[simp] theorem State.countH_out (s : State) (i : Nat) (h : Half) (sub n : Nat) : (s.countH i h sub n).out = s.out := rfl
@[simp] theorem State.countH_fresh (s : State) (i : Nat) (h : Half) (sub n : Nat) : (s.countH i h sub n).fresh = s.fresh := rfl
@[simp] theorem State.countH_pending (s : State) (i : Nat) (h : Half) (sub n : Nat) : (s.countH i h sub n).pending = s.pending := rfl

/-! ### State.countSlice -/

@[simp] theorem State.countSlice_board (s : State) (h : Half) (id c n : Nat) : (s.countSlice h id c n).board = s.board := by
  unfold State.countSlice
  dsimp only
  split <;> rfl
@[simp] theorem State.countSlice_nv (s : State) (h : Half) (id c n : Nat) : (s.countSlice h id c n).nv = s.nv := by
  unfold State.countSlice
  dsimp only
  split <;> rfl
@[simp] theorem State.countSlice_trust (s : State) (h : Half) (id c n : Nat) : (s.countSlice h id c n).trust = s.trust := by
  unfold State.countSlice
  dsimp only
  split <;> rfl
@[simp] theorem State.countSlice_mgmt (s : State) (h : Half) (id c n : Nat) : (s.countSlice h id c n).mgmt = s.mgmt := by
  unfold State.countSlice
  dsimp only
  split <;> rfl
@[simp] theorem State.countSlice_cstl (s : State) (h : Half) (id c n : Nat) : (s.countSlice h id c n).cstl = s.cstl := by
  unfold State.countSlice
  dsimp only
  split <;> rfl
@[simp] theorem State.countSlice_k (s : State) (h : Half) (id c n : Nat) : (s.countSlice h id c n).k = s.k := by
  unfold State.countSlice
  dsimp only
  split <;> rfl
@[simp] theorem State.countSlice_q (s : State) (h : Half) (id c n : Nat) : (s.countSlice h id c n).q = s.q := by
  unfold State.countSlice
  dsimp only
  split <;> rfl
@[simp] theorem State.countSlice_ports (s : State) (h : Half) (id c n : Nat) : (s.countSlice h id c n).ports = s.ports := by
  unfold State.countSlice
  dsimp only
  split <;> rfl
@[simp] theorem State.countSlice_fns (s : State) (h : Half) (id c n : Nat) : (s.countSlice h id c n).fns = s.fns := by
  unfold State.countSlice
  dsimp only
  split <;> rfl
@[simp] theorem State.countSlice_slices (s : State) (h : Half) (id c n : Nat) : (s.countSlice h id c n).slices = s.slices := by
  unfold State.countSlice
  dsimp only
  split <;> rfl
@[simp] theorem State.countSlice_wqs (s : State) (h : Half) (id c n : Nat) : (s.countSlice h id c n).wqs = s.wqs := by
  unfold State.countSlice
  dsimp only
  split <;> rfl
@[simp] theorem State.countSlice_cqs (s : State) (h : Half) (id c n : Nat) : (s.countSlice h id c n).cqs = s.cqs := by
  unfold State.countSlice
  dsimp only
  split <;> rfl
@[simp] theorem State.countSlice_chans (s : State) (h : Half) (id c n : Nat) : (s.countSlice h id c n).chans = s.chans := by
  unfold State.countSlice
  dsimp only
  split <;> rfl
@[simp] theorem State.countSlice_arbs (s : State) (h : Half) (id c n : Nat) : (s.countSlice h id c n).arbs = s.arbs := by
  unfold State.countSlice
  dsimp only
  split <;> rfl
@[simp] theorem State.countSlice_eth (s : State) (h : Half) (id c n : Nat) : (s.countSlice h id c n).eth = s.eth := by
  unfold State.countSlice
  dsimp only
  split <;> rfl
@[simp] theorem State.countSlice_nibs (s : State) (h : Half) (id c n : Nat) : (s.countSlice h id c n).nibs = s.nibs := by
  unfold State.countSlice
  dsimp only
  split <;> rfl
@[simp] theorem State.countSlice_storage (s : State) (h : Half) (id c n : Nat) : (s.countSlice h id c n).storage = s.storage := by
  unfold State.countSlice
  dsimp only
  split <;> rfl
@[simp] theorem State.countSlice_mem (s : State) (h : Half) (id c n : Nat) : (s.countSlice h id c n).mem = s.mem := by
  unfold State.countSlice
  dsimp only
  split <;> rfl
@[simp] theorem State.countSlice_stat (s : State) (h : Half) (id c n : Nat) : (s.countSlice h id c n).stat = s.stat := by
  unfold State.countSlice
  dsimp only
  split <;> rfl
@[simp] theorem State.countSlice_pfCnt (s : State) (h : Half) (id c n : Nat) : (s.countSlice h id c n).pfCnt = s.pfCnt := by
  unfold State.countSlice
  dsimp only
  split <;> rfl
@[simp] theorem State.countSlice_out (s : State) (h : Half) (id c n : Nat) : (s.countSlice h id c n).out = s.out := by
  unfold State.countSlice
  dsimp only
  split <;> rfl
@[simp] theorem State.countSlice_fresh (s : State) (h : Half) (id c n : Nat) : (s.countSlice h id c n).fresh = s.fresh := by
  unfold State.countSlice
  dsimp only
  split <;> rfl
@[simp] theorem State.countSlice_pending (s : State) (h : Half) (id c n : Nat) : (s.countSlice h id c n).pending = s.pending := by
  unfold State.countSlice
  dsimp only
  split <;> rfl

/-! ### State.setParam -/

@[simp] theorem State.setParam_board (s : State) (h : Half) (i sub sel v : Nat) : (s.setParam h i sub sel v).board = s.board := by
  cases h <;> rfl
@[simp] theorem State.setParam_nv (s : State) (h : Half) (i sub sel v : Nat) : (s.setParam h i sub sel v).nv = s.nv := by
  cases h <;> rfl
@[simp] theorem State.setParam_trust (s : State) (h : Half) (i sub sel v : Nat) : (s.setParam h i sub sel v).trust = s.trust := by
  cases h <;> rfl
@[simp] theorem State.setParam_cstl (s : State) (h : Half) (i sub sel v : Nat) : (s.setParam h i sub sel v).cstl = s.cstl := by
  cases h <;> rfl
@[simp] theorem State.setParam_k (s : State) (h : Half) (i sub sel v : Nat) : (s.setParam h i sub sel v).k = s.k := by
  cases h <;> rfl
@[simp] theorem State.setParam_q (s : State) (h : Half) (i sub sel v : Nat) : (s.setParam h i sub sel v).q = s.q := by
  cases h <;> rfl
@[simp] theorem State.setParam_ports (s : State) (h : Half) (i sub sel v : Nat) : (s.setParam h i sub sel v).ports = s.ports := by
  cases h <;> rfl
@[simp] theorem State.setParam_fns (s : State) (h : Half) (i sub sel v : Nat) : (s.setParam h i sub sel v).fns = s.fns := by
  cases h <;> rfl
@[simp] theorem State.setParam_slices (s : State) (h : Half) (i sub sel v : Nat) : (s.setParam h i sub sel v).slices = s.slices := by
  cases h <;> rfl
@[simp] theorem State.setParam_wqs (s : State) (h : Half) (i sub sel v : Nat) : (s.setParam h i sub sel v).wqs = s.wqs := by
  cases h <;> rfl
@[simp] theorem State.setParam_cqs (s : State) (h : Half) (i sub sel v : Nat) : (s.setParam h i sub sel v).cqs = s.cqs := by
  cases h <;> rfl
@[simp] theorem State.setParam_chans (s : State) (h : Half) (i sub sel v : Nat) : (s.setParam h i sub sel v).chans = s.chans := by
  cases h <;> rfl
@[simp] theorem State.setParam_arbs (s : State) (h : Half) (i sub sel v : Nat) : (s.setParam h i sub sel v).arbs = s.arbs := by
  cases h <;> rfl
@[simp] theorem State.setParam_eth (s : State) (h : Half) (i sub sel v : Nat) : (s.setParam h i sub sel v).eth = s.eth := by
  cases h <;> rfl
@[simp] theorem State.setParam_nibs (s : State) (h : Half) (i sub sel v : Nat) : (s.setParam h i sub sel v).nibs = s.nibs := by
  cases h <;> rfl
@[simp] theorem State.setParam_storage (s : State) (h : Half) (i sub sel v : Nat) : (s.setParam h i sub sel v).storage = s.storage := by
  cases h <;> rfl
@[simp] theorem State.setParam_mem (s : State) (h : Half) (i sub sel v : Nat) : (s.setParam h i sub sel v).mem = s.mem := by
  cases h <;> rfl
@[simp] theorem State.setParam_stat (s : State) (h : Half) (i sub sel v : Nat) : (s.setParam h i sub sel v).stat = s.stat := by
  cases h <;> rfl
@[simp] theorem State.setParam_sliceCnt (s : State) (h : Half) (i sub sel v : Nat) : (s.setParam h i sub sel v).sliceCnt = s.sliceCnt := by
  cases h <;> rfl
@[simp] theorem State.setParam_pfCnt (s : State) (h : Half) (i sub sel v : Nat) : (s.setParam h i sub sel v).pfCnt = s.pfCnt := by
  cases h <;> rfl
@[simp] theorem State.setParam_out (s : State) (h : Half) (i sub sel v : Nat) : (s.setParam h i sub sel v).out = s.out := by
  cases h <;> rfl
@[simp] theorem State.setParam_fresh (s : State) (h : Half) (i sub sel v : Nat) : (s.setParam h i sub sel v).fresh = s.fresh := by
  cases h <;> rfl
@[simp] theorem State.setParam_pending (s : State) (h : Half) (i sub sel v : Nat) : (s.setParam h i sub sel v).pending = s.pending := by
  cases h <;> rfl

/-! ### State.setParams -/

@[simp] theorem State.setParams_board (s : State) (h : Half) (i sub sel v : Nat) : (s.setParams h i sub sel v).board = s.board := by
  unfold State.setParams
  split
  · simp
  · rfl
@[simp] theorem State.setParams_nv (s : State) (h : Half) (i sub sel v : Nat) : (s.setParams h i sub sel v).nv = s.nv := by
  unfold State.setParams
  split
  · simp
  · rfl
@[simp] theorem State.setParams_trust (s : State) (h : Half) (i sub sel v : Nat) : (s.setParams h i sub sel v).trust = s.trust := by
  unfold State.setParams
  split
  · simp
  · rfl
@[simp] theorem State.setParams_cstl (s : State) (h : Half) (i sub sel v : Nat) : (s.setParams h i sub sel v).cstl = s.cstl := by
  unfold State.setParams
  split
  · simp
  · rfl
@[simp] theorem State.setParams_k (s : State) (h : Half) (i sub sel v : Nat) : (s.setParams h i sub sel v).k = s.k := by
  unfold State.setParams
  split
  · simp
  · rfl
@[simp] theorem State.setParams_q (s : State) (h : Half) (i sub sel v : Nat) : (s.setParams h i sub sel v).q = s.q := by
  unfold State.setParams
  split
  · simp
  · rfl
@[simp] theorem State.setParams_ports (s : State) (h : Half) (i sub sel v : Nat) : (s.setParams h i sub sel v).ports = s.ports := by
  unfold State.setParams
  split
  · simp
  · rfl
@[simp] theorem State.setParams_fns (s : State) (h : Half) (i sub sel v : Nat) : (s.setParams h i sub sel v).fns = s.fns := by
  unfold State.setParams
  split
  · simp
  · rfl
@[simp] theorem State.setParams_slices (s : State) (h : Half) (i sub sel v : Nat) : (s.setParams h i sub sel v).slices = s.slices := by
  unfold State.setParams
  split
  · simp
  · rfl
@[simp] theorem State.setParams_wqs (s : State) (h : Half) (i sub sel v : Nat) : (s.setParams h i sub sel v).wqs = s.wqs := by
  unfold State.setParams
  split
  · simp
  · rfl
@[simp] theorem State.setParams_cqs (s : State) (h : Half) (i sub sel v : Nat) : (s.setParams h i sub sel v).cqs = s.cqs := by
  unfold State.setParams
  split
  · simp
  · rfl
@[simp] theorem State.setParams_chans (s : State) (h : Half) (i sub sel v : Nat) : (s.setParams h i sub sel v).chans = s.chans := by
  unfold State.setParams
  split
  · simp
  · rfl
@[simp] theorem State.setParams_arbs (s : State) (h : Half) (i sub sel v : Nat) : (s.setParams h i sub sel v).arbs = s.arbs := by
  unfold State.setParams
  split
  · simp
  · rfl
@[simp] theorem State.setParams_eth (s : State) (h : Half) (i sub sel v : Nat) : (s.setParams h i sub sel v).eth = s.eth := by
  unfold State.setParams
  split
  · simp
  · rfl
@[simp] theorem State.setParams_nibs (s : State) (h : Half) (i sub sel v : Nat) : (s.setParams h i sub sel v).nibs = s.nibs := by
  unfold State.setParams
  split
  · simp
  · rfl
@[simp] theorem State.setParams_storage (s : State) (h : Half) (i sub sel v : Nat) : (s.setParams h i sub sel v).storage = s.storage := by
  unfold State.setParams
  split
  · simp
  · rfl
@[simp] theorem State.setParams_mem (s : State) (h : Half) (i sub sel v : Nat) : (s.setParams h i sub sel v).mem = s.mem := by
  unfold State.setParams
  split
  · simp
  · rfl
@[simp] theorem State.setParams_stat (s : State) (h : Half) (i sub sel v : Nat) : (s.setParams h i sub sel v).stat = s.stat := by
  unfold State.setParams
  split
  · simp
  · rfl
@[simp] theorem State.setParams_sliceCnt (s : State) (h : Half) (i sub sel v : Nat) : (s.setParams h i sub sel v).sliceCnt = s.sliceCnt := by
  unfold State.setParams
  split
  · simp
  · rfl
@[simp] theorem State.setParams_pfCnt (s : State) (h : Half) (i sub sel v : Nat) : (s.setParams h i sub sel v).pfCnt = s.pfCnt := by
  unfold State.setParams
  split
  · simp
  · rfl
@[simp] theorem State.setParams_out (s : State) (h : Half) (i sub sel v : Nat) : (s.setParams h i sub sel v).out = s.out := by
  unfold State.setParams
  split
  · simp
  · rfl
@[simp] theorem State.setParams_fresh (s : State) (h : Half) (i sub sel v : Nat) : (s.setParams h i sub sel v).fresh = s.fresh := by
  unfold State.setParams
  split
  · simp
  · rfl
@[simp] theorem State.setParams_pending (s : State) (h : Half) (i sub sel v : Nat) : (s.setParams h i sub sel v).pending = s.pending := by
  unfold State.setParams
  split
  · simp
  · rfl

/-! ### State.setUnit -/

@[simp] theorem State.setUnit_board (s : State) (h : Half) (i : Nat) (u : UnitS) : (s.setUnit h i u).board = s.board := by
  cases h <;> rfl
@[simp] theorem State.setUnit_nv (s : State) (h : Half) (i : Nat) (u : UnitS) : (s.setUnit h i u).nv = s.nv := by
  cases h <;> rfl
@[simp] theorem State.setUnit_trust (s : State) (h : Half) (i : Nat) (u : UnitS) : (s.setUnit h i u).trust = s.trust := by
  cases h <;> rfl
@[simp] theorem State.setUnit_mgmt (s : State) (h : Half) (i : Nat) (u : UnitS) : (s.setUnit h i u).mgmt = s.mgmt := by
  cases h <;> rfl
@[simp] theorem State.setUnit_cstl (s : State) (h : Half) (i : Nat) (u : UnitS) : (s.setUnit h i u).cstl = s.cstl := by
  cases h <;> rfl
@[simp] theorem State.setUnit_ports (s : State) (h : Half) (i : Nat) (u : UnitS) : (s.setUnit h i u).ports = s.ports := by
  cases h <;> rfl
@[simp] theorem State.setUnit_fns (s : State) (h : Half) (i : Nat) (u : UnitS) : (s.setUnit h i u).fns = s.fns := by
  cases h <;> rfl
@[simp] theorem State.setUnit_slices (s : State) (h : Half) (i : Nat) (u : UnitS) : (s.setUnit h i u).slices = s.slices := by
  cases h <;> rfl
@[simp] theorem State.setUnit_wqs (s : State) (h : Half) (i : Nat) (u : UnitS) : (s.setUnit h i u).wqs = s.wqs := by
  cases h <;> rfl
@[simp] theorem State.setUnit_cqs (s : State) (h : Half) (i : Nat) (u : UnitS) : (s.setUnit h i u).cqs = s.cqs := by
  cases h <;> rfl
@[simp] theorem State.setUnit_chans (s : State) (h : Half) (i : Nat) (u : UnitS) : (s.setUnit h i u).chans = s.chans := by
  cases h <;> rfl
@[simp] theorem State.setUnit_arbs (s : State) (h : Half) (i : Nat) (u : UnitS) : (s.setUnit h i u).arbs = s.arbs := by
  cases h <;> rfl
@[simp] theorem State.setUnit_eth (s : State) (h : Half) (i : Nat) (u : UnitS) : (s.setUnit h i u).eth = s.eth := by
  cases h <;> rfl
@[simp] theorem State.setUnit_nibs (s : State) (h : Half) (i : Nat) (u : UnitS) : (s.setUnit h i u).nibs = s.nibs := by
  cases h <;> rfl
@[simp] theorem State.setUnit_storage (s : State) (h : Half) (i : Nat) (u : UnitS) : (s.setUnit h i u).storage = s.storage := by
  cases h <;> rfl
@[simp] theorem State.setUnit_mem (s : State) (h : Half) (i : Nat) (u : UnitS) : (s.setUnit h i u).mem = s.mem := by
  cases h <;> rfl
@[simp] theorem State.setUnit_stat (s : State) (h : Half) (i : Nat) (u : UnitS) : (s.setUnit h i u).stat = s.stat := by
  cases h <;> rfl
@[simp] theorem State.setUnit_sliceCnt (s : State) (h : Half) (i : Nat) (u : UnitS) : (s.setUnit h i u).sliceCnt = s.sliceCnt := by
  cases h <;> rfl
@[simp] theorem State.setUnit_pfCnt (s : State) (h : Half) (i : Nat) (u : UnitS) : (s.setUnit h i u).pfCnt = s.pfCnt := by
  cases h <;> rfl
@[simp] theorem State.setUnit_out (s : State) (h : Half) (i : Nat) (u : UnitS) : (s.setUnit h i u).out = s.out := by
  cases h <;> rfl
@[simp] theorem State.setUnit_fresh (s : State) (h : Half) (i : Nat) (u : UnitS) : (s.setUnit h i u).fresh = s.fresh := by
  cases h <;> rfl
@[simp] theorem State.setUnit_pending (s : State) (h : Half) (i : Nat) (u : UnitS) : (s.setUnit h i u).pending = s.pending := by
  cases h <;> rfl

/-! ### State.ownWrite -/

@[simp] theorem State.ownWrite_board (s : State) (f : StoreCopy → StoreCopy) : (s.ownWrite f).board = s.board := by
  unfold State.ownWrite
  split <;> rfl
@[simp] theorem State.ownWrite_trust (s : State) (f : StoreCopy → StoreCopy) : (s.ownWrite f).trust = s.trust := by
  unfold State.ownWrite
  split <;> rfl
@[simp] theorem State.ownWrite_cstl (s : State) (f : StoreCopy → StoreCopy) : (s.ownWrite f).cstl = s.cstl := by
  unfold State.ownWrite
  split <;> rfl
@[simp] theorem State.ownWrite_k (s : State) (f : StoreCopy → StoreCopy) : (s.ownWrite f).k = s.k := by
  unfold State.ownWrite
  split <;> rfl
@[simp] theorem State.ownWrite_q (s : State) (f : StoreCopy → StoreCopy) : (s.ownWrite f).q = s.q := by
  unfold State.ownWrite
  split <;> rfl
@[simp] theorem State.ownWrite_ports (s : State) (f : StoreCopy → StoreCopy) : (s.ownWrite f).ports = s.ports := by
  unfold State.ownWrite
  split <;> rfl
@[simp] theorem State.ownWrite_fns (s : State) (f : StoreCopy → StoreCopy) : (s.ownWrite f).fns = s.fns := by
  unfold State.ownWrite
  split <;> rfl
@[simp] theorem State.ownWrite_slices (s : State) (f : StoreCopy → StoreCopy) : (s.ownWrite f).slices = s.slices := by
  unfold State.ownWrite
  split <;> rfl
@[simp] theorem State.ownWrite_wqs (s : State) (f : StoreCopy → StoreCopy) : (s.ownWrite f).wqs = s.wqs := by
  unfold State.ownWrite
  split <;> rfl
@[simp] theorem State.ownWrite_cqs (s : State) (f : StoreCopy → StoreCopy) : (s.ownWrite f).cqs = s.cqs := by
  unfold State.ownWrite
  split <;> rfl
@[simp] theorem State.ownWrite_chans (s : State) (f : StoreCopy → StoreCopy) : (s.ownWrite f).chans = s.chans := by
  unfold State.ownWrite
  split <;> rfl
@[simp] theorem State.ownWrite_arbs (s : State) (f : StoreCopy → StoreCopy) : (s.ownWrite f).arbs = s.arbs := by
  unfold State.ownWrite
  split <;> rfl
@[simp] theorem State.ownWrite_eth (s : State) (f : StoreCopy → StoreCopy) : (s.ownWrite f).eth = s.eth := by
  unfold State.ownWrite
  split <;> rfl
@[simp] theorem State.ownWrite_nibs (s : State) (f : StoreCopy → StoreCopy) : (s.ownWrite f).nibs = s.nibs := by
  unfold State.ownWrite
  split <;> rfl
@[simp] theorem State.ownWrite_storage (s : State) (f : StoreCopy → StoreCopy) : (s.ownWrite f).storage = s.storage := by
  unfold State.ownWrite
  split <;> rfl
@[simp] theorem State.ownWrite_mem (s : State) (f : StoreCopy → StoreCopy) : (s.ownWrite f).mem = s.mem := by
  unfold State.ownWrite
  split <;> rfl
@[simp] theorem State.ownWrite_stat (s : State) (f : StoreCopy → StoreCopy) : (s.ownWrite f).stat = s.stat := by
  unfold State.ownWrite
  split <;> rfl
@[simp] theorem State.ownWrite_sliceCnt (s : State) (f : StoreCopy → StoreCopy) : (s.ownWrite f).sliceCnt = s.sliceCnt := by
  unfold State.ownWrite
  split <;> rfl
@[simp] theorem State.ownWrite_pfCnt (s : State) (f : StoreCopy → StoreCopy) : (s.ownWrite f).pfCnt = s.pfCnt := by
  unfold State.ownWrite
  split <;> rfl
@[simp] theorem State.ownWrite_out (s : State) (f : StoreCopy → StoreCopy) : (s.ownWrite f).out = s.out := by
  unfold State.ownWrite
  split <;> rfl
@[simp] theorem State.ownWrite_fresh (s : State) (f : StoreCopy → StoreCopy) : (s.ownWrite f).fresh = s.fresh := by
  unfold State.ownWrite
  split <;> rfl
@[simp] theorem State.ownWrite_pending (s : State) (f : StoreCopy → StoreCopy) : (s.ownWrite f).pending = s.pending := by
  unfold State.ownWrite
  split <;> rfl

/-! ### State.logOn -/

@[simp] theorem State.logOn_board (s : State) (h : Half) (code cls unit sl action detail : Nat) : (s.logOn h code cls unit sl action detail).board = s.board := by
  unfold State.logOn
  dsimp only
  split <;> simp
@[simp] theorem State.logOn_trust (s : State) (h : Half) (code cls unit sl action detail : Nat) : (s.logOn h code cls unit sl action detail).trust = s.trust := by
  unfold State.logOn
  dsimp only
  split <;> simp
@[simp] theorem State.logOn_cstl (s : State) (h : Half) (code cls unit sl action detail : Nat) : (s.logOn h code cls unit sl action detail).cstl = s.cstl := by
  unfold State.logOn
  dsimp only
  split <;> simp
@[simp] theorem State.logOn_ports (s : State) (h : Half) (code cls unit sl action detail : Nat) : (s.logOn h code cls unit sl action detail).ports = s.ports := by
  unfold State.logOn
  dsimp only
  split <;> simp
@[simp] theorem State.logOn_fns (s : State) (h : Half) (code cls unit sl action detail : Nat) : (s.logOn h code cls unit sl action detail).fns = s.fns := by
  unfold State.logOn
  dsimp only
  split <;> simp
@[simp] theorem State.logOn_slices (s : State) (h : Half) (code cls unit sl action detail : Nat) : (s.logOn h code cls unit sl action detail).slices = s.slices := by
  unfold State.logOn
  dsimp only
  split <;> simp
@[simp] theorem State.logOn_wqs (s : State) (h : Half) (code cls unit sl action detail : Nat) : (s.logOn h code cls unit sl action detail).wqs = s.wqs := by
  unfold State.logOn
  dsimp only
  split <;> simp
@[simp] theorem State.logOn_cqs (s : State) (h : Half) (code cls unit sl action detail : Nat) : (s.logOn h code cls unit sl action detail).cqs = s.cqs := by
  unfold State.logOn
  dsimp only
  split <;> simp
@[simp] theorem State.logOn_chans (s : State) (h : Half) (code cls unit sl action detail : Nat) : (s.logOn h code cls unit sl action detail).chans = s.chans := by
  unfold State.logOn
  dsimp only
  split <;> simp
@[simp] theorem State.logOn_arbs (s : State) (h : Half) (code cls unit sl action detail : Nat) : (s.logOn h code cls unit sl action detail).arbs = s.arbs := by
  unfold State.logOn
  dsimp only
  split <;> simp
@[simp] theorem State.logOn_eth (s : State) (h : Half) (code cls unit sl action detail : Nat) : (s.logOn h code cls unit sl action detail).eth = s.eth := by
  unfold State.logOn
  dsimp only
  split <;> simp
@[simp] theorem State.logOn_nibs (s : State) (h : Half) (code cls unit sl action detail : Nat) : (s.logOn h code cls unit sl action detail).nibs = s.nibs := by
  unfold State.logOn
  dsimp only
  split <;> simp
@[simp] theorem State.logOn_storage (s : State) (h : Half) (code cls unit sl action detail : Nat) : (s.logOn h code cls unit sl action detail).storage = s.storage := by
  unfold State.logOn
  dsimp only
  split <;> simp
@[simp] theorem State.logOn_mem (s : State) (h : Half) (code cls unit sl action detail : Nat) : (s.logOn h code cls unit sl action detail).mem = s.mem := by
  unfold State.logOn
  dsimp only
  split <;> simp
@[simp] theorem State.logOn_stat (s : State) (h : Half) (code cls unit sl action detail : Nat) : (s.logOn h code cls unit sl action detail).stat = s.stat := by
  unfold State.logOn
  dsimp only
  split <;> simp
@[simp] theorem State.logOn_sliceCnt (s : State) (h : Half) (code cls unit sl action detail : Nat) : (s.logOn h code cls unit sl action detail).sliceCnt = s.sliceCnt := by
  unfold State.logOn
  dsimp only
  split <;> simp
@[simp] theorem State.logOn_pfCnt (s : State) (h : Half) (code cls unit sl action detail : Nat) : (s.logOn h code cls unit sl action detail).pfCnt = s.pfCnt := by
  unfold State.logOn
  dsimp only
  split <;> simp
@[simp] theorem State.logOn_fresh (s : State) (h : Half) (code cls unit sl action detail : Nat) : (s.logOn h code cls unit sl action detail).fresh = s.fresh := by
  unfold State.logOn
  dsimp only
  split <;> simp
@[simp] theorem State.logOn_pending (s : State) (h : Half) (code cls unit sl action detail : Nat) : (s.logOn h code cls unit sl action detail).pending = s.pending := by
  unfold State.logOn
  dsimp only
  split <;> simp

/-! ### State.log -/

@[simp] theorem State.log_board (s : State) (code cls unit action detail : Nat) : (s.log code cls unit action detail).board = s.board := by
  simp [State.log]
@[simp] theorem State.log_trust (s : State) (code cls unit action detail : Nat) : (s.log code cls unit action detail).trust = s.trust := by
  simp [State.log]
@[simp] theorem State.log_cstl (s : State) (code cls unit action detail : Nat) : (s.log code cls unit action detail).cstl = s.cstl := by
  simp [State.log]
@[simp] theorem State.log_ports (s : State) (code cls unit action detail : Nat) : (s.log code cls unit action detail).ports = s.ports := by
  simp [State.log]
@[simp] theorem State.log_fns (s : State) (code cls unit action detail : Nat) : (s.log code cls unit action detail).fns = s.fns := by
  simp [State.log]
@[simp] theorem State.log_slices (s : State) (code cls unit action detail : Nat) : (s.log code cls unit action detail).slices = s.slices := by
  simp [State.log]
@[simp] theorem State.log_wqs (s : State) (code cls unit action detail : Nat) : (s.log code cls unit action detail).wqs = s.wqs := by
  simp [State.log]
@[simp] theorem State.log_cqs (s : State) (code cls unit action detail : Nat) : (s.log code cls unit action detail).cqs = s.cqs := by
  simp [State.log]
@[simp] theorem State.log_chans (s : State) (code cls unit action detail : Nat) : (s.log code cls unit action detail).chans = s.chans := by
  simp [State.log]
@[simp] theorem State.log_arbs (s : State) (code cls unit action detail : Nat) : (s.log code cls unit action detail).arbs = s.arbs := by
  simp [State.log]
@[simp] theorem State.log_eth (s : State) (code cls unit action detail : Nat) : (s.log code cls unit action detail).eth = s.eth := by
  simp [State.log]
@[simp] theorem State.log_nibs (s : State) (code cls unit action detail : Nat) : (s.log code cls unit action detail).nibs = s.nibs := by
  simp [State.log]
@[simp] theorem State.log_storage (s : State) (code cls unit action detail : Nat) : (s.log code cls unit action detail).storage = s.storage := by
  simp [State.log]
@[simp] theorem State.log_mem (s : State) (code cls unit action detail : Nat) : (s.log code cls unit action detail).mem = s.mem := by
  simp [State.log]
@[simp] theorem State.log_stat (s : State) (code cls unit action detail : Nat) : (s.log code cls unit action detail).stat = s.stat := by
  simp [State.log]
@[simp] theorem State.log_sliceCnt (s : State) (code cls unit action detail : Nat) : (s.log code cls unit action detail).sliceCnt = s.sliceCnt := by
  simp [State.log]
@[simp] theorem State.log_pfCnt (s : State) (code cls unit action detail : Nat) : (s.log code cls unit action detail).pfCnt = s.pfCnt := by
  simp [State.log]
@[simp] theorem State.log_fresh (s : State) (code cls unit action detail : Nat) : (s.log code cls unit action detail).fresh = s.fresh := by
  simp [State.log]
@[simp] theorem State.log_pending (s : State) (code cls unit action detail : Nat) : (s.log code cls unit action detail).pending = s.pending := by
  simp [State.log]

/-! ### State.setPort -/

@[simp] theorem State.setPort_board (s : State) (p : Nat) (x : Port) : (s.setPort p x).board = s.board := rfl
@[simp] theorem State.setPort_nv (s : State) (p : Nat) (x : Port) : (s.setPort p x).nv = s.nv := rfl
@[simp] theorem State.setPort_trust (s : State) (p : Nat) (x : Port) : (s.setPort p x).trust = s.trust := rfl
@[simp] theorem State.setPort_mgmt (s : State) (p : Nat) (x : Port) : (s.setPort p x).mgmt = s.mgmt := rfl
@[simp] theorem State.setPort_cstl (s : State) (p : Nat) (x : Port) : (s.setPort p x).cstl = s.cstl := rfl
@[simp] theorem State.setPort_k (s : State) (p : Nat) (x : Port) : (s.setPort p x).k = s.k := rfl
@[simp] theorem State.setPort_q (s : State) (p : Nat) (x : Port) : (s.setPort p x).q = s.q := rfl
@[simp] theorem State.setPort_fns (s : State) (p : Nat) (x : Port) : (s.setPort p x).fns = s.fns := rfl
@[simp] theorem State.setPort_slices (s : State) (p : Nat) (x : Port) : (s.setPort p x).slices = s.slices := rfl
@[simp] theorem State.setPort_wqs (s : State) (p : Nat) (x : Port) : (s.setPort p x).wqs = s.wqs := rfl
@[simp] theorem State.setPort_cqs (s : State) (p : Nat) (x : Port) : (s.setPort p x).cqs = s.cqs := rfl
@[simp] theorem State.setPort_chans (s : State) (p : Nat) (x : Port) : (s.setPort p x).chans = s.chans := rfl
@[simp] theorem State.setPort_arbs (s : State) (p : Nat) (x : Port) : (s.setPort p x).arbs = s.arbs := rfl
@[simp] theorem State.setPort_eth (s : State) (p : Nat) (x : Port) : (s.setPort p x).eth = s.eth := rfl
@[simp] theorem State.setPort_nibs (s : State) (p : Nat) (x : Port) : (s.setPort p x).nibs = s.nibs := rfl
@[simp] theorem State.setPort_storage (s : State) (p : Nat) (x : Port) : (s.setPort p x).storage = s.storage := rfl
@[simp] theorem State.setPort_mem (s : State) (p : Nat) (x : Port) : (s.setPort p x).mem = s.mem := rfl
@[simp] theorem State.setPort_stat (s : State) (p : Nat) (x : Port) : (s.setPort p x).stat = s.stat := rfl
@[simp] theorem State.setPort_sliceCnt (s : State) (p : Nat) (x : Port) : (s.setPort p x).sliceCnt = s.sliceCnt := rfl
@[simp] theorem State.setPort_pfCnt (s : State) (p : Nat) (x : Port) : (s.setPort p x).pfCnt = s.pfCnt := rfl
@[simp] theorem State.setPort_out (s : State) (p : Nat) (x : Port) : (s.setPort p x).out = s.out := rfl
@[simp] theorem State.setPort_fresh (s : State) (p : Nat) (x : Port) : (s.setPort p x).fresh = s.fresh := rfl
@[simp] theorem State.setPort_pending (s : State) (p : Nat) (x : Port) : (s.setPort p x).pending = s.pending := rfl

/-! ### State.setFn -/

@[simp] theorem State.setFn_board (s : State) (p : Nat) (x : Fn) : (s.setFn p x).board = s.board := rfl
@[simp] theorem State.setFn_nv (s : State) (p : Nat) (x : Fn) : (s.setFn p x).nv = s.nv := rfl
@[simp] theorem State.setFn_trust (s : State) (p : Nat) (x : Fn) : (s.setFn p x).trust = s.trust := rfl
@[simp] theorem State.setFn_mgmt (s : State) (p : Nat) (x : Fn) : (s.setFn p x).mgmt = s.mgmt := rfl
@[simp] theorem State.setFn_cstl (s : State) (p : Nat) (x : Fn) : (s.setFn p x).cstl = s.cstl := rfl
@[simp] theorem State.setFn_k (s : State) (p : Nat) (x : Fn) : (s.setFn p x).k = s.k := rfl
@[simp] theorem State.setFn_q (s : State) (p : Nat) (x : Fn) : (s.setFn p x).q = s.q := rfl
@[simp] theorem State.setFn_ports (s : State) (p : Nat) (x : Fn) : (s.setFn p x).ports = s.ports := rfl
@[simp] theorem State.setFn_slices (s : State) (p : Nat) (x : Fn) : (s.setFn p x).slices = s.slices := rfl
@[simp] theorem State.setFn_wqs (s : State) (p : Nat) (x : Fn) : (s.setFn p x).wqs = s.wqs := rfl
@[simp] theorem State.setFn_cqs (s : State) (p : Nat) (x : Fn) : (s.setFn p x).cqs = s.cqs := rfl
@[simp] theorem State.setFn_chans (s : State) (p : Nat) (x : Fn) : (s.setFn p x).chans = s.chans := rfl
@[simp] theorem State.setFn_arbs (s : State) (p : Nat) (x : Fn) : (s.setFn p x).arbs = s.arbs := rfl
@[simp] theorem State.setFn_eth (s : State) (p : Nat) (x : Fn) : (s.setFn p x).eth = s.eth := rfl
@[simp] theorem State.setFn_nibs (s : State) (p : Nat) (x : Fn) : (s.setFn p x).nibs = s.nibs := rfl
@[simp] theorem State.setFn_storage (s : State) (p : Nat) (x : Fn) : (s.setFn p x).storage = s.storage := rfl
@[simp] theorem State.setFn_mem (s : State) (p : Nat) (x : Fn) : (s.setFn p x).mem = s.mem := rfl
@[simp] theorem State.setFn_stat (s : State) (p : Nat) (x : Fn) : (s.setFn p x).stat = s.stat := rfl
@[simp] theorem State.setFn_sliceCnt (s : State) (p : Nat) (x : Fn) : (s.setFn p x).sliceCnt = s.sliceCnt := rfl
@[simp] theorem State.setFn_pfCnt (s : State) (p : Nat) (x : Fn) : (s.setFn p x).pfCnt = s.pfCnt := rfl
@[simp] theorem State.setFn_out (s : State) (p : Nat) (x : Fn) : (s.setFn p x).out = s.out := rfl
@[simp] theorem State.setFn_fresh (s : State) (p : Nat) (x : Fn) : (s.setFn p x).fresh = s.fresh := rfl
@[simp] theorem State.setFn_pending (s : State) (p : Nat) (x : Fn) : (s.setFn p x).pending = s.pending := rfl

/-! ### State.setSlice -/

@[simp] theorem State.setSlice_board (s : State) (p : Nat) (x : Slice) : (s.setSlice p x).board = s.board := rfl
@[simp] theorem State.setSlice_nv (s : State) (p : Nat) (x : Slice) : (s.setSlice p x).nv = s.nv := rfl
@[simp] theorem State.setSlice_trust (s : State) (p : Nat) (x : Slice) : (s.setSlice p x).trust = s.trust := rfl
@[simp] theorem State.setSlice_mgmt (s : State) (p : Nat) (x : Slice) : (s.setSlice p x).mgmt = s.mgmt := rfl
@[simp] theorem State.setSlice_cstl (s : State) (p : Nat) (x : Slice) : (s.setSlice p x).cstl = s.cstl := rfl
@[simp] theorem State.setSlice_k (s : State) (p : Nat) (x : Slice) : (s.setSlice p x).k = s.k := rfl
@[simp] theorem State.setSlice_q (s : State) (p : Nat) (x : Slice) : (s.setSlice p x).q = s.q := rfl
@[simp] theorem State.setSlice_ports (s : State) (p : Nat) (x : Slice) : (s.setSlice p x).ports = s.ports := rfl
@[simp] theorem State.setSlice_fns (s : State) (p : Nat) (x : Slice) : (s.setSlice p x).fns = s.fns := rfl
@[simp] theorem State.setSlice_wqs (s : State) (p : Nat) (x : Slice) : (s.setSlice p x).wqs = s.wqs := rfl
@[simp] theorem State.setSlice_cqs (s : State) (p : Nat) (x : Slice) : (s.setSlice p x).cqs = s.cqs := rfl
@[simp] theorem State.setSlice_chans (s : State) (p : Nat) (x : Slice) : (s.setSlice p x).chans = s.chans := rfl
@[simp] theorem State.setSlice_arbs (s : State) (p : Nat) (x : Slice) : (s.setSlice p x).arbs = s.arbs := rfl
@[simp] theorem State.setSlice_eth (s : State) (p : Nat) (x : Slice) : (s.setSlice p x).eth = s.eth := rfl
@[simp] theorem State.setSlice_nibs (s : State) (p : Nat) (x : Slice) : (s.setSlice p x).nibs = s.nibs := rfl
@[simp] theorem State.setSlice_storage (s : State) (p : Nat) (x : Slice) : (s.setSlice p x).storage = s.storage := rfl
@[simp] theorem State.setSlice_mem (s : State) (p : Nat) (x : Slice) : (s.setSlice p x).mem = s.mem := rfl
@[simp] theorem State.setSlice_stat (s : State) (p : Nat) (x : Slice) : (s.setSlice p x).stat = s.stat := rfl
@[simp] theorem State.setSlice_sliceCnt (s : State) (p : Nat) (x : Slice) : (s.setSlice p x).sliceCnt = s.sliceCnt := rfl
@[simp] theorem State.setSlice_pfCnt (s : State) (p : Nat) (x : Slice) : (s.setSlice p x).pfCnt = s.pfCnt := rfl
@[simp] theorem State.setSlice_out (s : State) (p : Nat) (x : Slice) : (s.setSlice p x).out = s.out := rfl
@[simp] theorem State.setSlice_fresh (s : State) (p : Nat) (x : Slice) : (s.setSlice p x).fresh = s.fresh := rfl
@[simp] theorem State.setSlice_pending (s : State) (p : Nat) (x : Slice) : (s.setSlice p x).pending = s.pending := rfl

/-! ### State.setEth -/

@[simp] theorem State.setEth_board (s : State) (p : Nat) (x : Eth) : (s.setEth p x).board = s.board := rfl
@[simp] theorem State.setEth_nv (s : State) (p : Nat) (x : Eth) : (s.setEth p x).nv = s.nv := rfl
@[simp] theorem State.setEth_trust (s : State) (p : Nat) (x : Eth) : (s.setEth p x).trust = s.trust := rfl
@[simp] theorem State.setEth_mgmt (s : State) (p : Nat) (x : Eth) : (s.setEth p x).mgmt = s.mgmt := rfl
@[simp] theorem State.setEth_cstl (s : State) (p : Nat) (x : Eth) : (s.setEth p x).cstl = s.cstl := rfl
@[simp] theorem State.setEth_k (s : State) (p : Nat) (x : Eth) : (s.setEth p x).k = s.k := rfl
@[simp] theorem State.setEth_q (s : State) (p : Nat) (x : Eth) : (s.setEth p x).q = s.q := rfl
@[simp] theorem State.setEth_ports (s : State) (p : Nat) (x : Eth) : (s.setEth p x).ports = s.ports := rfl
@[simp] theorem State.setEth_fns (s : State) (p : Nat) (x : Eth) : (s.setEth p x).fns = s.fns := rfl
@[simp] theorem State.setEth_slices (s : State) (p : Nat) (x : Eth) : (s.setEth p x).slices = s.slices := rfl
@[simp] theorem State.setEth_wqs (s : State) (p : Nat) (x : Eth) : (s.setEth p x).wqs = s.wqs := rfl
@[simp] theorem State.setEth_cqs (s : State) (p : Nat) (x : Eth) : (s.setEth p x).cqs = s.cqs := rfl
@[simp] theorem State.setEth_chans (s : State) (p : Nat) (x : Eth) : (s.setEth p x).chans = s.chans := rfl
@[simp] theorem State.setEth_arbs (s : State) (p : Nat) (x : Eth) : (s.setEth p x).arbs = s.arbs := rfl
@[simp] theorem State.setEth_nibs (s : State) (p : Nat) (x : Eth) : (s.setEth p x).nibs = s.nibs := rfl
@[simp] theorem State.setEth_storage (s : State) (p : Nat) (x : Eth) : (s.setEth p x).storage = s.storage := rfl
@[simp] theorem State.setEth_mem (s : State) (p : Nat) (x : Eth) : (s.setEth p x).mem = s.mem := rfl
@[simp] theorem State.setEth_stat (s : State) (p : Nat) (x : Eth) : (s.setEth p x).stat = s.stat := rfl
@[simp] theorem State.setEth_sliceCnt (s : State) (p : Nat) (x : Eth) : (s.setEth p x).sliceCnt = s.sliceCnt := rfl
@[simp] theorem State.setEth_pfCnt (s : State) (p : Nat) (x : Eth) : (s.setEth p x).pfCnt = s.pfCnt := rfl
@[simp] theorem State.setEth_out (s : State) (p : Nat) (x : Eth) : (s.setEth p x).out = s.out := rfl
@[simp] theorem State.setEth_fresh (s : State) (p : Nat) (x : Eth) : (s.setEth p x).fresh = s.fresh := rfl
@[simp] theorem State.setEth_pending (s : State) (p : Nat) (x : Eth) : (s.setEth p x).pending = s.pending := rfl

/-! ### State.setNib -/

@[simp] theorem State.setNib_board (s : State) (p : Nat) (x : Nib) : (s.setNib p x).board = s.board := rfl
@[simp] theorem State.setNib_nv (s : State) (p : Nat) (x : Nib) : (s.setNib p x).nv = s.nv := rfl
@[simp] theorem State.setNib_trust (s : State) (p : Nat) (x : Nib) : (s.setNib p x).trust = s.trust := rfl
@[simp] theorem State.setNib_mgmt (s : State) (p : Nat) (x : Nib) : (s.setNib p x).mgmt = s.mgmt := rfl
@[simp] theorem State.setNib_cstl (s : State) (p : Nat) (x : Nib) : (s.setNib p x).cstl = s.cstl := rfl
@[simp] theorem State.setNib_k (s : State) (p : Nat) (x : Nib) : (s.setNib p x).k = s.k := rfl
@[simp] theorem State.setNib_q (s : State) (p : Nat) (x : Nib) : (s.setNib p x).q = s.q := rfl
@[simp] theorem State.setNib_ports (s : State) (p : Nat) (x : Nib) : (s.setNib p x).ports = s.ports := rfl
@[simp] theorem State.setNib_fns (s : State) (p : Nat) (x : Nib) : (s.setNib p x).fns = s.fns := rfl
@[simp] theorem State.setNib_slices (s : State) (p : Nat) (x : Nib) : (s.setNib p x).slices = s.slices := rfl
@[simp] theorem State.setNib_wqs (s : State) (p : Nat) (x : Nib) : (s.setNib p x).wqs = s.wqs := rfl
@[simp] theorem State.setNib_cqs (s : State) (p : Nat) (x : Nib) : (s.setNib p x).cqs = s.cqs := rfl
@[simp] theorem State.setNib_chans (s : State) (p : Nat) (x : Nib) : (s.setNib p x).chans = s.chans := rfl
@[simp] theorem State.setNib_arbs (s : State) (p : Nat) (x : Nib) : (s.setNib p x).arbs = s.arbs := rfl
@[simp] theorem State.setNib_eth (s : State) (p : Nat) (x : Nib) : (s.setNib p x).eth = s.eth := rfl
@[simp] theorem State.setNib_storage (s : State) (p : Nat) (x : Nib) : (s.setNib p x).storage = s.storage := rfl
@[simp] theorem State.setNib_mem (s : State) (p : Nat) (x : Nib) : (s.setNib p x).mem = s.mem := rfl
@[simp] theorem State.setNib_stat (s : State) (p : Nat) (x : Nib) : (s.setNib p x).stat = s.stat := rfl
@[simp] theorem State.setNib_sliceCnt (s : State) (p : Nat) (x : Nib) : (s.setNib p x).sliceCnt = s.sliceCnt := rfl
@[simp] theorem State.setNib_pfCnt (s : State) (p : Nat) (x : Nib) : (s.setNib p x).pfCnt = s.pfCnt := rfl
@[simp] theorem State.setNib_out (s : State) (p : Nat) (x : Nib) : (s.setNib p x).out = s.out := rfl
@[simp] theorem State.setNib_fresh (s : State) (p : Nat) (x : Nib) : (s.setNib p x).fresh = s.fresh := rfl
@[simp] theorem State.setNib_pending (s : State) (p : Nat) (x : Nib) : (s.setNib p x).pending = s.pending := rfl

/-! ### State.setWq -/

@[simp] theorem State.setWq_board (s : State) (p : Nat) (x : Wq) : (s.setWq p x).board = s.board := rfl
@[simp] theorem State.setWq_nv (s : State) (p : Nat) (x : Wq) : (s.setWq p x).nv = s.nv := rfl
@[simp] theorem State.setWq_trust (s : State) (p : Nat) (x : Wq) : (s.setWq p x).trust = s.trust := rfl
@[simp] theorem State.setWq_mgmt (s : State) (p : Nat) (x : Wq) : (s.setWq p x).mgmt = s.mgmt := rfl
@[simp] theorem State.setWq_cstl (s : State) (p : Nat) (x : Wq) : (s.setWq p x).cstl = s.cstl := rfl
@[simp] theorem State.setWq_k (s : State) (p : Nat) (x : Wq) : (s.setWq p x).k = s.k := rfl
@[simp] theorem State.setWq_q (s : State) (p : Nat) (x : Wq) : (s.setWq p x).q = s.q := rfl
@[simp] theorem State.setWq_ports (s : State) (p : Nat) (x : Wq) : (s.setWq p x).ports = s.ports := rfl
@[simp] theorem State.setWq_fns (s : State) (p : Nat) (x : Wq) : (s.setWq p x).fns = s.fns := rfl
@[simp] theorem State.setWq_slices (s : State) (p : Nat) (x : Wq) : (s.setWq p x).slices = s.slices := rfl
@[simp] theorem State.setWq_cqs (s : State) (p : Nat) (x : Wq) : (s.setWq p x).cqs = s.cqs := rfl
@[simp] theorem State.setWq_chans (s : State) (p : Nat) (x : Wq) : (s.setWq p x).chans = s.chans := rfl
@[simp] theorem State.setWq_arbs (s : State) (p : Nat) (x : Wq) : (s.setWq p x).arbs = s.arbs := rfl
@[simp] theorem State.setWq_eth (s : State) (p : Nat) (x : Wq) : (s.setWq p x).eth = s.eth := rfl
@[simp] theorem State.setWq_nibs (s : State) (p : Nat) (x : Wq) : (s.setWq p x).nibs = s.nibs := rfl
@[simp] theorem State.setWq_storage (s : State) (p : Nat) (x : Wq) : (s.setWq p x).storage = s.storage := rfl
@[simp] theorem State.setWq_mem (s : State) (p : Nat) (x : Wq) : (s.setWq p x).mem = s.mem := rfl
@[simp] theorem State.setWq_stat (s : State) (p : Nat) (x : Wq) : (s.setWq p x).stat = s.stat := rfl
@[simp] theorem State.setWq_sliceCnt (s : State) (p : Nat) (x : Wq) : (s.setWq p x).sliceCnt = s.sliceCnt := rfl
@[simp] theorem State.setWq_pfCnt (s : State) (p : Nat) (x : Wq) : (s.setWq p x).pfCnt = s.pfCnt := rfl
@[simp] theorem State.setWq_out (s : State) (p : Nat) (x : Wq) : (s.setWq p x).out = s.out := rfl
@[simp] theorem State.setWq_fresh (s : State) (p : Nat) (x : Wq) : (s.setWq p x).fresh = s.fresh := rfl
@[simp] theorem State.setWq_pending (s : State) (p : Nat) (x : Wq) : (s.setWq p x).pending = s.pending := rfl

/-! ### State.setCq -/

@[simp] theorem State.setCq_board (s : State) (p : Nat) (x : Cq) : (s.setCq p x).board = s.board := rfl
@[simp] theorem State.setCq_nv (s : State) (p : Nat) (x : Cq) : (s.setCq p x).nv = s.nv := rfl
@[simp] theorem State.setCq_trust (s : State) (p : Nat) (x : Cq) : (s.setCq p x).trust = s.trust := rfl
@[simp] theorem State.setCq_mgmt (s : State) (p : Nat) (x : Cq) : (s.setCq p x).mgmt = s.mgmt := rfl
@[simp] theorem State.setCq_cstl (s : State) (p : Nat) (x : Cq) : (s.setCq p x).cstl = s.cstl := rfl
@[simp] theorem State.setCq_k (s : State) (p : Nat) (x : Cq) : (s.setCq p x).k = s.k := rfl
@[simp] theorem State.setCq_q (s : State) (p : Nat) (x : Cq) : (s.setCq p x).q = s.q := rfl
@[simp] theorem State.setCq_ports (s : State) (p : Nat) (x : Cq) : (s.setCq p x).ports = s.ports := rfl
@[simp] theorem State.setCq_fns (s : State) (p : Nat) (x : Cq) : (s.setCq p x).fns = s.fns := rfl
@[simp] theorem State.setCq_slices (s : State) (p : Nat) (x : Cq) : (s.setCq p x).slices = s.slices := rfl
@[simp] theorem State.setCq_wqs (s : State) (p : Nat) (x : Cq) : (s.setCq p x).wqs = s.wqs := rfl
@[simp] theorem State.setCq_chans (s : State) (p : Nat) (x : Cq) : (s.setCq p x).chans = s.chans := rfl
@[simp] theorem State.setCq_arbs (s : State) (p : Nat) (x : Cq) : (s.setCq p x).arbs = s.arbs := rfl
@[simp] theorem State.setCq_eth (s : State) (p : Nat) (x : Cq) : (s.setCq p x).eth = s.eth := rfl
@[simp] theorem State.setCq_nibs (s : State) (p : Nat) (x : Cq) : (s.setCq p x).nibs = s.nibs := rfl
@[simp] theorem State.setCq_storage (s : State) (p : Nat) (x : Cq) : (s.setCq p x).storage = s.storage := rfl
@[simp] theorem State.setCq_mem (s : State) (p : Nat) (x : Cq) : (s.setCq p x).mem = s.mem := rfl
@[simp] theorem State.setCq_stat (s : State) (p : Nat) (x : Cq) : (s.setCq p x).stat = s.stat := rfl
@[simp] theorem State.setCq_sliceCnt (s : State) (p : Nat) (x : Cq) : (s.setCq p x).sliceCnt = s.sliceCnt := rfl
@[simp] theorem State.setCq_pfCnt (s : State) (p : Nat) (x : Cq) : (s.setCq p x).pfCnt = s.pfCnt := rfl
@[simp] theorem State.setCq_out (s : State) (p : Nat) (x : Cq) : (s.setCq p x).out = s.out := rfl
@[simp] theorem State.setCq_fresh (s : State) (p : Nat) (x : Cq) : (s.setCq p x).fresh = s.fresh := rfl
@[simp] theorem State.setCq_pending (s : State) (p : Nat) (x : Cq) : (s.setCq p x).pending = s.pending := rfl

/-! ### State.setChan -/

@[simp] theorem State.setChan_board (s : State) (p : Nat) (x : Chan) : (s.setChan p x).board = s.board := rfl
@[simp] theorem State.setChan_nv (s : State) (p : Nat) (x : Chan) : (s.setChan p x).nv = s.nv := rfl
@[simp] theorem State.setChan_trust (s : State) (p : Nat) (x : Chan) : (s.setChan p x).trust = s.trust := rfl
@[simp] theorem State.setChan_mgmt (s : State) (p : Nat) (x : Chan) : (s.setChan p x).mgmt = s.mgmt := rfl
@[simp] theorem State.setChan_cstl (s : State) (p : Nat) (x : Chan) : (s.setChan p x).cstl = s.cstl := rfl
@[simp] theorem State.setChan_k (s : State) (p : Nat) (x : Chan) : (s.setChan p x).k = s.k := rfl
@[simp] theorem State.setChan_q (s : State) (p : Nat) (x : Chan) : (s.setChan p x).q = s.q := rfl
@[simp] theorem State.setChan_ports (s : State) (p : Nat) (x : Chan) : (s.setChan p x).ports = s.ports := rfl
@[simp] theorem State.setChan_fns (s : State) (p : Nat) (x : Chan) : (s.setChan p x).fns = s.fns := rfl
@[simp] theorem State.setChan_slices (s : State) (p : Nat) (x : Chan) : (s.setChan p x).slices = s.slices := rfl
@[simp] theorem State.setChan_wqs (s : State) (p : Nat) (x : Chan) : (s.setChan p x).wqs = s.wqs := rfl
@[simp] theorem State.setChan_cqs (s : State) (p : Nat) (x : Chan) : (s.setChan p x).cqs = s.cqs := rfl
@[simp] theorem State.setChan_arbs (s : State) (p : Nat) (x : Chan) : (s.setChan p x).arbs = s.arbs := rfl
@[simp] theorem State.setChan_eth (s : State) (p : Nat) (x : Chan) : (s.setChan p x).eth = s.eth := rfl
@[simp] theorem State.setChan_nibs (s : State) (p : Nat) (x : Chan) : (s.setChan p x).nibs = s.nibs := rfl
@[simp] theorem State.setChan_storage (s : State) (p : Nat) (x : Chan) : (s.setChan p x).storage = s.storage := rfl
@[simp] theorem State.setChan_mem (s : State) (p : Nat) (x : Chan) : (s.setChan p x).mem = s.mem := rfl
@[simp] theorem State.setChan_stat (s : State) (p : Nat) (x : Chan) : (s.setChan p x).stat = s.stat := rfl
@[simp] theorem State.setChan_sliceCnt (s : State) (p : Nat) (x : Chan) : (s.setChan p x).sliceCnt = s.sliceCnt := rfl
@[simp] theorem State.setChan_pfCnt (s : State) (p : Nat) (x : Chan) : (s.setChan p x).pfCnt = s.pfCnt := rfl
@[simp] theorem State.setChan_out (s : State) (p : Nat) (x : Chan) : (s.setChan p x).out = s.out := rfl
@[simp] theorem State.setChan_fresh (s : State) (p : Nat) (x : Chan) : (s.setChan p x).fresh = s.fresh := rfl
@[simp] theorem State.setChan_pending (s : State) (p : Nat) (x : Chan) : (s.setChan p x).pending = s.pending := rfl

/-! ### State.setStq -/

@[simp] theorem State.setStq_board (s : State) (p : Nat) (x : Stq) : (s.setStq p x).board = s.board := rfl
@[simp] theorem State.setStq_nv (s : State) (p : Nat) (x : Stq) : (s.setStq p x).nv = s.nv := rfl
@[simp] theorem State.setStq_trust (s : State) (p : Nat) (x : Stq) : (s.setStq p x).trust = s.trust := rfl
@[simp] theorem State.setStq_mgmt (s : State) (p : Nat) (x : Stq) : (s.setStq p x).mgmt = s.mgmt := rfl
@[simp] theorem State.setStq_cstl (s : State) (p : Nat) (x : Stq) : (s.setStq p x).cstl = s.cstl := rfl
@[simp] theorem State.setStq_k (s : State) (p : Nat) (x : Stq) : (s.setStq p x).k = s.k := rfl
@[simp] theorem State.setStq_q (s : State) (p : Nat) (x : Stq) : (s.setStq p x).q = s.q := rfl
@[simp] theorem State.setStq_ports (s : State) (p : Nat) (x : Stq) : (s.setStq p x).ports = s.ports := rfl
@[simp] theorem State.setStq_fns (s : State) (p : Nat) (x : Stq) : (s.setStq p x).fns = s.fns := rfl
@[simp] theorem State.setStq_slices (s : State) (p : Nat) (x : Stq) : (s.setStq p x).slices = s.slices := rfl
@[simp] theorem State.setStq_wqs (s : State) (p : Nat) (x : Stq) : (s.setStq p x).wqs = s.wqs := rfl
@[simp] theorem State.setStq_cqs (s : State) (p : Nat) (x : Stq) : (s.setStq p x).cqs = s.cqs := rfl
@[simp] theorem State.setStq_chans (s : State) (p : Nat) (x : Stq) : (s.setStq p x).chans = s.chans := rfl
@[simp] theorem State.setStq_arbs (s : State) (p : Nat) (x : Stq) : (s.setStq p x).arbs = s.arbs := rfl
@[simp] theorem State.setStq_eth (s : State) (p : Nat) (x : Stq) : (s.setStq p x).eth = s.eth := rfl
@[simp] theorem State.setStq_nibs (s : State) (p : Nat) (x : Stq) : (s.setStq p x).nibs = s.nibs := rfl
@[simp] theorem State.setStq_mem (s : State) (p : Nat) (x : Stq) : (s.setStq p x).mem = s.mem := rfl
@[simp] theorem State.setStq_stat (s : State) (p : Nat) (x : Stq) : (s.setStq p x).stat = s.stat := rfl
@[simp] theorem State.setStq_sliceCnt (s : State) (p : Nat) (x : Stq) : (s.setStq p x).sliceCnt = s.sliceCnt := rfl
@[simp] theorem State.setStq_pfCnt (s : State) (p : Nat) (x : Stq) : (s.setStq p x).pfCnt = s.pfCnt := rfl
@[simp] theorem State.setStq_out (s : State) (p : Nat) (x : Stq) : (s.setStq p x).out = s.out := rfl
@[simp] theorem State.setStq_fresh (s : State) (p : Nat) (x : Stq) : (s.setStq p x).fresh = s.fresh := rfl
@[simp] theorem State.setStq_pending (s : State) (p : Nat) (x : Stq) : (s.setStq p x).pending = s.pending := rfl

/-! ### State.setQp -/

@[simp] theorem State.setQp_board (s : State) (h : Half) (p : Nat) (x : Qp) : (s.setQp h p x).board = s.board := by
  cases h <;> rfl
@[simp] theorem State.setQp_nv (s : State) (h : Half) (p : Nat) (x : Qp) : (s.setQp h p x).nv = s.nv := by
  cases h <;> rfl
@[simp] theorem State.setQp_trust (s : State) (h : Half) (p : Nat) (x : Qp) : (s.setQp h p x).trust = s.trust := by
  cases h <;> rfl
@[simp] theorem State.setQp_mgmt (s : State) (h : Half) (p : Nat) (x : Qp) : (s.setQp h p x).mgmt = s.mgmt := by
  cases h <;> rfl
@[simp] theorem State.setQp_cstl (s : State) (h : Half) (p : Nat) (x : Qp) : (s.setQp h p x).cstl = s.cstl := by
  cases h <;> rfl
@[simp] theorem State.setQp_ports (s : State) (h : Half) (p : Nat) (x : Qp) : (s.setQp h p x).ports = s.ports := by
  cases h <;> rfl
@[simp] theorem State.setQp_fns (s : State) (h : Half) (p : Nat) (x : Qp) : (s.setQp h p x).fns = s.fns := by
  cases h <;> rfl
@[simp] theorem State.setQp_slices (s : State) (h : Half) (p : Nat) (x : Qp) : (s.setQp h p x).slices = s.slices := by
  cases h <;> rfl
@[simp] theorem State.setQp_wqs (s : State) (h : Half) (p : Nat) (x : Qp) : (s.setQp h p x).wqs = s.wqs := by
  cases h <;> rfl
@[simp] theorem State.setQp_cqs (s : State) (h : Half) (p : Nat) (x : Qp) : (s.setQp h p x).cqs = s.cqs := by
  cases h <;> rfl
@[simp] theorem State.setQp_chans (s : State) (h : Half) (p : Nat) (x : Qp) : (s.setQp h p x).chans = s.chans := by
  cases h <;> rfl
@[simp] theorem State.setQp_arbs (s : State) (h : Half) (p : Nat) (x : Qp) : (s.setQp h p x).arbs = s.arbs := by
  cases h <;> rfl
@[simp] theorem State.setQp_eth (s : State) (h : Half) (p : Nat) (x : Qp) : (s.setQp h p x).eth = s.eth := by
  cases h <;> rfl
@[simp] theorem State.setQp_nibs (s : State) (h : Half) (p : Nat) (x : Qp) : (s.setQp h p x).nibs = s.nibs := by
  cases h <;> rfl
@[simp] theorem State.setQp_storage (s : State) (h : Half) (p : Nat) (x : Qp) : (s.setQp h p x).storage = s.storage := by
  cases h <;> rfl
@[simp] theorem State.setQp_mem (s : State) (h : Half) (p : Nat) (x : Qp) : (s.setQp h p x).mem = s.mem := by
  cases h <;> rfl
@[simp] theorem State.setQp_stat (s : State) (h : Half) (p : Nat) (x : Qp) : (s.setQp h p x).stat = s.stat := by
  cases h <;> rfl
@[simp] theorem State.setQp_sliceCnt (s : State) (h : Half) (p : Nat) (x : Qp) : (s.setQp h p x).sliceCnt = s.sliceCnt := by
  cases h <;> rfl
@[simp] theorem State.setQp_pfCnt (s : State) (h : Half) (p : Nat) (x : Qp) : (s.setQp h p x).pfCnt = s.pfCnt := by
  cases h <;> rfl
@[simp] theorem State.setQp_out (s : State) (h : Half) (p : Nat) (x : Qp) : (s.setQp h p x).out = s.out := by
  cases h <;> rfl
@[simp] theorem State.setQp_fresh (s : State) (h : Half) (p : Nat) (x : Qp) : (s.setQp h p x).fresh = s.fresh := by
  cases h <;> rfl
@[simp] theorem State.setQp_pending (s : State) (h : Half) (p : Nat) (x : Qp) : (s.setQp h p x).pending = s.pending := by
  cases h <;> rfl

/-! ### State.setNs -/

@[simp] theorem State.setNs_board (s : State) (p : Nat) (x : Ns) : (s.setNs p x).board = s.board := rfl
@[simp] theorem State.setNs_nv (s : State) (p : Nat) (x : Ns) : (s.setNs p x).nv = s.nv := rfl
@[simp] theorem State.setNs_trust (s : State) (p : Nat) (x : Ns) : (s.setNs p x).trust = s.trust := rfl
@[simp] theorem State.setNs_mgmt (s : State) (p : Nat) (x : Ns) : (s.setNs p x).mgmt = s.mgmt := rfl
@[simp] theorem State.setNs_cstl (s : State) (p : Nat) (x : Ns) : (s.setNs p x).cstl = s.cstl := rfl
@[simp] theorem State.setNs_k (s : State) (p : Nat) (x : Ns) : (s.setNs p x).k = s.k := rfl
@[simp] theorem State.setNs_q (s : State) (p : Nat) (x : Ns) : (s.setNs p x).q = s.q := rfl
@[simp] theorem State.setNs_ports (s : State) (p : Nat) (x : Ns) : (s.setNs p x).ports = s.ports := rfl
@[simp] theorem State.setNs_fns (s : State) (p : Nat) (x : Ns) : (s.setNs p x).fns = s.fns := rfl
@[simp] theorem State.setNs_slices (s : State) (p : Nat) (x : Ns) : (s.setNs p x).slices = s.slices := rfl
@[simp] theorem State.setNs_wqs (s : State) (p : Nat) (x : Ns) : (s.setNs p x).wqs = s.wqs := rfl
@[simp] theorem State.setNs_cqs (s : State) (p : Nat) (x : Ns) : (s.setNs p x).cqs = s.cqs := rfl
@[simp] theorem State.setNs_chans (s : State) (p : Nat) (x : Ns) : (s.setNs p x).chans = s.chans := rfl
@[simp] theorem State.setNs_arbs (s : State) (p : Nat) (x : Ns) : (s.setNs p x).arbs = s.arbs := rfl
@[simp] theorem State.setNs_eth (s : State) (p : Nat) (x : Ns) : (s.setNs p x).eth = s.eth := rfl
@[simp] theorem State.setNs_nibs (s : State) (p : Nat) (x : Ns) : (s.setNs p x).nibs = s.nibs := rfl
@[simp] theorem State.setNs_mem (s : State) (p : Nat) (x : Ns) : (s.setNs p x).mem = s.mem := rfl
@[simp] theorem State.setNs_stat (s : State) (p : Nat) (x : Ns) : (s.setNs p x).stat = s.stat := rfl
@[simp] theorem State.setNs_sliceCnt (s : State) (p : Nat) (x : Ns) : (s.setNs p x).sliceCnt = s.sliceCnt := rfl
@[simp] theorem State.setNs_pfCnt (s : State) (p : Nat) (x : Ns) : (s.setNs p x).pfCnt = s.pfCnt := rfl
@[simp] theorem State.setNs_out (s : State) (p : Nat) (x : Ns) : (s.setNs p x).out = s.out := rfl
@[simp] theorem State.setNs_fresh (s : State) (p : Nat) (x : Ns) : (s.setNs p x).fresh = s.fresh := rfl
@[simp] theorem State.setNs_pending (s : State) (p : Nat) (x : Ns) : (s.setNs p x).pending = s.pending := rfl

/-! ### State.setDram -/

@[simp] theorem State.setDram_board (s : State) (p : Nat) (x : Dram) : (s.setDram p x).board = s.board := rfl
@[simp] theorem State.setDram_nv (s : State) (p : Nat) (x : Dram) : (s.setDram p x).nv = s.nv := rfl
@[simp] theorem State.setDram_trust (s : State) (p : Nat) (x : Dram) : (s.setDram p x).trust = s.trust := rfl
@[simp] theorem State.setDram_mgmt (s : State) (p : Nat) (x : Dram) : (s.setDram p x).mgmt = s.mgmt := rfl
@[simp] theorem State.setDram_cstl (s : State) (p : Nat) (x : Dram) : (s.setDram p x).cstl = s.cstl := rfl
@[simp] theorem State.setDram_k (s : State) (p : Nat) (x : Dram) : (s.setDram p x).k = s.k := rfl
@[simp] theorem State.setDram_q (s : State) (p : Nat) (x : Dram) : (s.setDram p x).q = s.q := rfl
@[simp] theorem State.setDram_ports (s : State) (p : Nat) (x : Dram) : (s.setDram p x).ports = s.ports := rfl
@[simp] theorem State.setDram_fns (s : State) (p : Nat) (x : Dram) : (s.setDram p x).fns = s.fns := rfl
@[simp] theorem State.setDram_slices (s : State) (p : Nat) (x : Dram) : (s.setDram p x).slices = s.slices := rfl
@[simp] theorem State.setDram_wqs (s : State) (p : Nat) (x : Dram) : (s.setDram p x).wqs = s.wqs := rfl
@[simp] theorem State.setDram_cqs (s : State) (p : Nat) (x : Dram) : (s.setDram p x).cqs = s.cqs := rfl
@[simp] theorem State.setDram_chans (s : State) (p : Nat) (x : Dram) : (s.setDram p x).chans = s.chans := rfl
@[simp] theorem State.setDram_arbs (s : State) (p : Nat) (x : Dram) : (s.setDram p x).arbs = s.arbs := rfl
@[simp] theorem State.setDram_eth (s : State) (p : Nat) (x : Dram) : (s.setDram p x).eth = s.eth := rfl
@[simp] theorem State.setDram_nibs (s : State) (p : Nat) (x : Dram) : (s.setDram p x).nibs = s.nibs := rfl
@[simp] theorem State.setDram_storage (s : State) (p : Nat) (x : Dram) : (s.setDram p x).storage = s.storage := rfl
@[simp] theorem State.setDram_stat (s : State) (p : Nat) (x : Dram) : (s.setDram p x).stat = s.stat := rfl
@[simp] theorem State.setDram_sliceCnt (s : State) (p : Nat) (x : Dram) : (s.setDram p x).sliceCnt = s.sliceCnt := rfl
@[simp] theorem State.setDram_pfCnt (s : State) (p : Nat) (x : Dram) : (s.setDram p x).pfCnt = s.pfCnt := rfl
@[simp] theorem State.setDram_out (s : State) (p : Nat) (x : Dram) : (s.setDram p x).out = s.out := rfl
@[simp] theorem State.setDram_fresh (s : State) (p : Nat) (x : Dram) : (s.setDram p x).fresh = s.fresh := rfl
@[simp] theorem State.setDram_pending (s : State) (p : Nat) (x : Dram) : (s.setDram p x).pending = s.pending := rfl

/-! ### State.touch -/

@[simp] theorem State.touch_board (s : State) (ss : Session) : (s.touch ss).board = s.board := rfl
@[simp] theorem State.touch_nv (s : State) (ss : Session) : (s.touch ss).nv = s.nv := rfl
@[simp] theorem State.touch_trust (s : State) (ss : Session) : (s.touch ss).trust = s.trust := rfl
@[simp] theorem State.touch_cstl (s : State) (ss : Session) : (s.touch ss).cstl = s.cstl := rfl
@[simp] theorem State.touch_k (s : State) (ss : Session) : (s.touch ss).k = s.k := rfl
@[simp] theorem State.touch_q (s : State) (ss : Session) : (s.touch ss).q = s.q := rfl
@[simp] theorem State.touch_ports (s : State) (ss : Session) : (s.touch ss).ports = s.ports := rfl
@[simp] theorem State.touch_fns (s : State) (ss : Session) : (s.touch ss).fns = s.fns := rfl
@[simp] theorem State.touch_slices (s : State) (ss : Session) : (s.touch ss).slices = s.slices := rfl
@[simp] theorem State.touch_wqs (s : State) (ss : Session) : (s.touch ss).wqs = s.wqs := rfl
@[simp] theorem State.touch_cqs (s : State) (ss : Session) : (s.touch ss).cqs = s.cqs := rfl
@[simp] theorem State.touch_chans (s : State) (ss : Session) : (s.touch ss).chans = s.chans := rfl
@[simp] theorem State.touch_arbs (s : State) (ss : Session) : (s.touch ss).arbs = s.arbs := rfl
@[simp] theorem State.touch_eth (s : State) (ss : Session) : (s.touch ss).eth = s.eth := rfl
@[simp] theorem State.touch_nibs (s : State) (ss : Session) : (s.touch ss).nibs = s.nibs := rfl
@[simp] theorem State.touch_storage (s : State) (ss : Session) : (s.touch ss).storage = s.storage := rfl
@[simp] theorem State.touch_mem (s : State) (ss : Session) : (s.touch ss).mem = s.mem := rfl
@[simp] theorem State.touch_stat (s : State) (ss : Session) : (s.touch ss).stat = s.stat := rfl
@[simp] theorem State.touch_sliceCnt (s : State) (ss : Session) : (s.touch ss).sliceCnt = s.sliceCnt := rfl
@[simp] theorem State.touch_pfCnt (s : State) (ss : Session) : (s.touch ss).pfCnt = s.pfCnt := rfl
@[simp] theorem State.touch_out (s : State) (ss : Session) : (s.touch ss).out = s.out := rfl
@[simp] theorem State.touch_fresh (s : State) (ss : Session) : (s.touch ss).fresh = s.fresh := rfl
@[simp] theorem State.touch_pending (s : State) (ss : Session) : (s.touch ss).pending = s.pending := rfl

/-! ### State.setSel -/

@[simp] theorem State.setSel_board (s : State) (ss : Session) (k v : Nat) : (s.setSel ss k v).board = s.board := rfl
@[simp] theorem State.setSel_nv (s : State) (ss : Session) (k v : Nat) : (s.setSel ss k v).nv = s.nv := rfl
@[simp] theorem State.setSel_trust (s : State) (ss : Session) (k v : Nat) : (s.setSel ss k v).trust = s.trust := rfl
@[simp] theorem State.setSel_cstl (s : State) (ss : Session) (k v : Nat) : (s.setSel ss k v).cstl = s.cstl := rfl
@[simp] theorem State.setSel_k (s : State) (ss : Session) (k v : Nat) : (s.setSel ss k v).k = s.k := rfl
@[simp] theorem State.setSel_q (s : State) (ss : Session) (k v : Nat) : (s.setSel ss k v).q = s.q := rfl
@[simp] theorem State.setSel_ports (s : State) (ss : Session) (k v : Nat) : (s.setSel ss k v).ports = s.ports := rfl
@[simp] theorem State.setSel_fns (s : State) (ss : Session) (k v : Nat) : (s.setSel ss k v).fns = s.fns := rfl
@[simp] theorem State.setSel_slices (s : State) (ss : Session) (k v : Nat) : (s.setSel ss k v).slices = s.slices := rfl
@[simp] theorem State.setSel_wqs (s : State) (ss : Session) (k v : Nat) : (s.setSel ss k v).wqs = s.wqs := rfl
@[simp] theorem State.setSel_cqs (s : State) (ss : Session) (k v : Nat) : (s.setSel ss k v).cqs = s.cqs := rfl
@[simp] theorem State.setSel_chans (s : State) (ss : Session) (k v : Nat) : (s.setSel ss k v).chans = s.chans := rfl
@[simp] theorem State.setSel_arbs (s : State) (ss : Session) (k v : Nat) : (s.setSel ss k v).arbs = s.arbs := rfl
@[simp] theorem State.setSel_eth (s : State) (ss : Session) (k v : Nat) : (s.setSel ss k v).eth = s.eth := rfl
@[simp] theorem State.setSel_nibs (s : State) (ss : Session) (k v : Nat) : (s.setSel ss k v).nibs = s.nibs := rfl
@[simp] theorem State.setSel_storage (s : State) (ss : Session) (k v : Nat) : (s.setSel ss k v).storage = s.storage := rfl
@[simp] theorem State.setSel_mem (s : State) (ss : Session) (k v : Nat) : (s.setSel ss k v).mem = s.mem := rfl
@[simp] theorem State.setSel_stat (s : State) (ss : Session) (k v : Nat) : (s.setSel ss k v).stat = s.stat := rfl
@[simp] theorem State.setSel_sliceCnt (s : State) (ss : Session) (k v : Nat) : (s.setSel ss k v).sliceCnt = s.sliceCnt := rfl
@[simp] theorem State.setSel_pfCnt (s : State) (ss : Session) (k v : Nat) : (s.setSel ss k v).pfCnt = s.pfCnt := rfl
@[simp] theorem State.setSel_out (s : State) (ss : Session) (k v : Nat) : (s.setSel ss k v).out = s.out := rfl
@[simp] theorem State.setSel_fresh (s : State) (ss : Session) (k v : Nat) : (s.setSel ss k v).fresh = s.fresh := rfl
@[simp] theorem State.setSel_pending (s : State) (ss : Session) (k v : Nat) : (s.setSel ss k v).pending = s.pending := rfl

/-! ### What the updates set -/

@[simp] theorem State.emit_out (s : State) (o : Output) : (s.emit o).out = o :: s.out := rfl
@[simp] theorem State.fresher_fresh (s : State) : s.fresher.fresh = s.fresh + 1 := rfl
@[simp] theorem State.setHalf_half (s : State) (h : Half) (x : HalfSt) : (s.setHalf h x).half h = x := by
  cases h <;> rfl
@[simp] theorem State.setHalf_other (s : State) (h : Half) (x : HalfSt) : (s.setHalf h x).half h.other = s.half h.other := by
  cases h <;> rfl
@[simp] theorem State.onHalf_half (s : State) (h : Half) (f : HalfSt → HalfSt) : (s.onHalf h f).half h = f (s.half h) := by
  cases h <;> rfl
@[simp] theorem State.onHalf_other (s : State) (h : Half) (f : HalfSt → HalfSt) :
    (s.onHalf h f).half h.other = s.half h.other := by
  cases h <;> rfl
@[simp] theorem State.onBoth_half (s : State) (f : HalfSt → HalfSt) (h : Half) : (s.onBoth f).half h = f (s.half h) := by
  cases h <;> rfl
@[simp] theorem State.emit_half (s : State) (o : Output) (h : Half) : (s.emit o).half h = s.half h := by
  cases h <;> rfl
@[simp] theorem State.count_half (s : State) (i sub n : Nat) (h : Half) : (s.count i sub n).half h = s.half h := by
  cases h <;> rfl

/-- A unit read after one is set. -/
theorem State.unit_setUnit (s : State) (h g : Half) (i j : Nat) (u : UnitS) :
    (s.setUnit h i u).unit g j = if g = h ∧ j = i then u else s.unit g j := by
  cases h <;> cases g <;> simp [State.setUnit, State.unit, State.onHalf, State.setHalf, State.half, mget_mset]

theorem State.port_setPort (s : State) (p j : Nat) (x : Port) : (s.setPort p x).port j = if j = p then x else s.port j := by
  simp [State.setPort, State.port, mget_mset]
theorem State.fn_setFn (s : State) (p j : Nat) (x : Fn) : (s.setFn p x).fn j = if j = p then x else s.fn j := by
  simp [State.setFn, State.fn, mget_mset]
theorem State.slice_setSlice (s : State) (p j : Nat) (x : Slice) : (s.setSlice p x).slice j = if j = p then x else s.slice j := by
  simp [State.setSlice, State.slice, mget_mset]
theorem State.ethPort_setEth (s : State) (p j : Nat) (x : Eth) : (s.setEth p x).ethPort j = if j = p then x else s.ethPort j := by
  simp [State.setEth, State.ethPort, mget_mset]
theorem State.nib_setNib (s : State) (p j : Nat) (x : Nib) : (s.setNib p x).nib j = if j = p then x else s.nib j := by
  simp [State.setNib, State.nib, mget_mset]
theorem State.wq_setWq (s : State) (p j : Nat) (x : Wq) : (s.setWq p x).wq j = if j = p then x else s.wq j := by
  simp [State.setWq, State.wq, mget_mset]
theorem State.cq_setCq (s : State) (p j : Nat) (x : Cq) : (s.setCq p x).cq j = if j = p then x else s.cq j := by
  simp [State.setCq, State.cq, mget_mset]
theorem State.chan_setChan (s : State) (p j : Nat) (x : Chan) : (s.setChan p x).chan j = if j = p then x else s.chan j := by
  simp [State.setChan, State.chan, mget_mset]
theorem State.stq_setStq (s : State) (p j : Nat) (x : Stq) : (s.setStq p x).stq j = if j = p then x else s.stq j := by
  simp [State.setStq, State.stq, mget_mset]
theorem State.ns_setNs (s : State) (p j : Nat) (x : Ns) : (s.setNs p x).ns j = if j = p then x else s.ns j := by
  simp [State.setNs, State.ns, mget_mset]
theorem State.dram_setDram (s : State) (p j : Nat) (x : Dram) : (s.setDram p x).dram j = if j = p then x else s.dram j := by
  simp [State.setDram, State.dram, mget_mset]

/-- The counters after one is raised. -/
theorem State.stat_count (s : State) (i sub n j : Nat) :
    mget (s.count i sub n).stat j 0 = mget s.stat j 0 + (if j = i * 256 + sub then n else 0) := by
  simp only [State.count, mget_mset]
  split <;> simp_all

end Sys2Proof.Machine
end

