-- ==== Sys2Proof/Laws/Requests.lean ====
section
/-! SUPPORT. What a request, an access to a function and the issue of a nib instruction can do. -/

namespace Sys2Proof.Machine
open Sys2Proof

/-! ### Requests (R456) -/

/-- Accepting a request changes neither the role nor the checks that are made of it. -/
theorem State.accepted_role (s : State) (w v : Who) : (s.accepted w).role v = s.role v := rfl

theorem State.accepted_early (s : State) (w v : Who) (b : Bool) (i sub : Nat) (data : List Byte) :
    (s.accepted w).early v b i sub data = s.early v b i sub data := rfl

theorem State.accepted_quiet (s : State) (w : Who) : (s.accepted w).quiet = s.quiet := rfl

/-- A request is accepted where the device runs and serves the session and the role is one. -/
theorem State.accept_eq (s : State) (w : Who) (h1 : s.running = true) (h2 : (s.half (s.server w.sess)).supvUp = true)
    (h3 : s.role w ≠ 0) : s.accept w = some (s.accepted w) := by
  have hb : s.board.boot = .running := by simpa [State.running] using h1
  have hs : s.served w.sess = true := by simp [State.served, hb, h2]
  simp only [State.accept, hs, Bool.true_eq_false, if_false, hb]
  rw [if_neg (by simp [h3])]
  rfl

/-- A granted write passes the checks 3 to 6 of R456. -/
theorem State.early_granted {s : State} {w : Who} {i sub : Nat} {data : List Byte} (h : s.grants w i sub data = true) :
    s.early w true i sub data = 0 := by
  simp only [State.grants, Bool.and_eq_true, Bool.not_eq_true'] at h
  obtain ⟨⟨⟨⟨⟨⟨⟨⟨hr, -⟩, -⟩, -⟩, ho⟩, hd⟩, -⟩, -⟩, -⟩ := h
  have hb : s.board.boot = .running := by simpa [State.running] using hr
  cases hrow : objRow i sub with
  | none => simp [hrow] at ho
  | some r =>
    simp only [hrow, Bool.and_eq_true, decide_eq_true_eq, bne_iff_ne, ne_eq] at ho
    obtain ⟨⟨⟨h1, h2⟩, h3⟩, h4⟩ := ho
    have h6 : ¬ (i = 0xA720 ∧ s.nv.programBlown = true) := by simpa using hd
    simp only [State.early, hrow, hb]
    rw [if_neg (by simp), if_neg (by simp; omega), if_neg h6, if_neg (by simp [h2, h3]), if_neg (by simp)]
    by_cases hl : r.len = 0
    · simp only [hl, if_true, Bool.and_eq_true, decide_eq_true_eq] at h4
      rw [if_neg (by rintro ⟨-, -, h | h⟩ <;> omega), if_neg (by simp [hl])]
    · simp only [hl, if_false, decide_eq_true_eq] at h4
      rw [if_neg (by simp [hl]), if_neg (by simp [h4])]

/-- What a granted write comes to: BUSY, NOT_FOUND for its selection, REFUSED, or its effect with the record of a divergent
change. -/
theorem State.write_granted {s : State} {w : Who} {i sub : Nat} {data : List Byte} (h : s.grants w i sub data = true)
    (busy sel : State → Bool) (act : State → Option State) :
    s.write w i sub data busy sel act =
      if busy (s.accepted w) = true then (s.accepted w).answer w rsBusy
      else if sel (s.accepted w) = false then (s.accepted w).answer w rsNotFound
      else
        match act (s.accepted w) with
        | none => (s.accepted w).answer w rsRefused
        | some t => ((if custodyObj i sub then t.diverge w.sess i sub 0 else t), some (rsOk, [])) := by
  have he := State.early_granted h
  simp only [State.grants, Bool.and_eq_true, Bool.not_eq_true', Bool.or_eq_true, bne_iff_ne, ne_eq] at h
  obtain ⟨⟨⟨⟨⟨⟨⟨⟨hr, hu⟩, hh⟩, h0⟩, -⟩, -⟩, hbad⟩, hoth⟩, hcu⟩ := h
  have hb : s.board.boot = .running := by simpa [State.running] using hr
  have hm : (s.accepted w).mgmtBusy = false := by
    show s.trust.handover.isSome = false
    cases hho : s.trust.handover <;> simp_all
  have hst : (s.accepted w).board.boot ≠ .streaming := by
    show s.board.boot ≠ .streaming
    simp [hb]
  have hcu' : ¬ (custodyObj i sub = true ∧ (s.accepted w).custody w.sess = false) := by
    show ¬ (custodyObj i sub = true ∧ s.custody w.sess = false)
    rcases hcu with hc | hc <;> simp [hc]
  have hoth' : (s.accepted w).otherHalf w.sess i sub = false := hoth
  simp only [State.write, State.accept_eq s w hr hu h0, State.accepted_early, he, ne_eq, not_true_eq_false, if_false]
  by_cases hbu : busy (s.accepted w) = true
  · rw [if_pos (.inr (.inr hbu)), if_pos hbu]
  · rw [if_neg (by simp [hst, hm, hbu]), if_neg hbu]
    by_cases hse : sel (s.accepted w) = false
    · rw [if_pos hse, if_pos hse]
    · rw [if_neg hse, if_neg hse, if_neg (by rw [hbad, hoth']; simpa using hcu')]
      all_goals rfl

/-! ### Accesses to functions (R58, R63, R69) -/

/-- An access through a function's BARs has no effect, is an Unsupported Request, or reaches the function. -/
theorem State.access_cases (s : State) (fk : Nat) (f : State → State) :
    (s.present fk = false ∧ s.access fk f = s)
    ∨ (s.present fk = true ∧ (s.fn fk).d3 = true ∧ s.access fk f = s.emit .unsupportedRequest)
    ∨ (s.present fk = true ∧ (s.fn fk).d3 = false ∧ s.access fk f = f s) := by
  unfold State.access
  cases hp : s.present fk <;> cases hd : (s.fn fk).d3 <;> simp

/-- An access to a present function in D0 reaches it. -/
theorem State.access_eq {s : State} {fk : Nat} (hp : s.present fk = true) (hd : (s.fn fk).d3 = false) (f : State → State) :
    s.access fk f = f s := by
  simp [State.access, hp, hd]

/-- A present function's configuration space is reached. -/
theorem State.config_eq {s : State} {fk : Nat} (hp : s.present fk = true) (f : State → State) : s.config fk f = f s := by
  simp only [State.present, Bool.and_eq_true, Bool.not_eq_true', Bool.or_eq_true, decide_eq_true_eq] at hp
  obtain ⟨⟨⟨⟨hr, hro⟩, hu⟩, hf⟩, hv⟩ := hp
  have hb : s.board.boot = .running := by simpa [State.running] using hr
  unfold State.config
  rw [if_neg (by simp [hro, hu, hb]), if_neg (by rcases hv with h | h <;> simp [h]), if_neg (by simp [hb, hf])]

/-- A frame that is reached is acted on. -/
theorem State.onFrame_eq {s : State} {q : QRef} {kind : Nat} {h : Half} {e sl : Nat}
    (hr : s.reachesFrame q kind h e sl = true) (f : Half → Nat → Nat → State → State) :
    s.onFrame q kind f = f h e sl s := by
  simp only [State.reachesFrame, Bool.and_eq_true, Bool.not_eq_true', beq_iff_eq] at hr
  obtain ⟨⟨⟨hp, hd⟩, hf⟩, -⟩ := hr
  simp [State.onFrame, State.access_eq hp hd, hf]

/-! ### Nib instructions (R217) -/

/-- A thread that issues a word carries out the word at its address, which is the same in every bit that its meaning uses. -/
theorem State.issue_eq {s : State} {t : Th} {w : BitVec 32} (h : s.issues t w = true) (f : NibFn) :
    ∃ c, (s.nib t.unit.val).fetch (s.thr t).pc = some c ∧ (usedBits c).isSome = true ∧ sameWord c w = true
      ∧ s.issue t w f = s.nibDo t.unit.val t.slot.val f c := by
  simp only [State.issues, Bool.and_eq_true, Bool.not_eq_true'] at h
  obtain ⟨⟨hr, hb⟩, hm⟩ := h
  cases hf : (s.nib t.unit.val).fetch (s.th t.unit.val t.slot.val).pc with
  | none => simp [hf] at hm
  | some c =>
    simp only [hf, Bool.and_eq_true] at hm
    refine ⟨c, hf, hm.1, hm.2, ?_⟩
    have hn : (usedBits c).isNone = false := by
      cases hx : usedBits c <;> simp_all
    simp [State.issue, hr, hf, hn, hm.2, hb]

end Sys2Proof.Machine
end

