-- ==== Sys2Proof/Machine/RegRead.lean ====
section
/-! DEFINITION. What a dword of a function's BAR0 reads as (R45 to R49, R97, R99, R123, R126, R278, R293, R317, R401). No
command of the table reads a register that a read does not change; these are the values such a read returns. -/

namespace Sys2Proof.Machine
open Sys2Proof

/-- The dword of an address: its low or high half. -/
def halfWord {n : Nat} (x : BitVec n) (i : Nat) : Nat := fld x (32 * i) 32

/-- VALID and INDEX of a LASTDONE register. -/
def lastDoneWord (x : Option (BitVec 16)) : Nat :=
  match x with
  | some i => 65536 + i.toNat
  | none => 0

/-! ### Queues, completion queues, channels, windows and doorbell blocks -/

/-- A work queue's frame (R97). -/
def Wq.reg (w : Wq) (o : Nat) : Nat :=
  if o = 0x000 then halfWord w.base 0
  else if o = 0x004 then halfWord w.base 1
  else if o = 0x008 then b2n w.rx * 2 ^ 20 + w.logSize * 65536 + w.cq.toNat
  else if o = 0x00C then halfWord w.shadow 0
  else if o = 0x010 then halfWord w.shadow 1
  else if o = 0x014 then b2n (w.st = .running)
  else if o = 0x01C then
    b2n w.cfgErr * 2 ^ 20 + b2n w.abort.isSome * 2 ^ 19 + w.st.code * 65536 + w.head.toNat
  else if o = 0x020 then lastDoneWord w.lastDone
  else if o = 0x024 then w.malformed
  else if o = 0x028 then w.dbIgnored
  else 0

/-- A completion queue's frame (R99). -/
def Cq.reg (c : Cq) (o : Nat) : Nat :=
  if o = 0x00 then halfWord c.base 0
  else if o = 0x04 then halfWord c.base 1
  else if o = 0x08 then c.cfgWord
  else if o = 0x0C then c.modWord
  else if o = 0x10 then b2n c.enable
  else if o = 0x18 then
    b2n c.cfgErr * 2 ^ 19 + b2n c.headErr * 2 ^ 18 + (if c.faulted then 2 else b2n c.enable) * 65536 + c.tail.toNat
  else if o = 0x1C then c.reserved
  else if o = 0x20 then c.noslot
  else 0

/-- The TASK_FREE bits (R317). -/
def Stq.taskFree (x : Stq) : Nat := 65535 - ((x.committed.eraseDups).map fun t => 2 ^ t).sum

/-- A storage queue's frame (R317). -/
def Stq.reg (x : Stq) (admin : Bool) (o : Nat) : Nat :=
  if o = 0x400 then x.cls * 2 ^ 18 + x.cq.toNat
  else if o = 0x404 then halfWord x.shadow 0
  else if o = 0x408 then halfWord x.shadow 1
  else if o = 0x40C then b2n (x.st = .running)
  else if o = 0x410 then
    b2n x.cfgErr * 2 ^ 20 + b2n admin * 2 ^ 19 + b2n x.frozen * 2 ^ 18 + x.st.code % 4 * 65536 + x.taskFree
  else if o = 0x414 then x.published.toNat
  else if o = 0x418 then lastDoneWord x.lastDone
  else if o = 0x41C then x.cmds.length
  else if o = 0x420 then x.taskIgnored
  else if o = 0x424 then x.malformed
  else 0

/-- A copy channel's frame (R123). -/
def Chan.reg (x : Chan) (o : Nat) : Nat :=
  if o = 0x000 then halfWord x.base 0
  else if o = 0x004 then halfWord x.base 1
  else if o = 0x008 then b2n x.paced * 2 ^ 20 + x.logSize * 65536
  else if o = 0x00C then halfWord x.shadow 0
  else if o = 0x010 then halfWord x.shadow 1
  else if o = 0x014 then b2n (x.st = .running)
  else if o = 0x01C then
    b2n x.cfgErr * 2 ^ 22 + b2n x.watchLost * 2 ^ 21 + b2n x.gate * 2 ^ 20 + b2n x.abort.isSome * 2 ^ 19 + x.st.code * 65536
      + x.head.toNat
  else if o = 0x020 then lastDoneWord x.lastDone
  else if o = 0x024 then x.malformed
  else if o = 0x028 then x.dbIgnored
  else if o = 0x02C then x.watch.toNat
  else if o = 0x030 then x.high
  else if o = 0x034 then x.low
  else if o = 0x038 then x.fill
  else 0

/-- STATE of a window (R293). -/
def WinSt.code : WinSt → Nat
  | .closed => 0
  | .opened => 1
  | .revoking => 2
  | .revoked => 3

/-- A window register (R293, R294), by its index. -/
def Win.reg (x : Win) (index o : Nat) : Nat :=
  if o = 0x00 then halfWord x.base 0
  else if o = 0x04 then halfWord x.base 1
  else if o = 0x08 then halfWord x.len 0
  else if o = 0x0C then halfWord x.len 1
  else if o = 0x14 then b2n x.cmdErr * 4 + x.st.code
  else if o = 0x18 then index * 256 + x.gen
  else 0

/-- The first QP and the QPs of a doorbell block (R275, R278). -/
def State.blockQps (s : State) (q : QRef) : Nat × Nat :=
  let h := portHalf q.fn.port
  match (s.rdqBlock q).1 with
  | none => (0, 0)
  | some id =>
    if id < 4096 then (0x100000 + h.num * 524288 + (s.slice id).qp0, recQps (s.slice id).record)
    else (0x100000 + h.num * 524288,
          524288 - (s.slices.map fun e => if e.2.used && recHome e.2.record = h then recQps e.2.record else 0).sum)

/-- A doorbell block (R278): its commands end in the step that takes them. -/
def State.rdqReg (s : State) (q : QRef) (o : Nat) : Nat :=
  let f := s.fn (fkey q.fn)
  let page := (s.rdqBlock q).2
  if o = 0x010 then (s.blockQps q).1
  else if o = 0x014 then (s.blockQps q).2
  else if o = 0x018 then mget f.dbIgnored page 0
  else if o = 0x01C then mget f.rdqStatus page 0
  else 0

/-! ### The status block and the control blocks (R45, R47, R126, R401) -/

/-- The device ID of a function (R41). -/
def deviceId (n : Nat) : Nat := if n < 4 then 0x1600 + n else 0x1610 + fnPf n

/-- Tags of a function that are outstanding. -/
def State.outstanding (s : State) (fk : Nat) : Nat :=
  ((s.port (keyPort fk)).tags.filter fun e => e.2.fn = fk && !e.2.quarantined).length

/-- A function is ungated and bound (R42, R45, R376). -/
def State.fnReady (s : State) (fk : Nat) : Bool :=
  if s.board.boot = .recovery then keyNum fk = 0
  else s.running && (keyNum fk < 4 || s.vfSlice fk < 4096)

/-- xx_FN_STATUS (R45). -/
def State.fnStatus (s : State) (fk : Nat) : Nat :=
  let f := s.fn fk
  b2n ((s.port (keyPort fk)).tags.any fun e => e.2.fn = fk && e.2.quarantined) * 32
    + b2n (s.board.boot = .recovery) * 16 + b2n s.trust.handover.isSome * 8 + b2n (!f.held.isEmpty) * 4
    + b2n (!f.bme && s.outstanding fk != 0) * 2 + b2n (s.fnReady fk)

/-- The status block (R45). -/
def State.statusReg (s : State) (fk o : Nat) : Nat :=
  if o = 0x00 then Config.siliconRev.toNat * 65536 + deviceId (keyNum fk)
  else if o = 0x04 then s.fnStatus fk
  else if o = 0x08 then s.outstanding fk
  else if o = 0x0C then ((s.port (keyPort fk)).tags.filter fun e => e.2.quarantined).length
  else if o = 0x10 then (s.fn fk).lateCpl
  else 0

/-- xx_FRAME_OWNER (R47). -/
def State.frameOwner (s : State) (f : FnRef) : Nat :=
  let v := (s.fn (fkey f)).frameSel.toNat
  let n := v % 131072
  let pf := fnPf f.num.val
  let kind := if v / 131072 = 0 then (if pf = 2 then 2 else 0) else if v / 131072 = 1 then 1 else 3
  if v / 131072 = 3 ∨ pfFrames pf kind ≤ n then 0
  else
    let sl := s.holder (portHalf f.port) kind n
    if sl = 4096 then 8192 + 4096 else 8192 + sl

/-- The quota registers of a VF (R47). -/
def State.quota0 (s : State) (fk : Nat) : Nat :=
  let sl := s.vfSlice fk
  let r := (s.slice sl).record
  if keyNum fk < 4 ∨ sl = 4096 then 0
  else (if fnPf (keyNum fk) = 1 then recWqs r else recSqs r) * 65536 + recCqs r * 256 + recVectors r

def State.quota1 (s : State) (fk : Nat) : Nat :=
  let sl := s.vfSlice fk
  if keyNum fk < 4 ∨ sl = 4096 then 0
  else if fnPf (keyNum fk) = 1 then recWindows (s.slice sl).record else s.nsCount sl

/-- The function control block (R47). -/
def State.ctlReg (s : State) (f : FnRef) (o : Nat) : Nat :=
  let x := s.fn (fkey f)
  if o = 0x40 then b2n x.faultIrqEn
  else if o = 0x44 then x.faultVector.toNat
  else if o = 0x48 then x.faultSummary.toNat
  else if o = 0x4C then x.faultKind * 2 ^ 20 + x.faultNumber
  else if o = 0x50 then s.quota0 (fkey f)
  else if o = 0x54 then s.quota1 (fkey f)
  else if 4 ≤ f.num.val then 0
  else if o = 0x58 then x.frameSel.toNat
  else s.frameOwner f

/-- The mailbox control registers (R401). -/
def Port.mboxReg (x : Port) (o : Nat) : Nat :=
  if o = 0x40 then b2n x.mboxIrq * 2
  else if o = 0x44 then b2n x.mboxDone * 2 + b2n x.mboxReq.isSome
  else if o = 0x48 then x.mboxIgnored
  else 0

/-! ### PF0's status region (R48, R49) -/

/-- MGMT_DEV_STATE (R48). -/
def State.devState (s : State) : Nat :=
  s.cstlState.code * 256 + s.cstl.primary.num * 128 + s.param s.cstl.primary 0x2000 1 0 0 % 8 * 16
    + b2n (s.k.gov.trimFallback || s.q.gov.trimFallback) * 8 + b2n (s.board.boot = .recovery) * 4 + b2n s.q.stopped * 2 + b2n s.k.stopped

/-- A mirrored counter (R49): 0 where there is no U64 counter object. -/
def State.mirrorReg (s : State) (o : Nat) : Nat :=
  let i := 0x6000 + o / 0x800
  let sub := o % 0x800 / 8
  if 0x6100 ≤ i ∧ sub ≠ 0 ∧ (objRow i sub).isSome then mget s.stat (i * 256 + sub) 0 / 2 ^ (8 * (o % 8)) % 2 ^ 32 else 0

/-- PF0's status region (R48, R49). -/
def State.mgmtReg (s : State) (p off : Nat) : Nat :=
  if 0x200000 ≤ off ∧ off < 0xA00000 then s.mirrorReg (off - 0x200000)
  else if off = 0x100000 then s.time (portHalf p) % 2 ^ 31
  else if off = 0x100004 then (s.port p).timeHi
  else if off = 0x100008 then s.devState
  else if off = 0x10000C then Nat.min s.k.gov.headroom s.q.gov.headroom
  else if off = 0x100010 then s.lifeUsed % 2 ^ 31
  else if off = 0x100014 then unsigned 15 (s.q.gov.temp + 1000) * 65536 + unsigned 16 (s.k.gov.temp + 1000)
  else if off = 0x100018 then (s.k.log.next - 1) % 2 ^ 31
  else if off = 0x10001C then (s.q.log.next - 1) % 2 ^ 31
  else if 0x100020 ≤ off ∧ off < 0x100044 then leAt s.healthSummary (off - 0x100020) 4
  else 0

/-! ### BAR0 -/

/-- A dword of a frame that the function holds; 0 of another (R69). -/
def State.frameReg (s : State) (f : FnRef) (kind n : Nat) (read : Half → Nat → Nat → Nat) : Nat :=
  match s.frame f kind n with
  | .hit h e sl => read h e sl
  | .foreign => 0
  | .nothing => 0

/-- A dword of BAR0 of a function. -/
def State.readReg (s : State) (f : FnRef) (off : Nat) : Nat :=
  let q := fun (n : Nat) => ({ fn := f, frame := n } : QRef)
  match regAt f off with
  | .status o => if o < 0x40 then s.statusReg (fkey f) o else s.mgmtReg f.port.val o
  | .ctl o =>
    if f.num.val = 0 then (s.port f.port.val).mboxReg o
    else if f.num.val = 3 then (if o < 0x50 then fld (s.port f.port.val).cpyFault (16 * ((o - 0x40) / 4)) 16 else 0)
    else s.ctlReg f o
  | .request o => leAt (s.port f.port.val).mboxBuf o 4
  | .answer o => leAt (s.port f.port.val).mboxResp o 4
  | .wq n o => s.frameReg f 0 n fun h e _ => (s.wq (wqKey h e)).reg o
  | .cq n o => s.frameReg f 1 n fun h e _ => (s.cq (cqFrameKey (q n) h e)).reg o
  | .stq n o =>
    s.frameReg f 2 n fun h e sl =>
      let k := stqKey (q n) h e sl
      if unassigned e sl then 0 else (s.stq k).reg (s.stqAdmin k) o
  | .win n o => s.frameReg f 3 n fun h e _ => (s.win h e).reg (h.num * 131072 + e) o
  | .chan n o => (s.chan (chanKey f.port (chanNo n))).reg o
  | .rdq n o => s.rdqReg (q n) o
  | .nothing => 0

end Sys2Proof.Machine
end

