-- ==== Sys2Proof/WellFormed.lean ====
section
/-! DEFINITION. Which commands are well-formed: the operands whose type is wider than the range the spec gives them lie in it.
A command outside it comes from no sender; its meaning is defined nonetheless. -/

namespace Sys2Proof

/-- Keys of work queues, and of the send and receive queues of QPs (04 R97, 11 R275). -/
def queueKeys : Nat := 4194304

/-- Keys of completion queues: by half and kind, 65,536 each (04 R99). -/
def cqKeys : Nat := 393216

/-- QPs of both halves (11 R275). -/
def qpKeys : Nat := 1048576

/-- Storage queues of both halves, and the admin queue of each PF2 (12 R316). -/
def stqKeys : Nat := 8196

/-- A frame number lies in the largest region of BAR0 (02 R44). -/
def QRef.wf (q : QRef) : Bool := q.frame < 131072

/-- Namespace IDs are 1 to 4,096 (12 R309). -/
def nsidWf (n : Nat) : Bool := 1 ≤ n && n ≤ 4096

/-- An OCTETS value of 1 to 1,408 bytes (15 R384, R396). -/
def octetsWf (d : List Byte) : Bool := 1 ≤ d.length && d.length ≤ 1408

/-- The fields of a RoCE packet fit theirs (11 R285). -/
def RocePkt.wf (p : RocePkt) : Bool := p.destQp < 2 ^ 24 && p.srcQp < 2 ^ 24 && p.total < 2 ^ 32

/-- A command is well-formed. -/
def Instr.wf (i : Instr) : Bool :=
  match i with
  | .vinRise .. => true
  | .vinDip .. => true
  | .pwrgoodRisePornHigh .. => true
  | .pornRelease .. => true
  | .payloadHashCheck .. => true
  | .pornAssert .. => true
  | .governorSample .. => true
  | .lifeRecordHourly .. => true
  | .thermalStop .. => true
  | .paceModeWrite .. => true
  | .perstAssert .. => true
  | .linkDlDown .. => true
  | .linkDlUp _ rate width _ => rate ≤ 6 && [1, 2, 4, 8].contains width
  | .bmeClear .. => true
  | .bmeSet .. => true
  | .flrInitiate .. => true
  | .flrDone .. => true
  | .d3hotEntry .. => true
  | .d0Return .. => true
  | .vfEnableClear .. => true
  | .interruptEnableChange _ _ _ n => [1, 2, 4, 8, 16, 32].contains n
  | .vectorUnmask _ v => v < 2048
  | .pmeRetry .. => true
  | .pmeStatusClear .. => true
  | .completionArrival _ tag _ => tag < 4096
  | .completionTimeout _ tag => tag < 4096
  | .tagQuarantineExpiry _ tag => tag < 4096
  | .ideIntegrityFail .. => true
  | .ideKmSetup .. => true
  | .spdmGetVersion .. => true
  | .spdmGetCapabilities .. => true
  | .spdmNegotiateAlgorithms .. => true
  | .spdmGetDigests .. => true
  | .spdmGetCertificate _ off len => off < 65536 && len < 65536
  | .spdmChallenge .. => true
  | .spdmGetMeasurements _ i => i < 256
  | .spdmKeyExchange .. => true
  | .spdmFinish .. => true
  | .spdmHeartbeat .. => true
  | .spdmKeyUpdate .. => true
  | .spdmEndSession .. => true
  | .mgmtTimeLoRead .. => true
  | .lateCplRead .. => true
  | .faultSummaryClear .. => true
  | .sliceCreate .. => true
  | .sliceEnable .. => true
  | .sliceDisable .. => true
  | .sliceReset .. => true
  | .sliceDestroy .. => true
  | .sliceSetQos .. => true
  | .sliceCmdDequeue .. => true
  | .sliceCntClear .. => true
  | .pfCntClear .. => true
  | .wqDoorbell q _ => q.wf
  | .wqPushWrite q _ _ _ => q.wf
  | .wqEnable q => q.wf
  | .wqDisable q => q.wf
  | .wqFetch q _ => q < queueKeys
  | .malformedEntry k => k < queueKeys
  | .nopEntry k _ => k < queueKeys
  | .ethSendEntry k _ _ => k < queueKeys
  | .xportRxDeliver .. => true
  | .blotterTimeDue q => q < cqKeys
  | .sliceIntervalEnd i => i < 4096
  | .cqHeadWrite q _ => q.wf
  | .cqEnable q => q.wf
  | .cqDisable q => q.wf
  | .cqCfgWrite q _ _ => q.wf
  | .cqNoslotRead q => q.wf
  | .wqMalformedRead q => q.wf
  | .wqDbIgnoredRead q => q.wf
  | .wqAbort q _ _ _ => q.wf
  | .cpyDoorbell .. => true
  | .cpyEnable .. => true
  | .cpyDisable .. => true
  | .cpyFetch .. => true
  | .copyDesc .. => true
  | .fillDesc .. => true
  | .compareDesc .. => true
  | .chainHopFetch .. => true
  | .descEnd .. => true
  | .cpyGateEval .. => true
  | .cpyAbort .. => true
  | .cpyFaultClear .. => true
  | .cpyChMalformedRead .. => true
  | .cpyChDbIgnoredRead .. => true
  | .arbiterDecision k i _ _ => k < 8 && i < 256
  | .reqPriorityWrite .. => true
  | .arbClear .. => true
  | .portModeWrite .. => true
  | .portLinkUp .. => true
  | .portLinkLoss .. => true
  | .frameReceive .. => true
  | .pauseFrameReceive .. => true
  | .pfcFrameReceive .. => true
  | .pauseExpiry .. => true
  | .pfcXoffRepeat .. => true
  | .pfcStorm .. => true
  | .frameTransmit .. => true
  | .mgmtFrameReceive _ _ len => len < 65536
  | .tbRateWrite .. => true
  | .tbAdjustWrite .. => true
  | .portCntClear .. => true
  | .macsecRx .. => true
  | .macsecTxAssign .. => true
  | .espOutApply .. => true
  | .laneFailure _ l => l.all fun i => i < 64
  | .saInstall .. => true
  | .saDelete .. => true
  | .saChange .. => true
  | .saFenceEnd _ i => i < 16384
  | .macsecConfigWrite .. => true
  | .hardenWrite .. => true
  | .cipherCntClear .. => true
  | .pipelineEntry .. => true
  | .orderedRelease .. => true
  | .stageRecordWrite .. => true
  | .commitWrite .. => true
  | .commitSwap .. => true
  | .commitTimeout .. => true
  | .stageDiscard .. => true
  | .clsCntClear .. => true
  | .txSteerWrite .. => true
  | .tmgrAdmit .. => true
  | .hostqSend .. => true
  | .schedSend .. => true
  | .bucketRefill _ l n => l < 4 && n < 65536
  | .nodeRecordWrite .. => true
  | .attachWrite .. => true
  | .queueProfileWrite .. => true
  | .pfcThreshWrite .. => true
  | .policerWrite .. => true
  | .tmCntClear .. => true
  | .frameDeliver .. => true
  | .add .. => true
  | .sub .. => true
  | .and .. => true
  | .or .. => true
  | .xor .. => true
  | .andn .. => true
  | .sll .. => true
  | .srl .. => true
  | .sra .. => true
  | .rol .. => true
  | .slt .. => true
  | .sltu .. => true
  | .mul .. => true
  | .mulhu .. => true
  | .min .. => true
  | .max .. => true
  | .clz .. => true
  | .popc .. => true
  | .bswap .. => true
  | .crc32c .. => true
  | .addi .. => true
  | .andi .. => true
  | .ori .. => true
  | .xori .. => true
  | .slli .. => true
  | .srli .. => true
  | .srai .. => true
  | .slti .. => true
  | .sltiu .. => true
  | .lui .. => true
  | .shori .. => true
  | .ext .. => true
  | .ins .. => true
  | .lb .. => true
  | .lh .. => true
  | .lw .. => true
  | .ld .. => true
  | .sb .. => true
  | .sh .. => true
  | .sw .. => true
  | .sd .. => true
  | .atomAdd .. => true
  | .atomSwap .. => true
  | .atomCas .. => true
  | .atomOr .. => true
  | .atomAnd .. => true
  | .beq .. => true
  | .bne .. => true
  | .blt .. => true
  | .bge .. => true
  | .bltu .. => true
  | .bgeu .. => true
  | .j .. => true
  | .call .. => true
  | .jr .. => true
  | .wfe .. => true
  | .sig .. => true
  | .timer .. => true
  | .time .. => true
  | .self .. => true
  | .fence .. => true
  | .stop .. => true
  | .brk .. => true
  | .tr .. => true
  | .pendForward .. => true
  | .pendDrop .. => true
  | .pendException .. => true
  | .plen .. => true
  | .tq .. => true
  | .chw .. => true
  | .chc .. => true
  | .chr .. => true
  | .chwatch .. => true
  | .chx .. => true
  | .lacq .. => true
  | .ltry .. => true
  | .lrel .. => true
  | .lmov .. => true
  | .csubCopy .. => true
  | .csubEspOut .. => true
  | .csubEspIn .. => true
  | .tblResultReady .. => true
  | .cipherSubmitEnd .. => true
  | .copySubmitEnd .. => true
  | .threadTimerFire .. => true
  | .stalemate .. => true
  | .nibDrainLimit .. => true
  | .loadDataWrite _ d => octetsWf d
  | .loadBegin .. => true
  | .loadVerify .. => true
  | .loadInstall .. => true
  | .loadInstallDone .. => true
  | .loadCancel .. => true
  | .dbgHalt .. => true
  | .dbgResume .. => true
  | .dbgStep .. => true
  | .dbgReset .. => true
  | .dbgArm .. => true
  | .dbgDisarm .. => true
  | .rdqSqDoorbell q _ _ _ => q.wf
  | .rdqRqDoorbell q _ _ _ => q.wf
  | .qpModify q _ => q.wf
  | .qpAbort q _ => q.wf
  | .rdqDbIgnoredRead q => q.wf
  | .rdmaSend k _ => k < qpKeys
  | .rdmaSendImm k _ => k < qpKeys
  | .rdmaWrite k _ => k < qpKeys
  | .rdmaWriteImm k _ => k < qpKeys
  | .rdmaRead k => k < qpKeys
  | .rdmaCas k => k < qpKeys
  | .rdmaFadd k => k < qpKeys
  | .roceReceive _ p => p.wf
  | .qpContextFetchDone k _ => k < qpKeys
  | .parkTimeout k => k < qpKeys
  | .roceResponseReceive .. => true
  | .ackTimeout k => k < qpKeys
  | .rnrTimerExpiry k => k < qpKeys
  | .cnpReceive _ q => q < 2 ^ 24
  | .ccWindowEnd .. => true
  | .winOpen q _ => q.wf
  | .winRevoke q => q.wf
  | .winRevokeDone i => i < 262144
  | .winBaseLenWrite q _ _ => q.wf
  | .rdmaCntClear .. => true
  | .stqTaskCommit q _ _ => q.wf
  | .stqCmdAccept k => k < stqKeys
  | .storageRead k => k < stqKeys
  | .storageWrite k _ => k < stqKeys
  | .storageFlush k => k < stqKeys
  | .storageDeallocate k => k < stqKeys
  | .storageWriteZeroes k => k < stqKeys
  | .storageCompare k _ => k < stqKeys
  | .storageCmdComplete q i _ => q < stqKeys && i < 65536
  | .freezeWaitExpiry q i => q < stqKeys && i < 65536
  | .lockedWaitExpiry q i => q < stqKeys && i < 65536
  | .nsCreate .. => true
  | .nsDelete .. => true
  | .nsAttach .. => true
  | .nsDetach .. => true
  | .nsFormat .. => true
  | .logReadPage k => k < stqKeys
  | .featureGet k => k < stqKeys
  | .featureSet k => k < stqKeys
  | .queueResume k => k < stqKeys
  | .queueReset k => k < stqKeys
  | .storageAbort k => k < stqKeys
  | .stqEnable q => q.wf
  | .stqDisable q => q.wf
  | .stqTaskIgnoredRead q => q.wf
  | .stqMalformedRead q => q.wf
  | .driveSurpriseRemoval .. => true
  | .driveAdmit .. => true
  | .driveRetire .. => true
  | .nsKeyWrite .. => true
  | .mapRebuildDone n => nsidWf n
  | .stqCntClear .. => true
  | .dramLineRead .. => true
  | .rowRepair .. => true
  | .patrolScrub .. => true
  | .refresh .. => true
  | .dimmSensorPoll .. => true
  | .dqsTrack .. => true
  | .channelRetrain .. => true
  | .freqCmdSetA .. => true
  | .freqCmdSetB .. => true
  | .channelFreqSwitch .. => true
  | .channelFreqSwitchDone .. => true
  | .memCntClear .. => true
  | .imgDataWrite _ d => octetsWf d
  | .imgBegin .. => true
  | .imgVerify .. => true
  | .imgArm .. => true
  | .imgActivate .. => true
  | .imgCancel .. => true
  | .handoverComplete .. => true
  | .confirmWrite .. => true
  | .trialWatchdogExpiry .. => true
  | .keyProgramWrite .. => true
  | .revokeWrite .. => true
  | .floorRaiseWrite .. => true
  | .debugCloseProgram .. => true
  | .debugCloseVendor .. => true
  | .debugCloseBoth .. => true
  | .kwkWrite .. => true
  | .synrokFrameReceive _ _ m => m.length < 65536
  | .mctpMessageReceive _ m eid _ => m ≤ 4 && eid < 256
  | .mctpSetEndpointId _ m _ => m ≤ 4
  | .mctpGetEndpointId _ m => m ≤ 4
  | .mctpGetVersionSupport _ m => m ≤ 4
  | .mctpGetMessageTypeSupport _ m => m ≤ 4
  | .mctpGetVendorMsgSupport _ m => m ≤ 4
  | .mboxGo _ m => m.length ≤ 4096
  | .mboxResponseDone .. => true
  | .mboxIgnoredRead .. => true
  | .dictReadRequest .. => true
  | .dictWriteGeneric _ _ _ d => d.length ≤ 1408
  | .sessionIdleExpiry .. => true
  | .storeCommit .. => true
  | .storeDefaults .. => true
  | .profileDataWrite _ d => octetsWf d
  | .profileBegin .. => true
  | .profileVerify .. => true
  | .profileApply .. => true
  | .profileCancel .. => true
  | .calDataWrite _ _ d => d.length = 1024
  | .calCommit .. => true
  | .calRevert .. => true
  | .authKeyWrite .. => true
  | .mgmtNetWrite .. => true
  | .unitDrain .. => true
  | .unitDrainForce .. => true
  | .unitReturn .. => true
  | .unitPowerOff .. => true
  | .unitPowerOn .. => true
  | .unitDrainDone .. => true
  | .unitReturnDone .. => true
  | .selftestDone .. => true
  | .transitionOverrun .. => true
  | .rotationVisitStart .. => true
  | .correctedFault .. => true
  | .engineFailure .. => true
  | .unitFatalFault .. => true
  | .halfFatalFault .. => true
  | .halfRestartWrite .. => true
  | .heartbeatSend .. => true
  | .groupHeartbeatLoss .. => true
  | .aliveCountTimeout .. => true
  | .rejoin .. => true
  | .custodyGrantWrite .. => true
  | .alertAckWrite .. => true
  | .logRead .. => true
  | .rwRegisterWrite _ s o _ => o % 4 = 0 && (if s = 0 then o < 2 ^ 26 else if s = 1 then o < 65536 else o < 4096)
  | .linkGroupReturn .. => true
  | .romWatchdogExpiry .. => true
  | .mgmtLinkChange .. => true
  | .rootPortLinkUp _ l => l.length ≤ 16
  | .writeBufferPlace n _ => nsidWf n
  | .dramTrainingDone .. => true
  | .storeCommitDone .. => true
  | .calCommitDone .. => true
  | .imgVerifyDone .. => true
  | .driveRetireDone .. => true
  | .deferredFault .. => true

end Sys2Proof
end

