-- ==== Sys2Proof/Tests/Slice0.lean ====
section
/-! SUPPORT. The tests of the model, each about one step or none on a small state: for every obligation, states and operands that
meet its hypotheses (`test_hyps_<name>`; of a statement with several clauses, each clause's); for every check of WellFormed, a
command that it refuses; words of nib instructions written out from their encodings; and effects whose expected values come from
the rules that the comments name. -/

namespace Sys2Proof.Tests

open Sys2Proof Sys2Proof.Machine

set_option Elab.async false

/-! ### The state the tests start from -/

/-- The device as it runs: outputs ungated, four endpoint ports up, every PF mastering. -/
def tRun : State :=
  { State.reset with
    board := { State.reset.board with porn := true, boot := .running }
    ports := (List.range 4).map fun p => (p, { up := true, rate := 6, width := 8 })
    fns := (List.range 4).flatMap fun p => (List.range 4).map fun n => (fnKey p n, { bme := true }) }

/-- The host of port 0, through the mailbox of its PF0: an OWNER. -/
def tOwner : Who := { sess := .mbox 0, key := none }

/-- PF n of port 0. -/
def tPf (n : Fin 516) : FnRef := { port := 0, num := n }

/-- Frame n of PF1 or PF2 of port 0. -/
def tq (pf : Fin 516) (n : Nat) : QRef := { fn := tPf pf, frame := n }

/-- A slice record: slice 5, PASID form, PF1 of port 0. -/
def tRec : BitVec 512 := BitVec.ofNat 512 (2 ^ 8 + 5 * 2 ^ 16 + 2 ^ 40)

/-- The device with slice 5 in a state: four work queues from 64, two CQs from 64. -/
def tSlice (st : SliceSt) : State :=
  tRun.setSlice 5 { st := st, record := tRec, wqs := [{ start := 64, count := 4 }], cqs := [{ start := 64, count := 2 }] }

/-- The device with work queue 0 of PF1. -/
def tWq (w : Wq) : State := (tRun.setWq 0 { w with fn := fnKey 0 1 }).setCq 0 { enable := true, fn := fnKey 0 1 }

/-- The device with channel 0 of port 0. -/
def tChan (x : Chan) : State := (tRun.setChan 0 x).setCq (chanCq 0) { enable := true, fn := fnKey 0 3 }

/-! ### Witnesses: supply, reset, host ports -/

theorem test_hyps_SupplyVoltageEffects :
    (tRun.board.vin < 15000 ∧ 15000 ≤ 15000) ∧ 15000 < 15001 ∧ (9800 < tRun.board.vin ∧ 9800 ≤ 9800)
      ∧ (9799 < tRun.board.vin ∧ 9799 < 9800 ∧ tRun.board.boot ≠ .inReset) := by decide

theorem test_hyps_ResetAndColdStart :
    tRun.board.porn = true ∧ State.reset.board.porn = false ∧ State.reset.board.pwrgood = true
      ∧ State.reset.board.boot = .inReset ∧ (BitVec.ofNat 8 16).getLsbD 4 = true
      ∧ { tRun.board with boot := .streaming }.boot = .streaming ∧ { tRun.board with boot := .streaming }.rereads = 0
      ∧ { State.reset.board with pwrgood := false }.pwrgood = false := by decide

theorem test_hyps_GovernorAndLifeBudget :
    tRun.board.boot = .running ∧ (tRun.half .k).supvUp = true ∧ 550 ≤ (tRun.half .k).gov.vcore
      ∧ (tRun.half .k).gov.vcore ≤ 900 ∧ (tRun.half .q).stopped = false
      ∧ tRun.grants tOwner 0x2000 1 (leBytes 1 (2 : BitVec 8).toNat) = true ∧ tRun.k.gov.trimFallback = false
      ∧ tRun.q.gov.trimFallback = false
      ∧ (tRun.setParams .k 0x1030 1 0 2).role tOwner = 2 := by decide

theorem test_hyps_HostPortLinkEvents :
    tRun.board.boot ≠ .inReset ∧ (tRun.port 3).root = false ∧ (tRun.port 0).up = true
      ∧ ((tRun.setPort 1 { root := true, up := true }).port 1).up = true
      ∧ ((tRun.setPort 1 {}).port 1).up = false ∧ (tRun.setPort 1 {}).portTrains 1 = true
      ∧ (tRun.setPort 1 {}).trainable 1 6 8 true = true := by decide +kernel

theorem test_hyps_InterruptEnablesAndMasks :
    tRun.present (fkey (tPf 1)) = true ∧ (1 : Nat) ∈ [1, 2, 4, 8, 16, 32] ∧ tRun.mastering (fkey (tPf 1)) = true
      ∧ (tRun.fn (fkey (tPf 1))).d3 = false ∧ (tRun.fn (fkey (tPf 1))).msi = false
      ∧ tRun.tableSize (fkey (tPf 1)) - 1 < tRun.tableSize (fkey (tPf 1))
      ∧ ((tRun.setFn (fkey (tPf 1)) { msi := true }).fn (fkey (tPf 1))).msi = true := by decide

theorem test_hyps_CompletionsAndTags :
    (tRun.port 0).root = false ∧ mfind (tRun.port 0).tags 4095 = none
      ∧ (let s := (tChan { run := some { index := 0, headDesc := 0, hop := 0 } }).setPort 0
           { up := true, tags := [(0, { fn := fnKey 0 3, kind := 1, queue := chanBase }), (1, { quarantined := true }),
                                  (2, { discard := true })] }
         mfind (s.port 0).tags 0 = some { fn := fnKey 0 3, kind := 1, queue := chanBase + 0 }
         ∧ mfind (s.port 0).tags 1 = some { quarantined := true } ∧ mfind (s.port 0).tags 2 = some { discard := true }
         ∧ (s.chan 0).run = some { index := 0, headDesc := 0, hop := 0 } ∧ 4096 ≤ (4096 : Nat)) := by decide

theorem test_hyps_IdeAndSpdmSessions :
    ((tRun.setPort 0 { up := true, ide := [(0, { secure := true })] }).ideStream 0 0).secure = true
      ∧ (tRun.setPort 0 { tRun.port 0 with spdm := 1 }).present (fnKey 0 0) = true
      ∧ ((tRun.setPort 0 { tRun.port 0 with spdm := 5 }).port 0).spdm = 5 := by decide +kernel

theorem test_hyps_FunctionPowerMasteringAndReset :
    tRun.present (fkey (tPf 1)) = true ∧ (tRun.fn (fkey (tPf 1))).bme = true
      ∧ ((tRun.setFn (fkey (tPf 1)) {}).fn (fkey (tPf 1))).bme = false
      ∧ (tRun.setFn (fkey (tPf 1)) { d3 := true }).present (fkey (tPf 1)) = true
      ∧ ((tRun.setFn (fkey (tPf 1)) { pmeStatus := true }).fn (fkey (tPf 1))).pmeStatus = true
      ∧ ((tRun.setFn (fkey (tPf 1)) { flr := true }).fn (fkey (tPf 1))).flr = true
      ∧ (tRun.setFn (fkey (tPf 2)) { vfEnable := true }).present (fkey (tPf 2)) = true
      ∧ fnPf 4 = 1 ∧ fnPf 515 = 2 := by decide

theorem test_hyps_StatusReadsAndCounterClears :
    tRun.present (fnKey 3 0) = true ∧ (tRun.fn (fnKey 3 0)).d3 = false ∧ fnPf 259 = 1
      ∧ (tSlice .disabled).grants tOwner 0x6000 3 (leBytes 2 (5 : BitVec 16).toNat) = true
      ∧ ((tSlice .disabled).slice (5 : BitVec 16).toNat).used = true ∧ (tSlice .disabled).cstl.split = false
      ∧ tRun.grants tOwner 0x6000 6 (leBytes 1 (0x31 : BitVec 8).toNat) = true ∧ (0x31 : BitVec 8).toNat % 16 = 1 := by decide

/-! ### Witnesses: slices, queues, the copy engine, arbiters -/

/-- The slice-command record of an operation on slice 5. -/
def tCmd (op : Nat) : BitVec 512 := withOp tRec op

theorem test_hyps_SliceCommandsMoveSlices :
    tRun.grants tOwner 0x5000 2 (leBytes 64 (tCmd 1).toNat) = true ∧ tRun.cstl.split = false ∧ tRun.mgmt.sliceQ = []
      ∧ recId tRec < 4096 ∧ ((tSlice .enabled).slice (recId tRec)).st = .enabled
      ∧ ((tSlice .disabled).slice (recId tRec)).st = .disabled ∧ tRun.storage.detachWait = []
      ∧ (tSlice .enabled).createBad (tCmd 1) = true
      ∧ ((tSlice .disabled).port (recPort ((tSlice .disabled).slice (recId tRec)).record)).tags.all (fun e => e.2.slice != recId tRec)
          = true
      ∧ (let r := BitVec.ofNat 512 (tRec.toNat + 2 ^ 144 + 2 ^ 384)
         recHostMin r ≤ recHostMax r ∧ fld r 336 16 ≤ 1023 ∧ recHostMin r ≤ 4096 ∧ recWeight r ≠ 0
          ∧ (tSlice .enabled).hostMinSum (recPort ((tSlice .enabled).slice (recId r)).record) (recId r) + recHostMin r ≤ 4096)
      ∧ recOp (tCmd 2) = 2 := by decide +kernel

theorem test_hyps_SliceCreate_allots :
    tRun.createBad (withOp (BitVec.ofNat 512 (tRec.toNat + 2 ^ 144 + 2 ^ 384)) 1) = false
      ∧ (tRun.allot (withOp (BitVec.ofNat 512 (tRec.toNat + 2 ^ 144 + 2 ^ 384)) 1)).isSome = true := by decide +kernel

theorem test_hyps_WorkQueueRegisters :
    (tWq { st := .running }).reachesFrame (tq 1 0) 0 .k 0 4096 = true ∧ ((tWq { st := .running }).wq (wqKey .k 0)).st = .running
      ∧ (tWq { st := .running }).sliceOn ((tWq { st := .running }).wq (wqKey .k 0)).slice = true
      ∧ ((tWq { st := .running }).wq 0).doorbellOk 64 = true ∧ ((tWq { st := .running }).wq 0).doorbellOk 65 = false
      ∧ ((tWq {}).wq 0).st = .disabled ∧ (tWq {}).cqOk .k 0 4096 0 = true
      ∧ (tWq { st := .running, started := [{}] }).reachesFrame (tq 1 0) 0 .k 0 4096 = true
      ∧ (tWq { st := .running, started := [{ slots := [0] }] }).wq 0 ≠ (tWq { st := .running }).wq 0 := by decide +kernel

/-- A work entry: an opcode, one unit. -/
def tEntry (op : Nat) : Entry := { slots := [BitVec.ofNat 512 (op * 2 ^ 16)] }

theorem test_hyps_WorkEntriesFetchAndStart :
    (tWq { st := .running, doorbell := 1 }).canFetch 0 = true ∧ 0 < qpBase
      ∧ ((tWq { st := .running, doorbell := 1 }).wq 0).nextEntry [0] = some (tEntry 0)
      ∧ (tEntry 0).units ≤ Machine.dist 0 1 ∧ ((tWq { st := .running, doorbell := 1 }).wq 0).nextEntry [] = none
      ∧ (tWq { st := .running, fetched := [tEntry 0] }).nextStart 0 = some (tEntry 0)
      ∧ (tWq { st := .running, fetched := [tEntry 0] }).entryBad 0 (tEntry 0) = false
      ∧ (tWq { st := .running, fetched := [tEntry 0] }).slotFor ((tWq { st := .running, fetched := [tEntry 0] }).queueCq 0) 0 = true
      ∧ (tWq { st := .running, fetched := [tEntry 9] }).nextStart 0 = some (tEntry 9)
      ∧ (tWq { st := .running, fetched := [tEntry 9] }).entryBad 0 (tEntry 9) = true := by decide +kernel

/-- An ETH_SEND entry of one piece of 60 bytes, steered by TX_META to port 0. -/
def tSend : Entry :=
  { slots := [BitVec.ofNat 512 (2 ^ 16 + 2 ^ 43 + 60 * 2 ^ 48 + 2 ^ 95 + 60 * 2 ^ (8 * 24))] }

theorem test_hyps_EthSendEntry :
    let s := ((tSlice .enabled).setWq 64 { st := .running, fetched := [tSend], fn := fnKey 0 1, slice := 5 }).setCq 64
      { enable := true, fn := fnKey 0 1, slice := 5 }
    let t := s.setParam .k 0xA010 2 5 0xFFFF
    t.nextStart 64 = some tSend ∧ tSend.opcode = 1 ∧ (t.wq 64).ethBad tSend = false ∧ tSend.isInline = false
      ∧ t.slotFor (t.queueCq 64) 64 = true ∧ steerPort (t.txSteer (qHalf 64) (t.wq 64).slice) tSend.txMeta = some 0
      ∧ ethHalf 0 = qHalf 64 ∧ (t.slice (t.wq 64).slice).st = .enabled := by decide +kernel

theorem test_hyps_DeliveryAndInterruptTiming :
    let s := tSlice .enabled
    let f : Frame := { md := BitVec.ofNat 256 (5 * 2 ^ 60), stage := .xport }
    let t := s.setFlight .k [f]
    s.forwards .k = true ∧ (t.takeFlight .k (·.stage = .xport)).map (·.1) = some f ∧ f.forRdma = false
      ∧ blkNth (s.slice (mdSlice f.md)).wqs (mdQueue f.md) = some 64 ∧ (s.slice (mdSlice f.md)).st = .enabled
      ∧ (s.fn (recFn (s.slice (mdSlice f.md)).record)).d3 = false ∧ (s.fn (recFn (s.slice (mdSlice f.md)).record)).flr = false
      ∧ (s.port (keyPort (recFn (s.slice (mdSlice f.md)).record))).up = true
      ∧ (s.queue (wqKey (recHome (s.slice (mdSlice f.md)).record) 64)).fetched = []
      ∧ (let c := tRun.setCq 0 { irqEn := true, u := 1, fn := fnKey 0 1 }
         (c.cq 0).irqEn = true ∧ 0 < (c.cq 0).u ∧ (c.cq 0).due = false ∧ (c.fn (c.cq 0).fn).d3 = false)
      ∧ (let d := tRun.setSlice 5 { lastMsg := some 0 }
         (d.slice 5).lastMsg = some 0 ∧ (d.slice 5).heldVecs = []) := by decide +kernel

theorem test_hyps_CompletionQueueRegisters :
    let s := tRun.setCq 0 { enable := true, tail := 2, fn := fnKey 0 1 }
    s.reachesFrame (tq 1 0) 1 .k 0 4096 = true ∧ Machine.dist (s.cq (cqFrameKey (tq 1 0) .k 0)).head (s.cq 0).tail < Machine.dist 0 3
      ∧ Machine.dist 0 2 ≤ Machine.dist (s.cq (cqFrameKey (tq 1 0) .k 0)).head (s.cq 0).tail ∧ (s.fn (s.cq 0).fn).due = []
      ∧ (s.cq 0).enable = true ∧ s.cqBound 0 = false ∧ (tRun.cq 0).enable = false ∧ 4 ≤ (tRun.cq 0).logSize
      ∧ (tWq { st := .running }).cqBound 0 = true := by decide +kernel

/-- A copy descriptor of `n` bytes with an operation and flags. -/
def tDesc (op n flags : Nat) : BitVec 256 := BitVec.ofNat 256 (n + op * 2 ^ 56 + flags)

theorem test_hyps_CopyChannelRegisters :
    (tChan { st := .running }).reachesChan 0 = true ∧ ((tChan { st := .running }).chan (chanKey 0 0)).st = .running
      ∧ Machine.dist ((tChan { st := .running }).chan 0).oldest 16 ≤ 2 ^ ((tChan { st := .running }).chan 0).logSize
      ∧ ((tChan {}).chan 0).st = .disabled ∧ ((tChan {}).chan 0).paced = false ∧ 4 ≤ ((tChan {}).chan 0).logSize
      ∧ ((tChan {}).cq (chanCq (chanKey 0 0))).enable = true
      ∧ (tChan { st := .running }).mastering (chanFn (chanKey 0 0)) = true
      ∧ (tChan { st := .running }).forwards (chanHalfOf (chanKey 0 0)) = true
      ∧ ((tChan { st := .running, doorbell := 1 }).chan 0).fetchPt ≠ ((tChan { st := .running, doorbell := 1 }).chan 0).doorbell
      ∧ (tDesc 1 4 (2 ^ 63)).getLsbD 63 = true
      ∧ (tChan { st := .running, paced := true }).watchFill (chanKey 0 0) = none
      ∧ ((tChan { st := .running, run := some { index := 3, headDesc := tDesc 1 4 (7 * 2 ^ 32), hop := 0 } }).chan 0).run
          = some { index := 3, headDesc := tDesc 1 4 (7 * 2 ^ 32), hop := 0 }
      ∧ dTag (tDesc 1 4 (7 * 2 ^ 32)) = 7 := by decide +kernel

theorem test_hyps_CpyGateEval_fills :
    ((tSlice .enabled).setNode .k 3 7 { record := setFld (BitVec.ofNat 256 (2 ^ 256 - 1)) 0 16 5 }).node .k 3 7
      = { record := setFld (BitVec.ofNat 256 (2 ^ 256 - 1)) 0 16 5 } := by decide +kernel

theorem test_hyps_CopyDescriptorsExecute :
    let r := fun (op f : Nat) => ({ index := 0, headDesc := tDesc op 8 f, hop := tDesc op 8 f } : CopyRun)
    let s := fun (op f : Nat) => tChan { st := .running, run := some (r op f) }
    (∀ op ∈ [1, 2, 3], (s op 0).chanOn (chanKey 0 0) = true ∧ dOp (r op 0).headDesc = op ∧ (r op 0).left = 8
        ∧ (r op 0).hopDone ≤ dLen (r op 0).hop ∧ ((s op 0).chan (chanKey 0 0)).run = some (r op 0) ∧ dChain (r op 0).hop = false)
      ∧ dChain (tDesc 1 0 (2 ^ 62)) = true
      ∧ ({ index := 0, headDesc := tDesc 1 0 (2 ^ 62), hop := tDesc 1 0 (2 ^ 62) } : CopyRun).left = 0
      ∧ (s 1 0).hopLimit 0 = 4096 := by decide +kernel

theorem test_hyps_ArbitersGrantByPriorityAndAge :
    let s := (tRun.setArb 2 7 { reqs := [(0, { waiting := true }), (1, { waiting := true })] }).setSel tOwner.sess (obj 0x9000 1) 512
    arbExists 2 7 = true ∧ s.board.boot = .running ∧ (∃ e ∈ (s.arb 2 7).reqs, e.2.waiting = true ∧ s.reqOk 2 7 e.1 = true)
      ∧ s.arbSelOk tOwner.sess (s.reqSel tOwner.sess) = true ∧ s.arbSelOk tOwner.sess (0 : BitVec 16).toNat = true
      ∧ tRun.grants tOwner 0x9000 5 (leBytes 1 (7 : BitVec 8).toNat) = true
      ∧ tRun.grants tOwner 0x9000 4 (leBytes 2 (0 : BitVec 16).toNat) = true := by decide +kernel

/-! ### Witnesses: network ports, CIPHER -/

/-- A port of 10 Gb/s with its link up; FLOW_En of ports 0 and 1 and LOSSLESS of port 1 set. -/
def tEth : State :=
  (((((tRun.setParams .k 0x6110 0 0 0).setEth 0 { link := true, trained := 1 }).setEth 1 { link := true, trained := 1 }).setParam .k
    0xA615 1 0 1).setParam .k 0xA615 2 0 2).setParam .k 0xA616 2 0 0xFF

/-- A frame of 60 bytes from port 0. -/
def tFrame (st : Stage) : Frame := { bytes := List.replicate 60 0, stage := st }

/-- The bytes of a MACsec frame: SecTAG with C, E and an explicit SCI of 1. -/
def tTagged : List Byte :=
  List.replicate 12 0 ++ [0x88, 0xE5, 0x2C, 0, 0, 0, 0, 9, 0, 0, 0, 0, 0, 0, 0, 1] ++ List.replicate 32 0

theorem test_hyps_FramesAtTheNetworkPorts :
    (tEth.ethPort 0).link = true ∧ tEth.board.boot = .running ∧ tEth.rxLimit 0 (List.replicate 60 0) ≥ 64
      ∧ beAt (List.replicate 60 0) 12 2 ≠ 0x8808 ∧ tEth.forwards (ethHalf 0) = true
      ∧ (let t := tEth.setFlight .k [tFrame .net]
         (t.takeFlight (ethHalf 0) (fun x => x.stage = .net && x.port = 0)).map (·.1) = some (tFrame .net)
          ∧ 64 ≤ t.maxFrame 0 ∧ t.param (ethHalf 0) 0xA618 1 0 0 = 0)
      ∧ (tEth.mgmtRx .k).2 < 20000 ∧ (1522 : Nat) ≤ 1522 ∧ 1522 < (1523 : Nat)
      ∧ (tRun.ethPort 2).link = false := by decide +kernel

theorem test_hyps_PauseAndPriorityFlowControl :
    (tEth.ethPort 0).link = true ∧ tEth.flowMode 0 = 1 ∧ (tEth.ethPort 1).link = true ∧ tEth.flowMode 1 ≠ 1
      ∧ tEth.lossless 1 7 = true ∧ tEth.lossless 0 7 = false
      ∧ fld (BitVec.ofNat 128 (2 ^ 112)) (16 * 7) 16 ≠ 0 ∧ fld (BitVec.ofNat 128 (2 ^ 112)) 0 16 = 0
      ∧ (let s := tEth.setEth 1 { link := true, trained := 1, paused := [(7, { deadline := 100 })] }
         mfind (s.ethPort 1).paused 7 = some { deadline := 100 } ∧ s.param (ethHalf 1) 0xA600 5 0 100 ≠ 0
          ∧ (s.ethPort 1).stormed.getLsbD 7 = false)
      ∧ (let s := ((tEth.setParam .k 0xA110 2 0 (2 ^ 32 * 0 + 8)).setEth 1 { link := true, trained := 1, xoff := 1 }).setHostq .k 5
           { frames := [{ tFrame .tmgr with port := 1 }] }
         (s.ethPort 1).xoff.getLsbD (s.prio { tFrame .tmgr with port := 1 }) = true
          ∧ s.xonCells 1 < s.ingress 1 (s.prio { tFrame .tmgr with port := 1 })) := by decide +kernel

theorem test_hyps_NetworkPortLinksAndTimebase :
    tRun.grants tOwner 0xA610 16 (leBytes 1 (2 : BitVec 8).toNat) = true ∧ tRun.cstl.split = false
      ∧ tRun.modeOk 15 2 = true ∧ tRun.modeOk 15 6 = false
      ∧ (tRun.setParams .q 0xA610 16 0 2).linkable 15 = true ∧ (tEth.ethPort 0).link = true
      ∧ tRun.grants tOwner 0xA600 6 (leBytes 2 (15 : BitVec 16).toNat) = true
      ∧ tRun.grants tOwner 0xA600 2 (leBytes 4 (0xFFFFFFFF : BitVec 32).toNat) = true
      ∧ tRun.grants tOwner 0xA600 3 (leBytes 4 (1000001 : BitVec 32).toNat) = true
      ∧ 1000000 < (1000001 : BitVec 32).toInt := by decide +kernel

/-- Port 0 protected: VALIDATE 2, transmit SA 5 in slot AN 0, receive channel 0 of SCI 1 with SA 6 in AN 0. -/
def tMcRec : BitVec 704 :=
  BitVec.ofNat 704 (1 + 2 * 2 ^ 5 + 5 * 2 ^ 96 + 2 ^ (192 + 56) + 6 * 2 ^ 256)

/-- The device with port 0 protected by `tMcRec`. -/
def tMc : State := tEth.setParam .k 0xA210 1 0 tMcRec.toNat

theorem test_hyps_CipherLanesProtectFrames :
    (let s := tEth.setFlight .k [tFrame .cipherRx]
     s.forwards (ethHalf 0) = true ∧ s.macsecOn 0 = false
        ∧ (s.takeFlight (ethHalf 0) (fun x => x.stage = .cipherRx && x.port = 0)).map (·.1) = some (tFrame .cipherRx))
      ∧ tMc.macsecOn 0 = true ∧ tMc.cipherOut (ethHalf 0) = false ∧ beAt (tFrame .cipherRx).bytes 12 2 ≠ 0x88E5
      ∧ mcValidate (tMc.macsecRec 0) = 2 ∧ beAt tTagged 12 2 = 0x88E5 ∧ badTag tTagged = false
      ∧ badTag (List.replicate 12 0 ++ [0x88, 0xE5, 0xFF]) = true
      ∧ tMc.rxSa (ethHalf 0) (tMc.macsecRec 0) tTagged = none
      ∧ (tMc.setSa .k 6 { st := .ready, record := 0x202, next := 9 }).rxSa (ethHalf 0) (tMc.macsecRec 0) tTagged = some 6
      ∧ fullPn 9 (beAt tTagged 16 4) = 9
      ∧ mcTxSa (tMc.macsecRec 0) (mcTxAn (tMc.macsecRec 0)) = 5
      ∧ (tMc.setSa .k 5 { st := .ready, record := 0x201 }).sa (ethHalf 0) 5 = { st := .ready, record := 0x201 }
      ∧ ({ st := .ready, record := 0x201 } : Sa).serves 1 = true
      ∧ { tFrame .espTx with md := BitVec.ofNat 256 (2 ^ 131) }.espHeader = some 0
      ∧ (tRun.setSa .k 7 { st := .ready, record := 0x203 }).espSa .k (beAt (tFrame .espTx).bytes 0 4) 0 = some 7
      ∧ (tMc.setUnit .k 9 { tMc.unit .k 9 with st := UnitSt.failed }).cipherOut (ethHalf 0) = true
      ∧ (let s := tEth.setFlight .k [tFrame .espTx]
         s.forwards .k = true ∧ (s.takeFlight .k (fun x => x.stage = .espTx)).map (·.1) = some (tFrame .espTx))
      ∧ (let s := tEth.setFlight .k [tFrame .macsecTx]
         (s.takeFlight (ethHalf 0) (fun x => x.stage = .macsecTx && x.port = 0)).map (·.1) = some (tFrame .macsecTx))
      ∧ (tFrame .espTx).espHeader = none
      ∧ tRun.powered .k 9 = true ∧ (tRun.half .k).cipher.spares = 1 := by decide +kernel

/-! ### Witnesses: the key store, classification, staging, the traffic manager -/

/-- An SA_RECORD: MACSEC_TX for port 0, enabled, PN 1. -/
def tSaRec : BitVec 640 := BitVec.ofNat 640 (1 + 2 ^ 9 + 2 ^ 64)

theorem test_hyps_KeyStoreWrites :
    tRun.grants tOwner 0xA200 4 (leBytes 80 tSaRec.toNat) = true
      ∧ halfOf (tRun.sel tOwner.sess (obj 0xA200 3) 0 / 65536) = .k ∧ tRun.sel tOwner.sess (obj 0xA200 3) 0 % 16384 = 0
      ∧ saKind tSaRec ≠ 0 ∧ tRun.saOk .k 0 tSaRec = true ∧ (tRun.sa .k 0).st = .empty ∧ tRun.cstl.split = false
      ∧ tRun.saOk .k 0 (setFld tSaRec 0 8 5) = false
      ∧ tRun.grants tOwner 0xA200 4 (leBytes 80 (0 : BitVec 640).toNat) = true ∧ saKind (0 : BitVec 640) = 0
      ∧ ((tRun.setSa .k 0 { st := .ready, record := tSaRec }).sa .k 0).st = .ready
      ∧ ((tRun.setSa .k 0 { st := .fencing, record := tSaRec }).sa .k 0).st = .fencing
      ∧ mfind (tRun.half .k).cipher.waitInstall 0 = none
      ∧ tRun.grants tOwner 0xA210 16 (leBytes 88 tMcRec.toNat) = true ∧ tRun.macsecOk 0 (setFld tMcRec 8 8 4) = false
      ∧ tRun.grants tOwner 0xA200 1 (leBytes 1 (2 : BitVec 8).toNat) = true
      ∧ tRun.grants tOwner 0xA200 0x0B (leBytes 1 (3 : BitVec 8).toNat) = true
      ∧ tRun.maskOk tOwner.sess (3 : BitVec 8).toNat = true := by decide +kernel

/-- The device with a key-wrap key of security version 0 in the store. -/
def tKwk : State :=
  { tRun with nv := { tRun.nv with copy0 := { kwk := some { val := 7, v := 0 } }, copy1 := { kwk := some { val := 7, v := 0 } } } }

/-- With a key-wrap key in the store, a record has a key where the opaque function says that it unwraps, and none where not. -/
theorem test_hyps_KeyStoreWrites_key :
    (Config.unwraps 7 (saWrapped tSaRec) = true → (tKwk.saKey tSaRec).isSome = true)
      ∧ (Config.unwraps 7 (saWrapped tSaRec) = false → tKwk.saKey tSaRec = none) := by
  have h : tKwk.unseal tKwk.nv.store.kwk = some 7 := by decide +kernel
  constructor <;> intro k <;> simp [State.saKey, h, k]

theorem test_hyps_ClassificationOfFrames :
    (let s := tRun.setFlight .k [tFrame .parse]
     s.forwards .k = true ∧ (s.takeFlight .k (fun x => x.stage = .parse)).map (·.1) = some (tFrame .parse)
      ∧ (s.choosePipe .k).isSome = true)
      ∧ (([4, 5, 6].foldl (fun s i => s.setUnit .k i { st := .off }) tRun).choosePipe .k) = none
      ∧ (let f := { tFrame .ordered with dir := true, wq := 7 }
         ((tRun.setFlight .k [f]).takeFlight .k (fun x => x.stage = .ordered && x.stream = 23)).map (·.1) = some f)
      ∧ tRun.grants tOwner 0xA010 2 (leBytes 36 (BitVec.ofNat 288 (15 * 2 ^ 16)).toNat) = true
      ∧ ((tSlice .enabled).setSel tOwner.sess (obj 0xA010 1) 5).steerSel tOwner.sess = 5
      ∧ ((tSlice .enabled).slice 5).used = true ∧ (tRun.slice 5).used = false
      ∧ fld (BitVec.ofNat 288 (15 * 2 ^ 16)) 16 8 < 16 ∧ 16 ≤ fld (BitVec.ofNat 288 (16 * 2 ^ 16)) 16 8 := by decide +kernel

theorem test_hyps_StagingAndCommits :
    tRun.grants tOwner 0xA000 1 (leBytes 112 (0 : BitVec 896).toNat) = true ∧ tRun.mgmt.staging.owner = none
      ∧ tRun.mgmt.staging.changes.length < 4096
      ∧ (let s := { tRun with mgmt := { tRun.mgmt with staging := { owner := some (.mbox 1), waitK := true } } }
         s.mgmt.staging.owner ≠ some tOwner.sess ∧ s.mgmt.staging.waitsFor .k = true ∧ s.parseMoves .k = false
          ∧ (s.half .k).stopped = false ∧ s.mgmt.staging.waitsFor .q = false)
      ∧ tRun.grants tOwner 0xA000 3 [(3 : BitVec 8)] = true ∧ tRun.mgmt.staging.waitK = false ∧ tRun.mgmt.staging.waitQ = false
      ∧ tRun.firstFail tOwner.sess 3 0 tRun.mgmt.staging.changes tRun.k.cls.live tRun.q.cls.live = none
      ∧ (tRun.firstFail tOwner.sess 3 0 [BitVec.ofNat 896 0xFF] tRun.k.cls.live tRun.q.cls.live).isSome = true
      ∧ tRun.grants tOwner 0xA000 5 [1] = true ∧ tRun.grants tOwner 0xA000 0x0B (leBytes 1 (3 : BitVec 8).toNat) = true := by
  decide +kernel

/-- Slice 5 with slice node 3 on half K, which leaf 9 of it hangs below; the node is attached to group 0, below port 0. -/
def tTree : State :=
  let s := ((tEth.setSlice 5 { st := .enabled, record := tRec, nodeK := some 3 }).setNode .k 3 9
    { record := BitVec.ofNat 256 (0x80 + 2 ^ 16 + 5 * 2 ^ 192), frames := [{ tFrame .tmgr with dir := true }] })
  s.setNode .k 2 3 { record := BitVec.ofNat 256 (0x80 + 5 * 2 ^ 192), att := BitVec.ofNat 512 (2 ^ 16) }

theorem test_hyps_TrafficManagerQueues :
    (let s := tEth.setFlight .k [tFrame .tmgr]
     s.forwards .k = true ∧ (s.takeFlight .k (fun x => x.stage = .tmgr)).map (·.1) = some (tFrame .tmgr)
      ∧ s.hostDrop .k (tFrame .tmgr) = none)
      ∧ (let s := tEth.setParam .k 0xA100 8 0 0
         s.hostDrop .k (tFrame .tmgr) = some 7 ∧ s.lossless 0 (s.prio (tFrame .tmgr)) = false
          ∧ s.hostqMax .k < cellSum (s.hostq .k (mdSlice (tFrame .tmgr).md)).frames + (tFrame .tmgr).cells)
      ∧ (tEth.ethPort 2).link = false ∧ (tEth.ethPort 0).link = true
      ∧ bit (tEth.ethPort 0).stormed (ndTc (tEth.node .k 3 0).record) = false
      ∧ ndEnable (tEth.node .k 3 0).record = true
      ∧ profPmax (tEth.profile .k (ndProfile (tEth.node .k 3 0).record)) = 0
      ∧ ((tEth.setHostq .k 5 { frames := [tFrame .tmgr] }).hostChoose .k).isSome = true
      ∧ tTree.works (ethHalf 0) 13 = true
      ∧ (tTree.schedule 0).map (fun x => x.1) = some { group := 0, snode := 3, att := 0, leaf := 9 }
      ∧ (tTree.node (ethHalf 0) 3 9).frames = [{ tFrame .tmgr with dir := true }]
      ∧ 65535 < levelSize 3 ∧ 2047 < levelSize 2 ∧ tRun.board.boot = .running := by decide +kernel

theorem test_hyps_TrafficManagerObjects :
    let r := BitVec.ofNat 256 (0x80 + 2 ^ 16)
    let s := tTree.setSel tOwner.sess (obj 0xA100 1) (3 * 2 ^ 18 + 9)
    let u := tTree.setSel tOwner.sess (obj 0xA100 1) (2 * 2 ^ 18 + 3)
    s.grants tOwner 0xA100 2 (leBytes 32 r.toNat) = true ∧ s.nodeSel tOwner.sess = { half := .k, level := 3, num := 9 }
      ∧ (s.nodeSel tOwner.sess).exists_ = true ∧ s.away tOwner.sess .k = false ∧ nodeRange 3 r = true
      ∧ nodeRange 3 (setFld r 16 16 0) = false
      ∧ s.moves (s.nodeSel tOwner.sess) (nodeTaken 3 (s.node .k 3 9).latest r) = false
      ∧ s.moves (s.nodeSel tOwner.sess) (nodeTaken 3 (s.node .k 3 9).latest (setFld r 12 4 1)) = true
      ∧ overReserved s (s.writeNode (s.nodeSel tOwner.sess) (nodeTaken 3 (s.node .k 3 9).latest r)) .k = false
      ∧ u.grants tOwner 0xA100 3 (leBytes 64 (0 : BitVec 512).toNat) = true ∧ (u.nodeSel tOwner.sess).level = 2
      ∧ attachRange (BitVec.ofNat 512 (2 ^ 512 - 1)) = true ∧ attachRange (BitVec.ofNat 512 512) = false
      ∧ tRun.grants tOwner 0xA100 7 (leBytes 16 (BitVec.ofNat 128 profileDefault).toNat) = true
      ∧ profileRange (BitVec.ofNat 128 profileDefault) = true ∧ profileRange 0 = false
      ∧ overReserved tRun (tRun.setParam .k 0xA100 7 0 (BitVec.ofNat 128 profileDefault).toNat) .k = false
      ∧ tRun.grants tOwner 0xA110 16 (leBytes 12 (BitVec.ofNat 96 5).toNat) = true
      ∧ fld (BitVec.ofNat 96 5) 32 32 < fld (BitVec.ofNat 96 5) 0 32
      ∧ tRun.grants tOwner 0xA100 0x0A (leBytes 32 (0 : BitVec 256).toNat) = true ∧ policerRange 0 = true
      ∧ policerRange (BitVec.ofNat 256 (2 ^ 128 - 1)) = false
      ∧ tRun.grants tOwner 0xA100 0x0D (leBytes 1 (3 : BitVec 8).toNat) = true := by decide +kernel

/-! ### Witnesses: nib cores -/

/-- Thread 0 of the NIB unit KE-0. -/
def tTh : Th := { unit := 0, slot := 0 }

/-- The device with a word at address 0 of KE-0's code, an image of zeros, and thread 0 in a state. -/
def tNib (w : BitVec 32) (t : Thread) : State :=
  tRun.setNib 0 { image := some (List.replicate 1152 0), code := [(0, w)], threads := [(0, t)] }

/-- A thread that runs at address 0, v2 and v3 at values. -/
def tRunning (a b : Word) : Thread := { st := .running, regs := [(2, a), (3, b)] }

theorem test_hyps_NibAluInstructions :
    ∀ f ∈ List.range 0x14, (tNib (encR 0 31 2 3 f) (tRunning 1 2)).issues tTh (encR 0 31 2 3 f) = true := by decide +kernel

theorem test_hyps_NibImmediateInstructions :
    (∀ k ∈ [1, 2, 3, 4, 5, 6, 7, 8, 9, 10, 11, 12, 13],
        (tNib (encI k 31 2 0xFFFF) (tRunning 1 2)).issues tTh (encI k 31 2 0xFFFF) = true)
      ∧ 64 < 0xFFFF % 64 + (0xFFFF / 64 % 64 + 1) ∧ 0x0FC0 % 64 + (0x0FC0 / 64 % 64 + 1) ≤ 64 := by decide +kernel

theorem test_hyps_NibLoadsStoresAndAtomics :
    let f : Frame := tFrame .parse
    (∀ k ∈ List.range 4, (tNib (encI (0x10 + k) 1 2 0) (tRunning 0xFF8 2)).issues tTh (encI (0x10 + k) 1 2 0) = true
        ∧ (tNib (encI (0x14 + k) 1 2 0) (tRunning 0xFF8 2)).issues tTh (encI (0x14 + k) 1 2 0) = true)
      ∧ (∀ k ∈ List.range 5, (tNib (encR 0x18 1 2 3 k) (tRunning 0x11FFFF8 2)).issues tTh (encR 0x18 1 2 3 k) = true)
      ∧ (∀ a ∈ [0xFF8, 0x11FFFF8, 0x40000000, 0x10038, 0x10100, 0x10120, 0x2000, 0xFFFFFFFF],
          ((tNib 0 (tRunning (BitVec.ofNat 64 a) 2)).rv tTh 2 + (0 : BitVec 16).signExtend 64).toNat = a)
      ∧ (let s := tNib 0 { tRunning 0 0 with frame := some f }
         (s.thr tTh).frame = some f ∧ 0x10038 - 0x10000 + 4 ≤ f.bytes.length ∧ f.bytes.length < 0x10038 - 0x10000 + 8)
      ∧ ((tNib 0 (tRunning 0 0)).thr tTh).frame = none ∧ ((tNib 0 (tRunning 0 0)).nib 0).lost = none
      ∧ ((tNib 0 (tRunning 0 0)).nib 0).region 0x2000 = none
      ∧ (let s := tRun.setNib 0 { image := some (List.replicate 20 0 ++ [0, 1]) }
         0x40000000 < 0x40000000 + (s.nib 0).img 20 2 * 1048576) := by decide +kernel

theorem test_hyps_NibControlFlow :
    (∀ k ∈ List.range 6, (tNib (encI (0x20 + k) 2 3 0x8000) (tRunning 1 2)).issues tTh (encI (0x20 + k) 2 3 0x8000) = true)
      ∧ (∀ k ∈ [0x26, 0x27], (tNib (encJ k 0x2000000) (tRunning 1 2)).issues tTh (encJ k 0x2000000) = true)
      ∧ (tNib (encR 0x28 31 2 0 0) (tRunning 1 2)).issues tTh (encR 0x28 31 2 0 0) = true := by decide +kernel

theorem test_hyps_NibSystemInstructions :
    (∀ k ∈ List.range 9, (tNib (encR 0x30 28 2 0 k) (tRunning 1 2)).issues tTh (encR 0x30 28 2 0 k) = true)
      ∧ (let s := tNib 0 { tRunning 0x40 0 with pend := 0x40#32 }
         (s.nib 0).events (s.thr tTh) &&& (s.rv tTh 2).truncate 32 = 0x40#32)
      ∧ ((tNib 0 (tRunning 0 0)).nib 0).events ((tNib 0 (tRunning 0 0)).thr tTh) &&& 0x40#32 = 0
      ∧ ((tNib 0 (tRunning 0 0)).th 0 1).st = .idle
      ∧ (((tNib 0 (tRunning 0 0)).setTh 0 1 { st := .waiting, mask := 0x40 }).th 0 1).mask.getLsbD 6 = true
      ∧ (2 ^ 40 - 1 : Nat) < 2 ^ 40 ∧ ((tNib 0 { tRunning 0 0 with armed := true }).thr tTh).armed = true
      ∧ (tNib 0 (tRunning 0 0)).nv.programBlown = false
      ∧ ((tNib 0 { tRunning 0 0 with result := some [1, 2, 3, 4] }).thr tTh).result = some [1, 2, 3, 4] := by decide +kernel

theorem test_hyps_NibPacketsAndLookups :
    let f : Frame := { tFrame .parse with md := setFld 0 143 1 1 }
    let s := tNib (encR 0x31 0 2 0 0) { tRunning 0x2002 0 with frame := some f }
    s.issues tTh (encR 0x31 0 2 0 0) = true ∧ (s.thr tTh).frame = some f ∧ (s.thr tTh).frameExc = false
      ∧ (s.rv tTh 2).toNat % 256 = 2 ∧ 0x20 ≤ (s.rv tTh 2).toNat / 256 % 256 ∧ (s.rv tTh 1).toNat % 256 = 0
      ∧ mdChosen f.pendWord = true ∧ (((tSlice .enabled).setWq 64 { rx := true, slice := 5, st := .running }).isolate .k { tFrame .parse with md := BitVec.ofNat 256 (5 * 2 ^ 60 + 2 ^ 143) }).isNone = true
      ∧ mdMirror f.pendWord = 0
      ∧ (tNib (encR 0x31 1 0 0 1) (tRunning 0 0)).issues tTh (encR 0x31 1 0 0 1) = true
      ∧ (∀ k ∈ [0, 1, 2, 3, 4, 15], (tNib (encI 0x32 0 27 k) (tRunning 0 0)).issues tTh (encI 0x32 0 27 k) = true
          ∧ (tNib (encI 0x32 0 0 k) (tRunning 0 0)).issues tTh (encI 0x32 0 0 k) = true)
      ∧ ((tNib 0 (tRunning 0 0)).thr tTh).lookup = none ∧ ((tNib 0 (tRunning 0 0)).thr tTh).result = none
      ∧ ((tNib 0 { tRunning 0 0 with lookup := some (0, 0) }).thr tTh).lookup.isSome = true := by decide +kernel

/-- KE-0 with the frame of thread 0 second in the queue of lock 5, behind the frame of thread 1, which waits. -/
def tLock (w : BitVec 32) (q : List Nat) : State :=
  tRun.setNib 0
    { image := some (List.replicate 1152 0), code := [(0, w)], locks := [(5, { queue := q })]
      threads := [(0, { tRunning 5 0 with frame := some { tFrame .parse with arrival := 7 } }),
                  (1, { st := .waitLock, frame := some { tFrame .parse with arrival := 8 } })] }

theorem test_hyps_NibChannelsLocksAndSubmissions :
    (∀ k ∈ List.range 5, (tNib (encR 0x34 23 2 3 k) (tRunning 1 63)).issues tTh (encR 0x34 23 2 3 k) = true)
      ∧ ((tNib 0 { tRunning 1 63 with staged := some (63, List.replicate 7 0) }).thr tTh).staged = some (63, List.replicate 7 0)
      ∧ (mget (tNib 0 (tRunning 1 63)).nibs 0 {}).chans = []
      ∧ (mget ((tRun.setNib 0 { chans := [(63, List.replicate 15 [])] }).nib 0).chans 63 []).length < 16
      ∧ 16 ≤ (mget ((tRun.setNib 0 { chans := [(63, List.replicate 16 [])] }).nib 0).chans 63 []).length
      ∧ (∀ k ∈ List.range 4, (tLock (encR 0x35 1 2 0 k) [7, 8]).issues tTh (encR 0x35 1 2 0 k) = true
          ∧ (tNib (encR 0x35 1 2 0 k) (tRunning 1 63)).issues tTh (encR 0x35 1 2 0 k) = true)
      ∧ ((tLock 0 [7, 8]).nib 0).lockOf 7 = some 5 ∧ (((tLock 0 [7, 8]).nib 0).lock 5).queue.head? = some 7
      ∧ (((tLock 0 [8, 7]).nib 0).lock 5).queue.head? ≠ some 7 ∧ (((tLock 0 [7, 8]).nib 0).lock 5).queue.erase 7 = [8]
      ∧ ((tLock 0 [7, 8]).nib 0).holder 8 = some 1 ∧ ((tNib 0 (tRunning 1 63)).nib 0).heldLock 0 = none
      ∧ (∀ k ∈ [0, 1, 2], (tNib (encI 0x36 0 2 0xFFC0) { tRunning 0x1000 63 with scratch := [(0xFC0, k)] }).issues tTh
          (encI 0x36 0 2 0xFFC0) = true)
      ∧ ((tNib 0 (tRunning 0x1000 63)).rv tTh 2 + (0xFFC0 : BitVec 16).signExtend 64).toNat = 0xFC0
      ∧ (mget ((tNib 0 { tRunning 0x1000 63 with scratch := [(0xFC0, 2)] }).thr tTh).scratch 0xFC0 0).toNat = 2 := by
  decide +kernel

theorem test_hyps_NibUnitEvents :
    let im := List.replicate 1152 (0 : Byte)
    let n : Nib := { image := some ((im.set 544 1).set 552 2), waitD := [tFrame .parse], waitE := [tFrame .parse],
                     threads := [(0, { st := .waiting, mask := 1 }), (1, { st := .waiting, mask := 1 })] }
    let s := tRun.setNib 7 n
    s.nibRuns 7 = true ∧ (s.nib 7).waitD = [tFrame .parse] ∧ (List.range 64).find? ((s.nib 7).takes 1) = some 0
      ∧ (List.range 64).find? ((s.nib 7).takes 2) = some 1
      ∧ ((tNib 0 { tRunning 0 0 with lookup := some (1, 5) }).thr tTh).lookup = some (1, 5) ∧ tRun.active .k 7 = true
      ∧ tRun.k.cls.live.hit 1 5 0 5 = none
      ∧ takeSub 1 [{ kind := 1, addr := 0, frame := none }] = some ({ kind := 1, addr := 0, frame := none }, [])
      ∧ takeSub 2 [] = none ∧ tRun.works (nibHalf 0) 9 = true
      ∧ ((tNib 0 { tRunning 0 0 with timer := some 80 }).thr tTh).timer = some 80
      ∧ (let u := tRun.setNib 0 { threads := [(0, { st := .waiting, mask := 0x100 })] }
         u.nibRuns 0 = true ∧ (u.nib 0).stale = true ∧ (u.nib 0).staleFired = false)
      ∧ ((tRun.setUnit .q 3 { st := .draining }).unit (nibHalf 7) (7 % 4)).st = .draining := by decide +kernel

theorem test_hyps_NibImagesAndDebug :
    let ld := fun l : Load => { tRun with mgmt := { tRun.mgmt with nibLoad := l } }
    let m := ld { owner := some tOwner.sess }
    let i := (ld { owner := some tOwner.sess, verified := true }).setUnit .k 0 { st := .service }
    let hs := (tNib 0x04200005#32 { tRunning 0 0 with halted := some 1 }).accepted tOwner
    tRun.grants tOwner 0xA700 2 [1, 2] = true ∧ tRun.mgmt.nibLoad.busy = false ∧ tRun.mgmt.nibLoad.mine tOwner.sess = true
      ∧ (ld { busy := true }).grants tOwner 0xA700 3 [1] = true ∧ (ld { busy := true }).mgmt.nibLoad.busy = true
      ∧ (∀ v ∈ [1, 2, 3, 4], m.grants tOwner 0xA700 3 [v] = true) ∧ m.mgmt.nibLoad.owner = some tOwner.sess
      ∧ i.mgmt.nibLoad.verified = true ∧ i.installable i.mgmt.nibLoad.target = true ∧ m.installable m.mgmt.nibLoad.target = false
      ∧ i.overflowFits i.mgmt.nibLoad.target (imOverflow (envPayload i.mgmt.nibLoad.buf)) = true
      ∧ ((ld { busy := true }).setUnit .k 0 { st := .service }).installable 0 = true
      ∧ tRun.dbgThread tOwner.sess = (0, 0) ∧ (∀ v ∈ [1, 2, 3, 4, 5, 6], tRun.grants tOwner 0xA720 2 [v] = true)
      ∧ ((tNib 0 (tRunning 0 0)).th 0 0).halted = none ∧ (hs.th 0 0).halted.isSome = true ∧ hs.nibRuns 0 = true
      ∧ (hs.nib 0).fetch (hs.th 0 0).pc = some 0x04200005#32 ∧ (nibMeaning 0x04200005#32).isSome = true := by decide +kernel

theorem test_hyps_NibInstructionsActAtTheirWord :
    (nibWord (.addi tTh 1 0 5)) = some (tTh, 0x04200005#32) ∧ (tNib 0 (tRunning 0 0)).ready 0 0 = true
      ∧ ((tNib 0xFFFFFFFF (tRunning 0 0)).nib 0).fetch 0 = some 0xFFFFFFFF#32 ∧ usedBits 0xFFFFFFFF#32 = none
      ∧ (usedBits (0 : BitVec 32)).isSome = true ∧ sameWord (0 : BitVec 32) 0x04200005#32 = false
      ∧ (tNib 0 {}).ready 0 0 = false := by decide +kernel

/-! ### Witnesses: RDMA -/

/-- Slice 5 of PF1 with the QP pool entries 0 to 3, a CQ, a completion queue block and TX_STEER of port 0. -/
def tRdma (x : Qp) : State :=
  let r := BitVec.ofNat 512 (tRec.toNat + 4 * 2 ^ 160)
  let s := tRun.setSlice 5 { st := .enabled, record := r, wqs := [{ start := 64, count := 4 }], cqs := [{ start := 64, count := 2 }], page := 9,
                             wins := [{ start := 0, count := 8 }] }
  ((s.setCq 64 { enable := true, fn := fnKey 0 1, slice := 5 }).setParam .k 0xA010 2 5 0xFFFF).setQpk 0 x

/-- A doorbell page of slice 5. -/
def tPage : QRef := { fn := tPf 1, frame := 9 }

/-- A queue of a QP of slice 5 with entries fetched. -/
def tQ (es : List Entry) : Wq := { st := .running, fetched := es, slice := 5, fn := fnKey 0 1, shadow := 0 }

/-- A MODIFY record to a state: QP 0, MTU 256, logs 6. -/
def tMod (st : Nat) : BitVec 1024 :=
  BitVec.ofNat 1024 (1 + st * 2 ^ 8 + 6 * 2 ^ 80 + 6 * 2 ^ 84 + 14 * 2 ^ 600 + 2 ^ 616)

/-- A QP in a state whose record has the READ, WRITE and ATOMIC permissions and permits one READ at a time. -/
def tQp (st : QpSt) : Qp :=
  { st := st, cached := true, slice := 5, record := BitVec.ofNat 1024 (7 * 2 ^ 76), sq := tQ [], rq := tQ [] }

theorem test_hyps_QueuePairCommands :
    (tRdma (tQp .rts)).reachesQp tPage 0 0 = true ∧ (tRdma (tQp .rts)).reachesBlock tPage = true
      ∧ ((tRdma (tQp .rts)).qpk 0).st ≠ .reset ∧ ((tRdma (tQp .rts)).queue (sqOf 0)).st = .running
      ∧ (tRdma (tQp .rts)).sliceOn ((tRdma (tQp .rts)).queue (sqOf 0)).slice = true
      ∧ ((tRdma (tQp .rts)).queue (sqOf 0)).doorbellOk 64 = true
      ∧ ((tRdma {}).qpk 0).st = .reset ∧ (tRdma {}).reachesQp tPage (qrQp (tMod 1)) 0 = true ∧ qrOp (tMod 1) = 1
      ∧ qrState (tMod 1) = 1 ∧ (tRdma {}).initOk 0 (((tRdma {}).rdqBlock tPage).1.getD 4096) (tMod 1) = true
      ∧ (((tRdma {}).half (qpHalf 0)).rdma.qps.filter fun e => e.2.cached).length < 16384
      ∧ (∀ x ∈ [(QpSt.init, 2), (.rtr, 3), (.rts, 3), (.error, 1), (.rts, 4), (.error, 0)],
          (tRdma (tQp x.1)).reachesQp tPage (qrQp (tMod x.2)) 0 = true ∧ ((tRdma (tQp x.1)).qpk 0).st = x.1
            ∧ qrState (tMod x.2) = x.2)
      ∧ timersOk (tMod 3) = true ∧ ((tRdma (tQp .rts)).qpk 0).sq.started = [] ∧ ((tRdma (tQp .rts)).qpk 0).sq.abort = none
      ∧ ((tRdma { tQp .rts with sq := { tQ [] with started := [{}] } }).qpk 0).sq.started.any
          (fun e => ({ index := 0, tag := 0, atag := 0 } : Abort).hits e) = true
      ∧ ((tRdma { tQp .rts with cached := false, fetching := true }).qpk 0).fetching = true
      ∧ ((tRdma { tQp .rts with slice := 4096, sq := { tQ [] with slice := 4096 } }).qpk 0).sq.slice = 4096 := by decide +kernel

/-- A work entry of a send queue: an opcode and 8 bytes, in line or not. -/
def tSq (op : Nat) (inl : Bool) : Entry :=
  { slots := [BitVec.ofNat 512 (2 ^ 43 * 0 + op * 2 ^ 16 + (if inl then 2 ^ 62 else 2 ^ 56 + 8 * 2 ^ (8 * 40)) + 8 * 2 ^ 192)] }

theorem test_hyps_RdmaRequester :
    (∀ op ∈ [0x10, 0x11, 0x12, 0x13, 0x14, 0x15, 0x16],
        let e := tSq op false
        let s := tRdma { tQp .rts with sq := tQ [e] }
        s.sqNext 0 = some e ∧ e.opcode = op ∧ e.sqBad (qrUd (s.qpk 0).record) (qrMtu (s.qpk 0).record) = false
          ∧ qrUd (s.qpk 0).record = false ∧ s.slotFor (s.queueCq (sqOf 0)) (sqOf 0) = true
          ∧ (s.qpk 0).readsOut < qrReqDepth (s.qpk 0).record
          ∧ s.slicePort (qpHalf 0) (s.qpk 0).slice (qrTxMeta (s.qpk 0).record) = some 0 ∧ ethHalf 0 = qpHalf 0
          ∧ e.rdmaInline = false ∧ e.rdmaLen ≠ 0 ∧ s.freeTag (s.qpk 0).sq.fn = some 0)
      ∧ (let e : Entry := { slots := [BitVec.ofNat 512 (0x10 * 2 ^ 16 + 2 ^ 43 + 2 ^ 56 + 8 * 2 ^ (8 * 40) + 8 * 2 ^ 192), 0] }
         let s := tRdma { tQp .rts with record := BitVec.ofNat 1024 (2 ^ 64), sq := tQ [e] }
         s.sqNext 0 = some e ∧ e.opcode = 0x10 ∧ qrUd (s.qpk 0).record = true)
      ∧ (let o : Outst := { entry := tSq 0x12 false, psn := 0, npkts := 1 }
         let s := tRdma { tQp .rts with outst := [o], nextPsn := 1 }
         s.takesResp .k 0 { qp := 0x100000, psn := 0, answer := .ack } = true ∧ (s.qpk 0).outst = [o]
          ∧ psnAtOrAfter (psnAdd o.psn (o.npkts - 1)) 0 = true ∧ (s.qpk 0).rnrAt = none
          ∧ s.sliceOn (s.qpk 0).sq.slice = true ∧ s.cqTakes (s.queueCq (sqOf 0)) = true)
      ∧ (let o : Outst := { entry := tSq 0x12 false, psn := 0, npkts := 4 }
         let s := tRdma { tQp .rts with outst := [o], nextPsn := 4 }
         s.takesResp .k 0 { qp := 0x100000, psn := 2, answer := .ack } = true ∧ psnDist o.psn 2 + 1 < o.npkts
          ∧ psnAtOrAfter (s.qpk 0).unacked 2 = true)
      ∧ ((tRdma { tQp .rts with rnrAt := some 100 }).qpk 0).rnrAt = some 100 := by decide +kernel

/-- A packet for QP 0 of slice 5. -/
def tPkt (op : RoceOp) (psn : BitVec 24) : RocePkt :=
  { roce := true, slice := 5, destQp := 0x100000, srcQp := 0, op := op, first := true, last := true, imm := none, ackReq := true,
    order := false, psn := psn, rkey := 1, va := 0, total := 0, swap := 0, compare := 0, qKey := 0, payload := [], ipv4 := true,
    icrcOk := true, ce := false, atomicResult := some 7 }

theorem test_hyps_RdmaResponder :
    let w : Win := { st := .opened, base := 0, len := 8, rights := 7, gen := 1 }
    let s := (tRdma { tQp .rts with ePsn := 9, atomics := [(3, 7)] }).setWin .k 0 w
    s.forwards .k = true ∧ s.qpHolder 0 = 5 ∧ s.qpHolder 9 ≠ 5 ∧ (tPkt .send 9).destQp = 0 + 0x100000
      ∧ (∀ st ∈ [QpSt.reset, .init, .error], ((tRdma (tQp st)).qpk 0).st = st)
      ∧ (∀ op ∈ [RoceOp.send, .write, .read, .cas, .fadd], s.takesRoce .k 0 (tPkt op 9) = true)
      ∧ ((tRdma { tQp .rts with cached := false }).qpk 0).cached = false
      ∧ s.parkedBytes .k + (tPkt .send 9).payload.length ≤ 2097152
      ∧ s.slicePort .k (s.qpk 0).slice (qrTxMeta (s.qpk 0).record) = some 0 ∧ (tPkt .send 9).psn = (s.qpk 0).ePsn
      ∧ s.windowOk 0 1 0 0 0 = true ∧ s.windowOk 0 1 0 0 1 = true ∧ s.windowOk 0 1 0 8 2 = true ∧ s.windowOk 0 2 0 8 2 = false
      ∧ qrReadEn (s.qpk 0).record = true ∧ qrWriteEn (s.qpk 0).record = true ∧ qrAtomicEn (s.qpk 0).record = true
      ∧ s.rqNext 0 = none ∧ psnDist (s.qpk 0).ePsn 10 < 8388608 ∧ 8388608 ≤ psnDist (s.qpk 0).ePsn 8
      ∧ (s.qpk 0).atomics.find? (fun x => x.1 = 3) = some (3, 7)
      ∧ (let e : Entry := { slots := [BitVec.ofNat 512 (0x18 * 2 ^ 16 + 2 ^ 32 + 64 * 2 ^ (8 * 24))] }
         let u := tRdma { tQp .rts with rq := tQ [e] }
         u.rqNext 0 = some e ∧ (tPkt .send 0).payload.length ≤ e.recvRoom)
      ∧ s.ccEn .k = true ∧ 0 < s.param .k 0xA300 4 0 40 ∧ (1048575 : Nat) < 1048576 := by decide +kernel

theorem test_hyps_RdmaWindows :
    let s := tRun.setWin .k 3 { st := .closed, base := BitVec.ofNat 64 (2 ^ 64 - 8), len := 8 }
    s.reachesFrame (tq 1 3) 3 .k 3 4096 = true ∧ (s.win .k 3).st = .closed ∧ 0 < (s.win .k 3).len.toNat
      ∧ (s.win .k 3).base.toNat + (s.win .k 3).len.toNat ≤ 2 ^ 64
      ∧ ((s.setWin .k 3 { st := .opened }).win .k 3).st = .opened
      ∧ ((s.setWin .k 3 { st := .revoking }).win (halfOf (3 / 131072)) (3 % 131072)).st = .revoking
      ∧ 2 ^ 64 < ((s.setWin .k 3 { base := BitVec.ofNat 64 (2 ^ 64 - 8), len := 9 }).win .k 3).base.toNat + 9
      ∧ tRun.grants tOwner 0xA300 0x0B [(3 : BitVec 8)] = true ∧ tRun.maskOk tOwner.sess (3 : BitVec 8).toNat = true := by
  decide +kernel

/-! ### Witnesses: storage and memory -/

/-- Slice 5 of PF2 with the storage queues 8 (its admin queue) to 11 and a CQ, namespace 7 of 1,000 blocks attached, a drive of 1 TB, and
the commands of its admin queue and of its queue 1. -/
def tStore (adm io : List SCmd) : State :=
  let s := tRun.setSlice 5
    { st := .enabled, record := BitVec.ofNat 512 (tRec.toNat + 2 ^ 40 + 2 ^ 320), sqs := [{ start := 8, count := 4 }], cqs := [{ start := 64, count := 2 }] }
  let t := ((s.setCq (65536 + 64) { enable := true, fn := fnKey 0 2, slice := 5 }).setStq 8
    { st := .running, slice := 5, fn := fnKey 0 2, cmds := adm }).setStq 9 { st := .running, slice := 5, fn := fnKey 0 2, cmds := io }
  let u := (t.setNs 7 { st := .ready, size := 1000, attached := [5] }).setDrive 3 { st := .admitted, capacity := 1000000000000 }
  { u with mem := { u.mem with carveK := [0, 0, 0, 0, 1048576, 1000000000] } }

/-- A command of an opcode on two blocks of namespace 7 from block 998. -/
def tSc (op seq : Nat) : SCmd :=
  { seq := BitVec.ofNat 16 seq, arrival := seq
    cmd := BitVec.ofNat 512 (op + 7 * 2 ^ 32 + 998 * 2 ^ 64 + 2 * 2 ^ 128 + (if op < 0x80 then 1024 * 2 ^ 256 else 0)) }

theorem test_hyps_StorageQueueRegisters :
    let s := tStore [] []
    let d := tRun.setStq 12 { committed := [] }
    s.reachesFrame (tq 2 9) 2 .k 9 5 = true ∧ unassigned 9 5 = false
      ∧ d.reachesFrame (tq 2 0) 2 .k 0 4096 = true ∧ unassigned 0 4096 = false ∧ stqKey (tq 2 0) .k 0 4096 = 8192
      ∧ ((tRun.setStq 8192 { st := .running }).stq (stqKey (tq 2 0) .k 0 4096)).st = .running
      ∧ ((tRun.setStq 8192 { st := .running }).stq 8192).taken 15 = false
      ∧ ((tRun.setStq 8192 { st := .running, committed := [15] }).stq 8192).taken 15 = true
      ∧ (tRun.stq 8192).st = .disabled ∧ tRun.cqOk .k 1 4096 0 = false
      ∧ (tRun.setCq 65536 { enable := true }).cqOk .k 1 4096 0 = true ∧ tRun.storage.detachWait = []
      ∧ ((tRun.setStq 8192 { st := .running, committed := [15] }).stq 8192).committed = [15]
      ∧ tRun.forwards (stqHalf 8192) = true ∧ (tRun.stq 8192).cmds.length < 256 := by decide +kernel

theorem test_hyps_StorageCommands :
    (∀ op ∈ [1, 2, 3, 4, 5, 6], (tStore [] [tSc op 0]).starts 9 op (tSc op 0) = true)
      ∧ (List.replicate 1024 (0 : Byte)).length = (tStore [] []).scBytes (tSc 2 0)
      ∧ ((tStore [] []).ns 7).firstBad (scSlba (tSc 1 0).cmd) (scNlb (tSc 1 0).cmd) = none
      ∧ (((tStore [] []).setNs 7 { size := 1000, place := [(31, 3)], lost := [31] }).ns 7).firstBad 998 2 = some 998
      ∧ (tStore [] []).pinned 7 = false
      ∧ (let c := { tSc 1 3 with started := true, outcome := some (0, 1024, 0) }
         let s := tStore [] [c]
         (s.stq 9).cmds.find? (fun x => x.seq.toNat = c.seq.toNat) = some c ∧ s.sliceOn (s.stq 9).slice = true
          ∧ s.storage.detachWait = [] ∧ (s.stq 9).abort = none ∧ s.cqTakes (s.stqCq 9) = true)
      ∧ (let c := tSc 7 3
         let s := tStore [] [c]
         s.stqAdmin 9 = false ∧ (s.stq 9).next = some c ∧ s.stqRuns 9 = true ∧ s.cmdFault 9 c = some stMalformed
          ∧ s.slotFor (s.stqCq 9) (stqBase + 9) = true)
      ∧ (let s := (tStore [] [tSc 1 3]).setStq 10 { frozen := true, frozenAt := 5, slice := 5, cmds := [tSc 2 1] }
         s.frozenFor 9 (tSc 1 3) = some 5)
      ∧ (let s := (tStore [] [tSc 1 3]).setNs 7 { st := .locked, size := 1000, attached := [5] }
         s.cmdFault 9 (tSc 1 3) = none ∧ (s.ns (scNsid (tSc 1 3).cmd)).st = .locked)
      ∧ (let s := (tStore [] []).setNs 7 { st := .ready, size := 1000, buf := [(3, [some []])] }
         ((s.ns 7).latest 3).isSome = true ∧ (s.half (s.ns 7).home).stopped = false ∧ s.placeable 7 3 = true
          ∧ s.bestDrive .k = some 3 ∧ (s.ns 7).holds 3 = true) := by decide +kernel

theorem test_hyps_StorageAdminCommands :
    (∀ op ∈ [0x80, 0x81, 0x82, 0x83, 0x84],
        (tStore [] []).nsTaken (.mgmt tOwner (tSc op 0).cmd) op (tSc op 0).cmd = true
          ∧ (tStore [tSc op 0] []).adminStarts 8 op (tSc op 0) = true)
      ∧ (tStore [] []).canReach ((tStore [] []).srcHalf (.mgmt tOwner 0)) .k = true
      ∧ (mfind (tStore [] []).storage.nss 7).isSome = true ∧ mfind tRun.storage.nss 7 = none
      ∧ (((tStore [] []).setNs 7 { st := .ready }).ns 7).attached = []
      ∧ (tStore [] []).nsCount 5 = 1 ∧ recNs ((tStore [] []).slice 5).record = 1
      ∧ ((tStore [] []).slice 5).used = true ∧ (tRun.slice 5).used = false
      ∧ (tStore [] []).nsBusy 7 5 0 = false ∧ (tStore [] [tSc 1 3]).nsBusy 7 5 9 = true
      ∧ (∀ op ∈ [0x85, 0x86, 0x87, 0x88, 0x89, 0x8A], (tStore [tSc op 0] []).adminStarts 8 op (tSc op 0) = true)
      ∧ (let c : SCmd := { tSc 0x86 0 with cmd := BitVec.ofNat 512 (0x86 + (1 + 1 * 65536) * 2 ^ 128) }
         (tStore [c] []).adminStarts 8 0x86 c = true ∧ scArg1 c.cmd % 256 = 1 ∧ (tStore [c] []).namedStq 8 (scQueue c.cmd) = some 9)
      ∧ (let c : SCmd := { tSc 0x8A 0 with cmd := BitVec.ofNat 512 (0x8A + 1 * 65536 * 2 ^ 128 + 3 * 2 ^ 160) }
         let s := tStore [c] [tSc 1 3]
         (s.stq 9).cmds.find? (fun d => d.seq = BitVec.ofNat 16 (scArg2 c.cmd) && scTag d.cmd = BitVec.ofNat 16 (scArg1 c.cmd))
          = some (tSc 1 3) ∧ s.namedStq 8 (scQueue c.cmd) = some 9 ∧ (s.stq 9).abort = none) := by decide +kernel

theorem test_hyps_DrivesAndNamespaceKeys :
    (∀ st ∈ [DriveSt.absent, .present, .admitted, .retiring, .failed], ((tRun.setDrive 63 { st := st }).drive 63).st = st)
      ∧ (let s := tRun.setPort 3 { root := true }
         s.running = true ∧ (s.port 3).root = true ∧ s.powered (portHalf 3) (11 + 3 % 2) = true)
      ∧ tRun.grants tOwner 0xA400 0x0D [1] = true ∧ tRun.grants tOwner 0xA400 0x0D [2] = true ∧ tRun.driveSel tOwner.sess = 0
      ∧ tRun.canReach (tRun.server tOwner.sess) (driveHalf 0) = true
      ∧ (let s := ((tStore [] []).setDrive 0 { st := .present, capacity := 1000000 }).setDram 0 { st := .running }
         mapBytes (s.poolCap .k + (s.drive 0).capacity) ≤ s.mapRoom .k)
      ∧ (let s := tRun.setDrive 0 { st := .present, capacity := 1000000 }
         s.mapRoom .k < mapBytes (s.poolCap .k + (s.drive 0).capacity))
      ∧ ((tStore [] []).setDrive 0 { st := .admitted, capacity := 1000000 }).retireFits 0 = true
      ∧ (let s := (tStore [] []).setNs 7 { st := .recovering }
         (s.ns 7).st = .recovering ∧ s.running = true ∧ (s.half (s.ns 7).home).stopped = false ∧ s.mapHeld (s.ns 7).home = true)
      ∧ tRun.grants tOwner 0xA400 0x0E (leBytes 72 (0 : BitVec 576).toNat) = true
      ∧ (mfind (tRun.setNs 1 { st := .locked, encrypt := true }).storage.nss (tRun.nsSel tOwner.sess)).isSome = true
      ∧ tKwk.unseal tKwk.nv.store.kwk = some 7
      ∧ tRun.grants tOwner 0xA400 0x0F [(3 : BitVec 8)] = true := by decide +kernel

/-- The device with two channels of half K in a state. -/
def tMem (c : Dram) : State := (tRun.setDram 0 c).setDram 1 c

theorem test_hyps_MemoryErrorsAndCare :
    (tMem { st := .running }).running = true ∧ ((tMem { st := .running }).dram 0).st = .running
      ∧ (tMem { st := .running }).lineChan (chanHalf 0) 0 = some 0
      ∧ mfind ((tMem { st := .running }).dram 0).poisoned 0 = none
      ∧ (mfind ((tMem { st := .running, poisoned := [(0, (0, 0))] }).dram 0).poisoned 0).isSome = true
      ∧ 1 < ((tMem { st := .running }).dram 0).dimms * ((tMem { st := .running }).dram 0).ranks
      ∧ ((tMem { st := .running }).dram 0).scrub + 1 < ((tMem { st := .running }).dram 0).lines
      ∧ ((tMem { st := .running }).dram 0).inUse = true ∧ (tMem { st := .running }).noneDark (chanHalf 0) = true
      ∧ ((tMem { st := .running, retrainDue := true }).dram 0).retrainDue = true
      ∧ ((tMem { st := .running, needRepair := [9] }).dram 0).needRepair.contains 9 = true := by decide +kernel

theorem test_hyps_MemorySpeedAndTraining :
    tRun.grants tOwner 0xA500 5 (leBytes 1 1) = true ∧ tRun.grants tOwner 0xA500 5 (leBytes 1 2) = true
      ∧ tRun.mem.busy = false ∧ tRun.cstl.split = false
      ∧ (let s := { tMem { st := .running } with mem := { (tMem { st := .running }).mem with busy := true } }
         s.mem.busy = true ∧ (s.switchLeft (chanHalf 0)).head? = some 0 ∧ (s.switchLeft (chanHalf 1)).head? ≠ some 1
          ∧ s.noneDark (chanHalf 0) = true)
      ∧ ((tMem { st := .changing }).dram 0).st = .changing
      ∧ ((tMem { st := .training }).dram 0).st = .training ∧ ((tMem { st := .training }).unit (chanHalf 0) 14).st = .active
      ∧ 1 ∈ halfChans (chanHalf 0) ∧ ((tMem { st := .training }).dram 1).st = .training
      ∧ tRun.grants tOwner 0xA500 0x0E [(3 : BitVec 8)] = true := by decide +kernel

/-! ### Witnesses: trust, the dictionary, availability -/

/-- The device whose image load belongs to the host of port 0, begun. -/
def tLoad (busy ver : Bool) : State :=
  { tRun with trust := { tRun.trust with owner := some tOwner.sess, begun := true, verified := ver, imgBusy := busy } }

theorem test_hyps_ImageLoadAndTrials :
    (∀ v ∈ [1, 2, 3, 4, 5], (tLoad true false).grants tOwner 0x2200 6 [v] = true ∧ tRun.grants tOwner 0x2200 6 [v] = true)
      ∧ (tLoad true false).trust.imgBusy = true ∧ tRun.trust.imgBusy = false ∧ tRun.grants tOwner 0x2200 5 [1, 2] = true
      ∧ (tLoad false true).trust.owner = some tOwner.sess ∧ (tLoad false true).trust.begun = true
      ∧ ((tLoad false true).nv.slot (tLoad false true).trust.target).length + 2 ≤ 12582912
      ∧ tRun.trust.owner ≠ some tOwner.sess ∧ tRun.imgMine tOwner.sess = true
      ∧ ({ tRun with trust := { tRun.trust with owner := some (.mbox 1) } } : State).imgMine tOwner.sess = false
      ∧ tRun.inStep = true ∧ tRun.nv.slotState (1 - tRun.runningSlot) ≠ slTrial
      ∧ (let s := { tRun with nv := tRun.nv.record 1 slTrial }
         s.nv.slotState (1 - s.runningSlot) = slTrial)
      ∧ tRun.grants tOwner 0x2200 2 [1] = true ∧ tRun.trust.trialEnd = none
      ∧ ({ tRun with trust := { tRun.trust with trialEnd := some 5 } } : State).trust.trialEnd = some 5
      ∧ ({ tRun with trust := { tRun.trust with handover := some (1, false) } } : State).trust.handover = some (1, false)
      ∧ tRun.nv.checkImage 1 supvLimit (tRun.nv.slot 1) ≠ stOk := by decide +kernel

theorem test_hyps_KeysAndFuses :
    tRun.grants tOwner 0x7000 4 (leBytes 49 (BitVec.ofNat 392 3).toNat) = true
      ∧ tRun.nv.programmed (tRun.sel tOwner.sess (selKey 0x7000 2) 0) = true ∧ tRun.nv.programmed 7 = false
      ∧ fld (BitVec.ofNat 392 3) 0 8 = 3 ∧ tRun.grants tOwner 0x7000 5 [(7 : BitVec 8)] = true
      ∧ tRun.nv.revokeRefused 7 = false ∧ tRun.grants tOwner 0x7000 6 [(64 : BitVec 8)] = true
      ∧ tRun.nv.floorBits ≤ 64 ∧ tRun.secVersion < 1024 * 64
      ∧ (let s := { tRun with nv := { tRun.nv with slotA := List.replicate 11 0 ++ [4] } }
         1024 * 1 ≤ s.secVersion ∧ s.nv.floorBits ≤ 1)
      ∧ tRun.grants tOwner 0x7000 8 (leBytes 32 (5 : BitVec 256).toNat) = true
      ∧ (∀ v ∈ [1, 2, 3], tRun.grants tOwner 0x7000 7 [v] = true) := by decide +kernel

theorem test_hyps_DictionaryRequests :
    tRun.hears tOwner = true ∧ tRun.otherHalf tOwner.sess 0x1001 1 = false ∧ (objRow 0x1001 1).isSome = true
      ∧ (objRow 0x6100 1).isSome = true ∧ objRow 0x1001 0xEE = none
      ∧ (objRow 0x7000 4).any (fun r => tRun.role tOwner < r.rr || r.acc = .wo) = true
      ∧ (objRow 0x1001 1).any (fun r => r.acc = .ro || r.acc = .const) = true
      ∧ (objRow 0x1001 3).any (fun r => writeRole r 0x1001 3 10 ≤ tRun.role tOwner && r.len = 2) = true
      ∧ tRun.grants tOwner 0x1001 3 (leBytes 2 (3600 : BitVec 16).toNat) = true
      ∧ tRun.running = true ∧ tRun.served (.synrok .k 0) = true ∧ tRun.role { sess := .synrok .k 0, key := some 3 } = 0 := by
  decide +kernel

/-- The header of a Synrok request for EPOCH, authenticated under key 2, SEQ 9. -/
def tSynHead : List Byte := [0x53, 0x59, 1, 0x40, 1, 0, 2, 0, 0, 0, 0, 0, 0, 0, 0, 9, 0x10, 0x01, 1, 0, 0, 0, 0, 0]

theorem test_leBytes_length (n v : Nat) : (leBytes n v).length = n := by
  induction n generalizing v with
  | zero => rfl
  | succ k ih => simp [leBytes, ih]

theorem test_mac_length (k : Nat) (bs : List Byte) : (macOf k bs).length = 16 := by
  simp [macOf, beBytes, test_leBytes_length]

theorem test_beAt_head (h x : List Byte) (off n : Nat) (hn : off + n ≤ h.length) : beAt (h ++ x) off n = beAt h off n := by
  unfold beAt slice
  congr 1
  refine List.map_congr_left fun i hi => ?_
  have := List.mem_range.mp hi
  exact List.getD_append _ _ _ _ (by omega)

theorem test_slice_tail (h x : List Byte) : slice (h ++ x) h.length x.length = x := by
  refine List.ext_getElem (by simp [slice]) fun i h1 h2 => ?_
  simp [slice, h2]

/-- A message that carries its own MAC: it is whole, and MAC is the one over its header. -/
theorem test_hyps_SynrokMessages (k : Nat) :
    let m := tSynHead ++ macOf k tSynHead
    macOf k (m.take (24 + msgLen m)) = msgMac m ∧ msgOk m = true ∧ msgAuth m = true ∧ msgKey m = 2
      ∧ msgEpoch m = 0 ∧ msgSeq m = 9 ∧ epochRead m = true := by
  have l := test_mac_length k tSynHead
  have f : ∀ off n, off + n ≤ 24 → beAt (tSynHead ++ macOf k tSynHead) off n = beAt tSynHead off n :=
    fun off n h => test_beAt_head _ _ _ _ h
  have e : msgLen (tSynHead ++ macOf k tSynHead) = 0 := (f 20 2 (by omega)).trans (by decide +kernel)
  have hm : slice (tSynHead ++ macOf k tSynHead) 24 16 = macOf k tSynHead := l ▸ test_slice_tail tSynHead (macOf k tSynHead)
  have ok : msgOk (tSynHead ++ macOf k tSynHead) = true := by
    simp [msgOk, msgSize, msgAuth, msgFlags, msgOp, msgKey, msgLen, f, l]
    decide +kernel
  refine ⟨?_, ok, ?_, ?_, ?_, ?_, ?_⟩
  · rw [e, msgMac, e, hm]
    exact congrArg _ (List.take_left' (by rfl))
  · simp [msgAuth, msgFlags, f]
    decide +kernel
  · simp [msgKey, f]
    decide +kernel
  · simp [msgEpoch, f]
    decide +kernel
  · simp [msgSeq, f]
    decide +kernel
  · simp [epochRead, ok, msgOp, f]
    decide +kernel

theorem test_hyps_SynrokMessages_state :
    tRun.served (.synrok .k 0) = true ∧ (tRun.half .k).supvUp = true ∧ tRun.trust.handover = none
      ∧ (let s := { tRun with nv := { tRun.nv with copy0 := { keys := [(2, { val := 3, v := 0 })] }, copy1 := {} } }
         s.unseal (mfind s.nv.store.keys 2) = some 3 ∧ s.nv.store.epoch = 0) := by decide +kernel

/-- A mailbox request for EPOCH. -/
def tMail : List Byte := [0x53, 0x59, 1, 0, 1, 0, 0, 0, 0, 0, 0, 0, 0, 0, 0, 9, 0x10, 0x01, 1, 0, 0, 0, 0, 0]

theorem test_hyps_MctpAndMailbox :
    tRun.mediumOk .k 0 = true ∧ tRun.mediumOk .k 1 = true ∧ tRun.mediumOk .k 3 = false ∧ tRun.served (.mctp .k 0 9) = true
      ∧ tRun.running = true ∧ tRun.trust.handover = none ∧ (List.replicate 1448 (0 : Byte)).length ≤ 1448
      ∧ msgOk [] = false ∧ epochRead tMail = true ∧ msgAuth tMail = false
      ∧ (1 ≤ tRun.role { sess := .mctp .k 0 9, key := none } ∨ tRun.role { sess := .mctp .k 0 9, key := none } = 0)
      ∧ tRun.present (fnKey 3 0) = true ∧ (tRun.fn (fnKey 3 0)).d3 = false ∧ (tRun.port 3).mboxReq = none
      ∧ (let s := tRun.setPort 3 { tRun.port 3 with mboxReq := some tMail }
         (s.port 3).mboxReq = some tMail ∧ s.served (.mbox 3) = true ∧ (s.half (portHalf 3)).supvUp = true
          ∧ 1 ≤ s.role { sess := .mbox 3, key := none } ∧ (s.port 3).mboxDrop = false) := by decide +kernel

theorem test_hyps_RegisterWritesByOffset :
    1 % 4 ≠ 0 ∧ (tPf 1).num = 1 ∧ tRun.present (fkey (tPf 1)) = true ∧ 0x10 ∉ [0x004, 0x044, 0x050, 0x060, 0x078, 0x098, 0x0B0, 0x158, 0x400]
      ∧ tRun.reachesFrame { fn := tPf 1, frame := 65535 } 0 .k 65535 4096 = true
      ∧ (tRun.queue (wqKey .k 65535)).st = .disabled
      ∧ (tSlice .enabled).frame { port := 1, num := 1 } 0 64 = .foreign ∧ (tSlice .enabled).present (fnKey 1 1) = true := by decide +kernel

theorem test_hyps_StoreAndProfiles :
    let b := { tRun with mgmt := { tRun.mgmt with storeBusy := true, storeNext := some {} } }
    let p := fun l : Load => { tRun with mgmt := { tRun.mgmt with profile := l } }
    (∀ v ∈ [1, 2], tRun.grants tOwner 0x1010 1 [v] = true) ∧ tRun.mgmt.storeBusy = false ∧ b.mgmt.storeBusy = true
      ∧ tRun.cstl.split = false ∧ tRun.mgmt.storeNext = none ∧ (b.mgmt.storeNext).isSome = true
      ∧ (∀ v ∈ [1, 2, 3, 4], tRun.grants tOwner 0x1011 2 [v] = true) ∧ tRun.mgmt.profile.busy = false
      ∧ (p { busy := true }).mgmt.profile.busy = true ∧ (p { owner := some tOwner.sess }).mgmt.profile.owner = some tOwner.sess
      ∧ tRun.mgmt.profile.owner ≠ some tOwner.sess ∧ tRun.grants tOwner 0x1011 1 [1] = true
      ∧ tRun.mgmt.profile.mine tOwner.sess = true ∧ (p { owner := some (.mbox 2) }).mgmt.profile.mine tOwner.sess = false
      ∧ tRun.nv.checkImage 3 profileLimit [] ≠ stOk := by decide +kernel

theorem test_hyps_CalibrationKeysAndLogs :
    tRun.grants tOwner 0x30FF 4 (List.replicate 1024 0) = true ∧ tRun.mgmt.calBusy = false
      ∧ ({ tRun with mgmt := { tRun.mgmt with calBusy := true } } : State).mgmt.calBusy = true
      ∧ (∀ v ∈ [1, 2], tRun.grants tOwner 0x3000 5 [v] = true) ∧ (∀ p ∈ tRun.changedPages, tRun.calPageOk p = true)
      ∧ tRun.grants tOwner 0x1020 8 (leBytes 49 (BitVec.ofNat 392 3).toNat) = true
      ∧ tRun.grants tOwner 0x1022 2 (leBytes 40 (0 : BitVec 320).toNat) = true
      ∧ tRun.grants tOwner 0x8001 4 (leBytes 8 (0 : BitVec 64).toNat) = true ∧ tRun.hears tOwner = true
      ∧ tRun.otherHalf tOwner.sess 0x8000 2 = false ∧ tRun.logRecs tOwner.sess .k = []
      ∧ ((tRun.log 0x2003 1 0 0 0).logRecs tOwner.sess .k).length = 1
      ∧ (({ tRun with mgmt := { tRun.mgmt with sessions := [{ sess := tOwner.sess, last := 0 }] } } : State).mgmt.sessions.any
          fun x => x.sess = tOwner.sess) = true := by decide +kernel

theorem test_hyps_UnitStates :
    let u : UnitRef := { half := .k, index := 0 }
    let at_ := fun st : UnitSt => tRun.setUnit .k 0 { st := st }
    (∀ v ∈ [1, 0x8001, 2, 3, 4], tRun.grants tOwner (0x4000 + 16 * unitId .k 0) 2 (leBytes 2 v) = true
        ∧ tRun.takesUnitCmd tOwner u v = true)
      ∧ tRun.visits u = false ∧ (tRun.setRot .k { unit := some 0 }).visits u = true
      ∧ (tRun.setUnit .k 0 { busy := true }).unitOf u = { busy := true }
      ∧ tRun.drainQuota .k 0 = false ∧ tRun.drainQuota .k 7 = true ∧ tRun.forceQuota .k 14 = true
      ∧ (∀ st ∈ [UnitSt.active, .draining, .service, .off, .failed, .returning], ((at_ st).unitOf u).st = st)
      ∧ (at_ .draining).unitEmpty .k 0 = true
      ∧ (tRun.setNib 0 { waitD := [tFrame .parse] }).unitEmpty .k 0 = false
      ∧ tRun.nextVisit .k = some 0 ∧ tRun.mayVisit .k 0 = true
      ∧ (tRun.setParam .k 0x2100 1 0 1).mayVisit .k 0 = false := by decide +kernel

theorem test_hyps_FaultsAndCastling :
    tRun.powered .k 0 = true ∧ (tRun.setUnit .k 0 { st := .off }).powered .k 0 = false ∧ 0 < spareEngines 10
      ∧ (tRun.half .k).supvUp = true ∧ tRun.cstl.split = false ∧ tRun.cstl.groups ≠ 0 ∧ tRun.trust.handover = none
      ∧ tRun.cstl.primary = .k ∧ (tRun.half .q).supvUp = true
      ∧ ((tRun.setHalf .q { tRun.q with supvUp := false }).half .q).supvUp = false ∧ (tRun.unit .q 16).st ≠ .failed
      ∧ (tRun.half .k).stopped = false ∧ ((tRun.setHalf .q { tRun.q with stopped := true }).half .q).stopped = true
      ∧ tRun.grants tOwner 0x2100 5 [(1 : BitVec 8)] = true ∧ (tRun.half .q).gov.temp ≤ 1000
      ∧ tRun.cstlUp .k = true ∧ tRun.cstl.groups.getLsbD 3 = true
      ∧ (let s := { tRun with cstl := { tRun.cstl with split := true, groups := 0 } }
         s.cstl.split = true ∧ s.grants tOwner 0x2300 3 (leBytes 8 (BitVec.ofNat 64 (2 ^ 33)).toNat) = true
          ∧ s.server tOwner.sess = .k ∧ s.nv.store.custody .k < 2 ∧ mayGrant tOwner = true)
      ∧ (let s := { tRun with cstl := { tRun.cstl with split := true, groups := 1 } }
         s.cstl.groups ≠ 0 ∧ s.cstlUp .q = true ∧ s.k.supvUp = true ∧ s.q.supvUp = true) := by decide +kernel

theorem test_hyps_StepRunsFrontCommand :
    ({ State.reset with pending := [.bmeSet (tPf 1)] } : State).pending = [.bmeSet (tPf 1)] ∧ State.reset.pending = [] := by decide

theorem test_hyps_FusesOnlyBlow :
    State.reset.nv.floorBits ≤ 64
      ∧ (∃ t, step { tRun with pending := [.floorRaiseWrite tOwner 0] } = .next t) := ⟨by decide, _, rfl⟩

/-! ### Well-formedness: each check refuses an ill-formed command -/

theorem test_wf_refuses_host_and_queues :
    ∀ i ∈ [Instr.linkDlUp 0 7 8 true, .linkDlUp 0 6 3 true, .interruptEnableChange (tPf 1) true false 3, .vectorUnmask (tPf 1) 2048,
      .completionArrival 0 4096 .unsupported, .completionTimeout 0 4096, .tagQuarantineExpiry 0 4096, .spdmGetCertificate 0 65536 0,
      .spdmGetCertificate 0 0 65536, .spdmGetMeasurements 0 256, .wqDoorbell (tq 1 131072) 0, .wqPushWrite (tq 1 131072) 0 0 true,
      .wqEnable (tq 1 131072), .wqDisable (tq 1 131072), .wqFetch 4194304 none, .malformedEntry 4194304, .nopEntry 4194304 true,
      .ethSendEntry 4194304 none true, .blotterTimeDue 393216, .sliceIntervalEnd 4096, .cqHeadWrite (tq 1 131072) 0,
      .cqEnable (tq 1 131072), .cqDisable (tq 1 131072), .cqCfgWrite (tq 1 131072) 0 0, .cqNoslotRead (tq 1 131072),
      .wqMalformedRead (tq 1 131072), .wqDbIgnoredRead (tq 1 131072), .wqAbort (tq 1 131072) 0 0 0, .arbiterDecision 8 0 [] true,
      .arbiterDecision 0 256 [] true], i.wf = false := by decide +kernel

theorem test_wf_refuses_network_nib_and_rdma :
    ∀ i ∈ [Instr.mgmtFrameReceive .k .ownUnicast 65536, .laneFailure .k [64], .saFenceEnd .k 16384, .bucketRefill .k 4 0,
      .bucketRefill .k 0 65536, .loadDataWrite tOwner [], .loadDataWrite tOwner (List.replicate 1409 0),
      .rdqSqDoorbell (tq 1 131072) 0 0 true, .rdqRqDoorbell (tq 1 131072) 0 0 true, .qpModify (tq 1 131072) 0,
      .qpAbort (tq 1 131072) 0, .rdqDbIgnoredRead (tq 1 131072), .rdmaSend 1048576 none, .rdmaSendImm 1048576 none,
      .rdmaWrite 1048576 none, .rdmaWriteImm 1048576 none, .rdmaRead 1048576, .rdmaCas 1048576, .rdmaFadd 1048576,
      .roceReceive .k { tPkt .send 0 with destQp := 2 ^ 24 }, .roceReceive .k { tPkt .send 0 with srcQp := 2 ^ 24 },
      .roceReceive .k { tPkt .send 0 with total := 2 ^ 32 }, .qpContextFetchDone 1048576 true, .parkTimeout 1048576,
      .ackTimeout 1048576, .rnrTimerExpiry 1048576, .cnpReceive .k (2 ^ 24), .winOpen (tq 1 131072) 0, .winRevoke (tq 1 131072),
      .winRevokeDone 262144, .winBaseLenWrite (tq 1 131072) 0 0], i.wf = false := by decide +kernel

theorem test_wf_refuses_storage_and_management :
    ∀ i ∈ [Instr.stqTaskCommit (tq 2 131072) 0 0, .stqCmdAccept 8196, .storageRead 8196, .storageWrite 8196 none, .storageFlush 8196,
      .storageDeallocate 8196, .storageWriteZeroes 8196, .storageCompare 8196 none, .storageCmdComplete 8196 0 true,
      .storageCmdComplete 0 65536 true, .freezeWaitExpiry 8196 0, .freezeWaitExpiry 0 65536, .lockedWaitExpiry 8196 0,
      .lockedWaitExpiry 0 65536, .logReadPage 8196, .featureGet 8196, .featureSet 8196, .queueResume 8196, .queueReset 8196,
      .storageAbort 8196, .stqEnable (tq 2 131072), .stqDisable (tq 2 131072), .stqTaskIgnoredRead (tq 2 131072),
      .stqMalformedRead (tq 2 131072), .mapRebuildDone 0, .mapRebuildDone 4097, .imgDataWrite tOwner [],
      .synrokFrameReceive .k 0 (List.replicate 65536 0), .mctpMessageReceive .k 5 0 [], .mctpMessageReceive .k 0 256 [],
      .mctpSetEndpointId .k 5 0, .mctpGetEndpointId .k 5, .mctpGetVersionSupport .k 5, .mctpGetMessageTypeSupport .k 5,
      .mctpGetVendorMsgSupport .k 5, .dictWriteGeneric tOwner 0 0 (List.replicate 1409 0), .profileDataWrite tOwner [],
      .calDataWrite tOwner 0 [], .rwRegisterWrite (tPf 0) 0 2 0, .rwRegisterWrite (tPf 0) 0 (2 ^ 26) 0,
      .rwRegisterWrite (tPf 0) 1 65536 0, .rwRegisterWrite (tPf 0) 2 4096 0, .writeBufferPlace 0 0,
      .rootPortLinkUp 0 (List.replicate 17 { slot := 0, capacity := 0, lba4k := false, serial := 0 })], i.wf = false := by
  decide +kernel

theorem test_wf_refuses_mailbox : (Instr.mboxGo 0 (List.replicate 4097 0)).wf = false := by
  show decide ((List.replicate 4097 (0 : Byte)).length ≤ 4096) = false
  rw [List.length_replicate]
  rfl

theorem test_wf_accepts_boundaries :
    ∀ i ∈ [Instr.linkDlUp 0 6 8 true, .interruptEnableChange (tPf 1) true false 32, .vectorUnmask (tPf 1) 2047, .completionTimeout 0 4095,
      .wqDoorbell (tq 1 65535) 65535, .wqFetch 4194303 none, .sliceIntervalEnd 4095, .arbiterDecision 7 255 [] true,
      .bucketRefill .k 3 65535, .laneFailure .k [63], .rdmaRead 1048575, .winRevokeDone 262143, .storageRead 8195,
      .mapRebuildDone 1, .mapRebuildDone 4096, .rwRegisterWrite (tPf 0) 2 4092 0, .vinRise 15001], i.wf = true := by
  decide +kernel

/-! ### Behaviour -/

/-- The next state of a command satisfies a test. -/
def tNext (o : Host.Outcome State Fault Refusal) (p : State → Bool) : Bool :=
  match o with
  | .next t => p t
  | _ => false

/-- R447: the supply's absolute maximum is 15.0 V. -/
theorem test_vin_limit :
    (match exec (.vinRise 15001) tRun with | .fault f => decide (f = .beyondAbsoluteMaximum) | _ => false) = true
      ∧ tNext (exec (.vinRise 15000) { tRun with board := { tRun.board with vin := 12000 } }) (fun t => t.board.vin = 15000) = true := by
  decide +kernel

/-- R31: a step forward of more than 1 ms is taken at once on both copies. -/
theorem test_tb_adjust_steps :
    tNext (exec (.tbAdjustWrite tOwner 1000001) tRun) (fun t => t.time .k = tRun.time .k + 1000001 && t.time .q = tRun.time .q + 1000001)
      = true := by decide +kernel

/-- R151: the loss of a link counts once and takes the link down. -/
theorem test_link_loss :
    tNext (exec (.portLinkLoss 0 true false) tEth) (fun t => !(t.ethPort 0).link && (t.ethPort 0).remoteFault && t.cnt 0x6100 9 = 1) = true := by
  decide +kernel

/-- R153: PAUSE quanta are times of 512 bits: at 10 Gb/s the longest, 65,535, is 3,355,392 ns. -/
theorem test_pause_time :
    tNext (exec (.pauseFrameReceive 0 0xFFFF) tEth) (fun t => mfind (t.ethPort 0).paused 7 = some { deadline := 3355392, since := 0 }) = true := by
  decide +kernel

/-- R228: ADDI sign-extends IMM: v1 = v0 − 1, by the word 0x0420FFFF. -/
theorem test_nib_addi :
    nibWord (.addi tTh 1 0 0xFFFF) = some (tTh, 0x0420FFFF#32)
      ∧ tNext (exec (.addi tTh 1 0 0xFFFF) (tNib 0x0420FFFF (tRunning 0 0)))
          (fun t => (t.thr tTh).reg 1 = 0xFFFFFFFFFFFFFFFF && (t.thr tTh).pc = 4) = true := by decide +kernel

/-- R227: v0 reads 0 and a write to it is discarded. -/
theorem test_nib_v0 :
    tNext (exec (.addi tTh 0 2 5) (tNib 0x04020005 (tRunning 1 0))) (fun t => (t.thr tTh).reg 0 = 0 && (t.thr tTh).pc = 4) = true := by
  decide +kernel

/-- R229: CLZ of 0 is 64; SRA keeps the sign; SLT compares signed. -/
theorem test_nib_alu :
    tNext (exec (.clz tTh 1 4 0) (tNib 0x00240010 (tRunning 0 0))) (fun t => (t.thr tTh).reg 1 = 64) = true
      ∧ tNext (exec (.sra tTh 1 2 3) (tNib 0x00221808 (tRunning 0x8000000000000000 63))) (fun t => (t.thr tTh).reg 1 = 0xFFFFFFFFFFFFFFFF)
          = true
      ∧ tNext (exec (.slt tTh 1 2 3) (tNib 0x0022180A (tRunning 0xFFFFFFFFFFFFFFFF 0))) (fun t => (t.thr tTh).reg 1 = 1) = true := by
  decide +kernel

/-- R229: CRC32C of the eight bytes 0 from all ones, without the final complement, is the register the polynomial gives: the CRC-32C
of eight zero bytes is 0x8C28B28A (RFC 3720's algorithm), its complement 0x73D74D75. -/
theorem test_nib_crc32c :
    crcUpdate 0xFFFFFFFF (List.replicate 8 0) = 0x73D74D75 := by decide +kernel

/-- R228: EXT with POS + LEN above 64 faults with ILLEGAL, code 1. -/
theorem test_nib_ext_illegal :
    tNext (exec (.ext tTh 1 2 0x01FC) (tNib 0x302201FC (tRunning 0 0)))
      (fun t => (t.nib 0).faultLog.map (fun x => (x.2.1, x.2.2.1)) = [(0, 1)] && t.cnt 0x6400 7 = 1) = true := by decide +kernel

/-- R225, R228: a store is big-endian. -/
theorem test_nib_store_big_endian :
    tNext (exec (.sh tTh 2 3 0) (tNib 0x54430000 (tRunning 0x1234 0x10)))
      (fun t => mget (t.thr tTh).scratch 0x10 0 = 0x12 && mget (t.thr tTh).scratch 0x11 0 = 0x34) = true := by decide +kernel

/-- R227: a branch goes to its own address plus 4 × sext(OFF). -/
theorem test_nib_branch_back :
    tNext (exec (.beq tTh 0 0 0xFFFF) (tRun.setNib 0 { code := [(2, 0x8000FFFF)], threads := [(0, { st := .running, pc := 8 })] }))
      (fun t => (t.thr tTh).pc = 4) = true := by decide +kernel

/-- R227: words written out bit by bit from the encodings decode to their instructions. -/
theorem test_nib_decode :
    nibDecode tTh 0b000000_00001_00010_00011_00000000001#32 = [.sub tTh 1 2 3]
      ∧ nibDecode tTh 0b010011_11111_00000_1111111111111000#32 = [.ld tTh 31 0 0xFFF8]
      ∧ nibDecode tTh 0b100111_00000000000000000000000001#32 = [.call tTh 1]
      ∧ nibDecode tTh 0b011000_00001_00010_00011_00000000010#32 = [.atomCas tTh 1 2 3]
      ∧ nibDecode tTh 0b110000_00101_00110_00000_00000000000#32 = [.wfe tTh 5 6 0]
      ∧ nibDecode tTh 0b111111_00000_00000_00000_00000000000#32 = [] := by decide +kernel

/-- R90: a doorbell moves the published index; one that would pass the ring is ignored and counted. -/
theorem test_doorbell :
    tNext (exec (.wqDoorbell (tq 1 0) 64) (tWq { st := .running })) (fun t => (t.wq 0).doorbell = 64 && (t.wq 0).dbIgnored = 0) = true
      ∧ tNext (exec (.wqDoorbell (tq 1 0) 65) (tWq { st := .running })) (fun t => (t.wq 0).doorbell = 0 && (t.wq 0).dbIgnored = 1) = true := by
  decide +kernel

/-- R61: a function whose bus mastering is cleared starts nothing. -/
theorem test_bme :
    tNext (exec (.bmeClear (tPf 1)) tRun) (fun t => !(t.fn (fnKey 0 1)).bme && (t.fn (fnKey 0 2)).bme) = true
      ∧ tNext (exec (.bmeSet (tPf 1)) (tRun.setFn (fnKey 0 1) {})) (fun t => (t.fn (fnKey 0 1)).bme) = true := by decide +kernel

/-- R281, R282: MODIFY takes a QP from RESET to INIT, and no QP from RESET to RTS. -/
theorem test_qp_modify :
    tNext (exec (.qpModify tPage (tMod 1)) (tRdma {})) (fun t => (t.qpk 0).st = .init && (t.qpk 0).sq.logSize = 6) = true
      ∧ tNext (exec (.qpModify tPage (tMod 3)) (tRdma {})) (fun t => (t.qpk 0).st = .reset) = true := by decide +kernel

/-- R294: a window opens with a new generation, 1 after 255. -/
theorem test_win_open :
    tNext (exec (.winOpen (tq 1 3) 1) (tRun.setWin .k 3 { st := .closed, base := 0, len := 8, gen := 255 }))
      (fun t => (t.win .k 3).st = .opened && (t.win .k 3).gen = 1) = true := by decide +kernel

/-- R322, R330, R334: a WRITE of two blocks is buffered and ends OK with its 1,024 bytes; a range past the end of the namespace ends RANGE. -/
theorem test_storage_write :
    tNext (exec (.storageWrite 9 (some (List.replicate 1024 0x5A))) (tStore [] [tSc 2 0]))
      (fun t => ((t.ns 7).latest 31).isSome && decide ((t.stq 9).cmds.map (·.outcome) = [some (0, 1024, 0)])) = true
      ∧ (tStore [] []).cmdFault 9 { tSc 1 0 with cmd := setFld (tSc 1 0).cmd 64 64 999 } = some stRange := by decide +kernel

/-- R348: a correctable error counts and reports; an uncorrectable one poisons its line. -/
theorem test_dram_errors :
    tNext (exec (.dramLineRead 0 0 (.correctable 3) .other) (tMem { st := .running }))
      (fun t => t.cnt 0x6800 3 = 1 && ((t.dram 0).poisoned = [])) = true
      ∧ tNext (exec (.dramLineRead 0 0 .uncorrectable .other) (tMem { st := .running })) (fun t => (mfind (t.dram 0).poisoned 0).isSome) = true := by
  decide +kernel

/-- R411: a unit that is not ACTIVE is not drained, and one of four NIB units is. -/
theorem test_unit_drain :
    tNext (exec (.unitDrain tOwner { half := .k, index := 0 }) tRun) (fun t => (t.unit .k 0).st = .draining && (t.unit .k 0).busy) = true
      ∧ tNext (exec (.unitDrain tOwner { half := .k, index := 0 }) (tRun.setUnit .k 0 { st := .off }))
          (fun t => (t.unit .k 0).st = .off && (t.unit .k 0).status = stRange) = true := by decide +kernel

/-- R430: the halves split when the last link group is lost, and not before. -/
theorem test_split :
    tNext (exec (.groupHeartbeatLoss 3) { tRun with cstl := { tRun.cstl with groups := 8 } }) (fun t => t.cstl.split) = true
      ∧ tNext (exec (.groupHeartbeatLoss 3) tRun) (fun t => !t.cstl.split) = true := by decide +kernel

/-- R379: the floor rises by fuses, and not past what the running image meets. -/
theorem test_floor :
    tNext (exec (.floorRaiseWrite tOwner 1) { tRun with nv := { tRun.nv with slotA := List.replicate 11 0 ++ [4] } })
      (fun t => t.nv.floorBits = 1) = true
      ∧ tNext (exec (.floorRaiseWrite tOwner 2) { tRun with nv := { tRun.nv with slotA := List.replicate 11 0 ++ [4] } })
          (fun t => t.nv.floorBits = 0) = true := by decide +kernel

/-- A step takes the front command and keeps the rest. -/
theorem test_step_queue :
    tNext (step { tRun with pending := [.bmeClear (tPf 1), .bmeSet (tPf 1)] })
      (fun t => decide (t.pending = [.bmeSet (tPf 1)]) && !(t.fn (fnKey 0 1)).bme) = true := by decide +kernel

theorem test_hyps_NibWordsDecodeAndEncode :
    nibWord (.add tTh 1 2 3) = some (tTh, 0x00221800#32) ∧ Instr.add tTh 1 2 3 ∈ nibDecode tTh 0x00221800#32
      ∧ fOp 0x00221800#32 ≠ 0x31 ∧ fOp 0x00221800#32 ≠ 0x36 ∧ usedBits 0xFFFFFFFF#32 = none := by decide +kernel

end Sys2Proof.Tests
end

section
/-! SUPPORT. The queue of commands (log 4). -/

namespace Sys2Proof.Machine
open Sys2Proof

/-- Settles O58: the two cases of the queue of commands. -/
theorem stepRunsFrontCommand : Obligations.StepRunsFrontCommand := by
  refine ⟨fun s c rest h => ?_, fun s h => ?_⟩ <;> simp only [step, h]

end Sys2Proof.Machine
end

section
/-! SUPPORT. Writes and reads of a work queue's frame, and the queue that they reach (04 R90, R97, R98, R102, R111, R117). -/

namespace Sys2Proof.Machine
open Sys2Proof

/-! ### Queues by number: those below `qpBase` are work queues -/

theorem State.queue_of_lt {k : Nat} (hk : k < qpBase) (s : State) : s.queue k = s.wq k := by
  rw [State.queue, if_pos hk]

theorem State.setQueue_of_lt {k : Nat} (hk : k < qpBase) (s : State) (w : Wq) : s.setQueue k w = s.setWq k w := by
  rw [State.setQueue, if_pos hk]

@[simp] theorem State.wq_setWq_self (s : State) (k : Nat) (w : Wq) : (s.setWq k w).wq k = w := by simp [State.wq_setWq]

theorem State.wq_setWq_of_ne {k j : Nat} (hj : j ≠ k) (s : State) (w : Wq) : (s.setWq k w).wq j = s.wq j := by
  simp [State.wq_setWq, hj]

/-- A work queue replaced leaves the other work queues and the rest of the state as they were. -/
theorem State.setWq_frame (s : State) (k : Nat) (w : Wq) :
    (∀ j, j ≠ k → (s.setWq k w).wq j = s.wq j) ∧ { s.setWq k w with wqs := s.wqs } = s :=
  ⟨fun _ hj => State.wq_setWq_of_ne hj s w, rfl⟩

@[simp] theorem State.qp_setWq (s : State) (k : Nat) (w : Wq) (h : Half) (i : Nat) : (s.setWq k w).qp h i = s.qp h i := by
  cases h <;> rfl

/-- A work queue replaced leaves the other queues, the queue pairs' among them. -/
theorem State.queue_setWq_of_ne {k j : Nat} (hj : j ≠ k) (s : State) (w : Wq) : (s.setWq k w).queue j = s.queue j := by
  simp only [State.queue, State.wq_setWq_of_ne hj, State.qp_setWq]

/-- The frame that an access reaches names a work queue, not a queue of a queue pair. -/
theorem wqKey_lt_qpBase {s : State} {q : QRef} {h : Half} {e sl : Nat} (hr : s.reachesFrame q 0 h e sl = true) :
    wqKey h e < qpBase := by
  have he : e < 65536 := by
    simp only [State.reachesFrame, Bool.and_eq_true] at hr
    simpa using hr.2
  cases h <;> simp only [wqKey, Half.num, qpBase] <;> omega

/-- A frame that is reached is read. -/
theorem State.readFrame_eq {s : State} {q : QRef} {kind : Nat} {h : Half} {e sl : Nat}
    (hr : s.reachesFrame q kind h e sl = true) (f : Half → Nat → State → State) : s.readFrame q kind f = f h e s := by
  simp only [State.reachesFrame, Bool.and_eq_true, Bool.not_eq_true', beq_iff_eq] at hr
  obtain ⟨⟨⟨hp, hd⟩, hf⟩, -⟩ := hr
  simp [State.readFrame, State.access_eq hp hd, hf]

/-! ### What raising an interrupt leaves unchanged (R50 to R52, R60, R77, R114 to R116) -/

/-- A state differs from another in functions, slices, completion queues and outputs alone: where interrupts, completions and
head-shadow words are kept and sent. -/
def State.onlyIrq (t s : State) : Prop :=
  { t with fns := s.fns, slices := s.slices, cqs := s.cqs, out := s.out } = s

theorem State.onlyIrq.eq {t s : State} (h : t.onlyIrq s) :
    { t with fns := s.fns, slices := s.slices, cqs := s.cqs, out := s.out } = s := h

theorem State.onlyIrq.trans {t u s : State} (h1 : t.onlyIrq u) (h2 : u.onlyIrq s) : t.onlyIrq s := by
  have h := congrArg (fun a : State => { a with fns := s.fns, slices := s.slices, cqs := s.cqs, out := s.out }) h1.eq
  exact h.trans h2.eq

theorem State.onlyIrq.wqs {t s : State} (h : t.onlyIrq s) : t.wqs = s.wqs := by rw [← h.eq]
theorem State.onlyIrq.ports {t s : State} (h : t.onlyIrq s) : t.ports = s.ports := by rw [← h.eq]
theorem State.onlyIrq.nv {t s : State} (h : t.onlyIrq s) : t.nv = s.nv := by rw [← h.eq]

theorem State.sendMsg_onlyIrq (s : State) (fk sl v : Nat) : (s.sendMsg fk sl v).onlyIrq s := by
  unfold State.sendMsg
  split <;> rfl

theorem State.holdIrq_onlyIrq (s : State) (fk sl v : Nat) : (s.holdIrq fk sl v).onlyIrq s := by
  simp only [State.holdIrq]
  split <;> rfl

theorem State.holdVector_onlyIrq (s : State) (sl v : Nat) : (s.holdVector sl v).onlyIrq s := by
  simp only [State.holdVector]
  split <;> rfl

theorem State.passVector_onlyIrq (s : State) (fk sl v : Nat) : (s.passVector fk sl v).onlyIrq s := by
  simp only [State.passVector]
  split
  · exact s.holdIrq_onlyIrq fk sl v
  · split
    · split
      · rfl
      · exact s.sendMsg_onlyIrq fk sl _
    · split
      · split
        · rfl
        · exact s.sendMsg_onlyIrq fk sl _
      · exact s.holdIrq_onlyIrq fk sl v

theorem State.vectorDue_onlyIrq (s : State) (fk sl v : Nat) : (s.vectorDue fk sl v).onlyIrq s := by
  unfold State.vectorDue
  split
  · rfl
  · split
    · rfl
    · split
      · exact s.holdVector_onlyIrq sl v
      · exact s.passVector_onlyIrq fk sl v

theorem State.cqDue_onlyIrq (s : State) (k : Nat) : (s.cqDue k).onlyIrq s := by
  simp only [State.cqDue]
  split
  · split <;> rfl
  · split
    · exact (State.holdVector_onlyIrq _ _ _).trans rfl
    · exact (State.vectorDue_onlyIrq _ _ _ _).trans rfl

theorem State.blotter_onlyIrq (s : State) (k : Nat) : (s.blotter k).onlyIrq s := by
  simp only [State.blotter]
  split
  · split
    · rfl
    · split
      · exact (State.cqDue_onlyIrq _ _).trans rfl
      · rfl
  · rfl

theorem State.shadow_onlyIrq (s : State) (fk q : Nat) (head : BitVec 16) (st : Nat) : (s.shadow fk q head st).onlyIrq s := by
  unfold State.shadow
  split <;> rfl

theorem State.leaveWait_onlyIrq (s : State) (q : Nat) : (s.leaveWait q).onlyIrq s := by
  simp only [State.leaveWait]
  split <;> rfl

/-! ### What the end of an abort leaves unchanged of the work queues (R118, R119) -/

/-- Every work queue reads as in another state, but for its open abort. -/
def State.sameWqs (t s : State) : Prop := ∀ k, { t.wq k with abort := none } = { s.wq k with abort := none }

theorem State.sameWqs.trans {t u s : State} (h1 : t.sameWqs u) (h2 : u.sameWqs s) : t.sameWqs s :=
  fun k => (h1 k).trans (h2 k)

theorem State.sameWqs_of_wqs {t s : State} (h : t.wqs = s.wqs) : t.sameWqs s := fun k => by
  rw [State.wq, h]
  rfl

theorem State.closeAbort_sameWqs (s : State) (q : Nat) : (s.closeAbort q).sameWqs s := by
  unfold State.closeAbort
  split
  · by_cases hq : q < qpBase
    · intro k
      rw [State.setQueue_of_lt hq, State.queue_of_lt hq, State.wq_setWq]
      split
      · next hk => rw [hk]
      · rfl
    · refine State.sameWqs_of_wqs ?_
      simp [State.setQueue, hq]
  · split <;> exact State.sameWqs_of_wqs rfl

theorem State.writeCpl_sameWqs (s : State) (x : HeldCpl) : (s.writeCpl x).sameWqs s := by
  simp only [State.writeCpl]
  have hb := State.sameWqs_of_wqs ((State.blotter_onlyIrq
    ((s.setCq x.cq { s.cq x.cq with tail := (s.cq x.cq).tail + 1, reserved := (s.cq x.cq).reserved - 1 }).emit
      (.cqe x.cq (s.cq x.cq).tail (cqPhase (s.cq x.cq)) x.e (s.time (portHalf (keyPort (s.cq x.cq).fn))))) x.cq).wqs)
  split
  · exact (State.closeAbort_sameWqs _ _).trans hb
  · exact hb

/-- A completion whose write can be issued is held or written. -/
theorem State.produce_sameWqs (s : State) (x : HeldCpl) : (s.produce x true).sameWqs s := by
  simp only [State.produce, if_true]
  split
  · exact State.sameWqs_of_wqs rfl
  · split
    · exact State.sameWqs_of_wqs rfl
    · exact s.writeCpl_sameWqs x

theorem State.drainDue_sameWqs (fk : Nat) (todo : List HeldCpl) :
    ∀ (s : State) (kept : List HeldCpl), (s.drainDue fk todo kept).sameWqs s := by
  induction todo with
  | nil => exact fun s kept => State.sameWqs_of_wqs rfl
  | cons x rest ih =>
    intro s kept
    unfold State.drainDue
    split
    · exact (ih _ _).trans ((State.produce_sameWqs _ x).trans (State.sameWqs_of_wqs rfl))
    · exact ih _ _

theorem State.endAbort_sameWqs (s : State) (q status : Nat) : (s.endAbort q status).sameWqs s := by
  simp only [State.endAbort]
  split
  · exact State.sameWqs_of_wqs rfl
  · split
    · exact State.sameWqs_of_wqs rfl
    · exact (State.drainDue_sameWqs _ _ _ _).trans (State.sameWqs_of_wqs rfl)

/-! ### Draining (R83, R111) -/

/-- A draining queue with no started entry left is DISABLED, unless its slice is being disabled; nothing else of it changes but
its open abort. -/
theorem State.drained_wq {s : State} {k : Nat} (hk : k < qpBase) (hst : (s.wq k).st = .draining) :
    { (s.drained k).wq k with abort := none } =
      { s.wq k with
        abort := none
        st := if (s.wq k).started = [] ∧ ((s.wq k).slice ≥ 4096 ∨ (s.slice (s.wq k).slice).st = .enabled) then .disabled
              else .draining } := by
  simp only [State.drained, State.queue_of_lt hk, State.setQueue_of_lt hk, hst, true_and]
  by_cases hs : (s.wq k).started = []
  · by_cases hf : (s.wq k).slice ≥ 4096 ∨ (s.slice (s.wq k).slice).st = .enabled
    · rw [if_neg (not_not_intro hs), if_pos hf, if_pos ⟨hs, hf⟩,
        State.sameWqs_of_wqs (State.shadow_onlyIrq _ _ _ _ _).wqs k, State.wq_setWq_self]
      exact congrArg (fun w : Wq => { w with st := .disabled }) (State.endAbort_sameWqs s k stNotFound k)
    · rw [if_neg (not_not_intro hs), if_neg hf, if_neg (by decide), if_neg (fun h => hf h.2), ← hst]
  · rw [if_pos hs, if_neg (fun h => hs h.1), ← hst]

/-- A queue that leaves RUNNING discards its unstarted entries and drains. -/
theorem State.drainQueue_wq {k : Nat} (hk : k < qpBase) (s : State) :
    { (s.drainQueue k).wq k with abort := none } =
      { (s.wq k).discard with
        abort := none
        st := if (s.wq k).started = [] ∧ ((s.wq k).slice ≥ 4096 ∨ ((s.leaveWait k).slice (s.wq k).slice).st = .enabled)
              then .disabled else .draining } := by
  have hw : (s.leaveWait k).wq k = s.wq k := by
    rw [State.wq, (s.leaveWait_onlyIrq k).wqs]
    rfl
  simp only [State.drainQueue, State.queue_of_lt hk, State.setQueue_of_lt hk, hw]
  rw [State.drained_wq hk (by rw [State.wq_setWq_self]), State.wq_setWq_self]
  rfl

/-! ### Commands that reach a work queue's frame -/

/-- A work queue enabled: it runs from its published head (R98, R111). -/
def Wq.enabled (w : Wq) (fk sl : Nat) : Wq :=
  { w.discard with
    st := .running, cfgErr := false, fn := fk, slice := sl, doorbell := w.head, lastDone := none, push := [], pushed := [] }

section
variable {s : State} {q : QRef} {h : Half} {e sl : Nat} (hr : s.reachesFrame q 0 h e sl = true)
include hr

theorem exec_wqDoorbell (pi : BitVec 16) :
    exec (.wqDoorbell q pi) s =
      .next (s.setWq (wqKey h e)
        (if (s.wq (wqKey h e)).st = .running ∧ s.sliceOn (s.wq (wqKey h e)).slice ∧ (s.wq (wqKey h e)).doorbellOk pi
         then (s.wq (wqKey h e)).ring pi
         else { s.wq (wqKey h e) with dbIgnored := sat31 (s.wq (wqKey h e)).dbIgnored })) := by
  have hk := wqKey_lt_qpBase hr
  show Host.Outcome.next (s.onFrame q 0 _) = _
  rw [State.onFrame_eq hr]
  simp only [State.doorbell, State.queue_of_lt hk, State.setQueue_of_lt hk]
  rw [apply_ite (s.setWq (wqKey h e))]

theorem exec_wqPushWrite (unit : Fin 4) (data : BitVec 512) (full : Bool) (hst : (s.wq (wqKey h e)).st = .running)
    (hsl : s.sliceOn (s.wq (wqKey h e)).slice = true) :
    exec (.wqPushWrite q unit data full) s =
      .next (s.setWq (wqKey h e) ((s.wq (wqKey h e)).pushUnit unit.val data full)) := by
  have hk := wqKey_lt_qpBase hr
  show Host.Outcome.next (s.onFrame q 0 _) = _
  rw [State.onFrame_eq hr]
  simp only [State.pushWrite, State.queue_of_lt hk, State.setQueue_of_lt hk]
  rw [if_pos ⟨hst, hsl⟩]

theorem exec_wqEnable (hst : (s.wq (wqKey h e)).st = .disabled ∨ (s.wq (wqKey h e)).st = .fetchFault) :
    exec (.wqEnable q) s =
      .next (s.setWq (wqKey h e)
        (if (s.wq (wqKey h e)).logSize < 6 ∨ 15 < (s.wq (wqKey h e)).logSize
            ∨ s.cqOk h 0 sl (s.wq (wqKey h e)).cq.toNat = false
         then { s.wq (wqKey h e) with cfgErr := true }
         else (s.wq (wqKey h e)).enabled (s.frameFn q sl) sl)) := by
  have hk := wqKey_lt_qpBase hr
  have hn : ¬ ((s.wq (wqKey h e)).st ≠ .disabled ∧ (s.wq (wqKey h e)).st ≠ .fetchFault) := by tauto
  show Host.Outcome.next (s.onFrame q 0 _) = _
  rw [State.onFrame_eq hr]
  simp only [State.wqEnable, State.queue_of_lt hk, State.setQueue_of_lt hk]
  rw [if_neg hn, apply_ite (s.setWq (wqKey h e))]
  rfl

theorem exec_wqDisable (hst : (s.wq (wqKey h e)).st = .running) :
    exec (.wqDisable q) s = .next (s.drainQueue (wqKey h e)) := by
  show Host.Outcome.next (s.onFrame q 0 _) = _
  rw [State.onFrame_eq hr]
  simp only [State.queue_of_lt (wqKey_lt_qpBase hr)]
  rw [if_pos hst]

theorem exec_wqAbort_started {i tag atag : BitVec 16} (hst : (s.wq (wqKey h e)).st = .running)
    (hab : (s.wq (wqKey h e)).abort = none)
    (hf : (s.wq (wqKey h e)).fetched.any (fun x => x.index = i && x.tag = tag) = false)
    (hs : (s.wq (wqKey h e)).started.any (fun x => x.index = i && x.tag = tag) = true) :
    exec (.wqAbort q i tag atag) s =
      .next (s.setWq (wqKey h e)
        { s.wq (wqKey h e) with abort := some { index := i, tag := tag, atag := atag } }) := by
  have hk := wqKey_lt_qpBase hr
  have hhits : Abort.hits { index := i, tag := tag, atag := atag } = fun x => x.index = i && x.tag = tag := by
    funext x
    simp only [Abort.hits, eq_comm]
  have hnone : (s.wq (wqKey h e)).fetched.find? (fun x => x.index = i && x.tag = tag) = none := by
    simpa using hf
  show Host.Outcome.next (s.onFrame q 0 _) = _
  rw [State.onFrame_eq hr]
  simp only [State.abort, State.settleAbort, State.queue_of_lt hk, State.setQueue_of_lt hk, hst, hab, and_self, if_true,
    State.wq_setWq_self, hhits, hnone, hs]

theorem exec_wqMalformedRead :
    exec (.wqMalformedRead q) s =
      .next ((s.setWq (wqKey h e) { s.wq (wqKey h e) with malformed := 0 }).emit (.read (s.wq (wqKey h e)).malformed)) :=
  congrArg Host.Outcome.next (State.readFrame_eq hr _)

theorem exec_wqDbIgnoredRead :
    exec (.wqDbIgnoredRead q) s =
      .next ((s.setWq (wqKey h e) { s.wq (wqKey h e) with dbIgnored := 0 }).emit (.read (s.wq (wqKey h e)).dbIgnored)) :=
  congrArg Host.Outcome.next (State.readFrame_eq hr _)

end

/-- Settles O11: every command of the frame replaces the one queue that it reaches; only DISABLE does more, where an abort still
open ends with the drain. -/
theorem workQueueRegisters : Obligations.WorkQueueRegisters := by
  unfold Obligations.WorkQueueRegisters
  refine ⟨fun s q pi h e sl hr => ?doorbell, fun s q unit data full h e sl hr hst hsl => ?push,
    fun s q h e sl hr hst => ?enable, fun s q h e sl hr hst => ?disable,
    fun s q i tag atag h e sl hr hst hab hf hs => ?abort, fun s q h e sl hr => ?reads⟩
  case doorbell =>
    refine ⟨_, exec_wqDoorbell hr pi, ?_, ?_, ?_, ?_, State.setWq_frame _ _ _⟩
    all_goals rw [State.wq_setWq_self]
    · intro hst hsl hok
      rw [if_pos ⟨hst, hsl, hok⟩]
      exact ⟨rfl, rfl, rfl⟩
    · rintro (hst | hok)
      · rw [if_neg (fun hc => hst hc.1)]
      · rw [if_neg (fun hc => by simp [hok] at hc)]
    · split <;> rfl
    · split <;> rfl
  case push =>
    refine ⟨_, exec_wqPushWrite hr unit data full hst hsl, ?_, ?_, State.setWq_frame _ _ _⟩
    · simp [Wq.pushUnit, mfind_mput]
    · rw [State.wq_setWq_self]
      rfl
  case enable =>
    refine ⟨_, exec_wqEnable hr hst, ?_, ?_, State.setWq_frame _ _ _⟩
    all_goals rw [State.wq_setWq_self]
    · intro hlo hhi hcq
      rw [if_neg (by rintro (hb | hb | hb) <;> [omega; omega; simp [hcq] at hb])]
      exact ⟨rfl, rfl, rfl, rfl, rfl, rfl⟩
    · exact fun hbad => if_pos hbad
  case disable =>
    have hw := State.drainQueue_wq (wqKey_lt_qpBase hr) s
    have hst' := congrArg Wq.st hw
    have hstd := congrArg Wq.started hw
    refine ⟨_, exec_wqDisable hr hst, congrArg Wq.fetched hw, congrArg Wq.fetchPt hw, hstd, fun hne => ?_,
      fun hnil hsl => ?_⟩
    · exact hst'.trans (if_neg fun hc => hne hc.1)
    · exact hst'.trans (if_pos ⟨hnil, .inl hsl⟩)
  case abort =>
    exact ⟨_, exec_wqAbort_started hr hst hab hf hs, State.wq_setWq_self _ _ _, State.setWq_frame _ _ _⟩
  case reads =>
    refine ⟨⟨_, exec_wqMalformedRead hr, rfl, State.wq_setWq_self _ _ _, ?_, rfl⟩,
      ⟨_, exec_wqDbIgnoredRead hr, rfl, State.wq_setWq_self _ _ _, ?_, rfl⟩⟩
    all_goals exact (State.setWq_frame _ _ _).1

end Sys2Proof.Machine
end

section
/-! SUPPORT. Messages of the dictionary that answer without touching an object, or read EPOCH; the mailbox (15 R395 to R402). -/

namespace Sys2Proof.Machine
open Sys2Proof

/-! ### Reads of EPOCH and malformed messages (R383, R395, R396, R456) -/

/-- EPOCH is a read for every role, of no half and behind no selection. -/
theorem State.objRead_epoch {s : State} {w : Who} (hrun : s.running = true) (hsv : s.served w.sess = true)
    (hho : s.trust.handover = none) (hro : 1 ≤ s.role w) :
    s.objRead w 0x1001 1 = (s.accepted w, some (rsOk, leBytes 4 s.nv.store.epoch)) := by
  have hb : s.board.boot = .running := by simpa [State.running] using hrun
  have hu : (s.half (s.server w.sess)).supvUp = true := by simpa [State.served, hb] using hsv
  have he : s.early w false 0x1001 1 [] = 0 := by
    have hrow : objRow 0x1001 1 = some ⟨0x1001, 0x1001, 1, 1, .ro, 4, false, 1, 2⟩ := by decide
    simp only [State.early, hrow, hb]
    simp
    omega
  have hm : (s.accepted w).mgmtBusy = false := by
    show s.trust.handover.isSome = false
    rw [hho]; rfl
  have ho : (s.accepted w).otherHalf w.sess 0x1001 1 = false := by
    have : objHalf 0x1001 1 = none := by decide
    simp [State.otherHalf, this]
  have hs : (s.accepted w).selNames w.sess 0x1001 1 = true := by simp [State.selNames]
  have ha : (s.accepted w).selAway w.sess 0x1001 1 = false := by simp [State.selAway]
  have hv : (s.accepted w).objValue w 0x1001 1 = leBytes 4 s.nv.store.epoch := by
    rfl
  simp only [State.objRead, State.readReq, State.accept_eq s w hrun hu (by omega), State.accepted_early, he, hm, ho, hs, ha, hv]
  rfl

theorem State.message_malformed {s : State} {ss : Session} {m : List Byte} (hsv : s.served ss = true)
    (hu : (s.half (sessHalf ss)).supvUp = true) (hm : msgOk m = false) :
    s.message ss m = (s.countRequest ss 8, some (replyMsg m none rsMalformed [])) := by
  simp [State.message, hsv, hu, hm]

theorem State.message_epochRead {s : State} {ss : Session} {m : List Byte} (hsv : s.served ss = true)
    (hu : (s.half (sessHalf ss)).supvUp = true) (hrun : s.running = true) (hho : s.trust.handover = none)
    (hm : epochRead m = true) (hau : msgAuth m = false) (hro : 1 ≤ s.role { sess := ss, key := none }) :
    s.message ss m =
      (s.accepted { sess := ss, key := none }, some (replyMsg m none rsOk (leBytes 4 s.nv.store.epoch))) := by
  simp only [epochRead, Bool.and_eq_true, beq_iff_eq] at hm
  obtain ⟨⟨⟨hok, hop⟩, hi⟩, hsub⟩ := hm
  have hreq : s.request { sess := ss, key := none } m =
      (s.accepted { sess := ss, key := none }, some (rsOk, leBytes 4 s.nv.store.epoch)) := by
    rw [State.request, if_pos hop, hi, hsub, State.objRead_epoch hrun hsv hho hro]
  simp [State.message, hsv, hu, hok, hau, hreq]

/-! ### MCTP (R400) -/

/-- A dictionary message that is answered on its medium. -/
theorem exec_mctpMessageReceive {s t : State} {h : Half} {m e : Nat} {msg r : List Byte} (hmed : s.mediumOk h m = true)
    (hlen : msg.length ≤ 1448) (hmsg : s.message (.mctp h m e) msg = (t, some r)) :
    exec (.mctpMessageReceive h m e (mctpHead ++ msg)) s = .next (t.emit (.respMsg (.mctp h m e) (mctpHead ++ r))) := by
  have hc : ¬ (s.mediumOk h m = false ∨ (mctpHead ++ msg).take 4 ≠ mctpHead ∨ 1452 < (mctpHead ++ msg).length) := by
    rintro (hn | hn | hn)
    · simp [hmed] at hn
    · exact hn rfl
    · simp only [mctpHead, List.length_append, List.length_cons, List.length_nil] at hn
      omega
  have hd : (mctpHead ++ msg).drop 4 = msg := rfl
  show execMctpMessageReceive h m e (mctpHead ++ msg) s = _
  simp only [execMctpMessageReceive, if_neg hc, hd, hmsg]

theorem exec_mctpMessageReceive_ignored {s : State} {h : Half} {m e : Nat} {msg : List Byte}
    (hbad : s.mediumOk h m = false ∨ msg.take 4 ≠ mctpHead ∨ 1452 < msg.length) :
    exec (.mctpMessageReceive h m e msg) s = .next s := by
  show execMctpMessageReceive h m e msg s = _
  simp only [execMctpMessageReceive, if_pos hbad]

/-- A medium in use has its half's SUPV up. -/
theorem State.supvUp_of_mediumOk {s : State} {h : Half} {m : Nat} (hm : s.mediumOk h m = true) : (s.half h).supvUp = true := by
  simp only [State.mediumOk, Bool.and_eq_true] at hm
  exact hm.1.2

/-- 0 and 255 are no endpoint IDs. -/
theorem exec_mctpSetEndpointId_refused {s : State} {h : Half} {m : Nat} {eid : BitVec 8} (hmed : s.mediumOk h m = true)
    (he : eid = 0 ∨ eid = 255) : exec (.mctpSetEndpointId h m eid) s = .next (s.emit (.mctp h 1 [2])) := by
  show execMctpSetEndpointId h m eid s = _
  simp only [execMctpSetEndpointId, hmed, Bool.true_eq_false, if_false, if_pos he]

/-- The state with an endpoint ID on a medium. -/
def State.putEid (s : State) (h : Half) (m : Nat) (eid : BitVec 8) : State :=
  { s with mgmt := { s.mgmt with eids := mset s.mgmt.eids (eidKey h m) eid.toNat 0 } }

theorem exec_mctpSetEndpointId {s : State} {h : Half} {m : Nat} {eid : BitVec 8} (hmed : s.mediumOk h m = true)
    (he : ¬ (eid = 0 ∨ eid = 255)) :
    exec (.mctpSetEndpointId h m eid) s = .next ((s.putEid h m eid).emit (.mctp h 1 [0, 0, eid.toNat, 0])) := by
  show execMctpSetEndpointId h m eid s = _
  simp only [execMctpSetEndpointId, hmed, Bool.true_eq_false, if_false, if_neg he]
  rfl

/-! ### The mailbox (R401, R402) -/

/-- An access to the status region of a present function in D0 reaches it. -/
theorem State.statusAccess_eq {s : State} {fk : Nat} (hp : s.present fk = true) (hd : (s.fn fk).d3 = false)
    (f : State → State) : s.statusAccess fk f = f s := by
  simp [State.statusAccess, State.config_eq hp, hd]

@[simp] theorem State.port_setPort_self (s : State) (p : Nat) (x : Port) : (s.setPort p x).port p = x := by
  simp [State.port_setPort]

theorem State.port_setPort_of_ne {p j : Nat} (hj : j ≠ p) (s : State) (x : Port) : (s.setPort p x).port j = s.port j := by
  simp [State.port_setPort, hj]

theorem State.onlyIrq.port {t s : State} (h : t.onlyIrq s) (p : Nat) : t.port p = s.port p := by
  rw [State.port, h.ports]
  rfl

/-- A mailbox response after an FLR is dropped: PENDING alone clears. -/
theorem State.mboxServed_drop {s : State} {p : Nat} (hd : (s.port p).mboxDrop = true) (bs : List Byte) :
    s.mboxServed p (some bs) = s.setPort p { s.port p with mboxReq := none, mboxDrop := false } := by
  simp only [State.mboxServed, hd, if_true]

/-- The port of a mailbox whose response is in its buffer. -/
def Port.mboxAnswered (x : Port) (bs : List Byte) : Port :=
  { x with mboxReq := none, mboxDrop := false, mboxResp := overBuffer bs x.mboxResp, mboxDone := true }

/-- A mailbox response is written with DONE; beside it there is at most the interrupt. -/
theorem State.mboxServed_done {s : State} {p : Nat} (hd : (s.port p).mboxDrop = false) (bs : List Byte) :
    (s.mboxServed p (some bs)).onlyIrq (s.setPort p ((s.port p).mboxAnswered bs))
      ∧ ((s.port p).mboxIrq = false → s.mboxServed p (some bs) = s.setPort p ((s.port p).mboxAnswered bs)) := by
  simp only [State.mboxServed, hd, Bool.false_eq_true, if_false]
  by_cases hi : (s.port p).mboxIrq = true
  · rw [if_pos hi]
    exact ⟨State.vectorDue_onlyIrq _ _ _ _, fun h => absurd hi (by simp [h])⟩
  · rw [if_neg hi]
    exact ⟨rfl, fun _ => rfl⟩

theorem exec_mboxResponseDone {s t : State} {p : Fin 4} {m : List Byte} {r : Option (List Byte)}
    (hreq : (s.port p.val).mboxReq = some m) (hsv : s.served (.mbox p) = true)
    (hu : (s.half (portHalf p.val)).supvUp = true) (hmsg : s.message (.mbox p) m = (t, r)) :
    exec (.mboxResponseDone p) s = .next (t.mboxServed p.val r) := by
  show execMboxResponseDone p s = _
  simp [execMboxResponseDone, hreq, hsv, hu, hmsg]

/-- The port of a mailbox after a GO: the request is copied while none is pending, else the GO is counted (R402). -/
def Port.mboxGone (x : Port) (msg : List Byte) : Port :=
  if x.mboxReq.isSome then { x with mboxBuf := overBuffer msg x.mboxBuf, mboxIgnored := sat31 x.mboxIgnored }
  else { x with mboxBuf := overBuffer msg x.mboxBuf, mboxReq := some (mboxMessage (overBuffer msg x.mboxBuf)) }

theorem exec_mboxGo {s : State} {p : Fin 4} (hp : s.present (fnKey p.val 0) = true)
    (hd : (s.fn (fnKey p.val 0)).d3 = false) (msg : List Byte) :
    exec (.mboxGo p msg) s = .next (s.setPort p.val ((s.port p.val).mboxGone msg)) := by
  show Host.Outcome.next (s.statusAccess _ _) = _
  rw [State.statusAccess_eq hp hd]
  cases hq : (s.port p.val).mboxReq <;> simp [Port.mboxGone, hq]

/-- Settles O52: malformed messages and reads of EPOCH over MCTP, the control commands, and the mailbox's request and response. -/
theorem mctpAndMailbox : Obligations.MctpAndMailbox := by
  unfold Obligations.MctpAndMailbox
  refine ⟨fun s h m e msg hmed hsv hrun hho hlen => ?message, fun s h m e msg hbad => exec_mctpMessageReceive_ignored hbad,
    fun s h m eid hmed => ?setEid, fun s h m i code l hi => ?control, fun s p msg hp hd => ?go,
    fun s p m hreq hsv hu hrun hho hm hau hro => ?done, fun s p hp hd => ?ignored⟩
  case message =>
    have hu : (s.half (sessHalf (.mctp h m e))).supvUp = true := State.supvUp_of_mediumOk hmed
    obtain ⟨t, ht⟩ : ∃ t, exec (.mctpMessageReceive h m e (mctpHead ++ msg)) s = .next t := ⟨_, rfl⟩
    refine ⟨t, ht, fun hm => ?_, fun hm hau hro => ?_⟩
    · have he := exec_mctpMessageReceive hmed hlen (State.message_malformed hsv hu hm)
      obtain rfl := Host.Outcome.next.inj (ht.symm.trans he)
      exact ⟨rfl, rfl⟩
    · have he := exec_mctpMessageReceive hmed hlen (State.message_epochRead hsv hu hrun hho hm hau hro)
      obtain rfl := Host.Outcome.next.inj (ht.symm.trans he)
      exact ⟨rfl, rfl⟩
  case setEid =>
    by_cases he : eid = 0 ∨ eid = 255
    · refine ⟨_, exec_mctpSetEndpointId_refused hmed he, ?_, fun k hk => rfl, rfl⟩
      rw [if_pos he]
      rfl
    · refine ⟨_, exec_mctpSetEndpointId hmed he, ?_, fun k hk => ?_, rfl⟩
      · rw [if_neg he]
        exact mget_mset_same _ _ _ _
      · exact (mget_mset _ _ _ _ _).trans (if_neg hk)
  case control =>
    simp only [List.mem_cons, List.not_mem_nil, or_false, Prod.mk.injEq] at hi
    rcases hi with ⟨rfl, rfl, rfl⟩ | ⟨rfl, rfl, rfl⟩ | ⟨rfl, rfl, rfl⟩ | ⟨rfl, rfl, rfl⟩ <;> rfl
  case go =>
    refine ⟨_, exec_mboxGo hp hd msg, fun n hn => State.port_setPort_of_ne hn _ _, rfl, ?_⟩
    rw [State.port_setPort_self]
    cases hq : (s.port p.val).mboxReq with
    | none => simp [Port.mboxGone, hq]
    | some x => simp [Port.mboxGone, hq]
  case done =>
    refine ⟨_, exec_mboxResponseDone hreq hsv hu (State.message_epochRead hsv hu hrun hho hm hau hro), ?_⟩
    cases hdr : (s.port p.val).mboxDrop with
    | true =>
      rw [State.mboxServed_drop (s := s.accepted { sess := .mbox p, key := none }) hdr]
      refine ⟨?_, rfl, fun n hn => State.port_setPort_of_ne hn _ _, fun _ => ?_, by simp⟩
      all_goals rw [State.port_setPort_self]
      exact ⟨rfl, rfl, rfl⟩
    | false =>
      obtain ⟨hirq, hno⟩ := State.mboxServed_done (s := s.accepted { sess := .mbox p, key := none }) hdr
        (replyMsg m none rsOk (leBytes 4 s.nv.store.epoch))
      have hport := hirq.port p.val
      rw [State.port_setPort_self] at hport
      refine ⟨congrArg Port.mboxReq hport, hirq.nv, fun n hn => (hirq.port n).trans (State.port_setPort_of_ne hn _ _),
        by simp, fun _ => ⟨congrArg Port.mboxDone hport, congrArg Port.mboxResp hport, fun hi => ?_⟩⟩
      rw [hno hi]
      rfl
  case ignored =>
    refine ⟨_, congrArg Host.Outcome.next (State.statusAccess_eq hp hd _), rfl, State.port_setPort_self _ _ _,
      fun n hn => State.port_setPort_of_ne hn _ _, rfl⟩

end Sys2Proof.Machine
end

section
/-! SUPPORT. Dwords written by offset: BAR0 of PF1, the configuration space, foreign frames (02 R43, R44, 03 R69, 04 R97). -/

namespace Sys2Proof.Machine
open Sys2Proof

/-- The dwords of PF1's work queue frames (R44, R97). -/
theorem regAt_pf1_wq {f : FnRef} (hf : f.num = 1) {n o : Nat} (hn : n < 65536) (ho : o < 512) :
    regAt f (0x1000000 + 512 * n + o) = .wq n o := by
  have hnum : f.num.val = 1 := by rw [hf]; rfl
  have hrd : inRegion 0x100000 256 0x1000 (0x1000000 + 512 * n + o) = none := if_neg (by omega)
  have hws : inRegion 0x1000000 65536 512 (0x1000000 + 512 * n + o) = some (n, o) := by
    rw [inRegion, if_pos (by omega)]
    have h1 : (0x1000000 + 512 * n + o - 0x1000000) / 512 = n := by omega
    have h2 : (0x1000000 + 512 * n + o - 0x1000000) % 512 = o := by omega
    rw [h1, h2]
  have h1 : ¬ 0x1000000 + 512 * n + o < 0x40 := by omega
  have h2 : ¬ 0x1000000 + 512 * n + o < 0x60 := by omega
  simp only [regAt, if_neg h1, if_neg h2, hnum, fnPf, regNet]
  simp [hrd, hws]

/-- An offset that is not a dword's. -/
theorem exec_rwRegisterWrite_unaligned {s : State} {f : FnRef} {space : Fin 3} {off : Nat} (ho : off % 4 ≠ 0) (v : BitVec 32) :
    exec (.rwRegisterWrite f space off v) s = .next s := by
  show execRwRegisterWrite f space off v s = _
  rw [execRwRegisterWrite, if_pos ho]

/-- A dword of BAR0. -/
theorem exec_rwRegisterWrite_bar0 {s : State} {f : FnRef} {off : Nat} {v : BitVec 32} (ho : off % 4 = 0) :
    exec (.rwRegisterWrite f 0 off v) s = s.writeBar0 f off v := by
  show execRwRegisterWrite f 0 off v s = _
  rw [execRwRegisterWrite, if_neg (by simpa using ho), if_pos rfl]

/-- A dword of the configuration space. -/
theorem exec_rwRegisterWrite_config {s : State} {f : FnRef} {off : Nat} {v : BitVec 32} (ho : off % 4 = 0) :
    exec (.rwRegisterWrite f 2 off v) s = s.writeConfig f off v := by
  show execRwRegisterWrite f 2 off v s = _
  rw [execRwRegisterWrite, if_neg (by simpa using ho), if_neg (by decide), if_neg (by decide)]

/-- A dword of a work queue's frame of PF1 comes to the frame. -/
theorem exec_rwRegisterWrite_wq {s : State} {f : FnRef} (hf : f.num = 1) (n : Fin 65536) {o : Nat} (ho : o < 512)
    (ho4 : o % 4 = 0) (v : BitVec 32) :
    exec (.rwRegisterWrite f 0 (0x1000000 + 512 * n.val + o) v) s = s.writeWq { fn := f, frame := n.val } o v := by
  rw [exec_rwRegisterWrite_bar0 (by omega), State.writeBar0, regAt_pf1_wq hf n.isLt ho]

theorem State.writeWq_doorbell (s : State) (q : QRef) (v : BitVec 32) :
    s.writeWq q 0x18 v = exec (.wqDoorbell q (v.setWidth 16)) s := by
  rw [State.writeWq, if_neg (by decide), if_pos rfl]
  rfl

theorem State.writeWq_enable (s : State) (q : QRef) (v : BitVec 32) :
    s.writeWq q 0x14 v = if bit v 0 then exec (.wqEnable q) s else exec (.wqDisable q) s := by
  have hen : exec (.wqEnable q) s = execWqEnable q s := rfl
  have hdis : exec (.wqDisable q) s = execWqDisable q s := rfl
  rw [State.writeWq, if_pos rfl, hen, hdis]

theorem State.writeConfig_command (s : State) (f : FnRef) (v : BitVec 32) :
    s.writeConfig f 4 v = if bit v 2 then exec (.bmeSet f) s else exec (.bmeClear f) s := by
  have hset : exec (.bmeSet f) s = execBmeSet f s := rfl
  have hclr : exec (.bmeClear f) s = execBmeClear f s := rfl
  rw [State.writeConfig, if_pos rfl, hset, hclr]

/-- BASE of a queue that is DISABLED takes the low dword (R97, R98). -/
theorem State.writeWq_base {s : State} {q : QRef} {h : Half} {e sl : Nat} (hr : s.reachesFrame q 0 h e sl = true)
    (hst : (s.wq (wqKey h e)).st = .disabled) (v : BitVec 32) :
    s.writeWq q 0 v =
      .next (s.setWq (wqKey h e) { s.wq (wqKey h e) with base := setLo (s.wq (wqKey h e)).base v 12 }) := by
  have hk := wqKey_lt_qpBase hr
  have hreg : (s.wq (wqKey h e)).setReg 0 v =
      { s.wq (wqKey h e) with base := setLo (s.wq (wqKey h e)).base v 12 } := by
    rw [Wq.setReg, if_neg (by simp [hst]), if_pos rfl]
  rw [State.writeWq, if_neg (by decide), if_neg (by decide), if_neg (by decide), State.onWq, State.onFrame_eq hr,
    State.queue_of_lt hk, hreg, State.setQueue_of_lt hk]

/-- The dwords of the configuration space that have a command (R43). -/
def configCommands : List Nat := [0x004, 0x044, 0x050, 0x060, 0x078, 0x098, 0x0B0, 0x158, 0x400]

/-- A function with a dword of its configuration space kept as written. -/
def Fn.withCfg (x : Fn) (off : Nat) (v : BitVec 32) : Fn := { x with cfg := mset x.cfg (off / 4) v 0 }

theorem exec_rwRegisterWrite_kept {s : State} {f : FnRef} {off : Nat} (v : BitVec 32) (hp : s.present (fkey f) = true)
    (ho : off % 4 = 0) (hoff : off ∉ configCommands) :
    exec (.rwRegisterWrite f 2 off v) s = .next (s.setFn (fkey f) ((s.fn (fkey f)).withCfg off v)) := by
  simp only [configCommands, List.mem_cons, List.not_mem_nil, or_false, not_or] at hoff
  rw [exec_rwRegisterWrite_config ho]
  simp only [State.writeConfig, hoff, if_false, false_and, State.writeRaw, State.config_eq hp]
  rfl

/-- A foreign frame's doorbell (R69). -/
theorem exec_wqDoorbell_foreign {s : State} {q : QRef} (hp : s.present (fkey q.fn) = true)
    (hd : (s.fn (fkey q.fn)).d3 = false) (hf : s.frame q.fn 0 q.frame = .foreign) (pi : BitVec 16) :
    exec (.wqDoorbell q pi) s = .next (s.foreign q.fn) := by
  show Host.Outcome.next (s.onFrame q 0 _) = _
  simp only [State.onFrame, State.access_eq hp hd, hf]

/-- FOREIGN_FRAME after a write to a foreign frame. -/
theorem State.pfCnt_foreign (s : State) (f : FnRef) :
    mget (s.foreign f).pfCnt (f.port.val * 16 + fnPf f.num) 0 = mget s.pfCnt (f.port.val * 16 + fnPf f.num) 0 + 1 := by
  simp only [State.foreign, mget_mset_same]

/-- A dword without a command changes its word of the configuration space alone. -/
theorem State.setFn_withCfg (s : State) (fk off : Nat) (v : BitVec 32) {t : State}
    (ht : t = s.setFn fk ((s.fn fk).withCfg off v)) :
    mget (t.fn fk).cfg (off / 4) 0 = v
      ∧ (∀ k, k ≠ off / 4 → mget (t.fn fk).cfg k 0 = mget (s.fn fk).cfg k 0)
      ∧ { t.fn fk with cfg := (s.fn fk).cfg } = s.fn fk
      ∧ (∀ k, k ≠ fk → t.fn k = s.fn k) ∧ { t with fns := s.fns } = s := by
  have hfn : t.fn fk = (s.fn fk).withCfg off v := by rw [ht, State.fn_setFn, if_pos rfl]
  rw [hfn]
  refine ⟨mget_mset_same _ _ _ _, fun k hk => (mget_mset _ _ _ _ _).trans (if_neg hk), rfl, fun k hk => ?_, by rw [ht]; rfl⟩
  rw [ht, State.fn_setFn, if_neg hk]

/-- Settles O53: an offset is taken to its register, and from there to the command. -/
theorem registerWritesByOffset : Obligations.RegisterWritesByOffset := by
  unfold Obligations.RegisterWritesByOffset
  refine ⟨fun s f space off v ho => exec_rwRegisterWrite_unaligned ho v, fun s f v => ?command,
    fun s f n v hf => ⟨?doorbell, ?enable⟩, fun s f off v hp ho hoff => ?kept, fun s f n v h e sl k hf hr hk hst => ?base,
    fun s q pi hp hd hfr => ⟨_, exec_wqDoorbell_foreign hp hd hfr pi, rfl, State.pfCnt_foreign s q.fn⟩⟩
  case command => exact (exec_rwRegisterWrite_config (by decide)).trans (s.writeConfig_command f v)
  case doorbell => exact (exec_rwRegisterWrite_wq hf n (by decide) (by decide) v).trans (State.writeWq_doorbell _ _ _)
  case enable => exact (exec_rwRegisterWrite_wq hf n (by decide) (by decide) v).trans (State.writeWq_enable _ _ _)
  case kept => exact ⟨_, exec_rwRegisterWrite_kept v hp ho hoff, s.setFn_withCfg _ _ _ rfl⟩
  case base =>
    subst hk
    have hk := wqKey_lt_qpBase hr
    rw [State.queue_of_lt hk] at hst ⊢
    have hw := exec_rwRegisterWrite_wq (s := s) hf n (o := 0) (by decide) rfl v
    rw [Nat.add_zero, State.writeWq_base hr hst] at hw
    refine ⟨_, hw, ?_, ?_, fun j hj => State.queue_setWq_of_ne hj s _, (State.setWq_frame s _ _).2⟩
    all_goals rw [State.queue_of_lt hk, State.wq_setWq_self]

end Sys2Proof.Machine
end

section
/-! SUPPORT. What a half keeps while its units, ports and memories lose their work: its governor, its custody, whether it is
stopped, and its SUPV (16 R422, R424, R435). Nothing below the stop of a half changes these. -/

namespace Sys2Proof.Machine
open Sys2Proof

/-! ### What stands of a half -/

/-- A half without its units, its traffic and its log. -/
def HalfSt.standing (x : HalfSt) : HalfSt :=
  { gov := x.gov, cust := x.cust, stopped := x.stopped, alive := x.alive, supvFails := x.supvFails, supvUp := x.supvUp }

/-- What stands of the two halves. -/
def State.standing (s : State) : HalfSt × HalfSt := (s.k.standing, s.q.standing)

theorem State.half_standing {t s : State} (ht : t.standing = s.standing) (h : Half) :
    (t.half h).standing = (s.half h).standing := by
  obtain ⟨hk, hq⟩ := Prod.mk.inj ht
  cases h
  · exact hk
  · exact hq

theorem State.gov_of_standing {t s : State} (ht : t.standing = s.standing) (h : Half) : (t.half h).gov = (s.half h).gov :=
  congrArg (·.gov) (State.half_standing ht h)

theorem State.stopped_of_standing {t s : State} (ht : t.standing = s.standing) (h : Half) :
    (t.half h).stopped = (s.half h).stopped :=
  congrArg (·.stopped) (State.half_standing ht h)

theorem State.supvUp_of_standing {t s : State} (ht : t.standing = s.standing) (h : Half) :
    (t.half h).supvUp = (s.half h).supvUp :=
  congrArg (·.supvUp) (State.half_standing ht h)

/-! ### The shared operations -/

/-- A change of a half that spares what stands of it. -/
theorem State.onHalf_standing {s : State} {h : Half} {f : HalfSt → HalfSt} (hf : (f (s.half h)).standing = (s.half h).standing) :
    (s.onHalf h f).standing = s.standing := by
  cases h
  · exact congrArg (·, s.q.standing) hf
  · exact congrArg (s.k.standing, ·) hf

/-- Steps that each spare what stands of the halves, taken one after another. -/
theorem State.foldl_standing {α : Type} {f : State → α → State} (hf : ∀ a x, (f a x).standing = a.standing) (l : List α) :
    ∀ s : State, (l.foldl f s).standing = s.standing := by
  induction l with
  | nil => exact fun s => rfl
  | cons x rest ih => exact fun s => (ih (f s x)).trans (hf s x)

theorem State.onlyIrq.standing {t s : State} (h : t.onlyIrq s) : t.standing = s.standing := by
  rw [← h.eq]
  rfl

@[simp] theorem State.fresher_standing (s : State) : s.fresher.standing = s.standing := rfl
@[simp] theorem State.setPort_standing (s : State) (p : Nat) (x : Port) : (s.setPort p x).standing = s.standing := rfl
@[simp] theorem State.setFn_standing (s : State) (k : Nat) (x : Fn) : (s.setFn k x).standing = s.standing := rfl
@[simp] theorem State.setSlice_standing (s : State) (id : Nat) (x : Slice) : (s.setSlice id x).standing = s.standing := rfl
@[simp] theorem State.setStq_standing (s : State) (k : Nat) (x : Stq) : (s.setStq k x).standing = s.standing := rfl
@[simp] theorem State.setNib_standing (s : State) (u : Nat) (x : Nib) : (s.setNib u x).standing = s.standing := rfl

@[simp] theorem State.ownWrite_standing (s : State) (f : StoreCopy → StoreCopy) : (s.ownWrite f).standing = s.standing := by
  simp only [State.standing, State.ownWrite_k, State.ownWrite_q]

@[simp] theorem State.setUnit_standing (s : State) (h : Half) (i : Nat) (u : UnitS) : (s.setUnit h i u).standing = s.standing :=
  State.onHalf_standing rfl

@[simp] theorem State.logOn_standing (s : State) (h : Half) (code cls unit sl action detail : Nat) :
    (s.logOn h code cls unit sl action detail).standing = s.standing := by
  simp only [State.logOn]
  split
  · exact State.onHalf_standing rfl
  · exact (State.ownWrite_standing _ _).trans (State.onHalf_standing rfl)

@[simp] theorem State.log_standing (s : State) (code cls unit action detail : Nat) :
    (s.log code cls unit action detail).standing = s.standing :=
  State.logOn_standing _ _ _ _ _ _ _ _

@[simp] theorem State.countSlice_standing (s : State) (h : Half) (id c n : Nat) :
    (s.countSlice h id c n).standing = s.standing := by
  simp only [State.countSlice]
  split <;> rfl

/-! ### Completions and queues (R99, R111, R118) -/

@[simp] theorem State.setQp_standing (s : State) (h : Half) (i : Nat) (x : Qp) : (s.setQp h i x).standing = s.standing :=
  State.onHalf_standing rfl

@[simp] theorem State.setQueue_standing (s : State) (q : Nat) (w : Wq) : (s.setQueue q w).standing = s.standing := by
  unfold State.setQueue
  split
  · rfl
  · exact State.setQp_standing _ _ _ _

@[simp] theorem State.raiseFault_standing (s : State) (fk i kind n : Nat) : (s.raiseFault fk i kind n).standing = s.standing := by
  simp only [State.raiseFault]
  split
  · exact (State.vectorDue_onlyIrq _ _ _ _).standing
  · rfl

@[simp] theorem State.raiseCopyFault_standing (s : State) (ch : Nat) : (s.raiseCopyFault ch).standing = s.standing := by
  simp only [State.raiseCopyFault, (State.vectorDue_onlyIrq _ _ _ _).standing, State.setPort_standing]

@[simp] theorem State.closeAbort_standing (s : State) (q : Nat) : (s.closeAbort q).standing = s.standing := by
  unfold State.closeAbort
  split
  · exact State.setQueue_standing _ _ _
  · split <;> rfl

@[simp] theorem State.writeCpl_standing (s : State) (x : HeldCpl) : (s.writeCpl x).standing = s.standing := by
  have hb := fun (a : State) => (State.blotter_onlyIrq a x.cq).standing
  simp only [State.writeCpl]
  split
  · exact (State.closeAbort_standing _ _).trans (hb _)
  · exact hb _

@[simp] theorem State.cqFault_standing (s : State) (k : Nat) : (s.cqFault k).standing = s.standing := by
  simp only [State.cqFault]
  split
  · exact (State.raiseCopyFault_standing _ _).trans (State.logOn_standing _ _ _ _ _ _ _ _)
  · exact (State.raiseFault_standing _ _ _ _ _).trans (State.logOn_standing _ _ _ _ _ _ _ _)

@[simp] theorem State.produce_standing (s : State) (x : HeldCpl) (canWrite : Bool) :
    (s.produce x canWrite).standing = s.standing := by
  simp only [State.produce]
  split
  · rfl
  · split
    · rfl
    · split
      · exact State.writeCpl_standing s x
      · exact State.cqFault_standing _ _

theorem State.drainDue_standing (fk : Nat) (todo : List HeldCpl) :
    ∀ (s : State) (kept : List HeldCpl), (s.drainDue fk todo kept).standing = s.standing := by
  induction todo with
  | nil => exact fun s kept => rfl
  | cons x rest ih =>
    intro s kept
    unfold State.drainDue
    split
    · exact (ih _ _).trans (State.produce_standing _ x true)
    · exact ih _ _

@[simp] theorem State.pushDue_standing (s : State) (fk : Nat) (x : HeldCpl) : (s.pushDue fk x).standing = s.standing :=
  State.drainDue_standing _ _ _ _

@[simp] theorem State.endAbort_standing (s : State) (q status : Nat) : (s.endAbort q status).standing = s.standing := by
  simp only [State.endAbort]
  split
  · rfl
  · split
    · rfl
    · exact State.pushDue_standing _ _ _

@[simp] theorem State.shadow_standing (s : State) (fk q : Nat) (head : BitVec 16) (st : Nat) :
    (s.shadow fk q head st).standing = s.standing :=
  (State.shadow_onlyIrq s fk q head st).standing

@[simp] theorem State.drained_standing (s : State) (q : Nat) : (s.drained q).standing = s.standing := by
  simp only [State.drained]
  split
  · rfl
  · split
    · simp
    · split <;> simp

@[simp] theorem State.finish_standing (s : State) (q : Nat) (e : Entry) (status bytes qflags data : Nat) (canWrite : Bool) :
    (s.finish q e status bytes qflags data canWrite).standing = s.standing := by
  simp only [State.finish, State.drained_standing]
  split
  · split <;> simp
  · simp

@[simp] theorem State.lostSend_standing (s : State) (f : Frame) : (s.lostSend f).standing = s.standing := by
  simp only [State.lostSend, State.endSend]
  split
  · split
    · exact State.finish_standing _ _ _ _ _ _ _ _
    · rfl
  · rfl

@[simp] theorem State.lostSends_standing (s : State) (fs : List Frame) : (s.lostSends fs).standing = s.standing :=
  State.foldl_standing State.lostSend_standing fs s

/-! ### Copy channels' gates (R134, R135) -/

@[simp] theorem State.evalGate_standing (s : State) (ch : Nat) : (s.evalGate ch).standing = s.standing := by
  simp only [State.evalGate]
  split
  · split
    · rfl
    · split
      · rfl
      · exact State.raiseCopyFault_standing _ _
  · rfl

@[simp] theorem State.evalGates_standing (s : State) : s.evalGates.standing = s.standing :=
  State.foldl_standing State.evalGate_standing _ s

/-! ### Storage commands that end, and detachments (R317, R326) -/

@[simp] theorem State.stDrained_standing (s : State) (k : Nat) : (s.stDrained k).standing = s.standing := by
  simp only [State.stDrained]
  split
  · exact State.shadow_standing _ _ _ _ _
  · rfl

@[simp] theorem State.endStAbort_standing (s : State) (k status : Nat) : (s.endStAbort k status).standing = s.standing := by
  simp only [State.endStAbort]
  split
  · rfl
  · split
    · exact (State.stDrained_standing _ _).trans (State.produce_standing _ _ _)
    · rfl

/-- A command of a storage queue that ends, in the order of its effects: the queue, the error log, a freeze, a count, the
completion, and the abort that waited for it. -/
@[simp] theorem State.stFinish_standing (s : State) (k : Nat) (c : SCmd) (status bytes data : Nat) (own canWrite : Bool) :
    (s.stFinish k c status bytes data own canWrite).standing = s.standing := by
  have hlog : ∀ (a : State) lba drive froze, (a.logError k c status lba drive froze).standing = a.standing := fun _ _ _ _ => rfl
  have hcount : ∀ (a : State) h sub n, (a.countStorage h sub n).standing = a.standing := fun _ _ _ _ => rfl
  simp only [State.stFinish, State.stDrained_standing]
  split <;> simp [apply_ite State.standing, hlog, hcount]

@[simp] theorem State.endNsCmd_standing (s : State) (src : AdminSrc) (st data : Nat) :
    (s.endNsCmd src st data).standing = s.standing := by
  unfold State.endNsCmd
  split
  · rfl
  · split
    · exact State.stFinish_standing _ _ _ _ _ _ _ _
    · rfl

@[simp] theorem State.tryDetach_standing (s : State) : s.tryDetach.standing = s.standing := by
  refine State.foldl_standing (fun a d => ?_) _ s
  unfold State.detachStep
  split
  · rfl
  · exact (State.endNsCmd_standing _ _ _ _).trans rfl

/-! ### Slices (R81, R83) -/

@[simp] theorem State.pfcCheck_standing (s : State) (n p : Nat) : (s.pfcCheck n p).standing = s.standing := by
  simp only [State.pfcCheck]
  split
  · split
    · rfl
    · split <;> rfl
  · rfl

@[simp] theorem State.resetTmgr_standing (s : State) (h : Half) (id : Nat) : (s.resetTmgr h id).standing = s.standing := by
  have hp : ∀ (a : State) fs, (a.pfcAfter fs).standing = a.standing := fun a fs => by
    unfold State.pfcAfter
    exact State.foldl_standing (fun b f => b.pfcCheck_standing _ _) fs a
  exact (hp _ _).trans ((State.countSlice_standing _ _ _ _ _).trans (State.onHalf_standing rfl))

@[simp] theorem State.orphan_standing (s : State) (p : Nat → Bool) : (s.orphan p).standing = s.standing := rfl

@[simp] theorem State.sliceReset_standing (s : State) (id : Nat) : (s.sliceReset id).standing = s.standing := by
  unfold State.sliceReset
  extract_lets x h fk isQp isWq isCq _ s1 s2 f s3 s4 s5 _ s6
  have h2 : s2.standing = s.standing := State.onHalf_standing (s := s1) (h := h) rfl
  have h4 : s4.standing = s3.standing :=
    (State.resetTmgr_standing _ .q id).trans ((State.resetTmgr_standing _ .k id).trans (State.orphan_standing _ _))
  have h3 : s3.standing = s2.standing := s2.setFn_standing fk _
  have h5 : s5.standing = s4.standing := s4.setPort_standing _ _
  have h6 : s6.standing = s5.standing := rfl
  rw [State.tryDetach_standing, State.evalGates_standing, State.setSlice_standing]
  exact h6.trans (h5.trans (h4.trans (h3.trans h2)))

@[simp] theorem State.closeQueue_standing (s : State) (q : Nat) : (s.closeQueue q).standing = s.standing := by
  simp only [State.closeQueue]
  split
  · simp
  · rfl

@[simp] theorem State.closeStq_standing (s : State) (k : Nat) : (s.closeStq k).standing = s.standing := by
  simp only [State.closeStq]
  split
  · exact State.shadow_standing _ _ _ _ _
  · rfl

@[simp] theorem State.closeSlice_standing (s : State) (id : Nat) : (s.closeSlice id).standing = s.standing :=
  (State.foldl_standing State.closeStq_standing _ _).trans (State.foldl_standing State.closeQueue_standing _ s)

@[simp] theorem State.freeSlice_standing (s : State) (id : Nat) : (s.freeSlice id).standing = s.standing :=
  (State.onHalf_standing (h := recHome (s.slice id).record) rfl).trans
    ((State.onHalf_standing (h := .q) rfl).trans (State.onHalf_standing (h := .k) rfl))

@[simp] theorem State.endSliceCmd_standing (s : State) (status : Nat) : (s.endSliceCmd status).standing = s.standing := by
  unfold State.endSliceCmd
  split <;> rfl

@[simp] theorem State.endDestroy_standing (s : State) (id : Nat) : (s.endDestroy id).standing = s.standing := by
  simp only [State.endDestroy]
  split
  · rfl
  · split <;> simp

@[simp] theorem State.settle_standing (s : State) (id : Nat) : (s.settle id).standing = s.standing := by
  simp only [State.settle]
  split
  · split
    · simp
    · split <;> simp
  · split <;> simp

/-! ### Host ports (R62, R63, R65) -/

@[simp] theorem State.resetOwn_standing (s : State) (fk : Nat) : (s.resetOwn fk).standing = s.standing := by
  simp only [State.resetOwn, State.evalGates_standing, State.orphan_standing]
  exact State.onHalf_standing rfl

@[simp] theorem State.resetMbox_standing (s : State) (p : Fin 4) : (s.resetMbox p).standing = s.standing := by
  have he : (s.endSession (.mbox p)).standing = s.standing := by
    simp only [State.endSession]
    split <;> rfl
  exact he

@[simp] theorem State.fnReset_standing (s : State) (p : Fin 4) (n : Nat) : (s.fnReset p n).standing = s.standing := by
  have hr : ∀ (a : State) id, (a.resetSettle id).standing = a.standing := fun a id => by simp [State.resetSettle]
  unfold State.fnReset
  extract_lets fk pf mine s1 _ _ s2
  have h2 : s2.standing = s1.standing := by
    unfold s2
    split
    · split
      · exact hr _ _
      · rfl
    · split
      · exact (State.resetOwn_standing _ _).trans (State.foldl_standing hr _ s1)
      · split
        · exact State.resetOwn_standing s1 fk
        · exact State.resetMbox_standing s1 p
  exact h2

@[simp] theorem State.portDown_standing (s : State) (p : Fin 4) : (s.portDown p).standing = s.standing := by
  simp only [State.portDown, State.foldl_standing State.settle_standing, State.setPort_standing,
    State.foldl_standing fun a n => State.fnReset_standing a p n]

/-! ### Ethernet ports, units and DRAM (R332, R412, R414, R421) -/

@[simp] theorem State.dropPort_standing (s : State) (n sub : Nat) (p : Nat → Bool) :
    (s.dropPort n sub p).standing = s.standing := by
  have he : ∀ (a : State) h l, (a.emptyLeaf h l).standing = a.standing := fun a h l => State.onHalf_standing rfl
  unfold State.dropPort
  extract_lets h ls fs
  exact (State.lostSends_standing _ _).trans (State.foldl_standing (fun a l => he a h l) ls s)

@[simp] theorem State.portsDown_standing (s : State) (h : Half) : (s.portsDown h).standing = s.standing := by
  refine State.foldl_standing (fun a i => ?_) _ s
  simp only [State.linkLoss]
  split
  · exact (State.dropPort_standing _ _ _ _).trans (State.log_standing _ _ _ _ _ _)
  · rfl

@[simp] theorem State.toUnit_standing (s : State) (h : Half) (i : Nat) (st : UnitSt) (cause : Nat) :
    (s.toUnit h i st cause).standing = s.standing := by
  simp only [State.toUnit]
  split <;> simp

@[simp] theorem State.cutUnitCmd_standing (s : State) (h : Half) (i : Nat) : (s.cutUnitCmd h i).standing = s.standing := by
  unfold State.cutUnitCmd
  split
  · exact State.setUnit_standing _ _ _ _
  · rfl

@[simp] theorem State.visitOver_standing (s : State) (h : Half) : (s.visitOver h).standing = s.standing :=
  State.onHalf_standing rfl

@[simp] theorem State.nibLoss_standing (s : State) (u : Nat) : (s.nibLoss u).standing = s.standing :=
  State.lostSends_standing _ _

@[simp] theorem State.flightLoss_standing (s : State) (h : Half) : (s.flightLoss h).standing = s.standing :=
  (State.lostSends_standing _ _).trans (State.onHalf_standing rfl)

theorem State.placeGranule_standing (s : State) (id g : Nat) : (s.placeGranule id g).standing = s.standing := by
  simp only [State.placeGranule]
  split
  · rfl
  · split
    · rfl
    · rfl
    · split <;> rfl

@[simp] theorem State.nsLoss_standing (s : State) (id : Nat) : (s.nsLoss id).standing = s.standing := by
  have hg : ∀ (a : State) g, (a.surviveGranule id g).standing = a.standing := fun a g => by
    simp only [State.surviveGranule]
    split
    · rfl
    · exact State.placeGranule_standing _ _ _
  have hs := State.foldl_standing hg ((s.ns id).buf.map Prod.fst) s
  simp only [State.nsLoss]
  split
  · exact hs
  · exact hs

@[simp] theorem State.loseDram_standing (s : State) (h : Half) : (s.loseDram h).standing = s.standing := by
  have he : ∀ a : State, a.switchEnd.standing = a.standing := fun a => by
    unfold State.switchEnd
    split <;> rfl
  have hn : ∀ (a : State) i,
      (a.setNib (4 * h.num + i) { a.nib (4 * h.num + i) with overflow := [], lost := some a.fresh }).standing = a.standing :=
    fun a i => a.setNib_standing _ _
  unfold State.loseDram
  extract_lets ids s1 chans _ s2 s3
  have h1 : s1.standing = s.standing := State.foldl_standing State.nsLoss_standing ids s
  have h2 : s2.standing = s1.standing := he _
  have h3 : s3.standing = s2.standing := State.foldl_standing hn _ s2
  exact s3.fresher_standing.trans (h3.trans (h2.trans h1))

@[simp] theorem State.zeroise_standing (s : State) (h : Half) : (s.zeroise h).standing = s.standing :=
  State.onHalf_standing (s := s) (h := h) rfl

/-! ### The stop of a half (R422) -/

/-- What stands of the halves after one stops is what stood before, with the half stopped. -/
theorem State.stopHalf_standing {s : State} {h : Half} (hs : (s.half h).stopped = false) :
    (s.stopHalf h).standing = (s.onHalf h fun x => { x with stopped := true }).standing := by
  have honly : ∀ a : State, a.standing = s.standing →
      (a.onHalf h fun x => { x with stopped := true }).standing = (s.onHalf h fun x => { x with stopped := true }).standing := by
    intro a ha
    have hx := congrArg (fun x : HalfSt => { x with stopped := true }) (State.half_standing ha h)
    obtain ⟨hk, hq⟩ := Prod.mk.inj ha
    cases h
    · exact Prod.ext hx hq
    · exact Prod.ext hk hx
  have hdown : ∀ (a : State) (p : Fin 4),
      (if (a.port p.val).root then a.setPort p.val { a.port p.val with up := false, rate := 0, width := 0, flit := false }
       else if (a.port p.val).up then a.portDown p else a).standing = a.standing := by
    intro a p
    split
    · rfl
    · split
      · exact State.portDown_standing a p
      · rfl
  unfold State.stopHalf
  rw [if_neg (by simp [hs])]
  extract_lets s1 s2 s3 s4 s5
  have h1 : s1.standing = s.standing :=
    State.foldl_standing (fun a i => (State.cutUnitCmd_standing _ h i).trans (State.toUnit_standing a h i _ _)) _ s
  have h2 : s2.standing = s1.standing :=
    (State.foldl_standing (fun a i => a.nibLoss_standing _) _ _).trans (s1.visitOver_standing h)
  have h3 : s3.standing = s2.standing := (State.portsDown_standing _ h).trans (s2.flightLoss_standing h)
  have h4 : s4.standing = s3.standing := State.foldl_standing hdown _ s3
  have h5 : s5.standing = s4.standing := (State.zeroise_standing _ h).trans (s4.loseDram_standing h)
  rw [State.evalGates_standing, State.log_standing]
  exact honly s5 (h5.trans (h4.trans (h3.trans (h2.trans h1))))

end Sys2Proof.Machine
end

section
/-! SUPPORT. The governors, the life budget and PACE_MODE (01 R22 to R29, 17 R452). -/

namespace Sys2Proof.Machine
open Sys2Proof

/-! ### A sample of a governor (R22, R23, R26, R452) -/

theorem State.running_of_boot {s : State} (h : s.board.boot = .running) : s.running = true := by
  simp [State.running, h]

/-- The rail is moved within 0.55 to 0.90 V. -/
theorem State.railAt_bounds {s : State} {h : Half} (hlo : 550 ≤ (s.half h).gov.vcore) (hhi : (s.half h).gov.vcore ≤ 900) :
    550 ≤ s.railAt h ∧ s.railAt h ≤ 900 := by
  simp only [State.railAt]
  split
  · exact ⟨hlo, hhi⟩
  · split
    · decide
    · split
      · exact ⟨Nat.le_min.mpr ⟨by decide, by omega⟩, Nat.min_le_left _ _⟩
      · omega

/-- At 85 °C or below the accrual stays within the bound of the mode. -/
theorem State.rateAt_le {s : State} {h : Half} (ht : (s.half h).gov.temp ≤ 850) :
    s.rateAt h ≤ if s.paceMode h = 2 then 160000 else 40000 := by
  simp only [State.rateAt]
  rw [if_pos (.inr ht)]
  exact Nat.lt_succ_iff.mp (Nat.mod_lt _ (Nat.succ_pos _))

/-- A half that is not in MAX is not sampled as in MAX. -/
theorem State.paceMode_ne_max {s : State} {h : Half} (hp : s.param h 0x2000 1 0 0 ≠ 2) : s.paceMode h ≠ 2 := by
  unfold State.paceMode
  split
  · decide
  · exact hp

/-- A half's governor with a temperature read. -/
def State.sensed (s : State) (h : Half) (c : Int) : State := s.onHalf h fun x => { x with gov := x.gov.sense c }

@[simp] theorem State.sensed_half (s : State) (h : Half) (c : Int) :
    (s.sensed h c).half h = { s.half h with gov := (s.half h).gov.sense c } :=
  State.onHalf_half _ _ _

theorem State.sensed_param (s : State) (h g : Half) (c : Int) (i sub sel d : Nat) :
    (s.sensed h c).param g i sub sel d = s.param g i sub sel d := by
  cases h <;> rfl

theorem State.sensed_railAt {s : State} {h : Half} (hlo : 550 ≤ (s.half h).gov.vcore) (hhi : (s.half h).gov.vcore ≤ 900)
    (c : Int) : 550 ≤ (s.sensed h c).railAt h ∧ (s.sensed h c).railAt h ≤ 900 := by
  refine State.railAt_bounds ?_ ?_
  · rw [State.sensed_half]
    exact hlo
  · rw [State.sensed_half]
    exact hhi

theorem State.sensed_rateAt (s : State) (h : Half) {c : Int} (hc : c ≤ 850) :
    (s.sensed h c).rateAt h ≤ if (s.sensed h c).paceMode h = 2 then 160000 else 40000 := by
  refine State.rateAt_le ?_
  rw [State.sensed_half]
  exact hc

theorem State.sensed_rateAt_le_max (s : State) (h : Half) {c : Int} (hc : c ≤ 850) : (s.sensed h c).rateAt h ≤ 160000 := by
  refine (s.sensed_rateAt h hc).trans ?_
  split <;> decide

theorem State.sensed_rateAt_le_of_not_max {s : State} {h : Half} {c : Int} (hc : c ≤ 850) (hp : s.param h 0x2000 1 0 0 ≠ 2) :
    (s.sensed h c).rateAt h ≤ 40000 :=
  (s.sensed_rateAt h hc).trans_eq (if_neg (State.paceMode_ne_max (by rwa [State.sensed_param])))

/-- A governor after a sample: the rail, the headroom and the accrual rate found. -/
def Governor.sampled (g : Governor) (rail headroom rate : Nat) : Governor :=
  { g with
    vcore := rail, headroom := headroom, lifeRate := rate
    lifeUsed := Nat.min (g.lifeUsed + (g.lifeAcc + rate) / yearUnits) 4294967295
    lifeAcc := (g.lifeAcc + rate) % yearUnits }

/-- The budget never falls, and stays a 32-bit number. -/
theorem Governor.sampled_lifeUsed {g : Governor} (hg : g.lifeUsed < 2 ^ 32) (rail headroom rate : Nat) :
    g.lifeUsed ≤ (g.sampled rail headroom rate).lifeUsed ∧ (g.sampled rail headroom rate).lifeUsed < 2 ^ 32 :=
  ⟨Nat.le_min.mpr ⟨Nat.le_add_right _ _, by omega⟩, Nat.lt_succ_of_le (Nat.min_le_right _ _)⟩

/-- A half after a sample of its governor, the marks of the budget's events apart. -/
def State.sampled (s : State) (h : Half) (c : Int) : State :=
  ((s.sensed h c).onHalf h fun x => { x with
    gov := x.gov.sampled ((s.sensed h c).railAt h) (Config.headroom s.fresh % 65536) ((s.sensed h c).rateAt h) }).fresher

theorem State.governorSample_eq (s : State) (h : Half) (c : Int) : s.governorSample h c = (s.sampled h c).checkLife := rfl

@[simp] theorem State.fresher_half (s : State) (h : Half) : s.fresher.half h = s.half h := by
  cases h <;> rfl

theorem State.sampled_half (s : State) (h : Half) (c : Int) :
    ((s.sampled h c).half h).gov = ((s.half h).gov.sense c).sampled ((s.sensed h c).railAt h)
      (Config.headroom s.fresh % 65536) ((s.sensed h c).rateAt h) := by
  simp only [State.sampled, State.fresher_half, State.onHalf_half, State.sensed_half]

theorem State.sampled_other (s : State) (h : Half) (c : Int) : (s.sampled h c).half h.other = s.half h.other := by
  simp only [State.sampled, State.sensed, State.fresher_half, State.onHalf_other]

/-- A sample changes the halves and the draws alone. -/
theorem State.sampled_frame (s : State) (h : Half) (c : Int) :
    { s.sampled h c with k := s.k, q := s.q, fresh := s.fresh } = s := by
  cases h <;> rfl

/-! ### LIFE_WARN and LIFE_END (R27) -/

/-- A record of class 0 to 2 is kept in the half's log alone. -/
theorem State.logOn_frame (s : State) (h : Half) {code cls unit sl action detail : Nat} (hc : cls < 3) :
    { s.logOn h code cls unit sl action detail with k := s.k, q := s.q } = s := by
  simp only [State.logOn, if_pos hc]
  cases h <;> rfl

/-- The halves differ from another state's in their logs and in the marks of the budget's events alone, and nothing else
differs. -/
def State.onlyMarks (t s : State) : Prop :=
  { t with k := s.k, q := s.q } = s
    ∧ ∀ h, ∃ w e, (t.half h).gov = { (s.half h).gov with warned := w, ended := e }

theorem State.onlyMarks.refl (s : State) : s.onlyMarks s := ⟨rfl, fun _ => ⟨_, _, rfl⟩⟩

theorem State.onlyMarks.trans {t u s : State} (h1 : t.onlyMarks u) (h2 : u.onlyMarks s) : t.onlyMarks s := by
  refine ⟨(congrArg (fun a : State => { a with k := s.k, q := s.q }) h1.1).trans h2.1, fun h => ?_⟩
  obtain ⟨_, _, hu⟩ := h2.2 h
  obtain ⟨w, e, ht⟩ := h1.2 h
  exact ⟨w, e, by rw [ht, hu]⟩

/-- An event of the budget is marked on both halves and logged. -/
theorem State.log_onBoth_onlyMarks (s : State) {mark : HalfSt → HalfSt} (code n : Nat)
    (hm : ∀ x, ∃ w e, (mark x).gov = { x.gov with warned := w, ended := e }) :
    ((s.onBoth mark).log code 0 255 0 n).onlyMarks s := by
  have hf := (s.onBoth mark).logOn_frame ((s.onBoth mark).logHalf 255) (code := code) (unit := 255) (sl := 65535) (action := 0)
    (detail := n) (by decide : 0 < 3)
  refine ⟨congrArg (fun a : State => { a with k := s.k, q := s.q }) hf, fun h => ?_⟩
  rw [State.gov_of_standing (State.log_standing _ _ _ _ _ _), State.onBoth_half]
  exact hm _

theorem State.checkLife_onlyMarks (s : State) : s.checkLife.onlyMarks s := by
  unfold State.checkLife
  extract_lets n g s1
  have hw : s1.onlyMarks s := by
    unfold s1
    split
    · exact s.log_onBoth_onlyMarks _ _ fun _ => ⟨_, _, rfl⟩
    · exact .refl s
  split
  · refine State.onlyMarks.trans (State.log_onBoth_onlyMarks _ _ _ ?_) hw
    exact fun _ => ⟨_, _, rfl⟩
  · exact hw

/-! ### LIFE_RECORD_HOURLY (R27, R391) -/

/-- A copy of the next generation in place of the copy not in force is the store in force. -/
theorem NonVol.store_next (n : NonVol) {c : StoreCopy} (hg : n.store.gen < c.gen) (hv : c.valid = true) :
    (if n.second then { n with copy0 := c } else { n with copy1 := c }).store = c := by
  cases h : n.second <;> rw [NonVol.store, h] at hg
  · have h' : NonVol.second { n with copy1 := c } = true := by
      simp_all [NonVol.second]
    simp [NonVol.store, h']
  · have h' : NonVol.second { n with copy0 := c } = false := by
      simp only [NonVol.second, hv, Bool.not_true, Bool.false_or, Bool.and_eq_false_iff, decide_eq_false_iff_not]
      exact .inr (Nat.not_lt.mpr hg.le)
    simp [NonVol.store, h']

/-- The copy in force changed in place is still the store in force. -/
theorem NonVol.store_inForce (n : NonVol) {f : StoreCopy → StoreCopy} (hg : ∀ c, (f c).gen = c.gen)
    (hv : ∀ c, (f c).valid = c.valid) :
    (if n.second then { n with copy1 := f n.copy1 } else { n with copy0 := f n.copy0 }).store = f n.store := by
  cases h : n.second
  · have h' : NonVol.second { n with copy0 := f n.copy0 } = false := by
      rw [← h]; simp only [NonVol.second, hg, hv]
    simp [NonVol.store, h, h']
  · have h' : NonVol.second { n with copy1 := f n.copy1 } = true := by
      rw [← h]; simp only [NonVol.second, hg, hv]
    simp [NonVol.store, h, h']

/-- The life count that the device writes of its own is in the store in force. -/
theorem State.ownWrite_life (s : State) (n : Nat) :
    (s.ownWrite fun c => { c with life := some n }).nv.store.life = some n := by
  unfold State.ownWrite
  split
  · exact congrArg StoreCopy.life (s.nv.store_inForce (f := fun c => { c with life := some n }) (fun _ => rfl) fun _ => rfl)
  · exact congrArg StoreCopy.life (s.nv.store_next
      (c := { s.nv.store with life := some n, gen := s.nv.store.gen + 1, valid := true }) (Nat.lt_succ_self _) rfl)

/-- A write of the device's own reaches the store's copies alone, with the one being written. -/
theorem State.ownWrite_frame (s : State) (f : StoreCopy → StoreCopy) :
    { s.ownWrite f with nv := s.nv, mgmt := { (s.ownWrite f).mgmt with storeNext := s.mgmt.storeNext } } = s := by
  unfold State.ownWrite
  split <;> rfl

/-! ### PACE_MODE (R23, R24, R385) -/

@[simp] theorem State.param_setParam_self (s : State) (h : Half) (i sub sel v d : Nat) :
    (s.setParam h i sub sel v).param h i sub sel d = v := by
  cases h <;> exact mget_mput_same _ _ _ _

theorem State.param_setParam_other (s : State) (h : Half) (i sub sel v d : Nat) :
    (s.setParam h.other i sub sel v).param h i sub sel d = s.param h i sub sel d := by
  cases h <;> rfl

/-- A value set while the halves are joined is set on both. -/
theorem State.param_setParams_joined {s : State} (hj : s.cstl.split = false) (h g : Half) (i sub sel v d : Nat) :
    (s.setParams h i sub sel v).param g i sub sel d = v := by
  rw [State.setParams, hj, if_neg Bool.false_ne_true]
  cases g
  · exact (State.param_setParam_other _ .k _ _ _ _ _).trans (State.param_setParam_self _ _ _ _ _ _ _)
  · exact State.param_setParam_self _ _ _ _ _ _ _

/-- A value set is set on the half that serves the request. -/
theorem State.param_setParams_self (s : State) (h : Half) (i sub sel v d : Nat) :
    (s.setParams h i sub sel v).param h i sub sel d = v := by
  cases hj : s.cstl.split
  · exact State.param_setParams_joined hj _ _ _ _ _ _ _
  · rw [State.setParams, hj]
    exact State.param_setParam_self _ _ _ _ _ _ _

/-- A value set changes the halves' parameters alone, of what a request does not touch anyway. -/
theorem State.setParams_quiet (s : State) (h : Half) (i sub sel v : Nat) :
    { (s.setParams h i sub sel v).quiet with
      mgmt := { (s.setParams h i sub sel v).quiet.mgmt with paramsK := s.mgmt.paramsK, paramsQ := s.mgmt.paramsQ } } = s.quiet := by
  unfold State.setParams
  split
  · cases h <;> rfl
  · rfl

/-- The record of a divergent change is no parameter, and is touched by every request. -/
theorem State.diverge_param (s : State) (ss : Session) (i sub detail : Nat) (h : Half) (j k l d : Nat) :
    (s.diverge ss i sub detail).param h j k l d = s.param h j k l d := by
  have hm : (s.diverge ss i sub detail).mgmt = s.mgmt := by
    unfold State.diverge
    split
    · exact State.onHalf_mgmt _ _ _
    · rfl
  cases h
  · exact congrArg (fun m : Mgmt => mget m.paramsK (okey j k l) d) hm
  · exact congrArg (fun m : Mgmt => mget m.paramsQ (okey j k l) d) hm

theorem State.diverge_quiet (s : State) (ss : Session) (i sub detail : Nat) : (s.diverge ss i sub detail).quiet = s.quiet := by
  unfold State.diverge
  split
  · cases s.server ss <;> rfl
  · rfl

/-- PACE_MODE set by a request: on the half or halves that it is for, recorded where the halves are split, and answered. -/
def State.paceSet (s : State) (w : Who) (v : Nat) : State :=
  (((s.accepted w).setParams (s.server w.sess) 0x2000 1 0 v).diverge w.sess 0x2000 1 0).emit (.resp w.sess rsOk [])

theorem exec_paceModeWrite_granted {s : State} {w : Who} {v : BitVec 8}
    (hg : s.grants w 0x2000 1 (leBytes 1 v.toNat) = true) (hv : v.toNat ≤ 2)
    (ht : v = 0 ∨ (s.k.gov.trimFallback = false ∧ s.q.gov.trimFallback = false)) :
    exec (.paceModeWrite w v) s = .next (s.paceSet w v.toNat) := by
  have hact : ¬ (2 < v.toNat ∨ (v ≠ 0 ∧ ((s.accepted w).k.gov.trimFallback ∨ (s.accepted w).q.gov.trimFallback))) := by
    rintro (h | ⟨h0, h⟩)
    · omega
    · obtain ⟨hk, hq⟩ := ht.resolve_left h0
      rcases h with h | h
      · exact Bool.false_ne_true (hk.symm.trans h)
      · exact Bool.false_ne_true (hq.symm.trans h)
  have hcust : custodyObj 0x2000 1 = true := by decide
  show execPaceModeWrite w v s = _
  rw [execPaceModeWrite, State.write_granted hg, if_neg (by simp [idle]), if_neg (by simp [always]), if_neg hact]
  simp only [hcust, if_true]
  rfl

/-- MAX needs the OWNER role. -/
theorem State.early_paceMax {s : State} {w : Who} (hb : s.board.boot = .running) (hr : s.role w = 2) :
    s.early w true 0x2000 1 (leBytes 1 2) = rsDenied := by
  have hrow : objRow 0x2000 1 = some ⟨0x2000, 0x2000, 1, 1, .rwp, 1, false, 1, 2⟩ := by decide
  have hmax : leNat (leBytes 1 2) = 2 := by decide
  simp only [State.early, hrow, hb, hmax]
  rw [if_neg (by simp), if_pos (by simp [hr, writeRole])]

theorem exec_paceModeWrite_max_denied {s : State} {w : Who} (hb : s.board.boot = .running)
    (hu : (s.half (s.server w.sess)).supvUp = true) (hr : s.role w = 2) :
    exec (.paceModeWrite w 2) s = .next (((s.accepted w).answer w rsDenied).state w) := by
  show execPaceModeWrite w 2 s = _
  have he : s.early w true 0x2000 1 (leBytes 1 (2 : BitVec 8).toNat) = rsDenied := State.early_paceMax hb hr
  have h0 : rsDenied ≠ 0 := by decide
  simp only [execPaceModeWrite, State.write, State.accept_eq s w (State.running_of_boot hb) hu (by omega), State.accepted_early,
    he, ne_eq, h0, not_false_eq_true, if_true]
  rfl

/-! ### What the commands do -/

theorem exec_governorSample {s : State} (hb : s.board.boot = .running) (h : Half) (c : Int) :
    exec (.governorSample h c) s = .next (s.governorSample h c) := by
  show execGovernorSample h c s = _
  rw [execGovernorSample, if_pos (State.running_of_boot hb)]

theorem State.governorSample_gov (s : State) (h : Half) (c : Int) :
    ∃ w e, ((s.governorSample h c).half h).gov =
      { ((s.half h).gov.sense c).sampled ((s.sensed h c).railAt h) (Config.headroom s.fresh % 65536) ((s.sensed h c).rateAt h) with
        warned := w, ended := e } := by
  rw [← State.sampled_half]
  exact (s.sampled h c).checkLife_onlyMarks.2 h

theorem State.governorSample_other_vcore (s : State) (h : Half) (c : Int) :
    ((s.governorSample h c).half h.other).gov.vcore = (s.half h.other).gov.vcore := by
  obtain ⟨w, e, hg⟩ := (s.sampled h c).checkLife_onlyMarks.2 h.other
  rw [State.governorSample_eq, hg, State.sampled_other]

theorem State.governorSample_frame (s : State) (h : Half) (c : Int) :
    { s.governorSample h c with k := s.k, q := s.q, fresh := s.fresh } = s :=
  (congrArg (fun a : State => { a with k := s.k, q := s.q, fresh := s.fresh }) (s.sampled h c).checkLife_onlyMarks.1).trans
    (s.sampled_frame h c)

theorem exec_lifeRecordHourly {s : State} (hb : s.board.boot = .running) :
    exec .lifeRecordHourly s = .next s.recordLife := by
  show execLifeRecordHourly s = _
  rw [execLifeRecordHourly, if_pos (State.running_of_boot hb)]

theorem exec_thermalStop {s : State} (hb : s.board.boot = .running) (h : Half) :
    exec (.thermalStop h) s = .next ((s.sensed h (max 1200 (s.half h).gov.temp)).stopHalf h) := by
  show execThermalStop h s = _
  rw [execThermalStop, if_pos (State.running_of_boot hb)]
  rfl

/-- The half stops, the other stays as it is, and both SUPVs keep running (R422). -/
theorem State.stopHalf_half {s : State} {h : Half} (hs : (s.half h).stopped = false) :
    ((s.stopHalf h).half h).stopped = true ∧ ((s.stopHalf h).half h).supvUp = (s.half h).supvUp
      ∧ ((s.stopHalf h).half h.other).stopped = (s.half h.other).stopped := by
  have ht := State.stopHalf_standing hs
  refine ⟨?_, ?_, ?_⟩
  · rw [State.stopped_of_standing ht, State.onHalf_half]
  · rw [State.supvUp_of_standing ht, State.onHalf_half]
  · rw [State.stopped_of_standing ht, State.onHalf_other]

/-- Settles O3, a command at a time: the governor a sample leaves behind, the store in force after the life count is written to
it, what stands of the halves after a stop, and the request that a write of PACE_MODE is. -/
theorem governorAndLifeBudget : Obligations.GovernorAndLifeBudget := by
  unfold Obligations.GovernorAndLifeBudget
  refine ⟨fun s h c hb _ hlo hhi => ⟨_, exec_governorSample hb h c, ?sample⟩,
    fun s hb => ⟨_, exec_lifeRecordHourly hb, rfl, s.ownWrite_life _, s.ownWrite_frame _⟩,
    fun s h hb hst => ⟨_, exec_thermalStop hb h, ?stop⟩,
    fun s w v hg hv ht => ⟨_, exec_paceModeWrite_granted hg hv ht, rfl, ?value, fun hj h => ?joined, ?quiet⟩,
    fun s w hb hu hr => ⟨_, exec_paceModeWrite_max_denied hb hu hr, rfl, rfl⟩⟩
  case sample =>
    obtain ⟨w, e, hg⟩ := s.governorSample_gov h c
    obtain ⟨hvlo, hvhi⟩ := State.sensed_railAt hlo hhi c
    have hf := s.governorSample_frame h c
    rw [hg]
    refine ⟨rfl, hvlo, hvhi, s.governorSample_other_vcore h c, fun hc => if_pos hc, fun hc => ?below, fun h1 h2 => ?between,
      fun hc hp => State.sensed_rateAt_le_of_not_max hc hp, fun hc => s.sensed_rateAt_le_max h hc, fun hu => ?budget,
      (congrArg State.wqs hf :), (congrArg State.slices hf :), (congrArg State.nv hf :), (congrArg State.board hf :)⟩
    case below => exact (if_neg (by omega)).trans (if_pos hc)
    case between => exact (if_neg (by omega)).trans (if_neg (by omega))
    case budget =>
      exact Governor.sampled_lifeUsed (g := (s.half h).gov.sense c) hu ((s.sensed h c).railAt h) (Config.headroom s.fresh % 65536)
        _
  case stop =>
    have hs := s.sensed_half h (max 1200 (s.half h).gov.temp)
    obtain ⟨hstop, hsupv, hother⟩ := State.stopHalf_half ((congrArg HalfSt.stopped hs).trans hst)
    exact ⟨hstop, hother.trans (congrArg HalfSt.stopped (s.onHalf_other h _)), hsupv.trans (congrArg HalfSt.supvUp hs :)⟩
  case value => exact (State.diverge_param _ _ _ _ _ _ _ _ _ _).trans (State.param_setParams_self _ _ _ _ _ _ _)
  case joined =>
    exact (State.diverge_param _ _ _ _ _ _ _ _ _ _).trans (State.param_setParams_joined (s := s.accepted w) hj _ h _ _ _ _ _)
  case quiet =>
    have hq : (s.paceSet w v.toNat).quiet = ((s.accepted w).setParams (s.server w.sess) 0x2000 1 0 v.toNat).quiet :=
      State.diverge_quiet _ _ _ _ _
    rw [hq]
    exact State.setParams_quiet _ _ _ _ _ _

end Sys2Proof.Machine
end

section
/-! SUPPORT. What the ends of work, of aborts and of slices leave standing of host ports, functions and work queues (02 R54 to
R65, 03 R81 to R85, 04 R105 to R119). -/

namespace Sys2Proof.Machine
open Sys2Proof

/-! ### What is kept -/

/-- A function without what waits in it to be sent, and without what interrupts and faults mark in it. -/
def Fn.settings (f : Fn) : Fn :=
  { f with
    pmeStatus := false, pba := [], heldIrq := [], held := [], heldShadow := [], due := []
    faultSummary := 0, faultKind := 0, faultNumber := 0 }

/-- A tag but for whether it is quarantined or its answer discarded. -/
def Tag.request (t : Tag) : Tag := { t with quarantined := false, discard := false }

/-- A port without its copy faults, and with the requests alone of its tags. -/
def Port.link (x : Port) : Port := { x with cpyFault := 0, tags := mmap (fun _ t => t.request) x.tags }

/-- A work queue that does not run and that nothing but an enable makes run. -/
def Wq.off (w : Wq) : Prop := w.st = .masterOff ∨ w.st = .disabled

/-- Every port's link and every function's settings are as in another state; a tag quarantined there stays as it is, a queue off
there stays off, what was sent stays sent, and what stands of the halves stays. -/
def State.keeps (t s : State) : Prop :=
  (∀ p, (t.port p).link = (s.port p).link)
  ∧ (∀ k, (t.fn k).settings = (s.fn k).settings)
  ∧ (∀ p v x, mfind (s.port p).tags v = some x → x.quarantined = true → mfind (t.port p).tags v = some x)
  ∧ (∀ q, (s.wq q).off → (t.wq q).off)
  ∧ s.out <:+ t.out
  ∧ t.standing = s.standing

section
variable {t s : State} (h : t.keeps s)
include h

theorem State.keeps.link (p : Nat) : (t.port p).link = (s.port p).link := by
  obtain ⟨hp, -⟩ := h
  exact hp p

theorem State.keeps.settings (k : Nat) : (t.fn k).settings = (s.fn k).settings := by
  obtain ⟨-, hf, -⟩ := h
  exact hf k

theorem State.keeps.quarantined {p v : Nat} {x : Tag} (hx : mfind (s.port p).tags v = some x) (hq : x.quarantined = true) :
    mfind (t.port p).tags v = some x := by
  obtain ⟨-, -, ht, -⟩ := h
  exact ht p v x hx hq

theorem State.keeps.off {q : Nat} (hq : (s.wq q).off) : (t.wq q).off := by
  obtain ⟨-, -, -, hw, -⟩ := h
  exact hw q hq

theorem State.keeps.out : s.out <:+ t.out := by
  obtain ⟨-, -, -, -, ho, -⟩ := h
  exact ho

theorem State.keeps.standing : t.standing = s.standing := by
  obtain ⟨-, -, -, -, -, hs⟩ := h
  exact hs

end

@[simp] theorem State.keeps_refl (s : State) : s.keeps s :=
  ⟨fun _ => rfl, fun _ => rfl, fun _ _ _ hx _ => hx, fun _ hq => hq, List.suffix_refl _, rfl⟩

theorem State.keeps.trans {t u s : State} (h1 : t.keeps u) (h2 : u.keeps s) : t.keeps s :=
  ⟨fun p => (h1.link p).trans (h2.link p), fun k => (h1.settings k).trans (h2.settings k),
    fun _ _ _ hx hq => h1.quarantined (h2.quarantined hx hq) hq, fun _ hq => h1.off (h2.off hq), h2.out.trans h1.out,
    h1.standing.trans h2.standing⟩

/-! ### The writes of the state -/

section
variable {a s : State} (h : a.keeps s)
include h

@[simp] theorem State.emit_keeps (o : Output) : (a.emit o).keeps s :=
  State.keeps.trans (u := a)
    ⟨fun _ => rfl, fun _ => rfl, fun _ _ _ hx _ => hx, fun _ hq => hq, List.suffix_cons o a.out, rfl⟩ h

@[simp] theorem State.fresher_keeps : a.fresher.keeps s := h
@[simp] theorem State.setCq_keeps (k : Nat) (x : Cq) : (a.setCq k x).keeps s := h
@[simp] theorem State.setChan_keeps (k : Nat) (x : Chan) : (a.setChan k x).keeps s := h
@[simp] theorem State.setStq_keeps (k : Nat) (x : Stq) : (a.setStq k x).keeps s := h
@[simp] theorem State.setSlice_keeps (k : Nat) (x : Slice) : (a.setSlice k x).keeps s := h
@[simp] theorem State.setEth_keeps (k : Nat) (x : Eth) : (a.setEth k x).keeps s := h
@[simp] theorem State.setNs_keeps (k : Nat) (x : Ns) : (a.setNs k x).keeps s := h
@[simp] theorem State.setSel_keeps (ss : Session) (k v : Nat) : (a.setSel ss k v).keeps s := h
@[simp] theorem State.count_keeps (i sub n : Nat) : (a.count i sub n).keeps s := h

@[simp] theorem State.countStorage_keeps (g : Half) (sub n : Nat) : (a.countStorage g sub n).keeps s := h
@[simp] theorem State.logError_keeps (k : Nat) (c : SCmd) (status lba drive : Nat) (froze : Bool) :
    (a.logError k c status lba drive froze).keeps s := h

@[simp] theorem State.countSlice_keeps (g : Half) (id c n : Nat) : (a.countSlice g id c n).keeps s := by
  simp only [State.countSlice]
  split <;> exact h

theorem State.onHalf_keeps {g : Half} {f : HalfSt → HalfSt}
    (hf : (f (a.half g)).standing = (a.half g).standing := by rfl) :
    (a.onHalf g f).keeps s := by
  have hs := State.onHalf_standing (s := a) (h := g) hf
  cases g <;> exact State.keeps.trans (u := a)
    ⟨fun _ => rfl, fun _ => rfl, fun _ _ _ hx _ => hx, fun _ hq => hq, List.suffix_refl _, hs⟩ h

@[simp] theorem State.setQp_keeps (g : Half) (i : Nat) (x : Qp) : (a.setQp g i x).keeps s :=
  State.onHalf_keeps h

/-- A function changed in what `Fn.settings` leaves out. -/
theorem State.setFn_keeps {k : Nat} {x : Fn} (hx : x.settings = (a.fn k).settings := by rfl) : (a.setFn k x).keeps s := by
  refine State.keeps.trans (u := a) ⟨fun _ => rfl, fun j => ?_, fun _ _ _ ht _ => ht, fun _ hq => hq, List.suffix_refl _, rfl⟩ h
  rw [State.fn_setFn]
  split
  · next hj => rw [hx, hj]
  · rfl

/-- A port changed in what `Port.link` leaves out, its quarantined tags staying as they are. -/
theorem State.setPort_keeps {p : Nat} {x : Port} (hx : x.link = (a.port p).link := by rfl)
    (ht : ∀ v y, mfind (a.port p).tags v = some y → y.quarantined = true → mfind x.tags v = some y := by exact fun _ _ hy _ => hy) :
    (a.setPort p x).keeps s := by
  refine State.keeps.trans (u := a)
    ⟨fun j => ?_, fun _ => rfl, fun j v y hy hq => ?_, fun _ hq => hq, List.suffix_refl _, rfl⟩ h
  all_goals rw [State.port_setPort]
  · split
    · next hj => rw [hx, hj]
    · rfl
  · split
    · next hj => exact ht v y (hj ▸ hy) hq
    · exact hy

/-- A queue replaced by one that is off where it was. -/
theorem State.setQueue_keeps {q : Nat} {w : Wq} (hw : (a.queue q).off → w.off) : (a.setQueue q w).keeps s := by
  by_cases hq : q < qpBase
  · rw [State.setQueue_of_lt hq]
    rw [State.queue_of_lt hq] at hw
    refine State.keeps.trans (u := a) ⟨fun _ => rfl, fun _ => rfl, fun _ _ _ ht _ => ht, fun j hj => ?_, List.suffix_refl _, rfl⟩ h
    rw [State.wq_setWq]
    split
    · next hjq => exact hw (hjq ▸ hj)
    · exact hj
  · rw [State.setQueue, if_neg hq]
    exact State.setQp_keeps h _ _ _

theorem State.keeps_ite {b : State} (c : Prop) [Decidable c] (hb : b.keeps s) : (if c then a else b).keeps s := by
  split
  · exact h
  · exact hb

end

/-- Steps that each keep, taken one after another. -/
theorem State.foldl_keeps {α : Type} {s : State} {f : State → α → State} (hf : ∀ a x, a.keeps s → (f a x).keeps s) (l : List α) :
    ∀ {a : State}, a.keeps s → (l.foldl f a).keeps s := by
  induction l with
  | nil => exact fun h => h
  | cons x rest ih => exact fun h => ih (hf _ x h)

/-- A state that differs from another in nothing that is kept. -/
theorem State.keeps_of_same {t a s : State} (h : a.keeps s) (hp : t.ports = a.ports := by rfl) (hf : t.fns = a.fns := by rfl)
    (hw : t.wqs = a.wqs := by rfl) (ho : t.out = a.out := by rfl) (hs : t.standing = a.standing := by rfl) : t.keeps s := by
  refine State.keeps.trans (u := a) ⟨fun p => ?_, fun k => ?_, fun p v x hx _ => ?_, fun q hq => ?_, ?_, hs⟩ h
  · rw [State.port, hp, ← State.port]
  · rw [State.fn, hf, ← State.fn]
  · rwa [State.port, hp, ← State.port]
  · rwa [State.wq, hw, ← State.wq]
  · rw [ho]

/-! ### Interrupts (R47, R50 to R52, R60, R77, R114 to R116, R126) -/

section
variable {a s : State} (h : a.keeps s)
include h

@[simp] theorem State.sendMsg_keeps (fk sl v : Nat) : (a.sendMsg fk sl v).keeps s := by
  simp only [State.sendMsg]
  split <;> simp [h]

@[simp] theorem State.holdIrq_keeps (fk sl v : Nat) : (a.holdIrq fk sl v).keeps s := by
  simp only [State.holdIrq]
  split
  · exact h
  · exact State.setFn_keeps h

@[simp] theorem State.holdVector_keeps (sl v : Nat) : (a.holdVector sl v).keeps s := by
  simp only [State.holdVector]
  split <;> exact h

@[simp] theorem State.passVector_keeps (fk sl v : Nat) : (a.passVector fk sl v).keeps s := by
  have hpba : ∀ m, (a.setFn fk { a.fn fk with pba := m }).keeps s := fun m => State.setFn_keeps h
  simp only [State.passVector]
  split
  · simp [h]
  · split
    · split <;> simp [h, hpba]
    · split
      · split <;> simp [h, hpba]
      · simp [h]

@[simp] theorem State.sendPme_keeps (fk : Nat) : (a.sendPme fk).keeps s :=
  State.emit_keeps (State.setFn_keeps h) _

@[simp] theorem State.vectorDue_keeps (fk sl v : Nat) : (a.vectorDue fk sl v).keeps s := by
  unfold State.vectorDue
  split
  · exact h
  · split
    · exact State.sendPme_keeps h fk
    · split <;> simp [h]

@[simp] theorem State.cqDue_keeps (k : Nat) : (a.cqDue k).keeps s := by
  simp only [State.cqDue]
  split
  · split <;> simp [h]
  · split <;> simp [h]

@[simp] theorem State.blotter_keeps (k : Nat) : (a.blotter k).keeps s := by
  simp only [State.blotter]
  split
  · split
    · exact h
    · split <;> simp [h]
  · exact h

@[simp] theorem State.raiseFault_keeps (fk i kind n : Nat) : (a.raiseFault fk i kind n).keeps s := by
  simp only [State.raiseFault]
  split
  · exact State.vectorDue_keeps (State.setFn_keeps h) _ _ _
  · exact State.setFn_keeps h

@[simp] theorem State.raiseCopyFault_keeps (ch : Nat) : (a.raiseCopyFault ch).keeps s :=
  State.vectorDue_keeps (State.setPort_keeps h) _ _ _

/-! ### Completions (R61, R104, R105, R108, R110, R112, R118, R119) -/

@[simp] theorem State.closeAbort_keeps (q : Nat) : (a.closeAbort q).keeps s := by
  unfold State.closeAbort
  split
  · exact State.setQueue_keeps h fun hq => hq
  · split <;> exact h

@[simp] theorem State.writeCpl_keeps (x : HeldCpl) : (a.writeCpl x).keeps s := by
  simp only [State.writeCpl]
  have hb := State.blotter_keeps (State.emit_keeps (State.setCq_keeps h x.cq
    { a.cq x.cq with tail := (a.cq x.cq).tail + 1, reserved := (a.cq x.cq).reserved - 1 })
    (.cqe x.cq (a.cq x.cq).tail (cqPhase (a.cq x.cq)) x.e (a.time (portHalf (keyPort (a.cq x.cq).fn))))) x.cq
  exact State.keeps_ite (State.closeAbort_keeps hb x.queue) _ hb

@[simp] theorem State.logOn_keeps (g : Half) {cls : Nat} (hc : cls < 3) (code unit sl action detail : Nat) :
    (a.logOn g code cls unit sl action detail).keeps s := by
  simp only [State.logOn, if_pos hc]
  exact State.onHalf_keeps h

@[simp] theorem State.cqFault_keeps (k : Nat) : (a.cqFault k).keeps s := by
  unfold State.cqFault
  extract_lets c g p s1
  have h1 : s1.keeps s := State.logOn_keeps (State.setCq_keeps h k _) _ (by decide) _ _ _ _ _
  exact State.keeps_ite (State.raiseCopyFault_keeps h1 _) _ (State.raiseFault_keeps h1 _ _ _ _)

@[simp] theorem State.produce_keeps (x : HeldCpl) (canWrite : Bool) : (a.produce x canWrite).keeps s := by
  simp only [State.produce, State.holdInCq]
  split
  · exact State.setFn_keeps h
  · split
    · exact h
    · split <;> simp [h]

end

theorem State.drainDue_keeps {s : State} (fk : Nat) (todo : List HeldCpl) :
    ∀ {a : State} (_ : a.keeps s) (kept : List HeldCpl), (a.drainDue fk todo kept).keeps s := by
  induction todo with
  | nil => exact fun h kept => State.setFn_keeps h
  | cons x rest ih =>
    intro a h kept
    unfold State.drainDue
    split
    · exact ih (State.produce_keeps (a := a.reserve x.cq) h x true) kept
    · exact ih h _

section
variable {a s : State} (h : a.keeps s)
include h

@[simp] theorem State.tryDue_keeps (fk : Nat) : (a.tryDue fk).keeps s := State.drainDue_keeps fk _ h []

@[simp] theorem State.pushDue_keeps (fk : Nat) (x : HeldCpl) : (a.pushDue fk x).keeps s :=
  State.tryDue_keeps (State.setFn_keeps h) fk

@[simp] theorem State.endAbort_keeps (q status : Nat) : (a.endAbort q status).keeps s := by
  simp only [State.endAbort]
  split
  · exact h
  · split <;> simp [h]

@[simp] theorem State.shadow_keeps (fk q : Nat) (head : BitVec 16) (st : Nat) : (a.shadow fk q head st).keeps s := by
  unfold State.shadow
  split
  · simp [h]
  · exact State.setFn_keeps h

/-- A queue that is off is so whatever of its states it takes. -/
theorem State.stopQueue_keeps (q : Nat) {w : Wq} (hw : w.off) : (a.setQueue q w).keeps s :=
  State.setQueue_keeps h fun _ => hw

@[simp] theorem State.drained_keeps (q : Nat) : (a.drained q).keeps s := by
  simp only [State.drained]
  split
  · exact h
  · split
    · exact State.shadow_keeps (State.stopQueue_keeps (State.endAbort_keeps h q _) q (by exact .inr rfl)) _ _ _ _
    · split <;> simp [h]

@[simp] theorem State.finish_keeps (q : Nat) (e : Entry) (status bytes qflags data : Nat) (canWrite : Bool) :
    (a.finish q e status bytes qflags data canWrite).keeps s := by
  unfold State.finish
  extract_lets w s1 x s2 s3
  have h2 : s2.keeps s := State.produce_keeps (State.setQueue_keeps h (by exact fun hq => hq)) _ _
  have h3 : s3.keeps s := by
    unfold s3
    split
    · split <;> simp [h2]
    · exact h2
  exact State.drained_keeps h3 q

/-! ### Storage commands that end, and detaches (R317, R334 to R341) -/

@[simp] theorem State.stDrained_keeps (k : Nat) : (a.stDrained k).keeps s := by
  simp only [State.stDrained]
  split <;> simp [h]

@[simp] theorem State.endStAbort_keeps (k status : Nat) : (a.endStAbort k status).keeps s := by
  simp only [State.endStAbort]
  split
  · exact h
  · split
    · exact State.stDrained_keeps (State.produce_keeps (State.setStq_keeps h _ _) _ _) _
    · exact h

@[simp] theorem State.stFinish_keeps (k : Nat) (c : SCmd) (status bytes data : Nat) (own canWrite : Bool) :
    (a.stFinish k c status bytes data own canWrite).keeps s := by
  unfold State.stFinish
  extract_lets x froze e drive s1 s2 s3 s4 y s5 s6
  have h1 : s1.keeps s := State.setStq_keeps h k _
  have h2 : s2.keeps s := State.keeps_ite h1 _ (State.logError_keeps h1 _ _ _ _ _ _)
  have h3 : s3.keeps s := State.keeps_ite (State.raiseFault_keeps (State.countStorage_keeps h2 _ _ _) _ _ _ _) _ h2
  have h4 : s4.keeps s := State.keeps_ite (State.countStorage_keeps h3 _ _ _) _ h3
  have h5 : s5.keeps s := State.keeps_ite (State.produce_keeps h4 y _) _ (State.pushDue_keeps h4 _ y)
  have h6 : s6.keeps s := by
    unfold s6
    split
    · exact State.keeps_ite (State.endStAbort_keeps h5 _ _) _ h5
    · exact h5
  exact State.stDrained_keeps h6 k

@[simp] theorem State.endNsCmd_keeps (src : AdminSrc) (st data : Nat) : (a.endNsCmd src st data).keeps s := by
  unfold State.endNsCmd
  split
  · exact h
  · split <;> simp [h]

@[simp] theorem State.tryDetach_keeps : a.tryDetach.keeps s := by
  refine State.foldl_keeps (fun b d hb => ?_) _ h
  unfold State.detachStep
  split
  · exact hb
  · exact State.endNsCmd_keeps (State.keeps_of_same hb) _ _ _

/-! ### Slices (R81, R83, R85, R131, R132) -/

@[simp] theorem State.evalGates_keeps : a.evalGates.keeps s := by
  refine State.foldl_keeps (fun b ch hb => ?_) _ h
  simp only [State.evalGate]
  split
  · split
    · exact hb
    · split <;> simp [hb]
  · exact hb

@[simp] theorem State.resetTmgr_keeps (g : Half) (id : Nat) : (a.resetTmgr g id).keeps s := by
  have hsend : ∀ {b : State}, b.keeps s → ∀ n p quanta, (b.sendPfc n p quanta).keeps s := fun hb _ _ _ =>
    State.count_keeps (State.emit_keeps hb _) _ _ _
  refine State.foldl_keeps (fun b f hb => ?_) _ (State.countSlice_keeps (State.onHalf_keeps h) _ _ _ _)
  simp only [State.pfcCheck]
  split
  · split
    · exact hsend (State.setEth_keeps hb _ _) _ _ _
    · exact State.keeps_ite (hsend (State.setEth_keeps hb _ _) _ _ _) _ hb
  · exact hb

@[simp] theorem State.orphan_keeps (p : Nat → Bool) : (a.orphan p).keeps s := h

omit h in
theorem mfind_mmap {α β : Type} (f : Nat → α → β) (m : Map α) (k : Nat) : mfind (mmap f m) k = (mfind m k).map (f k) := by
  induction m with
  | nil => rfl
  | cons e rest ih =>
    obtain ⟨j, v⟩ := e
    by_cases hj : j = k
    · simp [mmap, mfind, hj]
    · simpa [mmap, mfind, hj] using ih

/-- Tags whose marks alone change, those quarantined excepted. -/
theorem State.markTags_keeps {p : Nat} {f : Tag → Tag} (hr : ∀ t, (f t).request = t.request)
    (hq : ∀ t, t.quarantined = true → f t = t) :
    (a.setPort p { a.port p with tags := mmap (fun _ t => f t) (a.port p).tags }).keeps s := by
  refine State.setPort_keeps h ?_ fun v y hy hyq => ?_
  · simp [Port.link, mmap, hr]
  · simp [mfind_mmap, hy, hq y hyq]

@[simp] theorem State.quarantine_keeps (p : Nat) (c : Tag → Bool) : (a.quarantine p c).keeps s := by
  refine State.markTags_keeps h (fun t => ?_) fun t ht => if_neg (by simp [ht])
  split <;> rfl

omit h in
theorem mget_mdrop {α : Type} (p : Nat → Bool) (m : Map α) (k : Nat) (d : α) :
    mget (mdrop p m) k d = if p k then d else mget m k d := by
  induction m with
  | nil => simp [mdrop, mget]
  | cons e rest ih =>
    obtain ⟨j, v⟩ := e
    simp only [mdrop] at ih
    by_cases hj : j = k
    · subst hj
      cases hp : p j <;> simp [mdrop, mget, hp, ih]
    · cases hp : p j <;> simp [mdrop, mget, hp, hj, ih]

/-- Work queues back in their reset state. -/
theorem State.dropWqs_keeps (p : Nat → Bool) : ({ a with wqs := mdrop p a.wqs } : State).keeps s := by
  refine State.keeps.trans (u := a) ⟨fun _ => rfl, fun _ => rfl, fun _ _ _ ht _ => ht, fun q hq => ?_, List.suffix_refl _, rfl⟩ h
  rw [State.wq, mget_mdrop]
  split
  · exact .inr rfl
  · exact hq

@[simp] theorem State.sliceReset_keeps (id : Nat) : (a.sliceReset id).keeps s := by
  unfold State.sliceReset
  extract_lets x g fk isQp isWq isCq _ s1 s2 f s3 s4 s5 _ s6
  have h1 : s1.keeps s := State.dropWqs_keeps h isWq
  have h2 : s2.keeps s := State.onHalf_keeps h1
  have h3 : s3.keeps s := State.setFn_keeps h2
  have h4 : s4.keeps s := State.resetTmgr_keeps (State.resetTmgr_keeps (State.orphan_keeps h3 isWq) .k id) .q id
  have h5 : s5.keeps s := State.quarantine_keeps h4 _ _
  have h6 : s6.keeps s := State.keeps_of_same h5
  exact State.tryDetach_keeps (State.evalGates_keeps (State.setSlice_keeps h6 id _))

@[simp] theorem State.closeQueue_keeps (q : Nat) : (a.closeQueue q).keeps s := by
  simp only [State.closeQueue]
  split
  · exact State.shadow_keeps (State.stopQueue_keeps (State.endAbort_keeps h q _) q (by exact .inr rfl)) _ _ _ _
  · exact h

@[simp] theorem State.closeStq_keeps (k : Nat) : (a.closeStq k).keeps s := by
  simp only [State.closeStq]
  split <;> simp [h]

@[simp] theorem State.closeSlice_keeps (id : Nat) : (a.closeSlice id).keeps s :=
  State.foldl_keeps (fun _ k hb => State.closeStq_keeps hb k) _ (State.foldl_keeps (fun _ q hb => State.closeQueue_keeps hb q) _ h)

@[simp] theorem State.freeSlice_keeps (id : Nat) : (a.freeSlice id).keeps s := by
  unfold State.freeSlice
  extract_lets x drop s1 g s2 clear par
  have h1 : s1.keeps s := State.onHalf_keeps (State.onHalf_keeps h (g := .k)) (g := .q)
  have h2 : s2.keeps s := State.onHalf_keeps h1
  exact State.keeps_of_same h2

@[simp] theorem State.endSliceCmd_keeps (status : Nat) : (a.endSliceCmd status).keeps s := by
  unfold State.endSliceCmd
  split <;> exact h

@[simp] theorem State.endDestroy_keeps (id : Nat) : (a.endDestroy id).keeps s := by
  have h1 := State.evalGates_keeps (State.freeSlice_keeps h id)
  simp only [State.endDestroy]
  split
  · exact h
  · split
    · exact State.endSliceCmd_keeps h1 _
    · exact h1

@[simp] theorem State.settle_keeps (id : Nat) : (a.settle id).keeps s := by
  have h2 := State.setSlice_keeps (State.closeSlice_keeps h id) id { (a.closeSlice id).slice id with st := .disabled }
  simp only [State.settle]
  split
  · split
    · exact State.endDestroy_keeps (State.setSlice_keeps (State.sliceReset_keeps h2 id) id _) id
    · split
      · exact State.endSliceCmd_keeps h2 _
      · exact h2
  · exact State.keeps_ite (State.endDestroy_keeps h id) _ h

@[simp] theorem State.settleQueue_keeps (q : Nat) : (a.settleQueue q).keeps s := by
  simp only [State.settleQueue]
  split <;> simp [h]

end

end Sys2Proof.Machine
end

section
/-! SUPPORT. Bus mastering, power states, function resets and VF Enable of a function (02 R58 to R63, 03 R82, R83). -/

namespace Sys2Proof.Machine
open Sys2Proof

/-! ### Queues and channels that bus mastering stops and gives back (R61, R62) -/

section
variable {a s : State} (h : a.keeps s)
include h

@[simp] theorem State.leaveWait_keeps (q : Nat) : (a.leaveWait q).keeps s := by
  simp only [State.leaveWait]
  split <;> exact h

@[simp] theorem State.queueOff_keeps (fk q : Nat) : (a.queueOff fk q).keeps s := by
  unfold State.queueOff
  extract_lets s1 w
  split
  · exact h
  · rename_i short s2 x s3 _
    have h2 : s2.keeps s :=
      State.foldl_keeps (fun _ e hb => State.finish_keeps hb q e _ _ _ _ _) _ (State.leaveWait_keeps h q)
    have h3 : s3.keeps s := State.stopQueue_keeps h2 q (by exact .inl rfl)
    exact State.keeps_ite h2 _ (State.keeps_ite h3 _ (State.shadow_keeps h3 _ _ _ _))

@[simp] theorem State.stqOff_keeps (fk k : Nat) : (a.stqOff fk k).keeps s := by
  unfold State.stqOff
  extract_lets c s1 x
  split
  · exact h
  · rename_i short s2 y _
    have h2 : s2.keeps s :=
      State.foldl_keeps (fun _ d hb => State.stFinish_keeps hb k d _ _ _ _ _) _ (State.setCq_keeps h _ _)
    exact State.keeps_ite h2 _ (State.shadow_keeps (State.setStq_keeps h2 _ _) _ _ _ _)

@[simp] theorem State.chanOff_keeps (fk ch : Nat) : (a.chanOff fk ch).keeps s := by
  unfold State.chanOff
  extract_lets s1 x
  split
  · exact h
  · rename_i r s2 _
    have h2 : s2.keeps s := State.setChan_keeps (State.setCq_keeps h _ _) _ _
    exact State.keeps_ite h2 _ (State.shadow_keeps h2 _ _ _ _)

@[simp] theorem State.discardTags_keeps (fk : Nat) : (a.discardTags fk).keeps s := by
  refine State.markTags_keeps h (fun t => ?_) fun t ht => if_neg (by simp [ht])
  split <;> rfl

@[simp] theorem State.settleFn_keeps (fk : Nat) : (a.settleFn fk).keeps s :=
  State.foldl_keeps (fun _ id hb => State.settle_keeps hb id) _ h

@[simp] theorem State.sendShadows_keeps (fk : Nat) : (a.sendShadows fk).keeps s :=
  State.foldl_keeps (fun _ _ hb => State.emit_keeps hb _) _ (State.setFn_keeps h)

@[simp] theorem State.sendHeld_keeps (fk : Nat) : (a.sendHeld fk).keeps s :=
  State.foldl_keeps (fun _ x hb => State.produce_keeps hb x true) _ (State.setFn_keeps h)

@[simp] theorem State.sendIrqs_keeps (fk : Nat) : (a.sendIrqs fk).keeps s :=
  State.foldl_keeps (fun _ _ hb => State.vectorDue_keeps hb _ _ _) _ (State.setFn_keeps h)

@[simp] theorem State.unstartedCpl_keeps (q : Nat) (e : Entry) (status : Nat) : (a.unstartedCpl q e status).keeps s :=
  State.pushDue_keeps h _ _

@[simp] theorem State.endLostAbort_keeps (q : Nat) : (a.endLostAbort q).keeps s := by
  simp only [State.endLostAbort]
  split
  · exact State.keeps_ite h _ (State.endAbort_keeps h _ _)
  · exact h

@[simp] theorem State.queueOn_keeps (q : Nat) : (a.queueOn q).keeps s := by
  unfold State.queueOn
  extract_lets w
  split
  · rename_i _ s1 s2 _
    have h2 : s2.keeps s :=
      State.foldl_keeps (fun _ e hb => State.unstartedCpl_keeps (State.setQueue_keeps hb (by exact fun hq => hq)) q e _) _
        (State.stopQueue_keeps h q (by exact .inr rfl))
    exact State.endLostAbort_keeps h2 q
  · exact h

@[simp] theorem State.stqOn_keeps (k : Nat) : (a.stqOn k).keeps s := by
  unfold State.stqOn
  extract_lets x
  split
  · rename_i s1 y s2 _
    have h1 : s1.keeps s := State.foldl_keeps (fun _ c hb => State.stFinish_keeps hb k c _ _ _ _ _) _ h
    have h2 : s2.keeps s := State.setStq_keeps h1 _ _
    split
    · exact State.keeps_ite h2 _ (State.endStAbort_keeps h2 _ _)
    · exact h2
  · exact h

@[simp] theorem State.endChanAbort_keeps (ch status : Nat) : (a.endChanAbort ch status).keeps s := by
  unfold State.endChanAbort
  split
  · exact h
  · exact State.keeps_ite h _ (State.pushDue_keeps h _ _)

@[simp] theorem State.chanDrained_keeps (ch : Nat) : (a.chanDrained ch).keeps s := by
  have h1 := State.endChanAbort_keeps h ch stNotFound
  simp only [State.chanDrained]
  split
  · exact h
  · split
    · exact State.shadow_keeps (State.setChan_keeps h1 _ _) _ _ _ _
    · exact State.keeps_ite (State.shadow_keeps h1 _ _ _ _) _ h

@[simp] theorem State.endDesc_keeps (ch : Nat) (r : CopyRun) (status bytes data : Nat) (canWrite : Bool) :
    (a.endDesc ch r status bytes data canWrite).keeps s := by
  unfold State.endDesc
  extract_lets x s1 s2 s3 s4
  have h3 : s3.keeps s := State.produce_keeps (State.emit_keeps (State.emit_keeps (State.setChan_keeps h _ _) _) _) _ _
  have h4 : s4.keeps s := by
    unfold s4
    split
    · exact State.keeps_ite (State.endChanAbort_keeps h3 _ _) _ h3
    · exact h3
  exact State.chanDrained_keeps h4 ch

@[simp] theorem State.chanBack_keeps (ch : Nat) : (a.chanBack ch).keeps s := by
  unfold State.chanBack
  extract_lets x
  split
  · rename_i s1 _ s2 s3 _
    have h1 : s1.keeps s := by
      unfold s1
      split
      · exact State.keeps_ite (State.endDesc_keeps h _ _ _ _ _ _) _ h
      · exact h
    have h3 : s3.keeps s :=
      State.foldl_keeps (fun _ d hb => State.pushDue_keeps (State.setChan_keeps hb _ _) _ _) _ (State.setChan_keeps h1 _ _)
    split
    · exact State.keeps_ite h3 _ (State.endChanAbort_keeps h3 _ _)
    · exact State.endChanAbort_keeps h3 _ _
    · exact h3
  · exact h

/-- What the return of bus mastering sends and gives back. -/
theorem State.masterBack_keeps (fk : Nat) : (a.masterBack fk).keeps s := by
  unfold State.masterBack
  extract_lets s1 s2 s3 s4
  have h1 : s1.keeps s := State.sendIrqs_keeps (State.sendHeld_keeps (State.sendShadows_keeps h fk) fk) fk
  have h2 : s2.keeps s := State.foldl_keeps (fun _ q hb => State.queueOn_keeps hb q) _ h1
  have h3 : s3.keeps s := State.foldl_keeps (fun _ k hb => State.stqOn_keeps hb k) _ h2
  have h4 : s4.keeps s := State.foldl_keeps (fun _ ch hb => State.chanBack_keeps hb ch) _ h3
  exact State.settleFn_keeps (State.tryDetach_keeps (State.tryDue_keeps h4 fk)) fk

@[simp] theorem State.sleepCq_keeps (fk k : Nat) : (a.sleepCq fk k).keeps s := by
  simp only [State.sleepCq]
  split
  · split <;> simp [h]
  · exact h

@[simp] theorem State.wakeCq_keeps (fk k : Nat) : (a.wakeCq fk k).keeps s := by
  unfold State.wakeCq
  split <;> simp [h]

end

/-! ### Bus mastering ends (R61) -/

/-- A function without Bus Master Enable. -/
def State.bmeOff (s : State) (fk : Nat) : State := s.setFn fk { s.fn fk with bme := false }

theorem State.clearMaster_keeps (s : State) (fk : Nat) : (s.clearMaster fk).keeps (s.bmeOff fk) := by
  unfold State.clearMaster
  extract_lets _ s1 s2 s3 s4
  have h2 : s2.keeps (s.bmeOff fk) := State.foldl_keeps (fun _ q hb => State.queueOff_keeps hb fk q) _ (State.keeps_refl s1)
  have h3 : s3.keeps (s.bmeOff fk) := State.foldl_keeps (fun _ k hb => State.stqOff_keeps hb fk k) _ h2
  have h4 : s4.keeps (s.bmeOff fk) := State.foldl_keeps (fun _ ch hb => State.chanOff_keeps hb fk ch) _ h3
  exact State.settleFn_keeps (State.tryDetach_keeps (State.discardTags_keeps h4 fk)) fk

theorem State.queueOff_off {q : Nat} (hq : q < qpBase) (a : State) (fk : Nat) : ((a.queueOff fk q).wq q).off := by
  have hw : (a.leaveWait q).wq q = a.wq q := congrArg (fun m : Map Wq => mget m q {}) (State.leaveWait_onlyIrq a q).wqs
  have hset : ∀ (b : State) (w : Wq), w.st = .masterOff → ((b.setWq q w).wq q).off := fun b w hst => by
    rw [State.wq_setWq_self]
    exact .inl hst
  simp only [State.queueOff, State.queue_of_lt hq, State.setQueue_of_lt hq, hw]
  split
  · next hoff => exact hoff.symm
  · split
    · next hst => exact .inr hst
    · split
      · exact hset _ _ rfl
      · rw [State.wq, (State.shadow_onlyIrq _ _ _ _ _).wqs]
        exact hset _ _ rfl

/-- Each queue of a list is off once the whole list has been stopped. -/
theorem State.foldl_queueOff_off {q : Nat} (hq : q < qpBase) (fk : Nat) {l : List Nat} (hl : q ∈ l) (a : State) :
    ((l.foldl (fun b k => b.queueOff fk k) a).wq q).off := by
  obtain ⟨l1, l2, rfl⟩ := List.append_of_mem hl
  rw [List.foldl_append, List.foldl_cons]
  exact (State.foldl_keeps (fun _ k hb => State.queueOff_keeps hb fk k) l2 (State.keeps_refl _)).off
    (State.queueOff_off hq _ fk)

/-- A value other than the default is listed. -/
theorem mem_of_mget_ne {α : Type} {m : Map α} {k : Nat} {d : α} (h : mget m k d ≠ d) : (k, mget m k d) ∈ m := by
  induction m with
  | nil => exact absurd rfl h
  | cons e rest ih =>
    obtain ⟨j, v⟩ := e
    by_cases hj : j = k
    · simp [mget, hj]
    · simp only [mget, if_neg hj] at h ⊢
      exact List.mem_cons_of_mem _ (ih h)

theorem State.clearMaster_off {s : State} {fk q : Nat} (hq : q < qpBase) (hf : (s.wq q).fn = fk) :
    ((s.clearMaster fk).wq q).off := by
  by_cases hst : (s.wq q).st = .disabled
  · exact (s.clearMaster_keeps fk).off (.inr hst)
  · have hne : s.wq q ≠ {} := fun he => hst (by rw [he])
    have hmem : q ∈ (s.bmeOff fk).fnQueues fk := by
      refine List.mem_append_left _ (List.mem_map.mpr ⟨(q, s.wq q), List.mem_filter.mpr ⟨mem_of_mget_ne hne, ?_⟩, rfl⟩)
      simp [hf, hst]
    have hoff := State.foldl_queueOff_off hq fk hmem (s.bmeOff fk)
    unfold State.clearMaster
    extract_lets _ s1 s2 s3 s4
    have h3 : s3.keeps s2 := State.foldl_keeps (fun _ k hb => State.stqOff_keeps hb fk k) _ (State.keeps_refl _)
    have h4 : s4.keeps s2 := State.foldl_keeps (fun _ ch hb => State.chanOff_keeps hb fk ch) _ h3
    exact (State.settleFn_keeps (State.tryDetach_keeps (State.discardTags_keeps h4 fk)) fk).off hoff

/-! ### The commands -/

theorem keyNum_fkey (f : FnRef) : keyNum (fkey f) = f.num.val := by
  have := f.num.isLt
  simp only [keyNum, fkey, fnKey]
  omega

section
variable {s : State} {f : FnRef} (hp : s.present (fkey f) = true)
include hp

theorem exec_bmeClear (hb : (s.fn (fkey f)).bme = true) : exec (.bmeClear f) s = .next (s.clearMaster (fkey f)) := by
  show Host.Outcome.next (s.config _ _) = _
  rw [State.config_eq hp, if_pos hb]

theorem exec_bmeSet : exec (.bmeSet f) s = .next (s.setMaster (fkey f)) :=
  congrArg Host.Outcome.next (State.config_eq hp _)

theorem exec_d3hotEntry : exec (.d3hotEntry f) s = .next (s.d3Enter (fkey f)) :=
  congrArg Host.Outcome.next (State.config_eq hp _)

theorem exec_d0Return : exec (.d0Return f) s = .next (s.d0Back (fkey f)) :=
  congrArg Host.Outcome.next (State.config_eq hp _)

theorem exec_pmeStatusClear :
    exec (.pmeStatusClear f) s = .next (s.setFn (fkey f) { s.fn (fkey f) with pmeStatus := false }) :=
  congrArg Host.Outcome.next (State.config_eq hp _)

theorem exec_flrInitiate :
    exec (.flrInitiate f) s = .next ((s.fnReset f.port f.num.val).setFn (fkey f) { flr := true }) :=
  congrArg Host.Outcome.next (State.config_eq hp _)

theorem exec_vfEnableClear (hn : f.num.val = 1 ∨ f.num.val = 2) :
    exec (.vfEnableClear f) s = .next (s.clearVfs f.port f.num.val) := by
  show Host.Outcome.next (s.config _ _) = _
  rw [State.config_eq hp, if_pos hn]

end

@[simp] theorem State.fn_setFn_self (s : State) (k : Nat) (x : Fn) : (s.setFn k x).fn k = x := by simp [State.fn_setFn]

theorem State.fn_setFn_of_ne {k j : Nat} (hj : j ≠ k) (s : State) (x : Fn) : (s.setFn k x).fn j = s.fn j := by
  simp [State.fn_setFn, hj]

/-- Setting Bus Master Enable sets nothing else of the functions' settings. -/
theorem State.setMaster_keeps {s : State} {fk : Nat} (hb : (s.fn fk).bme = false) :
    (s.setMaster fk).keeps (s.setFn fk { s.fn fk with bme := true }) := by
  simp only [State.setMaster, hb, Bool.false_eq_true, if_false]
  exact State.keeps_ite (State.masterBack_keeps (State.keeps_refl _) fk) _ (State.keeps_refl _)

/-- The device as D3hot leaves it before the interrupts that moderation holds are turned to PMEs. -/
def State.d3Set (s : State) (fk : Nat) : State :=
  (s.clearMaster fk).setFn fk { (s.clearMaster fk).fn fk with bme := (s.fn fk).bme, d3 := true }

theorem State.d3Enter_keeps {s : State} {fk : Nat} (hd : (s.fn fk).d3 = false) (hk : keyNum fk < 4) :
    (s.d3Enter fk).keeps (s.d3Set fk) := by
  have hn : ¬ ((s.fn fk).d3 = true ∨ 4 ≤ keyNum fk) := by
    rintro (hc | hc)
    · simp [hd] at hc
    · omega
  rw [State.d3Enter, if_neg hn]
  exact State.foldl_keeps (fun _ k hb => State.sleepCq_keeps hb fk k) _ (State.keeps_refl _)

theorem State.d0Back_keeps {s : State} {fk : Nat} (hd : (s.fn fk).d3 = true) :
    (s.d0Back fk).keeps (s.setFn fk { s.fn fk with d3 := false }) := by
  simp only [State.d0Back, hd, Bool.true_eq_false, if_false]
  exact State.foldl_keeps (fun _ k hb => State.wakeCq_keeps hb fk k) _
    (State.keeps_ite (State.masterBack_keeps (State.keeps_refl _) fk) _ (State.keeps_refl _))

/-- The VFs of a PF are back in their reset state. -/
theorem State.fn_dropVfs (s : State) {p : Fin 4} {pf n : Nat} (h4 : 4 ≤ n) (hn : n < 516) (hpf : fnPf n = pf) :
    (s.dropVfs p.val pf).fn (fnKey p.val n) = {} := by
  have hport : keyPort (fnKey p.val n) = p.val := by
    simp only [keyPort, fnKey]
    omega
  have hnum : keyNum (fnKey p.val n) = n := by
    simp only [keyNum, fnKey]
    omega
  refine (mget_mdrop (fun k => keyPort k = p.val && 4 ≤ keyNum k && fnPf (keyNum k) = pf) s.fns _ _).trans (if_pos ?_)
  simp [hport, hnum, h4, hpf]

/-- Settles O8, a command at a time, from what each keeps of the functions' settings and of the queues that are off. -/
theorem functionPowerMasteringAndReset : Obligations.FunctionPowerMasteringAndReset := by
  unfold Obligations.FunctionPowerMasteringAndReset
  refine ⟨fun s f hp hb => ⟨_, exec_bmeClear hp hb, ?bmeOff, fun k hk => ?bmeOthers, fun q hq hf => State.clearMaster_off hq hf⟩,
    fun s f hp hb => ⟨_, exec_bmeSet hp, ?bmeOn, fun k hk => ?bmeSetOthers⟩,
    fun s f hp hn hd => ⟨_, exec_d3hotEntry hp, ?d3⟩,
    fun s f hp hd => ⟨_, exec_d0Return hp, ?d0⟩,
    fun s f hs hu => ⟨s.emit (.pme (fkey f)), congrArg Host.Outcome.next (if_pos ⟨hs, hu⟩), rfl, rfl⟩,
    fun s f hp => ⟨_, exec_pmeStatusClear hp, State.fn_setFn_self _ _ _, fun k hk => State.fn_setFn_of_ne hk _ _, rfl⟩,
    fun s f hp => ⟨_, exec_flrInitiate hp, State.fn_setFn_self _ _ _, ?flr⟩,
    fun s f hf => ⟨s.setFn (fkey f) { s.fn (fkey f) with flr := false }, congrArg Host.Outcome.next (if_pos hf),
      State.fn_setFn_self _ _ _, fun k hk => State.fn_setFn_of_ne hk _ _, rfl⟩,
    fun s f hp hn hv => ⟨_, exec_vfEnableClear hp hn, ?vfs⟩⟩
  case bmeOff =>
    refine (congrArg Fn.bme ((s.clearMaster_keeps (fkey f)).settings (fkey f)) :).trans ?_
    rw [State.bmeOff, State.fn_setFn_self]
    rfl
  case bmeOthers =>
    refine (congrArg Fn.bme ((s.clearMaster_keeps (fkey f)).settings k) :).trans ?_
    rw [State.bmeOff, State.fn_setFn_of_ne hk]
    rfl
  case bmeOn =>
    refine (congrArg Fn.bme ((State.setMaster_keeps hb).settings (fkey f)) :).trans ?_
    rw [State.fn_setFn_self]
    rfl
  case bmeSetOthers =>
    refine (congrArg Fn.bme ((State.setMaster_keeps hb).settings k) :).trans ?_
    rw [State.fn_setFn_of_ne hk]
    rfl
  case d3 =>
    have hset := (State.d3Enter_keeps hd (keyNum_fkey f ▸ hn)).settings
    have hf := hset (fkey f)
    rw [State.d3Set, State.fn_setFn_self] at hf
    have hd3 : ((s.d3Enter (fkey f)).fn (fkey f)).d3 = true := (congrArg Fn.d3 hf :)
    refine ⟨hd3, (congrArg Fn.bme hf :), by simp [State.mastering, hd3], fun k hk => ?_⟩
    have hk3 := congrArg Fn.d3 (hset k)
    rw [State.d3Set, State.fn_setFn_of_ne hk] at hk3
    refine Eq.trans hk3 ((congrArg Fn.d3 ((s.clearMaster_keeps (fkey f)).settings k) :).trans ?_)
    rw [State.bmeOff, State.fn_setFn_of_ne hk]
    rfl
  case d0 =>
    have hset := (State.d0Back_keeps hd).settings
    have hf := hset (fkey f)
    rw [State.fn_setFn_self] at hf
    refine ⟨(congrArg Fn.d3 hf :), (congrArg Fn.bme hf :), fun k hk => ?_⟩
    refine (congrArg Fn.d3 (hset k) :).trans ?_
    rw [State.fn_setFn_of_ne hk]
    rfl
  case flr => simp [State.present]
  case vfs =>
    have hne : ∀ n, 4 ≤ n → n < 516 → fnKey f.port.val n ≠ fnKey f.port.val f.num.val := fun n h4 hlt => by
      simp only [fnKey]
      omega
    rw [State.clearVfs, if_neg (by simpa [fkey] using hv)]
    refine ⟨?_, fun n h4 hlt hpf => ?_⟩
    · exact congrArg Fn.vfEnable (State.fn_setFn_self _ _ _)
    · exact (State.fn_setFn_of_ne (hne n h4 hlt) _ _).trans (State.fn_dropVfs _ h4 hlt hpf)

end Sys2Proof.Machine
end

section
/-! SUPPORT. Interrupt enables and masks of a function (02 R50 to R52, R77). -/

namespace Sys2Proof.Machine
open Sys2Proof

/-! ### What vectors leave unchanged -/

@[simp] theorem State.sendMsg_cqs (s : State) (fk sl v : Nat) : (s.sendMsg fk sl v).cqs = s.cqs := by
  simp only [State.sendMsg]
  split <;> rfl

@[simp] theorem State.holdIrq_cqs (s : State) (fk sl v : Nat) : (s.holdIrq fk sl v).cqs = s.cqs := by
  simp only [State.holdIrq]
  split <;> rfl

@[simp] theorem State.holdVector_cqs (s : State) (sl v : Nat) : (s.holdVector sl v).cqs = s.cqs := by
  simp only [State.holdVector]
  split <;> rfl

@[simp] theorem State.passVector_cqs (s : State) (fk sl v : Nat) : (s.passVector fk sl v).cqs = s.cqs := by
  simp only [State.passVector, apply_ite State.cqs, State.holdIrq_cqs, State.setFn_cqs, State.sendMsg_cqs, ite_self]

@[simp] theorem State.vectorDue_cqs (s : State) (fk sl v : Nat) : (s.vectorDue fk sl v).cqs = s.cqs := by
  simp only [State.vectorDue, apply_ite State.cqs, State.emit_cqs, State.setFn_cqs, State.holdVector_cqs, State.passVector_cqs,
    ite_self]

@[simp] theorem State.emit_fn (s : State) (o : Output) (k : Nat) : (s.emit o).fn k = s.fn k := rfl

@[simp] theorem State.sendMsg_fn (s : State) (fk sl v k : Nat) : (s.sendMsg fk sl v).fn k = s.fn k := by
  simp only [State.sendMsg]
  split <;> rfl

@[simp] theorem State.holdVector_fn (s : State) (sl v k : Nat) : (s.holdVector sl v).fn k = s.fn k := by
  simp only [State.holdVector]
  split <;> rfl

/-- The work queues, completion queues and ports are as in another state. -/
def State.sameQueues (t s : State) : Prop := t.wqs = s.wqs ∧ t.cqs = s.cqs ∧ t.ports = s.ports

theorem State.onlyIrq.sameQueues {t s : State} (h : t.onlyIrq s) (hc : t.cqs = s.cqs) : t.sameQueues s :=
  ⟨h.wqs, hc, h.ports⟩

theorem State.sameQueues.trans {t u s : State} (h1 : t.sameQueues u) (h2 : u.sameQueues s) : t.sameQueues s := by
  obtain ⟨hw1, hc1, hp1⟩ := h1
  obtain ⟨hw2, hc2, hp2⟩ := h2
  exact ⟨hw1.trans hw2, hc1.trans hc2, hp1.trans hp2⟩

/-- A state that keeps the settings and the links lets a function master the bus where it did. -/
theorem State.keeps.mastering {t s : State} (h : t.keeps s) (fk : Nat) : t.mastering fk = s.mastering fk := by
  have hf := h.settings fk
  have hb : (t.fn fk).bme = (s.fn fk).bme := (congrArg Fn.bme hf :)
  have hd : (t.fn fk).d3 = (s.fn fk).d3 := (congrArg Fn.d3 hf :)
  have hr : (t.fn fk).flr = (s.fn fk).flr := (congrArg Fn.flr hf :)
  have hu : (t.port (keyPort fk)).up = (s.port (keyPort fk)).up := (congrArg Port.up (h.link (keyPort fk)) :)
  rw [State.mastering, hb, hd, hr, hu, ← State.mastering]

/-! ### Held interrupts are sent (R50, R61) -/

/-- A function that masters the bus with a mechanism enabled holds no further interrupt. -/
theorem State.vectorDue_heldIrq {s : State} {fk : Nat} (hm : s.mastering fk = true)
    (hi : (s.fn fk).msi = true ∨ (s.fn fk).msix = true) (sl v : Nat) :
    ((s.vectorDue fk sl v).fn fk).heldIrq = (s.fn fk).heldIrq := by
  have hpass : ((s.passVector fk sl v).fn fk).heldIrq = (s.fn fk).heldIrq := by
    simp only [State.passVector, hm, Bool.true_eq_false, if_false]
    split
    · split <;> simp
    · next hx =>
      rw [if_pos (hi.resolve_right hx)]
      split <;> simp
  unfold State.vectorDue
  split
  · rfl
  · split
    · simp
    · split
      · simp
      · exact hpass

theorem State.sendIrqs_heldIrq {s : State} {fk : Nat} (hm : s.mastering fk = true)
    (hi : (s.fn fk).msi = true ∨ (s.fn fk).msix = true) : ((s.sendIrqs fk).fn fk).heldIrq = [] := by
  have hfold : ∀ (l : List (Nat × Nat)) (a : State), a.keeps s → (a.fn fk).heldIrq = [] →
      ((l.foldl (fun b x => b.vectorDue fk x.1 x.2) a).fn fk).heldIrq = [] := by
    intro l
    induction l with
    | nil => exact fun a _ hl => hl
    | cons x rest ih =>
      intro a ha hl
      have hf := ha.settings fk
      have hi' : (a.fn fk).msi = true ∨ (a.fn fk).msix = true :=
        hi.imp (congrArg Fn.msi hf :).trans (congrArg Fn.msix hf :).trans
      exact ih _ (State.vectorDue_keeps ha fk x.1 x.2)
        ((State.vectorDue_heldIrq ((ha.mastering fk).trans hm) hi' x.1 x.2).trans hl)
  exact hfold _ _ (State.setFn_keeps (State.keeps_refl s)) (congrArg Fn.heldIrq (State.fn_setFn_self _ _ _))

theorem State.sendIrqs_sameQueues (s : State) (fk : Nat) : (s.sendIrqs fk).sameQueues s := by
  have hfold : ∀ (l : List (Nat × Nat)) (a : State), (l.foldl (fun b x => b.vectorDue fk x.1 x.2) a).sameQueues a := by
    intro l
    induction l with
    | nil => exact fun a => ⟨rfl, rfl, rfl⟩
    | cons x rest ih =>
      exact fun a => (ih _).trans ((State.vectorDue_onlyIrq a fk x.1 x.2).sameQueues (State.vectorDue_cqs a fk x.1 x.2))
  exact (hfold _ _).trans ⟨rfl, rfl, rfl⟩

/-! ### Pending bits are released (R52, R77) -/

theorem State.releaseVec_sameQueues (s : State) (fk e : Nat) : (s.releaseVec fk e).sameQueues s := by
  simp only [State.releaseVec]
  split
  · split
    · exact (State.onlyIrq.sameQueues (State.holdIrq_onlyIrq _ _ _ _) (State.holdIrq_cqs _ _ _ _)).trans ⟨rfl, rfl, rfl⟩
    · split
      · exact (State.onlyIrq.sameQueues (State.holdVector_onlyIrq _ _ _) (State.holdVector_cqs _ _ _)).trans ⟨rfl, rfl, rfl⟩
      · exact (State.onlyIrq.sameQueues (State.sendMsg_onlyIrq _ _ _ _) (State.sendMsg_cqs _ _ _ _)).trans ⟨rfl, rfl, rfl⟩
  · exact ⟨rfl, rfl, rfl⟩

theorem State.releaseVec_keeps {a s : State} (h : a.keeps s) (fk e : Nat) : (a.releaseVec fk e).keeps s := by
  have h1 : ∀ m, (a.setFn fk { a.fn fk with pba := m }).keeps s := fun m => State.setFn_keeps h
  simp only [State.releaseVec]
  split
  · split
    · exact State.holdIrq_keeps (h1 _) _ _ _
    · exact State.keeps_ite (State.holdVector_keeps (h1 _) _ _) _ (State.sendMsg_keeps (h1 _) _ _ _)
  · exact h

theorem State.holdIrq_pba (s : State) (fk sl v : Nat) : ((s.holdIrq fk sl v).fn fk).pba = (s.fn fk).pba := by
  simp only [State.holdIrq]
  split <;> simp

/-- A vector that is released keeps no pending bit. -/
theorem State.releaseVec_pba (s : State) (fk e : Nat) : mget ((s.releaseVec fk e).fn fk).pba e false = false := by
  simp only [State.releaseVec]
  split
  · split
    · simp [State.holdIrq_pba, mget_merase]
    · split <;> simp [mget_merase]
  · next hp => simpa using hp

/-! ### The commands -/

theorem exec_interruptEnableChange {s : State} {f : FnRef} (hp : s.present (fkey f) = true) (msi msix : Bool) (n : Nat) :
    exec (.interruptEnableChange f msi msix n) s = .next (s.irqEnable (fkey f) msi msix n) :=
  congrArg Host.Outcome.next (State.config_eq hp _)

/-- A function with the mechanisms and the allocation as written (R50, R51). -/
def Fn.withIrq (x : Fn) (msi msix : Bool) (n : Nat) : Fn := { x with msi := msi, msix := msix, msiVectors := n }

/-- A PF takes the mechanisms and an allocation that MSI has; what it held is sent where it can be. -/
theorem State.irqEnable_eq (s : State) {fk : Nat} (hk : keyNum fk < 4) (msi msix : Bool) {n : Nat}
    (hn : n ∈ [1, 2, 4, 8, 16, 32]) :
    s.irqEnable fk msi msix n =
      if (s.setFn fk ((s.fn fk).withIrq msi msix n)).mastering fk = true ∧ (msi = true ∨ msix = true)
      then (s.setFn fk ((s.fn fk).withIrq msi msix n)).sendIrqs fk else s.setFn fk ((s.fn fk).withIrq msi msix n) := by
  have hc : [1, 2, 4, 8, 16, 32].contains n = true := List.contains_iff_mem.mpr hn
  simp only [State.irqEnable, hc, if_true, hk, decide_true, Bool.and_true, State.fn_setFn_self]
  rfl

/-- A vector of the MSI-X table unmasked (R52). -/
def State.unmaskMsix (s : State) (fk v : Nat) : State :=
  s.setFn fk { s.fn fk with unmasked := mput (s.fn fk).unmasked v true }

theorem exec_vectorUnmask_msix {s : State} {f : FnRef} {v : Nat} (hp : s.present (fkey f) = true)
    (hd : (s.fn (fkey f)).d3 = false) (hm : (s.fn (fkey f)).msi = false ∨ (s.fn (fkey f)).msix = true)
    (hv : v < s.tableSize (fkey f)) :
    exec (.vectorUnmask f v) s =
      .next (if (s.fn (fkey f)).msix = true ∧ (s.fn (fkey f)).fnMask = false
        then (s.unmaskMsix (fkey f) v).releaseVec (fkey f) v else s.unmaskMsix (fkey f) v) := by
  show Host.Outcome.next (s.unmask _ _) = _
  simp only [State.unmask]
  rw [if_neg (by rcases hm with hm | hm <;> simp [hm]), State.access_eq hp hd, if_neg (by omega)]
  rfl

/-- An MSI vector unmasked (R52). -/
def State.unmaskMsi (s : State) (fk v : Nat) : State :=
  s.setFn fk { s.fn fk with msiMask := (s.fn fk).msiMask &&& ~~~ BitVec.ofNat 32 (2 ^ v) }

theorem exec_vectorUnmask_msi {s : State} {f : FnRef} {v : Nat} (hp : s.present (fkey f) = true)
    (hi : (s.fn (fkey f)).msi = true) (hx : (s.fn (fkey f)).msix = false) (hv : v < 32) :
    exec (.vectorUnmask f v) s = .next ((s.unmaskMsi (fkey f) v).releaseVec (fkey f) v) := by
  show Host.Outcome.next (s.unmask _ _) = _
  simp only [State.unmask]
  rw [if_pos ⟨hi, hx⟩, State.config_eq hp, if_pos hv]
  rfl

theorem bit_clear_self {n : Nat} (m : BitVec n) (v : Nat) : bit (m &&& ~~~ BitVec.ofNat n (2 ^ v)) v = false := by
  simp only [bit, BitVec.getLsbD_and, BitVec.getLsbD_not, BitVec.getLsbD_ofNat, Nat.testBit_two_pow_self, Bool.and_true]
  by_cases hv : v < n
  · simp [hv]
  · simp [BitVec.getLsbD_of_ge m v (by omega)]

/-- Settles O5: the settings as each command writes them, which what it then sends keeps, and the queues that it leaves alone. -/
theorem interruptEnablesAndMasks : Obligations.InterruptEnablesAndMasks := by
  unfold Obligations.InterruptEnablesAndMasks
  refine ⟨fun s f msi msix n hp hn hmem => ⟨_, exec_interruptEnableChange hp msi msix n, ?enable⟩,
    fun s f v hp hd hm hv => ⟨_, exec_vectorUnmask_msix hp hd hm hv, ?msix⟩,
    fun s f v hp hi hx hv => ⟨_, exec_vectorUnmask_msi hp hi hx hv, ?msi⟩⟩
  case enable =>
    rw [State.irqEnable_eq s (keyNum_fkey f ▸ hn) msi msix hmem]
    have hw : ∀ x, ((s.setFn (fkey f) x).fn (fkey f)) = x := State.fn_setFn_self s (fkey f)
    have hmast : (s.setFn (fkey f) ((s.fn (fkey f)).withIrq msi msix n)).mastering (fkey f) = s.mastering (fkey f) := by
      rw [State.mastering, hw]
      rfl
    split
    · next hc =>
      obtain ⟨hm, hi⟩ := hc
      have hs := (State.sendIrqs_keeps (State.keeps_refl (s.setFn (fkey f) ((s.fn (fkey f)).withIrq msi msix n)))
        (fkey f)).settings (fkey f)
      rw [hw] at hs
      exact ⟨(congrArg Fn.msi hs :), (congrArg Fn.msix hs :), (congrArg Fn.msiVectors hs :),
        fun _ _ => State.sendIrqs_heldIrq hm (by rw [hw]; exact hi), State.sendIrqs_sameQueues _ _⟩
    · next hc =>
      rw [hw]
      exact ⟨rfl, rfl, rfl, fun hm hi => absurd ⟨hmast.trans hm, hi⟩ hc, rfl, rfl, rfl⟩
  case msix =>
    have hk := (State.releaseVec_keeps (State.keeps_refl (s.unmaskMsix (fkey f) v)) (fkey f) v).settings (fkey f)
    have hun : mget ((s.unmaskMsix (fkey f) v).fn (fkey f)).unmasked v false = true := by
      simp [State.unmaskMsix]
    split
    · have hk' := congrArg (fun x : Fn => mget x.unmasked v false) hk
      exact ⟨hk'.trans hun, fun _ _ => State.releaseVec_pba _ _ _, State.releaseVec_sameQueues _ _ _⟩
    · next hc => exact ⟨hun, fun h1 h2 => absurd ⟨h1, h2⟩ hc, rfl, rfl, rfl⟩
  case msi =>
    have hk := (State.releaseVec_keeps (State.keeps_refl (s.unmaskMsi (fkey f) v)) (fkey f) v).settings (fkey f)
    have hmask : ((s.unmaskMsi (fkey f) v).fn (fkey f)).msiMask = (s.fn (fkey f)).msiMask &&& ~~~ BitVec.ofNat 32 (2 ^ v) := by
      simp [State.unmaskMsi]
    have hk' := congrArg (fun x : Fn => bit x.msiMask v) hk
    exact ⟨hk'.trans ((congrArg (bit · v) hmask).trans (bit_clear_self _ _)), State.releaseVec_pba _ _ _,
      State.releaseVec_sameQueues _ _ _⟩

end Sys2Proof.Machine
end

section
/-! SUPPORT. Completions, timeouts and quarantined tags of a host port (02 R54, R55, R61, R63). -/

namespace Sys2Proof.Machine
open Sys2Proof

/-! ### The end of a request that failed (R55, R303) -/

section
variable {a s : State} (h : a.keeps s)
include h

@[simp] theorem State.flushQueue_keeps (q : Nat) : (a.flushQueue q).keeps s := by
  unfold State.flushQueue
  extract_lets s0 w s1 s2
  have h1 : s1.keeps s := State.setQueue_keeps (State.leaveWait_keeps h q) (by exact fun hq => hq)
  have hstarted : (s1.flushStarted q w.started).keeps s :=
    State.foldl_keeps (fun _ e hb => State.finish_keeps hb q e _ _ _ _ _) _ h1
  have h2 : s2.keeps s :=
    State.foldl_keeps (fun _ e hb => State.unstartedCpl_keeps (State.setQueue_keeps hb (by exact fun hq => hq)) q e _) _ hstarted
  exact State.shadow_keeps h2 _ _ _ _

@[simp] theorem State.qpError_keeps (k : Nat) (byModify : Bool) : (a.qpError k byModify).keeps s := by
  unfold State.qpError
  extract_lets x
  split
  · exact h
  · rename_i s1 s2 s3 _
    have h1 : s1.keeps s := State.setQp_keeps h _ _ _
    have h2 : s2.keeps s := State.onHalf_keeps (State.flushQueue_keeps (State.flushQueue_keeps h1 (sqOf k)) (rqOf k))
    have h3 : s3.keeps s := State.keeps_ite h2 _ (State.raiseFault_keeps h2 _ _ _ _)
    exact State.settleQueue_keeps h3 (sqOf k)

@[simp] theorem State.failEntry_keeps (k : Nat) (e : Entry) (status : Nat) : (a.failEntry k e status).keeps s :=
  State.qpError_keeps (State.finish_keeps h _ _ _ _ _ _ _) _ _

end

/-- A request that failed, by the kind of its queue, after the report. -/
theorem State.readFails_keeps (s : State) (t : Tag) : (s.readFails t).keeps (s.emit (.aer t.fn)) := by
  have h1 := State.keeps_refl (s.emit (.aer t.fn))
  unfold State.readFails
  extract_lets s1
  split
  · split
    · exact State.settleQueue_keeps (State.finish_keeps h1 _ _ _ _ _ _ _) _
    · exact h1
  · split
    · split
      · exact State.keeps_ite (State.setChan_keeps h1 _ _) _ h1
      · exact h1
    · split
      · split
        · exact State.failEntry_keeps h1 _ _ _
        · exact h1
      · exact State.setStq_keeps h1 _ _

/-! ### Tags that are freed (R54) -/

/-- A port without a tag. -/
def State.dropTag (s : State) (p v : Nat) : State := s.setPort p { s.port p with tags := merase (s.port p).tags v }

theorem State.freeTagNo_keeps (s : State) (p v : Nat) (t : Tag) : (s.freeTagNo p v t).keeps (s.dropTag p v) :=
  State.keeps_ite (State.settle_keeps (State.keeps_refl (s.dropTag p v)) _) _ (State.keeps_refl _)

/-- A tag of a request that was for no slice is freed, and nothing waits for it. -/
theorem State.freeTagNo_noSlice (s : State) (p v : Nat) {t : Tag} (ht : 4096 ≤ t.slice) : s.freeTagNo p v t = s.dropTag p v := by
  rw [State.freeTagNo, if_neg (by omega)]
  rfl

@[simp] theorem State.port_dropTag (s : State) (p v : Nat) :
    (s.dropTag p v).port p = { s.port p with tags := merase (s.port p).tags v } := State.port_setPort_self _ _ _

theorem State.tags_dropTag (s : State) (p v : Nat) :
    mfind ((s.dropTag p v).port p).tags v = none
      ∧ ∀ u, u ≠ v → mfind ((s.dropTag p v).port p).tags u = mfind (s.port p).tags u := by
  rw [State.port_dropTag]
  exact ⟨(mfind_merase _ _ _).trans (if_pos rfl), fun u hu => (mfind_merase _ _ _).trans (if_neg hu)⟩

/-- A tag that no port had is had by none whose link is the same. -/
theorem State.keeps.free {t s : State} (h : t.keeps s) {p v : Nat} (hv : mfind (s.port p).tags v = none) :
    mfind (t.port p).tags v = none := by
  have hl := congrArg (fun x : Port => mfind x.tags v) (h.link p)
  simp only [Port.link, mfind_mmap, hv, Option.map_none, Option.map_eq_none_iff] at hl
  exact hl

/-! ### The commands -/

section
variable {s : State} {p : Fin 4} (hr : (s.port p.val).root = false) (hu : (s.port p.val).up = true)
include hr hu

theorem exec_completionArrival (v : Nat) (st : CplStatus) : exec (.completionArrival p v st) s = .next (s.arrive p.val v st) :=
  congrArg Host.Outcome.next (if_neg (by simp [hr, hu]))

theorem exec_completionArrival_unexpected {v : Nat} (hv : mfind (s.port p.val).tags v = none) (st : CplStatus) :
    exec (.completionArrival p v st) s = .next (s.emit (.aer (fnKey p.val 0))) := by
  rw [exec_completionArrival hr hu]
  simp only [State.arrive, hv]

/-- The function of a tag whose answer came too late has counted it (R45, R55). -/
theorem exec_completionArrival_late {v : Nat} {x : Tag} (hx : mfind (s.port p.val).tags v = some x) (hq : x.quarantined = true)
    (st : CplStatus) :
    exec (.completionArrival p v st) s =
      .next (if x.discard then s.setFn x.fn { s.fn x.fn with lateCpl := sat31 (s.fn x.fn).lateCpl }
        else (s.setFn x.fn { s.fn x.fn with lateCpl := sat31 (s.fn x.fn).lateCpl }).freeTagNo p.val v x) := by
  rw [exec_completionArrival hr hu]
  simp only [State.arrive, hx, hq, if_true]

theorem exec_completionArrival_discarded {v : Nat} {x : Tag} (hx : mfind (s.port p.val).tags v = some x)
    (hq : x.quarantined = false) (hd : x.discard = true) (hs : 4096 ≤ x.slice) (st : CplStatus) :
    exec (.completionArrival p v st) s = .next (s.dropTag p.val v) := by
  rw [exec_completionArrival hr hu]
  simp only [State.arrive, hx, hq, hd, Bool.false_eq_true, if_false, if_true, State.freeTagNo_noSlice s p.val v hs]

/-- Read data for the descriptor that a copy channel runs (R54, R128). -/
theorem exec_completionArrival_copy {v c : Nat} {x : Tag} {r : CopyRun} (hx : mfind (s.port p.val).tags v = some x)
    (hq : x.quarantined = false) (hd : x.discard = false) (hs : 4096 ≤ x.slice) (hk : x.kind = 1) (hc : x.queue = chanBase + c)
    (hrun : (s.chan c).run = some r) (hres : r.result = none) (hi : r.index = x.entry) (data : List Byte) :
    exec (.completionArrival p v (.ok data)) s =
      .next ((s.dropTag p.val v).setRun c (r.copy { bytes := data, failed := false })) := by
  have hch : ((s.dropTag p.val v).chan (x.queue - chanBase)).run = some r := by
    rw [hc, Nat.add_sub_cancel_left]
    exact hrun
  rw [exec_completionArrival hr hu]
  simp only [State.arrive, hx, hq, hd, Bool.false_eq_true, if_false, State.freeTagNo_noSlice s p.val v hs, State.readDone, hk,
    one_ne_zero, if_true, hch]
  rw [if_pos ⟨hres, hi⟩, hc, Nat.add_sub_cancel_left]

end

theorem State.time_until (s : State) (h g : Half) (t : Nat) : (s.until h t).time g = s.time g + (t - s.time h) := by
  cases g <;> rfl

/-- A tag as its timeout leaves it (R55). -/
def Tag.timedOut (t : Tag) (now : Nat) : Tag := { t with quarantined := true, discard := true, since := now }

/-- The device when a tag's timeout has come and has quarantined it. -/
def State.timedOut (s : State) (p v : Nat) (t : Tag) : State :=
  let s1 := s.until (portHalf p) (s.tagEnd t)
  s1.setPort p { s1.port p with tags := mput (s1.port p).tags v (t.timedOut (s1.time (portHalf p))) }

theorem State.timeout_keeps {s : State} {p v : Nat} {t : Tag} (ht : mfind (s.port p).tags v = some t)
    (hq : t.quarantined = false) : (s.timeout p v).keeps ((s.timedOut p v t).emit (.aer t.fn)) := by
  simp only [State.timeout, ht, hq, Bool.false_eq_true, if_false]
  exact State.keeps_ite (State.keeps_refl _) _ (State.readFails_keeps (s.timedOut p v t) t)

/-- A tag in a slice's hands or in none's is free once its quarantine is over. -/
theorem exec_tagQuarantineExpiry {s : State} {p : Fin 4} {v : Nat} {x : Tag} (hx : mfind (s.port p.val).tags v = some x)
    (hq : x.quarantined = true) (hs : 4096 ≤ x.slice) :
    exec (.tagQuarantineExpiry p v) s = .next ((s.until (portHalf p.val) (s.tagEnd x)).dropTag p.val v) := by
  show Host.Outcome.next (s.quarantineEnd _ _) = _
  simp only [State.quarantineEnd, hx, hq, if_true, State.freeTagNo_noSlice _ p.val v hs]

/-- Settles O6: what a completion does by the state of its tag, and what a timeout leaves after the failed request has ended. -/
theorem completionsAndTags : Obligations.CompletionsAndTags := by
  unfold Obligations.CompletionsAndTags
  refine ⟨fun s p v st hr hu hv => ⟨_, exec_completionArrival_unexpected hr hu hv st, rfl, rfl⟩,
    fun s p v st x hr hu hx hq => ⟨_, exec_completionArrival_late hr hu hx hq st, ?late⟩,
    fun s p v st x hr hu hx hq hd hs => ⟨_, exec_completionArrival_discarded hr hu hx hq hd hs st, ?discarded⟩,
    fun s p v c data x r hr hu hx hq hd hs hk hc hrun hres hi =>
      ⟨_, exec_completionArrival_copy hr hu hx hq hd hs hk hc hrun hres hi data, ?copied⟩,
    fun s p v x hx hq => ⟨s.timeout p.val v, x.timedOut ((s.timedOut p.val v x).time (portHalf p.val)), rfl, ?timeout⟩,
    fun s p v x hx hq hs => ⟨_, exec_tagQuarantineExpiry hx hq hs, ?expiry⟩⟩
  case late =>
    cases hd : x.discard with
    | true => exact ⟨congrArg Fn.lateCpl (State.fn_setFn_self _ _ _), fun _ => rfl, fun h => by simp at h⟩
    | false =>
      have hk := State.freeTagNo_keeps (s.setFn x.fn { s.fn x.fn with lateCpl := sat31 (s.fn x.fn).lateCpl }) p.val v x
      have hl := congrArg Fn.lateCpl (hk.settings x.fn)
      refine ⟨hl.trans ?_, fun h => by simp at h, fun _ => hk.free (State.tags_dropTag _ _ _).1⟩
      exact congrArg Fn.lateCpl (State.fn_setFn_self _ _ _)
  case discarded =>
    obtain ⟨hfree, hrest⟩ := s.tags_dropTag p.val v
    exact ⟨hfree, hrest, rfl⟩
  case copied =>
    obtain ⟨hfree, -⟩ := s.tags_dropTag p.val v
    refine ⟨hfree, ?_, rfl⟩
    simp [State.setRun, State.chan_setChan]
  case timeout =>
    have hk := State.timeout_keeps hx hq
    have hg := State.gov_of_standing hk.standing (portHalf p.val)
    have htime : (s.timeout p.val v).time (portHalf p.val) = (s.timedOut p.val v x).time (portHalf p.val) :=
      congrArg Governor.time hg
    have hput : mfind ((s.timedOut p.val v x).port p.val).tags v
        = some (x.timedOut ((s.timedOut p.val v x).time (portHalf p.val))) := by
      simp only [State.timedOut, State.port_setPort_self, mfind_mput, if_true]
      rfl
    have hend : s.tagEnd x ≤ (s.timedOut p.val v x).time (portHalf p.val) := by
      have hu : (s.timedOut p.val v x).time (portHalf p.val) = (s.until (portHalf p.val) (s.tagEnd x)).time (portHalf p.val) := rfl
      rw [hu, State.time_until]
      omega
    exact ⟨hk.quarantined hput rfl, rfl, rfl, htime.symm, htime ▸ hend, hk.out.subset List.mem_cons_self⟩
  case expiry =>
    obtain ⟨hfree, hrest⟩ := (s.until (portHalf p.val) (s.tagEnd x)).tags_dropTag p.val v
    have hend : s.tagEnd x ≤ (s.until (portHalf p.val) (s.tagEnd x)).time (portHalf p.val) := by
      rw [State.time_until]
      omega
    exact ⟨hfree, hrest, hend, rfl, rfl, rfl⟩

end Sys2Proof.Machine
end

section
/-! SUPPORT. The loss, the reset and the return of a host port's link (02 R38, R39, R65, R67). -/

namespace Sys2Proof.Machine
open Sys2Proof

/-! ### What only falls -/

/-- Every port's link and IDE streams are as in another state; a port without tags there has none, and no function masters that
did not. -/
def State.falls (t s : State) : Prop :=
  (∀ p, (t.port p).up = (s.port p).up ∧ (t.port p).ide = (s.port p).ide ∧ ((s.port p).tags = [] → (t.port p).tags = []))
  ∧ ∀ k, (s.fn k).bme = false → (t.fn k).bme = false

section
variable {t s : State} (h : t.falls s)
include h

theorem State.falls.up (p : Nat) : (t.port p).up = (s.port p).up := by
  obtain ⟨hports, -⟩ := h
  obtain ⟨hup, -⟩ := hports p
  exact hup

theorem State.falls.noTags {p : Nat} (hp : (s.port p).tags = []) : (t.port p).tags = [] := by
  obtain ⟨hports, -⟩ := h
  obtain ⟨-, -, htags⟩ := hports p
  exact htags hp

theorem State.falls.bme {k : Nat} (hk : (s.fn k).bme = false) : (t.fn k).bme = false := by
  obtain ⟨-, hf⟩ := h
  exact hf k hk

end

theorem State.falls_refl (s : State) : s.falls s := ⟨fun _ => ⟨rfl, rfl, fun h => h⟩, fun _ h => h⟩

theorem State.falls.trans {t u s : State} (h1 : t.falls u) (h2 : u.falls s) : t.falls s := by
  obtain ⟨hp1, hf1⟩ := h1
  obtain ⟨hp2, hf2⟩ := h2
  refine ⟨fun p => ?_, fun k hk => hf1 k (hf2 k hk)⟩
  obtain ⟨hu1, hi1, ht1⟩ := hp1 p
  obtain ⟨hu2, hi2, ht2⟩ := hp2 p
  exact ⟨hu1.trans hu2, hi1.trans hi2, fun h => ht1 (ht2 h)⟩

theorem State.keeps.noTags {t s : State} (h : t.keeps s) {p : Nat} (hp : (s.port p).tags = []) : (t.port p).tags = [] := by
  have ht : mmap (fun _ x => Tag.request x) (t.port p).tags = mmap (fun _ x => Tag.request x) (s.port p).tags :=
    (congrArg Port.tags (h.link p) :)
  rw [hp] at ht
  exact List.map_eq_nil_iff.mp ht

theorem State.keeps.bme {t s : State} (h : t.keeps s) (k : Nat) : (t.fn k).bme = (s.fn k).bme :=
  (congrArg Fn.bme (h.settings k) :)

theorem State.keeps.up {t s : State} (h : t.keeps s) (p : Nat) : (t.port p).up = (s.port p).up :=
  (congrArg Port.up (h.link p) :)

theorem State.keeps.ide {t s : State} (h : t.keeps s) (p : Nat) : (t.port p).ide = (s.port p).ide :=
  (congrArg Port.ide (h.link p) :)

theorem State.keeps.falls {t s : State} (h : t.keeps s) : t.falls s :=
  ⟨fun p => ⟨h.up p, h.ide p, h.noTags⟩, fun k hk => (h.bme k).trans hk⟩

/-! ### The reset of a function (R63, R81, R82) -/

theorem State.setFn_falls {a s : State} (h : a.falls s) {k : Nat} {x : Fn} (hx : x.bme = false) : (a.setFn k x).falls s := by
  refine State.falls.trans (u := a) ⟨fun _ => ⟨rfl, rfl, fun h => h⟩, fun j hj => ?_⟩ h
  rw [State.fn_setFn]
  split
  · exact hx
  · exact hj

theorem State.setPort_falls {a s : State} (h : a.falls s) {p : Nat} {x : Port} (hu : x.up = (a.port p).up)
    (hi : x.ide = (a.port p).ide) (ht : x.tags = (a.port p).tags) : (a.setPort p x).falls s := by
  refine State.falls.trans (u := a) ⟨fun j => ?_, fun _ hk => hk⟩ h
  rw [State.port_setPort]
  split
  · next hj => exact hj ▸ ⟨hu, hi, fun h => ht.trans h⟩
  · exact ⟨rfl, rfl, fun h => h⟩

theorem State.resetSettle_keeps {a s : State} (h : a.keeps s) (id : Nat) : (a.resetSettle id).keeps s :=
  State.settle_keeps (State.sliceReset_keeps h id) id

theorem State.resetOwn_keeps {a s : State} (h : a.keeps s) (fk : Nat) : (a.resetOwn fk).keeps s := by
  unfold State.resetOwn
  extract_lets g qs s1 _ s2
  have h1 : s1.keeps s := State.onHalf_keeps h
  have h2 : s2.keeps s := State.keeps_of_same (State.dropWqs_keeps h1 qs.contains)
  exact State.evalGates_keeps (State.orphan_keeps h2 _)

theorem State.dropVfs_falls {a s : State} (h : a.falls s) (p pf : Nat) : (a.dropVfs p pf).falls s := by
  refine State.falls.trans (u := a) ⟨fun _ => ⟨rfl, rfl, fun h => h⟩, fun k hk => ?_⟩ h
  have hf : (a.dropVfs p pf).fn k = if keyPort k = p && 4 ≤ keyNum k && fnPf (keyNum k) = pf then {} else a.fn k :=
    mget_mdrop (fun k => keyPort k = p && 4 ≤ keyNum k && fnPf (keyNum k) = pf) a.fns k {}
  rw [hf]
  split
  · rfl
  · exact hk

theorem State.endSession_falls {a s : State} (h : a.falls s) (ss : Session) : (a.endSession ss).falls s := by
  unfold State.endSession
  extract_lets
  split <;> exact h

theorem State.resetMbox_falls {a s : State} (h : a.falls s) (p : Fin 4) : (a.resetMbox p).falls s :=
  State.setPort_falls (State.endSession_falls h _) rfl rfl rfl

theorem State.fnReset_falls {a s : State} (h : a.falls s) (p : Fin 4) (n : Nat) : (a.fnReset p n).falls s := by
  unfold State.fnReset
  extract_lets fk pf mine s1 _ _ s2
  have h1 : s1.falls s := (State.quarantine_keeps (State.keeps_refl a) p.val mine).falls.trans h
  refine State.setFn_falls ?_ rfl
  unfold s2
  split
  · split
    · exact (State.resetSettle_keeps (State.keeps_refl s1) _).falls.trans h1
    · exact h1
  · split
    · have hslices := (State.foldl_keeps (f := State.resetSettle) (fun _ id hb => State.resetSettle_keeps hb id)
        (s1.pfSlices p.val n) (State.keeps_refl s1)).falls
      exact (State.resetOwn_keeps (State.keeps_refl _) fk).falls.trans (State.dropVfs_falls (hslices.trans h1) p.val n)
    · split
      · exact (State.setPort_keeps (State.resetOwn_keeps (State.keeps_refl s1) fk)).falls.trans h1
      · exact State.resetMbox_falls h1 p

/-- A function that is reset does not master. -/
theorem State.fnReset_bme (a : State) (p : Fin 4) (n : Nat) : ((a.fnReset p n).fn (fnKey p.val n)).bme = false := by
  rw [State.fnReset, State.fn_setFn_self]

theorem State.foldl_fnReset_falls (p : Fin 4) (l : List Nat) : ∀ {a s : State}, a.falls s →
    (l.foldl (fun a n => a.fnReset p n) a).falls s := by
  induction l with
  | nil => exact fun h => h
  | cons n rest ih => exact fun h => ih (State.fnReset_falls h p n)

/-- Functions reset one after another do not master: each stops when its turn comes, and none starts again. -/
theorem State.foldl_fnReset_bme (p : Fin 4) {l : List Nat} {n : Nat} (hn : n ∈ l) (a : State) :
    ((l.foldl (fun b m => b.fnReset p m) a).fn (fnKey p.val n)).bme = false := by
  obtain ⟨l1, l2, rfl⟩ := List.append_of_mem hn
  rw [List.foldl_append, List.foldl_cons]
  exact (State.foldl_fnReset_falls p l2 (State.falls_refl _)).bme (State.fnReset_bme _ p n)

/-! ### The loss of a link (R65) -/

/-- An endpoint port that has lost its link, and the other ports as they were. -/
theorem State.portDown_spec (s : State) (p : Fin 4) :
    ((s.portDown p).port p.val).up = false ∧ ((s.portDown p).port p.val).tags = [] ∧ ((s.portDown p).port p.val).ide = []
      ∧ (∀ n, n < 4 → ((s.portDown p).fn (fnKey p.val n)).bme = false)
      ∧ ∀ q, q ≠ p.val → ((s.portDown p).port q).up = (s.port q).up := by
  unfold State.portDown
  extract_lets _ s1 s2 _ s3
  have hreset : s2.falls s1 := State.foldl_fnReset_falls p _ (State.falls_refl s1)
  have hbme : ∀ n, n < 4 → (s2.fn (fnKey p.val n)).bme = false := fun n hn =>
    State.foldl_fnReset_bme p (by simp; omega) s1
  have hk : State.keeps (List.foldl State.settle s3 (s3.pfSlices p.val 1 ++ s3.pfSlices p.val 2)) s3 :=
    State.foldl_keeps (fun _ id hb => State.settle_keeps hb id) _ (State.keeps_refl s3)
  have htags : (s1.port p.val).tags = [] := congrArg Port.tags (State.port_setPort_self _ _ _)
  have h1 : ∀ q, q ≠ p.val → s1.port q = s.port q := fun q hq => State.port_setPort_of_ne hq _ _
  have h3 : s3.port p.val = { s2.port p.val with up := false, rate := 0, width := 0, flit := false, ide := [] } :=
    State.port_setPort_self _ _ _
  clear_value s2
  refine ⟨?up, ?tags, ?ide, fun n hn => (hk.bme _).trans (hbme n hn), fun q hq => ?others⟩
  case up => rw [hk.up, h3]
  case tags => exact hk.noTags (by rw [h3]; exact hreset.noTags htags)
  case ide => rw [hk.ide, h3]
  case others => rw [hk.up, State.port_setPort_of_ne hq, hreset.up, h1 q hq]

/-! ### The commands -/

section
variable {s : State} {p : Fin 4}

theorem exec_perstAssert (hb : s.board.boot ≠ .inReset) (hr : (s.port p.val).root = false) :
    exec (.perstAssert p) s = .next (s.portDown p) := by
  show execPerstAssert p s = _
  simp [execPerstAssert, hb, hr]

theorem exec_linkDlDown_endpoint (hu : (s.port p.val).up = true) (hr : (s.port p.val).root = false) :
    exec (.linkDlDown p) s = .next (s.portDown p) := by
  show Host.Outcome.next (s.linkDown p) = _
  simp [State.linkDown, hu, hr]

theorem exec_linkDlDown_root (hu : (s.port p.val).up = true) (hr : (s.port p.val).root = true) :
    exec (.linkDlDown p) s
      = .next (s.setPort p.val { s.port p.val with up := false, rate := 0, width := 0, flit := false }) := by
  show Host.Outcome.next (s.linkDown p) = _
  unfold State.linkDown
  extract_lets x
  rw [if_neg (by simp [x, hu]), if_pos hr]

end

/-- The event log alone holds what is logged below the fatal classes. -/
theorem State.log_frame (s : State) {code cls unit action detail : Nat} (hc : cls < 3) :
    s.log code cls unit action detail
      = { s with k := (s.log code cls unit action detail).k, q := (s.log code cls unit action detail).q } :=
  congrArg (fun t : State =>
      { t with k := (s.log code cls unit action detail).k, q := (s.log code cls unit action detail).q })
    (State.logOn_frame s _ hc)

/-- A link that has come up, before one below its best is logged. -/
def State.trained (s : State) (p rate width : Nat) (flit : Bool) : State :=
  s.setPort p { s.port p with up := true, rate := rate, width := width, flit := flit }

/-- A link that comes up is as trained, but for the event log. -/
theorem State.hostLinkUp_frame {s : State} {p : Fin 4} {rate width : Nat} {flit : Bool} (hu : (s.port p.val).up = false)
    (hr : (s.port p.val).root = false) (ht : s.portTrains p.val = true) (hw : s.trainable p.val rate width flit = true) :
    ∃ k q, s.hostLinkUp p rate width flit = { s.trained p.val rate width flit with k := k, q := q } := by
  unfold State.hostLinkUp
  extract_lets x _ s1
  rw [if_neg (by simp [x, hu, hr, ht, hw])]
  split
  · exact ⟨_, _, rfl⟩
  · exact ⟨_, _, State.log_frame _ (by decide)⟩

/-- Settles O4: a link's loss falls in `State.falls` from the port without tags, and its return changes the port alone. -/
theorem hostPortLinkEvents : Obligations.HostPortLinkEvents := by
  unfold Obligations.HostPortLinkEvents
  refine ⟨fun s p hb hr => ⟨_, exec_perstAssert hb hr, s.portDown_spec p⟩,
    fun s p hu hr => ⟨_, exec_linkDlDown_endpoint hu hr, s.portDown_spec p⟩,
    fun s p hu hr => ⟨_, exec_linkDlDown_root hu hr, ?down, fun q hq => State.port_setPort_of_ne hq _ _, rfl⟩,
    fun s p rate width flit hu hr ht hw => ⟨s.hostLinkUp p rate width flit, rfl, ?up⟩⟩
  case down => rw [State.port_setPort_self]
  case up =>
    obtain ⟨k, q, hup⟩ := State.hostLinkUp_frame hu hr ht hw
    rw [hup]
    exact ⟨State.port_setPort_self _ _ _, fun j hj => State.port_setPort_of_ne hj _ _, rfl, rfl, rfl, rfl⟩

end Sys2Proof.Machine
end

section
/-! SUPPORT. IDE streams and SPDM sessions of a host port (02 R56, R57, 12 R381). -/

namespace Sys2Proof.Machine
open Sys2Proof

/-! ### IDE streams (R56) -/

@[simp] theorem State.ideStream_setIde_self (s : State) (p i : Nat) (x : IdeStream) : (s.setIde p i x).ideStream p i = x := by
  simp [State.ideStream, State.setIde]

theorem State.ideStream_setIde_of_ne {i j : Nat} (hj : j ≠ i) (s : State) (p : Nat) (x : IdeStream) :
    (s.setIde p i x).ideStream p j = s.ideStream p j := by
  simp [State.ideStream, State.setIde, mget_mset, hj]

/-- The event log alone holds the loss of a stream besides its port. -/
theorem exec_ideIntegrityFail {s : State} {p i : Fin 4} (hs : (s.ideStream p.val i.val).secure = true) :
    ∃ k q, exec (.ideIntegrityFail p i) s = .next { s.setIde p.val i.val
      { s.ideStream p.val i.val with secure := false, failed := true } with k := k, q := q } :=
  ⟨_, _, congrArg Host.Outcome.next ((if_pos hs).trans (State.log_frame _ (by decide)))⟩

/-! ### Requests in their stage (R57, R381) -/

section
variable {s : State} {p : Fin 4} (hp : s.present (fnKey p.val 0) = true)
include hp

/-- A port whose PF0 answers in configuration space takes messages in its DOE mailbox. -/
theorem State.doe_eq (f : State → State) : s.doe p f = f s := by
  have hrun : s.running = true := by
    simp only [State.present, Bool.and_eq_true] at hp
    obtain ⟨⟨⟨⟨hrun, -⟩, -⟩, -⟩, -⟩ := hp
    exact hrun
  rw [State.doe, State.config_eq hp, if_pos hrun]

theorem exec_ideKmSetup (hst : (s.port p.val).spdm = 5) (i : Fin 4) (key : BitVec 256) :
    exec (.ideKmSetup p i key) s = .next (s.setIde p.val i.val { secure := true, key := key, failed := false }) :=
  congrArg Host.Outcome.next ((State.doe_eq hp _).trans (if_pos hst))

/-- A request between the bounds of its stage is served. -/
theorem State.spdmReq_eq {lo hi : Nat} (hlo : lo ≤ (s.port p.val).spdm) (hhi : (s.port p.val).spdm ≤ hi) (f : State → State) :
    s.spdmReq p lo hi f = f s := by
  rw [State.spdmReq, State.doe_eq hp, if_pos ⟨hlo, hhi⟩]

theorem exec_spdmGetMeasurements (hlo : 3 ≤ (s.port p.val).spdm) (hhi : (s.port p.val).spdm ≤ 5) {i : Nat} (h1 : 1 ≤ i)
    (h12 : i ≤ 12) :
    exec (.spdmGetMeasurements p i) s = .next (s.emit (.spdm p.val spMeasurements (s.measurement i))) := by
  refine congrArg Host.Outcome.next ((State.spdmReq_eq hp hlo hhi _).trans ?_)
  rw [if_neg (by omega), if_neg (by omega), if_pos h12]

end

theorem State.stage_spdmStage (s : State) (p : Fin 4) (n : Nat) : ((s.spdmStage p n).port p.val).spdm = n :=
  congrArg Port.spdm (State.port_setPort_self _ _ _)

/-- Settles O7: the stream that is written, and each request at its stage by `State.spdmReq_eq`. -/
theorem ideAndSpdmSessions : Obligations.IdeAndSpdmSessions := by
  unfold Obligations.IdeAndSpdmSessions
  refine ⟨fun s p i hs => ?fails,
    fun s p i key hp hst => ⟨_, exec_ideKmSetup hp hst i key, State.ideStream_setIde_self _ _ _ _,
      fun j hj => State.ideStream_setIde_of_ne hj _ _ _, rfl⟩,
    fun s p hp => ⟨fun hst => ?version, fun hst => ?capabilities, fun hst => ?algorithms, fun hlo hhi => ?attestation,
      fun hst => ⟨fun nonce => ?challenge, fun share => ?exchange⟩, fun hst => ⟨?finish, fun v hv => ?badFinish⟩,
      fun hst => ⟨?heartbeat, ?keyUpdate, ?endSession⟩⟩⟩
  case fails =>
    obtain ⟨k, q, hexec⟩ := exec_ideIntegrityFail hs
    refine ⟨_, hexec, ?_, ?_, fun j hj => State.ideStream_setIde_of_ne hj _ _ _,
      fun j hj => State.port_setPort_of_ne hj _ _, rfl, rfl⟩
    · exact congrArg IdeStream.secure (State.ideStream_setIde_self s p.val i.val _)
    · exact congrArg IdeStream.failed (State.ideStream_setIde_self s p.val i.val _)
  case version =>
    exact ⟨_, congrArg Host.Outcome.next (State.spdmReq_eq hp (Nat.zero_le _) hst _), s.stage_spdmStage p 1, rfl, rfl⟩
  case capabilities =>
    exact ⟨_, congrArg Host.Outcome.next (State.spdmReq_eq hp hst.ge hst.le _), s.stage_spdmStage p 2, rfl, rfl⟩
  case algorithms =>
    exact ⟨_, congrArg Host.Outcome.next (State.spdmReq_eq hp hst.ge hst.le _), s.stage_spdmStage p 3, rfl, rfl⟩
  case attestation =>
    exact ⟨⟨_, congrArg Host.Outcome.next (State.spdmReq_eq hp hlo hhi _), rfl, rfl⟩,
      fun off len => ⟨_, congrArg Host.Outcome.next (State.spdmReq_eq hp hlo hhi _), rfl, rfl⟩,
      fun i h1 h12 => ⟨_, exec_spdmGetMeasurements hp hlo hhi h1 h12, rfl, rfl⟩⟩
  case challenge =>
    refine ⟨_, _, congrArg Host.Outcome.next (State.spdmReq_eq hp hst.ge hst.le _), rfl, ?_, rfl, rfl⟩
    rw [List.isPrefixOf_iff_prefix, List.append_assoc]
    exact List.prefix_append _ _
  case exchange =>
    refine ⟨_, _, congrArg Host.Outcome.next (State.spdmReq_eq hp hst.ge hst.le _), rfl, ?_, ?_, ?_⟩
    · exact congrArg Port.spdm (State.port_setPort_self s p.val _)
    · exact congrArg Port.spdmShare (State.port_setPort_self s p.val _)
    · exact congrArg Port.spdmKeys (State.port_setPort_self s p.val _)
  case finish =>
    exact ⟨_, congrArg Host.Outcome.next ((State.spdmReq_eq hp hst.ge hst.le _).trans (if_pos rfl)), s.stage_spdmStage p 5, rfl⟩
  case badFinish =>
    exact ⟨_, congrArg Host.Outcome.next ((State.spdmReq_eq hp hst.ge hst.le _).trans (if_neg hv)), s.stage_spdmStage p 3⟩
  case heartbeat => exact ⟨_, congrArg Host.Outcome.next (State.spdmReq_eq hp hst.ge hst.le _), rfl, rfl⟩
  case keyUpdate =>
    refine ⟨_, congrArg Host.Outcome.next (State.spdmReq_eq hp hst.ge hst.le _), ?_, ?_, rfl⟩
    · exact congrArg Port.spdmKeys (State.port_setPort_self s p.val _)
    · exact (congrArg Port.spdm (State.port_setPort_self s p.val _)).trans hst
  case endSession =>
    exact ⟨_, congrArg Host.Outcome.next (State.spdmReq_eq hp hst.ge hst.le _), s.stage_spdmStage p 3, rfl⟩

end Sys2Proof.Machine
end

section
/-! SUPPORT. Status registers with an effect, and the counters of slices and PFs (02 R45, R47, R48, 03 R86). -/

namespace Sys2Proof.Machine
open Sys2Proof

/-! ### Writes that are done (R456) -/

/-- A granted write whose selection is found and whose value is taken is done and answered. -/
theorem State.write_done {s t : State} {w : Who} {i sub : Nat} {data : List Byte} {busy sel : State → Bool}
    {act : State → Option State} (hg : s.grants w i sub data = true) (hb : busy (s.accepted w) = false)
    (hsel : sel (s.accepted w) = true) (ha : act (s.accepted w) = some t) :
    (s.write w i sub data busy sel act).out w
      = .next ((if custodyObj i sub then t.diverge w.sess i sub 0 else t).emit (.resp w.sess rsOk [])) := by
  rw [State.write_granted hg, if_neg (by simp [hb]), if_neg (by simp [hsel])]
  simp only [ha]
  rfl

theorem State.emit_answered (s : State) (w : Who) (st : Nat) (data : List Byte) :
    (s.emit (.resp w.sess st data)).answered w st data := rfl

/-! ### Status registers (R45, R47, R48) -/

section
variable {s : State}

theorem exec_mgmtTimeLoRead {p : Fin 4} (hp : s.present (fnKey p.val 0) = true) (hd : (s.fn (fnKey p.val 0)).d3 = false) :
    exec (.mgmtTimeLoRead p) s
      = .next ((s.setPort p.val { s.port p.val with timeHi := s.time (portHalf p.val) / 2 ^ 31 % 2 ^ 31 }).emit
          (.read (s.time (portHalf p.val) % 2 ^ 31))) :=
  congrArg Host.Outcome.next (State.statusAccess_eq hp hd _)

variable {f : FnRef} (hp : s.present (fkey f) = true) (hd : (s.fn (fkey f)).d3 = false)
include hp hd

theorem exec_lateCplRead :
    exec (.lateCplRead f) s
      = .next ((s.setFn (fkey f) { s.fn (fkey f) with lateCpl := 0 }).emit (.read (s.fn (fkey f)).lateCpl)) :=
  congrArg Host.Outcome.next (State.statusAccess_eq hp hd _)

theorem exec_faultSummaryClear (hpf : fnPf f.num.val = 1 ∨ fnPf f.num.val = 2) (v : BitVec 32) :
    exec (.faultSummaryClear f v) s = .next (s.setFn (fkey f)
      { s.fn (fkey f) with faultSummary := (s.fn (fkey f)).faultSummary &&& ~~~ (v.setWidth 4) }) :=
  congrArg Host.Outcome.next ((State.access_eq hp hd _).trans (if_pos hpf))

end

/-! ### Counters of slices and PFs (R86) -/

/-- Every slice's counters, or one's, cleared. -/
def State.sliceCleared (s : State) (v : Nat) : State :=
  { s with sliceCnt := mdrop (fun k => v = 0xFFFF || k / 32 = v) s.sliceCnt }

/-- Every PF's counter, or one's, cleared. -/
def State.pfCleared (s : State) (v : Nat) : State :=
  { s with pfCnt := if v = 0xFF then [] else merase s.pfCnt v }

theorem State.mget_sliceCleared (s : State) (v k : Nat) :
    mget (s.sliceCleared v).sliceCnt k 0 = if v = 0xFFFF ∨ k / 32 = v then 0 else mget s.sliceCnt k 0 := by
  rw [State.sliceCleared, mget_mdrop]
  simp

theorem State.mget_pfCleared (s : State) (v k : Nat) :
    mget (s.pfCleared v).pfCnt k 0 = if v = 0xFF ∨ k = v then 0 else mget s.pfCnt k 0 := by
  rw [State.pfCleared]
  by_cases hv : v = 0xFF
  · simp [hv, mget]
  · simp [hv, mget_merase]

theorem exec_sliceCntClear {s : State} {w : Who} {v : BitVec 16} (hg : s.grants w 0x6000 3 (leBytes 2 v.toNat) = true)
    (hsplit : s.cstl.split = false) (hv : v.toNat = 0xFFFF ∨ (s.slice v.toNat).used = true) :
    exec (.sliceCntClear w v) s = .next (((s.accepted w).sliceCleared v.toNat).emit (.resp w.sess rsOk [])) := by
  have hs : (s.accepted w).cstl.split = false := hsplit
  have hfound : ((v.toNat = 0xFFFF : Bool) || ((s.accepted w).slice v.toNat).used) = true := by
    have hu : ((s.accepted w).slice v.toNat).used = (s.slice v.toNat).used := rfl
    simpa [hu] using hv
  exact State.write_done hg rfl hfound (by simp [hs])

/-- A PF is named by its port and its number, which the eight bits hold as they are. -/
theorem exec_pfCntClear {s : State} {w : Who} {v : BitVec 8} (hg : s.grants w 0x6000 6 (leBytes 1 v.toNat) = true)
    (hv : v.toNat = 0xFF ∨ (v.toNat < 64 ∧ (v.toNat % 16 = 1 ∨ v.toNat % 16 = 2))) :
    exec (.pfCntClear w v) s = .next (((s.accepted w).pfCleared v.toNat).emit (.resp w.sess rsOk [])) := by
  refine State.write_done hg rfl rfl ?_
  have hsplit : v.toNat / 16 * 16 + v.toNat % 16 = v.toNat := by omega
  by_cases hall : v.toNat = 0xFF
  · simp [hall]
  · rw [if_neg hall, if_pos (hv.resolve_left hall), hsplit]
    simp [hall]

/-- Settles O9, a command at a time. -/
theorem statusReadsAndCounterClears : Obligations.StatusReadsAndCounterClears := by
  unfold Obligations.StatusReadsAndCounterClears
  refine ⟨fun s p hp hd => ⟨_, exec_mgmtTimeLoRead hp hd, rfl, State.port_setPort_self _ _ _,
      fun q hq => State.port_setPort_of_ne hq _ _, rfl⟩,
    fun s f hp hd => ⟨_, exec_lateCplRead hp hd, rfl, State.fn_setFn_self _ _ _,
      fun k hk => State.fn_setFn_of_ne hk _ _, rfl⟩,
    fun s f v hp hd hpf => ⟨_, exec_faultSummaryClear hp hd hpf v, fun i hi => ?fault,
      fun k hk => State.fn_setFn_of_ne hk _ _, rfl⟩,
    fun s w v hg hsplit hv => ?slices, fun s w v hg hv => ?pfs⟩
  case fault =>
    rw [State.fn_setFn_self]
    simp [hi]
  case slices =>
    have hall : v = 0xFFFF ↔ v.toNat = 0xFFFF := BitVec.toNat_inj.symm
    rw [hall] at hv
    refine ⟨_, exec_sliceCntClear hg hsplit hv, State.emit_answered _ _ _ _, fun k hk => ?_, fun k hne hk => ?_, rfl⟩
    · exact (State.mget_sliceCleared _ _ _).trans (if_pos (hk.imp_left hall.mp))
    · exact (State.mget_sliceCleared _ _ _).trans (if_neg (not_or.mpr ⟨mt hall.mpr hne, hk⟩))
  case pfs =>
    have hall : v = 0xFF ↔ v.toNat = 0xFF := BitVec.toNat_inj.symm
    rw [hall] at hv
    refine ⟨_, exec_pfCntClear hg hv, State.emit_answered _ _ _ _, fun k hk => ?_, fun k hne hk => ?_, rfl⟩
    · exact (State.mget_pfCleared _ _ _).trans (if_pos (hk.imp_left hall.mp))
    · exact (State.mget_pfCleared _ _ _).trans (if_neg (not_or.mpr ⟨mt hall.mpr hne, hk⟩))

end Sys2Proof.Machine
end

section
/-! SUPPORT. Drives, and the keys and states of the namespaces on them (02 R66, R67, 12 R310, R312, R315, R333, R342, R360). -/

namespace Sys2Proof.Machine
open Sys2Proof

/-! ### Requests (R389, R456) -/

/-- A granted write whose value is refused has no effect. -/
theorem State.write_refused {s : State} {w : Who} {i sub : Nat} {data : List Byte} {busy sel : State → Bool}
    {act : State → Option State} (hg : s.grants w i sub data = true) (hb : busy (s.accepted w) = false)
    (hsel : sel (s.accepted w) = true) (ha : act (s.accepted w) = none) :
    (s.write w i sub data busy sel act).out w = .next ((s.accepted w).emit (.resp w.sess rsRefused [])) := by
  rw [State.write_granted hg, if_neg (by simp [hb]), if_neg (by simp [hsel])]
  simp only [ha]
  rfl

theorem exec_unique {i : Instr} {s t u : State} (ht : exec i s = .next t) (hu : exec i s = .next u) : t = u :=
  Host.Outcome.next.inj (ht.symm.trans hu)

/-- What the sessions of a list have selected, a session's. -/
def selected (l : List Sess) (ss : Session) : Map Nat := ((l.find? (·.sess = ss)).map Sess.sel).getD []

theorem State.sel_eq (s : State) (ss : Session) (k d : Nat) : s.sel ss k d = mget (selected s.mgmt.sessions ss) k d := by
  rw [State.sel, selected]
  cases s.mgmt.sessions.find? (·.sess = ss) <;> rfl

/-- What a session has selected stays as a session begins or its idle time starts anew. -/
theorem selected_touchIn (l : List Sess) (ss tt : Session) (now : Nat) : selected (touchIn l ss now) tt = selected l tt := by
  induction l with
  | nil => by_cases ht : ss = tt <;> simp [selected, touchIn, ht]
  | cons x rest ih =>
    unfold touchIn
    split
    · by_cases hx : x.sess = tt <;> simp [selected, hx]
    · by_cases hx : x.sess = tt
      · simp [selected, hx]
      · simpa [selected, hx] using ih

theorem State.sel_accepted (s : State) (w : Who) (ss : Session) (k d : Nat) : (s.accepted w).sel ss k d = s.sel ss k d := by
  rw [State.sel_eq, State.sel_eq]
  exact congrArg (mget · k d) (selected_touchIn _ _ _ _)

@[simp] theorem State.driveSel_accepted (s : State) (w : Who) (ss : Session) : (s.accepted w).driveSel ss = s.driveSel ss :=
  State.sel_accepted _ _ _ _ _

@[simp] theorem State.nsSel_accepted (s : State) (w : Who) (ss : Session) : (s.accepted w).nsSel ss = s.nsSel ss :=
  State.sel_accepted _ _ _ _ _

/-! ### Drives and what is on them (R310, R312) -/

theorem State.drive_setDrive (s : State) (d e : Nat) (x : Drive) : (s.setDrive d x).drive e = if e = d then x else s.drive e := by
  simp [State.setDrive, State.drive, mget_mset]

@[simp] theorem State.drive_setDrive_self (s : State) (d : Nat) (x : Drive) : (s.setDrive d x).drive d = x := by
  simp [State.drive_setDrive]

theorem State.drive_setDrive_of_ne {d e : Nat} (he : e ≠ d) (s : State) (x : Drive) : (s.setDrive d x).drive e = s.drive e := by
  simp [State.drive_setDrive, he]

/-- Two states have the drives and the namespaces alike. -/
def State.sameMedia (t s : State) : Prop := t.storage.drives = s.storage.drives ∧ t.storage.nss = s.storage.nss

section
variable {t s : State} (h : t.sameMedia s)
include h

theorem State.sameMedia.drive (d : Nat) : t.drive d = s.drive d := by
  obtain ⟨hd, -⟩ := h
  rw [State.drive, hd, State.drive]

theorem State.sameMedia.nss : t.storage.nss = s.storage.nss := by
  obtain ⟨-, hn⟩ := h
  exact hn

theorem State.sameMedia.ns (id : Nat) : t.ns id = s.ns id := by
  rw [State.ns, h.nss, State.ns]

end

theorem State.sameMedia.trans {t u s : State} (h1 : t.sameMedia u) (h2 : u.sameMedia s) : t.sameMedia s := by
  obtain ⟨hd1, hn1⟩ := h1
  obtain ⟨hd2, hn2⟩ := h2
  exact ⟨hd1.trans hd2, hn1.trans hn2⟩

theorem State.log_sameMedia (s : State) (code cls unit action detail : Nat) : (s.log code cls unit action detail).sameMedia s := by
  rw [State.sameMedia, State.log_storage]
  exact ⟨rfl, rfl⟩

theorem State.setPoolShort_sameMedia (s : State) (h : Half) (b : Bool) : (s.setPoolShort h b).sameMedia s := by
  cases h <;> exact ⟨rfl, rfl⟩

theorem State.poolCheck_sameMedia (s : State) (h : Half) : (s.poolCheck h).sameMedia s := by
  unfold State.poolCheck
  extract_lets n
  split
  · exact s.setPoolShort_sameMedia h false
  · split
    · exact ⟨rfl, rfl⟩
    · exact (State.log_sameMedia _ _ _ _ _ _).trans (s.setPoolShort_sameMedia h true)

theorem State.setMapCarve_sameMedia (s : State) (h : Half) : (s.setMapCarve h).sameMedia s := by
  cases h <;> exact ⟨rfl, rfl⟩

/-! ### The loss of a drive (R67, R312) -/

theorem mget_mmap {α : Type} {f : Nat → α → α} {d : α} (hd : ∀ k, f k d = d) (m : Map α) (k : Nat) :
    mget (mmap f m) k d = f k (mget m k d) := by
  rw [mget_eq, mget_eq, mfind_mmap]
  cases mfind m k with
  | none => exact (hd k).symm
  | some x => rfl

theorem mem_of_mfind {α : Type} {m : Map α} {k : Nat} {x : α} (h : mfind m k = some x) : (k, x) ∈ m := by
  induction m with
  | nil => simp [mfind] at h
  | cons e rest ih =>
    obtain ⟨j, y⟩ := e
    rw [mfind] at h
    split at h
    · next hj => simp_all
    · exact List.mem_cons_of_mem _ (ih h)

/-- A granule on a drive that is lost is lost. -/
theorem Ns.lost_loseDrive (n : Ns) {d g : Nat} (hg : mfind n.place g = some d) : (n.loseDrive d).lost.contains g = true := by
  by_cases hl : n.lost.contains g = true
  · simp_all [Ns.loseDrive]
  · have hm := mem_of_mfind hg
    simp_all [Ns.loseDrive]

theorem Ns.lost_mono (n : Ns) (d : Nat) {g : Nat} (hg : n.lost.contains g = true) : (n.loseDrive d).lost.contains g = true := by
  simp_all [Ns.loseDrive]

/-- A drive of a pool is lost: it has failed, and every namespace has lost what it held there. -/
def State.driveLost (s : State) (d : Nat) : State :=
  let s1 := s.setDrive d { s.drive d with st := .failed }
  { s1 with storage := { s1.storage with nss := mmap (fun _ n => n.loseDrive d) s1.storage.nss } }

theorem State.drive_driveLost (s : State) (d e : Nat) :
    (s.driveLost d).drive e = if e = d then { s.drive d with st := .failed } else s.drive e :=
  State.drive_setDrive s d e { s.drive d with st := .failed }

theorem State.ns_driveLost (s : State) (d id : Nat) : (s.driveLost d).ns id = (s.ns id).loseDrive d :=
  mget_mmap (f := fun _ n => Ns.loseDrive n d) (fun _ => rfl) s.storage.nss id

section
variable {s : State} {d : Nat}

theorem State.driveLoss_absent (h : (s.drive d).st = .absent) : s.driveLoss d = s := by
  simp [State.driveLoss, h]

theorem State.driveLoss_pool (h : (s.drive d).st = .admitted ∨ (s.drive d).st = .retiring) :
    (s.driveLoss d).sameMedia (s.driveLost d) := by
  have hab : (s.drive d).st ≠ .absent := by rcases h with h | h <;> simp [h]
  unfold State.driveLoss
  extract_lets x g _ s1 s2
  rw [if_neg hab, if_pos h]
  exact (State.poolCheck_sameMedia _ _).trans (State.log_sameMedia s2 _ _ _ _ _)

theorem State.driveLoss_outside (h : (s.drive d).st = .present ∨ (s.drive d).st = .failed) : s.driveLoss d = s.setDrive d {} := by
  rcases h with h | h <;> simp [State.driveLoss, h]

theorem State.driveLoss_of_ne {e : Nat} (he : e ≠ d) : (s.driveLoss d).drive e = s.drive e := by
  have hst : (s.drive d).st = .absent ∨ ((s.drive d).st = .admitted ∨ (s.drive d).st = .retiring)
      ∨ ((s.drive d).st = .present ∨ (s.drive d).st = .failed) := by
    cases (s.drive d).st <;> simp
  rcases hst with h | h | h
  · rw [State.driveLoss_absent h]
  · rw [(State.driveLoss_pool h).drive, State.drive_driveLost, if_neg he]
  · rw [State.driveLoss_outside h, State.drive_setDrive_of_ne he]

end

/-! ### Drives that train, are admitted and retire (R66, R310, R342, R360) -/

/-- A root port whose link is up. -/
def State.rootUp (s : State) (p : Fin 4) : State := s.setPort p.val { s.port p.val with up := true }

theorem exec_rootPortLinkUp {s : State} {p : Fin 4} (hrun : s.running = true) (hr : (s.port p.val).root = true)
    (hp : s.powered (portHalf p.val) (11 + p.val % 2) = true) (x : DriveId) :
    exec (.rootPortLinkUp p [x]) s = .next ((s.rootUp p).drivePresent p x) :=
  congrArg Host.Outcome.next (if_pos ⟨hrun, hr, hp⟩)

section
variable {s : State} {p : Fin 4} {x : DriveId}

theorem State.drivePresent_inPool (h : (s.drive (p.val * 16 + x.slot.val)).st = .admitted
    ∨ (s.drive (p.val * 16 + x.slot.val)).st = .retiring) : s.drivePresent p x = s := if_pos h

theorem State.drivePresent_fresh (h : ¬ ((s.drive (p.val * 16 + x.slot.val)).st = .admitted
    ∨ (s.drive (p.val * 16 + x.slot.val)).st = .retiring)) :
    s.drivePresent p x = s.setDrive (p.val * 16 + x.slot.val)
      { st := .present, capacity := x.capacity, lba4k := x.lba4k, serial := x.serial } := if_neg h

theorem State.drivePresent_of_ne {e : Nat} (he : e ≠ p.val * 16 + x.slot.val) : (s.drivePresent p x).drive e = s.drive e := by
  unfold State.drivePresent
  extract_lets d
  split
  · rfl
  · exact State.drive_setDrive_of_ne he _ _

theorem State.drivePresent_frame : ∃ y, s.drivePresent p x = { s with storage := y } := by
  unfold State.drivePresent
  extract_lets d
  split
  · exact ⟨_, rfl⟩
  · exact ⟨_, rfl⟩

end

section
variable {s : State} {w : Who}

/-- The device once the selected drive is admitted, the request apart. -/
def State.admitted (s : State) (d : Nat) : State :=
  ((s.setDrive d { s.drive d with st := .admitted }).setMapCarve (driveHalf d)).poolCheck (driveHalf d)

theorem State.admitted_sameMedia (s : State) (d : Nat) :
    (s.admitted d).sameMedia (s.setDrive d { s.drive d with st := .admitted }) :=
  (State.poolCheck_sameMedia _ _).trans (State.setMapCarve_sameMedia _ _)

theorem State.driveSel_found (h : s.driveSel w.sess < 64) : decide ((s.accepted w).driveSel w.sess < 64) = true := by
  simpa using h

theorem exec_driveAdmit (hg : s.grants w 0xA400 0x0D [1] = true) (hd : s.driveSel w.sess < 64)
    (hst : (s.drive (s.driveSel w.sess)).st = .present)
    (hr : s.canReach (s.server w.sess) (driveHalf (s.driveSel w.sess)) = true)
    (hroom : mapBytes (s.poolCap (driveHalf (s.driveSel w.sess)) + (s.drive (s.driveSel w.sess)).capacity)
      ≤ s.mapRoom (driveHalf (s.driveSel w.sess))) :
    exec (.driveAdmit w) s = .next (((s.accepted w).admitted (s.driveSel w.sess)).emit (.resp w.sess rsOk [])) := by
  refine State.write_done hg rfl (State.driveSel_found hd) ?_
  simp only [State.driveSel_accepted]
  have htaken : ¬ (((s.accepted w).drive (s.driveSel w.sess)).st ≠ .present
      ∨ (s.accepted w).canReach ((s.accepted w).server w.sess) (driveHalf (s.driveSel w.sess)) = false) := by
    rintro (h | h)
    · exact h hst
    · exact Bool.false_ne_true (h.symm.trans hr)
  exact (if_neg htaken).trans ((if_neg (Nat.not_lt.mpr hroom)).trans rfl)

theorem exec_driveAdmit_refused (hg : s.grants w 0xA400 0x0D [1] = true) (hd : s.driveSel w.sess < 64)
    (hno : (s.drive (s.driveSel w.sess)).st ≠ .present
      ∨ s.canReach (s.server w.sess) (driveHalf (s.driveSel w.sess)) = false
      ∨ s.mapRoom (driveHalf (s.driveSel w.sess))
        < mapBytes (s.poolCap (driveHalf (s.driveSel w.sess)) + (s.drive (s.driveSel w.sess)).capacity)) :
    exec (.driveAdmit w) s = .next ((s.accepted w).emit (.resp w.sess rsRefused [])) := by
  refine State.write_refused hg rfl (State.driveSel_found hd) ?_
  simp only [State.driveSel_accepted]
  split
  · rfl
  · next htaken => exact if_pos ((or_assoc.mpr hno).resolve_left htaken)

theorem exec_driveRetire (hg : s.grants w 0xA400 0x0D [2] = true) (hd : s.driveSel w.sess < 64)
    (hst : (s.drive (s.driveSel w.sess)).st = .admitted)
    (hr : s.canReach (s.server w.sess) (driveHalf (s.driveSel w.sess)) = true)
    (hfit : s.retireFits (s.driveSel w.sess) = true) :
    exec (.driveRetire w) s = .next (((s.accepted w).setDrive (s.driveSel w.sess)
      { s.drive (s.driveSel w.sess) with st := .retiring }).emit (.resp w.sess rsOk [])) := by
  refine State.write_done hg rfl (State.driveSel_found hd) ?_
  simp only [State.driveSel_accepted]
  refine (if_neg ?_).trans rfl
  rintro (h | h | h)
  · exact h hst
  · exact Bool.false_ne_true (h.symm.trans hr)
  · exact Bool.false_ne_true (h.symm.trans hfit)

theorem exec_driveRetire_refused (hg : s.grants w 0xA400 0x0D [2] = true) (hd : s.driveSel w.sess < 64)
    (hno : (s.drive (s.driveSel w.sess)).st ≠ .admitted
      ∨ s.canReach (s.server w.sess) (driveHalf (s.driveSel w.sess)) = false ∨ s.retireFits (s.driveSel w.sess) = false) :
    exec (.driveRetire w) s = .next ((s.accepted w).emit (.resp w.sess rsRefused [])) := by
  refine State.write_refused hg rfl (State.driveSel_found hd) ?_
  simp only [State.driveSel_accepted]
  exact if_pos hno

end

/-! ### The end of a drive's retirement (R342) -/

theorem State.moveGranules_drives (s : State) (id : Nat) (gs : List Nat) :
    (s.moveGranules id gs).storage.drives = s.storage.drives := by
  refine List.foldlRecOn gs _ (motive := fun a : State => a.storage.drives = s.storage.drives) rfl fun a ha g _ => ?_
  split
  · exact ha
  · exact ha

/-- The device once the granules of a retiring drive have moved. -/
def State.granulesMoved (s : State) (d : Nat) : State :=
  s.storage.nss.foldl (fun a e =>
    a.moveGranules e.1 ((e.2.place.filter fun p => p.2 = d && !e.2.lost.contains p.1).map Prod.fst)) s

theorem State.granulesMoved_drive (s : State) (d e : Nat) : (s.granulesMoved d).drive e = s.drive e := by
  have h : (s.granulesMoved d).storage.drives = s.storage.drives :=
    List.foldlRecOn _ _ (motive := fun a : State => a.storage.drives = s.storage.drives) rfl
      fun a ha x _ => (State.moveGranules_drives a _ _).trans ha
  rw [State.drive, h, State.drive]

/-- Nothing moves off a drive that holds nothing. -/
theorem State.granulesMoved_of_empty {s : State} {d : Nat} (h : s.driveHeld d = 0) : s.granulesMoved d = s := by
  have hnone : ∀ e ∈ s.storage.nss, (e.2.place.filter fun p => p.2 = d && !e.2.lost.contains p.1) = [] := fun e he => by
    have hz : e.2.onDrive d = 0 := List.sum_eq_zero_iff.mp h _ (List.mem_map_of_mem he)
    exact List.length_eq_zero_iff.mp hz
  refine List.foldlRecOn _ _ (motive := fun a : State => a = s) rfl fun a ha e he => ?_
  rw [hnone e he, ha]
  rfl

theorem State.sameMedia.driveHeld {t s : State} (h : t.sameMedia s) (d : Nat) : t.driveHeld d = s.driveHeld d := by
  rw [State.driveHeld, h.nss, State.driveHeld]

/-- A drive that is released, its granules moved. -/
def State.released (s : State) (d : Nat) : State :=
  ((s.granulesMoved d).setDrive d { (s.granulesMoved d).drive d with st := .present }).setMapCarve (driveHalf d)

theorem State.released_drive (s : State) (d e : Nat) :
    (s.released d).drive e = if e = d then { s.drive d with st := .present } else s.drive e := by
  rw [State.released, (State.setMapCarve_sameMedia _ _).drive, State.drive_setDrive, State.granulesMoved_drive,
    State.granulesMoved_drive]

theorem State.released_held (s : State) (d : Nat) : (s.released d).driveHeld d = (s.granulesMoved d).driveHeld d :=
  (State.setMapCarve_sameMedia _ _).driveHeld d

theorem State.retireDone_eq {s : State} {d : Nat} (h : (s.drive d).st = .retiring) :
    s.retireDone d = if (s.granulesMoved d).driveHeld d = 0 then s.released d else s := if_pos h

/-! ### The states of a namespace (R315, R333, R360) -/

theorem State.rebuildDone_ready {s : State} {id : Nat} (hst : (s.ns id).st = .recovering) (hrun : s.running = true)
    (hs : (s.half (s.ns id).home).stopped = false) (hm : s.mapHeld (s.ns id).home = true)
    (hk : (s.ns id).encrypt = false ∨ (mfind (s.half (s.ns id).home).cipher.xts (id - 1)).isSome = true) :
    s.rebuildDone id = s.setNs id { s.ns id with st := .ready } := by
  have hkey : ¬ (s.mapHeld (s.ns id).home = false
      ∨ ((s.ns id).encrypt = true ∧ (mfind (s.half (s.ns id).home).cipher.xts (id - 1)).isNone = true)) := by
    rcases hk with hk | hk
    · simp [hm, hk]
    · obtain ⟨y, hy⟩ := Option.isSome_iff_exists.mp hk
      simp [hm, hy]
  exact (if_pos ⟨hst, hrun, hs⟩).trans (if_neg hkey)

theorem State.rebuildDone_locked {s : State} {id : Nat} (hst : (s.ns id).st = .recovering) (hrun : s.running = true)
    (hs : (s.half (s.ns id).home).stopped = false)
    (hk : s.mapHeld (s.ns id).home = false
      ∨ (s.ns id).encrypt = true ∧ mfind (s.half (s.ns id).home).cipher.xts (id - 1) = none) :
    s.rebuildDone id = s.setNs id { s.ns id with st := .locked, lockedAt := s.time (s.ns id).home } :=
  (if_pos ⟨hst, hrun, hs⟩).trans (if_pos (hk.imp_right fun ⟨he, hn⟩ => ⟨he, Option.isNone_iff_eq_none.mpr hn⟩))

theorem State.rebuildDone_frame (s : State) (id : Nat) : ∃ x, s.rebuildDone id = s ∨ s.rebuildDone id = s.setNs id x := by
  unfold State.rebuildDone
  extract_lets n
  split
  · split
    · exact ⟨_, .inr rfl⟩
    · exact ⟨_, .inr rfl⟩
  · exact ⟨s.ns id, .inl rfl⟩

/-! ### The key of a namespace (R255, R315) -/

/-- A key in the slot of a namespace in its home half. -/
def State.xtsPut (s : State) (id : Nat) (key : BitVec 512) : State :=
  s.onHalf (s.ns id).home fun y => { y with cipher := { y.cipher with xts := mput y.cipher.xts (id - 1) key } }

/-- A namespace keyed: one that waited for its key alone is ready. -/
def State.nsKeyed (s : State) (id : Nat) (key : BitVec 512) : State :=
  if (s.ns id).st = .locked ∧ (s.xtsPut id key).mapHeld (s.ns id).home = true then
    (s.xtsPut id key).setNs id { s.ns id with st := .ready }
  else s.xtsPut id key

theorem State.onHalf_sameMedia (s : State) (h : Half) (f : HalfSt → HalfSt) : (s.onHalf h f).sameMedia s := by
  rw [State.sameMedia, State.onHalf_storage]
  exact ⟨rfl, rfl⟩

theorem State.onHalf_mapHeld (s : State) (h g : Half) (f : HalfSt → HalfSt) : (s.onHalf h f).mapHeld g = s.mapHeld g := by
  cases h <;> rfl

section
variable (s : State) (id : Nat) (key : BitVec 512)

theorem State.nsKeyed_cases :
    s.nsKeyed id key = s.xtsPut id key ∨ s.nsKeyed id key = (s.xtsPut id key).setNs id { s.ns id with st := .ready } := by
  unfold State.nsKeyed
  split
  · exact .inr rfl
  · exact .inl rfl

theorem State.nsKeyed_xtsKey : (s.nsKeyed id key).xtsKey id = key := by
  have hput : mget ((s.xtsPut id key).half (s.ns id).home).cipher.xts (id - 1) 0 = key := by
    rw [State.xtsPut, State.onHalf_half]
    simp
  have hhome : ((s.nsKeyed id key).ns id).home = (s.ns id).home := by
    rcases s.nsKeyed_cases id key with h | h
    · rw [h, State.xtsPut, (State.onHalf_sameMedia _ _ _).ns]
    · rw [h, State.ns_setNs, if_pos rfl]
  rw [State.xtsKey, hhome]
  rcases s.nsKeyed_cases id key with h | h
  · rw [h, hput]
  · rw [h]
    exact hput

theorem State.nsKeyed_of_ne {j : Nat} (hj : j ≠ id) : (s.nsKeyed id key).ns j = s.ns j := by
  have hput : (s.xtsPut id key).ns j = s.ns j := (State.onHalf_sameMedia _ _ _).ns j
  rcases s.nsKeyed_cases id key with h | h
  · rw [h, hput]
  · rw [h, State.ns_setNs, if_neg hj, hput]

theorem State.nsKeyed_ready (hl : (s.ns id).st = .locked) (hm : s.mapHeld (s.ns id).home = true) :
    ((s.nsKeyed id key).ns id).st = .ready := by
  have hheld : (s.xtsPut id key).mapHeld (s.ns id).home = true := (State.onHalf_mapHeld _ _ _ _).trans hm
  rw [State.nsKeyed, if_pos ⟨hl, hheld⟩, State.ns_setNs, if_pos rfl]

end

section
variable {s : State} {w : Who} {rec : BitVec 576} {kek : Nat} (hg : s.grants w 0xA400 0x0E (leBytes 72 rec.toNat) = true)
  (hid : (mfind s.storage.nss (s.nsSel w.sess)).isSome = true) (hkek : s.unseal s.nv.store.kwk = some kek)
include hg hid hkek

theorem exec_nsKeyWrite (he : (s.ns (s.nsSel w.sess)).encrypt = true) (hu : Config.unwraps kek (leBytes 72 rec.toNat) = true)
    (hr : s.canReach (s.server w.sess) (s.ns (s.nsSel w.sess)).home = true) :
    exec (.nsKeyWrite w rec) s = .next (((s.accepted w).nsKeyed (s.nsSel w.sess)
      (BitVec.ofNat 512 (Config.unwrapped kek (leBytes 72 rec.toNat)))).emit (.resp w.sess rsOk [])) := by
  have hkek' : (s.accepted w).unseal (s.accepted w).nv.store.kwk = some kek := hkek
  refine State.write_done hg rfl (by rw [State.nsSel_accepted]; exact hid) ?_
  simp only [State.nsSel_accepted, hkek']
  refine (if_neg ?_).trans rfl
  rintro (h | h | h)
  · exact Bool.false_ne_true (h.symm.trans he)
  · exact Bool.false_ne_true (h.symm.trans hu)
  · exact Bool.false_ne_true (h.symm.trans hr)

theorem exec_nsKeyWrite_refused
    (hno : (s.ns (s.nsSel w.sess)).encrypt = false ∨ Config.unwraps kek (leBytes 72 rec.toNat) = false) :
    exec (.nsKeyWrite w rec) s = .next ((s.accepted w).emit (.resp w.sess rsRefused [])) := by
  have hkek' : (s.accepted w).unseal (s.accepted w).nv.store.kwk = some kek := hkek
  refine State.write_refused hg rfl (by rw [State.nsSel_accepted]; exact hid) ?_
  simp only [State.nsSel_accepted, hkek']
  exact if_pos (hno.imp_right .inl)

end

/-! ### The counters of the storage queues (R342) -/

/-- The counters of the storage units that a mask names, cleared. -/
def State.stqCleared (s : State) (v : Nat) : State := s.forMask v fun a h => a.clearIndex (0x6700 + h.num)

theorem exec_stqCntClear {s : State} {w : Who} {v : BitVec 8} (hg : s.grants w 0xA400 0x0F [v] = true)
    (hv : s.maskOk w.sess v.toNat = true) :
    exec (.stqCntClear w v) s = .next (((s.accepted w).stqCleared v.toNat).emit (.resp w.sess rsOk [])) := by
  have hbyte : leBytes 1 v.toNat = [v] := by simp [leBytes]
  exact State.write_done (hbyte ▸ hg) rfl rfl (if_pos hv)

theorem State.cnt_clearIndex (s : State) (index j : Nat) {i : Nat} (hi : i < 256) :
    (s.clearIndex index).cnt j i = if j = index then 0 else s.cnt j i := by
  have hdrop : (s.clearIndex index).cnt j i
      = if (j * 256 + i) / 256 == index then 0 else mget s.stat (j * 256 + i) 0 :=
    mget_mdrop (fun k => k / 256 == index) s.stat (j * 256 + i) 0
  have hj : (j * 256 + i) / 256 = j := by omega
  rw [hdrop, hj, State.cnt]
  simp

theorem State.cnt_stqCleared (s : State) {v i : Nat} {h : Half} (hh : inMask v h = true) (hi : i < 256) :
    (s.stqCleared v).cnt (0x6700 + h.num) i = 0 := by
  simp only [State.stqCleared, State.forMask]
  cases h with
  | k =>
    rw [if_pos hh]
    split
    · rw [State.cnt_clearIndex _ _ _ hi, State.cnt_clearIndex _ _ _ hi, if_pos rfl, ite_self]
    · rw [State.cnt_clearIndex _ _ _ hi, if_pos rfl]
  | q => rw [if_pos hh, State.cnt_clearIndex _ _ _ hi, if_pos rfl]

theorem State.stqCleared_quiet (s : State) (v : Nat) : (s.stqCleared v).quiet = s.quiet := by
  simp only [State.stqCleared, State.forMask]
  split
  · split <;> rfl
  · split <;> rfl

/-- Settles O45, a command at a time: drives and namespaces by what each command leaves of them. -/
theorem drivesAndNamespaceKeys : Obligations.DrivesAndNamespaceKeys := by
  unfold Obligations.DrivesAndNamespaceKeys
  refine ⟨fun s d => ⟨s.driveLoss d.val, rfl, fun e he => State.driveLoss_of_ne he, State.driveLoss_absent,
      fun h => ?lost, fun h => ?gone⟩,
    fun s p x hrun hr hp => ⟨_, exec_rootPortLinkUp hrun hr hp x, ?linkUp⟩,
    fun s w hg hd => ⟨_, rfl, fun hst hr hroom => ?admission, fun hno => ?admitRefused⟩,
    fun s w hg hd => ⟨_, rfl, fun hst hr hfit => ?retire, fun hno => ?retireRefused⟩,
    fun s d h => ⟨s.retireDone d.val, rfl, ?retireDone⟩,
    fun s id hst hrun hs => ⟨s.rebuildDone id, rfl, fun hm hk => ?rebuilt, fun hk => ?locked, ?rebuildFrame⟩,
    fun s w rec kek hg hid hkek => ⟨_, rfl, fun he hu hr => ?keyed, fun hno => ?keyRefused⟩,
    fun s w v hg hv => ⟨_, exec_stqCntClear hg hv, State.emit_answered _ _ _ _, State.stqCleared_quiet _ _,
      fun h i hh hi => State.cnt_stqCleared _ hh hi⟩⟩
  case lost =>
    have hm := State.driveLoss_pool h
    have hns : ∀ id, (s.driveLoss d.val).ns id = (s.ns id).loseDrive d.val := fun id =>
      (hm.ns id).trans (s.ns_driveLost d.val id)
    refine ⟨by rw [hm.drive, State.drive_driveLost, if_pos rfl], fun id g hg => ?_, fun id g hg => ?_, fun id => ?_⟩
    · have hlost := (s.ns id).lost_loseDrive hg
      rw [hns]
      refine ⟨by rw [Ns.mapped, hlost]; simp, fun hl => ?_⟩
      have hl' : ((s.ns id).loseDrive d.val).latest g = none := hl
      rw [Ns.unreadable, hlost, hl']
      simp
    · rw [hns]
      exact (s.ns id).lost_mono d.val hg
    · rw [hns]
      exact ⟨rfl, rfl⟩
  case gone =>
    rw [State.driveLoss_outside h]
    exact ⟨State.drive_setDrive_self _ _ _, rfl⟩
  case linkUp =>
    obtain ⟨y, hy⟩ := State.drivePresent_frame (s := s.rootUp p) (p := p) (x := x)
    refine ⟨?_, fun r hr' => ?_, fun hst => ?_, fun hst => ?_, fun e he => State.drivePresent_of_ne he, ?_⟩
    · rw [hy]
      exact congrArg Port.up (State.port_setPort_self s p.val _)
    · rw [hy]
      exact State.port_setPort_of_ne hr' s _
    · have hfresh : ¬ ((s.drive (p.val * 16 + x.slot.val)).st = .admitted ∨ (s.drive (p.val * 16 + x.slot.val)).st = .retiring) := by
        rcases hst with h | h | h <;> simp [h]
      rw [State.drivePresent_fresh (s := s.rootUp p) hfresh, State.drive_setDrive_self]
    · rw [State.drivePresent_inPool (s := s.rootUp p) hst]
      rfl
    · rw [hy]
      rfl
  case admission =>
    rw [exec_unique rfl (exec_driveAdmit hg hd hst hr hroom)]
    have hm := (s.accepted w).admitted_sameMedia (s.driveSel w.sess)
    exact ⟨State.emit_answered _ _ _ _, (hm.drive _).trans (State.drive_setDrive_self _ _ _),
      fun e he => (hm.drive e).trans (State.drive_setDrive_of_ne he _ _), hm.nss⟩
  case admitRefused =>
    rw [exec_unique rfl (exec_driveAdmit_refused hg hd hno)]
    exact ⟨State.emit_answered _ _ _ _, rfl⟩
  case retire =>
    rw [exec_unique rfl (exec_driveRetire hg hd hst hr hfit)]
    exact ⟨State.emit_answered _ _ _ _, State.drive_setDrive_self _ _ _, fun e he => State.drive_setDrive_of_ne he _ _, rfl⟩
  case retireRefused =>
    rw [exec_unique rfl (exec_driveRetire_refused hg hd hno)]
    exact ⟨State.emit_answered _ _ _ _, rfl⟩
  case retireDone =>
    rw [State.retireDone_eq h]
    split
    · next hempty =>
      have hst : ((s.released d.val).drive d.val).st = .present := by rw [State.released_drive, if_pos rfl]
      exact ⟨fun e he => by rw [State.released_drive, if_neg he], fun _ => hst,
        fun _ => (s.released_held d.val).trans hempty, .inr hst⟩
    · next hheld =>
      refine ⟨fun _ _ => rfl, fun hz => absurd ?_ hheld, fun hp => ?_, .inl h⟩
      · rw [State.granulesMoved_of_empty hz, hz]
      · rw [h] at hp
        exact absurd hp (by decide)
  case rebuilt => rw [State.rebuildDone_ready hst hrun hs hm hk, State.ns_setNs, if_pos rfl]
  case locked => rw [State.rebuildDone_locked hst hrun hs hk, State.ns_setNs, if_pos rfl]
  case rebuildFrame =>
    obtain ⟨x, h | h⟩ := s.rebuildDone_frame id
    · rw [h]
      exact ⟨fun _ _ => rfl, rfl⟩
    · rw [h]
      exact ⟨fun j hj => by rw [State.ns_setNs, if_neg hj], rfl⟩
  case keyed =>
    rw [exec_unique rfl (exec_nsKeyWrite hg hid hkek he hu hr)]
    exact ⟨State.emit_answered _ _ _ _, State.nsKeyed_xtsKey (s.accepted w) (s.nsSel w.sess) _,
      State.nsKeyed_ready (s.accepted w) (s.nsSel w.sess) _,
      fun j hj => State.nsKeyed_of_ne (s.accepted w) (s.nsSel w.sess) _ hj⟩
  case keyRefused =>
    rw [exec_unique rfl (exec_nsKeyWrite_refused hg hid hkek hno)]
    exact ⟨State.emit_answered _ _ _ _, rfl⟩

end Sys2Proof.Machine
end

section
/-! SUPPORT. Writes and reads of a completion queue's frame, and the queue that they reach (04 R99, R100, R105). -/

namespace Sys2Proof.Machine
open Sys2Proof

/-! ### A completion queue replaced -/

@[simp] theorem State.cq_setCq_self (s : State) (k : Nat) (c : Cq) : (s.setCq k c).cq k = c := by simp [State.cq_setCq]

/-- Where the table of completion queues is that of another state with one queue replaced, every other queue reads as there. -/
theorem State.cq_of_cqs {t s : State} {k : Nat} {c : Cq} (h : t.cqs = (s.setCq k c).cqs) :
    t.cq k = c ∧ ∀ j, j ≠ k → t.cq j = s.cq j := by
  have hcq (j : Nat) : t.cq j = (s.setCq k c).cq j := congrArg (fun m : Map Cq => mget m j {}) h
  exact ⟨(hcq k).trans (State.cq_setCq_self s k c), fun j hj => by rw [hcq, State.cq_setCq, if_neg hj]⟩

/-! ### What gates and the ends of aborts leave unchanged (R119, R131) -/

/-- Steps that each leave one part of the state as it is, taken one after another. -/
theorem State.foldl_unchanged {α β : Type} {part : State → β} {f : State → α → State} (hf : ∀ a x, part (f a x) = part a)
    (l : List α) (s : State) : part (l.foldl f s) = part s :=
  List.foldlRecOn (motive := fun a => part a = part s) l f rfl fun a ha x _ => (hf a x).trans ha

/-- The work queues and completion queues of a state. -/
def State.queueTables (s : State) : Map Wq × Map Cq := (s.wqs, s.cqs)

theorem State.raiseCopyFault_queueTables (s : State) (ch : Nat) : (s.raiseCopyFault ch).queueTables = s.queueTables :=
  Prod.ext (State.vectorDue_onlyIrq _ _ _ _).wqs (State.vectorDue_cqs _ _ _ _)

theorem State.evalGate_queueTables (s : State) (ch : Nat) : (s.evalGate ch).queueTables = s.queueTables := by
  simp only [State.evalGate]
  split
  · split
    · rfl
    · split
      · rfl
      · exact State.raiseCopyFault_queueTables _ _
  · rfl

/-- Gates that follow the fill of their queues change no queue. -/
theorem State.evalGates_queueTables (s : State) : s.evalGates.queueTables = s.queueTables := by
  rw [State.evalGates, State.foldl_unchanged State.evalGate_queueTables]

theorem State.evalGates_wqs (s : State) : s.evalGates.wqs = s.wqs := congrArg Prod.fst s.evalGates_queueTables
theorem State.evalGates_cqs (s : State) : s.evalGates.cqs = s.cqs := congrArg Prod.snd s.evalGates_queueTables

theorem State.setQueue_cqs (s : State) (q : Nat) (w : Wq) : (s.setQueue q w).cqs = s.cqs := by
  unfold State.setQueue
  simp only [apply_ite State.cqs, State.setWq_cqs, State.setQp_cqs, ite_self]

theorem State.closeAbort_cqs (s : State) (q : Nat) : (s.closeAbort q).cqs = s.cqs := by
  unfold State.closeAbort
  split
  · exact State.setQueue_cqs _ _ _
  · split <;> rfl

/-! ### Commands that reach a completion queue's frame -/

/-- A completion queue enabled by a function for a slice: it is empty (R100). -/
def Cq.enabled (c : Cq) (fk sl : Nat) : Cq :=
  { c with
    enable := true, cfgErr := false, faulted := false, head := 0, tail := 0, reserved := 0, u := 0, due := false,
    waitq := [], heldCpl := [], fn := fk, slice := sl }

/-- A completion queue disabled: what it held in CQ_FAULT is discarded (R100). -/
def Cq.disabled (c : Cq) : Cq :=
  { c with enable := false, faulted := false, heldCpl := [], reserved := 0, u := 0, due := false, waitq := [] }

/-- Discarded completions of aborts close their queues' aborts (R100, R119). -/
def State.closeAborts (s : State) (xs : List HeldCpl) : State := (xs.filter (·.abort)).foldl (fun a x => a.closeAbort x.queue) s

theorem State.closeAborts_cqs (s : State) (xs : List HeldCpl) : (s.closeAborts xs).cqs = s.cqs :=
  State.foldl_unchanged (fun a (x : HeldCpl) => a.closeAbort_cqs x.queue) _ s

/-- A function with no completion left to write writes none. -/
theorem State.tryDue_cqs {s : State} {fk : Nat} (hd : (s.fn fk).due = []) : (s.tryDue fk).cqs = s.cqs := by
  rw [State.tryDue, hd, State.drainDue, State.setFn_cqs]

section
variable {s : State} {q : QRef} {h : Half} {e sl : Nat} (hr : s.reachesFrame q 1 h e sl = true)
include hr

/-- A HEAD that would pass TAIL or move backward (R105). -/
theorem exec_cqHeadWrite_ignored {v : BitVec 16}
    (hv : dist (s.cq (cqFrameKey q h e)).head (s.cq (cqFrameKey q h e)).tail < dist (s.cq (cqFrameKey q h e)).head v) :
    exec (.cqHeadWrite q v) s =
      .next (s.setCq (cqFrameKey q h e) { s.cq (cqFrameKey q h e) with headErr := true }) := by
  show Host.Outcome.next (s.onFrame q 1 _) = _
  rw [State.onFrame_eq hr]
  simp only [State.cqHead, if_neg (Nat.not_le.mpr hv)]

theorem exec_cqHeadWrite_taken {v : BitVec 16}
    (hv : dist (s.cq (cqFrameKey q h e)).head v ≤ dist (s.cq (cqFrameKey q h e)).head (s.cq (cqFrameKey q h e)).tail) :
    exec (.cqHeadWrite q v) s =
      .next ((s.setCq (cqFrameKey q h e) { s.cq (cqFrameKey q h e) with head := v }).tryDue
        (s.cq (cqFrameKey q h e)).fn) := by
  show Host.Outcome.next (s.onFrame q 1 _) = _
  rw [State.onFrame_eq hr]
  simp only [State.cqHead, if_pos hv]

theorem exec_cqEnable (hen : (s.cq (cqFrameKey q h e)).enable = false) (hlog : 4 ≤ (s.cq (cqFrameKey q h e)).logSize) :
    exec (.cqEnable q) s =
      .next (s.setCq (cqFrameKey q h e) ((s.cq (cqFrameKey q h e)).enabled (s.frameFn q sl) sl)).evalGates := by
  show Host.Outcome.next (s.onFrame q 1 _) = _
  rw [State.onFrame_eq hr, State.cqEnable, hen, if_neg Bool.false_ne_true, if_neg (Nat.not_lt.mpr hlog)]
  rfl

/-- A CQ to which an enabled queue is bound is not disabled (R100). -/
theorem exec_cqDisable_bound (hb : s.cqBound (cqFrameKey q h e) = true) : exec (.cqDisable q) s = .next s := by
  show Host.Outcome.next (s.onFrame q 1 _) = _
  rw [State.onFrame_eq hr]
  simp only [State.cqDisable, if_pos (Or.inr hb)]

theorem exec_cqDisable_free (hen : (s.cq (cqFrameKey q h e)).enable = true) (hb : s.cqBound (cqFrameKey q h e) = false) :
    exec (.cqDisable q) s =
      .next ((s.setCq (cqFrameKey q h e) (s.cq (cqFrameKey q h e)).disabled).closeAborts
        (s.cq (cqFrameKey q h e)).heldCpl).evalGates := by
  show Host.Outcome.next (s.onFrame q 1 _) = _
  have hno : ¬ ((s.cq (cqFrameKey q h e)).enable = false ∨ s.cqBound (cqFrameKey q h e) = true) := by simp [hen, hb]
  rw [State.onFrame_eq hr]
  simp only [State.cqDisable, if_neg hno]
  rfl

theorem exec_cqCfgWrite (cfg md : BitVec 32) :
    exec (.cqCfgWrite q cfg md) s =
      .next (s.setCq (cqFrameKey q h e) ((s.cq (cqFrameKey q h e)).configure cfg md)) :=
  congrArg Host.Outcome.next (State.onFrame_eq hr _)

theorem exec_cqNoslotRead :
    exec (.cqNoslotRead q) s =
      .next ((s.setCq (cqFrameKey q h e) { s.cq (cqFrameKey q h e) with noslot := 0 }).emit
        (.read (s.cq (cqFrameKey q h e)).noslot)) :=
  congrArg Host.Outcome.next (State.readFrame_eq hr _)

end

/-- Settles O14: every command of the frame replaces the one completion queue that it reaches; the gates that follow an enable or a
disable, and the aborts that a disable closes, change no completion queue. -/
theorem completionQueueRegisters : Obligations.CompletionQueueRegisters := by
  unfold Obligations.CompletionQueueRegisters
  refine ⟨fun s q v h e sl hr hv => ?ignored, fun s q v h e sl hr hv hd => ?taken, fun s q h e sl hr hen hlog => ?enable,
    fun s q h e sl hr hen => ?disable, fun s q cfg md h e sl hr => ?config, fun s q h e sl hr => ?noslot⟩
  case ignored =>
    obtain ⟨hcq, hframe⟩ := State.cq_of_cqs rfl
    exact ⟨_, exec_cqHeadWrite_ignored hr hv, hcq, hframe, rfl⟩
  case taken =>
    exact ⟨_, exec_cqHeadWrite_taken hr hv, State.cq_of_cqs (State.tryDue_cqs hd)⟩
  case enable =>
    obtain ⟨hcq, hframe⟩ := State.cq_of_cqs (State.evalGates_cqs
      (s.setCq (cqFrameKey q h e) ((s.cq (cqFrameKey q h e)).enabled (s.frameFn q sl) sl)))
    refine ⟨_, exec_cqEnable hr hen hlog, ?_⟩
    rw [hcq]
    exact ⟨rfl, rfl, rfl, rfl, rfl, rfl, hframe, State.evalGates_wqs _⟩
  case disable =>
    cases hb : s.cqBound (cqFrameKey q h e) with
    | true => exact ⟨s, exec_cqDisable_bound hr hb, fun _ => rfl, fun hf => absurd hf (by decide)⟩
    | false =>
      obtain ⟨hcq, hframe⟩ := State.cq_of_cqs ((State.evalGates_cqs _).trans (State.closeAborts_cqs
        (s.setCq (cqFrameKey q h e) (s.cq (cqFrameKey q h e)).disabled) (s.cq (cqFrameKey q h e)).heldCpl))
      refine ⟨_, exec_cqDisable_free hr hen hb, fun hf => absurd hf (by decide), fun _ => ?_⟩
      rw [hcq]
      exact ⟨rfl, rfl, rfl, hframe⟩
  case config =>
    obtain ⟨hcq, hframe⟩ := State.cq_of_cqs (s := s) (k := cqFrameKey q h e)
      (c := (s.cq (cqFrameKey q h e)).configure cfg md) rfl
    refine ⟨_, exec_cqCfgWrite hr cfg md, ?_⟩
    rw [hcq]
    refine ⟨rfl, ?_, rfl, ?_, fun hen => if_pos hen, fun hen => if_neg (by simp [hen]), rfl, rfl, hframe, rfl⟩
    all_goals exact congrArg (· % _) (Nat.div_one _)
  case noslot =>
    obtain ⟨hcq, hframe⟩ := State.cq_of_cqs rfl
    exact ⟨_, exec_cqNoslotRead hr, rfl, hcq, hframe, rfl⟩

end Sys2Proof.Machine
end

section
/-! SUPPORT. The registers of a copy channel, its fetches and its gate, and the channel that they reach (05 R122 to R126, R129, R131,
R132, R135). -/

namespace Sys2Proof.Machine
open Sys2Proof

/-! ### A copy channel replaced -/

@[simp] theorem State.chan_setChan_self (s : State) (ch : Nat) (x : Chan) : (s.setChan ch x).chan ch = x := by
  simp [State.chan_setChan]

/-- A channel replaced leaves the other channels and the rest of the state as they were. -/
theorem State.setChan_frame (s : State) (ch : Nat) (x : Chan) :
    (∀ k, k ≠ ch → (s.setChan ch x).chan k = s.chan k) ∧ { s.setChan ch x with chans := s.chans } = s :=
  ⟨fun _ hk => by rw [State.chan_setChan, if_neg hk], rfl⟩

/-- A read that replaces a channel leaves the other channels and the rest of the state but the outputs. -/
theorem State.emit_setChan_frame (s : State) (ch : Nat) (x : Chan) (o : Output) :
    ((s.setChan ch x).emit o).chan ch = x ∧ (∀ k, k ≠ ch → ((s.setChan ch x).emit o).chan k = s.chan k)
      ∧ { (s.setChan ch x).emit o with chans := s.chans, out := s.out } = s :=
  ⟨s.chan_setChan_self ch x, (s.setChan_frame ch x).1, by rfl⟩

theorem State.chan_of_chans {t s : State} (h : t.chans = s.chans) (ch : Nat) : t.chan ch = s.chan ch :=
  congrArg (fun m : Map Chan => mget m ch {}) h

/-- An access through the BAR0 of a port's PF3 that is reached is acted on. -/
theorem State.access_of_reachesChan {s : State} {p : Fin 4} (hr : s.reachesChan p = true) (f : State → State) :
    s.access (fnKey p.val 3) f = f s := by
  simp only [State.reachesChan, Bool.and_eq_true, Bool.not_eq_true'] at hr
  exact State.access_eq hr.1 hr.2 f

theorem chanKey_port (p : Fin 4) (c : Fin 64) : chanKey p c / 64 = p.val := by
  simp only [chanKey]
  omega

theorem chanKey_num (p : Fin 4) (c : Fin 64) : chanKey p c % 64 = c.val := by
  simp only [chanKey]
  omega

/-! ### What the end of an abort leaves unchanged of the channels (R118, R119) -/

/-- Every copy channel reads as in another state, but for its open abort. -/
def State.sameChans (t s : State) : Prop := ∀ ch, { t.chan ch with abort := none } = { s.chan ch with abort := none }

theorem State.sameChans.trans {t u s : State} (h1 : t.sameChans u) (h2 : u.sameChans s) : t.sameChans s :=
  fun ch => (h1 ch).trans (h2 ch)

theorem State.sameChans_of_chans {t s : State} (h : t.chans = s.chans) : t.sameChans s :=
  fun ch => by rw [State.chan_of_chans h]

theorem State.onlyIrq.chans {t s : State} (h : t.onlyIrq s) : t.chans = s.chans := by rw [← h.eq]

theorem State.setQueue_chans (s : State) (q : Nat) (w : Wq) : (s.setQueue q w).chans = s.chans := by
  unfold State.setQueue
  simp only [apply_ite State.chans, State.setWq_chans, State.setQp_chans, ite_self]

theorem State.closeAbort_sameChans (s : State) (q : Nat) : (s.closeAbort q).sameChans s := by
  unfold State.closeAbort
  split
  · exact State.sameChans_of_chans (State.setQueue_chans _ _ _)
  · split
    · intro ch
      rw [State.chan_setChan]
      split
      · next hch => rw [hch]
      · rfl
    · exact State.sameChans_of_chans rfl

theorem State.writeCpl_sameChans (s : State) (x : HeldCpl) : (s.writeCpl x).sameChans s := by
  simp only [State.writeCpl]
  have hb := State.sameChans_of_chans ((State.blotter_onlyIrq
    ((s.setCq x.cq { s.cq x.cq with tail := (s.cq x.cq).tail + 1, reserved := (s.cq x.cq).reserved - 1 }).emit
      (.cqe x.cq (s.cq x.cq).tail (cqPhase (s.cq x.cq)) x.e (s.time (portHalf (keyPort (s.cq x.cq).fn))))) x.cq).chans)
  split
  · exact (State.closeAbort_sameChans _ _).trans hb
  · exact hb

/-- A completion whose write can be issued is held or written. -/
theorem State.produce_sameChans (s : State) (x : HeldCpl) : (s.produce x true).sameChans s := by
  simp only [State.produce, if_true]
  split
  · exact State.sameChans_of_chans rfl
  · split
    · exact State.sameChans_of_chans rfl
    · exact s.writeCpl_sameChans x

theorem State.drainDue_sameChans (fk : Nat) (todo : List HeldCpl) :
    ∀ (s : State) (kept : List HeldCpl), (s.drainDue fk todo kept).sameChans s := by
  induction todo with
  | nil => exact fun s kept => State.sameChans_of_chans rfl
  | cons x rest ih =>
    intro s kept
    unfold State.drainDue
    split
    · exact (ih _ _).trans ((State.produce_sameChans _ x).trans (State.sameChans_of_chans rfl))
    · exact ih _ _

theorem State.endChanAbort_sameChans (s : State) (ch status : Nat) : (s.endChanAbort ch status).sameChans s := by
  unfold State.endChanAbort
  split
  · exact State.sameChans_of_chans rfl
  · split
    · exact State.sameChans_of_chans rfl
    · exact (State.drainDue_sameChans _ _ _ _).trans (State.sameChans_of_chans rfl)

/-! ### Doorbells, ENABLE and DISABLE (R90, R111, R122, R124) -/

/-- A channel whose doorbell is written: the new index is within the ring and not behind the last, or it is counted (R90). -/
def Chan.rung (x : Chan) (pi : BitVec 16) : Chan :=
  if x.st = .running ∧ dist x.oldest x.doorbell ≤ dist x.oldest pi ∧ dist x.oldest pi ≤ 2 ^ x.logSize then
    { x with doorbell := pi, stopped := false }
  else { x with dbIgnored := sat31 x.dbIgnored }

theorem State.cpyDoorbell_eq (s : State) (ch : Nat) (pi : BitVec 16) :
    s.cpyDoorbell ch pi = s.setChan ch ((s.chan ch).rung pi) :=
  (apply_ite (s.setChan ch) _ _ _).symm

/-- A channel enabled: it runs from its published head (R111, R124). -/
def Chan.enabled (x : Chan) : Chan :=
  { x.discard with st := .running, cfgErr := false, watchLost := false, gate := false, lastDone := none, stopped := false,
                   doorbell := x.head }

/-- A channel that is not PACED has no gate to evaluate (R131). -/
theorem State.evalGate_unpaced {s : State} {ch : Nat} (hp : (s.chan ch).paced = false) : s.evalGate ch = s := by
  simp [State.evalGate, hp]

theorem State.cpyEnable_eq {s : State} {ch : Nat} (hst : (s.chan ch).st = .disabled) (hp : (s.chan ch).paced = false)
    (hlog : 4 ≤ (s.chan ch).logSize) (hcq : (s.cq (chanCq ch)).enable = true) :
    s.cpyEnable ch = s.setChan ch (s.chan ch).enabled := by
  simp only [State.cpyEnable]
  rw [if_neg (by simp [hst]), if_neg (by simp [hp, hcq]; omega), State.evalGate_unpaced (by rw [State.chan_setChan_self]; exact hp)]
  rfl

/-- A draining channel with no started descriptor left is DISABLED; nothing else of it changes but its open abort. -/
theorem State.chanDrained_chan {s : State} {ch : Nat} (hst : (s.chan ch).st = .draining) :
    { (s.chanDrained ch).chan ch with abort := none } =
      { s.chan ch with abort := none, st := if (s.chan ch).run.isSome then .draining else .disabled } := by
  simp only [State.chanDrained, hst, if_true]
  by_cases hrun : (s.chan ch).run.isSome = true
  · rw [if_pos hrun, if_pos hrun, ← hst]
  · rw [if_neg hrun, if_neg hrun, State.chan_of_chans (State.shadow_onlyIrq _ _ _ _ _).chans, State.chan_setChan_self]
    exact congrArg (fun x : Chan => { x with st := .disabled }) (State.endChanAbort_sameChans s ch stNotFound ch)

/-- A running channel whose ENABLE is cleared discards its unstarted descriptors and drains. -/
theorem State.cpyDisable_chan {s : State} {ch : Nat} (hst : (s.chan ch).st = .running) :
    { (s.cpyDisable ch).chan ch with abort := none } =
      { (s.chan ch).discard with abort := none, st := if (s.chan ch).run.isSome then .draining else .disabled } := by
  rw [State.cpyDisable, if_pos hst, State.chanDrained_chan (by rw [State.chan_setChan_self]), State.chan_setChan_self]
  rfl

/-! ### Fetches and aborts (R118, R125, R129) -/

/-- A channel whose fetched slot holds a descriptor, or stops it (R129). -/
def Chan.slotRead (x : Chan) (d : BitVec 256) : Chan :=
  if dOwn d then { x with fetchPt := x.fetchPt + 1, fetched := x.fetched ++ [(x.fetchPt, d)] } else { x with stopped := true }

/-- Without an open abort there is none to settle. -/
theorem State.settleChanAbort_none {s : State} {ch : Nat} (ha : (s.chan ch).abort = none) : s.settleChanAbort ch = s := by
  simp [State.settleChanAbort, ha]

/-- An abort of the descriptor in execution waits for its end. -/
theorem State.settleChanAbort_running {s : State} {ch : Nat} {a : Abort} {r : CopyRun} (ha : (s.chan ch).abort = some a)
    (hf : (s.chan ch).fetched = []) (hr : (s.chan ch).run = some r) (hi : r.index = a.index) (ht : dTag r.headDesc = a.tag) :
    s.settleChanAbort ch = s := by
  simp [State.settleChanAbort, ha, hf, hr, hi, ht]

theorem State.cpyFetch_eq {s : State} {ch : Nat} (hst : (s.chan ch).st = .running) (hm : s.mastering (chanFn ch) = true)
    (hw : s.forwards (chanHalfOf ch) = true) (hs : (s.chan ch).stopped = false) (hl : (s.chan ch).fetched.length < 16)
    (hd : (s.chan ch).fetchPt ≠ (s.chan ch).doorbell) (ha : (s.chan ch).abort = none) (d : BitVec 256) :
    s.cpyFetch ch (some d) = s.setChan ch ((s.chan ch).slotRead d) := by
  simp only [State.cpyFetch, Chan.slotRead]
  rw [if_neg (by simp [hst, hm, hw, hs, hd]; omega)]
  split
  · exact State.settleChanAbort_none (by rw [State.chan_setChan_self]; exact ha)
  · rfl

theorem State.cpyAbort_running {s : State} {ch : Nat} {a : Abort} {r : CopyRun} (hst : (s.chan ch).st = .running)
    (ha : (s.chan ch).abort = none) (hr : (s.chan ch).run = some r) (hi : r.index = a.index) (ht : dTag r.headDesc = a.tag)
    (hf : (s.chan ch).fetched = []) : s.cpyAbort ch a = s.setChan ch { s.chan ch with abort := some a } := by
  simp only [State.cpyAbort]
  rw [if_pos ⟨hst, ha⟩]
  refine State.settleChanAbort_running (a := a) (r := r) ?_ ?_ ?_ hi ht <;> rw [State.chan_setChan_self]
  · exact hf
  · exact hr

/-! ### Gates and fault bits (R126, R131, R132) -/

/-- A PACED channel whose watched queue holds `f`. -/
def Chan.filled (x : Chan) (f : Nat) : Chan :=
  { x with watchLost := false, fill := f, gate := if x.high ≤ f then true else if f ≤ x.low then false else x.gate }

/-- A PACED channel whose watched queue cannot be read. -/
def Chan.unwatched (x : Chan) : Chan := { x with watchLost := true, fill := 0, gate := false }

theorem State.evalGate_filled {s : State} {ch f : Nat} (hp : (s.chan ch).paced = true) (hst : (s.chan ch).st = .running)
    (hw : s.watchFill ch = some f) : s.evalGate ch = s.setChan ch ((s.chan ch).filled f) := by
  simp only [State.evalGate]
  rw [if_pos ⟨hp, hst⟩, hw]
  rfl

theorem State.evalGate_unwatched {s : State} {ch : Nat} (hp : (s.chan ch).paced = true) (hst : (s.chan ch).st = .running)
    (hw : s.watchFill ch = none) :
    s.evalGate ch = if (s.chan ch).watchLost then s.setChan ch (s.chan ch).unwatched
      else (s.setChan ch (s.chan ch).unwatched).raiseCopyFault ch := by
  simp only [State.evalGate]
  rw [if_pos ⟨hp, hst⟩, hw]
  rfl

theorem State.raiseCopyFault_chan (s : State) (ch k : Nat) : (s.raiseCopyFault ch).chan k = s.chan k :=
  State.chan_of_chans (State.vectorDue_onlyIrq _ _ _ _).chans k

theorem State.raiseCopyFault_bit (s : State) (ch : Nat) :
    ((s.raiseCopyFault ch).port (ch / 64)).cpyFault.getLsbD (ch % 64) = true := by
  have hlt : ch % 64 < 64 := Nat.mod_lt _ (by decide)
  rw [State.raiseCopyFault, (State.vectorDue_onlyIrq _ _ _ _).port, State.port_setPort_self]
  rw [BitVec.getLsbD_or, BitVec.getLsbD_ofNat, Nat.testBit_two_pow_self]
  simp [hlt]

/-- CPY_FAULTr holds the 16 bits from 16 × r on of a port's fault bits (R126). -/
theorem cpyFault_cleared_bit (x : BitVec 64) (r : Nat) (v : BitVec 32) {i : Nat} (hi : i < 64) :
    (x &&& ~~~ BitVec.ofNat 64 (v.toNat % 65536 * 2 ^ (16 * r))).getLsbD i =
      (x.getLsbD i && !(decide (i / 16 = r) && v.getLsbD (i % 16))) := by
  have hbit : (v.toNat % 2 ^ 16 * 2 ^ (16 * r)).testBit i = (decide (i / 16 = r) && v.getLsbD (i % 16)) := by
    rw [Nat.testBit_mul_two_pow, Nat.testBit_mod_two_pow, BitVec.testBit_toNat]
    by_cases hr : i / 16 = r
    · have hsub : i - 16 * r = i % 16 := by omega
      have hlt : i % 16 < 16 := Nat.mod_lt _ (by decide)
      have hle : 16 * r ≤ i := by omega
      simp [hr, hsub, hlt, hle]
    · have hout : 16 * r ≤ i → ¬ i - 16 * r < 16 := by omega
      by_cases hle : 16 * r ≤ i <;> simp [hr, hle, hout]
  have hmask : (BitVec.ofNat 64 (v.toNat % 65536 * 2 ^ (16 * r))).getLsbD i = (decide (i / 16 = r) && v.getLsbD (i % 16)) := by
    rw [BitVec.getLsbD_ofNat, ← hbit]
    simp [hi]
  rw [BitVec.getLsbD_and, BitVec.getLsbD_not, hmask]
  simp [hi]

/-! ### The commands -/

section
variable {s : State} {p : Fin 4} (hr : s.reachesChan p = true)
include hr

theorem exec_cpyDoorbell (c : Fin 64) (pi : BitVec 16) :
    exec (.cpyDoorbell p c pi) s = .next (s.setChan (chanKey p c) ((s.chan (chanKey p c)).rung pi)) :=
  congrArg Host.Outcome.next ((State.access_of_reachesChan hr _).trans (State.cpyDoorbell_eq _ _ _))

theorem exec_cpyEnable {c : Fin 64} (hst : (s.chan (chanKey p c)).st = .disabled) (hp : (s.chan (chanKey p c)).paced = false)
    (hlog : 4 ≤ (s.chan (chanKey p c)).logSize) (hcq : (s.cq (chanCq (chanKey p c))).enable = true) :
    exec (.cpyEnable p c) s = .next (s.setChan (chanKey p c) (s.chan (chanKey p c)).enabled) :=
  congrArg Host.Outcome.next ((State.access_of_reachesChan hr _).trans (State.cpyEnable_eq hst hp hlog hcq))

theorem exec_cpyDisable (c : Fin 64) : exec (.cpyDisable p c) s = .next (s.cpyDisable (chanKey p c)) :=
  congrArg Host.Outcome.next (State.access_of_reachesChan hr _)

theorem exec_cpyAbort (c : Fin 64) (i tag atag : BitVec 16) :
    exec (.cpyAbort p c i tag atag) s = .next (s.cpyAbort (chanKey p c) { index := i, tag := tag, atag := atag }) :=
  congrArg Host.Outcome.next (State.access_of_reachesChan hr _)

theorem exec_cpyFaultClear (r : Fin 4) (v : BitVec 32) :
    exec (.cpyFaultClear p r v) s = .next (s.setPort p.val
      { s.port p.val with
        cpyFault := (s.port p.val).cpyFault &&& ~~~ BitVec.ofNat 64 (v.toNat % 65536 * 2 ^ (16 * r.val)) }) :=
  congrArg Host.Outcome.next (State.access_of_reachesChan hr _)

theorem exec_cpyChMalformedRead (c : Fin 64) :
    exec (.cpyChMalformedRead p c) s =
      .next ((s.setChan (chanKey p c) { s.chan (chanKey p c) with malformed := 0 }).emit
        (.read (s.chan (chanKey p c)).malformed)) :=
  congrArg Host.Outcome.next (State.access_of_reachesChan hr _)

theorem exec_cpyChDbIgnoredRead (c : Fin 64) :
    exec (.cpyChDbIgnoredRead p c) s =
      .next ((s.setChan (chanKey p c) { s.chan (chanKey p c) with dbIgnored := 0 }).emit
        (.read (s.chan (chanKey p c)).dbIgnored)) :=
  congrArg Host.Outcome.next (State.access_of_reachesChan hr _)

end

/-- Settles O15: every command replaces the one channel that it reaches, or clears bits of its port; DISABLE may also end an abort,
which changes nothing else of a channel, and a gate whose queue is lost raises the channel's fault bit. -/
theorem copyChannelRegisters : Obligations.CopyChannelRegisters := by
  unfold Obligations.CopyChannelRegisters
  refine ⟨fun s p c pi hr => ⟨_, exec_cpyDoorbell hr c pi, fun hst h1 h2 => ?taken, fun hst => ?ignored, State.setChan_frame _ _ _⟩,
    fun s p c hr hst hp hlog hcq => ?enable, fun s p c hr hst => ?disable,
    fun s p c d hst hm hw hs hl hd ha => ?fetch, fun s p c f hp hst hw => ?gate, fun s p c hp hst hw => ?lost,
    fun s p c i tag atag r hr hst ha hrun hi ht hf => ?abort, fun s p r v hr => ?faults, fun s p c hr => ⟨?malformed, ?counted⟩⟩
  case taken =>
    rw [State.chan_setChan_self, Chan.rung, if_pos ⟨hst, h1, h2⟩]
  case ignored =>
    rw [State.chan_setChan_self, Chan.rung, if_neg fun h => hst h.1]
  case enable =>
    refine ⟨_, exec_cpyEnable hr hst hp hlog hcq, ?_⟩
    rw [State.chan_setChan_self]
    exact ⟨rfl, rfl, rfl, rfl, rfl, State.setChan_frame _ _ _⟩
  case disable =>
    have hx := State.cpyDisable_chan hst
    have hstate := congrArg Chan.st hx
    refine ⟨_, exec_cpyDisable hr c, (congrArg Chan.fetched hx :), (congrArg Chan.fetchPt hx :), fun hrun => ?_, fun hrun => ?_⟩
    · exact hstate.trans (if_pos hrun)
    · exact hstate.trans (if_neg (by simp [hrun]))
  case fetch =>
    refine ⟨_, congrArg Host.Outcome.next (State.cpyFetch_eq hst hm hw hs hl hd ha d), fun hown => ?_, fun hown => ?_,
      State.setChan_frame _ _ _⟩ <;> rw [State.chan_setChan_self, Chan.slotRead]
    · exact if_pos hown
    · exact if_neg (by simpa [dOwn, bit] using hown)
  case gate =>
    refine ⟨_, congrArg Host.Outcome.next (State.evalGate_filled hp hst hw), ?_⟩
    rw [State.chan_setChan_self]
    refine ⟨rfl, rfl, fun hhigh => if_pos hhigh, fun hhigh hlow => ?_, fun hhigh hlow => ?_, State.setChan_frame _ _ _⟩
    · exact (if_neg (Nat.not_le.mpr hhigh)).trans (if_pos hlow)
    · exact (if_neg (Nat.not_le.mpr hhigh)).trans (if_neg (Nat.not_le.mpr hlow))
  case lost =>
    refine ⟨_, congrArg Host.Outcome.next (State.evalGate_unwatched hp hst hw), ?_⟩
    cases hl : (s.chan (chanKey p c)).watchLost with
    | true =>
      rw [if_pos rfl, State.chan_setChan_self]
      exact ⟨rfl, rfl, rfl, fun hf => absurd hf (by decide)⟩
    | false =>
      rw [if_neg (by decide), State.raiseCopyFault_chan, State.chan_setChan_self]
      refine ⟨rfl, rfl, rfl, fun _ => ?_⟩
      have hbit := State.raiseCopyFault_bit (s.setChan (chanKey p c) (s.chan (chanKey p c)).unwatched) (chanKey p c)
      rwa [chanKey_port, chanKey_num] at hbit
  case abort =>
    refine ⟨_, (exec_cpyAbort hr c i tag atag).trans
      (congrArg Host.Outcome.next (State.cpyAbort_running hst ha hrun hi ht hf)), ?_, State.setChan_frame _ _ _⟩
    rw [State.chan_setChan_self]
  case faults =>
    refine ⟨_, exec_cpyFaultClear hr r v, fun i hi => ?_, fun q hq => State.port_setPort_of_ne hq _ _, rfl⟩
    rw [State.port_setPort_self]
    exact cpyFault_cleared_bit _ _ _ hi
  case malformed => exact ⟨_, exec_cpyChMalformedRead hr c, rfl, State.emit_setChan_frame _ _ _ _⟩
  case counted => exact ⟨_, exec_cpyChDbIgnoredRead hr c, rfl, State.emit_setChan_frame _ _ _ _⟩

end Sys2Proof.Machine
end

section
/-! SUPPORT. The decisions of an arbiter, the base priorities of its requesters and their counters (05 R137, R138, R140 to R142). -/

namespace Sys2Proof.Machine
open Sys2Proof

/-! ### The winner of a decision (R138) -/

/-- A round robin among some requesters finds one of them. -/
theorem roundRobin_mem {rs : List Nat} (h : rs ≠ []) (frm : Nat) : ∃ w ∈ rs, roundRobin frm rs = some w := by
  unfold roundRobin
  cases hf : rs.find? (frm ≤ ·) with
  | some w => exact ⟨w, List.mem_of_find?_eq_some hf, rfl⟩
  | none => exact ⟨rs.head h, List.head_mem h, List.head?_eq_some_head h⟩

/-- The highest effective priority among some that take part is one of theirs. -/
theorem topPriority_mem {part : List (Nat × Nat)} (h : part ≠ []) :
    part.foldl (fun m e => Nat.max m e.2) 0 ∈ part.map Prod.snd
      ∧ ∀ v ∈ part.map Prod.snd, v ≤ part.foldl (fun m e => Nat.max m e.2) 0 := by
  obtain ⟨m, hm⟩ : ∃ m, (part.map Prod.snd).max? = some m :=
    Option.ne_none_iff_exists'.mp (mt List.max?_eq_none_iff.mp (mt List.map_eq_nil_iff.mp h))
  have htop : part.foldl (fun m e => Nat.max m e.2) 0 = m := by
    have hfold : (part.map Prod.snd).foldl max 0 = max 0 m := by rw [List.foldl_max, hm, Option.getD_some]
    rw [List.foldl_map, Nat.zero_max] at hfold
    exact hfold
  rw [htop]
  exact List.max?_eq_some_iff.mp hm

/-- Where some take part, the winner is one of them, of the highest effective priority. -/
theorem winner_highest {part : List (Nat × Nat)} (h : part ≠ []) (last : Nat) :
    ∃ w v, winner last part = some w ∧ (w, v) ∈ part ∧ ∀ e ∈ part, e.2 ≤ v := by
  obtain ⟨htop, hle⟩ := topPriority_mem h
  generalize hv : part.foldl (fun m e => Nat.max m e.2) 0 = v at htop hle
  obtain ⟨⟨a, b⟩, ha, rfl⟩ := List.mem_map.mp htop
  have hne : (part.filter fun e => e.2 = b).map Prod.fst ≠ [] :=
    List.ne_nil_of_mem (List.mem_map_of_mem (List.mem_filter.mpr ⟨ha, by simp⟩))
  obtain ⟨w, hw, hwin⟩ := roundRobin_mem hne last
  obtain ⟨⟨w', v⟩, hmem, rfl⟩ := List.mem_map.mp hw
  obtain ⟨hpart, hb⟩ := List.mem_filter.mp hmem
  obtain rfl : v = b := by simpa using hb
  refine ⟨w', v, ?_, hpart, fun e he => hle _ (List.mem_map_of_mem he)⟩
  rw [winner, hv]
  exact hwin

/-! ### A decision of an arbiter that grants by priority and age alone (R137, R138, R141) -/

@[simp] theorem State.arb_setArb_self (s : State) (kind inst : Nat) (a : Arb) : (s.setArb kind inst a).arb kind inst = a :=
  mget_mset_same _ _ _ _

/-- The requesters of an arbiter that take part in its next decision. -/
def State.arbPart (s : State) (kind inst : Nat) : Map Req :=
  (s.arb kind inst).reqs.filter fun e => e.2.waiting && s.reqOk kind inst e.1

theorem State.mem_arbPart {s : State} {kind inst : Nat} {e : Nat × Req} :
    e ∈ s.arbPart kind inst ↔ e ∈ (s.arb kind inst).reqs ∧ e.2.waiting = true ∧ s.reqOk kind inst e.1 = true := by
  simp [State.arbPart]

/-- Those requesters by number, with their effective priority. -/
def State.arbField (s : State) (kind inst : Nat) : List (Nat × Nat) :=
  (s.arbPart kind inst).map fun e => (e.1, s.effective kind inst e.1 e.2)

/-- A requester after a decision that `w` has won. -/
def State.decided (s : State) (kind inst w r : Nat) (x : Req) : Req :=
  if r = w then x.grant (s.time (arbHalf kind inst)) false
  else if (s.arbPart kind inst).any (·.1 = r) then x.lose else x

/-- An arbiter after a decision that `w` has won. -/
def State.arbGranted (s : State) (kind inst w : Nat) : Arb :=
  { s.arb kind inst with
    reqs := mmap (s.decided kind inst w) (s.arb kind inst).reqs, holder := some w, last := w + 1 }

/-- Without arrivals the requesters that wait take part, and no direction is preferred but at a host port. -/
theorem State.arbitrate_eq {kind : Nat} (hk : kind ≠ 1) (s : State) (inst : Nat) :
    s.arbitrate kind inst [] false = s.setArb kind inst
      (((winner (s.arb kind inst).last (s.arbField kind inst)).map (s.arbGranted kind inst)).getD
        { s.arb kind inst with holder := none }) := by
  have hne : (kind != 1) = true := by simpa using hk
  have hport : decide (kind = 1) = false := by simpa using hk
  have hfield : (((s.arb kind inst).reqs.filter fun e => e.2.waiting && s.reqOk kind inst e.1).map fun e =>
      (e.1, s.effective kind inst e.1 e.2)) = s.arbField kind inst := rfl
  simp only [State.arbitrate, List.filter_nil, List.foldl_nil, Bool.false_eq_true, if_false, hne, hport, Bool.true_or,
    Bool.and_true, Bool.false_and, List.filter_false, List.isEmpty_nil, if_true, hfield]
  cases winner (s.arb kind inst).last (s.arbField kind inst) <;> rfl

theorem exec_arbiterDecision {s : State} {kind inst : Nat} (hb : s.board.boot = .running) (he : arbExists kind inst = true)
    (h1 : kind ≠ 1) (h6 : kind ≠ 6) :
    exec (.arbiterDecision kind inst [] false) s = .next (s.setArb kind inst
      (((winner (s.arb kind inst).last (s.arbField kind inst)).map (s.arbGranted kind inst)).getD
        { s.arb kind inst with holder := none })) := by
  have hr : s.running = true := by simp [State.running, hb]
  rw [← State.arbitrate_eq h1]
  refine congrArg Host.Outcome.next ((if_neg ?_).trans (if_neg h6))
  simp [hr, he]

/-- With nobody waiting an arbiter grants nothing. -/
theorem State.arbField_of_none_waiting {s : State} {kind inst : Nat}
    (h : ∀ e ∈ (s.arb kind inst).reqs, e.2.waiting = false) : s.arbField kind inst = [] := by
  have hpart : s.arbPart kind inst = [] := List.filter_eq_nil_iff.mpr fun e he => by simp [h e he]
  rw [State.arbField, hpart, List.map_nil]

/-- Where some take part, one of them with the highest effective priority wins. -/
theorem State.arbField_winner {s : State} {kind inst : Nat} {e : Nat × Req} (he : e ∈ s.arbPart kind inst) (last : Nat) :
    ∃ w x, winner last (s.arbField kind inst) = some w ∧ (w, x) ∈ s.arbPart kind inst
      ∧ ∀ d ∈ s.arbPart kind inst, s.effective kind inst d.1 d.2 ≤ s.effective kind inst w x := by
  have hne : s.arbField kind inst ≠ [] := List.ne_nil_of_mem (List.mem_map_of_mem he)
  obtain ⟨w, v, hwin, hmem, hle⟩ := winner_highest hne last
  obtain ⟨⟨_, x⟩, hx, heq⟩ := List.mem_map.mp hmem
  cases heq
  exact ⟨_, x, hwin, hx, fun d hd => hle _ (List.mem_map_of_mem hd)⟩

/-- Every requester is listed after a decision as it has left it. -/
theorem State.mem_arbGranted {s : State} {kind inst : Nat} {e : Nat × Req} (he : e ∈ (s.arb kind inst).reqs) (w : Nat) :
    (e.1, s.decided kind inst w e.1 e.2) ∈ (s.arbGranted kind inst w).reqs :=
  List.mem_map_of_mem he

theorem State.decided_winner (s : State) (kind inst w : Nat) (x : Req) :
    s.decided kind inst w w x = x.grant (s.time (arbHalf kind inst)) false := if_pos rfl

theorem State.decided_loser {s : State} {kind inst w : Nat} {e : Nat × Req} (he : e ∈ s.arbPart kind inst) (hw : e.1 ≠ w) :
    s.decided kind inst w e.1 e.2 = e.2.lose :=
  (if_neg hw).trans (if_pos (List.any_eq_true.mpr ⟨e, he, by simp⟩))

/-! ### Priorities and counters of a requester (R140 to R142) -/

/-- A requester of an arbiter changed. -/
def State.onReq (s : State) (kind inst r : Nat) (f : Req → Req) : State :=
  s.setArb kind inst { s.arb kind inst with
    reqs := mset (s.arb kind inst).reqs r (f (mget (s.arb kind inst).reqs r {})) {} }

theorem State.req_onReq (s : State) (kind inst r : Nat) (f : Req → Req) :
    mget ((s.onReq kind inst r f).arb kind inst).reqs r {} = f (mget (s.arb kind inst).reqs r {}) := by
  rw [State.onReq, State.arb_setArb_self]
  exact mget_mset_same _ _ _ _

/-- A request that replaces an arbiter and is answered changes the arbiters alone. -/
theorem State.emit_setArb_quiet (s : State) (kind inst : Nat) (a : Arb) (o : Output) :
    { ((s.setArb kind inst a).emit o).quiet with arbs := s.arbs } = s.quiet := by
  rfl

@[simp] theorem State.arbSel_accepted (s : State) (w : Who) (ss : Session) : (s.accepted w).arbSel ss = s.arbSel ss :=
  State.sel_accepted _ _ _ _ _

@[simp] theorem State.reqSel_accepted (s : State) (w : Who) (ss : Session) : (s.accepted w).reqSel ss = s.reqSel ss :=
  State.sel_accepted _ _ _ _ _

/-- Accepting a request changes no selection of an arbiter or of its requester. -/
theorem State.arbSelOk_accepted (s : State) (w : Who) (ss : Session) (r : Nat) :
    (s.accepted w).arbSelOk ss r = s.arbSelOk ss r := by
  simp only [State.arbSelOk, State.arbSel_accepted]
  rfl

theorem exec_reqPriorityWrite {s : State} {w : Who} {v : BitVec 8} (hg : s.grants w 0x9000 5 (leBytes 1 v.toNat) = true)
    (hv : v.toNat ≤ 7) (hsel : s.arbSelOk w.sess (s.reqSel w.sess) = true) :
    exec (.reqPriorityWrite w v) s =
      .next (((s.accepted w).onReq (s.arbSel w.sess / 256) (s.arbSel w.sess % 256) (s.reqSel w.sess)
        fun r => { r with base := some v.toNat }).emit (.resp w.sess rsOk [])) := by
  refine State.write_done hg rfl ?_ ?_
  · rw [State.reqSel_accepted, State.arbSelOk_accepted, hsel]
  · simp only [if_neg (Nat.not_lt.mpr hv), State.arbSel_accepted, State.reqSel_accepted]

theorem exec_arbClear {s : State} {w : Who} {v : BitVec 16} (hg : s.grants w 0x9000 4 (leBytes 2 v.toNat) = true)
    (hv : v ≠ 0xFFFF) (hsel : s.arbSelOk w.sess v.toNat = true) :
    exec (.arbClear w v) s =
      .next (((s.accepted w).onReq (s.arbSel w.sess / 256) (s.arbSel w.sess % 256) v.toNat Req.cleared).emit
        (.resp w.sess rsOk [])) := by
  have hone : ¬ v.toNat = 0xFFFF := fun h => hv (BitVec.eq_of_toNat_eq h)
  refine State.write_done hg rfl ?_ ?_
  · rw [if_neg hone, State.arbSelOk_accepted, hsel]
  · simp only [if_neg hone, State.arbSel_accepted]

/-- Settles O17: the winner of a decision is one that takes part and whose effective priority none exceeds; a write of a base
priority and a clear change the one requester that they name. -/
theorem arbitersGrantByPriorityAndAge : Obligations.ArbitersGrantByPriorityAndAge := by
  unfold Obligations.ArbitersGrantByPriorityAndAge
  refine ⟨fun s kind inst hb he h1 h6 => ⟨_, exec_arbiterDecision hb he h1 h6, fun hnone => ?nobody, fun hsome => ?granted, rfl⟩,
    fun s w v hg hv hsel => ⟨_, exec_reqPriorityWrite hg hv hsel, State.emit_answered _ _ _ _, ?base, ?baseFrame⟩,
    fun s w v hg hv hsel => ⟨_, exec_arbClear hg hv hsel, State.emit_answered _ _ _ _, ?cleared, ?clearedFrame⟩⟩
  case nobody =>
    rw [State.arb_setArb_self, State.arbField_of_none_waiting hnone]
    rfl
  case granted =>
    obtain ⟨e, hmem, hwait, hok⟩ := hsome
    obtain ⟨w, x, hwin, hx, hle⟩ :=
      State.arbField_winner (State.mem_arbPart.mpr ⟨hmem, hwait, hok⟩) (s.arb kind inst).last
    obtain ⟨hxmem, hxwait, -⟩ := State.mem_arbPart.mp hx
    rw [State.arb_setArb_self, hwin]
    refine ⟨w, x, rfl, hxmem, hxwait, ?_, rfl, fun d hd hdw hdok => ?_⟩
    · rw [← State.decided_winner]
      exact State.mem_arbGranted hxmem w
    · have hpart := State.mem_arbPart.mpr ⟨hd, hdw, hdok⟩
      refine ⟨hle d hpart, fun hne => ⟨d.2.lose, ?_, rfl, hdw⟩⟩
      rw [← State.decided_loser hpart hne]
      exact State.mem_arbGranted hd w
  case base => exact State.req_onReq (s.accepted w) _ _ _ fun r => { r with base := some v.toNat }
  case baseFrame => exact (State.emit_setArb_quiet (s.accepted w) _ _ _ _).trans (s.accepted_quiet w)
  case cleared => exact State.req_onReq (s.accepted w) _ _ _ Req.cleared
  case clearedFrame => exact (State.emit_setArb_quiet (s.accepted w) _ _ _ _).trans (s.accepted_quiet w)

end Sys2Proof.Machine
end

section
/-! SUPPORT. What an end of an ETH_SEND and an event leave unchanged: all but the queues with their functions and slices, the outputs,
and of each half its leaf queues, its queue pairs and its log (04 R105, R111, R118, 06 R156, 16 R427). -/

namespace Sys2Proof.Machine
open Sys2Proof

/-! ### The state beside its queues -/

/-- A half without its leaf queues, its queue pairs and its log. -/
def HalfSt.besideQueues (x : HalfSt) : HalfSt := { x with tmgr := {}, rdma := {}, log := {} }

/-- The state without the queues, the functions, slices and ports that they belong to, and the outputs. -/
def State.besideQueues (s : State) : State :=
  { s with
    ports := [], fns := [], slices := [], wqs := [], cqs := [], chans := [], storage := {}, out := []
    k := s.k.besideQueues, q := s.q.besideQueues }

section
variable {t s : State} (h : t.besideQueues = s.besideQueues)
include h

theorem State.eth_of_besideQueues : t.eth = s.eth := (congrArg State.eth h :)
theorem State.stat_of_besideQueues : t.stat = s.stat := (congrArg State.stat h :)
theorem State.mgmt_of_besideQueues : t.mgmt = s.mgmt := (congrArg State.mgmt h :)

theorem State.half_of_besideQueues (g : Half) : (t.half g).besideQueues = (s.half g).besideQueues := by
  cases g
  · exact (congrArg State.k h :)
  · exact (congrArg State.q h :)

theorem State.flight_of_besideQueues (g : Half) : (t.half g).cls.flight = (s.half g).cls.flight :=
  (congrArg (fun x : HalfSt => x.cls.flight) (State.half_of_besideQueues h g) :)

theorem State.time_of_besideQueues (g : Half) : t.time g = s.time g :=
  (congrArg (fun x : HalfSt => x.gov.time) (State.half_of_besideQueues h g) :)

theorem State.cnt_of_besideQueues (i c : Nat) : t.cnt i c = s.cnt i c := by rw [State.cnt, State.stat_of_besideQueues h, State.cnt]

theorem State.ethPort_of_besideQueues (m : Nat) : t.ethPort m = s.ethPort m := by
  rw [State.ethPort, State.eth_of_besideQueues h, State.ethPort]

end

/-- A change of a half's queues or log. -/
theorem State.onHalf_besideQueues {s : State} {h : Half} {f : HalfSt → HalfSt}
    (hf : (f (s.half h)).besideQueues = (s.half h).besideQueues) : (s.onHalf h f).besideQueues = s.besideQueues := by
  cases h
  · exact congrArg (fun x => { s.besideQueues with k := x }) hf
  · exact congrArg (fun x => { s.besideQueues with q := x }) hf

theorem State.onlyIrq.besideQueues {t s : State} (h : t.onlyIrq s) : t.besideQueues = s.besideQueues := by
  rw [← h.eq]
  rfl

/-! ### Faults and events (R47, R112, R126, R427) -/

theorem State.logOn_besideQueues (s : State) (h : Half) {code cls unit sl action detail : Nat} (hc : cls < 3) :
    (s.logOn h code cls unit sl action detail).besideQueues = s.besideQueues := by
  simp only [State.logOn, if_pos hc]
  exact State.onHalf_besideQueues rfl

theorem State.log_besideQueues (s : State) {code cls unit action detail : Nat} (hc : cls < 3) :
    (s.log code cls unit action detail).besideQueues = s.besideQueues :=
  State.logOn_besideQueues _ _ hc

theorem State.raiseFault_besideQueues (s : State) (fk i kind n : Nat) :
    (s.raiseFault fk i kind n).besideQueues = s.besideQueues := by
  simp only [State.raiseFault]
  split
  · exact (State.vectorDue_onlyIrq _ _ _ _).besideQueues
  · rfl

theorem State.raiseCopyFault_besideQueues (s : State) (ch : Nat) : (s.raiseCopyFault ch).besideQueues = s.besideQueues := by
  simp only [State.raiseCopyFault, (State.vectorDue_onlyIrq _ _ _ _).besideQueues]
  rfl

theorem State.cqFault_besideQueues (s : State) (k : Nat) : (s.cqFault k).besideQueues = s.besideQueues := by
  simp only [State.cqFault]
  split
  · exact (State.raiseCopyFault_besideQueues _ _).trans (State.logOn_besideQueues _ _ (by decide))
  · exact (State.raiseFault_besideQueues _ _ _ _ _).trans (State.logOn_besideQueues _ _ (by decide))

/-! ### Completions (R105, R108, R112, R118, R119) -/

theorem State.setQp_besideQueues (s : State) (h : Half) (i : Nat) (x : Qp) : (s.setQp h i x).besideQueues = s.besideQueues :=
  State.onHalf_besideQueues rfl

theorem State.setQueue_besideQueues (s : State) (q : Nat) (w : Wq) : (s.setQueue q w).besideQueues = s.besideQueues := by
  unfold State.setQueue
  split
  · rfl
  · exact State.setQp_besideQueues _ _ _ _

theorem State.closeAbort_besideQueues (s : State) (q : Nat) : (s.closeAbort q).besideQueues = s.besideQueues := by
  unfold State.closeAbort
  split
  · exact State.setQueue_besideQueues _ _ _
  · split <;> rfl

theorem State.writeCpl_besideQueues (s : State) (x : HeldCpl) : (s.writeCpl x).besideQueues = s.besideQueues := by
  have hblotter := fun a : State => (State.blotter_onlyIrq a x.cq).besideQueues
  simp only [State.writeCpl]
  split
  · exact (State.closeAbort_besideQueues _ _).trans (hblotter _)
  · exact hblotter _

theorem State.produce_besideQueues (s : State) (x : HeldCpl) (canWrite : Bool) :
    (s.produce x canWrite).besideQueues = s.besideQueues := by
  simp only [State.produce]
  split
  · rfl
  · split
    · rfl
    · split
      · exact State.writeCpl_besideQueues s x
      · exact State.cqFault_besideQueues _ _

theorem State.drainDue_besideQueues (fk : Nat) (todo : List HeldCpl) :
    ∀ (s : State) (kept : List HeldCpl), (s.drainDue fk todo kept).besideQueues = s.besideQueues := by
  induction todo with
  | nil => exact fun s kept => rfl
  | cons x rest ih =>
    intro s kept
    unfold State.drainDue
    split
    · exact (ih _ _).trans (State.produce_besideQueues _ x true)
    · exact ih _ _

theorem State.endAbort_besideQueues (s : State) (q status : Nat) : (s.endAbort q status).besideQueues = s.besideQueues := by
  simp only [State.endAbort]
  split
  · rfl
  · split
    · rfl
    · exact State.drainDue_besideQueues _ _ _ _

theorem State.drained_besideQueues (s : State) (q : Nat) : (s.drained q).besideQueues = s.besideQueues := by
  have hshadow := fun (a : State) fk head st => (State.shadow_onlyIrq a fk q head st).besideQueues
  simp only [State.drained]
  split
  · rfl
  · split
    · rw [hshadow, State.setQueue_besideQueues, State.endAbort_besideQueues]
    · split
      · rw [hshadow, State.endAbort_besideQueues]
      · rfl

theorem State.finish_besideQueues (s : State) (q : Nat) (e : Entry) (status bytes qflags data : Nat) (canWrite : Bool) :
    (s.finish q e status bytes qflags data canWrite).besideQueues = s.besideQueues := by
  simp only [State.finish, State.drained_besideQueues]
  split
  · split
    · rw [State.endAbort_besideQueues, State.produce_besideQueues, State.setQueue_besideQueues]
    · rw [State.produce_besideQueues, State.setQueue_besideQueues]
  · rw [State.produce_besideQueues, State.setQueue_besideQueues]

/-! ### Ends of an ETH_SEND (R156) -/

theorem State.endSend_besideQueues (s : State) (f : Frame) (status qflags data : Nat) (canWrite : Bool) :
    (s.endSend f status qflags data canWrite).besideQueues = s.besideQueues := by
  simp only [State.endSend]
  split
  · split
    · exact State.finish_besideQueues _ _ _ _ _ _ _ _
    · rfl
  · rfl

/-- What has been sent stays sent. -/
theorem State.endSend_out (s : State) (f : Frame) (status qflags data : Nat) (canWrite : Bool) :
    s.out <:+ (s.endSend f status qflags data canWrite).out := by
  simp only [State.endSend]
  split
  · split
    · exact (State.finish_keeps (State.keeps_refl s) _ _ _ _ _ _ _).out
    · exact List.suffix_refl _
  · exact List.suffix_refl _

/-- Frames of the RDMA transport and copies of frames end no ETH_SEND. -/
theorem State.lostSend_of_no_entry {f : Frame} (hf : f.rdma = true ∨ f.mirrored = true) (s : State) : s.lostSend f = s :=
  if_neg fun h => hf.elim h.2.1 h.2.2

theorem State.lostSend_besideQueues (s : State) (f : Frame) : (s.lostSend f).besideQueues = s.besideQueues :=
  State.endSend_besideQueues _ _ _ _ _ _

theorem State.lostSends_besideQueues (s : State) (fs : List Frame) : (s.lostSends fs).besideQueues = s.besideQueues :=
  State.foldl_unchanged State.lostSend_besideQueues fs s

/-! ### The counters of a port (R162) -/

theorem State.cnt_countPort (s : State) (n sub k c : Nat) :
    (s.countPort n sub k).cnt (0x6100 + n) c = s.cnt (0x6100 + n) c + if c = sub then k else 0 := by
  have hkey : (0x6100 + n) * 256 + c = (0x6100 + n) * 256 + sub ↔ c = sub := by omega
  rw [State.cnt, State.countPort, State.stat_count]
  simp only [hkey, State.cnt]

@[simp] theorem State.cnt_countPort_self (s : State) (n sub k : Nat) :
    (s.countPort n sub k).cnt (0x6100 + n) sub = s.cnt (0x6100 + n) sub + k := by
  rw [State.cnt_countPort, if_pos rfl]

theorem State.cnt_countPort_of_ne {sub c : Nat} (hc : c ≠ sub) (s : State) (n k : Nat) :
    (s.countPort n sub k).cnt (0x6100 + n) c = s.cnt (0x6100 + n) c := by
  rw [State.cnt_countPort, if_neg hc, Nat.add_zero]

/-! ### Frames queued for a port that are discarded (R151, R155) -/

theorem State.emptyLeaf_besideQueues (s : State) (h : Half) (l : Nat) : (s.emptyLeaf h l).besideQueues = s.besideQueues :=
  State.onHalf_besideQueues rfl

/-- A discard of what is queued for a port raises one counter of the port, beside the queues. -/
theorem State.dropPort_besideQueues (s : State) (n sub : Nat) (p : Nat → Bool) :
    ∃ k, (s.dropPort n sub p).besideQueues = (s.countPort n sub k).besideQueues := by
  unfold State.dropPort
  extract_lets h ls fs
  have hempty : (ls.foldl (fun a l => a.emptyLeaf h l) s).besideQueues = s.besideQueues :=
    State.foldl_unchanged (fun a l => a.emptyLeaf_besideQueues h l) ls s
  exact ⟨fs.length, (State.lostSends_besideQueues _ _).trans (congrArg (·.countPort n sub fs.length) hempty)⟩

theorem State.dropPort_eth (s : State) (n sub : Nat) (p : Nat → Bool) : (s.dropPort n sub p).eth = s.eth := by
  obtain ⟨k, hk⟩ := s.dropPort_besideQueues n sub p
  exact (State.eth_of_besideQueues hk).trans rfl

theorem State.dropPort_mgmt (s : State) (n sub : Nat) (p : Nat → Bool) : (s.dropPort n sub p).mgmt = s.mgmt := by
  obtain ⟨k, hk⟩ := s.dropPort_besideQueues n sub p
  exact (State.mgmt_of_besideQueues hk).trans rfl

theorem State.dropPort_time (s : State) (n sub : Nat) (p : Nat → Bool) (h : Half) : (s.dropPort n sub p).time h = s.time h := by
  obtain ⟨k, hk⟩ := s.dropPort_besideQueues n sub p
  rw [State.time_of_besideQueues hk, State.time, State.countPort, State.count_half, State.time]

theorem State.dropPort_cnt_of_ne {sub c : Nat} (hc : c ≠ sub) (s : State) (n : Nat) (p : Nat → Bool) :
    (s.dropPort n sub p).cnt (0x6100 + n) c = s.cnt (0x6100 + n) c := by
  obtain ⟨k, hk⟩ := s.dropPort_besideQueues n sub p
  rw [State.cnt_of_besideQueues hk, State.cnt_countPort_of_ne hc]

end Sys2Proof.Machine
end

section
/-! SUPPORT. Frames that network ports and management link ports receive and send (06 R147 to R151, R156, R160). -/

namespace Sys2Proof.Machine
open Sys2Proof

/-! ### Frames between two steps (R34, R35) -/

theorem State.addFlight_flight (s : State) (h : Half) (f : Frame) :
    ((s.addFlight h f).half h).cls.flight = (s.half h).cls.flight ++ [f] := by
  rw [State.addFlight, State.onHalf_half]

theorem State.addFlight_cnt (s : State) (h : Half) (f : Frame) (i c : Nat) : (s.addFlight h f).cnt i c = s.cnt i c := by
  rw [State.cnt, State.addFlight, State.onHalf_stat, State.cnt]

/-- A frame taken out changes the frames of its half that wait for a step alone. -/
theorem State.takeFlight_eq {s s1 : State} {h : Half} {p : Frame → Bool} {f : Frame} (ht : s.takeFlight h p = some (f, s1)) :
    ∃ rest, s1 = s.setFlight h rest := by
  unfold State.takeFlight at ht
  split at ht
  · next _ rest _ => exact ⟨rest, (congrArg Prod.snd (Option.some.inj ht)).symm⟩
  · cases ht

section
variable {s s1 : State} {h : Half} {p : Frame → Bool} {f : Frame} (ht : s.takeFlight h p = some (f, s1))
include ht

theorem State.takeFlight_cnt (i c : Nat) : s1.cnt i c = s.cnt i c := by
  obtain ⟨rest, rfl⟩ := State.takeFlight_eq ht
  rw [State.cnt, State.setFlight, State.onHalf_stat, State.cnt]

theorem State.takeFlight_param (g : Half) (i sub sel d : Nat) : s1.param g i sub sel d = s.param g i sub sel d := by
  obtain ⟨rest, rfl⟩ := State.takeFlight_eq ht
  cases h <;> rfl

theorem State.takeFlight_time : s1.time h = s.time h := by
  obtain ⟨rest, rfl⟩ := State.takeFlight_eq ht
  rw [State.time, State.setFlight, State.onHalf_half, State.time]

end

/-! ### Frames received on a network port (R147, R148, R150, R156) -/

section
variable {s : State} {n : Nat} {bs : List Byte} (hl : (s.ethPort n).link = true)

section
variable (hr : s.running = true)
include hl hr

theorem State.frameReceive_uncorrected (fcs : Bool) :
    s.frameReceive n bs fcs false = (s.countPort n 8 1).countPort n 3 1 := by
  simp [State.frameReceive, hl, hr]

theorem State.frameReceive_badFcs : s.frameReceive n bs false true = s.countPort n 3 1 := by
  simp [State.frameReceive, hl, hr]

theorem State.frameReceive_runt (hb : bs.length < 60) : s.frameReceive n bs true true = s.countPort n 4 1 := by
  have hlen : bs.length + 4 < 64 := by omega
  simp [State.frameReceive, hl, hr, hlen]

variable (hmin : 60 ≤ bs.length)
include hmin

theorem State.frameReceive_oversize (hb : s.rxLimit n bs < bs.length + 4) :
    s.frameReceive n bs true true = s.countPort n 5 1 := by
  have hlen : ¬ bs.length + 4 < 64 := by omega
  simp [State.frameReceive, hl, hr, hlen, hb]

theorem State.frameReceive_passed (hb : bs.length + 4 ≤ s.rxLimit n bs) : s.frameReceive n bs true true = s.takeFrame n bs := by
  have hlen : ¬ bs.length + 4 < 64 := by omega
  simp [State.frameReceive, hl, hr, hlen, Nat.not_lt.mpr hb]

end

/-- A frame that is no MAC control frame goes to CIPHER, where its half forwards. -/
theorem State.takeFrame_forwarded (htype : beAt bs 12 2 ≠ 0x8808) (hf : s.forwards (ethHalf n) = true) :
    s.takeFrame n bs = ((s.countPort n 1 (bs.length + 4)).countPort n 2 1).toCipher n bs := by
  simp [State.takeFrame, htype, hf]

end

/-! ### Frames that leave a network port (R149, R151, R156) -/

section
variable {s s1 : State} {n : Nat} {f : Frame}
  (ht : s.takeFlight (ethHalf n) (fun x => x.stage = .net && x.port = n) = some (f, s1))
include ht

theorem State.frameTransmit_linkDown (hl : (s.ethPort n).link = false) :
    s.frameTransmit n = (s1.countPort n 0x0E 1).lostSend f := by
  rw [State.frameTransmit, ht]
  exact if_pos hl

theorem State.frameTransmit_oversize (hl : (s.ethPort n).link = true) (hlen : s.maxFrame n < f.bytes.length + 4) :
    s.frameTransmit n = (s1.countPort n 0x0D 1).lostSend f := by
  rw [State.frameTransmit, ht]
  simp only [hl, Bool.true_eq_false, if_false, if_pos hlen]

theorem State.frameTransmit_sent (hl : (s.ethPort n).link = true) (hlen : f.bytes.length + 4 ≤ s.maxFrame n) :
    s.frameTransmit n = s1.sendFrame n f := by
  rw [State.frameTransmit, ht]
  simp only [hl, Bool.true_eq_false, if_false, if_neg (Nat.not_lt.mpr hlen)]

end

/-- Without one-step operation a frame is sent as it is (R157). -/
theorem State.oneStep_off {s : State} {n : Nat} (h : s.param (ethHalf n) 0xA618 (n + 1) 0 0 = 0) (t : Nat) (bs : List Byte) :
    s.oneStep n t bs = (bs, false) := by
  simp [State.oneStep, h]

/-- The device time of a half as the stamp of a frame at a port (R156). -/
def State.stamp (s : State) (n : Nat) : Nat := ((s.time (ethHalf n) : Int) + s.asym n).toNat

/-- A frame that one-step operation leaves alone is sent, counted and, where an ETH_SEND asked for it, reported with its stamp. -/
theorem State.sendFrame_eq {s : State} {n : Nat} (h : s.param (ethHalf n) 0xA618 (n + 1) 0 0 = 0) (f : Frame) :
    s.sendFrame n f = (((s.emit (.ethTx n f.bytes (s.stamp n))).countPort n 0x0B f.len).countPort n 0x0C 1).endSend f stOk 1
      (s.stamp n) true := by
  simp only [State.sendFrame, State.oneStep_off h, Bool.false_eq_true, if_false]
  rfl

theorem State.emit_cnt (s : State) (o : Output) (i c : Nat) : (s.emit o).cnt i c = s.cnt i c := by
  rw [State.cnt, State.emit_stat, State.cnt]

theorem State.countPort_flight (s : State) (n sub k : Nat) (h : Half) :
    ((s.countPort n sub k).half h).cls.flight = (s.half h).cls.flight := by
  rw [State.countPort, State.count_half]

theorem State.sendFrame_flight (s : State) (n : Nat) (f : Frame) (h : Half) :
    ((s.sendFrame n f).half h).cls.flight = (s.half h).cls.flight := by
  simp only [State.sendFrame, State.flight_of_besideQueues (State.endSend_besideQueues _ _ _ _ _ _)]
  split <;> simp only [State.countPort_flight, State.emit_half]

section
variable {s s1 : State} {n : Nat} {f : Frame}
  (ht : s.takeFlight (ethHalf n) (fun x => x.stage = .net && x.port = n) = some (f, s1))
include ht

/-- The frame is gone from those of its half, whatever becomes of it. -/
theorem State.frameTransmit_flight (h : Half) :
    ((s.frameTransmit n).half h).cls.flight = (s1.half h).cls.flight := by
  have hlost := fun a : State => State.flight_of_besideQueues (a.lostSend_besideQueues f) h
  rw [State.frameTransmit, ht]
  simp only
  split
  · rw [hlost, State.countPort_flight]
  · split
    · rw [hlost, State.countPort_flight]
    · exact State.sendFrame_flight _ _ _ _

/-- A frame that is sent bears the stamp of its port, and is counted. -/
theorem State.sendFrame_taken (h : s.param (ethHalf n) 0xA618 (n + 1) 0 0 = 0) :
    .ethTx n f.bytes (s.stamp n) ∈ (s1.sendFrame n f).out
      ∧ (s1.sendFrame n f).cnt (0x6100 + n) 0x0C = s.cnt (0x6100 + n) 0x0C + 1 := by
  have hstamp : s1.stamp n = s.stamp n := by
    rw [State.stamp, State.asym, State.takeFlight_time ht, State.takeFlight_param ht, State.stamp, State.asym]
  rw [State.sendFrame_eq ((State.takeFlight_param ht _ _ _ _ _).trans h), hstamp]
  constructor
  · exact (State.endSend_out _ _ _ _ _ _).subset List.mem_cons_self
  · rw [State.cnt_of_besideQueues (State.endSend_besideQueues _ _ _ _ _ _), State.cnt_countPort_self,
      State.cnt_countPort_of_ne (by decide), State.emit_cnt, State.takeFlight_cnt ht]

/-- A frame that is lost is counted. -/
theorem State.lostSend_taken (sub : Nat) :
    ((s1.countPort n sub 1).lostSend f).cnt (0x6100 + n) sub = s.cnt (0x6100 + n) sub + 1 := by
  rw [State.cnt_of_besideQueues (State.lostSend_besideQueues _ _), State.cnt_countPort_self, State.takeFlight_cnt ht]

end

/-! ### Frames received on a management link port (R160) -/

/-- A frame handed to the SUPV of a half, with the count of its second. -/
def State.mgmtTaken (s : State) (h : Half) (x : Nat × Nat) : State := (s.setMgmtRx h x).emit (.mgmtFrame h)

theorem State.mgmtTaken_out (s : State) (h : Half) (x : Nat × Nat) : (s.mgmtTaken h x).out = .mgmtFrame h :: s.out := by
  cases h <;> rfl

theorem State.mgmtRx_mgmtTaken (s : State) (h : Half) (x : Nat × Nat) : (s.mgmtTaken h x).mgmtRx h = x := by
  cases h <;> rfl

theorem State.mgmtTaken_frame (s : State) (h : Half) (x : Nat × Nat) :
    { s.mgmtTaken h x with out := s.out, mgmt := s.mgmt } = s := by
  cases h <;> rfl

/-- The start of the second that counts at a management link port, and the frames taken in it. -/
def State.mgmtSecond (s : State) (h : Half) : Nat × Nat :=
  if s.time h < (s.mgmtRx h).1 + 1000000000 ∧ 0 < (s.mgmtRx h).2 then s.mgmtRx h else (s.time h, 0)

theorem State.mgmtSecond_le (s : State) (h : Half) : (s.mgmtSecond h).2 ≤ (s.mgmtRx h).2 := by
  unfold State.mgmtSecond
  split
  · exact Nat.le_refl _
  · exact Nat.zero_le _

/-- A frame of a kind and length that the port takes, while its second is not full. -/
theorem State.mgmtFrame_taken {s : State} {h : Half} {kind : MgmtFrame} {len : Nat} (hb : s.board.boot ≠ .inReset)
    (hk : kind ≠ .otherFrame) (hlen : len ≤ 1522) (hrx : (s.mgmtRx h).2 < 20000) :
    s.mgmtFrame h kind len = s.mgmtTaken h ((s.mgmtSecond h).1, (s.mgmtSecond h).2 + 1) := by
  have htakes : ¬ (s.board.boot = .inReset ∨ kind = .otherFrame ∨ 1522 < len) := by
    rintro (h | h | h)
    · exact hb h
    · exact hk h
    · exact Nat.not_lt.mpr hlen h
  have hroom : (s.mgmtSecond h).2 < 20000 := Nat.lt_of_le_of_lt (s.mgmtSecond_le h) hrx
  rw [State.mgmtFrame, if_neg htakes]
  exact if_pos hroom

theorem State.mgmtFrame_ignored {s : State} {h : Half} {kind : MgmtFrame} {len : Nat} (hk : kind = .otherFrame ∨ 1522 < len) :
    s.mgmtFrame h kind len = s := by
  rw [State.mgmtFrame, if_pos (.inr hk)]

/-- Settles O18: a received frame meets the checks in their order, a frame to be sent the link and then the length, and each end of
it raises its own counter of the port. The order of the checks of R148 and the octets that RX_OCTETS counts are the model's
choice (log 65). -/
theorem framesAtTheNetworkPorts : Obligations.FramesAtTheNetworkPorts := by
  unfold Obligations.FramesAtTheNetworkPorts
  refine ⟨fun s n bs fcs fec hl hb => ⟨_, rfl, ?uncorrected, ?badFcs, ?runt, ?oversize, ?passed⟩,
    fun s s1 n f ht => ⟨_, rfl, State.frameTransmit_flight ht _, fun hl => ?linkDown, fun hl hlen => ?tooLong,
      fun hl hlen h1 => ?sent, fun hf hl => ?noEntry⟩,
    fun s h kind len hb hk hlen hrx => ⟨_, rfl, ?mgmt⟩,
    fun s h kind len hk => congrArg Host.Outcome.next (State.mgmtFrame_ignored hk)⟩
  case uncorrected =>
    rintro rfl
    rw [State.frameReceive_uncorrected hl (State.running_of_boot hb)]
    refine ⟨?_, ?_, rfl⟩
    · rw [State.cnt_countPort_of_ne (by decide), State.cnt_countPort_self]
    · rw [State.cnt_countPort_self, State.cnt_countPort_of_ne (by decide)]
  case badFcs =>
    rintro rfl rfl
    rw [State.frameReceive_badFcs hl (State.running_of_boot hb)]
    exact ⟨State.cnt_countPort_self _ _ _ _, rfl⟩
  case runt =>
    rintro rfl rfl hlen
    rw [State.frameReceive_runt hl (State.running_of_boot hb) hlen]
    exact ⟨State.cnt_countPort_self _ _ _ _, rfl⟩
  case oversize =>
    rintro rfl rfl hmin hlen
    rw [State.frameReceive_oversize hl (State.running_of_boot hb) hmin hlen]
    exact ⟨State.cnt_countPort_self _ _ _ _, rfl⟩
  case passed =>
    rintro rfl rfl hmin hlen htype hf
    rw [State.frameReceive_passed hl (State.running_of_boot hb) hmin hlen, State.takeFrame_forwarded htype hf, State.toCipher]
    refine ⟨?_, ?_, ?_⟩
    · rw [State.addFlight_cnt, State.cnt_countPort_of_ne (by decide), State.cnt_countPort_self, Nat.add_assoc]
    · rw [State.addFlight_cnt, State.cnt_countPort_self, State.cnt_countPort_of_ne (by decide)]
    · rw [State.addFlight_flight, State.countPort_flight, State.countPort_flight]
      exact ⟨_, rfl, rfl, rfl, rfl, rfl, rfl⟩
  case linkDown =>
    rw [State.frameTransmit_linkDown ht hl]
    exact State.lostSend_taken ht _
  case tooLong =>
    rw [State.frameTransmit_oversize ht hl hlen]
    exact State.lostSend_taken ht _
  case sent =>
    rw [State.frameTransmit_sent ht hl hlen]
    exact State.sendFrame_taken ht h1
  case noEntry =>
    rw [State.frameTransmit_linkDown ht hl, State.lostSend_of_no_entry hf]
  case mgmt =>
    rw [State.mgmtFrame_taken hb hk hlen hrx]
    refine ⟨State.mgmtTaken_out _ _ _, ?_, State.mgmtTaken_frame _ _ _⟩
    rw [State.mgmtRx_mgmtTaken]
    exact Nat.le_add_left 1 _

end Sys2Proof.Machine
end

section
/-! SUPPORT. Pauses and priority flow control at a network port (06 R152 to R155). -/

namespace Sys2Proof.Machine
open Sys2Proof

/-! ### Bits of a port's masks -/

theorem getLsbD_bit (p i : Nat) : (BitVec.ofNat 8 (2 ^ p)).getLsbD i = (decide (i < 8) && decide (p = i)) := by
  rw [BitVec.getLsbD_ofNat, Nat.testBit_two_pow]

theorem getLsbD_bit_cleared (x : BitVec 8) (p i : Nat) :
    (x &&& ~~~ BitVec.ofNat 8 (2 ^ p)).getLsbD i = (x.getLsbD i && !decide (p = i)) := by
  rw [BitVec.getLsbD_and, BitVec.getLsbD_not, getLsbD_bit]
  by_cases hi : i < 8
  · simp only [hi, decide_true, Bool.true_and]
  · rw [BitVec.getLsbD_of_ge _ _ (Nat.not_lt.mp hi), Bool.false_and, Bool.false_and]

theorem getLsbD_bit_set (x : BitVec 8) (p : Fin 8) : (x ||| BitVec.ofNat 8 (2 ^ p.val)).getLsbD p.val = true := by
  rw [BitVec.getLsbD_or, getLsbD_bit]
  simp only [p.isLt, decide_true, Bool.and_self, Bool.or_true]

/-! ### A port whose priority is held or released (R153) -/

/-- A port whose transmission of a priority resumes. -/
def Eth.released (x : Eth) (p : Nat) : Eth :=
  { x with paused := merase x.paused p, stormed := x.stormed &&& ~~~ BitVec.ofNat 8 (2 ^ p) }

/-- A port that has received quanta for a priority at a time. -/
def Eth.quanta (x : Eth) (now p q : Nat) : Eth :=
  if q = 0 then x.released p
  else
    { x with
      paused := mput x.paused p
        { deadline := now + q * 512000 / Nat.max (modeRate x.trained) 1
          since := match mfind x.paused p with
            | some y => y.since
            | none => now } }

theorem Eth.released_paused (x : Eth) (p r : Nat) :
    mfind (x.released p).paused r = if r = p then none else mfind x.paused r := mfind_merase _ _ _

theorem Eth.released_stormed (x : Eth) (p : Nat) : (x.released p).stormed.getLsbD p = false := by
  rw [Eth.released, getLsbD_bit_cleared]
  simp

theorem Eth.quanta_zero (x : Eth) (now p : Nat) : x.quanta now p 0 = x.released p := if_pos rfl

theorem Eth.quanta_paused {q : Nat} (hq : q ≠ 0) (x : Eth) (now p : Nat) :
    ∃ y, mfind (x.quanta now p q).paused p = some y
      ∧ y.deadline = now + q * 512000 / Nat.max (modeRate x.trained) 1 := by
  rw [Eth.quanta, if_neg hq]
  exact ⟨_, (mfind_mput _ _ _ _).trans (if_pos rfl), rfl⟩

theorem Eth.quanta_trained (x : Eth) (now p q : Nat) : (x.quanta now p q).trained = x.trained := by
  unfold Eth.quanta
  split <;> rfl

theorem Eth.quanta_paused_of_ne {p r : Nat} (hr : r ≠ p) (x : Eth) (now q : Nat) :
    mfind (x.quanta now p q).paused r = mfind x.paused r := by
  unfold Eth.quanta
  split
  · rw [Eth.released_paused, if_neg hr]
  · exact (mfind_mput _ _ _ _).trans (if_neg hr)

theorem Eth.quanta_stormed_of_ne {p r : Nat} (hr : r ≠ p) (x : Eth) (now q : Nat) :
    (x.quanta now p q).stormed.getLsbD r = x.stormed.getLsbD r := by
  unfold Eth.quanta
  split
  · rw [Eth.released, getLsbD_bit_cleared]
    simp [hr.symm]
  · rfl

/-! ### Ports of the device -/

@[simp] theorem State.ethPort_setEth_self (s : State) (n : Nat) (x : Eth) : (s.setEth n x).ethPort n = x := by
  rw [State.ethPort_setEth, if_pos rfl]

theorem State.ethPort_setEth_of_ne {n m : Nat} (hm : m ≠ n) (s : State) (x : Eth) : (s.setEth n x).ethPort m = s.ethPort m := by
  rw [State.ethPort_setEth, if_neg hm]

theorem State.ethPort_of_eth {t s : State} (h : t.eth = s.eth) (m : Nat) : t.ethPort m = s.ethPort m := by
  rw [State.ethPort, h, State.ethPort]

theorem State.pausePrio_eq (s : State) (n p q : Nat) :
    s.pausePrio n p q = s.setEth n ((s.ethPort n).quanta (s.time (ethHalf n)) p q) := by
  simp only [State.pausePrio, Eth.quanta]
  split <;> rfl

theorem State.pausePrio_cnt (s : State) (n p q i c : Nat) : (s.pausePrio n p q).cnt i c = s.cnt i c := by
  rw [State.pausePrio_eq]
  rfl

/-! ### Several priorities, one after another -/

/-- Where of steps for the numbers of a list only one's own changes a view, it is seen after all of them as that step leaves it
from a state that was seen as the first. -/
theorem foldl_at {σ β : Type} {I : σ → Prop} {view : σ → β} {f : σ → Nat → σ} {p : Nat} (hI : ∀ a r, I a → I (f a r))
    (hother : ∀ a r, r ≠ p → I a → view (f a r) = view a) {l : List Nat} (hl : l.Nodup) (hp : p ∈ l) {s : σ} (hs : I s) :
    ∃ a, I a ∧ view a = view s ∧ view (l.foldl f s) = view (f a p) := by
  have hrest : ∀ l : List Nat, p ∉ l → ∀ a, I a → I (l.foldl f a) ∧ view (l.foldl f a) = view a := by
    intro l
    induction l with
    | nil => exact fun _ a ha => ⟨ha, rfl⟩
    | cons r rest ih =>
      intro hp a ha
      obtain ⟨hi, hv⟩ := ih (List.not_mem_of_not_mem_cons hp) (f a r) (hI a r ha)
      exact ⟨hi, hv.trans (hother a r (List.ne_of_not_mem_cons hp).symm ha)⟩
  obtain ⟨l1, l2, rfl⟩ := List.append_of_mem hp
  have hnodup := List.nodup_append.mp hl
  have h1 : p ∉ l1 := fun h => hnodup.2.2 p h p List.mem_cons_self rfl
  have h2 : p ∉ l2 := (List.nodup_cons.mp hnodup.2.1).1
  obtain ⟨ha, hva⟩ := hrest l1 h1 s hs
  refine ⟨l1.foldl f s, ha, hva, ?_⟩
  rw [List.foldl_append, List.foldl_cons]
  exact (hrest l2 h2 _ (hI _ _ ha)).2

/-- A state that differs from another in a port's pauses, and in counters, alone. -/
structure State.onlyPauses (t s : State) (n : Nat) : Prop where
  frame   : { t with eth := s.eth, stat := s.stat } = s
  trained : (t.ethPort n).trained = (s.ethPort n).trained
  others  : ∀ m, m ≠ n → t.ethPort m = s.ethPort m

section
variable {a s : State} {n : Nat} (h : a.onlyPauses s n)
include h

theorem State.onlyPauses.time (g : Half) : a.time g = s.time g :=
  (congrArg (fun t : State => t.time g) h.frame :)

theorem State.onlyPauses.lossless (p : Nat) : a.lossless n p = s.lossless n p :=
  (congrArg (fun t : State => t.lossless n p) h.frame :)

theorem State.onlyPauses.countPort (m sub k : Nat) : (a.countPort m sub k).onlyPauses s n :=
  ⟨h.frame, h.trained, h.others⟩

theorem State.onlyPauses.pausePrio (p q : Nat) : (a.pausePrio n p q).onlyPauses s n := by
  rw [State.pausePrio_eq]
  refine ⟨h.frame, ?_, fun m hm => ?_⟩
  · rw [State.ethPort_setEth_self, Eth.quanta_trained, h.trained]
  · rw [State.ethPort_setEth_of_ne hm, h.others m hm]

theorem State.onlyPauses.pfcPart (mask : BitVec 8) (q : BitVec 128) (p : Nat) : (a.pfcPart n mask q p).onlyPauses s n := by
  simp only [State.pfcPart]
  split
  · split
    · exact (h.countPort _ _ _).pausePrio _ _
    · exact h.countPort _ _ _
  · exact h

theorem State.onlyPauses.foldl {f : State → Nat → State} (hf : ∀ a r, a.onlyPauses s n → (f a r).onlyPauses s n)
    (l : List Nat) : (l.foldl f a).onlyPauses s n :=
  List.foldlRecOn (motive := fun a => a.onlyPauses s n) l f h fun a ha r _ => hf a r ha

end

/-- The pause of a priority of a port, and whether it is stormed. -/
def State.prioHold (s : State) (n p : Nat) : Option Pause × Bool :=
  (mfind (s.ethPort n).paused p, (s.ethPort n).stormed.getLsbD p)

theorem State.prioHold_pausePrio_of_ne {p r : Nat} (hr : r ≠ p) (s : State) (n q : Nat) :
    (s.pausePrio n r q).prioHold n p = s.prioHold n p := by
  rw [State.prioHold, State.pausePrio_eq, State.ethPort_setEth_self, Eth.quanta_paused_of_ne hr.symm,
    Eth.quanta_stormed_of_ne hr.symm, State.prioHold]

theorem State.prioHold_pausePrio_zero (s : State) (n p : Nat) : (s.pausePrio n p 0).prioHold n p = (none, false) := by
  rw [State.prioHold, State.pausePrio_eq, State.ethPort_setEth_self, Eth.quanta_zero, Eth.released_paused, if_pos rfl,
    Eth.released_stormed]

/-- The end of a pause of some quanta that begins at a port now: 512 bit times each at the rate of the port (R153). -/
def State.pauseEnd (s : State) (n q : Nat) : Nat :=
  s.time (ethHalf n) + q * 512000 / Nat.max (modeRate (s.ethPort n).trained) 1

theorem State.prioHold_pausePrio {a s : State} {n q : Nat} (h : a.onlyPauses s n) (hq : q ≠ 0) (p : Nat) :
    ∃ y, ((a.pausePrio n p q).prioHold n p).1 = some y ∧ y.deadline = s.pauseEnd n q := by
  rw [State.prioHold, State.pausePrio_eq, State.ethPort_setEth_self, State.pauseEnd, ← h.time, ← h.trained]
  exact Eth.quanta_paused hq _ _ _

/-! ### PAUSE frames (R152, R153) -/

/-- A received PAUSE frame of a port that runs PAUSE. -/
def State.pausedAll (s : State) (n q : Nat) : State :=
  (List.range 8).foldl (fun a p => a.pausePrio n p q) (s.countPort n 6 1)

section
variable {s : State} {n : Nat} (hl : (s.ethPort n).link = true)
include hl

theorem State.pauseFrame_on (hf : s.flowMode n = 1) (q : Nat) : s.pauseFrame n q = s.pausedAll n q := by
  simp only [State.pauseFrame, hl, Bool.true_eq_false, if_false, State.pausedAll]
  exact if_pos hf

theorem State.pauseFrame_off (hf : s.flowMode n ≠ 1) (q : Nat) : s.pauseFrame n q = s.countPort n 6 1 := by
  simp only [State.pauseFrame, hl, Bool.true_eq_false, if_false]
  exact if_neg hf

end

theorem State.onlyPauses_refl (s : State) (n : Nat) : s.onlyPauses s n := ⟨rfl, rfl, fun _ _ => rfl⟩

theorem State.pausedAll_onlyPauses (s : State) (n q : Nat) : (s.pausedAll n q).onlyPauses s n :=
  ((s.onlyPauses_refl n).countPort n 6 1).foldl (fun _ _ ha => ha.pausePrio _ _) _

theorem State.pausedAll_cnt (s : State) (n q : Nat) :
    (s.pausedAll n q).cnt (0x6100 + n) 6 = s.cnt (0x6100 + n) 6 + 1 := by
  rw [State.pausedAll, State.foldl_unchanged (part := fun a => a.cnt (0x6100 + n) 6)
    (fun a p => a.pausePrio_cnt n p q _ _), State.cnt_countPort_self]

/-- Every priority is held as the frame's quanta say. -/
theorem State.pausedAll_prioHold (s : State) (n q : Nat) {p : Nat} (hp : p < 8) :
    ∃ a : State, a.onlyPauses s n ∧ (s.pausedAll n q).prioHold n p = (a.pausePrio n p q).prioHold n p := by
  obtain ⟨a, ha, -, hv⟩ := foldl_at (I := fun a : State => a.onlyPauses s n) (view := fun a => a.prioHold n p)
    (f := fun a r => a.pausePrio n r q) (fun _ _ ha => ha.pausePrio _ _)
    (fun a r hr _ => State.prioHold_pausePrio_of_ne hr a n q) (List.nodup_range (n := 8)) (List.mem_range.mpr hp)
    ((s.onlyPauses_refl n).countPort n 6 1)
  exact ⟨a, ha, hv⟩

/-! ### PFC frames (R152, R153) -/

/-- A received PFC frame at a port with a link. -/
def State.pfcAll (s : State) (n : Nat) (mask : BitVec 8) (q : BitVec 128) : State :=
  (List.range 8).foldl (fun a p => a.pfcPart n mask q p) s

theorem State.pfcFrame_linked {s : State} {n : Nat} (hl : (s.ethPort n).link = true) (mask : BitVec 8) (q : BitVec 128) :
    s.pfcFrame n mask q = s.pfcAll n mask q := by
  simp only [State.pfcFrame, hl, Bool.true_eq_false, if_false, State.pfcAll]

theorem State.pfcAll_onlyPauses (s : State) (n : Nat) (mask : BitVec 8) (q : BitVec 128) :
    (s.pfcAll n mask q).onlyPauses s n :=
  (s.onlyPauses_refl n).foldl (fun _ _ ha => ha.pfcPart _ _ _) _

/-- What a port has of one priority: its pause, its storm, and the count of the frames that name it. -/
def State.prioView (s : State) (n p : Nat) : (Option Pause × Bool) × Nat := (s.prioHold n p, s.cnt (0x6100 + n) (0x1A + p))

theorem State.prioView_pfcPart_of_ne {p r : Nat} (hr : r ≠ p) (s : State) (n : Nat) (mask : BitVec 8) (q : BitVec 128) :
    (s.pfcPart n mask q r).prioView n p = s.prioView n p := by
  have hcount : (s.countPort n (0x1A + r) 1).prioView n p = s.prioView n p :=
    congrArg (s.prioHold n p, ·) (State.cnt_countPort_of_ne (by omega) s n 1)
  simp only [State.pfcPart]
  split
  · split
    · rw [State.prioView, State.prioHold_pausePrio_of_ne hr, State.pausePrio_cnt]
      exact hcount
    · exact hcount
  · rfl

section
variable {a : State} {n p : Nat} {mask : BitVec 8} (q : BitVec 128)

/-- A priority that a PFC frame names is counted (R162). -/
theorem State.cnt_pfcPart (hm : mask.getLsbD p = true) :
    (a.pfcPart n mask q p).cnt (0x6100 + n) (0x1A + p) = a.cnt (0x6100 + n) (0x1A + p) + 1 := by
  rw [State.pfcPart, bit, if_pos hm]
  split
  · rw [State.pausePrio_cnt, State.cnt_countPort_self]
  · rw [State.cnt_countPort_self]

/-- A priority with PFC that a frame names takes the frame's quanta for it. -/
theorem State.pfcPart_lossless (hm : mask.getLsbD p = true) (hl : a.lossless n p = true) :
    a.pfcPart n mask q p = (a.countPort n (0x1A + p) 1).pausePrio n p (fld q (16 * p) 16) := by
  rw [State.pfcPart, bit, if_pos hm]
  exact if_pos hl

/-- A priority that a frame does not name, or that runs without PFC, is held as before. -/
theorem State.prioHold_pfcPart_unheld (h : mask.getLsbD p = false ∨ a.lossless n p = false) :
    (a.pfcPart n mask q p).prioHold n p = a.prioHold n p := by
  cases hm : mask.getLsbD p with
  | false => rw [State.pfcPart, bit, if_neg (by simp [hm])]
  | true =>
    have hl : ¬ a.lossless n p = true := by simp [h.resolve_left (by simp [hm])]
    rw [State.pfcPart, bit, if_pos hm]
    simp only [if_neg hl]
    rfl

end

/-- One priority after a PFC frame, as the part of the frame for it leaves it. -/
theorem State.pfcAll_prioView (s : State) (n : Nat) (mask : BitVec 8) (q : BitVec 128) {p : Nat} (hp : p < 8) :
    ∃ a : State, a.onlyPauses s n ∧ a.prioView n p = s.prioView n p
      ∧ (s.pfcAll n mask q).prioView n p = (a.pfcPart n mask q p).prioView n p :=
  foldl_at (I := fun a : State => a.onlyPauses s n) (view := fun a => a.prioView n p) (fun _ _ ha => ha.pfcPart _ _ _)
    (fun a _ hr _ => State.prioView_pfcPart_of_ne hr a n mask q) (List.nodup_range (n := 8)) (List.mem_range.mpr hp)
    (s.onlyPauses_refl n)

/-! ### Pauses that end, XOFFs repeated and storms (R153 to R155) -/

/-- Time has passed until the time waited for. -/
theorem State.le_time_until (s : State) (h : Half) (t : Nat) : t ≤ (s.until h t).time h := by
  have hnow : (s.until h t).time h = s.time h + (t - s.time h) := by
    rw [State.time, State.until, State.elapse, State.onBoth_half, State.time]
  omega

theorem State.ethPort_until (s : State) (h : Half) (t m : Nat) : (s.until h t).ethPort m = s.ethPort m :=
  State.ethPort_of_eth (State.until_eth s h t) m

theorem State.time_setEth (s : State) (n : Nat) (x : Eth) (h : Half) : (s.setEth n x).time h = s.time h := by
  cases h <;> rfl

theorem State.pauseExpiry_held {s : State} {n p : Nat} {y : Pause} (hy : mfind (s.ethPort n).paused p = some y) :
    s.pauseExpiry n p = (s.until (ethHalf n) y.deadline).setEth n ((s.ethPort n).released p) := by
  simp only [State.pauseExpiry, hy, State.ethPort_until, Eth.released]

theorem State.xoffRepeat_above {s : State} {n p : Nat} (hx : (s.ethPort n).xoff.getLsbD p = true)
    (hi : s.xonCells n < s.ingress n p) : s.xoffRepeat n p = s.sendPfc n p 0xFFFF :=
  if_pos ⟨hx, hi⟩

/-- A port with a stormed priority. -/
def Eth.storm (x : Eth) (p : Nat) : Eth := { x with stormed := x.stormed ||| BitVec.ofNat 8 (2 ^ p) }

/-- A priority is declared stormed, and the event logged. -/
def State.stormed (s : State) (n p since wd : Nat) : State :=
  ((s.until (ethHalf n) (since + wd * 1000000)).setEth n ((s.ethPort n).storm p)).log 0x2002 2 (unitId (ethHalf n) 13) 0
    (n + 256 * p)

theorem State.pfcStorm_held {s : State} {n p : Nat} {y : Pause} (hy : mfind (s.ethPort n).paused p = some y)
    (hwd : s.param (ethHalf n) 0xA600 5 0 100 ≠ 0) (hs : (s.ethPort n).stormed.getLsbD p = false) :
    s.pfcStorm n p = (s.stormed n p y.since (s.param (ethHalf n) 0xA600 5 0 100)).dropPort n 0x18 (· = p) := by
  have hgo : ¬ (s.param (ethHalf n) 0xA600 5 0 100 = 0 ∨ bit (s.ethPort n).stormed p = true) := by
    simp [hwd, bit, hs]
  simp only [State.pfcStorm, hy, if_neg hgo, State.ethPort_until, State.stormed, Eth.storm]

theorem State.stormed_ethPort (s : State) (n p since wd m : Nat) :
    (s.stormed n p since wd).ethPort m = (s.setEth n ((s.ethPort n).storm p)).ethPort m := by
  rw [State.stormed, State.ethPort_of_besideQueues (State.log_besideQueues _ (by decide)), State.ethPort_setEth,
    State.ethPort_until, State.ethPort_setEth]

theorem State.le_time_stormed (s : State) (n p since wd : Nat) :
    since + wd * 1000000 ≤ (s.stormed n p since wd).time (ethHalf n) := by
  rw [State.stormed, State.time_of_besideQueues (State.log_besideQueues _ (by decide)), State.time_setEth]
  exact State.le_time_until _ _ _

/-- Settles O19: received quanta change the pauses of one port, priority by priority; an expiry and a storm happen once their time
has come. That a PAUSE frame holds nothing unless FLOW_En is 1 is the model's choice (log 66). -/
theorem pauseAndPriorityFlowControl : Obligations.PauseAndPriorityFlowControl := by
  unfold Obligations.PauseAndPriorityFlowControl
  refine ⟨fun s n v hl hf => ⟨_, rfl, ?pause⟩,
    fun s n v hl hf => ⟨_, congrArg Host.Outcome.next (State.pauseFrame_off hl hf _), State.cnt_countPort_self _ _ _ _, rfl⟩,
    fun s n mask q hl => ⟨_, congrArg Host.Outcome.next (State.pfcFrame_linked hl mask q), fun p hp hm => ?named,
      fun p hp hm => ?unnamed, (s.pfcAll_onlyPauses n mask q).others, (s.pfcAll_onlyPauses n mask q).frame⟩,
    fun s n p y hy => ⟨_, congrArg Host.Outcome.next (State.pauseExpiry_held hy), ?expired⟩,
    fun s n p hx hi => ⟨_, congrArg Host.Outcome.next (State.xoffRepeat_above hx hi), rfl, rfl⟩,
    fun s n p y hy hwd hs => ⟨_, congrArg Host.Outcome.next (State.pfcStorm_held hy hwd hs), ?storm⟩⟩
  case pause =>
    have hone := s.pausedAll_onlyPauses n v.toNat
    rw [State.pauseFrame_on hl hf]
    refine ⟨State.pausedAll_cnt _ _ _, fun hv p hp => ?_, fun hv p hp => ?_, hone.others, hone.frame⟩
    · have hq : v.toNat ≠ 0 := fun h => hv (BitVec.eq_of_toNat_eq h)
      obtain ⟨a, ha, hview⟩ := s.pausedAll_prioHold n v.toNat hp
      have hheld := State.prioHold_pausePrio ha hq p
      rwa [← hview] at hheld
    · obtain ⟨a, -, hview⟩ := s.pausedAll_prioHold n v.toNat hp
      subst hv
      exact Prod.mk.inj (hview.trans (State.prioHold_pausePrio_zero _ _ _))
  case named =>
    obtain ⟨a, ha, hbefore, hafter⟩ := s.pfcAll_prioView n mask q hp
    obtain ⟨hhold, hcnt⟩ := Prod.mk.inj hafter
    have hpart := fun hl => State.pfcPart_lossless (n := n) q hm ((ha.lossless p).trans hl)
    refine ⟨?_, fun hl hq => ?_, fun hl hq => ?_⟩
    · exact hcnt.trans ((State.cnt_pfcPart q hm).trans (congrArg (· + 1) (Prod.mk.inj hbefore).2))
    · have hheld := State.prioHold_pausePrio (ha.countPort n (0x1A + p) 1) hq p
      rwa [← hpart hl, ← hhold] at hheld
    · rw [hpart hl, hq, State.prioHold_pausePrio_zero] at hhold
      exact (Prod.mk.inj hhold).1
  case unnamed =>
    obtain ⟨a, ha, hbefore, hafter⟩ := s.pfcAll_prioView n mask q hp
    have hsame := State.prioHold_pfcPart_unheld q (hm.imp_right (ha.lossless p).trans)
    exact congrArg Prod.fst ((Prod.mk.inj hafter).1.trans (hsame.trans (Prod.mk.inj hbefore).1))
  case expired =>
    refine ⟨?_, ?_, ?_, fun r hr => ?_, fun m hm => ?_, rfl⟩
    · rw [State.ethPort_setEth_self, Eth.released_paused, if_pos rfl]
    · rw [State.ethPort_setEth_self, Eth.released_stormed]
    · rw [State.time_setEth]
      exact State.le_time_until _ _ _
    · rw [State.ethPort_setEth_self, Eth.released_paused, if_neg hr]
    · rw [State.ethPort_setEth_of_ne hm, State.ethPort_until]
  case storm =>
    have hport := s.stormed_ethPort n p y.since (s.param (ethHalf n) 0xA600 5 0 100)
    refine ⟨?_, ?_, ?_, fun m hm => ?_⟩
    · rw [State.ethPort_of_eth (State.dropPort_eth _ _ _ _), hport, State.ethPort_setEth_self]
      exact getLsbD_bit_set _ p
    · rw [State.ethPort_of_eth (State.dropPort_eth _ _ _ _), hport, State.ethPort_setEth_self]
      rfl
    · rw [State.dropPort_time]
      exact State.le_time_stormed _ _ _ _ _
    · rw [State.ethPort_of_eth (State.dropPort_eth _ _ _ _), hport, State.ethPort_setEth_of_ne hm]

end Sys2Proof.Machine
end

section
/-! SUPPORT. Modes, links and counters of network ports and management link ports, and the steering of the timebase (01 R30, R31,
06 R143, R144, R146, R151, R158, R159, R161). -/

namespace Sys2Proof.Machine
open Sys2Proof

/-! ### Links of a network port (R146, R151) -/

/-- A port without a link, with its faults. -/
def Eth.down (x : Eth) (remote loc : Bool) : Eth :=
  { x with link := false, trained := 0, anDone := false, remoteFault := remote, localFault := loc }

section
variable (s : State) (n : Nat) (rf lf : Bool)

theorem State.linkLoss_eth : (s.linkLoss n rf lf).eth = (s.setEth n ((s.ethPort n).down rf lf)).eth := by
  simp only [State.linkLoss]
  split
  · rw [State.dropPort_eth, State.eth_of_besideQueues (State.log_besideQueues _ (by decide))]
    rfl
  · rfl

theorem State.linkLoss_mgmt : (s.linkLoss n rf lf).mgmt = s.mgmt := by
  simp only [State.linkLoss]
  split
  · rw [State.dropPort_mgmt, State.mgmt_of_besideQueues (State.log_besideQueues _ (by decide))]
    rfl
  · rfl

theorem State.linkLoss_ethPort_self : (s.linkLoss n rf lf).ethPort n = (s.ethPort n).down rf lf := by
  rw [State.ethPort_of_eth (s.linkLoss_eth n rf lf), State.ethPort_setEth_self]

theorem State.linkLoss_ethPort_of_ne {m : Nat} (hm : m ≠ n) : (s.linkLoss n rf lf).ethPort m = s.ethPort m := by
  rw [State.ethPort_of_eth (s.linkLoss_eth n rf lf), State.ethPort_setEth_of_ne hm]

theorem State.linkLoss_param (h : Half) (i sub sel d : Nat) :
    (s.linkLoss n rf lf).param h i sub sel d = s.param h i sub sel d := by
  have hm := s.linkLoss_mgmt n rf lf
  cases h <;> simp only [State.param, State.params, hm]

/-- LINK_DOWNS counts the loss of a link. -/
theorem State.linkLoss_cnt (hl : (s.ethPort n).link = true) :
    (s.linkLoss n rf lf).cnt (0x6100 + n) 9 = s.cnt (0x6100 + n) 9 + 1 := by
  simp only [State.linkLoss, if_pos hl]
  rw [State.dropPort_cnt_of_ne (by decide), State.cnt_of_besideQueues (State.log_besideQueues _ (by decide)),
    State.cnt_countPort_self]
  rfl

end

/-- A port that has trained its mode. -/
def Eth.upIn (x : Eth) (mode : Nat) (an : Bool) : Eth :=
  { x with link := true, trained := mode, anDone := an, remoteFault := false, localFault := false }

theorem State.linkUp_linkable {s : State} {n : Nat} (h : s.linkable n = true) (an : Bool) :
    ∃ b, s.linkUp n an = s.setEth n ((s.ethPort n).upIn (s.portMode n) b) := by
  rw [State.linkUp, if_pos h]
  exact ⟨_, rfl⟩

/-! ### Modes of a network port (R143, R144) -/

/-- A value set for one object leaves those of other keys. -/
theorem State.param_setParams_of_ne {i sub sel j k l : Nat} (hk : okey j k l ≠ okey i sub sel) (s : State) (h g : Half) (v d : Nat) :
    (s.setParams h i sub sel v).param g j k l d = s.param g j k l d := by
  have hone : ∀ (a : State) (h : Half), (a.setParam h i sub sel v).param g j k l d = a.param g j k l d := by
    intro a h
    cases h <;> cases g
    · exact (mget_mput _ _ _ _ _).trans (if_neg hk)
    · rfl
    · rfl
    · exact (mget_mput _ _ _ _ _).trans (if_neg hk)
  unfold State.setParams
  split
  · exact hone _ _
  · exact (hone _ _).trans (hone _ _)

section
variable {s : State} {w : Who} {n : Fin 16} {v : BitVec 8} (hg : s.grants w 0xA610 (n.val + 1) (leBytes 1 v.toNat) = true)

/-- A port that takes a mode goes down. -/
def State.modeTaken (s : State) (w : Who) (n v : Nat) : State :=
  ((s.accepted w).setParams (s.server w.sess) 0xA610 (n + 1) 0 v).linkLoss n false false

include hg

theorem exec_portModeWrite_taken (hm : s.modeOk n.val v.toNat = true) :
    exec (.portModeWrite w n v) s = .next ((s.modeTaken w n.val v.toNat).emit (.resp w.sess rsOk [])) :=
  State.write_done hg rfl rfl (if_pos hm)

theorem exec_portModeWrite_refused (hm : s.modeOk n.val v.toNat = false) :
    exec (.portModeWrite w n v) s = .next ((s.accepted w).emit (.resp w.sess rsRefused [])) :=
  State.write_refused hg rfl rfl (if_neg (Bool.eq_false_iff.mp hm))

end

theorem State.modeTaken_portMode_self {s : State} (hj : s.cstl.split = false) (w : Who) (n v : Nat) :
    (s.modeTaken w n v).portMode n = v := by
  rw [State.portMode, State.modeTaken, State.linkLoss_param]
  exact State.param_setParams_joined (s := s.accepted w) hj _ _ _ _ _ _ _

theorem State.modeTaken_portMode_of_ne {n m : Nat} (hm : m ≠ n) (s : State) (w : Who) (v : Nat) :
    (s.modeTaken w n v).portMode m = s.portMode m := by
  have hkey : okey 0xA610 (m + 1) 0 ≠ okey 0xA610 (n + 1) 0 := by
    simp only [okey]
    omega
  rw [State.portMode, State.modeTaken, State.linkLoss_param, State.param_setParams_of_ne hkey]
  rfl

theorem State.modeTaken_link (s : State) (w : Who) (n v : Nat) : ((s.modeTaken w n v).ethPort n).link = false := by
  rw [State.modeTaken, State.linkLoss_ethPort_self]
  rfl

theorem State.modeTaken_ethPort_of_ne {n m : Nat} (hm : m ≠ n) (s : State) (w : Who) (v : Nat) :
    (s.modeTaken w n v).ethPort m = s.ethPort m := by
  rw [State.modeTaken, State.linkLoss_ethPort_of_ne _ _ _ _ hm]
  exact State.ethPort_of_eth (State.setParams_eth _ _ _ _ _ _) m

/-! ### Counters of a port cleared (R161) -/

theorem exec_portCntClear {s : State} {w : Who} {v : BitVec 16} (hg : s.grants w 0xA600 6 (leBytes 2 v.toNat) = true)
    (hj : s.cstl.split = false) (hv : v.toNat < 16) :
    exec (.portCntClear w v) s = .next (((s.accepted w).clearIndex (0x6100 + v.toNat)).emit (.resp w.sess rsOk [])) := by
  have hs : (s.accepted w).cstl.split = false := hj
  have hone : ¬ v.toNat = 0xFFFF := by omega
  exact State.write_done hg rfl rfl ((if_neg hone).trans (if_pos ⟨hv, by simp [hs]⟩))

/-- A request is counted in REQUESTS of a half alone. -/
theorem State.cnt_accepted_of_ne {x i : Nat} (hi : i < 256) (hk : x ≠ 0x6900) (hq : x ≠ 0x6901) (s : State) (w : Who) :
    (s.accepted w).cnt x i = s.cnt x i := by
  have hkey : ¬ x * 256 + i = (0x6900 + (sessHalf w.sess).num) * 256 + 1 := by
    cases sessHalf w.sess <;> simp only [Half.num] <;> omega
  rw [State.cnt, State.accepted, State.touch_stat, State.countH, State.stat_count, if_neg hkey, Nat.add_zero, State.cnt]

/-! ### Steering of the timebase (R30, R31, R158) -/

/-- The 32 bits of a signed value, read as a number and then as two's complement. -/
theorem signed_toNat (v : BitVec 32) : signed 32 v.toNat = v.toInt := by
  rw [signed, BitVec.toInt_eq_toNat_cond]
  split <;> split <;> omega

/-- Both halves' governors steered. -/
def State.steered (s : State) (f : Governor → Governor) : State := s.onBoth fun x => { x with gov := f x.gov }

theorem State.steerFrom_joined {s : State} (hj : s.cstl.split = false) (h : Half) (f : Governor → Governor) :
    s.steerFrom h f = s.steered f := if_pos hj

theorem State.steered_gov (s : State) (f : Governor → Governor) (o : Output) (h : Half) :
    (((s.steered f).emit o).half h).gov = f (s.half h).gov := by
  rw [State.emit_half, State.steered, State.onBoth_half]

theorem State.accepted_half (s : State) (w : Who) (h : Half) : (s.accepted w).half h = s.half h := by
  cases h <;> rfl

theorem State.setParams_half (s : State) (h : Half) (i sub sel v : Nat) (g : Half) :
    (s.setParams h i sub sel v).half g = s.half g := by
  cases g
  · exact State.setParams_k _ _ _ _ _ _
  · exact State.setParams_q _ _ _ _ _ _

theorem Governor.adjust_step {ns : Int} (h : 1000000 < ns) (g : Governor) :
    g.adjust ns = { g with time := g.time + ns.toNat } := if_pos h

theorem Governor.adjust_slew {ns : Int} (h : ns ≤ 1000000) (g : Governor) :
    g.adjust ns = { g with slew := g.slew + ns * 2 ^ 32 } := if_neg (Int.not_lt.mpr h)

theorem Governor.adjust_rate (g : Governor) (ns : Int) : (g.adjust ns).rate = g.rate := by
  unfold Governor.adjust
  split <;> rfl

section
variable {s : State} {w : Who} {v : BitVec 32} (hj : s.cstl.split = false)
include hj

theorem exec_tbRateWrite (hg : s.grants w 0xA600 2 (leBytes 4 v.toNat) = true) :
    exec (.tbRateWrite w v) s = .next ((((s.accepted w).setParams (s.server w.sess) 0xA600 2 0 v.toNat).steered
      fun g => { g with rate := v.toInt }).emit (.resp w.sess rsOk [])) := by
  have hs : ((s.accepted w).setParams (s.server w.sess) 0xA600 2 0 v.toNat).cstl.split = false := by
    rw [State.setParams_cstl]
    exact hj
  rw [← signed_toNat, ← State.steerFrom_joined hs (s.server w.sess)]
  exact State.write_done hg rfl rfl rfl

theorem exec_tbAdjustWrite (hg : s.grants w 0xA600 3 (leBytes 4 v.toNat) = true) :
    exec (.tbAdjustWrite w v) s = .next (((s.accepted w).steered (·.adjust v.toInt)).emit (.resp w.sess rsOk [])) := by
  have hs : (s.accepted w).cstl.split = false := hj
  rw [← signed_toNat, ← State.steerFrom_joined hs (s.server w.sess)]
  exact State.write_done hg rfl rfl rfl

end

/-! ### Management link ports (R159) -/

/-- A management link port's status. -/
def mgmtLinkByte (up : Bool) (speed : Fin 3) : BitVec 8 := BitVec.ofNat 8 (2 * speed.val + b2n up)

theorem exec_mgmtLinkChange_k (s : State) (up : Bool) (speed : Fin 3) :
    exec (.mgmtLinkChange .k up speed) s = .next { s with mgmt := { s.mgmt with linkK := mgmtLinkByte up speed } } := rfl

theorem exec_mgmtLinkChange_q (s : State) (up : Bool) (speed : Fin 3) :
    exec (.mgmtLinkChange .q up speed) s = .next { s with mgmt := { s.mgmt with linkQ := mgmtLinkByte up speed } } := rfl

/-- Settles O20: a taken mode and a lost link reach one port, beside the queues; a clear drops one index of the counters; a rate and a
correction reach the governors of both halves, which are joined. That a forward correction above 1 ms, which R31 allows to be one step,
always is one is the model's choice. -/
theorem networkPortLinksAndTimebase : Obligations.NetworkPortLinksAndTimebase := by
  unfold Obligations.NetworkPortLinksAndTimebase
  refine ⟨fun s w n v hg hj => ?mode, fun s n an hl => ?linkUp,
    fun s n rf lf hl => ⟨_, rfl, ?link, ?trained, ?remote, ?loc, State.linkLoss_cnt _ _ _ _ hl,
      fun m hm => State.linkLoss_ethPort_of_ne _ _ _ _ hm⟩,
    fun s w v hg hj hv => ⟨_, exec_portCntClear hg hj hv, State.emit_answered _ _ _ _, fun i hi => ?cleared,
      fun x i hi hx hk hq => ?kept, s.accepted_quiet w⟩,
    fun s h up sp => ?mgmt, fun s w v hg hj => ⟨_, exec_tbRateWrite hj hg, State.emit_answered _ _ _ _, ?rate⟩,
    fun s w v hg hj => ⟨_, exec_tbAdjustWrite hj hg, State.emit_answered _ _ _ _, fun hv h => ?step, fun hv h => ?slew,
      fun h => ?keptRate⟩⟩
  case mode =>
    cases hm : s.modeOk n.val v.toNat with
    | true =>
      refine ⟨_, exec_portModeWrite_taken hg hm, fun _ => ⟨State.emit_answered _ _ _ _, ?_, ?_, fun m _ hne => ⟨?_, ?_⟩⟩,
        fun h => absurd h (by decide)⟩
      · exact State.modeTaken_portMode_self hj w _ _
      · exact s.modeTaken_link w _ _
      · exact State.modeTaken_portMode_of_ne hne s w _
      · exact State.modeTaken_ethPort_of_ne hne s w _
    | false =>
      exact ⟨_, exec_portModeWrite_refused hg hm, fun h => absurd h (by decide),
        fun _ => ⟨State.emit_answered _ _ _ _, s.accepted_quiet w⟩⟩
  case linkUp =>
    obtain ⟨b, hup⟩ := State.linkUp_linkable hl an
    refine ⟨_, congrArg Host.Outcome.next hup, ?_, ?_, fun m hm => State.ethPort_setEth_of_ne hm _ _, rfl⟩
    · exact congrArg Eth.link (State.ethPort_setEth_self _ _ _)
    · exact congrArg Eth.trained (State.ethPort_setEth_self _ _ _)
  case link => exact congrArg Eth.link (s.linkLoss_ethPort_self n rf lf)
  case trained => exact congrArg Eth.trained (s.linkLoss_ethPort_self n rf lf)
  case remote => exact congrArg Eth.remoteFault (s.linkLoss_ethPort_self n rf lf)
  case loc => exact congrArg Eth.localFault (s.linkLoss_ethPort_self n rf lf)
  case cleared => rw [State.emit_cnt, State.cnt_clearIndex _ _ _ hi, if_pos rfl]
  case kept => rw [State.emit_cnt, State.cnt_clearIndex _ _ _ hi, if_neg hx, State.cnt_accepted_of_ne hi hk hq]
  case mgmt =>
    cases h with
    | k => exact ⟨_, exec_mgmtLinkChange_k s up sp, fun _ => ⟨rfl, rfl⟩, fun h => (nomatch h), rfl⟩
    | q => exact ⟨_, exec_mgmtLinkChange_q s up sp, fun h => (nomatch h), fun _ => ⟨rfl, rfl⟩, rfl⟩
  case rate =>
    have hgov := fun h => (State.steered_gov ((s.accepted w).setParams (s.server w.sess) 0xA600 2 0 v.toNat)
      (fun g => { g with rate := v.toInt }) (.resp w.sess rsOk []) h)
    simp only [State.setParams_half, State.accepted_half] at hgov
    exact ⟨congrArg (·.rate) (hgov .k), congrArg (·.rate) (hgov .q), congrArg (·.time) (hgov .k), congrArg (·.time) (hgov .q),
      congrArg (·.slew) (hgov .k), congrArg (·.slew) (hgov .q)⟩
  case step =>
    rw [State.time, State.steered_gov, State.accepted_half, Governor.adjust_step hv]
    refine ⟨?_, rfl⟩
    rw [Int.natCast_add, Int.toNat_of_nonneg (by omega), State.time]
  case slew =>
    rw [State.time, State.steered_gov, State.accepted_half, Governor.adjust_slew hv]
    exact ⟨rfl, rfl⟩
  case keptRate => rw [State.steered_gov, State.accepted_half, Governor.adjust_rate]

end Sys2Proof.Machine
end

section
/-! SUPPORT. The staging set, commits, and the counters that classification clears (07 R185 to R190, 09 R251, 16 R429). -/

namespace Sys2Proof.Machine
open Sys2Proof

/-! ### Requests that end with a status (R456) -/

/-- A granted write of an object whose previous command has not finished is answered BUSY. -/
theorem State.write_busy {s : State} {w : Who} {i sub : Nat} {data : List Byte} {busy sel : State → Bool}
    {act : State → Option State} (hg : s.grants w i sub data = true) (hb : busy (s.accepted w) = true) :
    (s.write w i sub data busy sel act).out w
      = .next (((s.accepted w).countStatus (sessHalf w.sess) rsBusy).emit (.resp w.sess rsBusy [])) := by
  rw [State.write_granted hg, if_pos hb]
  rfl

/-- A status that is counted is counted alone. -/
theorem State.countStatus_quiet (s : State) (h : Half) (st : Nat) : (s.countStatus h st).quiet = s.quiet := by
  unfold State.countStatus
  split
  · rfl
  · split
    · rfl
    · split <;> rfl

/-! ### The staging set (R185, R189) -/

/-- A change of the staging set is one of the management state alone. -/
theorem State.setStaging_quiet (s : State) (x : Staging) : { (s.setStaging x).quiet with mgmt := s.quiet.mgmt } = s.quiet := rfl

theorem Staging.mine_iff (g : Staging) (ss : Session) : g.mine ss = true ↔ g.owner = none ∨ g.owner = some ss := by
  simp [Staging.mine]

section
variable {s : State} {w : Who}

theorem exec_stageRecordWrite_taken {rec : BitVec 896} (hg : s.grants w 0xA000 1 (leBytes 112 rec.toNat) = true)
    (hm : s.mgmt.staging.mine w.sess = true) (hl : s.mgmt.staging.changes.length < 4096) :
    exec (.stageRecordWrite w rec) s = .next (((s.accepted w).setStaging { s.mgmt.staging with
      owner := some w.sess, changes := s.mgmt.staging.changes ++ [rec] }).emit (.resp w.sess rsOk [])) :=
  State.write_done hg rfl rfl (if_neg (not_or.mpr ⟨Bool.not_eq_false _ ▸ hm, Nat.not_le.mpr hl⟩))

theorem exec_stageRecordWrite_refused {rec : BitVec 896} (hg : s.grants w 0xA000 1 (leBytes 112 rec.toNat) = true)
    (hr : s.mgmt.staging.mine w.sess = false ∨ 4096 ≤ s.mgmt.staging.changes.length) :
    exec (.stageRecordWrite w rec) s = .next ((s.accepted w).emit (.resp w.sess rsRefused [])) :=
  State.write_refused hg rfl rfl (if_pos hr)

theorem exec_stageDiscard (hg : s.grants w 0xA000 5 [1] = true) (hm : s.mgmt.staging.mine w.sess = true) :
    exec (.stageDiscard w 1) s = .next (((s.accepted w).setStaging { s.mgmt.staging with owner := none, changes := [] }).emit
      (.resp w.sess rsOk [])) :=
  State.write_done hg rfl rfl (if_neg (Bool.not_eq_false _ ▸ hm))

/-! ### Commits that are written (R186) -/

theorem exec_commitWrite_busy {v : BitVec 8} (hg : s.grants w 0xA000 3 [v] = true) (hb : s.mgmt.staging.waits = true) :
    exec (.commitWrite w v) s
      = .next (((s.accepted w).countStatus (sessHalf w.sess) rsBusy).emit (.resp w.sess rsBusy [])) :=
  State.write_busy hg hb

theorem exec_commitWrite {v : BitVec 8} (hg : s.grants w 0xA000 3 [v] = true) (hb : s.mgmt.staging.waits = false)
    (hv : v.toNat < 4) (hm : s.mgmt.staging.mine w.sess = true) :
    exec (.commitWrite w v) s = .next (((s.accepted w).commit w.sess v.toNat).emit (.resp w.sess rsOk [])) :=
  State.write_done hg hb rfl (if_neg (not_or.mpr ⟨Nat.not_le.mpr hv, Bool.not_eq_false _ ▸ hm⟩))

end

theorem State.firstFail_accepted (s : State) (w : Who) (ss : Session) (mask : Nat) (cs : List Change) :
    ∀ (n : Nat) (k q : Tables), (s.accepted w).firstFail ss mask n cs k q = s.firstFail ss mask n cs k q := by
  induction cs with
  | nil => exact fun _ _ _ => rfl
  | cons c rest ih =>
    intro n k q
    have hst : (s.accepted w).halvesStatus ss mask c = s.halvesStatus ss mask c := rfl
    have hsplit : (s.accepted w).cstl.split = s.cstl.split := rfl
    have hserver : (s.accepted w).server ss = s.server ss := rfl
    simp only [State.firstFail, ih, hst, hsplit, hserver]

section
variable {s : State} {ss : Session} {mask : Nat}

theorem State.commit_failed {n st : Nat}
    (hf : s.firstFail ss mask 0 s.mgmt.staging.changes s.k.cls.live s.q.cls.live = some (n, st)) :
    s.commit ss mask = s.setStaging { s.mgmt.staging with owner := none, changes := [], result := commitResult n st } := by
  simp only [State.commit, hf]

theorem State.commit_waiting (hf : s.firstFail ss mask 0 s.mgmt.staging.changes s.k.cls.live s.q.cls.live = none) :
    s.commit ss mask = s.setStaging { s.mgmt.staging with
      owner := none, changes := [], pending := s.mgmt.staging.changes, since := s.time (s.server ss), result := 0
      waitK := inMask mask .k && s.reaches ss .k, waitQ := inMask mask .q && s.reaches ss .q } := by
  simp only [State.commit, hf]

end

/-! ### The swap of a half (R187, R188) -/

theorem State.until_cls (s : State) (h g : Half) (t : Nat) : ((s.until h t).half g).cls = (s.half g).cls := by
  cases g <;> rfl

theorem State.until_cnt (s : State) (h : Half) (t i c : Nat) : (s.until h t).cnt i c = s.cnt i c := by
  rw [State.cnt, State.until_stat, State.cnt]

/-- Time has passed until 500 µs after a half's last swap (R188). -/
def State.spaced (s : State) (h : Half) : State :=
  match (s.half h).cls.lastSwap with
  | some t => s.until h (t + 500000)
  | none => s

section
variable (s : State) (h : Half)

theorem State.spaced_cls (g : Half) : ((s.spaced h).half g).cls = (s.half g).cls := by
  unfold State.spaced
  split
  · exact s.until_cls h g _
  · rfl

theorem State.spaced_mgmt : (s.spaced h).mgmt = s.mgmt := by
  unfold State.spaced
  split
  · exact s.until_mgmt h _
  · rfl

theorem State.spaced_cnt (i c : Nat) : (s.spaced h).cnt i c = s.cnt i c := by
  unfold State.spaced
  split
  · exact s.until_cnt h _ i c
  · rfl

theorem State.le_time_spaced {x : Nat} (hx : (s.half h).cls.lastSwap = some x) : x + 500000 ≤ (s.spaced h).time h := by
  simp only [State.spaced, hx]
  exact s.le_time_until h _

end

/-- A version after one change, where it names the half and can be made (R185). -/
def Tables.taken (l : Tables) (h : Half) (c : Change) : Tables :=
  if inMask (chHalves c) h then (match l.change c with | .ok m => m | .error _ => l) else l

theorem Cls.take_live (x : Cls) (h : Half) (c : Change) : (x.take h c).live = x.live.taken h c := by
  unfold Cls.take Tables.taken
  split
  · cases x.live.change c <;> rfl
  · rfl

/-- The live version after the changes of a commit. -/
theorem Cls.foldl_take_live (x : Cls) (h : Half) (cs : List Change) :
    (cs.foldl (fun y c => y.take h c) x).live = cs.foldl (fun l c => l.taken h c) x.live :=
  (List.foldl_hom Cls.live fun y c => (y.take_live h c).symm).symm

/-- A half whose versions a commit has swapped at a time, with the changes recorded as divergent. -/
def HalfSt.swapped (x : HalfSt) (h : Half) (cs : List Change) (t : Nat) (d : List (Nat × Nat × Nat)) : HalfSt :=
  { x with
    cust := { x.cust with divergent := d }
    cls := { cs.foldl (fun y c => y.take h c) x.cls with lastSwap := some t } }

/-- The staging set once a half has swapped at a time: the commit ends with the last half that waits. -/
def Staging.swappedAt (g : Staging) (h : Half) (t : Nat) : Staging :=
  let g1 := { g.swapped h with lastCommit := t }
  if g1.waits then g1 else { g1 with pending := [], result := commitResult 0 stOk }

section
variable (g : Staging) (h : Half) (t : Nat)

theorem Staging.swappedAt_lastCommit : (g.swappedAt h t).lastCommit = t := by
  simp only [Staging.swappedAt]
  split <;> rfl

theorem Staging.swappedAt_waitsFor : (g.swappedAt h t).waitsFor h = false := by
  simp only [Staging.swappedAt]
  split <;> cases h <;> rfl

theorem Staging.waits_swapped : ({ g.swapped h with lastCommit := t } : Staging).waits = g.waitsFor h.other := by
  cases h
  · exact Bool.false_or _
  · exact Bool.or_false _

/-- The last half to swap ends the commit. -/
theorem Staging.swappedAt_last (ho : g.waitsFor h.other = false) :
    (g.swappedAt h t).result = stOk ∧ (g.swappedAt h t).pending = [] := by
  rw [Staging.swappedAt, if_neg (by rw [g.waits_swapped, ho]; exact Bool.false_ne_true)]
  exact ⟨rfl, rfl⟩

/-- The commit waits on for the other half. -/
theorem Staging.swappedAt_first (ho : g.waitsFor h.other = true) :
    (g.swappedAt h t).waitsFor h.other = true ∧ (g.swappedAt h t).pending = g.pending := by
  rw [Staging.swappedAt, if_pos ((g.waits_swapped h t).trans ho)]
  cases h <;> exact ⟨ho, rfl⟩

end

/-- The record of divergent changes is the custody's alone. -/
theorem State.divergeCommit_eq (s : State) (h : Half) (cs : List Change) :
    ∃ d, s.divergeCommit h cs = s.onHalf h fun x => { x with cust := { x.cust with divergent := d } } := by
  unfold State.divergeCommit
  split
  · cases h <;> exact ⟨_, rfl⟩
  · cases h
    · exact ⟨s.k.cust.divergent, rfl⟩
    · exact ⟨s.q.cust.divergent, rfl⟩

/-- The device after the swap of a half. -/
def State.swappedIn (s : State) (h : Half) (d : List (Nat × Nat × Nat)) : State :=
  ((s.onHalf h fun x => x.swapped h s.mgmt.staging.pending (s.time h) d).countCls h 0x19 1).setStaging
    (s.mgmt.staging.swappedAt h (s.time h))

theorem State.commitSwap_eq {s : State} {h : Half} (hw : s.mgmt.staging.waitsFor h = true) (hp : s.parseMoves h = false)
    (hs : (s.half h).stopped = false) : ∃ d, s.commitSwap h = (s.spaced h).swappedIn h d := by
  have hgo : ¬ (s.mgmt.staging.waitsFor h = false ∨ s.parseMoves h = true ∨ (s.half h).stopped = true) := by simp [hw, hp, hs]
  obtain ⟨d, hd⟩ := (s.spaced h).divergeCommit_eq h s.mgmt.staging.pending
  refine ⟨d, ?_⟩
  rw [State.swappedIn, State.spaced_mgmt]
  unfold State.commitSwap
  rw [if_neg hgo]
  show ((((s.spaced h).divergeCommit h s.mgmt.staging.pending).onHalf h _).countCls h 0x19 1).setStaging _ = _
  rw [hd]
  cases h <;> rfl

theorem State.swappedIn_half (s : State) (h : Half) (d : List (Nat × Nat × Nat)) :
    (s.swappedIn h d).half h = (s.half h).swapped h s.mgmt.staging.pending (s.time h) d := by
  cases h <;> rfl

theorem State.swappedIn_time (s : State) (h : Half) (d : List (Nat × Nat × Nat)) : (s.swappedIn h d).time h = s.time h :=
  (congrArg (fun x : HalfSt => x.gov.time) (s.swappedIn_half h d) :)

theorem State.swappedIn_other (s : State) (h : Half) (d : List (Nat × Nat × Nat)) :
    (s.swappedIn h d).half h.other = s.half h.other := by
  cases h <;> rfl

theorem State.onHalf_cnt (s : State) (h : Half) (f : HalfSt → HalfSt) (i c : Nat) : (s.onHalf h f).cnt i c = s.cnt i c := by
  rw [State.cnt, State.onHalf_stat, State.cnt]

theorem State.cnt_countH_self (s : State) (i : Nat) (h : Half) (c n : Nat) :
    (s.countH i h c n).cnt (i + h.num) c = s.cnt (i + h.num) c + n := by
  rw [State.cnt, State.countH, State.stat_count, if_pos rfl, State.cnt]

/-! ### A commit that waits 10 ms (R188) -/

theorem State.setStaging_half (s : State) (x : Staging) (g : Half) : (s.setStaging x).half g = s.half g := by
  cases g <;> rfl

/-- The half by whose count the wait of a commit is taken. -/
def Staging.clock (g : Staging) : Half := if g.waitK then .k else .q

/-- Time has passed until 10 ms after the commit was written (R188). -/
def State.commitWaited (s : State) : State := s.until s.mgmt.staging.clock (s.mgmt.staging.since + 10000000)

section
variable (s : State)

theorem State.commitWaited_mgmt : s.commitWaited.mgmt = s.mgmt := State.until_mgmt _ _ _

theorem State.le_time_commitWaited : s.mgmt.staging.since + 10000000 ≤ s.commitWaited.time s.mgmt.staging.clock :=
  s.le_time_until _ _

/-- The device once a commit has waited too long. -/
def State.commitEnded : State :=
  s.commitWaited.setStaging { s.mgmt.staging with
    waitK := false, waitQ := false, pending := [], result := commitResult s.mgmt.staging.firstWaiting stOtherHalf }

theorem State.commitEnded_cls (g : Half) : (s.commitEnded.half g).cls = (s.half g).cls := by
  rw [State.commitEnded, State.setStaging_half, State.commitWaited, State.until_cls]

theorem State.commitEnded_time (g : Half) : s.commitEnded.time g = s.commitWaited.time g := by
  rw [State.time, State.commitEnded, State.setStaging_half, State.time]

end

theorem exec_commitTimeout {s : State} (hw : s.mgmt.staging.waits = true) : exec .commitTimeout s = .next s.commitEnded := by
  show execCommitTimeout s = _
  rw [execCommitTimeout, if_pos hw, ← Staging.clock, ← State.commitWaited, State.endCommit, s.commitWaited_mgmt, if_pos hw,
    State.commitEnded]

/-! ### Counters of classification (R190, R251, R429) -/

theorem State.cnt_clearIndexes (j : Nat) {i : Nat} (hi : i < 256) (l : List Nat) :
    ∀ s : State, (l.foldl State.clearIndex s).cnt j i = if j ∈ l then 0 else s.cnt j i := by
  induction l with
  | nil => exact fun s => rfl
  | cons x rest ih =>
    intro s
    rw [List.foldl_cons, ih, State.cnt_clearIndex _ _ _ hi]
    by_cases hx : j = x <;> by_cases hr : j ∈ rest <;> simp [hx, hr]

/-- The counters that CLS_CNT_CLEAR clears of a half: its own, NO_THREAD, its availability counters and those of its NIB
units. -/
def clsIndexes (h : Half) : List Nat :=
  [0x6200 + h.num, 0x6408 + h.num, 0x6A00 + h.num] ++ (List.range 4).map fun u => 0x6400 + 4 * h.num + u

theorem State.clearCls_eq (s : State) (h : Half) : s.clearCls h = (clsIndexes h).foldl State.clearIndex s := rfl

/-- The counters of classification of the halves that a mask names, cleared. -/
def State.clsCleared (s : State) (v : Nat) : State := s.forMask v State.clearCls

theorem exec_clsCntClear {s : State} {w : Who} {v : BitVec 8} (hg : s.grants w 0xA000 0x0B (leBytes 1 v.toNat) = true)
    (hv : s.maskOk w.sess v.toNat = true) :
    exec (.clsCntClear w v) s = .next (((s.accepted w).clsCleared v.toNat).emit (.resp w.sess rsOk [])) :=
  State.write_done hg rfl rfl (if_pos hv)

/-- What one half's clear has cleared, the other's does not bring back. -/
theorem State.cnt_clsCleared (s : State) {v i j : Nat} {h : Half} (hh : inMask v h = true) (hj : j ∈ clsIndexes h)
    (hi : i < 256) :
    (s.clsCleared v).cnt j i = 0 := by
  simp only [State.clsCleared, State.forMask, State.clearCls_eq]
  cases h with
  | k =>
    rw [if_pos hh]
    split
    · rw [State.cnt_clearIndexes _ hi, State.cnt_clearIndexes _ hi, if_pos hj, ite_self]
    · rw [State.cnt_clearIndexes _ hi, if_pos hj]
  | q => rw [if_pos hh, State.cnt_clearIndexes _ hi, if_pos hj]

theorem State.clearCls_quiet (s : State) (h : Half) : (s.clearCls h).quiet = s.quiet := by
  rw [State.clearCls_eq]
  exact State.foldl_unchanged (f := State.clearIndex) (fun _ _ => rfl) _ _

theorem State.clsCleared_quiet (s : State) (v : Nat) : (s.clsCleared v).quiet = s.quiet := by
  simp only [State.clsCleared, State.forMask]
  split
  · split <;> simp only [State.clearCls_quiet]
  · split <;> simp only [State.clearCls_quiet]

/-- Settles O24, a command at a time. That the changes are checked at COMMIT_WRITE, and that a commit refused there empties the set and
ends its ownership, is the model's choice (log 68); R186 says that no change is applied. -/
theorem stagingAndCommits : Obligations.StagingAndCommits := by
  unfold Obligations.StagingAndCommits
  refine ⟨fun s w rec hg => ?stage,
    fun s w v hg => ⟨fun hb => ⟨_, exec_commitWrite_busy hg (Bool.or_eq_true _ _ ▸ hb), rfl,
        (s.accepted w).countStatus_quiet _ _⟩,
      fun hk hq hv ho => ?commit⟩,
    fun s h hw hp hs => ?swap, fun s hw => ?timeout,
    fun s w hg ho => ⟨_, exec_stageDiscard hg ((Staging.mine_iff _ _).mpr ho), rfl, rfl,
      (s.accepted w).setStaging_quiet _⟩,
    fun s w v hg hv => ⟨_, exec_clsCntClear hg hv, rfl, (s.accepted w).clsCleared_quiet v.toNat, fun h i hh hi => ?cleared⟩⟩
  case stage =>
    rw [← Staging.mine_iff, ← not_or, ← Staging.mine_iff, Bool.not_eq_true]
    by_cases hr : s.mgmt.staging.mine w.sess = false ∨ 4096 ≤ s.mgmt.staging.changes.length
    · refine ⟨_, exec_stageRecordWrite_refused hg hr, fun hm hl => ?_, fun _ => ⟨rfl, rfl⟩⟩
      rcases hr with h | h
      · exact absurd hm (Bool.eq_false_iff.mp h)
      · exact absurd h (Nat.not_le.mpr hl)
    · obtain ⟨hm, hl⟩ := not_or.mp hr
      exact ⟨_, exec_stageRecordWrite_taken hg (Bool.not_eq_false _ ▸ hm) (Nat.not_le.mp hl), fun _ _ =>
          ⟨rfl, rfl, (s.accepted w).setStaging_quiet _⟩,
        fun h => absurd h hr⟩
  case commit =>
    refine ⟨_, exec_commitWrite hg (by simp [Staging.waits, hk, hq]) hv ((Staging.mine_iff _ _).mpr ho), rfl, ?_⟩
    rw [← State.firstFail_accepted s w]
    cases hf : (s.accepted w).firstFail w.sess v.toNat 0 s.mgmt.staging.changes s.k.cls.live s.q.cls.live with
    | none =>
      rw [State.commit_waiting hf]
      exact ⟨rfl, rfl, rfl, rfl, fun _ _ h => (nomatch h), fun _ => ⟨rfl, rfl, rfl, rfl⟩⟩
    | some x =>
      obtain ⟨n, st⟩ := x
      rw [State.commit_failed hf]
      refine ⟨rfl, rfl, rfl, rfl, fun m u h => ?_, fun h => (nomatch h)⟩
      obtain ⟨rfl, rfl⟩ := Prod.mk.inj (Option.some.inj h)
      exact ⟨rfl, hk, hq⟩
  case swap =>
    obtain ⟨d, hd⟩ := State.commitSwap_eq hw hp hs
    refine ⟨_, congrArg Host.Outcome.next hd, ?_⟩
    have hstaging : ((s.spaced h).swappedIn h d).mgmt.staging = s.mgmt.staging.swappedAt h ((s.spaced h).time h) :=
      congrArg (fun m : Mgmt => m.staging.swappedAt h ((s.spaced h).time h)) (s.spaced_mgmt h)
    rw [State.swappedIn_time, hstaging, State.swappedIn_half, State.swappedIn_other, State.spaced_cls, State.spaced_mgmt]
    exact ⟨(Cls.foldl_take_live _ _ _).trans (congrArg (List.foldl _ · _) (congrArg Cls.live (s.spaced_cls h h))),
      fun x hx => s.le_time_spaced h hx, rfl, Staging.swappedAt_lastCommit _ _ _,
      (State.cnt_countH_self _ _ _ _ _).trans (congrArg (· + 1) ((State.onHalf_cnt _ _ _ _ _).trans (s.spaced_cnt h _ _))),
      rfl, Staging.swappedAt_waitsFor _ _ _, Staging.swappedAt_last _ _ _, Staging.swappedAt_first _ _ _⟩
  case timeout =>
    refine ⟨_, exec_commitTimeout (Bool.or_eq_true _ _ ▸ hw), rfl, rfl, rfl,
      Nat.mul_add_mod_of_lt (by decide : stOtherHalf < 65536),
      s.commitEnded_cls .k, s.commitEnded_cls .q, fun hk => ?_, fun hk => ?_⟩
    · rw [State.commitEnded_time]
      exact (if_pos hk : s.mgmt.staging.clock = .k) ▸ s.le_time_commitWaited
    · rw [State.commitEnded_time]
      exact (if_neg (Bool.eq_false_iff.mp hk) : s.mgmt.staging.clock = .q) ▸ s.le_time_commitWaited
  case cleared =>
    have hclear := fun j (hj : j ∈ clsIndexes h) => (s.accepted w).cnt_clsCleared hh hj hi
    simp only [State.emit_cnt]
    exact ⟨hclear _ (by simp [clsIndexes]), hclear _ (by simp [clsIndexes]), hclear _ (by simp [clsIndexes]),
      fun u hu => hclear _ (List.mem_append_right _ (List.mem_map_of_mem (List.mem_range.mpr hu)))⟩

end Sys2Proof.Machine
end

section
/-! SUPPORT. Frames in the pipelines: their numbers, the end of classification, their release in order, and transmit steering (07 R163,
R164, R170, R175, R179 to R184). -/

namespace Sys2Proof.Machine
open Sys2Proof

/-! ### The frames taken (R163, R164) -/

/-- What is taken out of a list satisfied the condition, so what satisfies no such condition stays. -/
theorem takeFirst_filter {α : Type} {p q : α → Bool} (hpq : ∀ y, p y = true → q y = false) {x : α} :
    ∀ {l rest : List α}, takeFirst p l = some (x, rest) → rest.filter q = l.filter q := by
  intro l
  induction l with
  | nil => exact fun ht => nomatch ht
  | cons y l ih =>
    intro rest ht
    unfold takeFirst at ht
    split at ht
    · next hy =>
      obtain ⟨-, rfl⟩ := Prod.mk.inj (Option.some.inj ht)
      rw [List.filter_cons_of_neg (by simp [hpq y hy])]
    · split at ht
      · next z r hr =>
        obtain ⟨rfl, rfl⟩ := Prod.mk.inj (Option.some.inj ht)
        simp only [List.filter_cons, ih hr]
      · exact nomatch ht

theorem State.takeFlight_first {s s1 : State} {h : Half} {p : Frame → Bool} {f : Frame} (ht : s.takeFlight h p = some (f, s1)) :
    ∃ rest, takeFirst p (s.half h).cls.flight = some (f, rest) ∧ s1 = s.setFlight h rest := by
  unfold State.takeFlight at ht
  split at ht
  · next g rest hg =>
    obtain ⟨rfl, rfl⟩ := Prod.mk.inj (Option.some.inj ht)
    exact ⟨rest, hg, rfl⟩
  · cases ht

/-- A frame that has not entered a pipeline yet fills none, so the choice is the same without it. -/
theorem State.takeFlight_choosePipe {s s1 : State} {h : Half} {f : Frame}
    (ht : s.takeFlight h (fun x => x.stage = .parse) = some (f, s1)) : s1.choosePipe h = s.choosePipe h := by
  obtain ⟨rest, hrest, rfl⟩ := State.takeFlight_first ht
  have hpipes : (s.setFlight h rest).pipes h = s.pipes h := by
    cases h <;> rfl
  have huse : ∀ p, (s.setFlight h rest).pipeUse h p = s.pipeUse h p := by
    intro p
    have hkeep : rest.filter (fun f => f.stage = .ordered && f.pipe = p)
        = (s.half h).cls.flight.filter fun f => f.stage = .ordered && f.pipe = p :=
      takeFirst_filter (fun y hy => by simp [of_decide_eq_true hy]) hrest
    rw [State.pipeUse, State.setFlight, State.onHalf_half, hkeep, State.pipeUse]
  simp only [State.choosePipe, hpipes, huse]

theorem State.lostSend_of_received {f : Frame} (hf : f.dir = false) (s : State) : s.lostSend f = s :=
  if_neg fun h => Bool.false_ne_true (hf ▸ h.1)

/-! ### The frames between two steps and the numbers given, which the pipelines alone change (R164) -/

/-- The numbers that a half has given in each stream, and its frames between two steps. -/
def HalfSt.ingress (x : HalfSt) : Map Nat × List Frame := (x.cls.numbered, x.cls.flight)

theorem State.ingress_of_besideQueues {t s : State} (h : t.besideQueues = s.besideQueues) (g : Half) :
    (t.half g).ingress = (s.half g).ingress :=
  (congrArg HalfSt.ingress (State.half_of_besideQueues h g) :)

theorem State.onHalf_ingress {s : State} {h : Half} {f : HalfSt → HalfSt} (hf : (f (s.half h)).ingress = (s.half h).ingress)
    (g : Half) : ((s.onHalf h f).half g).ingress = (s.half g).ingress := by
  cases h <;> cases g
  · exact hf
  · rfl
  · rfl
  · exact hf

section
variable (s : State) (h g : Half)

theorem State.count_ingress (i c n : Nat) : ((s.count i c n).half g).ingress = (s.half g).ingress := by rw [State.count_half]

theorem State.countH_ingress (i c n : Nat) : ((s.countH i h c n).half g).ingress = (s.half g).ingress := s.count_ingress g _ c n

theorem State.countCls_ingress (c n : Nat) : ((s.countCls h c n).half g).ingress = (s.half g).ingress := s.count_ingress g _ c n

theorem State.countSlice_ingress (id c n : Nat) : ((s.countSlice h id c n).half g).ingress = (s.half g).ingress := by
  simp only [State.countSlice]
  split <;> cases g <;> rfl

theorem State.lostSend_ingress (f : Frame) : ((s.lostSend f).half g).ingress = (s.half g).ingress :=
  State.ingress_of_besideQueues (s.lostSend_besideQueues f) g

theorem State.endSend_ingress (f : Frame) (st a b : Nat) (c : Bool) : ((s.endSend f st a b c).half g).ingress = (s.half g).ingress :=
  State.ingress_of_besideQueues (s.endSend_besideQueues f st a b c) g

/-- The exception pool and the nib units take frames out of the pipelines for good. -/
theorem State.nibArrive_ingress (u c : Nat) (f : Frame) : ((s.nibArrive u c f).half g).ingress = (s.half g).ingress := by
  unfold State.nibArrive
  split
  · cases g <;> rfl
  · rw [State.lostSend_ingress, State.countNib, State.count_ingress]

theorem State.excTokens_ingress (a b : Nat) :
    ((s.onHalf h fun x => { x with cls := { x.cls with excTokens := a, excLast := b } }).half g).ingress = (s.half g).ingress :=
  State.onHalf_ingress rfl g

theorem State.excToken_ingress : ((s.excToken h).1.half g).ingress = (s.half g).ingress := by
  simp only [State.excToken]
  exact s.excTokens_ingress h g _ _

theorem State.toException_ingress (f : Frame) (r d : Nat) : ((s.toException h f r d).half g).ingress = (s.half g).ingress := by
  have htoken := ((s.lostSend f).excToken_ingress h g).trans (s.lostSend_ingress g f)
  simp only [State.toException]
  split
  · rw [State.countCls_ingress, htoken]
  · split
    · rw [State.countH_ingress, htoken]
    · rw [State.nibArrive_ingress, htoken]

theorem State.toProgram_ingress (f : Frame) : ((s.toProgram h f).half g).ingress = (s.half g).ingress := by
  simp only [State.toProgram]
  split
  · exact s.nibArrive_ingress g _ _ _
  · rw [State.toException_ingress, State.countCls_ingress]

theorem State.police_ingress (p : Nat) (f : Frame) : ((s.police h p f).1.half g).ingress = (s.half g).ingress := by
  have hset := fun x => State.onHalf_ingress (s := s) (h := h) (f := fun y => { y with tmgr := { y.tmgr with pols := x } }) rfl g
  simp only [State.police]
  split
  · exact hset _
  · exact (State.countH_ingress _ _ _ _ _ _).trans (hset _)
  · exact ((State.lostSend_ingress _ _ _).trans (State.countH_ingress _ _ _ _ _ _)).trans (hset _)

theorem State.isolate_ingress {t : State} {f : Frame} (ht : s.isolate h f = some t) : (t.half g).ingress = (s.half g).ingress := by
  simp only [State.isolate] at ht
  split at ht
  · split at ht
    · obtain rfl := Option.some.inj ht
      rw [State.endSend_ingress, State.countSlice_ingress]
    · split at ht
      · obtain rfl := Option.some.inj ht
        rw [State.endSend_ingress, State.countCls_ingress]
      · cases ht
  · split at ht
    · obtain rfl := Option.some.inj ht
      exact s.countSlice_ingress h g _ _ _
    · split at ht
      · obtain rfl := Option.some.inj ht
        rw [State.countSlice_ingress, State.countCls_ingress]
      · cases ht

/-! ### The numbers given, which the end of classification leaves (R164, R179) -/

theorem State.numbered_of_ingress {t s : State} {g : Half} (h : (t.half g).ingress = (s.half g).ingress) :
    (t.half g).cls.numbered = (s.half g).cls.numbered := congrArg Prod.fst h

theorem State.flight_of_ingress {t s : State} {g : Half} (h : (t.half g).ingress = (s.half g).ingress) :
    (t.half g).cls.flight = (s.half g).cls.flight := congrArg Prod.snd h

theorem State.addFlight_numbered (f : Frame) : ((s.addFlight h f).half g).cls.numbered = (s.half g).cls.numbered := by
  cases h <;> cases g <;> rfl

theorem State.mirror_numbered (k : Nat) (f : Frame) : ((s.mirror h k f).half g).cls.numbered = (s.half g).cls.numbered := by
  simp only [State.mirror]
  split
  · exact s.addFlight_numbered _ g _
  · split
    · exact s.addFlight_numbered _ g _
    · rfl

theorem State.afterChecks_numbered (f : Frame) : ((s.afterChecks h f).half g).cls.numbered = (s.half g).cls.numbered := by
  have hpoliced : ((if f.polEn then s.police h (mdPolicer f.md) f else (s, some f)).1.half g).cls.numbered
      = (s.half g).cls.numbered := by
    split
    · exact State.numbered_of_ingress (s.police_ingress h g _ f)
    · rfl
  simp only [State.afterChecks]
  split
  · exact hpoliced
  · split
    · exact (State.numbered_of_ingress (State.toProgram_ingress _ h g _)).trans hpoliced
    · exact (State.addFlight_numbered _ h g _).trans hpoliced

theorem State.mirrorAndCheck_numbered (f : Frame) :
    ((s.mirrorAndCheck h f).half g).cls.numbered = (s.half g).cls.numbered := by
  have hcopied : ((if mdMirror f.md ≠ 0 then s.mirror h (mdMirror f.md) f else s).half g).cls.numbered
      = (s.half g).cls.numbered := by
    split
    · exact s.mirror_numbered h g _ f
    · rfl
  simp only [State.mirrorAndCheck]
  split
  · exact (State.numbered_of_ingress ((State.lostSend_ingress _ g f).trans (State.countCls_ingress _ h g _ _))).trans hcopied
  · split
    · next hiso => exact (State.numbered_of_ingress (State.isolate_ingress _ h g hiso)).trans hcopied
    · exact (State.afterChecks_numbered _ h g f).trans hcopied

theorem State.classified_numbered (f : Frame) (err punt : Nat) :
    ((s.classified h f err punt).half g).cls.numbered = (s.half g).cls.numbered := by
  have hpool := fun c r d => State.numbered_of_ingress
    (((s.countCls h c 1).toException_ingress h g f r d).trans (s.countCls_ingress h g c 1))
  unfold State.classified
  split
  · exact hpool _ _ _
  · split
    · exact hpool _ _ _
    · split
      · exact hpool _ _ _
      · exact s.mirrorAndCheck_numbered h g f

end

/-! ### The counters of classification (R190) -/

theorem State.cnt_count (s : State) (i c n j d : Nat) :
    (s.count i c n).cnt j d = s.cnt j d + if j * 256 + d = i * 256 + c then n else 0 := by
  rw [State.cnt, State.stat_count, State.cnt]

theorem State.cnt_countCls_of_ne {c d : Nat} (hd : d ≠ c) (s : State) (h : Half) (n : Nat) :
    (s.countCls h c n).cnt (0x6200 + h.num) d = s.cnt (0x6200 + h.num) d := by
  rw [State.countCls, State.countH, State.cnt_count, if_neg (by omega), Nat.add_zero]

theorem State.cnt_countCls_self (s : State) (h : Half) (c n : Nat) :
    (s.countCls h c n).cnt (0x6200 + h.num) c = s.cnt (0x6200 + h.num) c + n := s.cnt_countH_self _ h c n

theorem State.nibArrive_cnt {d : Nat} (hd : d < 256) (s : State) (h : Half) (u c : Nat) (f : Frame) :
    (s.nibArrive u c f).cnt (0x6200 + h.num) d = s.cnt (0x6200 + h.num) d := by
  have hkey : ¬ (0x6200 + h.num) * 256 + d = (0x6400 + u) * 256 + 3 := by
    cases h <;> simp only [Half.num] <;> omega
  unfold State.nibArrive
  split
  · rfl
  · rw [State.cnt_of_besideQueues (State.lostSend_besideQueues _ _), State.countNib, State.cnt_count, if_neg hkey, Nat.add_zero]

/-- A frame that goes to the exception pool is counted there at most in EXC_DROP (R181, R190). -/
theorem State.toException_cnt {d : Nat} (hd : d < 256) (hne : d ≠ 0x15) (s : State) (h : Half) (f : Frame) (reason detail : Nat) :
    (s.toException h f reason detail).cnt (0x6200 + h.num) d = s.cnt (0x6200 + h.num) d := by
  have htoken : ((s.lostSend f).excToken h).1.cnt (0x6200 + h.num) d = s.cnt (0x6200 + h.num) d :=
    (State.onHalf_cnt _ _ _ _ _).trans (State.cnt_of_besideQueues (s.lostSend_besideQueues f) _ _)
  have hkey : ¬ (0x6200 + h.num) * 256 + d = (0x6408 + h.num) * 256 + 1 := by omega
  simp only [State.toException]
  split
  · rw [State.cnt_countCls_of_ne hne, htoken]
  · split
    · rw [State.countH, State.cnt_count, if_neg hkey, Nat.add_zero, htoken]
    · rw [State.nibArrive_cnt hd, htoken]

/-- A frame sent to the exception pool is counted for its reason, and gone from those between two steps (R181, R190). -/
theorem State.toException_counted {c : Nat} (hc : c < 256) (hne : c ≠ 0x15) (s : State) (h : Half) (f : Frame) (reason detail : Nat) :
    ((s.countCls h c 1).toException h f reason detail).cnt (0x6200 + h.num) c = s.cnt (0x6200 + h.num) c + 1
      ∧ (((s.countCls h c 1).toException h f reason detail).half h).cls.flight = (s.half h).cls.flight := by
  constructor
  · rw [State.toException_cnt hc hne, State.cnt_countCls_self]
  · exact State.flight_of_ingress ((State.toException_ingress _ h h _ _ _).trans (s.countCls_ingress h h _ _))

/-- A stage is one of four (R175). -/
theorem Tables.stages_marks (t : Tables) (dir : Nat) (bs : List Byte) (todo : List Nat) (htodo : ∀ i ∈ todo, i < 4) :
    ∀ x : Staged, (∀ m ∈ x.marks, m.1 < 4) → ∀ m ∈ (t.stages dir bs todo x).marks, m.1 < 4 := by
  induction todo with
  | nil => exact fun x hx => hx
  | cons i rest ih =>
    intro x hx
    have hrest := ih fun j hj => htodo j (List.mem_cons_of_mem _ hj)
    simp only [Tables.stages]
    have hadd : ∀ b, ∀ m ∈ x.marks ++ [(i, b)], m.1 < 4 := by
      intro b m hm
      rcases List.mem_append.mp hm with hm | hm
      · exact hx m hm
      · rw [List.mem_singleton.mp hm]
        exact htodo i List.mem_cons_self
    split
    · exact hrest x hx
    · split
      · exact hrest _ (hadd _)
      · exact hadd _

theorem Tables.classify_marks (t : Tables) (dir : Nat) (bs : List Byte) (md : BitVec 256) :
    ∀ m ∈ (t.classify dir bs md).marks, m.1 < 4 :=
  t.stages_marks dir bs [0, 1, 2, 3] (by simp) _ fun _ hm => nomatch hm

section
variable (s : State) (h : Half) (dir : Nat) (marks : List (Nat × Bool))

/-- Hits and misses are counted in the first sixteen counters. -/
theorem State.countStages_cnt {d : Nat} (hd : 0x10 < d) (hdir : dir ≤ 1) (hm : ∀ m ∈ marks, m.1 < 4) :
    (s.countStages h dir marks).cnt (0x6200 + h.num) d = s.cnt (0x6200 + h.num) d := by
  refine List.foldlRecOn marks _ (motive := fun a : State => a.cnt (0x6200 + h.num) d = s.cnt (0x6200 + h.num) d) rfl
    fun a ha m hmem => ?_
  have hstage := hm m hmem
  rw [State.cnt_countCls_of_ne (by split <;> omega), ha]

theorem State.countStages_ingress (g : Half) : ((s.countStages h dir marks).half g).ingress = (s.half g).ingress :=
  State.foldl_unchanged (part := fun a => (a.half g).ingress) (fun a _ => a.countCls_ingress h g _ _) marks s

theorem State.countStages_slices : (s.countStages h dir marks).slices = s.slices :=
  State.foldl_unchanged (part := State.slices) (fun a _ => a.countH_slices 0x6200 h _ _) marks s

theorem State.countStages_wqs : (s.countStages h dir marks).wqs = s.wqs :=
  State.foldl_unchanged (part := State.wqs) (fun a _ => a.countH_wqs 0x6200 h _ _) marks s

end

/-! ### The end of classification (R179) -/

section
variable {s : State} {h : Half} {f : Frame}

theorem State.classified_failed {err : Nat} (he : err ≠ 0) (punt : Nat) :
    s.classified h f err punt = (s.countCls h 0x11 1).toException h f 2 err := if_pos he

theorem State.classified_missed (hd : f.dir = false) (hv : mdVerdict f.md = 0) (hc : mdChosen f.md = false) (punt : Nat) :
    s.classified h f 0 punt = (s.countCls h 0x12 1).toException h f 1 0 := by
  rw [State.classified, if_neg (by decide), if_neg (by rw [hv]; decide), if_pos ⟨hd, hc, hv⟩]

theorem State.classified_dropped (hv : mdVerdict f.md = 1) (hm : mdMirror f.md = 0) (punt : Nat) :
    s.classified h f 0 punt = (s.countCls h 0x16 1).lostSend f := by
  have hmiss : ¬ (f.dir = false ∧ mdChosen f.md = false ∧ mdVerdict f.md = 0) := by simp [hv]
  rw [State.classified, if_neg (by decide), if_neg (by rw [hv]; decide), if_neg hmiss, State.mirrorAndCheck]
  simp only [hm, ne_eq, not_true_eq_false, if_false, if_pos hv]

/-- A received frame that no check stops waits for its release in order. -/
theorem State.classified_passed (hd : f.dir = false) (hv : mdVerdict f.md = 0) (hc : mdChosen f.md = true)
    (hm : mdMirror f.md = 0) (ha : mdAprog f.md = 0) (hp : f.polEn = false) (hs : (s.slice (mdSlice f.md)).st = .enabled)
    (hq : s.rxQueueOk (mdSlice f.md) (mdQueue f.md) = true) (punt : Nat) :
    s.classified h f 0 punt = s.addFlight h { f with stage := .ordered } := by
  have hiso : s.isolate h f = none := by
    simp [State.isolate, hd, hs, hq]
  have hpass : s.afterChecks h f = s.addFlight h { f with stage := .ordered } := by
    simp [State.afterChecks, hp, ha]
  rw [State.classified, if_neg (by decide), if_neg (by rw [hv]; decide), if_neg (by simp [hc]), State.mirrorAndCheck]
  simp only [hm, hv, ne_eq, not_true_eq_false, if_false, hiso, hpass]
  rfl

end

/-! ### A frame enters a pipeline (R163, R164, R170, R175) -/

section
variable (s : State) (h : Half) (f : Frame)

/-- The device with the next number of a frame's stream given. -/
def State.numbering : State := (s.numberFrame h f).1

/-- The number that a frame gets in its stream. -/
def State.nextSeq : Nat := mget (s.half h).cls.numbered f.stream 0

theorem State.numbering_half : (s.numbering h f).half h =
    { s.half h with
      cls := { (s.half h).cls with numbered := mset (s.half h).cls.numbered f.stream (s.nextSeq h f + 1) 0 } } :=
  s.onHalf_half h _

theorem State.numbering_cnt (i c : Nat) : (s.numbering h f).cnt i c = s.cnt i c := s.onHalf_cnt h _ i c

theorem State.numbering_slices : (s.numbering h f).slices = s.slices := s.onHalf_slices h _

theorem State.numbering_wqs : (s.numbering h f).wqs = s.wqs := s.onHalf_wqs h _

/-- What a frame becomes by parsing depends on the parameters alone, not on the numbers given. -/
theorem State.parsed_numbering (pipe n : Nat) (p : Psr) :
    (s.numbering h f).parsed h { f with seq := n, pipe := pipe } p = { s.parsed h f p with seq := n, pipe := pipe } := by
  cases h <;> rfl

/-- The frame as the stages of a pipeline leave it. -/
def Frame.staged (g : Frame) (pipe n : Nat) (y : Staged) : Frame :=
  { g with pipe := pipe, seq := n, md := y.md, polEn := y.polEn, leafSet := y.leafSet }

variable (pipe : Nat)

theorem State.enterPipe_eq {p : Psr} (hp : p = parse (s.half h).cls.live f.bytes) {y : Staged}
    (hy : y = if p.err ≠ 0 then { md := (s.parsed h f p).md }
      else (s.half h).cls.live.classify (b2n f.dir) (s.parsed h f p).bytes (s.parsed h f p).md) :
    s.enterPipe h pipe f = ((s.numbering h f).countStages h (b2n f.dir) y.marks).classified h
      ((s.parsed h f p).staged pipe (s.nextSeq h f) y) p.err y.punt := by
  have hnum : s.numberFrame h f = (s.numbering h f, { f with seq := s.nextSeq h f }) := rfl
  have hlive : ((s.numbering h f).half h).cls.live = (s.half h).cls.live := by rw [State.numbering_half]
  simp only [State.enterPipe, hnum, hlive, ← hp, State.parsed_numbering, ← hy]
  rfl

end

/-- The device with a frame numbered and its hits and misses counted, before the end of its classification. -/
def State.throughStages (s : State) (h : Half) (f : Frame) (y : Staged) : State :=
  (s.numbering h f).countStages h (b2n f.dir) y.marks

section
variable (s : State) (h : Half) (f : Frame) (y : Staged)

theorem State.throughStages_cnt (hm : ∀ m ∈ y.marks, m.1 < 4) {d : Nat} (hd : 0x10 < d) :
    (s.throughStages h f y).cnt (0x6200 + h.num) d = s.cnt (0x6200 + h.num) d := by
  have hdir : b2n f.dir ≤ 1 := by cases f.dir <;> decide
  rw [State.throughStages, State.countStages_cnt _ h _ _ hd hdir hm, State.numbering_cnt]

theorem State.throughStages_flight : ((s.throughStages h f y).half h).cls.flight = (s.half h).cls.flight :=
  (congrArg Prod.snd (State.countStages_ingress (s.numbering h f) h _ _ h)).trans
    (by rw [HalfSt.ingress, State.numbering_half])

theorem State.throughStages_numbered :
    ((s.throughStages h f y).half h).cls.numbered = mset (s.half h).cls.numbered f.stream (s.nextSeq h f + 1) 0 :=
  (congrArg Prod.fst (State.countStages_ingress (s.numbering h f) h _ _ h)).trans
    (by rw [HalfSt.ingress, State.numbering_half])

theorem State.throughStages_slices : (s.throughStages h f y).slices = s.slices :=
  (State.countStages_slices _ h _ _).trans (s.numbering_slices h f)

theorem State.throughStages_wqs : (s.throughStages h f y).wqs = s.wqs :=
  (State.countStages_wqs _ h _ _).trans (s.numbering_wqs h f)

/-- Whatever becomes of the frame, its number has been given. -/
theorem State.throughStages_classified_numbered (g : Frame) (err : Nat) :
    mget (((s.throughStages h f y).classified h g err y.punt).half h).cls.numbered f.stream 0 = s.nextSeq h f + 1 := by
  rw [State.classified_numbered, State.throughStages_numbered, mget_mset_same]

end

theorem State.slice_of_slices {t s : State} (h : t.slices = s.slices) (id : Nat) : t.slice id = s.slice id := by
  rw [State.slice, h, State.slice]

theorem State.rxQueueOk_of_eq {t s : State} (hs : t.slices = s.slices) (hw : t.wqs = s.wqs) (id n : Nat) :
    t.rxQueueOk id n = s.rxQueueOk id n := by
  have hwq : t.wq = s.wq := funext fun k => by rw [State.wq, hw, State.wq]
  rw [State.rxQueueOk, State.rxQueueOk, State.slice_of_slices hs, hwq]

section
variable {s s1 : State} {h : Half} {p : Frame → Bool} {f : Frame} (ht : s.takeFlight h p = some (f, s1))
include ht

theorem State.takeFlight_live : (s1.half h).cls.live = (s.half h).cls.live := by
  obtain ⟨rest, rfl⟩ := State.takeFlight_eq ht
  rw [State.setFlight, State.onHalf_half]

theorem State.takeFlight_nextSeq : s1.nextSeq h f = s.nextSeq h f := by
  obtain ⟨rest, rfl⟩ := State.takeFlight_eq ht
  rw [State.nextSeq, State.setFlight, State.onHalf_half, State.nextSeq]

theorem State.takeFlight_parsed (x : Psr) : s1.parsed h f x = s.parsed h f x := by
  simp only [State.parsed, State.hashKey, State.hashOuter, State.takeFlight_param ht]

theorem State.takeFlight_slices : s1.slices = s.slices := by
  obtain ⟨rest, rfl⟩ := State.takeFlight_eq ht
  exact s.onHalf_slices h _

theorem State.takeFlight_wqs : s1.wqs = s.wqs := by
  obtain ⟨rest, rfl⟩ := State.takeFlight_eq ht
  exact s.onHalf_wqs h _

/-- Taking a frame out counts nothing. -/
theorem State.takeFlight_restat (t : Map Nat) : { { s1 with stat := t } with stat := s.stat } = s1 := by
  obtain ⟨rest, rfl⟩ := State.takeFlight_eq ht
  cases h <;> rfl

end

section
variable {s s1 : State} {h : Half} {f : Frame} (hf : s.forwards h = true)
  (ht : s.takeFlight h (fun x => x.stage = .parse) = some (f, s1))
include hf ht

theorem exec_pipelineEntry_noPipe (hc : s.choosePipe h = none) :
    exec (.pipelineEntry h) s = .next ((s1.countH 0x6A00 h 1 1).lostSend f) := by
  have hc1 : s1.choosePipe h = none := (State.takeFlight_choosePipe ht).trans hc
  refine congrArg Host.Outcome.next ?_
  simp only [State.pipelineEntry, hf, Bool.true_eq_false, if_false, ht, hc1]

theorem exec_pipelineEntry {pipe : Nat} (hc : s.choosePipe h = some pipe) {p : Psr} (hp : p = parse (s.half h).cls.live f.bytes)
    {y : Staged} (hy : y = if p.err ≠ 0 then { md := (s.parsed h f p).md }
      else (s.half h).cls.live.classify (b2n f.dir) (s.parsed h f p).bytes (s.parsed h f p).md) :
    exec (.pipelineEntry h) s = .next ((s1.throughStages h f y).classified h
      ((s.parsed h f p).staged pipe (s.nextSeq h f) y) p.err y.punt) := by
  have hc1 : s1.choosePipe h = some pipe := (State.takeFlight_choosePipe ht).trans hc
  refine congrArg Host.Outcome.next ?_
  simp only [State.pipelineEntry, hf, Bool.true_eq_false, if_false, ht, hc1]
  rw [← State.takeFlight_live ht] at hp hy
  rw [← State.takeFlight_parsed ht] at hy ⊢
  rw [← State.takeFlight_nextSeq ht]
  exact s1.enterPipe_eq h f pipe hp hy

end

theorem exec_orderedRelease {s s1 : State} {h : Half} {stream : Nat} {f : Frame}
    (ht : s.takeFlight h (fun x => x.stage = .ordered && x.stream = stream) = some (f, s1)) :
    exec (.orderedRelease h stream) s = .next (s1.addFlight h { f with stage := if f.dir then .espTx else .tmgr }) := by
  refine congrArg Host.Outcome.next ?_
  simp only [State.orderedRelease, ht]

/-! ### Transmit steering (R184) -/

@[simp] theorem State.steerSel_accepted (s : State) (w : Who) (ss : Session) : (s.accepted w).steerSel ss = s.steerSel ss :=
  State.sel_accepted _ _ _ _ _

/-- A granted write whose selection names no object has no effect. -/
theorem State.write_notFound {s : State} {w : Who} {i sub : Nat} {data : List Byte} {busy sel : State → Bool}
    {act : State → Option State} (hg : s.grants w i sub data = true) (hb : busy (s.accepted w) = false)
    (hsel : sel (s.accepted w) = false) :
    (s.write w i sub data busy sel act).out w = .next ((s.accepted w).emit (.resp w.sess rsNotFound [])) := by
  rw [State.write_granted hg, if_neg (by simp [hb]), if_pos hsel]
  rfl

section
variable {s : State} {w : Who} {rec : BitVec 288} (hg : s.grants w 0xA010 2 (leBytes 36 rec.toNat) = true)

/-- A TX_STEER record taken for the slice that the session has selected. -/
def State.steerTaken (s : State) (w : Who) (rec : BitVec 288) : State :=
  (s.accepted w).setParams (s.server w.sess) 0xA010 2 (s.steerSel w.sess) rec.toNat

include hg

theorem exec_txSteerWrite_taken (hu : (s.slice (s.steerSel w.sess)).used = true) (hp : fld rec 16 8 < 16)
    (hh : s.cstl.split = true → recHome (s.slice (s.steerSel w.sess)).record = s.server w.sess) :
    exec (.txSteerWrite w rec) s = .next ((s.steerTaken w rec).emit (.resp w.sess rsOk [])) := by
  have hsel : ((s.accepted w).slice ((s.accepted w).steerSel w.sess)).used = true := by
    rw [State.steerSel_accepted]
    exact hu
  refine State.write_done hg rfl hsel ?_
  simp only [State.steerSel_accepted]
  exact if_neg (not_or.mpr ⟨Nat.not_le.mpr hp, fun ⟨hj, hne⟩ => hne (hh hj)⟩)

theorem exec_txSteerWrite_notFound (hu : (s.slice (s.steerSel w.sess)).used = false) :
    exec (.txSteerWrite w rec) s = .next ((s.accepted w).emit (.resp w.sess rsNotFound [])) := by
  refine State.write_notFound hg rfl ?_
  rw [State.steerSel_accepted]
  exact hu

theorem exec_txSteerWrite_refused (hu : (s.slice (s.steerSel w.sess)).used = true) (hp : 16 ≤ fld rec 16 8) :
    exec (.txSteerWrite w rec) s = .next ((s.accepted w).emit (.resp w.sess rsRefused [])) := by
  refine State.write_refused hg rfl ?_ (if_pos (.inl hp))
  rw [State.steerSel_accepted]
  exact hu

end

section
variable (s : State) (w : Who) (rec : BitVec 288)

theorem State.steerTaken_self (hh : s.cstl.split = true → recHome (s.slice (s.steerSel w.sess)).record = s.server w.sess) :
    (s.steerTaken w rec).txSteer (recHome (s.slice (s.steerSel w.sess)).record) (s.steerSel w.sess) = rec.toNat := by
  rw [State.txSteer, State.steerTaken]
  cases hj : s.cstl.split
  · exact State.param_setParams_joined (s := s.accepted w) hj _ _ _ _ _ _ _
  · rw [hh hj]
    exact State.param_setParams_self _ _ _ _ _ _ _

theorem State.steerTaken_of_ne {j : Nat} (hj : j ≠ s.steerSel w.sess) (h : Half) :
    (s.steerTaken w rec).txSteer h j = s.txSteer h j := by
  have hkey : okey 0xA010 2 j ≠ okey 0xA010 2 (s.steerSel w.sess) := by
    simp only [okey]
    omega
  rw [State.txSteer, State.steerTaken, State.param_setParams_of_ne hkey]
  cases h <;> rfl

theorem State.steerTaken_quiet : { (s.steerTaken w rec).quiet with mgmt := s.quiet.mgmt } = s.quiet :=
  congrArg (fun a : State => { a with mgmt := s.quiet.mgmt }) (State.setParams_quiet (s.accepted w) _ _ _ _ _)

end

/-- Settles O23: the frame that enters is numbered before it is parsed and classified, so whatever becomes of it its number has been
given; the end of its classification then sends it to the exception pool, drops it, or lets it wait for its release. That a frame which
finds no pipeline in service is counted in CAPACITY_DROP is the model's choice (log 67). -/
theorem classificationOfFrames : Obligations.ClassificationOfFrames := by
  unfold Obligations.ClassificationOfFrames
  refine ⟨fun s s1 h f hf ht => ⟨fun hc hd => ⟨_, exec_pipelineEntry_noPipe hf ht hc, ?noPipe⟩,
      fun pipe p g y hc hp hg hy => ?entry⟩,
    fun s s1 h stream f ht => exec_orderedRelease ht,
    fun s w rec hg => ⟨fun hu hp hh => ⟨_, exec_txSteerWrite_taken hg hu hp hh, rfl, s.steerTaken_self w rec hh,
        fun h j hj => s.steerTaken_of_ne w rec hj h, s.steerTaken_quiet w rec⟩,
      fun hu => ⟨_, exec_txSteerWrite_notFound hg hu, rfl, s.accepted_quiet w⟩,
      fun hu hp => ⟨_, exec_txSteerWrite_refused hg hu hp, rfl, s.accepted_quiet w⟩⟩⟩
  case noPipe =>
    rw [State.lostSend_of_received hd, State.cnt_countH_self, State.takeFlight_cnt ht]
    exact ⟨rfl, State.takeFlight_restat ht _⟩
  case entry =>
    subst hg
    have hnum := fun y g err => (s1.throughStages_classified_numbered h f y g err).trans
      (congrArg (· + 1) (State.takeFlight_nextSeq ht))
    by_cases he : p.err = 0
    · have hexec := exec_pipelineEntry hf ht hc hp (y := y) (by rw [if_neg (not_not.mpr he)]; exact hy)
      have hcnt : ∀ {d}, 0x10 < d → (s1.throughStages h f y).cnt (0x6200 + h.num) d = s.cnt (0x6200 + h.num) d := fun hd =>
        (s1.throughStages_cnt h f y (hy ▸ Tables.classify_marks _ _ _ _) hd).trans (State.takeFlight_cnt ht _ _)
      rw [he] at hexec
      refine ⟨_, hexec, hnum y _ _, fun h => absurd he h, fun _ hd hv hch => ?miss, fun _ hv hm => ?drop,
        fun _ hd hv hch hm ha hpol hs hq => ?pass⟩
      case miss =>
        obtain ⟨hcount, hflight⟩ := (s1.throughStages h f y).toException_counted (c := 0x12) (by decide) (by decide) h
          ((s.parsed h f p).staged pipe (s.nextSeq h f) y) 1 0
        rw [State.classified_missed (f := (s.parsed h f p).staged _ _ y) hd hv hch]
        exact ⟨hcount.trans (congrArg (· + 1) (hcnt (by decide))), hflight.trans (s1.throughStages_flight h f y)⟩
      case drop =>
        rw [State.classified_dropped hv hm, State.cnt_of_besideQueues (State.lostSend_besideQueues _ _), State.cnt_countCls_self,
          hcnt (by decide)]
        exact ⟨rfl, (State.flight_of_ingress ((State.lostSend_ingress _ h _).trans
          (State.countCls_ingress _ h h _ _))).trans (s1.throughStages_flight h f y)⟩
      case pass =>
        have hslices := (s1.throughStages_slices h f y).trans (State.takeFlight_slices ht)
        have hwqs := (s1.throughStages_wqs h f y).trans (State.takeFlight_wqs ht)
        rw [State.classified_passed (f := (s.parsed h f p).staged _ _ y) hd hv hch hm ha hpol
          ((congrArg Slice.st (State.slice_of_slices hslices _)).trans hs) ((State.rxQueueOk_of_eq hslices hwqs _ _).trans hq),
          State.addFlight_flight, State.throughStages_flight, ← hpol]
        rfl
    · have hexec := exec_pipelineEntry hf ht hc hp rfl
      rw [if_pos he] at hexec
      refine ⟨_, hexec, hnum _ _ _, fun _ => ?failed, fun h => absurd h he, fun h => absurd h he, fun h => absurd h he⟩
      obtain ⟨hcount, hflight⟩ := (s1.throughStages h f { md := (s.parsed h f p).md }).toException_counted (c := 0x11)
        (by decide) (by decide) h ((s.parsed h f p).staged pipe (s.nextSeq h f) { md := (s.parsed h f p).md }) 2 p.err
      have hcnt := s1.throughStages_cnt h f { md := (s.parsed h f p).md } (by simp) (d := 0x11) (by decide)
      rw [State.classified_failed he]
      exact ⟨hcount.trans (congrArg (· + 1) (hcnt.trans (State.takeFlight_cnt ht _ _))),
        hflight.trans (s1.throughStages_flight h f _)⟩

end Sys2Proof.Machine
end

section
/-! SUPPORT. Fields of words, the nodes and the policers of the traffic manager, and what leaves them unchanged: the end of an
ETH_SEND, and whatever else a request touches (08 R192, R200, R201, R208). -/

namespace Sys2Proof.Machine
open Sys2Proof

/-! ### Fields of words -/

/-- A word with a field replaced, as the part above the field, the field and the part below it. -/
theorem toNat_setFld {n lo w : Nat} (h : lo + w ≤ n) (v : BitVec n) (x : Nat) :
    (setFld v lo w x).toNat = 2 ^ lo * (2 ^ w * (v.toNat / 2 ^ (lo + w)) + x % 2 ^ w) + v.toNat % 2 ^ lo := by
  have hlo : 0 < 2 ^ lo := Nat.two_pow_pos lo
  have hf : x % 2 ^ w < 2 ^ w := Nat.mod_lt _ (Nat.two_pow_pos w)
  have hsplit : v.toNat = 2 ^ lo * (2 ^ w * (v.toNat / 2 ^ (lo + w)) + v.toNat / 2 ^ lo % 2 ^ w) + v.toNat % 2 ^ lo := by
    rw [Nat.pow_add, ← Nat.div_div_eq_div_mul, Nat.div_add_mod, Nat.div_add_mod]
  have htop : v.toNat / 2 ^ (lo + w) < 2 ^ (n - (lo + w)) := by
    rw [Nat.div_lt_iff_lt_mul (Nat.two_pow_pos _), ← Nat.pow_add, Nat.sub_add_cancel h]
    exact v.isLt
  have hfit : 2 ^ lo * (2 ^ w * (v.toNat / 2 ^ (lo + w)) + x % 2 ^ w) + v.toNat % 2 ^ lo < 2 ^ n := by
    have hn : 2 ^ n = 2 ^ lo * (2 ^ w * 2 ^ (n - (lo + w))) := by
      rw [← Nat.pow_add, ← Nat.pow_add]
      congr 1
      omega
    have hmid : 2 ^ w * (v.toNat / 2 ^ (lo + w)) + x % 2 ^ w + 1 ≤ 2 ^ w * 2 ^ (n - (lo + w)) :=
      calc _ ≤ 2 ^ w * (v.toNat / 2 ^ (lo + w)) + 2 ^ w := by omega
        _ = 2 ^ w * (v.toNat / 2 ^ (lo + w) + 1) := (Nat.mul_succ _ _).symm
        _ ≤ _ := Nat.mul_le_mul_left _ htop
    have hall := Nat.mul_le_mul_left (2 ^ lo) hmid
    rw [Nat.mul_succ, ← hn] at hall
    exact Nat.lt_of_lt_of_le (Nat.add_lt_add_left (Nat.mod_lt _ hlo) _) hall
  have hval : v.toNat - v.toNat / 2 ^ lo % 2 ^ w * 2 ^ lo + x % 2 ^ w * 2 ^ lo
      = 2 ^ lo * (2 ^ w * (v.toNat / 2 ^ (lo + w)) + x % 2 ^ w) + v.toNat % 2 ^ lo := by
    rw [Nat.mul_add, Nat.mul_comm (2 ^ lo) (v.toNat / 2 ^ lo % 2 ^ w)] at hsplit
    rw [Nat.mul_add, Nat.mul_comm (2 ^ lo) (x % 2 ^ w)]
    omega
  rw [setFld, hval, BitVec.toNat_ofNat, Nat.mod_eq_of_lt hfit]

/-- A bit of a word with a field replaced. -/
theorem testBit_setFld {n lo w : Nat} (h : lo + w ≤ n) (v : BitVec n) (x i : Nat) :
    (setFld v lo w x).toNat.testBit i = if lo ≤ i ∧ i < lo + w then x.testBit (i - lo) else v.toNat.testBit i := by
  rw [toNat_setFld h, Nat.testBit_two_pow_mul_add _ (Nat.mod_lt _ (Nat.two_pow_pos lo)),
    Nat.testBit_two_pow_mul_add _ (Nat.mod_lt _ (Nat.two_pow_pos w))]
  by_cases hlo : i < lo
  · rw [if_pos hlo, if_neg (by omega), Nat.testBit_mod_two_pow]
    simp [hlo]
  · rw [if_neg hlo]
    by_cases hw : i - lo < w
    · rw [if_pos hw, if_pos (by omega), Nat.testBit_mod_two_pow]
      simp [hw]
    · rw [if_neg hw, if_neg (by omega), Nat.testBit_div_two_pow]
      congr 1
      omega

theorem testBit_fld {n : Nat} (v : BitVec n) (lo w i : Nat) :
    (fld v lo w).testBit i = (decide (i < w) && v.toNat.testBit (lo + i)) := by
  rw [fld, Nat.testBit_mod_two_pow, Nat.testBit_div_two_pow, Nat.add_comm i lo]

theorem bit_eq_testBit {n : Nat} (v : BitVec n) (i : Nat) : bit v i = v.toNat.testBit i := rfl

/-- The field replaced. -/
theorem fld_setFld_self {n lo w : Nat} (h : lo + w ≤ n) (v : BitVec n) (x : Nat) :
    fld (setFld v lo w x) lo w = x % 2 ^ w := by
  refine Nat.eq_of_testBit_eq fun i => ?_
  rw [testBit_fld, testBit_setFld h, Nat.testBit_mod_two_pow]
  by_cases hi : i < w
  · rw [if_pos (by omega), Nat.add_sub_cancel_left]
  · simp [hi]

/-- A field that shares no bit with the one replaced. -/
theorem fld_setFld_of_disjoint {n lo w lo' w' : Nat} (h : lo + w ≤ n) (hd : lo' + w' ≤ lo ∨ lo + w ≤ lo') (v : BitVec n) (x : Nat) :
    fld (setFld v lo w x) lo' w' = fld v lo' w' := by
  refine Nat.eq_of_testBit_eq fun i => ?_
  rw [testBit_fld, testBit_fld, testBit_setFld h]
  by_cases hi : i < w'
  · rw [if_neg (by omega)]
  · simp [hi]

theorem bit_setFld_of_disjoint {n lo w i : Nat} (h : lo + w ≤ n) (hd : i < lo ∨ lo + w ≤ i) (v : BitVec n) (x : Nat) :
    bit (setFld v lo w x) i = bit v i := by
  rw [bit_eq_testBit, bit_eq_testBit, testBit_setFld h, if_neg (by omega)]

/-- A bit replaced by one of another word. -/
theorem bit_setFld_self {n i : Nat} (h : i + 1 ≤ n) (v u : BitVec n) : bit (setFld v i 1 (fld u i 1)) i = bit u i := by
  rw [bit_eq_testBit, bit_eq_testBit, testBit_setFld h, if_pos (by omega), testBit_fld, Nat.sub_self]
  exact Bool.true_and _

theorem fld_mod {n : Nat} (v : BitVec n) (lo w : Nat) : fld v lo w % 2 ^ w = fld v lo w := Nat.mod_mod _ _

/-! ### The end of an ETH_SEND leaves the traffic manager (R156) -/

/-- The traffic managers of the two halves. -/
def State.tmgrs (s : State) : Tmgr × Tmgr := (s.k.tmgr, s.q.tmgr)

theorem State.tmgr_of_tmgrs {t s : State} (h : t.tmgrs = s.tmgrs) (g : Half) : (t.half g).tmgr = (s.half g).tmgr := by
  obtain ⟨hk, hq⟩ := Prod.mk.inj h
  cases g
  · exact hk
  · exact hq

/-- A change of a half that spares its traffic manager. -/
theorem State.onHalf_tmgrs {s : State} {h : Half} {f : HalfSt → HalfSt} (hf : (f (s.half h)).tmgr = (s.half h).tmgr) :
    (s.onHalf h f).tmgrs = s.tmgrs := by
  cases h
  · exact congrArg (·, s.q.tmgr) hf
  · exact congrArg (s.k.tmgr, ·) hf

theorem State.onlyIrq.tmgrs {t s : State} (h : t.onlyIrq s) : t.tmgrs = s.tmgrs := by
  rw [← h.eq]
  rfl

section
variable (s : State)

theorem State.logOn_tmgrs (h : Half) {code cls unit sl action detail : Nat} (hc : cls < 3) :
    (s.logOn h code cls unit sl action detail).tmgrs = s.tmgrs := by
  simp only [State.logOn, if_pos hc]
  exact State.onHalf_tmgrs rfl

theorem State.setQp_tmgrs (h : Half) (i : Nat) (x : Qp) : (s.setQp h i x).tmgrs = s.tmgrs := State.onHalf_tmgrs rfl

theorem State.setQueue_tmgrs (q : Nat) (w : Wq) : (s.setQueue q w).tmgrs = s.tmgrs := by
  unfold State.setQueue
  split
  · rfl
  · exact State.setQp_tmgrs _ _ _ _

theorem State.raiseFault_tmgrs (fk i kind n : Nat) : (s.raiseFault fk i kind n).tmgrs = s.tmgrs := by
  simp only [State.raiseFault]
  split
  · exact (State.vectorDue_onlyIrq _ _ _ _).tmgrs
  · rfl

theorem State.raiseCopyFault_tmgrs (ch : Nat) : (s.raiseCopyFault ch).tmgrs = s.tmgrs := by
  simp only [State.raiseCopyFault, (State.vectorDue_onlyIrq _ _ _ _).tmgrs]
  rfl

theorem State.cqFault_tmgrs (k : Nat) : (s.cqFault k).tmgrs = s.tmgrs := by
  simp only [State.cqFault]
  split
  · exact (State.raiseCopyFault_tmgrs _ _).trans (State.logOn_tmgrs _ _ (by decide))
  · exact (State.raiseFault_tmgrs _ _ _ _ _).trans (State.logOn_tmgrs _ _ (by decide))

theorem State.closeAbort_tmgrs (q : Nat) : (s.closeAbort q).tmgrs = s.tmgrs := by
  unfold State.closeAbort
  split
  · exact State.setQueue_tmgrs _ _ _
  · split <;> rfl

theorem State.writeCpl_tmgrs (x : HeldCpl) : (s.writeCpl x).tmgrs = s.tmgrs := by
  have hblotter := fun a : State => (State.blotter_onlyIrq a x.cq).tmgrs
  simp only [State.writeCpl]
  split
  · exact (State.closeAbort_tmgrs _ _).trans (hblotter _)
  · exact hblotter _

theorem State.produce_tmgrs (x : HeldCpl) (canWrite : Bool) : (s.produce x canWrite).tmgrs = s.tmgrs := by
  simp only [State.produce]
  split
  · rfl
  · split
    · rfl
    · split
      · exact State.writeCpl_tmgrs s x
      · exact State.cqFault_tmgrs _ _

theorem State.drainDue_tmgrs (fk : Nat) (todo : List HeldCpl) :
    ∀ (s : State) (kept : List HeldCpl), (s.drainDue fk todo kept).tmgrs = s.tmgrs := by
  induction todo with
  | nil => exact fun s kept => rfl
  | cons x rest ih =>
    intro s kept
    unfold State.drainDue
    split
    · exact (ih _ _).trans (State.produce_tmgrs _ x true)
    · exact ih _ _

theorem State.endAbort_tmgrs (q status : Nat) : (s.endAbort q status).tmgrs = s.tmgrs := by
  simp only [State.endAbort]
  split
  · rfl
  · split
    · rfl
    · exact State.drainDue_tmgrs _ _ _ _

theorem State.drained_tmgrs (q : Nat) : (s.drained q).tmgrs = s.tmgrs := by
  have hshadow := fun (a : State) fk head st => (State.shadow_onlyIrq a fk q head st).tmgrs
  simp only [State.drained]
  split
  · rfl
  · split
    · rw [hshadow, State.setQueue_tmgrs, State.endAbort_tmgrs]
    · split
      · rw [hshadow, State.endAbort_tmgrs]
      · rfl

theorem State.finish_tmgrs (q : Nat) (e : Entry) (status bytes qflags data : Nat) (canWrite : Bool) :
    (s.finish q e status bytes qflags data canWrite).tmgrs = s.tmgrs := by
  simp only [State.finish, State.drained_tmgrs]
  split
  · split
    · rw [State.endAbort_tmgrs, State.produce_tmgrs, State.setQueue_tmgrs]
    · rw [State.produce_tmgrs, State.setQueue_tmgrs]
  · rw [State.produce_tmgrs, State.setQueue_tmgrs]

theorem State.endSend_tmgrs (f : Frame) (status qflags data : Nat) (canWrite : Bool) :
    (s.endSend f status qflags data canWrite).tmgrs = s.tmgrs := by
  simp only [State.endSend]
  split
  · split
    · exact State.finish_tmgrs _ _ _ _ _ _ _ _
    · rfl
  · rfl

theorem State.lostSends_tmgrs (fs : List Frame) : (s.lostSends fs).tmgrs = s.tmgrs :=
  State.foldl_unchanged (fun a f => a.endSend_tmgrs f _ _ _ _) fs s

end

/-! ### Nodes and policers (R200, R208) -/

/-- A table read at another key than the one set. -/
theorem mget_mset_of_ne {α : Type} [DecidableEq α] {k j : Nat} (hj : j ≠ k) (m : Map α) (v d e : α) :
    mget (mset m k v d) j e = mget m j e := by
  unfold mset
  split
  · rw [mget_merase, if_neg hj]
  · rw [mget_mput, if_neg hj]

section
variable (s : State) (h : Half) (level n : Nat) (x : Node)

theorem State.tmgr_setNode : ((s.setNode h level n x).half h).tmgr =
    { (s.half h).tmgr with nodes := mset (s.half h).tmgr.nodes (nodeKey level n) x (nodeDefault level n) } := by
  rw [State.setNode, State.onHalf_half]

@[simp] theorem State.node_setNode_self : (s.setNode h level n x).node h level n = x := by
  rw [State.node, State.tmgr_setNode, mget_mset_same]

theorem State.node_setNode_of_ne {l m : Nat} (hk : nodeKey l m ≠ nodeKey level n) :
    (s.setNode h level n x).node h l m = s.node h l m := by
  rw [State.node, State.tmgr_setNode]
  exact mget_mset_of_ne hk _ _ _ _

end

theorem State.node_of_tmgr {t s : State} {h : Half} (ht : (t.half h).tmgr = (s.half h).tmgr) (l m : Nat) :
    t.node h l m = s.node h l m := by
  rw [State.node, ht, State.node]

theorem State.policer_setPolicer (s : State) (h : Half) (i j : Nat) (x : Policer) :
    (s.setPolicer h i x).policer h j = if j = i then x else s.policer h j := by
  rw [State.policer, State.setPolicer, State.onHalf_half, mget_mset, State.policer]

theorem State.setParam_half (s : State) (h : Half) (i sub sel v : Nat) (g : Half) : (s.setParam h i sub sel v).half g = s.half g := by
  cases g
  · exact State.setParam_k _ _ _ _ _ _
  · exact State.setParam_q _ _ _ _ _ _

/-! ### Reserved cells (R192, R193) -/

theorem State.param_of_params {t s : State} (hp : t.params = s.params) : t.param = s.param := by
  funext g i sub sel d
  rw [State.param, hp, State.param]

/-- The reserved cells of a half follow from its traffic manager and the parameters. -/
theorem State.reservedCells_congr {t s : State} {h : Half} (ht : (t.half h).tmgr = (s.half h).tmgr) (hp : t.params = s.params) :
    t.reservedCells h = s.reservedCells h := by
  have hparam := State.param_of_params hp
  have hheld : t.heldLeaves h = s.heldLeaves h := by rw [State.heldLeaves, ht, State.heldLeaves]
  have hmin : t.leafMin h = s.leafMin h := by
    funext l
    rw [State.leafMin, State.profile, hparam, State.node_of_tmgr ht, State.leafMin, State.profile]
  have hlossless : t.lossless = s.lossless := by
    funext n p
    rw [State.lossless, hparam, State.lossless]
  have hroom : t.headroomCells = s.headroomCells := by
    funext n
    rw [State.headroomCells, State.pfcThresh, hparam, State.headroomCells, State.pfcThresh]
  rw [State.reservedCells, hheld, hmin, hlossless, hroom, State.reservedCells]

theorem overReserved_congr {s a t b : State} {h : Half} (hs : a.reservedCells h = s.reservedCells h)
    (ht : b.reservedCells h = t.reservedCells h) : overReserved a b h = overReserved s t h := by
  rw [overReserved, hs, ht, overReserved]

theorem State.params_of_mgmt {t s : State} (h : t.mgmt = s.mgmt) : t.params = s.params := by
  funext g
  cases g
  · exact congrArg Mgmt.paramsK h
  · exact congrArg Mgmt.paramsQ h

/-- A value set on a half of a state that has the parameters of another. -/
theorem State.setParam_params_congr {t s : State} (hp : t.params = s.params) (h : Half) (i sub sel v : Nat) :
    (t.setParam h i sub sel v).params = (s.setParam h i sub sel v).params := by
  have hk : t.mgmt.paramsK = s.mgmt.paramsK := congrFun hp .k
  have hq : t.mgmt.paramsQ = s.mgmt.paramsQ := congrFun hp .q
  funext g
  cases h <;> cases g <;> simp only [State.params, State.setParam, hk, hq]

theorem State.accepted_params (s : State) (w : Who) : (s.accepted w).params = s.params := by
  funext g
  cases g <;> rfl

theorem State.accepted_reservedCells (s : State) (w : Who) (h : Half) : (s.accepted w).reservedCells h = s.reservedCells h :=
  State.reservedCells_congr (congrArg HalfSt.tmgr (s.accepted_half w h)) (s.accepted_params w)

end Sys2Proof.Machine
end

section
/-! SUPPORT. Writes of a node's record: what takes effect at once, what waits, and the frames of a leaf that is disabled (08 R193, R201,
R202, R205). -/

namespace Sys2Proof.Machine
open Sys2Proof

/-! ### Records as the device takes them (R201, R205) -/

section
variable (old new : BitVec 256)

theorem ndEnable_nodeNow : ndEnable (nodeNow old new) = ndEnable new := by
  rw [ndEnable, nodeNow, bit_setFld_of_disjoint (by decide) (by decide), bit_setFld_of_disjoint (by decide) (by decide),
    bit_setFld_of_disjoint (by decide) (by decide), bit_setFld_self (by decide), ndEnable]

theorem ndAttach_nodeNow : ndAttach (nodeNow old new) = ndAttach new := by
  rw [ndAttach, nodeNow, fld_setFld_of_disjoint (by decide) (by decide), fld_setFld_of_disjoint (by decide) (by decide),
    fld_setFld_self (by decide)]
  exact fld_mod _ _ _

theorem ndTc_nodeNow : ndTc (nodeNow old new) = ndTc new := by
  rw [ndTc, nodeNow, fld_setFld_of_disjoint (by decide) (by decide), fld_setFld_self (by decide)]
  exact fld_mod _ _ _

theorem ndProfile_nodeNow : ndProfile (nodeNow old new) = ndProfile new := by
  rw [ndProfile, nodeNow, fld_setFld_self (by decide)]
  exact fld_mod _ _ _

/-- A field from bit 16 to bit 175, which waits for the next refill. -/
theorem fld_nodeNow {lo w : Nat} (hlo : 16 ≤ lo) (hw : lo + w ≤ 176) : fld (nodeNow old new) lo w = fld old lo w := by
  simp only [nodeNow]
  rw [fld_setFld_of_disjoint (by decide) (.inl hw), fld_setFld_of_disjoint (by decide) (.inr (by omega)),
    fld_setFld_of_disjoint (by decide) (.inr (by omega)), fld_setFld_of_disjoint (by decide) (.inr (by omega))]

variable (level : Nat)

/-- OWNER is not written. -/
theorem ndOwner_nodeTaken : ndOwner (nodeTaken level old new) = ndOwner old := by
  have hparent : ∀ r : BitVec 256, ndOwner (if level = 1 then r else setFld r 160 16 (ndParent old)) = ndOwner r := by
    intro r
    split
    · rfl
    · exact fld_setFld_of_disjoint (by decide) (by decide) _ _
  have howner : ndOwner (setFld new 192 16 (ndOwner old)) = ndOwner old := (fld_setFld_self (by decide) _ _).trans (fld_mod _ _ _)
  simp only [nodeTaken]
  split
  · rw [ndOwner, fld_setFld_of_disjoint (by decide) (by decide), fld_setFld_of_disjoint (by decide) (by decide), ← ndOwner, hparent,
      howner]
  · rw [hparent, howner]

/-- The record of a leaf as written, but for PARENT and OWNER. -/
theorem nodeTaken_leaf : nodeTaken 3 old new = setFld (setFld new 192 16 (ndOwner old)) 160 16 (ndParent old) := rfl

theorem ndEnable_nodeTaken : ndEnable (nodeTaken 3 old new) = ndEnable new := by
  rw [ndEnable, nodeTaken_leaf, bit_setFld_of_disjoint (by decide) (by decide), bit_setFld_of_disjoint (by decide) (by decide), ndEnable]

/-- A field of a leaf's record that is neither PARENT nor OWNER. -/
theorem fld_nodeTaken {lo w : Nat} (h : lo + w ≤ 160 ∨ 176 ≤ lo ∧ lo + w ≤ 192) :
    fld (nodeTaken 3 old new) lo w = fld new lo w := by
  rw [nodeTaken_leaf, fld_setFld_of_disjoint (by decide) (by omega), fld_setFld_of_disjoint (by decide) (by omega)]

end

/-! ### A record written to a node (R202, R205) -/

/-- A node that takes a record: what takes effect at once is in force, the rest waits. -/
def Node.taking (n : Node) (level : Nat) (r : BitVec 256) : Node :=
  { n with record := if level = 3 then nodeNow n.record r else n.record, next := some r }

/-- A leaf that is disabled has no frames. -/
def Node.written (n : Node) (level : Nat) (r : BitVec 256) : Node :=
  if level = 3 ∧ ndEnable r = false then { n.taking level r with frames := [] } else n.taking level r

section
variable (n : Node) (r : BitVec 256)

theorem Node.taking_record_of_ne {level : Nat} (hl : level ≠ 3) : (n.taking level r).record = n.record := if_neg hl

theorem Node.taking_record_leaf : (n.taking 3 r).record = nodeNow n.record r := rfl

variable (level : Nat)

theorem Node.written_next : (n.written level r).next = some r := by
  unfold Node.written
  split <;> rfl

theorem Node.written_record : (n.written level r).record = (n.taking level r).record := by
  unfold Node.written
  split <;> rfl

theorem Node.written_frames_flushed (he : ndEnable r = false) : (n.written 3 r).frames = [] := by
  rw [Node.written, if_pos ⟨rfl, he⟩]

theorem Node.written_of_kept {level : Nat} (h : level ≠ 3 ∨ ndEnable r = true) : n.written level r = n.taking level r :=
  if_neg fun ⟨hl, he⟩ => h.elim (· hl) (by simp [he])

/-- A rate waits for the next refill. -/
theorem Node.fld_written {lo w : Nat} (hlo : 16 ≤ lo) (hw : lo + w ≤ 176) :
    fld (n.written level r).record lo w = fld n.record lo w := by
  rw [Node.written_record]
  by_cases hl : level = 3
  · rw [hl, Node.taking_record_leaf, fld_nodeNow _ _ hlo hw]
  · rw [Node.taking_record_of_ne _ _ hl]

end

section
variable (s : State)

theorem State.flushLeaf_enabled {h : Half} {leaf : Nat} (he : ndEnable (s.node h 3 leaf).record = true) :
    s.flushLeaf h leaf = s := if_pos he

theorem State.flushLeaf_disabled {h : Half} {leaf : Nat} (he : ndEnable (s.node h 3 leaf).record = false) :
    s.flushLeaf h leaf
      = ((s.emptyLeaf h leaf).countTm h 8 (s.node h 3 leaf).frames.length).lostSends (s.node h 3 leaf).frames := by
  simp only [State.flushLeaf, he, Bool.false_eq_true, if_false]

/-- The node that a selection names takes a record. -/
def State.takeNode (s : State) (x : NodeSel) (r : BitVec 256) : State :=
  s.setNode x.half x.level x.num ((s.node x.half x.level x.num).taking x.level r)

/-- The frames of a leaf that a selection names are discarded. -/
def State.discardLeaf (s : State) (x : NodeSel) (fs : List Frame) : State :=
  ((s.emptyLeaf x.half x.num).countTm x.half 8 fs.length).lostSends fs

variable {x : NodeSel} {r : BitVec 256}

theorem State.writeNode_eq :
    s.writeNode x r = if x.level = 3 then (s.takeNode x r).flushLeaf x.half x.num else s.takeNode x r := rfl

/-- A node takes the record, and a leaf that the record disables discards its frames. -/
theorem State.writeNode_cases :
    ((x.level ≠ 3 ∨ ndEnable r = true) ∧ s.writeNode x r = s.takeNode x r)
    ∨ (x.level = 3 ∧ ndEnable r = false
        ∧ s.writeNode x r = (s.takeNode x r).discardLeaf x (s.node x.half x.level x.num).frames) := by
  by_cases hl : x.level = 3
  · have hnode : (s.takeNode x r).node x.half 3 x.num = (s.node x.half x.level x.num).taking x.level r := by
      rw [State.takeNode, ← hl, State.node_setNode_self]
    have hen : ndEnable ((s.takeNode x r).node x.half 3 x.num).record = ndEnable r := by
      rw [hnode, hl, Node.taking_record_leaf, ndEnable_nodeNow]
    rw [State.writeNode_eq, if_pos hl]
    cases he : ndEnable r with
    | true => exact .inl ⟨.inr rfl, State.flushLeaf_enabled _ (hen.trans he)⟩
    | false =>
      refine .inr ⟨hl, rfl, (State.flushLeaf_disabled _ (hen.trans he)).trans ?_⟩
      rw [hnode]
      rfl
  · exact .inl ⟨.inl hl, if_neg hl⟩

theorem State.countTm_half (h : Half) (sub n : Nat) (g : Half) : (s.countTm h sub n).half g = s.half g := State.count_half _ _ _ _ _

theorem State.lostSends_tmgr (fs : List Frame) (g : Half) : ((s.lostSends fs).half g).tmgr = (s.half g).tmgr :=
  State.tmgr_of_tmgrs (s.lostSends_tmgrs fs) g

theorem State.discardLeaf_tmgr (x : NodeSel) (fs : List Frame) :
    ((s.discardLeaf x fs).half x.half).tmgr = ((s.emptyLeaf x.half x.num).half x.half).tmgr := by
  rw [State.discardLeaf, State.lostSends_tmgr, State.countTm_half]

theorem State.writeNode_node :
    (s.writeNode x r).node x.half x.level x.num = (s.node x.half x.level x.num).written x.level r := by
  obtain ⟨h, hw⟩ | ⟨hl, he, hw⟩ := s.writeNode_cases (x := x) (r := r)
  · rw [hw, State.takeNode, State.node_setNode_self, Node.written_of_kept _ _ h]
  · rw [hw, State.node_of_tmgr (State.discardLeaf_tmgr _ _ _), State.takeNode, hl, State.emptyLeaf, State.node_setNode_self,
      State.node_setNode_self, Node.written, if_pos ⟨rfl, he⟩]

theorem State.writeNode_node_of_ne {l m : Nat} (hk : nodeKey l m ≠ nodeKey x.level x.num) :
    (s.writeNode x r).node x.half l m = s.node x.half l m := by
  obtain ⟨-, hw⟩ | ⟨hl, -, hw⟩ := s.writeNode_cases (x := x) (r := r)
  · rw [hw, State.takeNode, State.node_setNode_of_ne _ _ _ _ _ hk]
  · rw [hw, State.node_of_tmgr (State.discardLeaf_tmgr _ _ _), State.emptyLeaf, State.node_setNode_of_ne _ _ _ _ _ (hl ▸ hk),
      State.takeNode, State.node_setNode_of_ne _ _ _ _ _ hk]

theorem State.flushLeaf_tmgr_congr {t : State} {h : Half} (ht : (t.half h).tmgr = (s.half h).tmgr) (leaf : Nat) :
    ((t.flushLeaf h leaf).half h).tmgr = ((s.flushLeaf h leaf).half h).tmgr := by
  have hnode := State.node_of_tmgr ht 3 leaf
  cases he : ndEnable (s.node h 3 leaf).record with
  | true => rw [State.flushLeaf_enabled _ he, State.flushLeaf_enabled _ (hnode ▸ he), ht]
  | false =>
    rw [State.flushLeaf_disabled _ he, State.flushLeaf_disabled _ (hnode ▸ he)]
    simp only [State.lostSends_tmgr, State.countTm_half, State.emptyLeaf, State.tmgr_setNode, hnode, ht]

/-- What becomes of the traffic manager of the node's half follows from what it was. -/
theorem State.writeNode_tmgr_congr {t : State} (ht : (t.half x.half).tmgr = (s.half x.half).tmgr) :
    ((t.writeNode x r).half x.half).tmgr = ((s.writeNode x r).half x.half).tmgr := by
  have htake : ((t.takeNode x r).half x.half).tmgr = ((s.takeNode x r).half x.half).tmgr := by
    rw [State.takeNode, State.takeNode, State.tmgr_setNode, State.tmgr_setNode, State.node_of_tmgr ht, ht]
  rw [State.writeNode_eq, State.writeNode_eq]
  split
  · exact State.flushLeaf_tmgr_congr _ htake _
  · exact htake

/-- LEAF_FLUSH counts the frames of a leaf that is disabled. -/
theorem State.writeNode_cnt (hl : x.level = 3) (he : ndEnable r = false) :
    (s.writeNode x r).cnt (0x6300 + x.half.num) 8
      = s.cnt (0x6300 + x.half.num) 8 + (s.node x.half 3 x.num).frames.length := by
  obtain ⟨h, -⟩ | ⟨-, -, hw⟩ := s.writeNode_cases (x := x) (r := r)
  · exact absurd he (by simp [h.resolve_left (· hl)])
  · rw [hw, State.discardLeaf, State.cnt_of_besideQueues (State.lostSends_besideQueues _ _), State.countTm,
      State.cnt_countH_self, State.emptyLeaf, State.setNode, State.onHalf_cnt, State.takeNode, State.setNode, State.onHalf_cnt, hl]

theorem State.writeNode_mgmt : (s.writeNode x r).mgmt = s.mgmt := by
  obtain ⟨-, hw⟩ | ⟨-, -, hw⟩ := s.writeNode_cases (x := x) (r := r)
  · rw [hw, State.takeNode, State.setNode, State.onHalf_mgmt]
  · rw [hw, State.discardLeaf, State.mgmt_of_besideQueues (State.lostSends_besideQueues _ _), State.countTm,
      State.countH_mgmt, State.emptyLeaf, State.setNode, State.onHalf_mgmt, State.takeNode, State.setNode, State.onHalf_mgmt]

end

/-! ### NODE_RECORD (R193, R201, R202) -/

@[simp] theorem State.nodeSel_accepted (s : State) (w : Who) (ss : Session) : (s.accepted w).nodeSel ss = s.nodeSel ss := by
  rw [State.nodeSel, State.sel_accepted, State.nodeSel]

theorem State.accepted_tmgr (s : State) (w : Who) (h : Half) : ((s.accepted w).half h).tmgr = (s.half h).tmgr :=
  congrArg HalfSt.tmgr (s.accepted_half w h)

@[simp] theorem State.node_accepted (s : State) (w : Who) (h : Half) (l m : Nat) : (s.accepted w).node h l m = s.node h l m :=
  State.node_of_tmgr (s.accepted_tmgr w h) l m

@[simp] theorem State.policer_accepted (s : State) (w : Who) (h : Half) (i : Nat) : (s.accepted w).policer h i = s.policer h i := by
  rw [State.policer, State.accepted_tmgr, State.policer]

@[simp] theorem State.away_accepted (s : State) (w : Who) (ss : Session) (h : Half) : (s.accepted w).away ss h = s.away ss h := rfl

theorem State.pathOf_accepted (s : State) (w : Who) (h : Half) (l : Nat) : (s.accepted w).pathOf h l = s.pathOf h l := by
  simp only [State.pathOf, State.node_accepted]
  rfl

theorem State.heldLeaves_accepted (s : State) (w : Who) (h : Half) : (s.accepted w).heldLeaves h = s.heldLeaves h := by
  rw [State.heldLeaves, State.accepted_tmgr, State.heldLeaves]

@[simp] theorem State.moves_accepted (s : State) (w : Who) (x : NodeSel) (r : BitVec 256) : (s.accepted w).moves x r = s.moves x r := by
  simp only [State.moves, State.groupHolds, State.node_accepted, State.pathOf_accepted, State.heldLeaves_accepted]

theorem overReserved_writeNode (s : State) (w : Who) (x : NodeSel) (r : BitVec 256) :
    overReserved (s.accepted w) ((s.accepted w).writeNode x r) x.half = overReserved s (s.writeNode x r) x.half :=
  overReserved_congr (s.accepted_reservedCells w _) (State.reservedCells_congr (State.writeNode_tmgr_congr _ (s.accepted_tmgr w _))
    (by rw [State.params_of_mgmt (State.writeNode_mgmt _), State.params_of_mgmt (State.writeNode_mgmt _), State.accepted_params]))

section
variable {s : State} {w : Who} {rec : BitVec 256} (hg : s.grants w 0xA100 2 (leBytes 32 rec.toNat) = true)

/-- The record that the device takes for the node that a session has selected. -/
def State.takenRecord (s : State) (x : NodeSel) (rec : BitVec 256) : BitVec 256 :=
  nodeTaken x.level (s.node x.half x.level x.num).latest rec

/-- The device with a record taken for a node. -/
def State.recordTaken (s : State) (w : Who) (x : NodeSel) (r : BitVec 256) : State :=
  ((s.accepted w).writeNode x r).setParam x.half 0xA100 2 x.key r.toNat

/-- Why a record is refused for a node (R193, R201, R202, R431). -/
def State.refusesRecord (s : State) (w : Who) (x : NodeSel) (rec r : BitVec 256) : Prop :=
  s.away w.sess x.half = true ∨ nodeRange x.level rec = false ∨ s.moves x r = true ∨ overReserved s (s.writeNode x r) x.half = true

variable {x : NodeSel} (hx : x = s.nodeSel w.sess) (hex : x.exists_ = true) {r : BitVec 256} (hr : r = s.takenRecord x rec)
include hg hx hex hr

theorem exec_nodeRecordWrite_taken (hn : ¬ s.refusesRecord w x rec r) :
    exec (.nodeRecordWrite w rec) s = .next ((s.recordTaken w x r).emit (.resp w.sess rsOk [])) := by
  subst hx hr
  refine State.write_done hg rfl ?_ ?_
  · rw [State.nodeSel_accepted]
    exact hex
  · simp only [State.nodeSel_accepted, State.node_accepted, State.away_accepted, State.moves_accepted,
      overReserved_writeNode]
    exact if_neg hn

theorem exec_nodeRecordWrite_refused (hn : s.refusesRecord w x rec r) :
    exec (.nodeRecordWrite w rec) s = .next ((s.accepted w).emit (.resp w.sess rsRefused [])) := by
  subst hx hr
  refine State.write_refused hg rfl ?_ ?_
  · rw [State.nodeSel_accepted]
    exact hex
  · simp only [State.nodeSel_accepted, State.node_accepted, State.away_accepted, State.moves_accepted,
      overReserved_writeNode]
    exact if_pos hn

end

section
variable (s : State) (w : Who) (x : NodeSel) (r : BitVec 256)

theorem State.recordTaken_tmgr :
    ((s.recordTaken w x r).half x.half).tmgr = ((s.writeNode x r).half x.half).tmgr := by
  rw [State.recordTaken, State.setParam_half]
  exact State.writeNode_tmgr_congr _ (s.accepted_tmgr w _)

theorem State.recordTaken_node :
    (s.recordTaken w x r).node x.half x.level x.num = (s.node x.half x.level x.num).written x.level r := by
  rw [State.node_of_tmgr (s.recordTaken_tmgr w x r), State.writeNode_node]

theorem State.recordTaken_node_of_ne {l m : Nat} (hk : nodeKey l m ≠ nodeKey x.level x.num) :
    (s.recordTaken w x r).node x.half l m = s.node x.half l m := by
  rw [State.node_of_tmgr (s.recordTaken_tmgr w x r), State.writeNode_node_of_ne _ hk]

theorem State.setParam_cnt (h : Half) (i sub sel v j c : Nat) : (s.setParam h i sub sel v).cnt j c = s.cnt j c := by
  rw [State.cnt, State.setParam_stat, State.cnt]

theorem State.recordTaken_cnt (hl : x.level = 3) (he : ndEnable r = false) :
    (s.recordTaken w x r).cnt (0x6300 + x.half.num) 8
      = s.cnt (0x6300 + x.half.num) 8 + (s.node x.half 3 x.num).frames.length := by
  have hnum : x.half.num < 2 := by cases x.half <;> decide
  rw [State.recordTaken, State.setParam_cnt, State.writeNode_cnt _ hl he, State.node_accepted,
    State.cnt_accepted_of_ne (by decide) (by omega) (by omega)]

end

end Sys2Proof.Machine
end

section
/-! SUPPORT. Writes of attachments, profiles, thresholds and policers, and the counters of the traffic manager (08 R193, R194, R199, R202,
R205, R208, R210, R212). -/

namespace Sys2Proof.Machine
open Sys2Proof

/-! ### ATTACH (R202, R205) -/

@[simp] theorem State.attachHolds_accepted (s : State) (w : Who) (h : Half) (sn a : Nat) :
    (s.accepted w).attachHolds h sn a = s.attachHolds h sn a := by
  simp only [State.attachHolds, State.heldLeaves_accepted, State.node_accepted]

/-- The device with an ATTACH record that waits for the next refill of a slice node. -/
def State.attachTaken (s : State) (w : Who) (x : NodeSel) (rec : BitVec 512) : State :=
  ((s.accepted w).setNode x.half 2 x.num { s.node x.half 2 x.num with attNext := some rec }).setParam x.half 0xA100 3 x.key rec.toNat

section
variable {s : State} {w : Who} {rec : BitVec 512} (hg : s.grants w 0xA100 3 (leBytes 64 rec.toNat) = true)
include hg

theorem exec_attachWrite_notFound (hl : (s.nodeSel w.sess).level ≠ 2) :
    exec (.attachWrite w rec) s = .next ((s.accepted w).emit (.resp w.sess rsNotFound [])) := by
  refine State.write_notFound hg rfl ?_
  simp [hl]

variable {x : NodeSel} (hx : x = s.nodeSel w.sess) (hl : x.level = 2) (hex : x.exists_ = true)
include hx hl hex

theorem exec_attachWrite_taken (ha : s.away w.sess x.half = false) (hr : attachRange rec = true)
    (hh : ∀ i, i < 16 → s.attachHolds x.half x.num i = false) :
    exec (.attachWrite w rec) s = .next ((s.attachTaken w x rec).emit (.resp w.sess rsOk [])) := by
  subst hx
  refine State.write_done hg rfl (by simp [hl, hex]) ?_
  have hmoved : ∀ old, ((List.range 16).any fun i => attGroup rec i != attGroup old i
      && s.attachHolds (s.nodeSel w.sess).half (s.nodeSel w.sess).num i) = false := by
    intro old
    rw [List.any_eq_false]
    intro i hi
    simp [hh i (List.mem_range.mp hi)]
  simp only [State.nodeSel_accepted, State.node_accepted, State.away_accepted, State.attachHolds_accepted, hmoved, ha, hr]
  rfl

theorem exec_attachWrite_refused (hr : attachRange rec = false) :
    exec (.attachWrite w rec) s = .next ((s.accepted w).emit (.resp w.sess rsRefused [])) := by
  subst hx
  exact State.write_refused hg rfl (by simp [hl, hex]) (if_pos (.inr (.inl hr)))

end

section
variable (s : State) (w : Who) (x : NodeSel) (rec : BitVec 512)

theorem State.attachTaken_tmgr : ((s.attachTaken w x rec).half x.half).tmgr
    = ((s.setNode x.half 2 x.num { s.node x.half 2 x.num with attNext := some rec }).half x.half).tmgr := by
  rw [State.attachTaken, State.setParam_half, State.tmgr_setNode, State.tmgr_setNode, State.accepted_tmgr]

theorem State.attachTaken_node :
    (s.attachTaken w x rec).node x.half 2 x.num = { s.node x.half 2 x.num with attNext := some rec } := by
  rw [State.node_of_tmgr (s.attachTaken_tmgr w x rec), State.node_setNode_self]

theorem State.attachTaken_node_of_ne {l m : Nat} (hk : nodeKey l m ≠ nodeKey 2 x.num) :
    (s.attachTaken w x rec).node x.half l m = s.node x.half l m := by
  rw [State.node_of_tmgr (s.attachTaken_tmgr w x rec), State.node_setNode_of_ne _ _ _ _ _ hk]

end

/-! ### Parameters of a half -/

/-- A value set for one object of a half leaves those of the other half and of other keys. -/
theorem State.param_setParam_of_ne {h g : Half} {i sub sel j k l : Nat} (hne : g ≠ h ∨ okey j k l ≠ okey i sub sel) (s : State)
    (v d : Nat) : (s.setParam h i sub sel v).param g j k l d = s.param g j k l d := by
  cases h <;> cases g
  · exact (mget_mput _ _ _ _ _).trans (if_neg (hne.resolve_left (· rfl)))
  · rfl
  · rfl
  · exact (mget_mput _ _ _ _ _).trans (if_neg (hne.resolve_left (· rfl)))

theorem State.param_accepted (s : State) (w : Who) : (s.accepted w).param = s.param :=
  State.param_of_params (s.accepted_params w)

/-- A change of a parameter raises the reserved cells alike whether its request has been accepted yet or not. -/
theorem overReserved_setParam (s : State) (w : Who) (h g : Half) (i sub sel v : Nat) :
    overReserved (s.accepted w) ((s.accepted w).setParam g i sub sel v) h = overReserved s (s.setParam g i sub sel v) h := by
  refine overReserved_congr (s.accepted_reservedCells w h) (State.reservedCells_congr ?_ ?_)
  · rw [State.setParam_half, State.setParam_half, State.accepted_tmgr]
  · exact State.setParam_params_congr (s.accepted_params w) g i sub sel v

/-! ### QUEUE_PROFILE (R193, R194) -/

/-- The device with a record taken for the profile that a session has selected. -/
def State.profileTaken (s : State) (w : Who) (h : Half) (v : Nat) (rec : BitVec 128) : State :=
  (s.accepted w).setParam h 0xA100 7 (v % 128) rec.toNat

section
variable {s : State} {w : Who} {rec : BitVec 128} (hg : s.grants w 0xA100 7 (leBytes 16 rec.toNat) = true)
include hg

theorem exec_queueProfileWrite_refused (hr : profileRange rec = false) :
    exec (.queueProfileWrite w rec) s = .next ((s.accepted w).emit (.resp w.sess rsRefused [])) :=
  State.write_refused hg rfl rfl (if_pos (.inr (.inl hr)))

theorem exec_queueProfileWrite_taken {v : Nat} (hv : v = s.sel w.sess (obj 0xA100 6) 0) {h : Half} (hh : h = halfOf (v / 64 % 2))
    (ha : s.away w.sess h = false) (hr : profileRange rec = true)
    (ho : overReserved s (s.setParam h 0xA100 7 (v % 128) rec.toNat) h = false) :
    exec (.queueProfileWrite w rec) s = .next ((s.profileTaken w h v rec).emit (.resp w.sess rsOk [])) := by
  subst hh hv
  refine State.write_done hg rfl rfl ?_
  simp only [State.sel_accepted, State.away_accepted, overReserved_setParam, ha, hr, ho]
  rfl

end

theorem num_halfOf {n : Nat} (hn : n < 2) : (halfOf n).num = n := by
  unfold halfOf
  split
  · next h => exact h.symm
  · show 1 = n
    omega

section
variable (s : State) (w : Who) {h : Half} {v : Nat} (hh : h = halfOf (v / 64 % 2)) (rec : BitVec 128)
include hh

/-- QPROF_SELECT as the key of a profile. -/
theorem profileKey_eq : v % 128 = h.num * 64 + v % 64 := by
  rw [hh, num_halfOf (by omega)]
  omega

theorem State.profileTaken_profile : (s.profileTaken w h v rec).profile h (v % 64) = rec := by
  rw [State.profile, State.profileTaken, ← profileKey_eq hh, State.param_setParam_self, BitVec.ofNat_toNat, BitVec.setWidth_eq]

theorem State.profileTaken_profile_of_ne {g : Half} {i : Nat} (hne : g ≠ h ∨ i ≠ v % 64) :
    (s.profileTaken w h v rec).profile g i = s.profile g i := by
  have hkey : g ≠ h ∨ okey 0xA100 7 (g.num * 64 + i) ≠ okey 0xA100 7 (v % 128) := by
    by_cases hg : g = h
    · refine .inr ?_
      rw [profileKey_eq hh, hg, okey, okey]
      have hi := hne.resolve_left (· hg)
      omega
    · exact .inl hg
  rw [State.profile, State.profileTaken, State.param_setParam_of_ne hkey, State.param_accepted, State.profile]

end

/-- A value set changes the parameters alone, of what a request does not touch anyway. -/
theorem State.setParam_quiet (s : State) (h : Half) (i sub sel v : Nat) :
    { (s.setParam h i sub sel v).quiet with mgmt := s.quiet.mgmt } = s.quiet := by
  cases h <;> rfl

/-! ### POLICER (R208, R210) -/

/-- The device with a record taken for a policer. -/
def State.policerTaken (s : State) (w : Who) (h : Half) (i : Nat) (r : BitVec 256) : State :=
  ((s.accepted w).setPolicer h i ((s.policer h i).write r (s.time h))).setParam h 0xA100 0x0A (h.num * 65536 + i) r.toNat

section
variable {s : State} {w : Who} {rec : BitVec 256} (hg : s.grants w 0xA100 0x0A (leBytes 32 rec.toNat) = true)
include hg

theorem exec_policerWrite_refused (hr : policerRange rec = false) :
    exec (.policerWrite w rec) s = .next ((s.accepted w).emit (.resp w.sess rsRefused [])) :=
  State.write_refused hg rfl rfl (if_pos (.inr hr))

theorem exec_policerWrite_taken {v : Nat} (hv : v = s.sel w.sess (obj 0xA100 9) 0) {h : Half} (hh : h = halfOf (v / 65536 % 2))
    (ha : s.away w.sess h = false) (hr : policerRange rec = true) :
    exec (.policerWrite w rec) s
      = .next ((s.policerTaken w h (v % 65536) (setFld rec 160 16 0)).emit (.resp w.sess rsOk [])) := by
  subst hh hv
  refine State.write_done hg rfl rfl ?_
  simp only [State.sel_accepted, State.away_accepted, State.policer_accepted, ha, hr]
  rfl

end

theorem State.policerTaken_policer (s : State) (w : Who) (h : Half) (i : Nat) (r : BitVec 256) (j : Nat) :
    (s.policerTaken w h i r).policer h j = if j = i then (s.policer h i).write r (s.time h) else s.policer h j := by
  rw [State.policer, State.policerTaken, State.setParam_half, ← State.policer, State.policer_setPolicer, State.policer_accepted]

/-! ### Counters cleared (R212) -/

/-- What one half's clear does to a view that the other half's clear leaves, a clear of halves does for each half it names. -/
theorem State.forMask_view {β : Type} {view : State → β} {f : State → Half → State} {g : β → β} {h : Half}
    (hself : ∀ a, view (f a h) = g (view a)) (hother : ∀ a, view (f a h.other) = view a) {v : Nat} (hm : inMask v h = true)
    (s : State) : view (s.forMask v f) = g (view s) := by
  unfold State.forMask
  cases h with
  | k =>
    simp only [if_pos hm]
    split
    · exact (hother _).trans (hself _)
    · exact hself _
  | q =>
    simp only [if_pos hm]
    rw [hself]
    split
    · exact congrArg g (hother _)
    · rfl

/-- A node with its NODE_STATS cleared. -/
def Node.uncounted (x : Node) : Node := { x with sent := 0, sentBytes := 0, tailDrop := 0, wredDrop := 0, ecnMark := 0 }

/-- A traffic manager with the counters of its nodes and policers cleared. -/
def Tmgr.uncounted (x : Tmgr) : Tmgr :=
  { x with nodes := mmap (fun _ => Node.uncounted) x.nodes, pols := mmap (fun _ y => { y with stats := [] }) x.pols }

theorem State.clearTm_tmgr (s : State) (h : Half) : ((s.clearTm h).half h).tmgr = (s.half h).tmgr.uncounted := by
  cases h <;> rfl

theorem State.clearTm_other (s : State) (h : Half) : (s.clearTm h.other).half h = s.half h := by
  cases h <;> rfl

theorem State.clearTm_cnt (s : State) (h : Half) (j : Nat) {i : Nat} (hi : i < 256) :
    (s.clearTm h).cnt j i = if j = 0x6300 + h.num then 0 else s.cnt j i := by
  rw [State.clearTm, State.cnt_clearIndex _ _ _ hi, State.onHalf_cnt]

/-- The counters of the traffic managers of the halves that a mask names, cleared. -/
def State.tmCleared (s : State) (v : Nat) : State := s.forMask v State.clearTm

theorem exec_tmCntClear {s : State} {w : Who} {v : BitVec 8} (hg : s.grants w 0xA100 0x0D (leBytes 1 v.toNat) = true)
    (hv : s.maskOk w.sess v.toNat = true) :
    exec (.tmCntClear w v) s = .next (((s.accepted w).tmCleared v.toNat).emit (.resp w.sess rsOk [])) :=
  State.write_done hg rfl rfl (if_pos hv)

section
variable (s : State) {v : Nat} {h : Half} (hm : inMask v h = true)
include hm

theorem State.tmCleared_tmgr : ((s.tmCleared v).half h).tmgr = (s.half h).tmgr.uncounted :=
  State.forMask_view (view := fun a => (a.half h).tmgr) (fun a => a.clearTm_tmgr h)
    (fun a => congrArg HalfSt.tmgr (a.clearTm_other h)) hm s

theorem State.tmCleared_cnt {i : Nat} (hi : i < 256) : (s.tmCleared v).cnt (0x6300 + h.num) i = 0 :=
  State.forMask_view (view := fun a => a.cnt (0x6300 + h.num) i) (g := fun _ => 0)
    (fun a => (a.clearTm_cnt h _ hi).trans (if_pos rfl))
    (fun a => (a.clearTm_cnt h.other _ hi).trans (if_neg (by cases h <;> decide))) hm s

theorem State.tmCleared_node (l n : Nat) : (s.tmCleared v).node h l n = (s.node h l n).uncounted := by
  rw [State.node, s.tmCleared_tmgr hm]
  exact mget_mmap (f := fun _ => Node.uncounted) (fun _ => rfl) _ _

theorem State.tmCleared_policer (i : Nat) : (s.tmCleared v).policer h i = { s.policer h i with stats := [] } := by
  rw [State.policer, s.tmCleared_tmgr hm]
  exact mget_mmap (f := fun _ (y : Policer) => { y with stats := [] }) (fun _ => rfl) _ _

end

end Sys2Proof.Machine
end

section
/-! SUPPORT. The PFC thresholds of a port, and the XOFFs that follow a change of them (06 R154, 08 R193, R199). -/

namespace Sys2Proof.Machine
open Sys2Proof

/-! ### XOFF and XON of one priority (R154, R199) -/

/-- A state that differs from another in the XOFFs of a port and in what tells of them alone. -/
structure State.onlyXoff (t s : State) (n : Nat) : Prop where
  frame  : { t with eth := s.eth, stat := s.stat, out := s.out } = s
  others : ∀ m, m ≠ n → t.ethPort m = s.ethPort m

theorem State.onlyXoff_refl (s : State) (n : Nat) : s.onlyXoff s n := ⟨rfl, fun _ _ => rfl⟩

section
variable {t s : State} {n : Nat} (h : t.onlyXoff s n)
include h

theorem State.onlyXoff.slices : t.slices = s.slices := (congrArg State.slices h.frame :)
theorem State.onlyXoff.cstl : t.cstl = s.cstl := (congrArg State.cstl h.frame :)
theorem State.onlyXoff.lossless : t.lossless = s.lossless := (congrArg State.lossless h.frame :)
theorem State.onlyXoff.ingress : t.ingress = s.ingress := (congrArg State.ingress h.frame :)
theorem State.onlyXoff.xoffCells : t.xoffCells = s.xoffCells := (congrArg State.xoffCells h.frame :)
theorem State.onlyXoff.xonCells : t.xonCells = s.xonCells := (congrArg State.xonCells h.frame :)
theorem State.onlyXoff.headroomCells : t.headroomCells = s.headroomCells := (congrArg State.headroomCells h.frame :)

end

section
variable (s : State) (n p : Nat)

/-- XOFF is sent for a priority. -/
def State.xoffSent : State :=
  (s.setEth n { s.ethPort n with xoff := (s.ethPort n).xoff ||| BitVec.ofNat 8 (2 ^ p) }).sendPfc n p 0xFFFF

/-- XON is sent for a priority. -/
def State.xonSent : State :=
  (s.setEth n { s.ethPort n with xoff := (s.ethPort n).xoff &&& ~~~ BitVec.ofNat 8 (2 ^ p) }).sendPfc n p 0

/-- Whether a port holds a priority off. -/
def State.holdsOff : Bool := (s.ethPort n).xoff.getLsbD p

theorem State.pfcCheck_lossless (hl : s.lossless n p = true) :
    s.pfcCheck n p =
      if s.xoffCells n < s.ingress n p ∧ s.holdsOff n p = false then s.xoffSent n p
      else if s.ingress n p ≤ s.xonCells n ∧ s.holdsOff n p = true then s.xonSent n p
      else s := if_pos hl

theorem State.pfcCheck_lossy (hl : s.lossless n p = false) : s.pfcCheck n p = s := if_neg (Bool.eq_false_iff.mp hl)

/-- A check sends XOFF, XON or nothing. -/
theorem State.pfcCheck_cases : s.pfcCheck n p = s.xoffSent n p ∨ s.pfcCheck n p = s.xonSent n p ∨ s.pfcCheck n p = s := by
  cases hl : s.lossless n p with
  | false => exact .inr (.inr (s.pfcCheck_lossy n p hl))
  | true =>
    rw [s.pfcCheck_lossless n p hl]
    split
    · exact .inl rfl
    · split
      · exact .inr (.inl rfl)
      · exact .inr (.inr rfl)

theorem State.xoffSent_xoff : ((s.xoffSent n p).ethPort n).xoff = (s.ethPort n).xoff ||| BitVec.ofNat 8 (2 ^ p) :=
  congrArg Eth.xoff (State.ethPort_setEth_self _ _ _)

theorem State.xonSent_xoff : ((s.xonSent n p).ethPort n).xoff = (s.ethPort n).xoff &&& ~~~ BitVec.ofNat 8 (2 ^ p) :=
  congrArg Eth.xoff (State.ethPort_setEth_self _ _ _)

variable {s n p}

/-- A check for another priority holds nothing off and releases nothing. -/
theorem State.holdsOff_pfcCheck_of_ne {r : Nat} (hr : r ≠ p) : (s.pfcCheck n r).holdsOff n p = s.holdsOff n p := by
  obtain h | h | h := s.pfcCheck_cases n r
  · rw [h, State.holdsOff, State.xoffSent_xoff, BitVec.getLsbD_or, getLsbD_bit]
    simp [hr, State.holdsOff]
  · rw [h, State.holdsOff, State.xonSent_xoff, getLsbD_bit_cleared]
    simp [hr, State.holdsOff]
  · rw [h]

/-- Above both thresholds a priority is held off once it has been checked. -/
theorem State.holdsOff_pfcCheck_above (hp : p < 8) (hl : s.lossless n p = true) (hoff : s.xoffCells n < s.ingress n p)
    (hon : s.xonCells n < s.ingress n p) : (s.pfcCheck n p).holdsOff n p = true := by
  rw [s.pfcCheck_lossless n p hl]
  split
  · rw [State.holdsOff, State.xoffSent_xoff]
    exact getLsbD_bit_set _ ⟨p, hp⟩
  · next h =>
    rw [if_neg fun hb => Nat.not_le.mpr hon hb.1]
    exact Bool.not_eq_false _ ▸ fun hb => h ⟨hoff, hb⟩

/-- Below both thresholds a priority is not held off once it has been checked. -/
theorem State.holdsOff_pfcCheck_below (hl : s.lossless n p = true) (hoff : s.ingress n p ≤ s.xoffCells n)
    (hon : s.ingress n p ≤ s.xonCells n) : (s.pfcCheck n p).holdsOff n p = false := by
  rw [s.pfcCheck_lossless n p hl, if_neg fun hb => Nat.not_lt.mpr hoff hb.1]
  split
  · rw [State.holdsOff, State.xonSent_xoff, getLsbD_bit_cleared]
    simp
  · next h => exact Bool.not_eq_true _ ▸ fun hb => h ⟨hon, hb⟩

end

/-- A check changes the XOFFs of its port alone. -/
theorem State.onlyXoff.pfcCheck {a s : State} {n : Nat} (h : a.onlyXoff s n) (p : Nat) : (a.pfcCheck n p).onlyXoff s n := by
  have hset : ∀ x o, (((a.setEth n x).emit o).count (0x6100 + n) (0x10 + p) 1).onlyXoff s n := fun x o =>
    ⟨h.frame, fun m hm => (State.ethPort_setEth_of_ne hm a x).trans (h.others m hm)⟩
  obtain hc | hc | hc := a.pfcCheck_cases n p
  · rw [hc]
    exact hset _ _
  · rw [hc]
    exact hset _ _
  · rw [hc]
    exact h

/-! ### Every priority of a port (R199) -/

/-- A port whose priorities have all been checked. -/
def State.pfcChecks (s : State) (n : Nat) : State := (List.range 8).foldl (fun a p => a.pfcCheck n p) s

theorem State.pfcChecks_onlyXoff (s : State) (n : Nat) : (s.pfcChecks n).onlyXoff s n :=
  List.foldlRecOn (motive := fun a : State => a.onlyXoff s n) (List.range 8) (fun a p => a.pfcCheck n p) (s.onlyXoff_refl n)
    fun _ ha p _ => ha.pfcCheck p

/-- One priority after all have been checked, as its own check leaves it. -/
theorem State.pfcChecks_holdsOff (s : State) (n : Nat) {p : Nat} (hp : p < 8) :
    ∃ a : State, a.onlyXoff s n ∧ (s.pfcChecks n).holdsOff n p = (a.pfcCheck n p).holdsOff n p := by
  obtain ⟨a, ha, -, hv⟩ := foldl_at (I := fun a : State => a.onlyXoff s n) (view := fun a => a.holdsOff n p)
    (f := fun a r => a.pfcCheck n r) (fun _ r ha => ha.pfcCheck r) (fun _ _ hr _ => State.holdsOff_pfcCheck_of_ne hr)
    (List.nodup_range (n := 8)) (List.mem_range.mpr hp) (s.onlyXoff_refl n)
  exact ⟨a, ha, hv⟩

section
variable {s : State} {n p : Nat} (hp : p < 8) (hl : s.lossless n p = true)
include hp hl

theorem State.pfcChecks_above (hoff : s.xoffCells n < s.ingress n p) (hon : s.xonCells n < s.ingress n p) :
    (s.pfcChecks n).holdsOff n p = true := by
  obtain ⟨a, ha, hv⟩ := s.pfcChecks_holdsOff n hp
  rw [← ha.lossless] at hl
  rw [← ha.ingress, ← ha.xoffCells] at hoff
  rw [← ha.ingress, ← ha.xonCells] at hon
  exact hv.trans (State.holdsOff_pfcCheck_above hp hl hoff hon)

theorem State.pfcChecks_below (hoff : s.ingress n p ≤ s.xoffCells n) (hon : s.ingress n p ≤ s.xonCells n) :
    (s.pfcChecks n).holdsOff n p = false := by
  obtain ⟨a, ha, hv⟩ := s.pfcChecks_holdsOff n hp
  rw [← ha.lossless] at hl
  rw [← ha.ingress, ← ha.xoffCells] at hoff
  rw [← ha.ingress, ← ha.xonCells] at hon
  exact hv.trans (State.holdsOff_pfcCheck_below hl hoff hon)

end

/-! ### PFC_THRESH (R193, R199) -/

/-- The device with the thresholds of a port written, before its priorities are checked. -/
def State.threshSet (s : State) (w : Who) (n : Nat) (rec : BitVec 96) : State :=
  (s.accepted w).setParam (ethHalf n) 0xA110 (n + 1) 0 rec.toNat

section
variable {s : State} {w : Who} {n : Fin 16} {rec : BitVec 96} (hg : s.grants w 0xA110 (n.val + 1) (leBytes 12 rec.toNat) = true)
include hg

theorem exec_pfcThreshWrite_taken (hr : fld rec 32 32 < fld rec 0 32)
    (ho : overReserved s (s.setParam (ethHalf n.val) 0xA110 (n.val + 1) 0 rec.toNat) (ethHalf n.val) = false) :
    exec (.pfcThreshWrite w n rec) s = .next (((s.threshSet w n.val rec).pfcChecks n.val).emit (.resp w.sess rsOk [])) := by
  refine State.write_done hg rfl rfl (if_neg ?_)
  rw [overReserved_setParam, ho]
  exact not_or.mpr ⟨Nat.not_le.mpr hr, Bool.false_ne_true⟩

theorem exec_pfcThreshWrite_refused (hr : fld rec 0 32 ≤ fld rec 32 32) :
    exec (.pfcThreshWrite w n rec) s = .next ((s.accepted w).emit (.resp w.sess rsRefused [])) :=
  State.write_refused hg rfl rfl (if_pos (.inl hr))

end

section
variable (s : State) (w : Who) (n : Fin 16) (rec : BitVec 96)

/-- The objects from 0xA600 on, of any port number, are others than the thresholds. -/
theorem State.threshSet_param {j : Nat} (hj : 0xA600 ≤ j) (g : Half) (k d : Nat) :
    (s.threshSet w n.val rec).param g j k 0 d = s.param g j k 0 d := by
  have hkey : okey j k 0 ≠ okey 0xA110 (n.val + 1) 0 := by
    simp only [okey]
    omega
  rw [State.threshSet, State.param_setParam_of_ne (.inr hkey), State.param_accepted]

theorem State.threshSet_lossless : (s.threshSet w n.val rec).lossless = s.lossless := by
  funext m p
  simp only [State.lossless, s.threshSet_param w n rec (by decide : 0xA600 ≤ 0xA615),
    s.threshSet_param w n rec (by decide : 0xA600 ≤ 0xA616)]

theorem State.threshSet_prio : (s.threshSet w n.val rec).prio = s.prio := by
  funext f
  simp only [State.prio, s.threshSet_param w n rec (by decide : 0xA600 ≤ 0xA617)]

theorem State.threshSet_ingress : (s.threshSet w n.val rec).ingress = s.ingress := by
  funext m p
  rw [State.ingress, State.threshSet_prio, State.threshSet, State.setParam_half, State.accepted_tmgr, State.ingress]

theorem State.threshSet_pfcThresh : (s.threshSet w n.val rec).pfcThresh n.val = rec.toNat := State.param_setParam_self _ _ _ _ _ _ _

theorem State.threshSet_xoffCells : (s.threshSet w n.val rec).xoffCells n.val = fld rec 0 32 := by
  rw [State.xoffCells, State.threshSet_pfcThresh, fld, Nat.pow_zero, Nat.div_one]

theorem State.threshSet_xonCells : (s.threshSet w n.val rec).xonCells n.val = fld rec 32 32 := by
  rw [State.xonCells, State.threshSet_pfcThresh, fld]

theorem State.threshSet_headroomCells : (s.threshSet w n.val rec).headroomCells n.val = fld rec 64 32 := by
  have hfit : rec.toNat / 2 ^ 64 < 2 ^ 32 := Nat.div_lt_of_lt_mul rec.isLt
  rw [State.headroomCells, State.threshSet_pfcThresh, fld, Nat.mod_eq_of_lt hfit]

theorem State.threshSet_ethPort (m : Nat) : (s.threshSet w n.val rec).ethPort m = s.ethPort m :=
  State.ethPort_of_eth (State.setParam_eth _ _ _ _ _ _) m

end

end Sys2Proof.Machine
end

section
/-! SUPPORT. The objects of the traffic manager, as O26 states them (08 R193, R194, R199, R201, R202, R205, R208, R210, R212). -/

namespace Sys2Proof.Machine
open Sys2Proof

theorem State.emit_node (s : State) (o : Output) : (s.emit o).node = s.node := by
  funext h l m
  rw [State.node, State.emit_half, State.node]

theorem State.emit_policer (s : State) (o : Output) : (s.emit o).policer = s.policer := by
  funext h i
  rw [State.policer, State.emit_half, State.policer]

/-- The record that a leaf has in force once another is written: what R205 puts in force at once is the written one's. -/
theorem Node.written_leaf (n : Node) (old rec : BitVec 256) :
    ndEnable (n.written 3 (nodeTaken 3 old rec)).record = ndEnable rec
      ∧ ndTc (n.written 3 (nodeTaken 3 old rec)).record = ndTc rec
      ∧ ndAttach (n.written 3 (nodeTaken 3 old rec)).record = ndAttach rec
      ∧ ndProfile (n.written 3 (nodeTaken 3 old rec)).record = ndProfile rec := by
  rw [Node.written_record, Node.taking_record_leaf, ndEnable_nodeNow, ndTc_nodeNow, ndAttach_nodeNow, ndProfile_nodeNow]
  exact ⟨ndEnable_nodeTaken _ _, fld_nodeTaken _ _ (by decide), fld_nodeTaken _ _ (by decide), fld_nodeTaken _ _ (by decide)⟩

/-- A lossless priority whose ingress use lies above the written XOFF_CELLS is held off, one at the written XON_CELLS or below is not
(R199). -/
theorem State.threshSet_holdsOff (s : State) (w : Who) (n : Fin 16) {rec : BitVec 96} (hr : fld rec 32 32 < fld rec 0 32) {p : Nat}
    (hp : p < 8) (hl : s.lossless n.val p = true) :
    (fld rec 0 32 < s.ingress n.val p → ((s.threshSet w n.val rec).pfcChecks n.val).holdsOff n.val p = true)
      ∧ (s.ingress n.val p ≤ fld rec 32 32 → ((s.threshSet w n.val rec).pfcChecks n.val).holdsOff n.val p = false) := by
  have hlossless : (s.threshSet w n.val rec).lossless n.val p = true := s.threshSet_lossless w n rec ▸ hl
  rw [← s.threshSet_ingress w n rec]
  refine ⟨fun hi => State.pfcChecks_above hp hlossless ?_ ?_, fun hi => State.pfcChecks_below hp hlossless ?_ ?_⟩
  · rwa [State.threshSet_xoffCells]
  · rw [State.threshSet_xonCells]
    exact Nat.lt_trans hr hi
  · rw [State.threshSet_xoffCells]
    exact Nat.le_of_lt (Nat.lt_of_le_of_lt hi hr)
  · rwa [State.threshSet_xonCells]

/-- The buckets of a policer are capped at the bursts of the record written (R210). -/
theorem Policer.write_tc_le (x : Policer) (r : BitVec 256) (now : Nat) : (x.write r now).tc ≤ poCbs r * 4294967296 :=
  Nat.min_le_right _ _

theorem Policer.write_te_le (x : Policer) (r : BitVec 256) (now : Nat) : (x.write r now).te ≤ poEbs r * 4294967296 :=
  Nat.min_le_right _ _

/-- Settles O26, a command at a time. That ENABLE of a node that is no leaf waits for the next refill, as the other fields of its record
do, and that an attachment without a group may have weight 0, are the model's choices (log 70). -/
theorem trafficManagerObjects : Obligations.TrafficManagerObjects := by
  unfold Obligations.TrafficManagerObjects
  refine ⟨fun s w rec r x hg hx hex ha hr => ⟨fun hrange hm ho => ?record, fun hno => ?recordRefused⟩,
    fun s w rec x hg hx hex ha => ⟨fun hl hr hh => ?attach,
      fun hl hr => ⟨_, exec_attachWrite_refused hg hx hl hex hr, rfl, s.accepted_quiet w⟩,
      fun hl => ⟨_, exec_attachWrite_notFound hg (hx ▸ hl), rfl, s.accepted_quiet w⟩⟩,
    fun s w rec v h hg hv hh ha => ⟨fun hr ho => ?profile,
      fun hr => ⟨_, exec_queueProfileWrite_refused hg hr, rfl, s.accepted_quiet w⟩⟩,
    fun s w n rec hg => ⟨fun hr ho => ?thresh, fun hr => ⟨_, exec_pfcThreshWrite_refused hg hr, rfl, s.accepted_quiet w⟩⟩,
    fun s w rec v h hg hv hh ha => ⟨fun hr => ?policer, fun hr => ⟨_, exec_policerWrite_refused hg hr, rfl, s.accepted_quiet w⟩⟩,
    fun s w v hg hm => ⟨_, exec_tmCntClear hg hm, rfl, fun h i hh hi => (s.accepted w).tmCleared_cnt hh hi, fun h l n hh => ?nodes,
      fun h i hh => ?policers⟩⟩
  case record =>
    have hn : ¬ s.refusesRecord w x rec r := by simp [State.refusesRecord, ha, hrange, hm, ho]
    refine ⟨_, exec_nodeRecordWrite_taken hg hx hex hr hn, rfl, ?_⟩
    have hnode := s.recordTaken_node w x r
    have hen : x.level = 3 → ndEnable r = ndEnable rec := fun hl => by rw [hr, hl, ndEnable_nodeTaken]
    rw [State.emit_node, hnode]
    refine ⟨Node.written_next _ _ _, fun hl => ?leaf, fun hl => ?otherLevel, Node.fld_written _ _ _ (by decide) (by decide),
      Node.fld_written _ _ _ (by decide) (by decide), hr ▸ ndOwner_nodeTaken _ _ _, fun hl he => ⟨?flushed, ?counted⟩,
      fun h => ?kept, fun l m hk => s.recordTaken_node_of_ne w x r hk⟩
    case leaf =>
      rw [hl] at hnode hr
      rw [hnode, hr]
      exact Node.written_leaf _ _ _
    case otherLevel => rw [Node.written_record, Node.taking_record_of_ne _ _ hl]
    case flushed =>
      rw [hl] at hnode
      rw [hnode, Node.written_frames_flushed _ _ ((hen hl).trans he)]
    case counted =>
      rw [State.emit_cnt]
      exact s.recordTaken_cnt w x r hl ((hen hl).trans he)
    case kept =>
      have hkept : x.level ≠ 3 ∨ ndEnable r = true := (em (x.level = 3)).symm.imp_right fun hl =>
        (hen hl).trans (h.resolve_left (· hl))
      rw [Node.written_of_kept _ _ hkept]
      rfl
  case recordRefused =>
    exact ⟨_, exec_nodeRecordWrite_refused hg hx hex hr (.inr (hno.imp_right .inl)), rfl, s.accepted_quiet w⟩
  case attach =>
    refine ⟨_, exec_attachWrite_taken hg hx hl hex ha hr hh, rfl, ?_⟩
    rw [State.emit_node]
    exact ⟨s.attachTaken_node w x rec, fun l m hk => s.attachTaken_node_of_ne w x rec hk⟩
  case profile =>
    exact ⟨_, exec_queueProfileWrite_taken hg hv hh ha hr ho, rfl, s.profileTaken_profile w hh rec,
      fun g i _ hne => s.profileTaken_profile_of_ne w hh rec hne, (s.accepted w).setParam_quiet _ _ _ _ _⟩
  case thresh =>
    have hone := (s.threshSet w n.val rec).pfcChecks_onlyXoff n.val
    exact ⟨_, exec_pfcThreshWrite_taken hg hr ho, rfl, (congrFun hone.xoffCells _).trans (s.threshSet_xoffCells w n rec),
      (congrFun hone.xonCells _).trans (s.threshSet_xonCells w n rec),
      (congrFun hone.headroomCells _).trans (s.threshSet_headroomCells w n rec),
      fun p hp hl => (s.threshSet_holdsOff w n hr hp hl).1, fun p hp hl => (s.threshSet_holdsOff w n hr hp hl).2,
      fun m hm => (hone.others m hm).trans (s.threshSet_ethPort w n rec m)⟩
  case policer =>
    refine ⟨_, exec_policerWrite_taken hg hv hh ha hr, rfl, ?_⟩
    rw [State.emit_policer, State.policerTaken_policer, if_pos rfl]
    refine ⟨rfl, ?_, ?_, ?_, ?_, fun i hi => (s.policerTaken_policer _ _ _ _ _).trans (if_neg hi)⟩
    · exact fld_setFld_of_disjoint (by decide) (by decide) _ _
    · exact fld_setFld_of_disjoint (by decide) (by decide) _ _
    · exact (Policer.write_tc_le _ _ _).trans_eq (congrArg (· * _) (fld_setFld_of_disjoint (by decide) (by decide) _ _))
    · exact (Policer.write_te_le _ _ _).trans_eq (congrArg (· * _) (fld_setFld_of_disjoint (by decide) (by decide) _ _))
  case nodes =>
    rw [State.emit_node, (s.accepted w).tmCleared_node hh, State.node_accepted]
    rfl
  case policers => rw [State.emit_policer, (s.accepted w).tmCleared_policer hh, State.policer_accepted]

end Sys2Proof.Machine
end

section
/-! SUPPORT. Frames that HOSTQ_SEND drops between the halves: the count of those of the device's ports, and of one of a port that the
device does not have (08 R198, R199, 06 R154, 16 R431). -/

namespace Sys2Proof.Machine
open Sys2Proof

/-! ### Frames of ports and priorities in range -/

/-- Half `h` with a frame taken from its host-bound queue `i`, whose deficit pays for it. -/
def State.hostTaken (s : State) (h : Half) (i : Nat) (d : Map Int) (f : Frame) (rest : List Frame) : State :=
  let s1 := s.onHalf h fun x =>
    { x with tmgr := { x.tmgr with hostTurn := i, hostq := mmap (fun k y => { y with deficit := mget d k 0 }) x.tmgr.hostq } }
  s1.setHostq h i { s1.hostq h i with frames := rest, deficit := (s1.hostq h i).deficit - f.len }

section
variable {s : State} {h : Half} {i : Nat} {d : Map Int} {f : Frame} {rest : List Frame}

theorem exec_hostqSend (hf : s.forwards h = true) (hc : s.hostChoose h = some (i, d)) (hq : (s.hostq h i).frames = f :: rest) :
    exec (.hostqSend h) s = .next (((s.hostTaken h i d f rest).pfcAfter [f]).toXport h f) := by
  refine congrArg Host.Outcome.next ?_
  simp only [State.hostqSend, hf, Bool.true_eq_false, if_false, hc, hq, State.hostTaken]

theorem State.hostTaken_cnt (j c : Nat) : (s.hostTaken h i d f rest).cnt j c = s.cnt j c := by
  simp only [State.hostTaken, State.setHostq, State.onHalf_cnt]

theorem State.hostTaken_slices : (s.hostTaken h i d f rest).slices = s.slices := by
  simp only [State.hostTaken, State.setHostq, State.onHalf_slices]

theorem State.hostTaken_cstl : (s.hostTaken h i d f rest).cstl = s.cstl := by
  simp only [State.hostTaken, State.setHostq, State.onHalf_cstl]

/-- The priority that the frame was charged to is checked. -/
theorem State.hostTaken_pfcAfter :
    (s.hostTaken h i d f rest).pfcAfter [f] = (s.hostTaken h i d f rest).pfcCheck f.port (s.prio f) := by
  cases h <;> rfl

/-- A frame for the other half is dropped in a split. -/
theorem State.toXport_dropped (hh : recHome (s.slice (mdSlice f.md)).record ≠ h) (hs : s.cstl.split = true) :
    s.toXport h f = s.countH 0x6A00 h 2 1 := if_pos ⟨hh, hs⟩

/-- PFC of the device's ports and priorities is counted below 0x6110, in the counters of those ports (R162). -/
theorem State.pfcCheck_cnt {n p j : Nat} (hn : n < 16) (hp : p < 8) (hj : 0x6110 ≤ j) (s : State) (c : Nat) :
    (s.pfcCheck n p).cnt j c = s.cnt j c := by
  have hkey : ¬ j * 256 + c = (0x6100 + n) * 256 + (0x10 + p) := by omega
  have hsent : ∀ x q, ((s.setEth n x).sendPfc n p q).cnt j c = s.cnt j c := fun x q => by
    rw [State.sendPfc, State.cnt_count, if_neg hkey, Nat.add_zero, State.emit_cnt, State.cnt, State.setEth_stat, State.cnt]
  obtain h | h | h := s.pfcCheck_cases n p <;> rw [h]
  · exact hsent _ _
  · exact hsent _ _

/-- A frame of a port and a priority that the device has, dropped where it cannot cross to its slice's half, is counted once. -/
theorem exec_hostqSend_dropped (hf : s.forwards h = true) (hc : s.hostChoose h = some (i, d)) (hq : (s.hostq h i).frames = f :: rest)
    (hh : recHome (s.slice (mdSlice f.md)).record ≠ h) (hs : s.cstl.split = true) (hn : f.port < 16) (hp : s.prio f < 8) :
    ∃ t, exec (.hostqSend h) s = .next t ∧ t.cnt (0x6A00 + h.num) 2 = s.cnt (0x6A00 + h.num) 2 + 1 := by
  refine ⟨_, exec_hostqSend hf hc hq, ?_⟩
  have hone := ((s.hostTaken h i d f rest).onlyXoff_refl f.port).pfcCheck (s.prio f)
  have hslices := hone.slices.trans State.hostTaken_slices
  have hcstl := hone.cstl.trans State.hostTaken_cstl
  rw [State.hostTaken_pfcAfter, State.toXport_dropped (by rwa [State.slice_of_slices hslices]) (by rwa [hcstl]),
    State.cnt_countH_self, State.pfcCheck_cnt hn hp (Nat.le_add_right_of_le (by decide)), State.hostTaken_cnt]

end

/-! ### A frame of no port -/

/-- A received frame whose port number, 0x900, is no port's (E0 to E15). -/
def strayFrame : Frame := { port := 0x900 }

/-- A half Q in a split, whose host-bound queue of slice 0, homed on K, holds two stray frames. The parameters at the stray port's keys
run PFC for the priority 0xF2, which the frames get as DEF_PRIO, with XOFF_CELLS 0. -/
def strayState : State :=
  (((({ State.reset with
    board := { State.reset.board with boot := .running }
    cstl := { State.reset.cstl with split := true }
    q := { State.reset.q with tmgr := { hostq := [(0, { frames := [strayFrame, strayFrame] })] } } } : State).setParam
      .q 0xA617 0x901 0 0xF2).setParam .q 0xA615 0x901 0 2).setParam .q 0xA616 0x901 0 (2 ^ 0xF2)).setParam .q 0xA110 0x901 0 0

/-- The frame that leaves is dropped, and the one that stays is above XOFF_CELLS: the TX_PFC counter of the stray port and priority is
kept where subindex 2 of 0x6A01 is, so that counter rises by two. -/
theorem strayState_cnt : (strayState.hostqSend .q).cnt (0x6A00 + Half.q.num) 2 = strayState.cnt (0x6A00 + Half.q.num) 2 + 2 := by
  decide +kernel

/-- Refutes O25: the statement bounds neither a frame's port (R171: 4 bits) nor a priority (R154: 3 bits). In `strayState` the XOFF that
follows HOSTQ_SEND is counted at an index past those of the Ethernet ports, in the counter of the frames dropped between the halves, which
so rises by two where the statement has it rise by one. -/
theorem not_trafficManagerQueues : ¬ Obligations.TrafficManagerQueues := by
  unfold Obligations.TrafficManagerQueues
  rintro ⟨-, hsend, -⟩
  obtain ⟨t, ht, -, -, -, hdrop, -⟩ :=
    hsend strayState .q 0 [(0, 2048)] strayFrame [strayFrame] (by decide) (by decide) (by decide)
  obtain ⟨hcnt, -⟩ := hdrop (by decide +kernel) rfl
  have hexec : exec (.hostqSend .q) strayState = .next (strayState.hostqSend .q) := rfl
  rw [exec_unique ht hexec, strayState_cnt] at hcnt
  omega

end Sys2Proof.Machine
end

section
/-! SUPPORT. The words of the nib instructions: their fields, the words with a meaning, and what a word in a thread can
be (09 R227 to R238). -/

namespace Sys2Proof.Machine
open Sys2Proof

/-! ### Fields of a word (R227) -/

theorem toNat_extractLsb'_eq_fld {n : Nat} (v : BitVec n) (lo w : Nat) : (v.extractLsb' lo w).toNat = fld v lo w := by
  rw [BitVec.extractLsb'_toNat, Nat.shiftRight_eq_div_pow, fld]

section
variable (w : BitVec 32)

/-- A word is the R format of its fields, and likewise the I and the J format. -/
theorem encR_fields : encR (fOp w) (w.extractLsb' 21 5).toNat (w.extractLsb' 16 5).toNat (w.extractLsb' 11 5).toNat
    (fFunc w) = w := by
  have hw := w.isLt
  simp only [toNat_extractLsb'_eq_fld]
  refine BitVec.eq_of_toNat_eq ?_
  simp only [encR, fOp, fFunc, fld, BitVec.toNat_ofNat]
  omega

theorem encI_fields : encI (fOp w) (w.extractLsb' 21 5).toNat (w.extractLsb' 16 5).toNat (w.extractLsb' 0 16).toNat = w := by
  have hw := w.isLt
  simp only [toNat_extractLsb'_eq_fld]
  refine BitVec.eq_of_toNat_eq ?_
  simp only [encI, fOp, fld, BitVec.toNat_ofNat]
  omega

theorem encJ_fields : encJ (fOp w) (w.extractLsb' 0 26).toNat = w := by
  have hw := w.isLt
  simp only [toNat_extractLsb'_eq_fld]
  refine BitVec.eq_of_toNat_eq ?_
  simp only [encJ, fOp, fld, BitVec.toNat_ofNat]
  omega

end

/-! The fields of a word in format R, I or J. -/

section
variable {op f : Nat} (hop : op < 64) (hf : f < 2048) (rd ra rb : Reg) (imm : BitVec 16) (off : BitVec 26)
include hop

theorem toNat_encI : (encI op rd.toNat ra.toNat imm.toNat).toNat
    = op * 2 ^ 26 + rd.toNat * 2 ^ 21 + ra.toNat * 2 ^ 16 + imm.toNat := by
  have hd := rd.isLt
  have ha := ra.isLt
  have hi := imm.isLt
  rw [encI, BitVec.toNat_ofNat]
  omega

theorem toNat_encJ : (encJ op off.toNat).toNat = op * 2 ^ 26 + off.toNat := by
  have ho := off.isLt
  rw [encJ, BitVec.toNat_ofNat]
  omega

theorem fOp_encI : fOp (encI op rd.toNat ra.toNat imm.toNat) = op := by
  rw [fOp, fld, toNat_encI hop]
  omega

theorem fRd_encI : fRd (encI op rd.toNat ra.toNat imm.toNat) = rd.toNat := by
  rw [fRd, fld, toNat_encI hop]
  omega

theorem fRa_encI : fRa (encI op rd.toNat ra.toNat imm.toNat) = ra.toNat := by
  rw [fRa, fld, toNat_encI hop]
  omega

theorem fImm_encI : fImm (encI op rd.toNat ra.toNat imm.toNat) = imm.toNat := by
  rw [fImm, fld, toNat_encI hop]
  omega

theorem fOp_encJ : fOp (encJ op off.toNat) = op := by
  rw [fOp, fld, toNat_encJ hop]
  omega

theorem fOff_encJ : fld (encJ op off.toNat) 0 26 = off.toNat := by
  rw [fld, toNat_encJ hop]
  omega

include hf

theorem toNat_encR : (encR op rd.toNat ra.toNat rb.toNat f).toNat
    = op * 2 ^ 26 + rd.toNat * 2 ^ 21 + ra.toNat * 2 ^ 16 + rb.toNat * 2 ^ 11 + f := by
  have hd := rd.isLt
  have ha := ra.isLt
  have hb := rb.isLt
  rw [encR, BitVec.toNat_ofNat]
  omega

theorem fOp_encR : fOp (encR op rd.toNat ra.toNat rb.toNat f) = op := by
  rw [fOp, fld, toNat_encR hop hf]
  omega

theorem fFunc_encR : fFunc (encR op rd.toNat ra.toNat rb.toNat f) = f := by
  rw [fFunc, fld, toNat_encR hop hf]
  omega

theorem fRd_encR : fRd (encR op rd.toNat ra.toNat rb.toNat f) = rd.toNat := by
  rw [fRd, fld, toNat_encR hop hf]
  omega

theorem fRa_encR : fRa (encR op rd.toNat ra.toNat rb.toNat f) = ra.toNat := by
  rw [fRa, fld, toNat_encR hop hf]
  omega

theorem fRb_encR : fRb (encR op rd.toNat ra.toNat rb.toNat f) = rb.toNat := by
  rw [fRb, fld, toNat_encR hop hf]
  omega

end

/-- A field that stands in bits that two words share. -/
theorem fld_eq_of_and_eq {n : Nat} {a b m : BitVec n} (h : a &&& m = b &&& m) {lo w : Nat}
    (hm : m.extractLsb' lo w = BitVec.allOnes w) : fld a lo w = fld b lo w := by
  have hx := congrArg (BitVec.extractLsb' lo w) h
  rw [BitVec.extractLsb'_and, BitVec.extractLsb'_and, hm, BitVec.and_allOnes, BitVec.and_allOnes] at hx
  rw [← toNat_extractLsb'_eq_fld, hx, toNat_extractLsb'_eq_fld]

/-! ### Words with a meaning (R227 to R238) -/

theorem isSome_ite_iff {α : Type} {c : Prop} [Decidable c] {a b : Option α} :
    (if c then a else b).isSome = true ↔ (c ∧ a.isSome = true) ∨ (¬ c ∧ b.isSome = true) := by
  split <;> simp [*]

/-- The values of OP and FUNC that are defined. -/
theorem usedBits_isSome_iff (w : BitVec 32) : (usedBits w).isSome = true ↔
    (fOp w = 0x00 ∧ fFunc w ≤ 0x13) ∨ (1 ≤ fOp w ∧ fOp w ≤ 0x0D) ∨ (0x10 ≤ fOp w ∧ fOp w ≤ 0x17)
      ∨ (fOp w = 0x18 ∧ fFunc w ≤ 4)
      ∨ (0x20 ≤ fOp w ∧ fOp w ≤ 0x28) ∨ (fOp w = 0x30 ∧ fFunc w ≤ 8) ∨ (fOp w = 0x31 ∧ fFunc w ≤ 1) ∨ fOp w = 0x32
      ∨ (fOp w = 0x34 ∧ fFunc w ≤ 4) ∨ (fOp w = 0x35 ∧ fFunc w ≤ 3) ∨ fOp w = 0x36 := by
  simp only [usedBits]
  generalize fOp w = op
  generalize fFunc w = f
  simp only [isSome_ite_iff, Option.isSome_some, Option.isSome_none, Bool.false_eq_true, and_true, and_false, or_false]
  constructor
  · rintro (h | ⟨h0, h | ⟨-, h | ⟨-, h | ⟨-, h | ⟨-, h | ⟨-, h | ⟨-, h | ⟨-, h | ⟨-, h | ⟨-, h⟩⟩⟩⟩⟩⟩⟩⟩⟩⟩)
    all_goals omega
  · rintro (h | h | h | h | h | h | h | h | h | h | h)
    all_goals omega

theorem sameWord_self {w : BitVec 32} (h : (usedBits w).isSome = true) : sameWord w w = true := by
  obtain ⟨m, hm⟩ := Option.isSome_iff_exists.mp h
  simp [sameWord, hm]

/-- The meaning of JR does not look at the lower half of its word. -/
theorem and_upper_eq {a b : BitVec 32} (h : a.extractLsb' 16 16 = b.extractLsb' 16 16) :
    a &&& (mOp ||| mRd ||| mRa) = b &&& (mOp ||| mRd ||| mRa) := by
  have hlow : ∀ i, i < 16 → (mOp ||| mRd ||| mRa).getLsbD i = false := by decide
  refine BitVec.eq_of_getLsbD_eq fun i hi => ?_
  rw [BitVec.getLsbD_and, BitVec.getLsbD_and]
  by_cases h16 : i < 16
  · rw [hlow i h16, Bool.and_false, Bool.and_false]
  · have hbit := congrArg (·.getLsbD (i - 16)) h
    simp only [BitVec.getLsbD_extractLsb', show 16 + (i - 16) = i by omega, show i - 16 < 16 by omega, decide_true,
      Bool.true_and] at hbit
    rw [hbit]

theorem sameWord_jr {w : BitVec 32} (h : fOp w = 0x28) :
    sameWord w (encR 0x28 (w.extractLsb' 21 5).toNat (w.extractLsb' 16 5).toNat (w.extractLsb' 11 5).toNat 0) = true := by
  have hused : usedBits (encR 0x28 (w.extractLsb' 21 5).toNat (w.extractLsb' 16 5).toNat (w.extractLsb' 11 5).toNat 0)
      = some (mOp ||| mRd ||| mRa) := by
    unfold usedBits
    extract_lets op f
    have hop : op = 0x28 := fOp_encR (by decide) (by decide) _ _ _
    clear_value op f
    subst hop
    rfl
  have hupper := toNat_encR (show 0x28 < 64 by decide) (show 0 < 2048 by decide) (w.extractLsb' 21 5) (w.extractLsb' 16 5)
    (w.extractLsb' 11 5)
  rw [sameWord, hused]
  refine decide_eq_true (and_upper_eq (BitVec.eq_of_toNat_eq ?_))
  rw [toNat_extractLsb'_eq_fld, toNat_extractLsb'_eq_fld, fld, fld, hupper]
  simp only [toNat_extractLsb'_eq_fld]
  have hw := w.isLt
  simp only [fOp, fld] at h ⊢
  omega

/-! ### The commands of a word -/

theorem mem_pick_iff {l : List Instr} {n : Nat} {i : Instr} : i ∈ pick l n ↔ l[n]? = some i := by
  rw [pick, Option.mem_toList]

/-- The word of the instruction that is picked, from the words of a list. -/
theorem nibWord_of_mem_pick {l : List Instr} {word : Nat → Option (Th × BitVec 32)} {n : Nat} {i : Instr}
    (hl : l.map nibWord = (List.range l.length).map word) (hi : i ∈ pick l n) : nibWord i = word n := by
  obtain ⟨hn, rfl⟩ := List.getElem?_eq_some_iff.mp (mem_pick_iff.mp hi)
  have hat := congrArg (·[n]?) hl
  simpa [hn] using hat

theorem exists_pick_eq {l : List Instr} {n : Nat} (h : n < l.length) : ∃ i, pick l n = [i] :=
  ⟨l[n], by rw [pick, List.getElem?_eq_getElem h, Option.toList_some]⟩

theorem nibDecode_eq {w : BitVec 32} (h : (usedBits w).isSome = true) (t : Th) :
    nibDecode t w = nibByOp t (fOp w) (fFunc w) (w.extractLsb' 21 5) (w.extractLsb' 16 5) (w.extractLsb' 11 5)
      (w.extractLsb' 0 16) (w.extractLsb' 0 26) := by
  have hu : (usedBits w).isNone = false := by
    rwa [Option.isNone_eq_false_iff]
  rw [nibDecode, hu]
  rfl

section
variable {t : Th} {op f : Nat} {rd ra rb : Reg} {imm : BitVec 16} {off : BitVec 26}

/-- What a word in format R, in format I or B, or in format J can be. -/
theorem nibDecode_encR (hop : op < 64) (hf : f < 2048)
    (hd : (usedBits (encR op rd.toNat ra.toNat rb.toNat f)).isSome = true) :
    nibDecode t (encR op rd.toNat ra.toNat rb.toNat f) = nibByOp t op f rd ra rb
      ((encR op rd.toNat ra.toNat rb.toNat f).extractLsb' 0 16)
        ((encR op rd.toNat ra.toNat rb.toNat f).extractLsb' 0 26) := by
  have hrd : (encR op rd.toNat ra.toNat rb.toNat f).extractLsb' 21 5 = rd :=
    BitVec.eq_of_toNat_eq ((toNat_extractLsb'_eq_fld _ _ _).trans (fRd_encR hop hf rd ra rb))
  have hra : (encR op rd.toNat ra.toNat rb.toNat f).extractLsb' 16 5 = ra :=
    BitVec.eq_of_toNat_eq ((toNat_extractLsb'_eq_fld _ _ _).trans (fRa_encR hop hf rd ra rb))
  have hrb : (encR op rd.toNat ra.toNat rb.toNat f).extractLsb' 11 5 = rb :=
    BitVec.eq_of_toNat_eq ((toNat_extractLsb'_eq_fld _ _ _).trans (fRb_encR hop hf rd ra rb))
  rw [nibDecode_eq hd, fOp_encR hop hf, fFunc_encR hop hf, hrd, hra, hrb]

theorem nibDecode_encI (hop : op < 64) (hd : (usedBits (encI op rd.toNat ra.toNat imm.toNat)).isSome = true) :
    nibDecode t (encI op rd.toNat ra.toNat imm.toNat) = nibByOp t op (fFunc (encI op rd.toNat ra.toNat imm.toNat)) rd ra
      ((encI op rd.toNat ra.toNat imm.toNat).extractLsb' 11 5) imm ((encI op rd.toNat ra.toNat imm.toNat).extractLsb' 0 26) := by
  have hrd : (encI op rd.toNat ra.toNat imm.toNat).extractLsb' 21 5 = rd :=
    BitVec.eq_of_toNat_eq ((toNat_extractLsb'_eq_fld _ _ _).trans (fRd_encI hop rd ra imm))
  have hra : (encI op rd.toNat ra.toNat imm.toNat).extractLsb' 16 5 = ra :=
    BitVec.eq_of_toNat_eq ((toNat_extractLsb'_eq_fld _ _ _).trans (fRa_encI hop rd ra imm))
  have himm : (encI op rd.toNat ra.toNat imm.toNat).extractLsb' 0 16 = imm :=
    BitVec.eq_of_toNat_eq ((toNat_extractLsb'_eq_fld _ _ _).trans (fImm_encI hop rd ra imm))
  rw [nibDecode_eq hd, fOp_encI hop, hrd, hra, himm]

theorem nibDecode_encJ (hop : op < 64) (hd : (usedBits (encJ op off.toNat)).isSome = true) :
    nibDecode t (encJ op off.toNat) = nibByOp t op (fFunc (encJ op off.toNat)) ((encJ op off.toNat).extractLsb' 21 5)
      ((encJ op off.toNat).extractLsb' 16 5) ((encJ op off.toNat).extractLsb' 11 5)
        ((encJ op off.toNat).extractLsb' 0 16) off := by
  have hoff : (encJ op off.toNat).extractLsb' 0 26 = off :=
    BitVec.eq_of_toNat_eq ((toNat_extractLsb'_eq_fld _ _ _).trans (fOff_encJ hop off))
  rw [nibDecode_eq hd, fOp_encJ hop, hoff]

end

/-- The word of an instruction decodes to it. -/
theorem mem_nibDecode_of_nibWord {i : Instr} {t : Th} {w : BitVec 32} (h : nibWord i = some (t, w)) : i ∈ nibDecode t w := by
  unfold nibWord at h
  split at h
  all_goals
    simp only [wordR, wordI, Option.some.injEq, Prod.mk.injEq, reduceCtorEq] at h
  all_goals
    obtain ⟨rfl, rfl⟩ := h
    simp [nibDecode_encR, nibDecode_encI, nibDecode_encJ, usedBits_isSome_iff, fOp_encR, fFunc_encR, fOp_encI,
      fOp_encJ, nibByOp, pick]

/-- What a word can be is an instruction of that word, but for JR, whose meaning does not look at every bit. -/
theorem nibWord_of_mem_nibByOp {i : Instr} {t : Th} {op f : Nat} {rd ra rb : Reg} {imm : BitVec 16}
    {off : BitVec 26} {w : BitVec 32} (hR : encR op rd.toNat ra.toNat rb.toNat f = w)
    (hI : encI op rd.toNat ra.toNat imm.toNat = w) (hJ : encJ op off.toNat = w)
    (hw : (usedBits w).isSome = true) (hop : fOp w = op) (hf : fFunc w = f) (hjr : op ≠ 0x28)
    (hi : i ∈ nibByOp t op f rd ra rb imm off) : nibWord i = some (t, w) := by
  have hpickR : ∀ l : List Instr,
      l.map nibWord = (List.range l.length).map (fun k => some (t, encR op rd.toNat ra.toNat rb.toNat k)) →
      i ∈ pick l f → nibWord i = some (t, w) :=
    fun l hl hi => hR ▸ nibWord_of_mem_pick hl hi
  have hpickI : ∀ (l : List Instr) (k : Nat), k ≤ op →
      l.map nibWord = (List.range l.length).map (fun n => some (t, encI (n + k) rd.toNat ra.toNat imm.toNat)) →
      i ∈ pick l (op - k) → nibWord i = some (t, w) := by
    intro l k hk hl hi
    rw [nibWord_of_mem_pick hl hi, Nat.sub_add_cancel hk, hI]
  have hdef := (usedBits_isSome_iff w).mp hw
  rw [hop, hf] at hdef
  clear hop hf hw
  rcases hdef with ⟨rfl, -⟩ | h | h | ⟨rfl, -⟩ | h | ⟨rfl, -⟩ | ⟨rfl, h⟩ | rfl | ⟨rfl, -⟩ | ⟨rfl, -⟩ | rfl
  · exact hpickR _ rfl hi
  · rw [nibByOp, if_neg (by omega), if_pos h.2] at hi
    exact hpickI _ 1 h.1 rfl hi
  · rw [nibByOp, if_neg (by omega), if_neg (by omega), if_pos h.2] at hi
    exact hpickI _ 0x10 h.1 rfl hi
  · exact hpickR _ rfl hi
  · by_cases hb : op ≤ 0x25
    · rw [nibByOp, if_neg (by omega), if_neg (by omega), if_neg (by omega), if_neg (by omega), if_pos hb] at hi
      exact hpickI _ 0x20 h.1 rfl hi
    · obtain rfl | rfl : op = 0x26 ∨ op = 0x27 := by omega
      · obtain rfl := List.mem_singleton.mp hi
        exact hJ ▸ rfl
      · obtain rfl := List.mem_singleton.mp hi
        exact hJ ▸ rfl
  · exact hpickR _ rfl hi
  · obtain rfl | rfl : f = 0 ∨ f = 1 := by omega
    · obtain rfl | rfl | rfl : i = .pendForward t rd ra rb ∨ i = .pendDrop t rd ra rb ∨ i = .pendException t rd ra rb := by
        simpa [nibByOp] using hi
      all_goals exact hR ▸ rfl
    · obtain rfl := List.mem_singleton.mp hi
      exact hR ▸ rfl
  · obtain rfl := List.mem_singleton.mp hi
    exact hI ▸ rfl
  · exact hpickR _ rfl hi
  · exact hpickR _ rfl hi
  · obtain rfl | rfl | rfl : i = .csubCopy t rd ra imm ∨ i = .csubEspOut t rd ra imm ∨ i = .csubEspIn t rd ra imm := by
      simpa [nibByOp] using hi
    all_goals exact hI ▸ rfl

theorem nibWord_of_mem_nibDecode {i : Instr} {t : Th} {w : BitVec 32} (hi : i ∈ nibDecode t w) :
    ∃ v, nibWord i = some (t, v) ∧ sameWord w v = true := by
  have hw : (usedBits w).isSome = true := by
    rw [Option.isSome_iff_ne_none]
    intro hnone
    simp [nibDecode, hnone] at hi
  rw [nibDecode_eq hw] at hi
  by_cases hop : fOp w = 0x28
  · rw [hop] at hi
    obtain rfl := List.mem_singleton.mp hi
    exact ⟨_, rfl, sameWord_jr hop⟩
  · exact ⟨w, nibWord_of_mem_nibByOp (encR_fields w) (encI_fields w) (encJ_fields w) hw rfl rfl hop hi, sameWord_self hw⟩

/-- A word is one instruction, but for PEND by its verdict and CSUB by its record. -/
theorem nibDecode_cases (t : Th) {w : BitVec 32} (hw : (usedBits w).isSome = true) :
    (∃ i, nibDecode t w = [i]) ∨ ((fOp w = 0x31 ∨ fOp w = 0x36) ∧ ∃ i j k, nibDecode t w = [i, j, k]) := by
  have hdef := (usedBits_isSome_iff w).mp hw
  rw [nibDecode_eq hw]
  generalize fOp w = op at *
  generalize fFunc w = f at *
  rcases hdef with ⟨rfl, h⟩ | h | h | ⟨rfl, h⟩ | h | ⟨rfl, h⟩ | ⟨rfl, h⟩ | rfl | ⟨rfl, h⟩ | ⟨rfl, h⟩ | rfl
  · exact .inl (exists_pick_eq (Nat.lt_succ_of_le h))
  · rw [nibByOp, if_neg (by omega), if_pos h.2]
    exact .inl (exists_pick_eq (by simp only [List.length_cons, List.length_nil]; omega))
  · rw [nibByOp, if_neg (by omega), if_neg (by omega), if_pos h.2]
    exact .inl (exists_pick_eq (by simp only [List.length_cons, List.length_nil]; omega))
  · exact .inl (exists_pick_eq (Nat.lt_succ_of_le h))
  · by_cases hb : op ≤ 0x25
    · rw [nibByOp, if_neg (by omega), if_neg (by omega), if_neg (by omega), if_neg (by omega), if_pos hb]
      exact .inl (exists_pick_eq (by simp only [List.length_cons, List.length_nil]; omega))
    · obtain rfl | rfl | rfl : op = 0x26 ∨ op = 0x27 ∨ op = 0x28 := by omega
      all_goals exact .inl ⟨_, rfl⟩
  · exact .inl (exists_pick_eq (Nat.lt_succ_of_le h))
  · obtain rfl | rfl : f = 0 ∨ f = 1 := by omega
    · exact .inr ⟨.inl rfl, _, _, _, rfl⟩
    · exact .inl ⟨_, rfl⟩
  · exact .inl ⟨_, rfl⟩
  · exact .inl (exists_pick_eq (Nat.lt_succ_of_le h))
  · exact .inl (exists_pick_eq (Nat.lt_succ_of_le h))
  · exact .inr ⟨.inr rfl, _, _, _, rfl⟩

theorem nibDecode_eq_nil {t : Th} {w : BitVec 32} (hw : usedBits w = none) : nibDecode t w = [] := by
  rw [nibDecode, hw]
  rfl

theorem nibDecode_eq_nil_iff (t : Th) (w : BitVec 32) : nibDecode t w = [] ↔ usedBits w = none := by
  refine ⟨fun h => ?_, nibDecode_eq_nil⟩
  by_contra hw
  rcases nibDecode_cases t (Option.isSome_iff_ne_none.mpr hw) with ⟨i, hi⟩ | ⟨-, i, j, k, hi⟩
  all_goals simp [hi] at h

theorem length_nibDecode_le (t : Th) {w : BitVec 32} (h31 : fOp w ≠ 0x31) (h36 : fOp w ≠ 0x36) :
    (nibDecode t w).length ≤ 1 := by
  by_cases hw : usedBits w = none
  · simp [nibDecode_eq_nil hw]
  · rcases nibDecode_cases t (Option.isSome_iff_ne_none.mpr hw) with ⟨i, hi⟩ | ⟨hop, -⟩
    · simp [hi]
    · exact absurd hop (not_or.mpr ⟨h31, h36⟩)

/-- Settles O36, by the cases of OP: the word of an instruction is the word of its fields, and a word is that of its
own fields. -/
theorem nibWordsDecodeAndEncode : Obligations.NibWordsDecodeAndEncode :=
  ⟨fun _ _ _ => mem_nibDecode_of_nibWord, fun _ _ _ => nibWord_of_mem_nibDecode, nibDecode_eq_nil_iff,
    fun t _ => length_nibDecode_le t⟩

end Sys2Proof.Machine
end

section
/-! SUPPORT. Threads and units replaced, and the issue of a word by a thread (09 R217, R227, R242, R249). -/

namespace Sys2Proof.Machine
open Sys2Proof

/-! ### Tables whose value at a key is set twice -/

theorem mput_mput {α : Type} (m : Map α) (k : Nat) (v w : α) : mput (mput m k v) k w = mput m k w := by
  induction m with
  | nil => simp [mput]
  | cons e rest ih =>
    obtain ⟨a, b⟩ := e
    by_cases hlt : k < a
    · simp [mput, hlt]
    · by_cases heq : k = a
      · simp [mput, heq]
      · simp [mput, hlt, heq, ih]

theorem merase_mput {α : Type} (m : Map α) (k : Nat) (v : α) : merase (mput m k v) k = merase m k := by
  induction m with
  | nil => simp [mput, merase]
  | cons e rest ih =>
    obtain ⟨a, b⟩ := e
    by_cases hlt : k < a
    · simp [mput, merase, hlt]
    · by_cases heq : k = a
      · simp [mput, merase, heq]
      · simp [mput, merase, hlt, heq, ih]

/-- A value that is listed is replaced where it stands. -/
theorem mset_mset {α : Type} [DecidableEq α] {v d : α} (hv : v ≠ d) (m : Map α) (k : Nat) (w : α) :
    mset (mset m k v d) k w d = mset m k w d := by
  simp only [mset, if_neg hv, merase_mput, mput_mput]

theorem mset_ne_nil {α : Type} [DecidableEq α] {v d : α} (hv : v ≠ d) (m : Map α) (k : Nat) : mset m k v d ≠ [] := by
  rw [mset, if_neg hv]
  cases m with
  | nil => simp [mput]
  | cons e rest =>
    simp only [mput]
    split
    · simp
    · split <;> simp

/-! ### Units -/

@[simp] theorem State.nib_setNib_self (s : State) (u : Nat) (x : Nib) : (s.setNib u x).nib u = x := by
  rw [State.nib_setNib, if_pos rfl]

theorem State.nib_setNib_of_ne {u v : Nat} (h : v ≠ u) (s : State) (x : Nib) : (s.setNib u x).nib v = s.nib v := by
  rw [State.nib_setNib, if_neg h]

theorem State.setNib_setNib {x : Nib} (hx : x ≠ {}) (s : State) (u : Nat) (y : Nib) :
    (s.setNib u x).setNib u y = s.setNib u y := by
  simp only [State.setNib, mset_mset hx]

/-- The device apart from its units. -/
theorem State.setNib_nibs_eq (s : State) (u : Nat) (x : Nib) : { s.setNib u x with nibs := s.nibs } = s := rfl

@[simp] theorem State.setNib_half (s : State) (u : Nat) (x : Nib) (h : Half) : (s.setNib u x).half h = s.half h := by
  cases h <;> rfl

/-! ### Threads of a unit -/

section
variable (x : Nib) (i : Nat) (t : Thread)

@[simp] theorem Nib.setTh_shared : (x.setTh i t).shared = x.shared := rfl
@[simp] theorem Nib.setTh_overflow : (x.setTh i t).overflow = x.overflow := rfl
@[simp] theorem Nib.setTh_lost : (x.setTh i t).lost = x.lost := rfl
@[simp] theorem Nib.setTh_chans : (x.setTh i t).chans = x.chans := rfl
@[simp] theorem Nib.setTh_locks : (x.setTh i t).locks = x.locks := rfl
@[simp] theorem Nib.setTh_lock (n : Nat) : (x.setTh i t).lock n = x.lock n := rfl
@[simp] theorem Nib.setTh_lockOf (a : Nat) : (x.setTh i t).lockOf a = x.lockOf a := rfl

@[simp] theorem Nib.th_setTh_self : (x.setTh i t).th i = t := mget_mset_same _ _ _ _

variable {i} in
theorem Nib.th_setTh_of_ne {j : Nat} (h : j ≠ i) : (x.setTh i t).th j = x.th j := mget_mset_of_ne h _ _ _ _

variable {t} in
theorem Nib.setTh_ne_default (ht : t ≠ {}) : x.setTh i t ≠ {} := fun h => mset_ne_nil ht x.threads i (congrArg Nib.threads h)

variable {t} in
theorem Nib.setTh_setTh (ht : t ≠ {}) (y : Thread) : (x.setTh i t).setTh i y = x.setTh i y := by
  simp only [Nib.setTh, mset_mset ht]

end

section
variable (s : State) (u i : Nat) (t : Thread)

@[simp] theorem State.nib_setTh_self : (s.setTh u i t).nib u = (s.nib u).setTh i t := State.nib_setNib_self _ _ _

@[simp] theorem State.th_setTh_self : (s.setTh u i t).th u i = t := by
  rw [State.th, State.nib_setTh_self, Nib.th_setTh_self]

variable {i} in
theorem State.th_setTh_of_ne {j : Nat} (h : j ≠ i) : (s.setTh u i t).th u j = s.th u j := by
  rw [State.th, State.nib_setTh_self, Nib.th_setTh_of_ne _ _ h, State.th]

variable {t} in
theorem State.setTh_setNib (ht : t ≠ {}) (x : Nib) : (s.setTh u i t).setNib u x = s.setNib u x :=
  State.setNib_setNib (Nib.setTh_ne_default _ _ ht) _ _ _

variable {t} in
theorem State.setTh_setTh (ht : t ≠ {}) (y : Thread) : (s.setTh u i t).setTh u i y = s.setTh u i y := by
  rw [State.setTh, State.setTh_setNib _ _ _ ht, State.nib_setTh_self, Nib.setTh_setTh _ _ ht, State.setTh]

/-- A unit that is changed and of which a thread is then replaced. -/
theorem State.setNib_setTh {x : Nib} (hx : x ≠ {}) : (s.setNib u x).setTh u i t = s.setNib u (x.setTh i t) := by
  rw [State.setTh, State.setNib_setNib hx, State.nib_setNib_self]

end

/-! ### A thread as its instruction starts (R249) -/

/-- The device as a thread starts an instruction: the pass of a breakpoint has ended. -/
def State.started (s : State) (t : Th) : State := s.putThr t (s.thr t)

section
variable {s : State} {t : Th}

/-- What an instruction does, and what its fault does. -/
theorem State.nibDo_ok {f : NibFn} {c : BitVec 32} {r : State} (h : f (s.started t) t.unit.val t.slot.val c = .ok r) :
    s.nibDo t.unit.val t.slot.val f c = r := by
  change (match f (s.started t) t.unit.val t.slot.val c with
    | .ok s2 => s2
    | .error e => (s.started t).threadFault t.unit.val t.slot.val e) = r
  rw [h]

theorem State.nibDo_error {f : NibFn} {c : BitVec 32} {code : Nat}
    (h : f (s.started t) t.unit.val t.slot.val c = .error code) :
    s.nibDo t.unit.val t.slot.val f c = s.faulted t code := by
  change (match f (s.started t) t.unit.val t.slot.val c with
    | .ok s2 => s2
    | .error e => (s.started t).threadFault t.unit.val t.slot.val e) = _
  rw [h]
  rfl

/-- A thread that issues runs, is not halted, and its instruction lies in the code store. -/
theorem State.running_of_issues {w : BitVec 32} (h : s.issues t w = true) : (s.thr t).st = .running := by
  simp only [State.issues, State.ready, Bool.and_eq_true, decide_eq_true_eq] at h
  exact h.1.1.1.2

theorem State.halted_of_issues {w : BitVec 32} (h : s.issues t w = true) : (s.thr t).halted = none := by
  simp only [State.issues, State.ready, Bool.and_eq_true, Option.isNone_iff_eq_none] at h
  exact h.1.1.2

theorem State.pc_lt_of_issues {w : BitVec 32} (h : s.issues t w = true) : (s.thr t).pc < 262144 := by
  obtain ⟨c, hc, -⟩ := State.issue_eq h nibAlu
  rw [Nib.fetch] at hc
  split at hc
  · next hpc => exact hpc.2
  · cases hc

theorem State.next_pc_of_issues {w : BitVec 32} (h : s.issues t w = true) :
    ((s.thr t).pc + 4) % 4294967296 = (s.thr t).pc + 4 :=
  Nat.mod_eq_of_lt (by have := State.pc_lt_of_issues h; omega)

/-- The word that a thread issues is the one at its address in the bits that its meaning uses. -/
theorem State.issue_word {w m : BitVec 32} (h : s.issues t w = true) (hm : usedBits w = some m) (f : NibFn) :
    ∃ c, c &&& m = w &&& m ∧ s.issue t w f = s.nibDo t.unit.val t.slot.val f c := by
  obtain ⟨c, -, -, hsame, hdo⟩ := State.issue_eq h f
  refine ⟨c, ?_, hdo⟩
  simpa [sameWord, hm] using hsame

/-- A meaning that uses every bit of its word. -/
theorem State.issue_whole {w : BitVec 32} (h : s.issues t w = true) (hm : usedBits w = some mAll) (f : NibFn) :
    s.issue t w f = s.nibDo t.unit.val t.slot.val f w := by
  obtain ⟨c, hc, hdo⟩ := State.issue_word h hm f
  have hall : mAll = BitVec.allOnes 32 := rfl
  rw [hall, BitVec.and_allOnes, BitVec.and_allOnes] at hc
  rw [hdo, hc]

theorem State.started_nib : (s.started t).nib t.unit.val
    = (s.nib t.unit.val).setTh t.slot.val { s.thr t with skip := false } := State.nib_setTh_self _ _ _ _

theorem State.started_th : (s.started t).th t.unit.val t.slot.val = { s.thr t with skip := false } :=
  State.th_setTh_self _ _ _ _

theorem State.started_time (h : Half) : (s.started t).time h = s.time h := by
  cases h <;> rfl

theorem State.started_nibRa (c : BitVec 32) : (s.started t).nibRa t.unit.val t.slot.val c = (s.thr t).reg (fRa c) := by
  rw [State.nibRa, State.started_th]
  rfl

theorem State.started_nibRb (c : BitVec 32) : (s.started t).nibRb t.unit.val t.slot.val c = (s.thr t).reg (fRb c) := by
  rw [State.nibRb, State.started_th]
  rfl

theorem State.started_nibRdVal (c : BitVec 32) : (s.started t).nibRdVal t.unit.val t.slot.val c = (s.thr t).reg (fRd c) := by
  rw [State.nibRdVal, State.started_th]
  rfl

theorem Thread.ne_default_of_running {x : Thread} (h : x.st = .running) : x ≠ {} := fun hx => by
  rw [hx] at h
  cases h

theorem Thread.setReg_skip (x : Thread) (r : Nat) (v : Word) :
    { x with skip := false }.setReg r v = { x.setReg r v with skip := false } := by
  unfold Thread.setReg
  split <;> rfl

section
variable (hr : (s.thr t).st = .running)
include hr

theorem State.started_setNib (x : Nib) : (s.started t).setNib t.unit.val x = s.setNib t.unit.val x :=
  State.setTh_setNib _ _ _ (Thread.ne_default_of_running (x := { s.thr t with skip := false }) hr) x

theorem State.started_setTh (y : Thread) :
    (s.started t).setTh t.unit.val t.slot.val y = s.setTh t.unit.val t.slot.val y :=
  State.setTh_setTh _ _ _ (Thread.ne_default_of_running (x := { s.thr t with skip := false }) hr) y

/-- An instruction that writes rd and goes on to the next. -/
theorem State.started_nibRd {c : BitVec 32} {rd : Reg} (hc : fRd c = rd.toNat) (v : Word) :
    (s.started t).nibRd t.unit.val t.slot.val c v = s.wrote t rd v := by
  rw [State.nibRd, State.started_th, State.started_setTh hr, hc, Thread.setReg_skip]
  rfl

theorem State.started_nibNext : (s.started t).nibNext t.unit.val t.slot.val = s.putThr t (s.thr t).next := by
  rw [State.nibNext, State.started_th, State.started_setTh hr]
  rfl

end

end

end Sys2Proof.Machine
end

section
/-! SUPPORT. The ALU functions and the immediate forms of a nib thread (09 R228, R229). -/

namespace Sys2Proof.Machine
open Sys2Proof

/-! ### Values (R228, R229) -/

theorem aluClz_eq {a : Word} {n : Nat} (hn : n ≤ 64) (hzero : ∀ i, i < n → a.getLsbD (63 - i) = false)
    (hone : n < 64 → a.getLsbD (63 - n) = true) : aluClz a = BitVec.ofNat 64 n := by
  have hfind : (List.range 64).find? (fun i => a.getLsbD (63 - i)) = if n < 64 then some n else none := by
    split
    · next h =>
      rw [List.find?_range_eq_some]
      exact ⟨hone h, List.mem_range.mpr h, fun i hi => by rw [hzero i hi]; rfl⟩
    · next h =>
      rw [List.find?_range_eq_none]
      exact fun i hi => by rw [hzero i (by omega)]; rfl
  rw [aluClz, hfind]
  split
  · rfl
  · rw [show n = 64 by omega]
    rfl

theorem foldl_bytes (bs : List Byte) : ∀ a : Nat,
    bs.foldl (fun a b => a * 256 + b.toNat) a = a * 256 ^ bs.length + beNat bs := by
  induction bs with
  | nil => simp [beNat]
  | cons b rest ih =>
    intro a
    rw [beNat, List.foldl_cons, ih, List.foldl_cons, ih, List.length_cons, Nat.pow_succ]
    ring

theorem beNat_cons (b : Byte) (rest : List Byte) : beNat (b :: rest) = b.toNat * 256 ^ rest.length + beNat rest := by
  rw [beNat, List.foldl_cons, foldl_bytes, Nat.zero_mul, Nat.zero_add]

theorem beNat_lt (bs : List Byte) : beNat bs < 256 ^ bs.length := by
  induction bs with
  | nil => simp [beNat]
  | cons b rest ih =>
    have hb : b.toNat + 1 ≤ 256 := b.isLt
    have hmul := Nat.mul_le_mul_right (256 ^ rest.length) hb
    rw [beNat_cons, List.length_cons, Nat.pow_succ]
    rw [Nat.add_mul, Nat.one_mul] at hmul
    omega

@[simp] theorem length_leBytes (n v : Nat) : (leBytes n v).length = n := by
  induction n generalizing v with
  | zero => rfl
  | succ n ih => rw [leBytes, List.length_cons, ih]

/-- A byte of the number that bytes in the other order make. -/
theorem byte_beNat_leBytes {n i : Nat} (hi : i < n) (v : Nat) :
    beNat (leBytes n v) / 256 ^ i % 256 = v / 256 ^ (n - 1 - i) % 256 := by
  induction n generalizing v with
  | zero => omega
  | succ n ih =>
    rw [leBytes, beNat_cons, length_leBytes, BitVec.toNat_ofNat]
    have hlow : beNat (leBytes n (v / 256)) < 256 ^ n := by simpa using beNat_lt (leBytes n (v / 256))
    by_cases hin : i = n
    · subst hin
      rw [Nat.mul_comm, Nat.mul_add_div (Nat.pow_pos (by decide)), Nat.div_eq_of_lt hlow]
      simp
    · have hsplit : 256 ^ n = 256 ^ i * (256 * 256 ^ (n - 1 - i)) := by
        rw [← Nat.pow_succ', ← Nat.pow_add]
        congr 1
        omega
      have hlast : v / 256 ^ (n + 1 - 1 - i) = v / 256 / 256 ^ (n - 1 - i) := by
        rw [Nat.div_div_eq_div_mul, ← Nat.pow_succ']
        congr 2
        omega
      rw [hlast, ← ih (by omega), hsplit, Nat.mul_left_comm, Nat.mul_add_div (Nat.pow_pos (by decide)), Nat.mul_left_comm,
        Nat.mul_add_mod]

/-- A byte of the word with its bytes reversed. -/
theorem aluBswap_byte (a : Word) {i : Nat} (hi : i < 8) :
    (aluBswap a).extractLsb' (8 * i) 8 = a.extractLsb' (56 - 8 * i) 8 := by
  have hlt : beNat (leBytes 8 a.toNat) < 2 ^ 64 := by simpa using beNat_lt (leBytes 8 a.toNat)
  have hpow : ∀ j, 2 ^ (8 * j) = 256 ^ j := fun j => Nat.pow_mul 2 8 j
  refine BitVec.eq_of_toNat_eq ?_
  rw [aluBswap, toNat_extractLsb'_eq_fld, toNat_extractLsb'_eq_fld, fld, fld, BitVec.toNat_ofNat, Nat.mod_eq_of_lt hlt,
    show 56 - 8 * i = 8 * (8 - 1 - i) by omega, hpow, hpow]
  exact byte_beNat_leBytes hi _

theorem signed_eq_toInt {w : Nat} (v : BitVec w) : signed w v.toNat = v.toInt := by
  cases w with
  | zero => simp [signed, BitVec.eq_nil v]
  | succ n =>
    rw [signed, BitVec.toInt_eq_toNat_cond, Nat.add_sub_cancel]
    have hlt : v.toNat < 2 ^ n ↔ 2 * v.toNat < 2 ^ (n + 1) := by
      rw [Nat.pow_succ]
      omega
    simp only [hlt]
    split <;> simp

/-- The immediate of a word, extended by its sign. -/
theorem ofInt_signed_eq_signExtend (imm : BitVec 16) : BitVec.ofInt 64 (signed 16 imm.toNat) = imm.signExtend 64 := by
  rw [signed_eq_toInt]
  rfl

theorem ofNat_eq_zeroExtend (imm : BitVec 16) : BitVec.ofNat 64 imm.toNat = imm.zeroExtend 64 := BitVec.ofNat_toNat 64 imm

theorem getLsbD_ofNat_two_pow_sub_one {i : Nat} (hi : i < 64) (len : Nat) :
    (BitVec.ofNat 64 (2 ^ len - 1)).getLsbD i = decide (i < len) := by
  rw [BitVec.getLsbD_ofNat, Nat.testBit_two_pow_sub_one]
  simp [hi]

theorem alu_slt (a b : Word) : alu 0x00A a b = some (if a.toInt < b.toInt then 1 else 0) := by
  simp [alu, BitVec.slt]

theorem alu_sltu (a b : Word) : alu 0x00B a b = some (if a.toNat < b.toNat then 1 else 0) := by
  simp [alu, BitVec.ult]

theorem alu_min (a b : Word) : alu 0x00E a b = some (if a.toInt ≤ b.toInt then a else b) := by
  have hmin : (if b.slt a then b else a) = if a.toInt ≤ b.toInt then a else b := by
    simp only [BitVec.slt, decide_eq_true_eq]
    by_cases h : a.toInt ≤ b.toInt
    · rw [if_neg (by omega), if_pos h]
    · rw [if_pos (by omega), if_neg h]
  exact congrArg some hmin

theorem alu_max (a b : Word) : alu 0x00F a b = some (if a.toInt ≤ b.toInt then b else a) := by
  have hmax : (if a.slt b then b else a) = if a.toInt ≤ b.toInt then b else a := by
    simp only [BitVec.slt, decide_eq_true_eq]
    rcases Int.lt_trichotomy a.toInt b.toInt with h | h | h
    · rw [if_pos h, if_pos (by omega)]
    · rw [if_neg (by omega), if_pos (by omega), BitVec.eq_of_toInt_eq h]
    · rw [if_neg (by omega), if_neg (by omega)]
  exact congrArg some hmax

/-! ### Words of the ALU and the immediate forms -/

section
variable {f op : Nat} (rd ra rb : Reg) (imm : BitVec 16)

/-- The functions of two operands use every bit of their word, the others all but rb. -/
theorem usedBits_alu (hf : f ≤ 0x0F ∨ f = 0x13) : usedBits (encR 0x00 rd.toNat ra.toNat rb.toNat f) = some mAll := by
  simp only [usedBits, fOp_encR (show 0 < 64 by decide) (show f < 2048 by omega),
    fFunc_encR (show 0 < 64 by decide) (show f < 2048 by omega), if_true]
  rw [if_pos hf]

theorem usedBits_alu_unary (hf : 0x10 ≤ f) (hf' : f ≤ 0x12) :
    usedBits (encR 0x00 rd.toNat ra.toNat rb.toNat f) = some (mOp ||| mRd ||| mRa ||| mFunc) := by
  simp only [usedBits, fOp_encR (show 0 < 64 by decide) (show f < 2048 by omega),
    fFunc_encR (show 0 < 64 by decide) (show f < 2048 by omega), if_true]
  rw [if_neg (by omega), if_pos hf']

end

section
variable {s : State} {t : Th} {rd ra rb : Reg} {f : Nat}

theorem State.issue_alu {v : Word} (h : s.issues t (encR 0x00 rd.toNat ra.toNat rb.toNat f) = true) (hf : f ≤ 0x0F ∨ f = 0x13)
    (hv : alu f (s.rv t ra) (s.rv t rb) = some v) :
    s.issue t (encR 0x00 rd.toNat ra.toNat rb.toNat f) nibAlu = s.wrote t rd v := by
  have hlt : f < 2048 := by omega
  rw [State.issue_whole h (usedBits_alu rd ra rb hf)]
  refine State.nibDo_ok ?_
  rw [nibAlu, fFunc_encR (by decide) hlt, State.started_nibRa, State.started_nibRb, fRa_encR (by decide) hlt,
    fRb_encR (by decide) hlt]
  change (match alu f (s.rv t ra) (s.rv t rb) with | some v => _ | none => _) = _
  rw [hv]
  exact congrArg Except.ok (State.started_nibRd (State.running_of_issues h) (fRd_encR (by decide) hlt rd ra rb) v)

/-- The functions of one operand do not look at rb. -/
theorem State.issue_alu_unary {v : Word} (h : s.issues t (encR 0x00 rd.toNat ra.toNat rb.toNat f) = true) (hf : 0x10 ≤ f)
    (hf' : f ≤ 0x12) (hv : ∀ b, alu f (s.rv t ra) b = some v) :
    s.issue t (encR 0x00 rd.toNat ra.toNat rb.toNat f) nibAlu = s.wrote t rd v := by
  have hlt : f < 2048 := by omega
  obtain ⟨c, hc, hdo⟩ := State.issue_word h (usedBits_alu_unary rd ra rb hf hf') nibAlu
  have hfunc : fFunc c = f := (fld_eq_of_and_eq hc (by decide)).trans (fFunc_encR (by decide) hlt rd ra rb)
  have hra : fRa c = ra.toNat := (fld_eq_of_and_eq hc (by decide)).trans (fRa_encR (by decide) hlt rd ra rb)
  have hrd : fRd c = rd.toNat := (fld_eq_of_and_eq hc (by decide)).trans (fRd_encR (by decide) hlt rd ra rb)
  rw [hdo]
  refine State.nibDo_ok ?_
  rw [nibAlu, hfunc, State.started_nibRa, hra]
  change (match alu f (s.rv t ra) _ with | some v => _ | none => _) = _
  rw [hv]
  exact congrArg Except.ok (State.started_nibRd (State.running_of_issues h) hrd v)

end

/-- Settles O27, by the value of each function. -/
theorem nibAluInstructions : Obligations.NibAluInstructions := by
  intro s t rd ra rb
  have binary {f : Nat} {v : Word} (hf : f ≤ 0x0F ∨ f = 0x13) (hv : alu f (s.rv t ra) (s.rv t rb) = some v)
      (h : s.issues t (encR 0x00 rd.toNat ra.toNat rb.toNat f) = true) :
      (.next (s.issue t (encR 0x00 rd.toNat ra.toNat rb.toNat f) nibAlu) : Out) = .next (s.wrote t rd v) :=
    congrArg Host.Outcome.next (State.issue_alu h hf hv)
  have unary {f : Nat} {v : Word} (hf : 0x10 ≤ f ∧ f ≤ 0x12) (hv : ∀ b, alu f (s.rv t ra) b = some v)
      (h : s.issues t (encR 0x00 rd.toNat ra.toNat rb.toNat f) = true) :
      (.next (s.issue t (encR 0x00 rd.toNat ra.toNat rb.toNat f) nibAlu) : Out) = .next (s.wrote t rd v) :=
    congrArg Host.Outcome.next (State.issue_alu_unary h hf.1 hf.2 hv)
  exact ⟨binary (by decide) rfl, binary (by decide) rfl, binary (by decide) rfl, binary (by decide) rfl,
    binary (by decide) rfl,
    binary (by decide) rfl, binary (by decide) rfl, binary (by decide) rfl, binary (by decide) rfl, binary (by decide) rfl,
    binary (by decide) (alu_slt _ _), binary (by decide) (alu_sltu _ _), binary (by decide) rfl, binary (by decide) rfl,
    binary (by decide) (alu_min _ _), binary (by decide) (alu_max _ _),
    fun n hn hzero hone => unary (by decide) fun _ => congrArg some (aluClz_eq hn hzero hone),
    unary (by decide) fun _ => rfl,
    fun h => ⟨_, unary (by decide) (fun _ => rfl) h, fun i hi => aluBswap_byte _ hi⟩,
    binary (by decide) rfl⟩

/-! ### The immediate forms (R228) -/

/-- The immediate forms use every bit of their word, LUI all but ra. -/
theorem usedBits_imm {op : Nat} (hop : 1 ≤ op) (hop' : op ≤ 0x0D) (rd ra : Reg) (imm : BitVec 16) :
    usedBits (encI op rd.toNat ra.toNat imm.toNat) = some (if op = 0x0A then mOp ||| mRd ||| mImm else mAll) := by
  simp only [usedBits, fOp_encI (show op < 64 by omega)]
  rw [if_neg (by omega)]
  by_cases h : op = 0x0A
  · rw [if_pos h, if_pos h]
  · rw [if_neg h, if_neg h, if_pos (.inl hop')]

section
variable {s : State} {t : Th} {rd ra : Reg} {imm : BitVec 16} {op : Nat}

/-- An immediate form; LUI does not look at ra. -/
theorem State.issue_imm (h : s.issues t (encI op rd.toNat ra.toNat imm.toNat) = true) (hop : 1 ≤ op) (hop' : op ≤ 0x0D) :
    ∃ a, (op ≠ 0x0A → a = s.rv t ra) ∧
      s.issue t (encI op rd.toNat ra.toNat imm.toNat) nibImm
        = (aluImm op (s.rv t rd) a imm.toNat).elim (s.faulted t 1) (s.wrote t rd) := by
  have hlt : op < 64 := by omega
  obtain ⟨c, hc, hdo⟩ := State.issue_word h (usedBits_imm hop hop' rd ra imm) nibImm
  have hcop : fOp c = op := (fld_eq_of_and_eq hc (by split <;> decide)).trans (fOp_encI hlt rd ra imm)
  have hrd : fRd c = rd.toNat := (fld_eq_of_and_eq hc (by split <;> decide)).trans (fRd_encI hlt rd ra imm)
  have himm : fImm c = imm.toNat := (fld_eq_of_and_eq hc (by split <;> decide)).trans (fImm_encI hlt rd ra imm)
  refine ⟨(s.thr t).reg (fRa c), fun hne => ?_, ?_⟩
  · rw [if_neg hne] at hc
    rw [show fRa c = ra.toNat from (fld_eq_of_and_eq hc (by decide)).trans (fRa_encI hlt rd ra imm), State.rv]
  · have himmEq : nibImm (s.started t) t.unit.val t.slot.val c
      = match aluImm op (s.rv t rd) ((s.thr t).reg (fRa c)) imm.toNat with
        | some v => .ok (s.wrote t rd v)
        | none => .error 1 := by
      rw [nibImm, hcop, himm, State.started_nibRdVal, State.started_nibRa, hrd]
      simp only [State.started_nibRd (State.running_of_issues h) hrd]
      rfl
    rw [hdo]
    cases hv : aluImm op (s.rv t rd) ((s.thr t).reg (fRa c)) imm.toNat with
    | some v =>
      rw [Option.elim_some]
      exact State.nibDo_ok (by rw [himmEq, hv])
    | none =>
      rw [Option.elim_none]
      exact State.nibDo_error (by rw [himmEq, hv])

/-- The immediate forms but LUI, where rd takes a value and where a field is bad. -/
theorem State.issue_imm_some {v : Word} (hop : 1 ≤ op ∧ op ≤ 0x0D ∧ op ≠ 0x0A)
    (hv : aluImm op (s.rv t rd) (s.rv t ra) imm.toNat = some v)
      (h : s.issues t (encI op rd.toNat ra.toNat imm.toNat) = true) :
    (.next (s.issue t (encI op rd.toNat ra.toNat imm.toNat) nibImm) : Out) = .next (s.wrote t rd v) := by
  obtain ⟨a, ha, hdo⟩ := State.issue_imm h hop.1 hop.2.1
  rw [hdo, ha hop.2.2, hv, Option.elim_some]

theorem State.issue_imm_none (hop : 1 ≤ op ∧ op ≤ 0x0D ∧ op ≠ 0x0A)
    (hv : aluImm op (s.rv t rd) (s.rv t ra) imm.toNat = none) (h : s.issues t (encI op rd.toNat ra.toNat imm.toNat) = true) :
    (.next (s.issue t (encI op rd.toNat ra.toNat imm.toNat) nibImm) : Out) = .next (s.faulted t 1) := by
  obtain ⟨a, ha, hdo⟩ := State.issue_imm h hop.1 hop.2.1
  rw [hdo, ha hop.2.2, hv, Option.elim_none]

end

section
variable (d a : Word) (imm : BitVec 16)

theorem aluImm_addi : aluImm 0x01 d a imm.toNat = some (a + imm.signExtend 64) := by
  rw [← ofInt_signed_eq_signExtend]
  rfl

theorem aluImm_andi : aluImm 0x02 d a imm.toNat = some (a &&& imm.zeroExtend 64) := by
  rw [← ofNat_eq_zeroExtend]
  rfl

theorem aluImm_ori : aluImm 0x03 d a imm.toNat = some (a ||| imm.zeroExtend 64) := by
  rw [← ofNat_eq_zeroExtend]
  rfl

theorem aluImm_xori : aluImm 0x04 d a imm.toNat = some (a ^^^ imm.zeroExtend 64) := by
  rw [← ofNat_eq_zeroExtend]
  rfl

theorem aluImm_slti : aluImm 0x08 d a imm.toNat = some (if a.toInt < imm.toInt then 1 else 0) := by
  have hs : (imm.signExtend 64).toInt = imm.toInt := BitVec.toInt_signExtend_of_le (by decide)
  simp [aluImm, ofInt_signed_eq_signExtend, BitVec.slt, hs]

theorem aluImm_sltiu : aluImm 0x09 d a imm.toNat = some (if a.toNat < (imm.signExtend 64).toNat then 1 else 0) := by
  simp [aluImm, ofInt_signed_eq_signExtend, BitVec.ult]

theorem aluImm_lui : aluImm 0x0A d a imm.toNat = some (imm.signExtend 64 <<< (16 : Nat)) := by
  rw [← ofInt_signed_eq_signExtend]
  rfl

theorem aluImm_shori : aluImm 0x0B d a imm.toNat = some ((a <<< (16 : Nat)) ||| imm.zeroExtend 64) := by
  rw [← ofNat_eq_zeroExtend]
  rfl

variable {pos len : Nat} (hpos : pos = imm.toNat % 64) (hlen : len = imm.toNat / 64 % 64 + 1)
include hpos hlen

/-- EXT and INS, where POS and LEN lie in the word and where they do not. -/
theorem aluImm_ext : aluImm 0x0C d a imm.toNat
    = if 64 < pos + len then none else some ((a >>> pos) &&& BitVec.ofNat 64 (2 ^ len - 1)) := by
  subst hpos hlen
  rfl

theorem aluImm_ins : aluImm 0x0D d a imm.toNat = if 64 < pos + len then none
    else some ((d &&& ~~~ (BitVec.ofNat 64 (2 ^ len - 1) <<< pos)) ||| ((a &&& BitVec.ofNat 64 (2 ^ len - 1)) <<< pos)) := by
  subst hpos hlen
  rfl

end

/-- The bits that EXT takes. -/
theorem getLsbD_ext (a : Word) (pos len : Nat) {i : Nat} (hi : i < 64) :
    ((a >>> pos) &&& BitVec.ofNat 64 (2 ^ len - 1)).getLsbD i = (decide (i < len) && a.getLsbD (pos + i)) := by
  rw [BitVec.getLsbD_and, BitVec.getLsbD_ushiftRight, getLsbD_ofNat_two_pow_sub_one hi, Bool.and_comm]

/-- The bits that INS replaces, and those that it leaves. -/
theorem getLsbD_ins (d a : Word) {pos len i : Nat} (hi : i < 64) :
    ((d &&& ~~~ (BitVec.ofNat 64 (2 ^ len - 1) <<< pos)) ||| ((a &&& BitVec.ofNat 64 (2 ^ len - 1)) <<< pos)).getLsbD i
      = if pos ≤ i ∧ i < pos + len then a.getLsbD (i - pos) else d.getLsbD i := by
  rw [BitVec.getLsbD_or, BitVec.getLsbD_and, BitVec.getLsbD_not, BitVec.getLsbD_shiftLeft, BitVec.getLsbD_shiftLeft,
    BitVec.getLsbD_and, getLsbD_ofNat_two_pow_sub_one (show i - pos < 64 by omega)]
  by_cases hlo : i < pos
  · rw [if_neg (by omega)]
    simp [hi, hlo]
  · by_cases hhi : i - pos < len
    · rw [if_pos (by omega)]
      simp [hi, hlo, hhi]
    · rw [if_neg (by omega)]
      simp [hi, hlo, hhi]

/-- Settles O28, by the value of each form. -/
theorem nibImmediateInstructions : Obligations.NibImmediateInstructions := by
  intro s t rd ra imm
  refine ⟨State.issue_imm_some (by decide) (aluImm_addi _ _ _), State.issue_imm_some (by decide) (aluImm_andi _ _ _),
    State.issue_imm_some (by decide) (aluImm_ori _ _ _), State.issue_imm_some (by decide) (aluImm_xori _ _ _),
    State.issue_imm_some (by decide) rfl, State.issue_imm_some (by decide) rfl,
    State.issue_imm_some (by decide) rfl, State.issue_imm_some (by decide) (aluImm_slti _ _ _),
    State.issue_imm_some (by decide) (aluImm_sltiu _ _ _), fun h => ?_, State.issue_imm_some (by decide) (aluImm_shori _ _ _),
    fun pos len hpos hlen => ⟨fun h hfit => ?_, fun h hover => ?_, fun h hfit => ?_, fun h hover => ?_⟩⟩
  · obtain ⟨a, -, hdo⟩ := State.issue_imm h (by decide) (by decide)
    rw [aluImm_lui, Option.elim_some] at hdo
    exact congrArg Host.Outcome.next hdo
  · have hv := (aluImm_ext (s.rv t rd) (s.rv t ra) imm hpos hlen).trans (if_neg (by omega))
    exact ⟨_, State.issue_imm_some (by decide) hv h, fun i hi => getLsbD_ext _ _ _ hi⟩
  · have hv := (aluImm_ext (s.rv t rd) (s.rv t ra) imm hpos hlen).trans (if_pos hover)
    exact State.issue_imm_none (by decide) hv h
  · have hv := (aluImm_ins (s.rv t rd) (s.rv t ra) imm hpos hlen).trans (if_neg (by omega))
    exact ⟨_, State.issue_imm_some (by decide) hv h, fun i hi => getLsbD_ins _ _ hi⟩
  · have hv := (aluImm_ins (s.rv t rd) (s.rv t ra) imm hpos hlen).trans (if_pos hover)
    exact State.issue_imm_none (by decide) hv h

end Sys2Proof.Machine
end

section
/-! SUPPORT. Branches, jumps and calls of a nib thread (09 R227, R228). -/

namespace Sys2Proof.Machine
open Sys2Proof

/-! ### Words -/

theorem usedBits_branch {op : Nat} (hop : 0x20 ≤ op) (hop' : op ≤ 0x25) (ra rb : Reg) (off : BitVec 16) :
    usedBits (encI op ra.toNat rb.toNat off.toNat) = some mAll := by
  simp only [usedBits, fOp_encI (show op < 64 by omega)]
  rw [if_neg (by omega), if_neg (by omega), if_neg (by omega), if_neg (by omega), if_pos (by omega)]

theorem usedBits_jump {op : Nat} (hop : op = 0x26 ∨ op = 0x27) (off : BitVec 26) :
    usedBits (encJ op off.toNat) = some mAll := by
  simp only [usedBits, fOp_encJ (show op < 64 by omega)]
  rw [if_neg (by omega), if_neg (by omega), if_neg (by omega), if_neg (by omega), if_pos (by omega)]

theorem usedBits_jr (rd ra rb : Reg) : usedBits (encR 0x28 rd.toNat ra.toNat rb.toNat 0) = some (mOp ||| mRd ||| mRa) := by
  simp only [usedBits, fOp_encR (show 0x28 < 64 by decide) (show 0 < 2048 by decide)]
  rfl

/-! ### Branches -/

section
variable (a b : Word)

theorem branchTaken_bge : branchTaken 0x23 a b = decide (b.toInt ≤ a.toInt) := by
  simp [branchTaken, BitVec.slt, ← decide_not]

theorem branchTaken_bgeu : branchTaken 0x25 a b = decide (b.toNat ≤ a.toNat) := by
  simp [branchTaken, BitVec.ult, ← decide_not]

end

section
variable {s : State} {t : Th}

theorem State.issue_branch {ra rb : Reg} {off : BitVec 16} {op : Nat} {taken : Bool} (hop : 0x20 ≤ op ∧ op ≤ 0x25)
    (h : s.issues t (encI op ra.toNat rb.toNat off.toNat) = true) (hb : branchTaken op (s.rv t ra) (s.rv t rb) = taken) :
    s.issue t (encI op ra.toNat rb.toNat off.toNat) nibBranch = s.putThr t (if taken then
        { s.thr t with st := .running, pc := ((((s.thr t).pc : Int) + 4 * off.toInt) % 4294967296).toNat }
      else { s.thr t with st := .running, pc := (s.thr t).pc + 4 }) := by
  have hlt : op < 64 := by omega
  have hr := State.running_of_issues h
  rw [State.issue_whole h (usedBits_branch hop.1 hop.2 ra rb off)]
  refine State.nibDo_ok ?_
  simp only [nibBranch, State.started_th, fOp_encI hlt, fRd_encI hlt, fRa_encI hlt, sImm, fImm_encI hlt, signed_eq_toInt,
    State.started_nibNext hr, State.started_setTh hr]
  change (if branchTaken op (s.rv t ra) (s.rv t rb) = true then _ else _) = _
  rw [hb, apply_ite (s.putThr t)]
  cases taken with
  | true => rfl
  | false =>
    rw [Thread.next, State.next_pc_of_issues h]
    rfl

/-! ### Jumps and calls -/

theorem State.issue_j {off : BitVec 26} (h : s.issues t (encJ 0x26 off.toNat) = true) :
    s.issue t (encJ 0x26 off.toNat) nibJ = s.putThr t
      { s.thr t with st := .running, pc := ((((s.thr t).pc : Int) + 4 * off.toInt) % 4294967296).toNat } := by
  rw [State.issue_whole h (usedBits_jump (by decide) off)]
  refine State.nibDo_ok ?_
  simp only [nibJ, State.started_th, State.started_setTh (State.running_of_issues h), sOff26,
    fOff_encJ (show 0x26 < 64 by decide),
    signed_eq_toInt]
  rfl

theorem State.issue_call {off : BitVec 26} (h : s.issues t (encJ 0x27 off.toNat) = true) :
    s.issue t (encJ 0x27 off.toNat) nibCall = s.putThr t
      { (s.thr t).setReg 31 (BitVec.ofNat 64 ((s.thr t).pc + 4)) with
        st := .running, pc := ((((s.thr t).pc : Int) + 4 * off.toInt) % 4294967296).toNat } := by
  rw [State.issue_whole h (usedBits_jump (by decide) off)]
  refine State.nibDo_ok ?_
  simp only [nibCall, State.started_th, State.started_setTh (State.running_of_issues h), sOff26,
    fOff_encJ (show 0x27 < 64 by decide),
    signed_eq_toInt, Thread.setReg_skip]
  rfl

theorem State.issue_jr {rd ra rb : Reg} (h : s.issues t (encR 0x28 rd.toNat ra.toNat rb.toNat 0) = true) :
    s.issue t (encR 0x28 rd.toNat ra.toNat rb.toNat 0) nibJr = s.putThr t
      { (s.thr t).setReg rd.toNat (BitVec.ofNat 64 ((s.thr t).pc + 4)) with
        st := .running, pc := (s.rv t ra).toNat % 4294967296 } := by
  obtain ⟨c, hc, hdo⟩ := State.issue_word h (usedBits_jr rd ra rb) nibJr
  have hra : fRa c = ra.toNat := (fld_eq_of_and_eq hc (by decide)).trans (fRa_encR (by decide) (by decide) rd ra rb)
  have hrd : fRd c = rd.toNat := (fld_eq_of_and_eq hc (by decide)).trans (fRd_encR (by decide) (by decide) rd ra rb)
  rw [hdo]
  refine State.nibDo_ok ?_
  simp only [nibJr, State.started_th, State.started_setTh (State.running_of_issues h), hra, hrd, Thread.setReg_skip]
  rfl

end

/-- Settles O30, by the comparison of each branch. -/
theorem nibControlFlow : Obligations.NibControlFlow := by
  refine ⟨fun s t ra rb off i k taken hi h => ?_, fun s t off => ⟨fun h => ?_, fun h => ?_⟩, fun s t rd ra rb h => ?_⟩
  · simp only [List.mem_cons, Prod.mk.injEq, List.not_mem_nil, or_false] at hi
    obtain ⟨rfl, rfl, rfl⟩ | ⟨rfl, rfl, rfl⟩ | ⟨rfl, rfl, rfl⟩ | ⟨rfl, rfl, rfl⟩ | ⟨rfl, rfl, rfl⟩ | ⟨rfl, rfl, rfl⟩ := hi
    · exact congrArg Host.Outcome.next (State.issue_branch (by decide) h rfl)
    · exact congrArg Host.Outcome.next (State.issue_branch (by decide) h rfl)
    · exact congrArg Host.Outcome.next (State.issue_branch (by decide) h rfl)
    · exact congrArg Host.Outcome.next (State.issue_branch (by decide) h (branchTaken_bge _ _))
    · exact congrArg Host.Outcome.next (State.issue_branch (by decide) h rfl)
    · exact congrArg Host.Outcome.next (State.issue_branch (by decide) h (branchTaken_bgeu _ _))
  · exact congrArg Host.Outcome.next (State.issue_j h)
  · exact congrArg Host.Outcome.next (State.issue_call h)
  · exact congrArg Host.Outcome.next (State.issue_jr h)

end Sys2Proof.Machine
end

section
/-! SUPPORT. The map of a nib thread, and the loads, stores and atomics over it (09 R225, R226, R228, R242). -/

namespace Sys2Proof.Machine
open Sys2Proof

/-! ### The map (R225) -/

section
variable (x : Nib) {a : Nat}

theorem Nib.region_scratch (h : a < 0x1000) : x.region a = some (.scratch, a) := if_pos h

theorem Nib.region_frame (h : 0x10000 ≤ a) (h' : a < 0x10100) : x.region a = some (.frame, a - 0x10000) := by
  rw [Nib.region, if_neg (by omega), if_pos ⟨h, h'⟩]

theorem Nib.region_word (h : 0x10100 ≤ a) (h' : a < 0x10120) : x.region a = some (.word, a - 0x10100) := by
  rw [Nib.region, if_neg (by omega), if_neg (by omega), if_pos ⟨h, h'⟩]

theorem Nib.region_info (h : 0x10120 ≤ a) (h' : a < 0x10128) : x.region a = some (.info, a - 0x10120) := by
  rw [Nib.region, if_neg (by omega), if_neg (by omega), if_neg (by omega), if_pos ⟨h, h'⟩]

theorem Nib.region_shared (h : 0x1000000 ≤ a) (h' : a < 0x1200000) : x.region a = some (.shared, a - 0x1000000) := by
  rw [Nib.region, if_neg (by omega), if_neg (by omega), if_neg (by omega), if_neg (by omega), if_pos ⟨h, h'⟩]

theorem Nib.region_overflow (h : 0x40000000 ≤ a) (h' : a < 0x40000000 + x.img 20 2 * 1048576) :
    x.region a = some (.overflow, a - 0x40000000) := by
  rw [Nib.region, if_neg (by omega), if_neg (by omega), if_neg (by omega), if_neg (by omega), if_neg (by omega),
    if_pos ⟨h, h'⟩]

/-- The frame window, the metadata word and the frame information. -/
theorem Nib.region_held (h : 0x10000 ≤ a) (h' : a < 0x10128) :
    ∃ r o, x.region a = some (r, o) ∧ (r = .frame ∨ r = .word ∨ r = .info) := by
  by_cases h1 : a < 0x10100
  · exact ⟨_, _, x.region_frame h h1, .inl rfl⟩
  · by_cases h2 : a < 0x10120
    · exact ⟨_, _, x.region_word (by omega) h2, .inr (.inl rfl)⟩
    · exact ⟨_, _, x.region_info (by omega) h', .inr (.inr rfl)⟩

end

@[simp] theorem Nib.img_setTh (x : Nib) (i : Nat) (t : Thread) (off len : Nat) :
    (x.setTh i t).img off len = x.img off len := rfl

theorem Nib.region_setTh (x : Nib) (i : Nat) (t : Thread) (a : Nat) : (x.setTh i t).region a = x.region a := by
  unfold Nib.region
  rw [Nib.img_setTh]

theorem Nib.overflowBytes_setTh (x : Nib) (i : Nat) (t : Thread) (o n : Nat) :
    (x.setTh i t).overflowBytes o n = x.overflowBytes o n := rfl

/-- What a thread reads stands in its own scratch and frame, and in the unit beside its threads. -/
theorem Nib.load_setTh (x : Nib) (i : Nat) (y t : Thread) (a n : Nat) : (x.setTh i y).load t a n = x.load t a n := by
  simp only [Nib.load, Nib.region_setTh, Nib.setTh_shared, Nib.overflowBytes_setTh]

theorem Nib.load_skip (x : Nib) (t : Thread) (a n : Nat) : x.load { t with skip := false } a n = x.load t a n := rfl

section
variable {a : Word} {n : Nat}

/-- An aligned address below 2^32 is one, and any other faults. -/
theorem nibAddr_ok (h : a.toNat % n = 0) (hlt : a.toNat < 4294967296) : nibAddr a n = .ok a.toNat := by
  rw [nibAddr, if_neg (not_not.mpr h), if_neg (by omega)]

theorem nibAddr_misaligned (h : a.toNat % n ≠ 0) : nibAddr a n = .error 2 := if_pos h

theorem nibAddr_high (h : a.toNat % n = 0) (hle : 4294967296 ≤ a.toNat) : nibAddr a n = .error 3 := by
  rw [nibAddr, if_neg (not_not.mpr h), if_pos hle]

end

/-! ### What a thread reads and writes in each region (R225, R242) -/

section
variable (x : Nib) (t : Thread) {a : Nat} (n : Nat) {f : Frame}

theorem Nib.load_scratch (h : a < 0x1000) : x.load t a n = .ok (memBytes t.scratch a n) := by
  rw [Nib.load, x.region_scratch h]

theorem Nib.load_shared (h : 0x1000000 ≤ a) (h' : a < 0x1200000) :
    x.load t a n = .ok (memBytes x.shared (a - 0x1000000) n) := by
  rw [Nib.load, x.region_shared h h']

theorem Nib.load_overflow (h : 0x40000000 ≤ a) (h' : a < 0x40000000 + x.img 20 2 * 1048576) (hl : x.lost = none) :
    x.load t a n = .ok (memBytes x.overflow (a - 0x40000000) n) := by
  simp only [Nib.load, x.region_overflow h h', Nib.overflowBytes, hl]

theorem Nib.load_outside (h : x.region a = none) : x.load t a n = .error 3 := by
  rw [Nib.load, h]

theorem Nib.load_unheld (h : 0x10000 ≤ a) (h' : a < 0x10128) (hf : t.frame = none) : x.load t a n = .error 4 := by
  obtain ⟨r, o, hr, rfl | rfl | rfl⟩ := x.region_held h h'
  all_goals rw [Nib.load, hr, hf]

variable {t} (hf : t.frame = some f)
include hf

theorem Nib.load_frame (h : 0x10000 ≤ a) (h' : a < 0x10100) : x.load t a n = .ok (slice f.bytes (a - 0x10000) n) := by
  rw [Nib.load, x.region_frame h h', hf]

theorem Nib.load_word (h : 0x10100 ≤ a) (h' : a < 0x10120) :
    x.load t a n = .ok (slice (beBytes 32 f.md.toNat) (a - 0x10100) n) := by
  rw [Nib.load, x.region_word h h', hf]

theorem Nib.load_info (h : 0x10120 ≤ a) (h' : a < 0x10128) : x.load t a n = .ok (slice f.info (a - 0x10120) n) := by
  rw [Nib.load, x.region_info h h', hf]

end

section
variable (x : Nib) (i : Nat) {a : Nat} (bs : List Byte) {f : Frame}

theorem Nib.store_scratch (h : a < 0x1000) :
    x.store i a bs = .ok (x.setTh i { x.th i with scratch := memPut (x.th i).scratch a bs }) := by
  rw [Nib.store, x.region_scratch h]

theorem Nib.store_shared (h : 0x1000000 ≤ a) (h' : a < 0x1200000) :
    x.store i a bs = .ok { x with shared := memPut x.shared (a - 0x1000000) bs } := by
  rw [Nib.store, x.region_shared h h']

theorem Nib.store_overflow (h : 0x40000000 ≤ a) (h' : a < 0x40000000 + x.img 20 2 * 1048576) (hl : x.lost = none) :
    x.store i a bs = .ok { x with overflow := memPut x.overflow (a - 0x40000000) bs } := by
  simp only [Nib.store, x.region_overflow h h', Nib.overflowPut, hl]

theorem Nib.store_outside (h : x.region a = none) : x.store i a bs = .error 3 := by
  rw [Nib.store, h]

theorem Nib.store_unheld (h : 0x10000 ≤ a) (h' : a < 0x10128) (hf : (x.th i).frame = none) : x.store i a bs = .error 4 := by
  obtain ⟨r, o, hr, rfl | rfl | rfl⟩ := x.region_held h h'
  all_goals rw [Nib.store, hr, hf]

variable {i} (hf : (x.th i).frame = some f)
include hf

theorem Nib.store_frame (h : 0x10000 ≤ a) (h' : a < 0x10100) (hfit : a - 0x10000 + bs.length ≤ f.bytes.length) :
    x.store i a bs = .ok (x.setTh i { x.th i with frame := some { f with bytes := patch f.bytes (a - 0x10000) bs } }) := by
  rw [Nib.store, x.region_frame h h', hf]
  exact if_neg (by omega)

theorem Nib.store_frame_beyond (h : 0x10000 ≤ a) (h' : a < 0x10100) (hover : f.bytes.length < a - 0x10000 + bs.length) :
    x.store i a bs = .error 3 := by
  rw [Nib.store, x.region_frame h h', hf]
  exact if_pos hover

theorem Nib.store_word (h : 0x10100 ≤ a) (h' : a < 0x10120) : x.store i a bs = .ok (x.setTh i { x.th i with
    frame := some { f with md := BitVec.ofNat 256 (beNat (patch (beBytes 32 f.md.toNat) (a - 0x10100) bs)) } }) := by
  rw [Nib.store, x.region_word h h', hf]

theorem Nib.store_info (h : 0x10120 ≤ a) (h' : a < 0x10128) : x.store i a bs = .error 3 := by
  rw [Nib.store, x.region_info h h', hf]

end

/-! ### Loads, stores and atomics, by their address and what they find there (R228, R242) -/

section
variable {s : State} {u i : Nat} {w : BitVec 32} {a c : Nat}

theorem nibLoad_bad (ha : nibAddr (s.nibEa u i w) (2 ^ (fOp w - 0x10)) = .error c) : nibLoad s u i w = .error c := by
  rw [nibLoad, ha]

theorem nibLoad_fails (ha : nibAddr (s.nibEa u i w) (2 ^ (fOp w - 0x10)) = .ok a)
    (hl : (s.nib u).load (s.th u i) a (2 ^ (fOp w - 0x10)) = .error c) : nibLoad s u i w = .error c := by
  simp only [nibLoad, ha, hl]

theorem nibLoad_reads {bs : List Byte} (ha : nibAddr (s.nibEa u i w) (2 ^ (fOp w - 0x10)) = .ok a)
    (hl : (s.nib u).load (s.th u i) a (2 ^ (fOp w - 0x10)) = .ok bs) :
    nibLoad s u i w = .ok (s.nibRd u i w (BitVec.ofNat 64 (beNat bs))) := by
  simp only [nibLoad, ha, hl]

theorem nibStore_bad (ha : nibAddr (s.nibEa u i w) (2 ^ (fOp w - 0x14)) = .error c) : nibStore s u i w = .error c := by
  rw [nibStore, ha]

theorem nibStore_fails (ha : nibAddr (s.nibEa u i w) (2 ^ (fOp w - 0x14)) = .ok a)
    (hl : (s.nib u).store i a (beBytes (2 ^ (fOp w - 0x14)) (s.nibRdVal u i w).toNat) = .error c) :
    nibStore s u i w = .error c := by
  simp only [nibStore, ha, hl]

theorem nibStore_writes {x : Nib} (ha : nibAddr (s.nibEa u i w) (2 ^ (fOp w - 0x14)) = .ok a)
    (hl : (s.nib u).store i a (beBytes (2 ^ (fOp w - 0x14)) (s.nibRdVal u i w).toNat) = .ok x) :
    nibStore s u i w = .ok ((s.setNib u x).nibNext u i) := by
  simp only [nibStore, ha, hl]

/-- An atomic operation on an aligned address of unit shared memory. -/
theorem nibAtom_ok {x : Nib} {d b v : Word} (ha : (s.nibRa u i w).toNat = a) (hx : s.nib u = x) (hd : s.nibRdVal u i w = d)
    (hb : s.nibRb u i w = b) (hlo : 0x1000000 ≤ a) (hhi : a < 0x1200000) (hal : a % 8 = 0)
    (hv : v = BitVec.ofNat 64 (beNat (memBytes x.shared (a - 0x1000000) 8))) :
    nibAtom s u i w = .ok ((s.setNib u { x with
      shared := memPut x.shared (a - 0x1000000) (beBytes 8 (atomStore (fFunc w) d b v).toNat) }).nibRd u i w v) := by
  subst ha hx hd hb hv
  exact if_neg (by omega)

end

/-! ### The issue of an access -/

@[simp] theorem length_beBytes (n v : Nat) : (beBytes n v).length = n := by
  rw [beBytes, List.length_reverse, length_leBytes]

theorem usedBits_access {op : Nat} (hop : 0x10 ≤ op) (hop' : op ≤ 0x17) (rd ra : Reg) (imm : BitVec 16) :
    usedBits (encI op rd.toNat ra.toNat imm.toNat) = some mAll := by
  simp only [usedBits, fOp_encI (show op < 64 by omega)]
  rw [if_neg (by omega), if_neg (by omega), if_pos (by omega)]

theorem usedBits_atom {f : Nat} (hf : f ≤ 4) (rd ra rb : Reg) :
    usedBits (encR 0x18 rd.toNat ra.toNat rb.toNat f) = some mAll := by
  simp only [usedBits, fOp_encR (show 0x18 < 64 by decide) (show f < 2048 by omega),
    fFunc_encR (show 0x18 < 64 by decide) (show f < 2048 by omega)]
  exact if_pos hf

section
variable {s : State} {t : Th} {rd ra : Reg} {imm : BitVec 16} {k : Nat}

/-- The address of an access. -/
def State.ea (s : State) (t : Th) (ra : Reg) (imm : BitVec 16) : Word := s.rv t ra + imm.signExtend 64

theorem State.started_nibEa {op : Nat} (hop : op < 64) :
    (s.started t).nibEa t.unit.val t.slot.val (encI op rd.toNat ra.toNat imm.toNat) = s.ea t ra imm := by
  rw [State.nibEa, State.started_nibRa, fRa_encI hop, sImm, fImm_encI hop, ofInt_signed_eq_signExtend]
  rfl

section
variable (hk : k ≤ 3) (h : s.issues t (encI (0x10 + k) rd.toNat ra.toNat imm.toNat) = true)
include hk h

/-- A load whose address is bad, one that fails, and one that reads bytes. -/
theorem State.issue_load_bad {c : Nat} (ha : nibAddr (s.ea t ra imm) (2 ^ k) = .error c) :
    s.issue t (encI (0x10 + k) rd.toNat ra.toNat imm.toNat) nibLoad = s.faulted t c := by
  have hlt : 0x10 + k < 64 := by omega
  rw [State.issue_whole h (usedBits_access (by omega) (by omega) rd ra imm)]
  refine State.nibDo_error (nibLoad_bad ?_)
  rw [State.started_nibEa hlt, fOp_encI hlt, Nat.add_sub_cancel_left, ha]

theorem State.issue_load_fails {a c : Nat} (ha : nibAddr (s.ea t ra imm) (2 ^ k) = .ok a)
    (hl : (s.nib t.unit.val).load (s.thr t) a (2 ^ k) = .error c) :
    s.issue t (encI (0x10 + k) rd.toNat ra.toNat imm.toNat) nibLoad = s.faulted t c := by
  have hlt : 0x10 + k < 64 := by omega
  rw [State.issue_whole h (usedBits_access (by omega) (by omega) rd ra imm)]
  refine State.nibDo_error (nibLoad_fails (a := a) ?_ ?_)
  · rw [State.started_nibEa hlt, fOp_encI hlt, Nat.add_sub_cancel_left, ha]
  · rw [State.started_nib, State.started_th, Nib.load_setTh, Nib.load_skip, fOp_encI hlt, Nat.add_sub_cancel_left, hl]

theorem State.issue_load_reads {a : Nat} {bs : List Byte} (ha : nibAddr (s.ea t ra imm) (2 ^ k) = .ok a)
    (hl : (s.nib t.unit.val).load (s.thr t) a (2 ^ k) = .ok bs) :
    s.issue t (encI (0x10 + k) rd.toNat ra.toNat imm.toNat) nibLoad = s.wrote t rd (BitVec.ofNat 64 (beNat bs)) := by
  have hlt : 0x10 + k < 64 := by omega
  rw [State.issue_whole h (usedBits_access (by omega) (by omega) rd ra imm),
    ← State.started_nibRd (State.running_of_issues h) (fRd_encI hlt rd ra imm)]
  refine State.nibDo_ok (nibLoad_reads (a := a) ?_ ?_)
  · rw [State.started_nibEa hlt, fOp_encI hlt, Nat.add_sub_cancel_left, ha]
  · rw [State.started_nib, State.started_th, Nib.load_setTh, Nib.load_skip, fOp_encI hlt, Nat.add_sub_cancel_left, hl]

end

section
variable (hk : k ≤ 3) (h : s.issues t (encI (0x14 + k) rd.toNat ra.toNat imm.toNat) = true)
include hk h

/-- A store whose address is bad, one that fails, and one that writes bytes. -/
theorem State.issue_store_bad {c : Nat} (ha : nibAddr (s.ea t ra imm) (2 ^ k) = .error c) :
    s.issue t (encI (0x14 + k) rd.toNat ra.toNat imm.toNat) nibStore = s.faulted t c := by
  have hlt : 0x14 + k < 64 := by omega
  rw [State.issue_whole h (usedBits_access (by omega) (by omega) rd ra imm)]
  refine State.nibDo_error (nibStore_bad ?_)
  rw [State.started_nibEa hlt, fOp_encI hlt, Nat.add_sub_cancel_left, ha]

theorem State.issue_store_fails {a c : Nat} (ha : nibAddr (s.ea t ra imm) (2 ^ k) = .ok a)
    (hl : ((s.started t).nib t.unit.val).store t.slot.val a (beBytes (2 ^ k) (s.rv t rd).toNat) = .error c) :
    s.issue t (encI (0x14 + k) rd.toNat ra.toNat imm.toNat) nibStore = s.faulted t c := by
  have hlt : 0x14 + k < 64 := by omega
  rw [State.issue_whole h (usedBits_access (by omega) (by omega) rd ra imm)]
  refine State.nibDo_error (nibStore_fails (a := a) ?_ ?_)
  · rw [State.started_nibEa hlt, fOp_encI hlt, Nat.add_sub_cancel_left, ha]
  · rw [State.started_nibRdVal, fRd_encI hlt, fOp_encI hlt, Nat.add_sub_cancel_left]
    exact hl

theorem State.issue_store_writes {a : Nat} {x : Nib} (ha : nibAddr (s.ea t ra imm) (2 ^ k) = .ok a)
    (hl : ((s.started t).nib t.unit.val).store t.slot.val a (beBytes (2 ^ k) (s.rv t rd).toNat) = .ok x) :
    s.issue t (encI (0x14 + k) rd.toNat ra.toNat imm.toNat) nibStore
      = (s.setNib t.unit.val x).nibNext t.unit.val t.slot.val := by
  have hlt : 0x14 + k < 64 := by omega
  rw [State.issue_whole h (usedBits_access (by omega) (by omega) rd ra imm),
    ← State.started_setNib (State.running_of_issues h)]
  refine State.nibDo_ok (nibStore_writes (a := a) ?_ ?_)
  · rw [State.started_nibEa hlt, fOp_encI hlt, Nat.add_sub_cancel_left, ha]
  · rw [State.started_nibRdVal, fRd_encI hlt, fOp_encI hlt, Nat.add_sub_cancel_left]
    exact hl

end

/-- A store into the thread itself. -/
theorem State.nibNext_of_thread {x : Thread} (hr : (s.thr t).st = .running) (hx : x.st = .running) :
    (s.setNib t.unit.val (((s.started t).nib t.unit.val).setTh t.slot.val x)).nibNext t.unit.val t.slot.val
      = s.setTh t.unit.val t.slot.val x.next := by
  have hstart := Thread.ne_default_of_running (x := { s.thr t with skip := false }) hr
  have hne := Thread.ne_default_of_running hx
  rw [State.started_nib, Nib.setTh_setTh _ _ hstart, State.nibNext]
  exact (congrArg (fun y : Thread => (s.setTh t.unit.val t.slot.val x).setTh t.unit.val t.slot.val y.next)
    (State.th_setTh_self _ _ _ _)).trans (State.setTh_setTh _ _ _ hne _)

/-- A unit one of whose memories is written, where a thread then goes on. -/
theorem Nib.withShared_ne_default {x : Nib} {i : Nat} {y : Thread} (hy : y.st = .running) (m : Map Byte) :
    { x.setTh i y with shared := m } ≠ {} :=
  fun h => mset_ne_nil (Thread.ne_default_of_running hy) x.threads i (congrArg Nib.threads h)

theorem Nib.withOverflow_ne_default {x : Nib} {i : Nat} {y : Thread} (hy : y.st = .running) (m : Map Byte) :
    { x.setTh i y with overflow := m } ≠ {} :=
  fun h => mset_ne_nil (Thread.ne_default_of_running hy) x.threads i (congrArg Nib.threads h)

section
variable (hr : (s.thr t).st = .running)
include hr

theorem State.setTh_of_shared (m : Map Byte) (y : Thread) :
    (s.setNib t.unit.val { (s.started t).nib t.unit.val with shared := m }).setTh t.unit.val t.slot.val y
      = s.setNib t.unit.val { (s.nib t.unit.val).setTh t.slot.val y with shared := m } := by
  have hstart : ({ s.thr t with skip := false } : Thread).st = .running := hr
  have hth := Nib.setTh_setTh (s.nib t.unit.val) t.slot.val (Thread.ne_default_of_running hstart) y
  rw [State.started_nib, State.setNib_setTh _ _ _ _ (Nib.withShared_ne_default hstart m)]
  exact congrArg (fun x : Nib => s.setNib t.unit.val { x with shared := m }) hth

theorem State.setTh_of_overflow (m : Map Byte) (y : Thread) :
    (s.setNib t.unit.val { (s.started t).nib t.unit.val with overflow := m }).setTh t.unit.val t.slot.val y
      = s.setNib t.unit.val { (s.nib t.unit.val).setTh t.slot.val y with overflow := m } := by
  have hstart : ({ s.thr t with skip := false } : Thread).st = .running := hr
  have hth := Nib.setTh_setTh (s.nib t.unit.val) t.slot.val (Thread.ne_default_of_running hstart) y
  rw [State.started_nib, State.setNib_setTh _ _ _ _ (Nib.withOverflow_ne_default hstart m)]
  exact congrArg (fun x : Nib => s.setNib t.unit.val { x with overflow := m }) hth

end

/-- What a store into shared memory or the overflow area changes, and that it changes nothing else. -/
theorem State.wrote_shared {y : Thread} (hy : y.st = .running) (m : Map Byte) {r : State}
    (hrr : r = s.setNib t.unit.val { (s.nib t.unit.val).setTh t.slot.val y with shared := m }) :
    (r.nib t.unit.val).shared = m
      ∧ r.setNib t.unit.val { r.nib t.unit.val with shared := (s.nib t.unit.val).shared }
        = s.setTh t.unit.val t.slot.val y := by
  subst hrr
  rw [State.nib_setNib_self, State.setNib_setNib (Nib.withShared_ne_default hy m)]
  exact ⟨rfl, rfl⟩

theorem State.wrote_overflow {y : Thread} (hy : y.st = .running) (m : Map Byte) {r : State}
    (hrr : r = s.setNib t.unit.val { (s.nib t.unit.val).setTh t.slot.val y with overflow := m }) :
    (r.nib t.unit.val).overflow = m
      ∧ r.setNib t.unit.val { r.nib t.unit.val with overflow := (s.nib t.unit.val).overflow }
        = s.setTh t.unit.val t.slot.val y := by
  subst hrr
  rw [State.nib_setNib_self, State.setNib_setNib (Nib.withOverflow_ne_default hy m)]
  exact ⟨rfl, rfl⟩

/-! ### Atomics (R226, R228) -/

section
variable {rb : Reg} {f : Nat} (hf : f ≤ 4) (h : s.issues t (encR 0x18 rd.toNat ra.toNat rb.toNat f) = true)
include hf h

theorem State.issue_atom_bad
    (ha : (s.rv t ra).toNat < 0x1000000 ∨ 0x1200000 ≤ (s.rv t ra).toNat ∨ (s.rv t ra).toNat % 8 ≠ 0) :
    s.issue t (encR 0x18 rd.toNat ra.toNat rb.toNat f) nibAtom = s.faulted t 3 := by
  have hlt : f < 2048 := by omega
  rw [State.issue_whole h (usedBits_atom hf rd ra rb)]
  refine State.nibDo_error (if_pos ?_)
  rwa [State.started_nibRa, fRa_encR (by decide) hlt]

theorem State.issue_atom {a : Nat} {v : Word} (ha : a = (s.rv t ra).toNat)
    (hlo : 0x1000000 ≤ a) (hhi : a < 0x1200000) (hal : a % 8 = 0)
    (hv : v = BitVec.ofNat 64 (beNat (memBytes (s.nib t.unit.val).shared (a - 0x1000000) 8))) :
    s.issue t (encR 0x18 rd.toNat ra.toNat rb.toNat f) nibAtom = s.setNib t.unit.val
      { (s.nib t.unit.val).setTh t.slot.val { ((s.thr t).setReg rd.toNat v).next with skip := false } with
        shared := memPut (s.nib t.unit.val).shared (a - 0x1000000)
          (beBytes 8 (atomStore f (s.rv t rd) (s.rv t rb) v).toNat) } := by
  have hlt : f < 2048 := by omega
  have hr := State.running_of_issues h
  have hra : ((s.started t).nibRa t.unit.val t.slot.val (encR 0x18 rd.toNat ra.toNat rb.toNat f)).toNat = a := by
    rw [State.started_nibRa, fRa_encR (by decide) hlt, ha, State.rv]
  have hd : (s.started t).nibRdVal t.unit.val t.slot.val (encR 0x18 rd.toNat ra.toNat rb.toNat f) = s.rv t rd := by
    rw [State.started_nibRdVal, fRd_encR (by decide) hlt, State.rv]
  have hb : (s.started t).nibRb t.unit.val t.slot.val (encR 0x18 rd.toNat ra.toNat rb.toNat f) = s.rv t rb := by
    rw [State.started_nibRb, fRb_encR (by decide) hlt, State.rv]
  have hv' : v = BitVec.ofNat 64 (beNat (memBytes ((s.started t).nib t.unit.val).shared (a - 0x1000000) 8)) := by
    rw [State.started_nib, Nib.setTh_shared, hv]
  rw [State.issue_whole h (usedBits_atom hf rd ra rb), State.nibDo_ok (nibAtom_ok hra rfl hd hb hlo hhi hal hv'),
    State.started_setNib hr, State.nibRd, State.setTh_of_shared hr, fFunc_encR (by decide) hlt,
      fRd_encR (by decide) hlt, State.th,
    State.nib_setNib_self]
  have hth : Nib.th { (s.started t).nib t.unit.val with
      shared := memPut ((s.started t).nib t.unit.val).shared (a - 0x1000000)
        (beBytes 8 (atomStore f (s.rv t rd) (s.rv t rb) v).toNat) } t.slot.val = { s.thr t with skip := false } :=
          State.started_th
  rw [hth, Thread.setReg_skip, State.started_nib]
  rfl

end

end

/-! ### The instructions -/

/-- A loading instruction with the width exponent of its opcode, and a storing one. -/
theorem exec_load {s : State} {t : Th} {rd ra : Reg} {imm : BitVec 16} {i : Instr} {k : Nat}
    (hi : (i, k) ∈ [(Instr.lb t rd ra imm, 0), (.lh t rd ra imm, 1), (.lw t rd ra imm, 2), (.ld t rd ra imm, 3)]) :
    k ≤ 3 ∧ exec i s = .next (s.issue t (encI (0x10 + k) rd.toNat ra.toNat imm.toNat) nibLoad) := by
  simp only [List.mem_cons, Prod.mk.injEq, List.not_mem_nil, or_false] at hi
  rcases hi with ⟨rfl, rfl⟩ | ⟨rfl, rfl⟩ | ⟨rfl, rfl⟩ | ⟨rfl, rfl⟩
  all_goals exact ⟨by decide, rfl⟩

theorem exec_store {s : State} {t : Th} {rd ra : Reg} {imm : BitVec 16} {i : Instr} {k : Nat}
    (hi : (i, k) ∈ [(Instr.sb t rd ra imm, 0), (.sh t rd ra imm, 1), (.sw t rd ra imm, 2), (.sd t rd ra imm, 3)]) :
    k ≤ 3 ∧ exec i s = .next (s.issue t (encI (0x14 + k) rd.toNat ra.toNat imm.toNat) nibStore) := by
  simp only [List.mem_cons, Prod.mk.injEq, List.not_mem_nil, or_false] at hi
  rcases hi with ⟨rfl, rfl⟩ | ⟨rfl, rfl⟩ | ⟨rfl, rfl⟩ | ⟨rfl, rfl⟩
  all_goals exact ⟨by decide, rfl⟩

/-- An atomic instruction with its function, and the value it stores (R228). -/
theorem exec_atom {s : State} {t : Th} {rd ra rb : Reg} {i : Instr} {k : Nat} {old new : Word}
    (hi : (i, k, new) ∈ [(Instr.atomAdd t rd ra rb, 0, old + s.rv t rb), (.atomSwap t rd ra rb, 1, s.rv t rb),
      (.atomCas t rd ra rb, 2, if old = s.rv t rd then s.rv t rb else old), (.atomOr t rd ra rb, 3, old ||| s.rv t rb),
      (.atomAnd t rd ra rb, 4, old &&& s.rv t rb)]) :
    k ≤ 4 ∧ atomStore k (s.rv t rd) (s.rv t rb) old = new
      ∧ exec i s = .next (s.issue t (encR 0x18 rd.toNat ra.toNat rb.toNat k) nibAtom) := by
  simp only [List.mem_cons, Prod.mk.injEq, List.not_mem_nil, or_false] at hi
  rcases hi with ⟨rfl, rfl, rfl⟩ | ⟨rfl, rfl, rfl⟩ | ⟨rfl, rfl, rfl⟩ | ⟨rfl, rfl, rfl⟩ | ⟨rfl, rfl, rfl⟩
  all_goals exact ⟨by decide, rfl, rfl⟩

/-- What no region of the map holds is outside it (R225). -/
theorem State.nibAddr_outside {s : State} {t : Th} {ra : Reg} {imm : BitVec 16} {n : Nat} (h : (s.ea t ra imm).toNat % n = 0)
    (ho : 4294967296 ≤ (s.ea t ra imm).toNat ∨ (s.nib t.unit.val).region (s.ea t ra imm).toNat = none) :
    nibAddr (s.ea t ra imm) n = .error 3 ∨ nibAddr (s.ea t ra imm) n = .ok (s.ea t ra imm).toNat
      ∧ (s.nib t.unit.val).region (s.ea t ra imm).toNat = none := by
  by_cases hlt : (s.ea t ra imm).toNat < 4294967296
  · exact .inr ⟨nibAddr_ok h hlt, ho.resolve_left (by omega)⟩
  · exact .inl (nibAddr_high h (by omega))

section
variable {s : State} {t : Th} {rd ra : Reg} {imm : BitVec 16} {k a : Nat}

/-- A store into the unit beside its threads: the memory it writes, and nothing else but the thread that goes on. -/
theorem State.nibNext_of_shared (hr : (s.thr t).st = .running) (m : Map Byte) :
    (s.setNib t.unit.val { (s.started t).nib t.unit.val with shared := m }).nibNext t.unit.val t.slot.val
      = s.setNib t.unit.val { (s.nib t.unit.val).setTh t.slot.val { (s.thr t).next with skip := false }
        with shared := m } := by
  have hth : (s.setNib t.unit.val { (s.started t).nib t.unit.val with shared := m }).th t.unit.val t.slot.val
      = { s.thr t with skip := false } := by
    rw [State.th, State.nib_setNib_self]
    exact State.started_th
  rw [State.nibNext, hth, State.setTh_of_shared hr]
  rfl

theorem State.nibNext_of_overflow (hr : (s.thr t).st = .running) (m : Map Byte) :
    (s.setNib t.unit.val { (s.started t).nib t.unit.val with overflow := m }).nibNext t.unit.val t.slot.val
      = s.setNib t.unit.val { (s.nib t.unit.val).setTh t.slot.val { (s.thr t).next with skip := false }
        with overflow := m } := by
  have hth : (s.setNib t.unit.val { (s.started t).nib t.unit.val with overflow := m }).th t.unit.val t.slot.val
      = { s.thr t with skip := false } := by
    rw [State.th, State.nib_setNib_self]
    exact State.started_th
  rw [State.nibNext, hth, State.setTh_of_overflow hr]
  rfl

end

/-- Settles O29, by the region that each access reaches. -/
theorem nibLoadsStoresAndAtomics : Obligations.NibLoadsStoresAndAtomics := by
  refine ⟨fun s t rd ra imm i k a hi h ha => ?loads, fun s t rd ra imm i k a bs hi h ha hbs => ?stores,
    fun s t rd ra rb i k a old new hi h ha hold => ?atoms, fun m o b bs => mget_memPut bs m o b⟩
  case loads =>
    obtain ⟨hk, he⟩ := exec_load (s := s) hi
    obtain rfl : a = (s.ea t ra imm).toNat := ha
    simp only [he, Host.Outcome.next.injEq]
    refine ⟨fun hm => State.issue_load_bad hk h (nibAddr_misaligned hm),
      fun hm h1 => State.issue_load_reads hk h (nibAddr_ok hm (by omega)) (Nib.load_scratch _ _ _ h1),
      fun hm h1 h2 => State.issue_load_reads hk h (nibAddr_ok hm (by omega)) (Nib.load_shared _ _ _ h1 h2),
      fun hm h1 h2 h3 hl => State.issue_load_reads hk h (nibAddr_ok hm h3) (Nib.load_overflow _ _ _ h1 h2 hl),
      fun f hm hf => ⟨?_, ?_, ?_⟩, ?_, ?_⟩
    · exact fun h1 h2 => State.issue_load_reads hk h (nibAddr_ok hm (by omega)) (Nib.load_frame _ _ hf h1 h2)
    · exact fun h1 h2 => State.issue_load_reads hk h (nibAddr_ok hm (by omega)) (Nib.load_word _ _ hf h1 h2)
    · exact fun h1 h2 => State.issue_load_reads hk h (nibAddr_ok hm (by omega)) (Nib.load_info _ _ hf h1 h2)
    · exact fun hm h1 h2 hf => State.issue_load_fails hk h (nibAddr_ok hm (by omega)) (Nib.load_unheld _ _ _ h1 h2 hf)
    · intro hm ho
      obtain hhigh | ⟨hok, hnone⟩ := State.nibAddr_outside hm ho
      · exact State.issue_load_bad hk h hhigh
      · exact State.issue_load_fails hk h hok (Nib.load_outside _ _ _ hnone)
  case stores =>
    obtain ⟨hk, he⟩ := exec_store (s := s) hi
    obtain rfl : a = (s.ea t ra imm).toNat := ha
    subst hbs
    have hr := State.running_of_issues h
    have hth : ((s.started t).nib t.unit.val).th t.slot.val = { s.thr t with skip := false } := State.started_th
    have hreg : ∀ b, ((s.started t).nib t.unit.val).region b = (s.nib t.unit.val).region b := fun b => by
      rw [State.started_nib, Nib.region_setTh]
    simp only [he, Host.Outcome.next.injEq]
    refine ⟨fun hm => State.issue_store_bad hk h (nibAddr_misaligned hm), fun hm h1 => ?_, fun hm h1 h2 => ?_,
      fun hm h1 h2 h3 hl => ?_, fun f hm hf => ?_, fun hm h1 h2 hf => ?_, fun hm ho => ?_⟩
    · have hw := Nib.store_scratch ((s.started t).nib t.unit.val) t.slot.val (beBytes (2 ^ k) (s.rv t rd).toNat) h1
      rw [hth] at hw
      exact (State.issue_store_writes hk h (nibAddr_ok hm (by omega)) hw).trans (State.nibNext_of_thread hr hr)
    · have hw := Nib.store_shared ((s.started t).nib t.unit.val) t.slot.val (beBytes (2 ^ k) (s.rv t rd).toNat) h1 h2
      refine ⟨_, rfl, State.wrote_shared (y := { (s.thr t).next with skip := false }) rfl _ ?_⟩
      rw [State.issue_store_writes hk h (nibAddr_ok hm (by omega)) hw, State.nibNext_of_shared hr, State.started_nib,
        Nib.setTh_shared]
    · rw [← Nib.img_setTh _ t.slot.val { s.thr t with skip := false }, ← State.started_nib] at h2
      rw [← Nib.setTh_lost _ t.slot.val { s.thr t with skip := false }, ← State.started_nib] at hl
      have hw := Nib.store_overflow ((s.started t).nib t.unit.val) t.slot.val (beBytes (2 ^ k) (s.rv t rd).toNat) h1 h2 hl
      refine ⟨_, rfl, State.wrote_overflow (y := { (s.thr t).next with skip := false }) rfl _ ?_⟩
      rw [State.issue_store_writes hk h (nibAddr_ok hm h3) hw, State.nibNext_of_overflow hr, State.started_nib,
        Nib.setTh_overflow]
    · have hfr : (((s.started t).nib t.unit.val).th t.slot.val).frame = some f := by rw [hth]; exact hf
      refine ⟨fun h1 h2 hfit => ?_, fun h1 h2 hover => ?_, fun h1 h2 => ?_, fun h1 h2 => ?_⟩
      · have hw := Nib.store_frame _ (beBytes (2 ^ k) (s.rv t rd).toNat) hfr h1 h2 (by rwa [length_beBytes])
        rw [hth] at hw
        exact (State.issue_store_writes hk h (nibAddr_ok hm (by omega)) hw).trans (State.nibNext_of_thread hr hr)
      · exact State.issue_store_fails hk h (nibAddr_ok hm (by omega))
          (Nib.store_frame_beyond _ _ hfr h1 h2 (by rwa [length_beBytes]))
      · have hw := Nib.store_word _ (beBytes (2 ^ k) (s.rv t rd).toNat) hfr h1 h2
        rw [hth] at hw
        exact (State.issue_store_writes hk h (nibAddr_ok hm (by omega)) hw).trans (State.nibNext_of_thread hr hr)
      · exact State.issue_store_fails hk h (nibAddr_ok hm (by omega)) (Nib.store_info _ _ hfr h1 h2)
    · have hfr : (((s.started t).nib t.unit.val).th t.slot.val).frame = none := by rw [hth]; exact hf
      exact State.issue_store_fails hk h (nibAddr_ok hm (by omega)) (Nib.store_unheld _ _ _ h1 h2 hfr)
    · obtain hhigh | ⟨hok, hnone⟩ := State.nibAddr_outside hm ho
      · exact State.issue_store_bad hk h hhigh
      · exact State.issue_store_fails hk h hok (Nib.store_outside _ _ _ ((hreg _).trans hnone))
  case atoms =>
    obtain ⟨hk, hnew, he⟩ := exec_atom (s := s) hi
    subst hnew
    refine ⟨fun h1 h2 h3 => ⟨_, he, ?_⟩, fun hb => ?_⟩
    · exact State.wrote_shared (y := { ((s.thr t).setReg rd.toNat old).next with skip := false }) rfl _
        (State.issue_atom hk h ha h1 h2 h3 hold)
    · subst ha
      rw [he, State.issue_atom_bad hk h hb]

end Sys2Proof.Machine
end

section
/-! SUPPORT. Events, time, BRK, STOP and lookup results of a nib thread (09 R230, R231, R233, R248, R249). -/

namespace Sys2Proof.Machine
open Sys2Proof

/-! ### Words of which a meaning uses some bits -/

/-- A word that issues, with the register fields that its meaning uses. -/
theorem State.issue_encR {s : State} {t : Th} {rd ra rb : Reg} {op f : Nat} {m : BitVec 32} (hop : op < 64) (hf : f < 2048)
    (h : s.issues t (encR op rd.toNat ra.toNat rb.toNat f) = true)
    (hm : usedBits (encR op rd.toNat ra.toNat rb.toNat f) = some m) (F : NibFn) :
    ∃ c, s.issue t (encR op rd.toNat ra.toNat rb.toNat f) F = s.nibDo t.unit.val t.slot.val F c
      ∧ (m.extractLsb' 21 5 = .allOnes 5 → fRd c = rd.toNat)
      ∧ (m.extractLsb' 16 5 = .allOnes 5 → fRa c = ra.toNat)
      ∧ (m.extractLsb' 11 5 = .allOnes 5 → fRb c = rb.toNat) := by
  obtain ⟨c, hc, hdo⟩ := State.issue_word h hm F
  exact ⟨c, hdo, fun hx => (fld_eq_of_and_eq hc hx).trans (fRd_encR hop hf rd ra rb),
    fun hx => (fld_eq_of_and_eq hc hx).trans (fRa_encR hop hf rd ra rb),
    fun hx => (fld_eq_of_and_eq hc hx).trans (fRb_encR hop hf rd ra rb)⟩

theorem usedBits_sys {f : Nat} (hf : f < 2048) (rd ra rb : Reg) : usedBits (encR 0x30 rd.toNat ra.toNat rb.toNat f)
    = if f = 0 then some (mOp ||| mRd ||| mRa ||| mFunc) else if f = 1 ∨ f = 2 then some (mOp ||| mRa ||| mFunc)
      else if f = 3 ∨ f = 4 ∨ f = 8 then some (mOp ||| mRd ||| mFunc) else if f ≤ 7 then some (mOp ||| mFunc) else none := by
  simp only [usedBits, fOp_encR (show 0x30 < 64 by decide) hf, fFunc_encR (show 0x30 < 64 by decide) hf]
  rfl

/-! ### Events (R233) -/

section
variable {x : Nib} {i j : Nat}

theorem Nib.th_setTh_fresh (x : Nib) (i : Nat) (t : Thread) (b : Bool) : Nib.th { x.setTh i t with staleFired := b } i = t :=
  x.th_setTh_self i t

/-- A waiting thread whose mask holds a pending event goes on. -/
theorem Nib.wake_eq {e : BitVec 32} (hst : (x.th i).st = .waiting) (hh : (x.th i).halted = none)
    (he : x.events (x.th i) &&& (x.th i).mask = e) (hne : e ≠ 0) :
    x.wake i = { x.setTh i
        (({ x.th i with pend := (x.th i).pend &&& ~~~ e }.setReg (x.th i).wfeRd.toNat (e.zeroExtend 64)).next) with
      staleFired := false } := by
  subst he
  exact if_pos ⟨hst, hh, hne⟩

theorem Nib.th_wake_self {e : BitVec 32} (hst : (x.th i).st = .waiting) (hh : (x.th i).halted = none)
    (he : x.events (x.th i) &&& (x.th i).mask = e) (hne : e ≠ 0) :
    (x.wake i).th i
      = ({ x.th i with pend := (x.th i).pend &&& ~~~ e }.setReg (x.th i).wfeRd.toNat (e.zeroExtend 64)).next := by
  rw [Nib.wake_eq hst hh he hne]
  exact Nib.th_setTh_fresh x i _ false

theorem Nib.wake_of_not_waiting (hst : (x.th i).st ≠ .waiting) : x.wake i = x := if_neg fun h => hst h.1

theorem Nib.wake_of_no_event (he : x.events (x.th i) &&& (x.th i).mask = 0) : x.wake i = x := if_neg fun h => h.2.2 he

/-- What a wake can do: nothing, or let that thread go on. -/
theorem Nib.wake_cases (x : Nib) (i : Nat) :
    x.wake i = x ∨ ((x.th i).st = .waiting ∧ ∃ t, x.wake i = { x.setTh i t with staleFired := false }) := by
  by_cases h : (x.th i).st = .waiting ∧ (x.th i).halted = none ∧ x.events (x.th i) &&& (x.th i).mask ≠ 0
  · exact .inr ⟨h.1, _, if_pos h⟩
  · exact .inl (if_neg h)

theorem Nib.th_wake_of_ne (h : j ≠ i) : (x.wake i).th j = x.th j := by
  obtain hw | ⟨-, t, hw⟩ := x.wake_cases i
  · rw [hw]
  · rw [hw]
    exact Nib.th_setTh_of_ne x t h

/-- A pending event other than CHAN counts as it stands. -/
theorem Nib.getLsbD_events {n : Nat} (h : n ≠ 5) (t : Thread) : (x.events t).getLsbD n = t.pend.getLsbD n := by
  have h20 : (0x20#32).getLsbD n = false := by
    rw [show (0x20#32) = BitVec.twoPow 32 5 from rfl, BitVec.getLsbD_twoPow]
    simp [Ne.symm h]
  unfold Nib.events
  split
  · rw [BitVec.getLsbD_or, h20, Bool.or_false]
  · by_cases hn : n < 32
    · rw [BitVec.getLsbD_and, BitVec.getLsbD_not, h20]
      simp [hn]
    · rw [BitVec.getLsbD_of_ge _ _ (by omega), BitVec.getLsbD_of_ge _ _ (by omega)]

/-- A thread as it goes on, whatever it waited for. -/
theorem Thread.setReg_next_of_st (x : Thread) (st : ThSt) (r : Nat) (v : Word) :
    ({ x with st := st }.setReg r v).next = (x.setReg r v).next := by
  unfold Thread.setReg
  split <;> rfl

@[simp] theorem Thread.pend_next (x : Thread) : x.next.pend = x.pend := rfl

@[simp] theorem Thread.pend_setReg (x : Thread) (r : Nat) (v : Word) : (x.setReg r v).pend = x.pend := by
  unfold Thread.setReg
  split <;> rfl

/-- A waiting thread goes on when an event of its mask other than CHAN is pending, and that event is cleared. -/
theorem Nib.wake_of_pend {n : Nat} (hn : n ≠ 5) (hst : (x.th i).st = .waiting) (hh : (x.th i).halted = none)
    (hp : (x.th i).pend.getLsbD n = true) (hm : (x.th i).mask.getLsbD n = true) :
    ((x.wake i).th i).st = .running ∧ ((x.wake i).th i).pend.getLsbD n = false := by
  have hbit : (x.events (x.th i) &&& (x.th i).mask).getLsbD n = true := by
    rw [BitVec.getLsbD_and, Nib.getLsbD_events hn, hp, hm]
    rfl
  have hne : x.events (x.th i) &&& (x.th i).mask ≠ 0 := fun h0 => by
    rw [h0] at hbit
    simp at hbit
  rw [Nib.th_wake_self hst hh rfl hne]
  refine ⟨rfl, ?_⟩
  rw [Thread.pend_next, Thread.pend_setReg, BitVec.getLsbD_and, BitVec.getLsbD_not, hbit]
  simp

/-- A thread with an event pending. -/
def Thread.pended (t : Thread) (n : Nat) : Thread := { t with pend := t.pend ||| BitVec.ofNat 32 (2 ^ n) }

theorem Nib.event_eq (x : Nib) (i n : Nat) : x.event i n = (x.setTh i ((x.th i).pended n)).wake i := rfl

theorem Thread.getLsbD_pended (t : Thread) {n : Nat} (hn : n < 32) : (t.pended n).pend.getLsbD n = true := by
  rw [Thread.pended, BitVec.getLsbD_or, BitVec.getLsbD_ofNat, Nat.testBit_two_pow_self]
  simp [hn]

theorem Nib.th_event_of_ne {n : Nat} (h : j ≠ i) : (x.event i n).th j = x.th j := by
  rw [Nib.event_eq, Nib.th_wake_of_ne h, Nib.th_setTh_of_ne _ _ h]

theorem Nib.th_event_of_not_waiting {n : Nat} (h : (x.th i).st ≠ .waiting) : (x.event i n).th i = (x.th i).pended n := by
  have hself := x.th_setTh_self i ((x.th i).pended n)
  rw [Nib.event_eq, Nib.wake_of_not_waiting (by rw [hself]; exact h), hself]

/-- An event reaches a thread that waits for it (R233). -/
theorem Nib.event_wakes {n : Nat} (hn : n ≠ 5) (hlt : n < 32) (hst : (x.th i).st = .waiting) (hh : (x.th i).halted = none)
    (hm : (x.th i).mask.getLsbD n = true) :
    ((x.event i n).th i).st = .running ∧ ((x.event i n).th i).pend.getLsbD n = false := by
  have hself := x.th_setTh_self i ((x.th i).pended n)
  rw [Nib.event_eq]
  apply Nib.wake_of_pend hn <;> rw [hself]
  exacts [hst, hh, Thread.getLsbD_pended _ hlt, hm]

end

/-! ### The instructions of SYS -/

section
variable {s : State} {t : Th} {rd ra rb : Reg}

/-- The thread as it waits in WFE. -/
def State.inWfe (s : State) (t : Th) (rd : Reg) (m : BitVec 32) : Thread :=
  { s.thr t with skip := false, st := .waiting, mask := m, wfeRd := rd, since := s.time (nibHalf t.unit.val) }

theorem State.issue_wfe {m : BitVec 32} (h : s.issues t (encR 0x30 rd.toNat ra.toNat rb.toNat 0) = true)
    (hm : m = (s.rv t ra).truncate 32 ||| (if t.slot.val = 0 then 0x100#32 else 0#32)) :
    s.issue t (encR 0x30 rd.toNat ra.toNat rb.toNat 0) nibWfe
      = s.setNib t.unit.val (((s.nib t.unit.val).setTh t.slot.val (s.inWfe t rd m)).wake t.slot.val) := by
  obtain ⟨c, hdo, hrd, hra, -⟩ := State.issue_encR (by decide) (by decide) h (usedBits_sys (by decide) rd ra rb) nibWfe
  have hr := State.running_of_issues h
  have hne := Thread.ne_default_of_running (x := { s.thr t with skip := false }) hr
  rw [hdo]
  refine State.nibDo_ok ?_
  simp only [nibWfe, Nib.th_setTh_self, hrd (by decide), hra (by decide), State.started_setNib hr, State.started_nib,
    Nib.setTh_setTh _ _ hne,
    State.started_time, BitVec.ofNat_toNat, BitVec.setWidth_eq, hm]
  rfl

theorem State.issue_sig (h : s.issues t (encR 0x30 rd.toNat ra.toNat rb.toNat 1) = true)
    {j : Nat} (hj : j = (s.rv t ra).toNat % 64)
    (hne : j ≠ t.slot.val) :
    s.issue t (encR 0x30 rd.toNat ra.toNat rb.toNat 1) nibSig
      = if (s.th t.unit.val j).st = .idle then s.putThr t (s.thr t).next
      else (s.putThr t (s.thr t).next).setNib t.unit.val
        (((s.nib t.unit.val).setTh t.slot.val { (s.thr t).next with skip := false }).event j 6) := by
  obtain ⟨c, hdo, -, hra, -⟩ := State.issue_encR (by decide) (by decide) h (usedBits_sys (by decide) rd ra rb) nibSig
  have hr := State.running_of_issues h
  have hth : (s.putThr t (s.thr t).next).th t.unit.val j = s.th t.unit.val j := State.th_setTh_of_ne _ _ _ hne
  have hnib : (s.putThr t (s.thr t).next).nib t.unit.val
      = (s.nib t.unit.val).setTh t.slot.val { (s.thr t).next with skip := false } :=
    State.nib_setTh_self _ _ _ _
  have hjc : ((s.started t).nibRa t.unit.val t.slot.val c).toNat % 64 = j := by
    rw [State.started_nibRa, hra (by decide), hj, State.rv]
  rw [hdo]
  refine State.nibDo_ok ?_
  simp only [nibSig, hjc, State.started_nibNext hr, hth, hnib]
  split <;> rfl

theorem State.issue_timer (h : s.issues t (encR 0x30 rd.toNat ra.toNat rb.toNat 2) = true)
    (hlt : (s.rv t ra).toNat < 2 ^ 40) :
    s.issue t (encR 0x30 rd.toNat ra.toNat rb.toNat 2) nibTimer = s.putThr t { (s.thr t).next with
      timer := if s.rv t ra = 0 then none else some (s.time (nibHalf t.unit.val) + ((s.rv t ra).toNat + 7) / 8 * 8) } := by
  obtain ⟨c, hdo, -, hra, -⟩ := State.issue_encR (by decide) (by decide) h (usedBits_sys (by decide) rd ra rb) nibTimer
  have hv : ((s.started t).nibRa t.unit.val t.slot.val c).toNat % 2 ^ 40 = (s.rv t ra).toNat := by
    rw [State.started_nibRa, hra (by decide), ← State.rv, Nat.mod_eq_of_lt hlt]
  have hz : ((s.rv t ra).toNat = 0) = (s.rv t ra = 0) := propext (BitVec.toNat_inj (y := 0))
  rw [hdo]
  refine State.nibDo_ok ?_
  simp only [nibTimer, hv, State.started_setTh (State.running_of_issues h), State.started_th, State.started_time, hz]
  rfl

theorem State.issue_time (h : s.issues t (encR 0x30 rd.toNat ra.toNat rb.toNat 3) = true) :
    s.issue t (encR 0x30 rd.toNat ra.toNat rb.toNat 3) nibTime
      = s.wrote t rd (BitVec.ofNat 64 (s.time (nibHalf t.unit.val))) := by
  obtain ⟨c, hdo, hrd, -⟩ := State.issue_encR (by decide) (by decide) h (usedBits_sys (by decide) rd ra rb) nibTime
  rw [hdo]
  refine State.nibDo_ok ?_
  rw [nibTime, State.started_nibRd (State.running_of_issues h) (hrd (by decide)), State.started_time]

theorem State.issue_self (h : s.issues t (encR 0x30 rd.toNat ra.toNat rb.toNat 4) = true) :
    s.issue t (encR 0x30 rd.toNat ra.toNat rb.toNat 4) nibSelf = s.wrote t rd
      (BitVec.ofNat 64 (unitId (nibHalf t.unit.val) (t.unit.val % 4) * 256 + t.slot.val)) := by
  obtain ⟨c, hdo, hrd, -⟩ := State.issue_encR (by decide) (by decide) h (usedBits_sys (by decide) rd ra rb) nibSelf
  rw [hdo]
  refine State.nibDo_ok ?_
  rw [nibSelf, State.started_nibRd (State.running_of_issues h) (hrd (by decide))]

theorem State.issue_fence (h : s.issues t (encR 0x30 rd.toNat ra.toNat rb.toNat 5) = true) :
    s.issue t (encR 0x30 rd.toNat ra.toNat rb.toNat 5) nibFence = s.putThr t (s.thr t).next := by
  obtain ⟨c, hdo, -⟩ := State.issue_encR (by decide) (by decide) h (usedBits_sys (by decide) rd ra rb) nibFence
  rw [hdo]
  refine State.nibDo_ok ?_
  rw [nibFence, State.started_nibNext (State.running_of_issues h)]

theorem State.issue_stop (h : s.issues t (encR 0x30 rd.toNat ra.toNat rb.toNat 6) = true) :
    s.issue t (encR 0x30 rd.toNat ra.toNat rb.toNat 6) nibStop = s.putThr t { (s.thr t).next with st := .stopped } := by
  obtain ⟨c, hdo, -⟩ := State.issue_encR (by decide) (by decide) h (usedBits_sys (by decide) rd ra rb) nibStop
  rw [hdo]
  refine State.nibDo_ok ?_
  rw [nibStop, State.started_setTh (State.running_of_issues h), State.started_th]
  rfl

theorem State.issue_brk_armed (h : s.issues t (encR 0x30 rd.toNat ra.toNat rb.toNat 7) = true) (ha : (s.thr t).armed = true)
    (hp : s.nv.programBlown = false) :
    s.issue t (encR 0x30 rd.toNat ra.toNat rb.toNat 7) nibBrk = s.putThr t { s.thr t with halted := some 3 } := by
  obtain ⟨c, hdo, -⟩ := State.issue_encR (by decide) (by decide) h (usedBits_sys (by decide) rd ra rb) nibBrk
  rw [hdo]
  refine State.nibDo_ok ?_
  simp only [nibBrk, State.started_th, State.started_setTh (State.running_of_issues h)]
  exact if_pos ⟨ha, hp⟩

theorem State.issue_brk_unarmed (h : s.issues t (encR 0x30 rd.toNat ra.toNat rb.toNat 7) = true)
    (hn : (s.thr t).armed = false ∨ s.nv.programBlown = true) :
    s.issue t (encR 0x30 rd.toNat ra.toNat rb.toNat 7) nibBrk = s.faulted t 8 := by
  obtain ⟨c, hdo, -⟩ := State.issue_encR (by decide) (by decide) h (usedBits_sys (by decide) rd ra rb) nibBrk
  rw [hdo]
  refine State.nibDo_error ?_
  simp only [nibBrk, State.started_th]
  refine if_neg fun ⟨ha, hp⟩ => ?_
  obtain hx | hx := hn
  · exact absurd (ha.symm.trans hx) (by decide)
  · exact absurd (hp.symm.trans hx) (by decide)

theorem runOk_iff {r n : Nat} : runOk r n = true ↔ 1 ≤ r ∧ r + n ≤ 32 := by
  simp [runOk]

theorem State.issue_tr_bad (h : s.issues t (encR 0x30 rd.toNat ra.toNat rb.toNat 8) = true)
    (hb : rd.toNat = 0 ∨ 28 < rd.toNat) :
    s.issue t (encR 0x30 rd.toNat ra.toNat rb.toNat 8) nibTr = s.faulted t 7 := by
  obtain ⟨c, hdo, hrd, -⟩ := State.issue_encR (by decide) (by decide) h (usedBits_sys (by decide) rd ra rb) nibTr
  have hrun : runOk (fRd c) 4 = false := by
    rw [hrd (by decide), ← Bool.not_eq_true, runOk_iff]
    omega
  rw [hdo]
  exact State.nibDo_error (if_pos hrun)

theorem nibTr_result {u i : Nat} {c : BitVec 32} {x : Thread} {a b e d : Word}
    (hx : s.th u i = x) (hrun : runOk (fRd c) 4 = true)
    (hres : x.result = some [a, b, e, d]) : nibTr s u i c = .ok (s.setTh u i
      ({ (((x.setReg (fRd c) a).setReg (fRd c + 1) b).setReg (fRd c + 2) e).setReg (fRd c + 3) d
        with result := none }.next)) := by
  have hrange : List.range 4 = [0, 1, 2, 3] := rfl
  subst hx
  simp only [nibTr, hrun, hres, hrange, List.foldl_cons, List.foldl_nil]
  rfl

section
variable (h : s.issues t (encR 0x30 rd.toNat ra.toNat rb.toNat 8) = true) (hlo : 1 ≤ rd.toNat) (hhi : rd.toNat ≤ 28)
include h hlo hhi

theorem State.issue_tr_stall (hn : (s.thr t).result = none) :
    s.issue t (encR 0x30 rd.toNat ra.toNat rb.toNat 8) nibTr = s.putThr t { s.thr t with st := .stallTr } := by
  obtain ⟨c, hdo, hrd, -⟩ := State.issue_encR (by decide) (by decide) h (usedBits_sys (by decide) rd ra rb) nibTr
  have hrun : runOk (fRd c) 4 = true := by rw [hrd (by decide), runOk_iff]; omega
  rw [hdo]
  refine State.nibDo_ok ?_
  simp only [nibTr, hrun, State.started_th, hn, State.started_setTh (State.running_of_issues h)]
  rfl

theorem State.issue_tr_result {a b e d : Word} (hn : (s.thr t).result = some [a, b, e, d]) :
    s.issue t (encR 0x30 rd.toNat ra.toNat rb.toNat 8) nibTr = s.putThr t
      { ((((s.thr t).setReg rd.toNat a).setReg (rd.toNat + 1) b).setReg (rd.toNat + 2) e).setReg (rd.toNat + 3) d with
        result := none }.next := by
  obtain ⟨c, hdo, hrd, -⟩ := State.issue_encR (by decide) (by decide) h (usedBits_sys (by decide) rd ra rb) nibTr
  have hrun : runOk (fRd c) 4 = true := by rw [hrd (by decide), runOk_iff]; omega
  rw [hdo]
  refine State.nibDo_ok ((nibTr_result State.started_th hrun hn).trans ?_)
  rw [State.started_setTh (State.running_of_issues h), hrd (by decide), Thread.setReg_skip, Thread.setReg_skip,
    Thread.setReg_skip,
    Thread.setReg_skip]
  rfl

end

end

/-! ### What the two event instructions leave -/

section
variable {s : State} {t : Th} {rd : Reg} {m e : BitVec 32}

/-- WFE without an event of its mask waits; with one it goes on, and clears it. -/
theorem State.wfe_waits (he : (s.nib t.unit.val).events (s.thr t) &&& m = 0) :
    ((s.nib t.unit.val).setTh t.slot.val (s.inWfe t rd m)).wake t.slot.val
      = (s.nib t.unit.val).setTh t.slot.val (s.inWfe t rd m) :=
  Nib.wake_of_no_event (by rw [Nib.th_setTh_self]; exact he)

theorem State.wfe_goes (hh : (s.thr t).halted = none) (he : e = (s.nib t.unit.val).events (s.thr t) &&& m) (hne : e ≠ 0) :
    (((s.nib t.unit.val).setTh t.slot.val (s.inWfe t rd m)).wake t.slot.val).th t.slot.val = ({ s.thr t with
      skip := false, mask := m, wfeRd := rd, since := s.time (nibHalf t.unit.val)
      pend := (s.thr t).pend &&& ~~~ e }.setReg rd.toNat (e.zeroExtend 64)).next := by
  have hself := (s.nib t.unit.val).th_setTh_self t.slot.val (s.inWfe t rd m)
  rw [Nib.th_wake_self (e := e) (by rw [hself]; rfl) (by rw [hself]; exact hh) (by rw [hself]; exact he.symm) hne, hself]
  refine Eq.trans ?_ (Thread.setReg_next_of_st _ .waiting _ _)
  rfl

/-- The device apart from its units, after an event has been set. -/
theorem State.putThr_setNib_nibs (x : Thread) (y : Nib) :
    { (s.putThr t x).setNib t.unit.val y with nibs := s.nibs } = s := rfl

end

/-- Settles O31, by the events that are pending, and by the result that a lookup has left. -/
theorem nibSystemInstructions : Obligations.NibSystemInstructions := by
  refine ⟨fun s t rd ra rb m e h hm he => ⟨fun h0 => ?_,
      fun hne => ⟨_, congrArg Host.Outcome.next (State.issue_wfe h hm), ?_, ?_, rfl⟩⟩,
    fun s t rd ra rb j h hj hne => ⟨fun hi => ?_,
      fun hi => ⟨_, congrArg Host.Outcome.next ((State.issue_sig h hj hne).trans (if_neg hi)), ?_⟩⟩,
    fun s t rd ra rb => ⟨fun h hlt => congrArg Host.Outcome.next (State.issue_timer h hlt),
      fun h => congrArg Host.Outcome.next (State.issue_time h),
      fun h => congrArg Host.Outcome.next (State.issue_self h),
      fun h => congrArg Host.Outcome.next (State.issue_fence h),
      fun h => congrArg Host.Outcome.next (State.issue_stop h),
      fun h ha hp => congrArg Host.Outcome.next (State.issue_brk_armed h ha hp),
      fun h hn => congrArg Host.Outcome.next (State.issue_brk_unarmed h hn)⟩,
    fun s t rd ra rb h => ⟨fun hb => congrArg Host.Outcome.next (State.issue_tr_bad h hb),
      fun hlo hhi hn => congrArg Host.Outcome.next (State.issue_tr_stall h hlo hhi hn),
      fun a b c d hlo hhi hn => congrArg Host.Outcome.next (State.issue_tr_result h hlo hhi hn)⟩⟩
  · refine congrArg Host.Outcome.next ((State.issue_wfe h hm).trans ?_)
    rw [State.wfe_waits (he.symm.trans h0)]
    rfl
  · rw [State.thr, State.th, State.nib_setNib_self, State.wfe_goes (State.halted_of_issues h) he hne]
  · intro i hi
    rw [State.th, State.nib_setNib_self, Nib.th_wake_of_ne hi, Nib.th_setTh_of_ne _ _ hi, State.th]
  · exact congrArg Host.Outcome.next ((State.issue_sig h hj hne).trans (if_pos hi))
  · have hj' : ((s.nib t.unit.val).setTh t.slot.val { (s.thr t).next with skip := false }).th j = s.th t.unit.val j :=
      Nib.th_setTh_of_ne _ _ hne
    refine ⟨?_, fun hw => ?_, fun hw hh hm => ?_, fun i hij his => ?_, State.putThr_setNib_nibs _ _⟩
    all_goals simp only [State.thr, State.th, State.nib_setNib_self] at *
    · rw [Nib.th_event_of_ne (Ne.symm hne), Nib.th_setTh_self]
    · rw [Nib.th_event_of_not_waiting (by rw [hj']; exact hw), hj']
      rfl
    · exact Nib.event_wakes (by decide) (by decide) (by rw [hj']; exact hw) (by rw [hj']; exact hh) (by rw [hj']; exact hm)
    · rw [Nib.th_event_of_ne hij, Nib.th_setTh_of_ne _ _ his]

end Sys2Proof.Machine
end

section
/-! SUPPORT. Channels, locks and submissions of a nib thread (09 R232, R234 to R239, R242). -/

namespace Sys2Proof.Machine
open Sys2Proof

/-! ### Lock queues (R237 to R239) -/

/-- A search that misses both the value put and the one it replaces finds what it found. -/
theorem find?_mput {α : Type} {p : Nat × α → Bool} {k : Nat} {v d : α} (m : Map α) (hv : p (k, v) = false)
    (hold : p (k, mget m k d) = false) : (mput m k v).find? p = m.find? p := by
  induction m with
  | nil => simp [mput, hv]
  | cons e rest ih =>
    obtain ⟨a, b⟩ := e
    by_cases hlt : k < a
    · simp [mput, hlt, hv]
    · by_cases heq : k = a
      · subst heq
        have hb : p (k, b) = false := by simpa [mget] using hold
        simp [mput, hv, hb]
      · have hrest : (mput rest k v).find? p = rest.find? p := ih (by simpa [mget, Ne.symm heq] using hold)
        simp only [mput, if_neg hlt, if_neg heq, List.find?_cons, hrest]

section
variable (x : Nib) (i j n m : Nat) (t : Thread) (l : Lock)

@[simp] theorem Nib.setLock_th : (x.setLock n l).th i = x.th i := rfl
@[simp] theorem Nib.setLock_lock_self : (x.setLock n l).lock n = l := mget_mset_same _ _ _ _

variable {n m} in
theorem Nib.setLock_lock_of_ne (h : m ≠ n) : (x.setLock n l).lock m = x.lock m := mget_mset_of_ne h _ _ _ _

theorem Nib.lock_congr {x y : Nib} (h : x.locks = y.locks) : x.lock n = y.lock n :=
  congrArg (fun m => mget m n ({ queue := [] } : Lock)) h

@[simp] theorem Nib.wake_locks : (x.wake i).locks = x.locks := by
  obtain hw | ⟨-, t, hw⟩ := x.wake_cases i
  · rw [hw]
  · rw [hw]
    rfl

@[simp] theorem Nib.event_locks : (x.event i n).locks = x.locks := by
  rw [Nib.event_eq, Nib.wake_locks, Nib.setTh_locks]

/-- A thread that has its lock (R238). -/
theorem Nib.grant_eq (rd : Nat) : x.grant i n rd = x.setTh i (({ x.th i with
    holds := true, poisoned := (x.lock n).poisoned,
    wantLock := false }.setReg rd (if (x.lock n).poisoned then 1 else 0)).next) := rfl

variable {i j} in
theorem Nib.th_grant_of_ne (h : j ≠ i) (rd : Nat) : (x.grant i n rd).th j = x.th j := Nib.th_setTh_of_ne _ _ h

@[simp] theorem Nib.newHead_locks : (x.newHead n).locks = x.locks := by
  simp only [Nib.newHead]
  split
  · rfl
  · split
    · rfl
    · split
      · rfl
      · split
        · rw [Nib.event_locks, Nib.setTh_locks]
        · rfl

variable {x i j n} in
/-- A new head changes no thread but one that waits in LACQ, or whose LTRY has failed. -/
theorem Nib.th_newHead_of_ready (hst : (x.th i).st ≠ .waitLock) (hw : (x.th i).wantLock = false) :
    (x.newHead n).th i = x.th i := by
  simp only [Nib.newHead]
  split
  · rfl
  · split
    · rfl
    · next j _ =>
      by_cases hij : i = j
      · subst hij
        rw [if_neg fun h => hst h.1, if_neg (by rw [hw]; decide)]
      · split
        · exact x.th_grant_of_ne n hij _
        · split
          · rw [Nib.th_event_of_ne hij, Nib.th_setTh_of_ne _ _ hij]
          · rfl

variable {x j n} in
/-- The thread that waits in LACQ with the frame that now heads the queue has the lock. -/
theorem Nib.newHead_grants {a : Nat} {rest : List Nat} (hq : (x.lock n).queue = a :: rest) (hh : x.holder a = some j)
    (hst : (x.th j).st = .waitLock) (hhalt : (x.th j).halted = none) : x.newHead n = x.grant j n (x.th j).wfeRd.toNat := by
  simp only [Nib.newHead, hq, hh]
  exact if_pos ⟨hst, hhalt⟩

@[simp] theorem Thread.setReg_holds (r : Nat) (v : Word) : (t.setReg r v).holds = t.holds := by
  unfold Thread.setReg
  split <;> rfl

theorem Nib.th_grant_self (rd : Nat) : ((x.grant i n rd).th i).holds = true ∧ ((x.grant i n rd).th i).st = .running := by
  rw [Nib.grant_eq, Nib.th_setTh_self]
  exact ⟨Thread.setReg_holds _ _ _, rfl⟩

/-- A thread whose frame has left its queue. -/
def Thread.unlocked (t : Thread) : Thread := { t with holds := false, poisoned := false, wantLock := false }

/-- The queue that a frame has left (R238, R239). -/
def Lock.left (l : Lock) (arrival : Nat) (holds poison : Bool) : Lock :=
  { queue := l.queue.erase arrival, poisoned := if holds then poison else l.poisoned }

section
variable {x i n} {f : Frame} {p : Bool} (hf : (x.th i).frame = some f)
include hf

theorem Nib.leave_of_lockOf_none (hl : x.lockOf f.arrival = none) : x.leave i p = x := by
  simp only [Nib.leave, hf, hl]

variable (hl : x.lockOf f.arrival = some n)
include hl

theorem Nib.leave_eq :
    x.leave i p = ((x.setLock n ((x.lock n).left f.arrival (x.th i).holds p)).setTh i (x.th i).unlocked).newHead n := by
  simp only [Nib.leave, hf, hl, Thread.unlocked, Lock.left]

theorem Nib.leave_lock_self : (x.leave i p).lock n = (x.lock n).left f.arrival (x.th i).holds p := by
  rw [Nib.leave_eq hf hl, Nib.lock_congr n (Nib.newHead_locks _ _), Nib.setTh_lock, Nib.setLock_lock_self]

theorem Nib.leave_lock_of_ne {m : Nat} (h : m ≠ n) : (x.leave i p).lock m = x.lock m := by
  rw [Nib.leave_eq hf hl, Nib.lock_congr m (Nib.newHead_locks _ _), Nib.setTh_lock, Nib.setLock_lock_of_ne _ _ h]

theorem Nib.th_leave_self (hst : (x.th i).st ≠ .waitLock) : (x.leave i p).th i = (x.th i).unlocked := by
  have hself := (x.setLock n ((x.lock n).left f.arrival (x.th i).holds p)).th_setTh_self i (x.th i).unlocked
  rw [Nib.leave_eq hf hl, Nib.th_newHead_of_ready (by rw [hself]; exact hst) (by rw [hself]; rfl), hself]

end

theorem Nib.leave_of_frame_none {x : Nib} {i : Nat} {p : Bool} (hf : (x.th i).frame = none) : x.leave i p = x := by
  simp only [Nib.leave, hf]

/-- The holder of a frame is the same after a thread with another frame is replaced by one with another frame. -/
theorem Nib.holder_setTh {x : Nib} {i a : Nat} {t : Thread} (ht : t ≠ {}) (hnew : ∀ f, t.frame = some f → f.arrival ≠ a)
    (hold : ∀ f, (x.th i).frame = some f → f.arrival ≠ a) : (x.setTh i t).holder a = x.holder a := by
  have miss : ∀ y : Thread, (∀ f, y.frame = some f → f.arrival ≠ a) → (y.frame.any fun f => f.arrival = a) = false := by
    intro y hy
    cases hyf : y.frame with
    | none => rfl
    | some f => simp [hy f hyf]
  unfold Nib.holder Nib.setTh
  rw [mset, if_neg ht, find?_mput (d := {}) _ (miss t hnew) (miss _ hold)]

/-- A frame that leaves gives its lock to the thread that waits with the next one. -/
theorem Nib.leave_grants {x : Nib} {i n a j : Nat} {f : Frame} {rest : List Nat} {p : Bool} (hf : (x.th i).frame = some f)
    (hl : x.lockOf f.arrival = some n) (hq : (x.lock n).queue.erase f.arrival = a :: rest) (ha : a ≠ f.arrival)
    (hh : x.holder a = some j) (hst : (x.th j).st = .waitLock) (hhalt : (x.th j).halted = none) (hji : j ≠ i) :
    ((x.leave i p).th j).holds = true ∧ ((x.leave i p).th j).st = .running := by
  have hframe : ∀ g, (x.th i).frame = some g → g.arrival ≠ a := fun g hg => by
    rw [hf] at hg
    cases hg
    exact Ne.symm ha
  have hne : (x.th i).unlocked ≠ {} := fun h0 => by
    have := congrArg Thread.frame h0
    exact absurd (hf.symm.trans this) (by simp)
  let y := (x.setLock n ((x.lock n).left f.arrival (x.th i).holds p)).setTh i (x.th i).unlocked
  have hthj : y.th j = x.th j := Nib.th_setTh_of_ne _ _ hji
  have hholder : y.holder a = some j := (Nib.holder_setTh hne hframe hframe).trans hh
  have hqueue : (y.lock n).queue = a :: rest := by
    rw [Nib.setTh_lock, Nib.setLock_lock_self]
    exact hq
  rw [Nib.leave_eq hf hl, Nib.newHead_grants hqueue hholder (by rw [hthj]; exact hst) (by rw [hthj]; exact hhalt)]
  exact y.th_grant_self j n _

end

/-! ### Waking every thread (R233) -/

section
variable (x : Nib)

@[simp] theorem Nib.wake_chans (i : Nat) : (x.wake i).chans = x.chans := by
  obtain hw | ⟨-, t, hw⟩ := x.wake_cases i
  · rw [hw]
  · rw [hw]
    rfl

@[simp] theorem Nib.wakeAll_chans : x.wakeAll.chans = x.chans :=
  List.foldlRecOn (motive := fun y : Nib => y.chans = x.chans) _ _ rfl fun y hy i _ => (y.wake_chans i).trans hy

variable {x} in
theorem Nib.th_wakeAll_of_not_waiting {i : Nat} {t : Thread} (hx : x.th i = t) (ht : t.st ≠ .waiting) :
    x.wakeAll.th i = t := by
  refine List.foldlRecOn (motive := fun y : Nib => y.th i = t) _ _ hx fun y hy j _ => ?_
  by_cases hij : i = j
  · subst hij
    rw [Nib.wake_of_not_waiting (by rw [hy]; exact ht), hy]
  · rw [Nib.th_wake_of_ne hij, hy]

end

/-! ### Registers -/

theorem Thread.reg_setReg {r : Nat} (hr : r ≠ 0) (t : Thread) (v : Word) (x : Nat) :
    (t.setReg r v).reg x = if x = r then v else t.reg x := by
  rw [Thread.setReg, if_neg hr]
  unfold Thread.reg
  by_cases h0 : x = 0
  · subst h0
    rw [if_pos rfl, if_pos rfl, if_neg (Ne.symm hr)]
  · rw [if_neg h0, if_neg h0, mget_mset]

@[simp] theorem Thread.setReg_pc (t : Thread) (r : Nat) (v : Word) : (t.setReg r v).pc = t.pc := by
  unfold Thread.setReg
  split <;> rfl

/-- A thread with words put into registers in turn, from one on. -/
def Thread.setRegs (t : Thread) (r : Nat) (ws : List Word) (n : Nat) : Thread :=
  (List.range n).foldl (fun a k => a.setReg (r + k) (ws.getD k 0)) t

theorem Thread.setRegs_succ (t : Thread) (r : Nat) (ws : List Word) (n : Nat) :
    t.setRegs r ws (n + 1) = (t.setRegs r ws n).setReg (r + n) (ws.getD n 0) := by
  simp only [Thread.setRegs, List.range_succ, List.foldl_append, List.foldl_cons, List.foldl_nil]

theorem Thread.setRegs_pc (t : Thread) (r : Nat) (ws : List Word) (n : Nat) : (t.setRegs r ws n).pc = t.pc := by
  induction n with
  | zero => rfl
  | succ n ih => rw [Thread.setRegs_succ, Thread.setReg_pc, ih]

theorem Thread.reg_setRegs {r : Nat} (hr : r ≠ 0) (t : Thread) (ws : List Word) (n x : Nat) :
    (t.setRegs r ws n).reg x = if r ≤ x ∧ x < r + n then ws.getD (x - r) 0 else t.reg x := by
  induction n with
  | zero =>
    rw [if_neg (by omega)]
    rfl
  | succ n ih =>
    rw [Thread.setRegs_succ, Thread.reg_setReg (by omega), ih]
    by_cases hx : x = r + n
    · subst hx
      rw [if_pos rfl, if_pos (by omega), Nat.add_sub_cancel_left]
    · rw [if_neg hx]
      by_cases hlt : r ≤ x ∧ x < r + n
      · rw [if_pos hlt, if_pos (by omega)]
      · rw [if_neg hlt, if_neg (by omega)]

/-! ### Channels, in any unit (R234) -/

section
variable {s : State} {u i c : Nat} {w : BitVec 32} {x : Nib} {t : Thread} {ws : List Word}

section
variable (hx : s.th u i = t) (hc : (s.nibRb u i w).toNat % 64 = c)
include hx hc

theorem nibChw_first (hs : t.staged = none) :
    nibChw s u i w = .ok (s.setTh u i { t.next with staged := some (c, [s.nibRa u i w]) }) := by
  subst hx hc
  simp only [nibChw, hs]

theorem nibChw_more (hs : t.staged = some (c, ws)) (hlt : ws.length < 8) :
    nibChw s u i w = .ok (s.setTh u i { t.next with staged := some (c, ws ++ [s.nibRa u i w]) }) := by
  subst hx hc
  simp only [nibChw, hs]
  exact if_neg (by omega)

theorem nibChw_bad {d : Nat} (hs : t.staged = some (d, ws)) (hbad : d ≠ c ∨ 8 ≤ ws.length) : nibChw s u i w = .error 5 := by
  subst hx hc
  simp only [nibChw, hs]
  exact if_pos hbad

end

theorem nibChr_bad (hrd : fRd w < 1 ∨ 23 < fRd w) : nibChr s u i w = .error 7 := if_pos hrd

section
variable (hx : s.nib u = x)
include hx

theorem nibChc_none (hs : (x.th i).staged = none) : nibChc s u i w = .ok (s.nibRd u i w 2) := by
  subst hx
  simp only [nibChc, hs]

theorem nibChc_full (hs : (x.th i).staged = some (c, ws)) (hq : 16 ≤ (mget x.chans c []).length) :
    nibChc s u i w = .ok (s.nibRd u i w 1) := by
  subst hx
  simp only [nibChc, hs]
  exact if_pos hq

theorem nibChc_commits (hs : (x.th i).staged = some (c, ws)) (hq : (mget x.chans c []).length < 16) :
    nibChc s u i w = .ok (s.setNib u ((Nib.setTh { x with chans := mset x.chans c (mget x.chans c [] ++ [ws]) [] } i
      (({ x.th i with staged := none }.setReg (fRd w) 0).next)).wakeAll)) := by
  subst hx
  simp only [nibChc, hs]
  exact if_neg (by omega)

variable (hrd : 1 ≤ fRd w) (hrd' : fRd w ≤ 23) (hc : (s.nibRa u i w).toNat % 64 = c)
include hrd hrd' hc

theorem nibChr_empty (hq : mget x.chans c [] = []) : nibChr s u i w = .ok (s.nibRd u i w 0) := by
  subst hx hc
  have hin : ¬ (fRd w < 1 ∨ 23 < fRd w) := by omega
  simp only [nibChr, if_neg hin, hq]

theorem nibChr_message {m : List Word} {rest : List (List Word)} (hq : mget x.chans c [] = m :: rest) :
    nibChr s u i w = .ok (s.setNib u (Nib.setTh { x with chans := mset x.chans c rest [] } i
      (((x.th i).setReg (fRd w) (BitVec.ofNat 64 m.length)).setRegs (fRd w + 1) m m.length).next)) := by
  subst hx hc
  have hin : ¬ (fRd w < 1 ∨ 23 < fRd w) := by omega
  simp only [nibChr, if_neg hin, hq, Thread.setRegs]

end

end

/-! ### The instructions on channels -/

theorem usedBits_chan {f : Nat} (hf : f < 2048) (rd ra rb : Reg) : usedBits (encR 0x34 rd.toNat ra.toNat rb.toNat f)
    = if f = 0 then some (mOp ||| mRa ||| mRb ||| mFunc) else if f = 1 then some (mOp ||| mRd ||| mFunc)
      else if f = 2 then some (mOp ||| mRd ||| mRa ||| mFunc) else if f = 3 then some (mOp ||| mRa ||| mFunc)
      else if f = 4 then some (mOp ||| mFunc) else none := by
  simp only [usedBits, fOp_encR (show 0x34 < 64 by decide) hf, fFunc_encR (show 0x34 < 64 by decide) hf]
  rfl

section
variable {s : State} {t : Th} {rd ra rb : Reg} {c : Nat} {ws : List Word}

theorem State.started_nib_th : ((s.started t).nib t.unit.val).th t.slot.val = { s.thr t with skip := false } :=
  State.started_th

section
variable (h : s.issues t (encR 0x34 rd.toNat ra.toNat rb.toNat 0) = true) (hc : c = (s.rv t rb).toNat % 64)
include h hc

theorem State.issue_chw_first (hs : (s.thr t).staged = none) : s.issue t (encR 0x34 rd.toNat ra.toNat rb.toNat 0) nibChw
    = s.putThr t { (s.thr t).next with staged := some (c, [s.rv t ra]) } := by
  obtain ⟨w, hdo, -, hra, hrb⟩ := State.issue_encR (by decide) (by decide) h (usedBits_chan (by decide) rd ra rb) nibChw
  have hc' : ((s.started t).nibRb t.unit.val t.slot.val w).toNat % 64 = c := by
    rw [State.started_nibRb, hrb (by decide), hc, State.rv]
  rw [hdo, State.nibDo_ok (nibChw_first State.started_th hc' hs), State.started_setTh (State.running_of_issues h),
    State.started_nibRa,
    hra (by decide)]
  rfl

theorem State.issue_chw_more (hs : (s.thr t).staged = some (c, ws)) (hlt : ws.length < 8) :
    s.issue t (encR 0x34 rd.toNat ra.toNat rb.toNat 0) nibChw
      = s.putThr t { (s.thr t).next with staged := some (c, ws ++ [s.rv t ra]) } := by
  obtain ⟨w, hdo, -, hra, hrb⟩ := State.issue_encR (by decide) (by decide) h (usedBits_chan (by decide) rd ra rb) nibChw
  have hc' : ((s.started t).nibRb t.unit.val t.slot.val w).toNat % 64 = c := by
    rw [State.started_nibRb, hrb (by decide), hc, State.rv]
  rw [hdo, State.nibDo_ok (nibChw_more State.started_th hc' hs hlt), State.started_setTh (State.running_of_issues h),
    State.started_nibRa, hra (by decide)]
  rfl

theorem State.issue_chw_bad {d : Nat} (hs : (s.thr t).staged = some (d, ws)) (hbad : d ≠ c ∨ 8 ≤ ws.length) :
    s.issue t (encR 0x34 rd.toNat ra.toNat rb.toNat 0) nibChw = s.faulted t 5 := by
  obtain ⟨w, hdo, -, -, hrb⟩ := State.issue_encR (by decide) (by decide) h (usedBits_chan (by decide) rd ra rb) nibChw
  have hc' : ((s.started t).nibRb t.unit.val t.slot.val w).toNat % 64 = c := by
    rw [State.started_nibRb, hrb (by decide), hc, State.rv]
  rw [hdo]
  exact State.nibDo_error (nibChw_bad State.started_th hc' hs hbad)

end

section
variable (h : s.issues t (encR 0x34 rd.toNat ra.toNat rb.toNat 1) = true)
include h

theorem State.issue_chc_none (hs : (s.thr t).staged = none) :
    s.issue t (encR 0x34 rd.toNat ra.toNat rb.toNat 1) nibChc = s.wrote t rd 2 := by
  obtain ⟨w, hdo, hrd, -⟩ := State.issue_encR (by decide) (by decide) h (usedBits_chan (by decide) rd ra rb) nibChc
  rw [hdo, State.nibDo_ok (nibChc_none rfl (by rw [State.started_nib_th]; exact hs)),
    State.started_nibRd (State.running_of_issues h) (hrd (by decide))]

theorem State.issue_chc_full (hs : (s.thr t).staged = some (c, ws)) (hq : 16 ≤ (mget (s.nib t.unit.val).chans c []).length) :
    s.issue t (encR 0x34 rd.toNat ra.toNat rb.toNat 1) nibChc = s.wrote t rd 1 := by
  obtain ⟨w, hdo, hrd, -⟩ := State.issue_encR (by decide) (by decide) h (usedBits_chan (by decide) rd ra rb) nibChc
  rw [hdo, State.nibDo_ok (nibChc_full (c := c) (ws := ws) rfl (by rw [State.started_nib_th]; exact hs)
    (by rwa [State.started_nib, Nib.setTh_chans])), State.started_nibRd (State.running_of_issues h) (hrd (by decide))]

/-- A message committed: the channel, the thread, and every waiting thread. -/
theorem State.issue_chc_commits (hs : (s.thr t).staged = some (c, ws))
    (hq : (mget (s.nib t.unit.val).chans c []).length < 16) :
    ∃ x : Nib, s.issue t (encR 0x34 rd.toNat ra.toNat rb.toNat 1) nibChc = s.setNib t.unit.val x
      ∧ x.chans = mset (s.nib t.unit.val).chans c (mget (s.nib t.unit.val).chans c [] ++ [ws]) []
      ∧ x.th t.slot.val = ({ s.thr t with staged := none, skip := false }.setReg rd.toNat 0).next := by
  obtain ⟨w, hdo, hrd, -⟩ := State.issue_encR (by decide) (by decide) h (usedBits_chan (by decide) rd ra rb) nibChc
  have hchans : ((s.started t).nib t.unit.val).chans = (s.nib t.unit.val).chans := by rw [State.started_nib, Nib.setTh_chans]
  rw [hdo, State.nibDo_ok (nibChc_commits (c := c) (ws := ws) rfl (by rw [State.started_nib_th]; exact hs) (by rwa [hchans])),
    State.started_setNib (State.running_of_issues h), hrd (by decide), State.started_nib_th, hchans]
  refine ⟨_, rfl, ?_, ?_⟩
  · rw [Nib.wakeAll_chans, Nib.setTh_chans]
  · refine Nib.th_wakeAll_of_not_waiting (Nib.th_setTh_self _ _ _) ?_
    simp [Thread.next]

end

section
variable (h : s.issues t (encR 0x34 rd.toNat ra.toNat rb.toNat 2) = true)
include h

theorem State.issue_chr_bad (hb : rd.toNat = 0 ∨ 23 < rd.toNat) :
    s.issue t (encR 0x34 rd.toNat ra.toNat rb.toNat 2) nibChr = s.faulted t 7 := by
  obtain ⟨w, hdo, hrd, -⟩ := State.issue_encR (by decide) (by decide) h (usedBits_chan (by decide) rd ra rb) nibChr
  rw [hdo]
  refine State.nibDo_error (nibChr_bad ?_)
  rw [hrd (by decide)]
  omega

variable (hlo : 1 ≤ rd.toNat) (hhi : rd.toNat ≤ 23) (hc : c = (s.rv t ra).toNat % 64)
include hlo hhi hc

theorem State.issue_chr_empty (hq : mget (s.nib t.unit.val).chans c [] = []) :
    s.issue t (encR 0x34 rd.toNat ra.toNat rb.toNat 2) nibChr = s.wrote t rd 0 := by
  obtain ⟨w, hdo, hrd, hra, -⟩ := State.issue_encR (by decide) (by decide) h (usedBits_chan (by decide) rd ra rb) nibChr
  have hc' : ((s.started t).nibRa t.unit.val t.slot.val w).toNat % 64 = c := by
    rw [State.started_nibRa, hra (by decide), hc, State.rv]
  replace hrd := hrd (by decide)
  rw [hdo, State.nibDo_ok (nibChr_empty (c := c) rfl (by omega) (by omega) hc' (by rwa [State.started_nib, Nib.setTh_chans])),
    State.started_nibRd (State.running_of_issues h) hrd]

theorem State.issue_chr_message {m : List Word} {rest : List (List Word)}
    (hq : mget (s.nib t.unit.val).chans c [] = m :: rest) :
    ∃ x : Nib, s.issue t (encR 0x34 rd.toNat ra.toNat rb.toNat 2) nibChr = s.setNib t.unit.val x
      ∧ x.chans = mset (s.nib t.unit.val).chans c rest []
      ∧ x.th t.slot.val = (({ s.thr t with skip := false }.setReg rd.toNat (BitVec.ofNat 64 m.length)).setRegs
          (rd.toNat + 1) m m.length).next := by
  obtain ⟨w, hdo, hrd, hra, -⟩ := State.issue_encR (by decide) (by decide) h (usedBits_chan (by decide) rd ra rb) nibChr
  have hc' : ((s.started t).nibRa t.unit.val t.slot.val w).toNat % 64 = c := by
    rw [State.started_nibRa, hra (by decide), hc, State.rv]
  have hchans : ((s.started t).nib t.unit.val).chans = (s.nib t.unit.val).chans := by rw [State.started_nib, Nib.setTh_chans]
  replace hrd := hrd (by decide)
  rw [hdo, State.nibDo_ok (nibChr_message (c := c) (m := m) (rest := rest) rfl (by omega) (by omega) hc' (by rwa [hchans])),
    State.started_setNib (State.running_of_issues h), hrd, State.started_nib_th, hchans]
  exact ⟨_, rfl, rfl, Nib.th_setTh_self _ _ _⟩

end

theorem State.issue_chwatch (h : s.issues t (encR 0x34 rd.toNat ra.toNat rb.toNat 3) = true) :
    s.issue t (encR 0x34 rd.toNat ra.toNat rb.toNat 3) nibChwatch
      = s.putThr t { (s.thr t).next with watch := s.rv t ra } := by
  obtain ⟨w, hdo, -, hra, -⟩ := State.issue_encR (by decide) (by decide) h (usedBits_chan (by decide) rd ra rb) nibChwatch
  rw [hdo]
  refine State.nibDo_ok ?_
  rw [nibChwatch, State.started_setTh (State.running_of_issues h), State.started_th, State.started_nibRa, hra (by decide)]
  rfl

theorem State.issue_chx (h : s.issues t (encR 0x34 rd.toNat ra.toNat rb.toNat 4) = true) :
    s.issue t (encR 0x34 rd.toNat ra.toNat rb.toNat 4) nibChx = s.putThr t { (s.thr t).next with staged := none } := by
  obtain ⟨w, hdo, -⟩ := State.issue_encR (by decide) (by decide) h (usedBits_chan (by decide) rd ra rb) nibChx
  rw [hdo]
  refine State.nibDo_ok ?_
  rw [nibChx, State.started_setTh (State.running_of_issues h), State.started_th]
  rfl

end

/-! ### The instructions on locks (R238) -/

theorem usedBits_lock {f : Nat} (hf : f < 2048) (rd ra rb : Reg) : usedBits (encR 0x35 rd.toNat ra.toNat rb.toNat f)
    = if f ≤ 1 then some (mOp ||| mRd ||| mFunc) else if f = 2 then some (mOp ||| mFunc)
      else if f = 3 then some (mOp ||| mRa ||| mFunc) else none := by
  simp only [usedBits, fOp_encR (show 0x35 < 64 by decide) hf, fFunc_encR (show 0x35 < 64 by decide) hf]
  rfl

theorem Nib.heldLock_eq {x : Nib} {i : Nat} {f : Frame} (hf : (x.th i).frame = some f) :
    x.heldLock i = (x.lockOf f.arrival).map fun n => (n, decide ((x.lock n).queue.head? = some f.arrival)) := by
  simp only [Nib.heldLock, hf]

section
variable {s : State} {u i n : Nat} {w : BitVec 32} {x : Nib}

section
variable (hx : s.nib u = x)
include hx

theorem nibLacq_none (hl : x.heldLock i = none) : nibLacq s u i w = .error 6 := by
  subst hx
  simp only [nibLacq, hl]

theorem nibLacq_head (hl : x.heldLock i = some (n, true)) : nibLacq s u i w = .ok (s.setNib u (x.grant i n (fRd w))) := by
  subst hx
  simp only [nibLacq, hl]

theorem nibLacq_waits (hl : x.heldLock i = some (n, false)) :
    nibLacq s u i w = .ok (s.setTh u i { x.th i with st := .waitLock, wfeRd := BitVec.ofNat 5 (fRd w) }) := by
  subst hx
  simp only [nibLacq, hl]

theorem nibLtry_none (hl : x.heldLock i = none) : nibLtry s u i w = .error 6 := by
  subst hx
  simp only [nibLtry, hl]

theorem nibLtry_head (hl : x.heldLock i = some (n, true)) : nibLtry s u i w = .ok (s.setNib u (x.grant i n (fRd w))) := by
  subst hx
  simp only [nibLtry, hl]

theorem nibLtry_fails (hl : x.heldLock i = some (n, false)) :
    nibLtry s u i w = .ok (s.setTh u i { ((x.th i).setReg (fRd w) 2).next with wantLock := true }) := by
  subst hx
  simp only [nibLtry, hl]

theorem nibLmov_none (hl : x.heldLock i = none) : nibLmov s u i w = .error 6 := by
  subst hx
  simp only [nibLmov, hl]

end

/-- The lock queue that a frame has joined at its tail. -/
def Nib.joined (x : Nib) (m arrival : Nat) : Nib := x.setLock m { x.lock m with queue := (x.lock m).queue ++ [arrival] }

theorem nibLmov_moves {l : Nat × Bool} {f : Frame} {m : Nat} (hx : s.nib u = x) (hl : x.heldLock i = some l)
    (hf : (x.th i).frame = some f) (hm : (s.nibRa u i w).toNat % 4096 = m) :
    nibLmov s u i w = .ok ((s.setNib u ((x.leave i false).joined m f.arrival)).nibNext u i) := by
  subst hx hm
  simp only [nibLmov, hl, hf, Nib.joined]

end

section
variable {s : State} {t : Th} {rd ra rb : Reg} {f : Frame} {n : Nat}

theorem State.started_heldLock : ((s.started t).nib t.unit.val).heldLock t.slot.val
    = (s.nib t.unit.val).heldLock t.slot.val := by
  unfold Nib.heldLock
  rw [State.started_nib_th, State.started_nib]
  rfl

theorem State.heldLock_none (h : (s.nib t.unit.val).heldLock t.slot.val = none) :
    ((s.started t).nib t.unit.val).heldLock t.slot.val = none := State.started_heldLock.trans h

/-- What LACQ and LTRY do at the head of the queue, and without one. -/
theorem State.issue_lock_head {op : Nat} {F : NibFn} (hop : op ≤ 1)
    (h : s.issues t (encR 0x35 rd.toNat ra.toNat rb.toNat op) = true)
    (hF : ∀ c, F (s.started t) t.unit.val t.slot.val c
      = .ok ((s.started t).setNib t.unit.val (((s.started t).nib t.unit.val).grant t.slot.val n (fRd c)))) :
    s.issue t (encR 0x35 rd.toNat ra.toNat rb.toNat op) F = s.putThr t (({ s.thr t with
        holds := true, poisoned := ((s.nib t.unit.val).lock n).poisoned, wantLock := false }.setReg rd.toNat
      (if ((s.nib t.unit.val).lock n).poisoned then 1 else 0)).next) := by
  obtain ⟨c, hdo, hrd, -⟩ := State.issue_encR (by decide) (by omega) h
    ((usedBits_lock (by omega) rd ra rb).trans (if_pos hop)) F
  have hr := State.running_of_issues h
  have hne := Thread.ne_default_of_running (x := { s.thr t with skip := false }) hr
  rw [hdo, State.nibDo_ok (hF c), State.started_setNib hr, Nib.grant_eq, State.started_nib_th, State.started_nib,
    Nib.setTh_setTh _ _ hne,
    Nib.setTh_lock, hrd (by decide)]
  exact congrArg (fun y : Thread => s.setTh t.unit.val t.slot.val y.next)
    (Thread.setReg_skip
      { s.thr t with holds := true, poisoned := ((s.nib t.unit.val).lock n).poisoned, wantLock := false } _ _)

theorem State.issue_lock_none {op : Nat} {F : NibFn} (hop : op < 4)
    (h : s.issues t (encR 0x35 rd.toNat ra.toNat rb.toNat op) = true)
    (hF : ∀ c, F (s.started t) t.unit.val t.slot.val c = .error 6) :
    s.issue t (encR 0x35 rd.toNat ra.toNat rb.toNat op) F = s.faulted t 6 := by
  have hm : ∃ m, usedBits (encR 0x35 rd.toNat ra.toNat rb.toNat op) = some m := by
    rw [usedBits_lock (by omega)]
    split
    · exact ⟨_, rfl⟩
    · split
      · exact ⟨_, rfl⟩
      · exact ⟨_, if_pos (by omega)⟩
  obtain ⟨m, hm⟩ := hm
  obtain ⟨c, hdo, -⟩ := State.issue_encR (by decide) (by omega) h hm F
  rw [hdo]
  exact State.nibDo_error (hF c)

section
variable (hl : ((s.started t).nib t.unit.val).heldLock t.slot.val = some (n, false))
include hl

theorem State.issue_lacq_waits (h : s.issues t (encR 0x35 rd.toNat ra.toNat rb.toNat 0) = true) :
    s.issue t (encR 0x35 rd.toNat ra.toNat rb.toNat 0) nibLacq
      = s.putThr t { s.thr t with st := .waitLock, wfeRd := rd } := by
  obtain ⟨c, hdo, hrd, -⟩ := State.issue_encR (by decide) (by decide) h (usedBits_lock (by decide) rd ra rb) nibLacq
  rw [hdo, State.nibDo_ok (nibLacq_waits rfl hl), State.started_setTh (State.running_of_issues h),
    State.started_nib_th, hrd (by decide),
    BitVec.ofNat_toNat, BitVec.setWidth_eq]
  rfl

theorem State.issue_ltry_fails (h : s.issues t (encR 0x35 rd.toNat ra.toNat rb.toNat 1) = true) :
    s.issue t (encR 0x35 rd.toNat ra.toNat rb.toNat 1) nibLtry
      = s.putThr t { ((s.thr t).setReg rd.toNat 2).next with wantLock := true } := by
  obtain ⟨c, hdo, hrd, -⟩ := State.issue_encR (by decide) (by decide) h (usedBits_lock (by decide) rd ra rb) nibLtry
  rw [hdo, State.nibDo_ok (nibLtry_fails rfl hl), State.started_setTh (State.running_of_issues h),
    State.started_nib_th, hrd (by decide),
    Thread.setReg_skip]
  rfl

end

/-- LREL: the frame leaves its queue, and the thread goes on. -/
theorem State.issue_lrel (h : s.issues t (encR 0x35 rd.toNat ra.toNat rb.toNat 2) = true) :
    s.issue t (encR 0x35 rd.toNat ra.toNat rb.toNat 2) nibLrel
      = (s.setNib t.unit.val (((s.started t).nib t.unit.val).leave t.slot.val false)).nibNext t.unit.val t.slot.val := by
  obtain ⟨c, hdo, -⟩ := State.issue_encR (by decide) (by decide) h (usedBits_lock (by decide) rd ra rb) nibLrel
  rw [hdo]
  refine State.nibDo_ok ?_
  rw [nibLrel, State.started_setNib (State.running_of_issues h)]

/-- LMOV: the frame leaves its queue and joins the one that ra names. -/
theorem State.issue_lmov {l : Nat × Bool} {m : Nat} (h : s.issues t (encR 0x35 rd.toNat ra.toNat rb.toNat 3) = true)
    (hf : (s.thr t).frame = some f) (hl : ((s.started t).nib t.unit.val).heldLock t.slot.val = some l)
    (hm : m = (s.rv t ra).toNat % 4096) :
    s.issue t (encR 0x35 rd.toNat ra.toNat rb.toNat 3) nibLmov = (s.setNib t.unit.val
      ((((s.started t).nib t.unit.val).leave t.slot.val false).joined m f.arrival)).nibNext t.unit.val t.slot.val := by
  obtain ⟨c, hdo, -, hra, -⟩ := State.issue_encR (by decide) (by decide) h (usedBits_lock (by decide) rd ra rb) nibLmov
  have hm' : ((s.started t).nibRa t.unit.val t.slot.val c).toNat % 4096 = m := by
    rw [State.started_nibRa, hra (by decide), hm, State.rv]
  rw [hdo, State.nibDo_ok (nibLmov_moves rfl hl (by rw [State.started_nib_th]; exact hf) hm'),
    State.started_setNib (State.running_of_issues h)]

/-- A unit whose thread goes on. -/
theorem State.nib_nibNext (x : Nib) :
    ((s.setNib t.unit.val x).nibNext t.unit.val t.slot.val).nib t.unit.val = x.setTh t.slot.val (x.th t.slot.val).next := by
  rw [State.nibNext, State.nib_setTh_self, State.th, State.nib_setNib_self]

theorem State.nibNext_nibs (x : Nib) : { (s.setNib t.unit.val x).nibNext t.unit.val t.slot.val with nibs := s.nibs }
    = s := rfl

end

/-! ### Submissions (R232, R264) -/

theorem usedBits_csub (rd ra : Reg) (imm : BitVec 16) :
    usedBits (encI 0x36 rd.toNat ra.toNat imm.toNat) = some (mOp ||| mRa ||| mImm) := by
  simp only [usedBits, fOp_encI (show 0x36 < 64 by decide)]
  rfl

section
variable {s : State} {u i a : Nat} {w : BitVec 32} {x : Thread}

theorem nibCsub_bad {c : Nat} (ha : nibAddr (s.nibEa u i w) 64 = .error c) : nibCsub s u i w = .error c := by
  rw [nibCsub, ha]

variable (ha : nibAddr (s.nibEa u i w) 64 = .ok a)
include ha

theorem nibCsub_outside (h : 0x1000 ≤ a) : nibCsub s u i w = .error 3 := by
  simp only [nibCsub, ha]
  exact if_pos h

variable (hx : s.th u i = x) (h : a < 0x1000)
include hx h

theorem nibCsub_stalls (hn : 4 ≤ x.subs.length + x.deadSubs.length) :
    nibCsub s u i w = .ok (s.setTh u i { x with st := .stallCsub }) := by
  subst hx
  simp only [nibCsub, ha]
  rw [if_neg (by omega), if_pos hn]

variable (hn : x.subs.length + x.deadSubs.length < 4)
include hn

theorem nibCsub_taken {k : Nat} (hk : (mget x.scratch a 0).toNat = k) (hk' : k = 1 ∨ k = 2) :
    nibCsub s u i w = .ok (s.setTh u i
    { x.next with subs := x.subs ++ [{ kind := k, addr := a, frame := x.frame.map (·.arrival) }] }) := by
  subst hx hk
  simp only [nibCsub, ha]
  rw [if_neg (by omega), if_neg (by omega), if_pos hk']

theorem nibCsub_malformed (hk1 : (mget x.scratch a 0).toNat ≠ 1) (hk2 : (mget x.scratch a 0).toNat ≠ 2) : nibCsub s u i w
    = .ok (s.setTh u i { x.next with scratch := mset x.scratch (a + 1) (BitVec.ofNat 8 stMalformed) 0 }) := by
  subst hx
  simp only [nibCsub, ha]
  rw [if_neg (by omega), if_neg (by omega), if_neg (by omega)]

end

section
variable {s : State} {t : Th} {rd ra : Reg} {imm : BitVec 16}

/-- A word with an address operand that issues, and its address. -/
theorem State.issue_csub (h : s.issues t (encI 0x36 rd.toNat ra.toNat imm.toNat) = true) :
    ∃ c, s.issue t (encI 0x36 rd.toNat ra.toNat imm.toNat) nibCsub = s.nibDo t.unit.val t.slot.val nibCsub c
      ∧ (s.started t).nibEa t.unit.val t.slot.val c = s.ea t ra imm := by
  obtain ⟨c, hc, hdo⟩ := State.issue_word h (usedBits_csub rd ra imm) nibCsub
  have hra : fRa c = ra.toNat := (fld_eq_of_and_eq hc (by decide)).trans (fRa_encI (by decide) rd ra imm)
  have himm : fImm c = imm.toNat := (fld_eq_of_and_eq hc (by decide)).trans (fImm_encI (by decide) rd ra imm)
  refine ⟨c, hdo, ?_⟩
  rw [State.nibEa, State.started_nibRa, hra, sImm, himm, ofInt_signed_eq_signExtend]
  rfl

/-- The CSUB instructions are one word, told apart by the record it names. -/
theorem exec_csub {i : Instr} {kind op : Nat} (hkind : kind = (mget (s.thr t).scratch (s.ea t ra imm).toNat 0).toNat)
    (hop : op = (mget (s.thr t).scratch ((s.ea t ra imm).toNat + 2) 0).toNat)
    (hi : (i, true) ∈ [(Instr.csubCopy t rd ra imm, kind != 2), (.csubEspOut t rd ra imm, kind == 2 && op != 2),
      (.csubEspIn t rd ra imm, kind == 2 && op == 2)]) :
    exec i s = .next (s.issue t (encI 0x36 rd.toNat ra.toNat imm.toNat) nibCsub) := by
  have hsub : s.subKind t ra imm = (kind, op) := by
    rw [State.subKind, ofInt_signed_eq_signExtend, hkind, hop]
    rfl
  simp only [List.mem_cons, Prod.mk.injEq, List.not_mem_nil, or_false] at hi
  obtain ⟨rfl, hc⟩ | ⟨rfl, hc⟩ | ⟨rfl, hc⟩ := hi
  · change execCsubCopy t rd ra imm s = _
    rw [execCsubCopy, hsub, if_pos (by simpa using hc.symm)]
  · change execCsubEspOut t rd ra imm s = _
    rw [execCsubEspOut, hsub, if_pos (by simpa using hc.symm)]
  · change execCsubEspIn t rd ra imm s = _
    rw [execCsubEspIn, hsub, if_pos (by simpa using hc.symm)]

end

/-! ### The obligation, part by part -/

section
variable {s : State} {t : Th} {rd ra rb : Reg} {f : Frame} {n : Nat}

theorem State.started_frame (hf : (s.thr t).frame = some f) :
    (((s.started t).nib t.unit.val).th t.slot.val).frame = some f := by
  rw [State.started_nib_th]
  exact hf

theorem State.started_lockOf (hl : (s.nib t.unit.val).lockOf f.arrival = some n) :
    ((s.started t).nib t.unit.val).lockOf f.arrival = some n := by rw [State.started_nib, Nib.setTh_lockOf, hl]

theorem State.started_lock : ((s.started t).nib t.unit.val).lock n = (s.nib t.unit.val).lock n := by
  rw [State.started_nib, Nib.setTh_lock]

section
variable (hf : (s.thr t).frame = some f) (hl : (s.nib t.unit.val).lockOf f.arrival = some n)
include hf hl

theorem State.heldLock_started {b : Bool} (hb : decide (((s.nib t.unit.val).lock n).queue.head? = some f.arrival) = b) :
    ((s.started t).nib t.unit.val).heldLock t.slot.val = some (n, b) := by
  rw [Nib.heldLock_eq (State.started_frame hf), State.started_lockOf hl, Option.map_some, State.started_lock, hb]

/-- A frame that leaves its queue: what LREL does (R238, R239). -/
theorem State.lrel_leaves (h : s.issues t (encR 0x35 rd.toNat ra.toNat rb.toNat 2) = true) :
    ∃ r, exec (.lrel t rd ra rb) s = .next r
      ∧ (r.nib t.unit.val).lock n = ((s.nib t.unit.val).lock n).left f.arrival (s.thr t).holds false
      ∧ r.thr t = { s.thr t with holds := false, poisoned := false, wantLock := false, skip := false }.next
      ∧ (∀ a rest j, ((s.nib t.unit.val).lock n).queue.erase f.arrival = a :: rest → a ≠ f.arrival →
          (s.nib t.unit.val).holder a = some j → (s.th t.unit.val j).st = .waitLock → (s.th t.unit.val j).halted = none →
          j ≠ t.slot.val → (r.th t.unit.val j).holds = true ∧ (r.th t.unit.val j).st = .running)
      ∧ { r with nibs := s.nibs } = s := by
  have hr := State.running_of_issues h
  have hf' := State.started_frame hf
  have hl' := State.started_lockOf (t := t) hl
  have hself : (((s.started t).nib t.unit.val).leave t.slot.val false).th t.slot.val
      = { s.thr t with skip := false }.unlocked := by
    rw [Nib.th_leave_self hf' hl' (by rw [State.started_nib_th]; exact fun hw => absurd (hr.symm.trans hw) (by decide)),
      State.started_nib_th]
  refine ⟨_, congrArg Host.Outcome.next (State.issue_lrel h), ?_, ?_, fun a rest j hq ha hh hst hhalt hji => ?_,
    State.nibNext_nibs _⟩
  · rw [State.nib_nibNext, Nib.setTh_lock, Nib.leave_lock_self hf' hl', State.started_lock, State.started_nib_th]
  · rw [State.thr, State.th, State.nib_nibNext, Nib.th_setTh_self, hself]
    rfl
  · have hthj : ((s.started t).nib t.unit.val).th j = s.th t.unit.val j := by
      rw [State.started_nib, Nib.th_setTh_of_ne _ _ hji, State.th]
    have hframe : ∀ y : Thread, y.frame = some f → ∀ g, y.frame = some g → g.arrival ≠ a := fun y hy g hg => by
      rw [hy] at hg
      cases hg
      exact Ne.symm ha
    have hholder : ((s.started t).nib t.unit.val).holder a = some j := by
      rw [State.started_nib, Nib.holder_setTh (Thread.ne_default_of_running (x := { s.thr t with skip := false }) hr)
        (hframe _ hf) (hframe _ hf), hh]
    rw [State.th, State.nib_nibNext, Nib.th_setTh_of_ne _ _ hji]
    exact Nib.leave_grants hf' hl' (by rw [State.started_lock]; exact hq) ha hholder (by rw [hthj]; exact hst)
      (by rw [hthj]; exact hhalt) hji

/-- A frame that moves to another queue: what LMOV does (R238). -/
theorem State.lmov_moves {m : Nat} (h : s.issues t (encR 0x35 rd.toNat ra.toNat rb.toNat 3) = true)
    (hm : m = (s.rv t ra).toNat % 4096) :
    ∃ r, exec (.lmov t rd ra rb) s = .next r
      ∧ ((r.nib t.unit.val).lock m).queue =
          (if m = n then ((s.nib t.unit.val).lock n).queue.erase f.arrival
            else ((s.nib t.unit.val).lock m).queue) ++ [f.arrival]
      ∧ (m ≠ n → ((r.nib t.unit.val).lock n).queue = ((s.nib t.unit.val).lock n).queue.erase f.arrival)
      ∧ r.thr t = { s.thr t with holds := false, poisoned := false, wantLock := false, skip := false }.next
      ∧ { r with nibs := s.nibs } = s := by
  have hr := State.running_of_issues h
  have hf' := State.started_frame hf
  have hl' := State.started_lockOf (t := t) hl
  have hself : (((s.started t).nib t.unit.val).leave t.slot.val false).th t.slot.val
      = { s.thr t with skip := false }.unlocked := by
    rw [Nib.th_leave_self hf' hl' (by rw [State.started_nib_th]; exact fun hw => absurd (hr.symm.trans hw) (by decide)),
      State.started_nib_th]
  have hleft : ((((s.started t).nib t.unit.val).leave t.slot.val false).lock n).queue
      = ((s.nib t.unit.val).lock n).queue.erase f.arrival := by
    rw [Nib.leave_lock_self hf' hl', State.started_lock]
    rfl
  refine ⟨_, congrArg Host.Outcome.next (State.issue_lmov h hf (State.heldLock_started hf hl rfl) hm), ?_, fun hne => ?_, ?_,
    State.nibNext_nibs _⟩
  · rw [State.nib_nibNext, Nib.setTh_lock, Nib.joined, Nib.setLock_lock_self]
    by_cases hmn : m = n
    · subst hmn
      rw [if_pos rfl, hleft]
    · rw [if_neg hmn, Nib.leave_lock_of_ne hf' hl' hmn, State.started_lock]
  · rw [State.nib_nibNext, Nib.setTh_lock, Nib.joined, Nib.setLock_lock_of_ne _ _ (Ne.symm hne), hleft]
  · rw [State.thr, State.th, State.nib_nibNext, Nib.th_setTh_self, Nib.joined, Nib.setLock_th, hself]
    rfl

end

/-- Without a queue LREL does nothing but go on (R238). -/
theorem State.lrel_ignored (h : s.issues t (encR 0x35 rd.toNat ra.toNat rb.toNat 2) = true)
    (hn : (s.nib t.unit.val).heldLock t.slot.val = none) :
    s.issue t (encR 0x35 rd.toNat ra.toNat rb.toNat 2) nibLrel = s.putThr t (s.thr t).next := by
  have hr := State.running_of_issues h
  have hleave : ((s.started t).nib t.unit.val).leave t.slot.val false = (s.started t).nib t.unit.val := by
    replace hn := State.heldLock_none hn
    cases hf : (((s.started t).nib t.unit.val).th t.slot.val).frame with
    | none => exact Nib.leave_of_frame_none hf
    | some f =>
      rw [Nib.heldLock_eq hf, Option.map_eq_none_iff] at hn
      exact Nib.leave_of_lockOf_none hf hn
  rw [State.issue_lrel h, hleave, ← State.started_nibNext hr, State.started_nib]
  rfl

end

/-- Settles O33, by the message staged, by the place of the frame in its lock queue, and by the address of the record. -/
theorem nibChannelsLocksAndSubmissions : Obligations.NibChannelsLocksAndSubmissions := by
  refine ⟨fun s t rd ra rb c h hc => ⟨fun hs => congrArg Host.Outcome.next (State.issue_chw_first h hc hs),
    fun d ws hs hd hlt => ?_,
      fun d ws hs hb => congrArg Host.Outcome.next (State.issue_chw_bad h hc hs hb)⟩,
    fun s t rd ra rb h => ⟨fun hs => congrArg Host.Outcome.next (State.issue_chc_none h hs),
      fun c ws hs hq => congrArg Host.Outcome.next (State.issue_chc_full h hs hq), fun c ws hs hq => ?_⟩,
    fun s t rd ra rb c h hc => ⟨fun hb => congrArg Host.Outcome.next (State.issue_chr_bad h hb),
      fun hlo hhi hq => congrArg Host.Outcome.next (State.issue_chr_empty h hlo hhi hc hq), fun m rest hlo hhi hq => ?_⟩,
    fun s t rd ra rb => ⟨fun h => congrArg Host.Outcome.next (State.issue_chwatch h),
      fun h => congrArg Host.Outcome.next (State.issue_chx h)⟩,
    fun s t rd ra rb f n hf hl => ⟨fun i hi hhead => ?_, fun h hne => ?_, fun h hne => ?_, fun h => ?_,
      fun m h hm => State.lmov_moves hf hl h hm⟩,
    fun s t rd ra rb hn => ⟨fun i hi => ?_, fun h => congrArg Host.Outcome.next (State.lrel_ignored h hn)⟩,
    fun s t rd ra imm i a kind op h ha hkind hop hi => ?_⟩
  · subst hd
    exact congrArg Host.Outcome.next (State.issue_chw_more h hc hs hlt)
  · obtain ⟨x, hx, hchans, hth⟩ := State.issue_chc_commits h hs hq
    refine ⟨_, congrArg Host.Outcome.next hx, ?_, fun d hd => ?_, ?_, rfl⟩
    · rw [State.nib_setNib_self, hchans, mget_mset_same]
    · rw [State.nib_setNib_self, hchans, mget_mset_of_ne hd]
    · rw [State.thr, State.th, State.nib_setNib_self, hth]
  · obtain ⟨x, hx, hchans, hth⟩ := State.issue_chr_message h hlo hhi hc hq
    refine ⟨_, congrArg Host.Outcome.next hx, ?_, fun d hd => ?_, ?_, fun y hy => ?_, ?_, rfl⟩
    · rw [State.nib_setNib_self, hchans, mget_mset_same]
    · rw [State.nib_setNib_self, hchans, mget_mset_of_ne hd]
    · rw [State.thr, State.th, State.nib_setNib_self, hth]
      change Thread.reg (Thread.setRegs _ _ _ _) _ = _
      rw [Thread.reg_setRegs (by omega), if_neg (by omega), Thread.reg_setReg (by omega), if_pos rfl]
    · rw [State.thr, State.th, State.nib_setNib_self, hth]
      change Thread.reg (Thread.setRegs _ _ _ _) _ = _
      rw [Thread.reg_setRegs (by omega), Thread.reg_setReg (by omega), if_neg hy, Nat.sub_sub]
      exact if_congr (by omega) rfl rfl
    · rw [State.thr, State.th, State.nib_setNib_self, hth, Thread.next]
      change (Thread.pc (Thread.setRegs _ _ _ _) + 4) % 4294967296 = _
      rw [Thread.setRegs_pc, Thread.setReg_pc]
      exact State.next_pc_of_issues h
  · have hh := State.heldLock_started hf hl (decide_eq_true hhead)
    simp only [List.mem_cons, Prod.mk.injEq, List.not_mem_nil, or_false] at hi
    obtain ⟨rfl, h⟩ | ⟨rfl, h⟩ := hi
    · exact congrArg Host.Outcome.next (State.issue_lock_head (by decide) h.symm fun c => nibLacq_head rfl hh)
    · exact congrArg Host.Outcome.next (State.issue_lock_head (by decide) h.symm fun c => nibLtry_head rfl hh)
  · exact congrArg Host.Outcome.next (State.issue_lacq_waits (State.heldLock_started hf hl (decide_eq_false hne)) h)
  · exact congrArg Host.Outcome.next (State.issue_ltry_fails (State.heldLock_started hf hl (decide_eq_false hne)) h)
  · obtain ⟨r, he, hlock, hth, hgrant, hrest⟩ := State.lrel_leaves hf hl h
    refine ⟨r, he, ?_, fun hh => ?_, fun hh => ?_, hth, hgrant, hrest⟩
    · rw [hlock]
      rfl
    · rw [hlock, hh]
      rfl
    · rw [hlock, hh]
      rfl
  · have hh := State.heldLock_none hn
    simp only [List.mem_cons, Prod.mk.injEq, List.not_mem_nil, or_false] at hi
    obtain ⟨rfl, h⟩ | ⟨rfl, h⟩ | ⟨rfl, h⟩ := hi
    · exact congrArg Host.Outcome.next (State.issue_lock_none (by decide) h.symm fun c => nibLacq_none rfl hh)
    · exact congrArg Host.Outcome.next (State.issue_lock_none (by decide) h.symm fun c => nibLtry_none rfl hh)
    · exact congrArg Host.Outcome.next (State.issue_lock_none (by decide) h.symm fun c => nibLmov_none rfl hh)
  · obtain rfl : a = (s.ea t ra imm).toNat := ha
    obtain ⟨c, hdo, hea⟩ := State.issue_csub h
    have hr := State.running_of_issues h
    have haddr : (s.ea t ra imm).toNat % 64 = 0 → (s.ea t ra imm).toNat < 0x1000 →
        nibAddr ((s.started t).nibEa t.unit.val t.slot.val c) 64 = .ok (s.ea t ra imm).toNat := fun hm h1 => by
      rw [hea]
      exact nibAddr_ok hm (by omega)
    rw [exec_csub hkind hop hi, hdo]
    simp only [Host.Outcome.next.injEq]
    refine ⟨fun hm => ?_, fun hm h1 => ?_, fun hm h1 hn => ?_, fun hm h1 hn hk => ?_, fun hm h1 hn hk1 hk2 => ?_⟩
    · exact State.nibDo_error (nibCsub_bad (by rw [hea]; exact nibAddr_misaligned hm))
    · by_cases hlt : (s.ea t ra imm).toNat < 4294967296
      · exact State.nibDo_error (nibCsub_outside (by rw [hea]; exact nibAddr_ok hm hlt) h1)
      · exact State.nibDo_error (nibCsub_bad (by rw [hea]; exact nibAddr_high hm (by omega)))
    · rw [State.nibDo_ok (nibCsub_stalls (haddr hm h1) State.started_th h1 hn), State.started_setTh hr]
      rfl
    · rw [State.nibDo_ok (nibCsub_taken (haddr hm h1) State.started_th h1 hn hkind.symm hk), State.started_setTh hr]
      rfl
    · rw [State.nibDo_ok (nibCsub_malformed (haddr hm h1) State.started_th h1 hn (hkind ▸ hk1) (hkind ▸ hk2)),
        State.started_setTh hr]
      rfl

end Sys2Proof.Machine
end

section
/-! SUPPORT. PEND, PLEN and TQ of a nib thread (09 R223, R231). -/

namespace Sys2Proof.Machine
open Sys2Proof

/-! ### What a frame on its way leaves of the units -/

theorem State.th_of_nibs {s r : State} (h : r.nibs = s.nibs) (u i : Nat) : r.th u i = s.th u i := by
  rw [State.th, State.nib, h]
  rfl

theorem State.nibs_of_besideQueues {s r : State} (h : r.besideQueues = s.besideQueues) : r.nibs = s.nibs :=
  (congrArg State.nibs h :)

section
variable (s : State) (h : Half)

@[simp] theorem State.countNib_nibs (u c n : Nat) : (s.countNib u c n).nibs = s.nibs := rfl

theorem State.addFlight_nibs (f : Frame) : (s.addFlight h f).nibs = s.nibs := by
  cases h <;> rfl

theorem State.lostSend_nibs (f : Frame) :
    (s.lostSend f).nibs = s.nibs := State.nibs_of_besideQueues (s.lostSend_besideQueues f)

theorem State.endSend_nibs (f : Frame) (st a b : Nat) (c : Bool) : (s.endSend f st a b c).nibs = s.nibs :=
  State.nibs_of_besideQueues (s.endSend_besideQueues f st a b c)

variable {s h} in
theorem State.isolate_nibs {f : Frame} {r : State} (hr : s.isolate h f = some r) : r.nibs = s.nibs := by
  simp only [State.isolate] at hr
  split at hr
  · split at hr
    · cases hr
      rw [State.endSend_nibs, State.countSlice_nibs]
    · split at hr
      · cases hr
        rw [State.endSend_nibs]
        rfl
      · cases hr
  · split at hr
    · cases hr
      exact s.countSlice_nibs h _ _ _
    · split at hr
      · cases hr
        rw [State.countSlice_nibs]
        rfl
      · cases hr

theorem State.mirror_nibs (k : Nat) (f : Frame) : (s.mirror h k f).nibs = s.nibs := by
  simp only [State.mirror]
  split
  · exact s.addFlight_nibs h _
  · split
    · exact s.addFlight_nibs _ _
    · rfl

theorem State.pendForward_nibs (u : Nat) (f : Frame) : (s.pendForward u f).nibs = s.nibs := by
  simp only [State.pendForward]
  split
  · rfl
  · split
    · next r hr => exact State.isolate_nibs hr
    · rw [State.addFlight_nibs]
      split
      · rw [State.mirror_nibs]
        rfl
      · rfl

/-- Whether a frame passes is the same whatever the units hold. -/
theorem State.isolate_setNib_isNone (u : Nat) (x : Nib) (f : Frame) :
    ((s.setNib u x).isolate h f).isNone = (s.isolate h f).isNone := by
  simp only [State.isolate, apply_ite Option.isNone, Option.isNone_some, Option.isNone_none]
  rfl

@[simp] theorem Nib.admitFrame_th (x : Nib) (c i : Nat) (f : Frame) : (x.admitFrame c f).th i = x.th i := by
  simp only [Nib.admitFrame]
  split <;> rfl

/-- A frame that arrives at a unit waits there: no thread changes. -/
theorem State.nibArrive_th (v c : Nat) (f : Frame) (u i : Nat) : (s.nibArrive v c f).th u i = s.th u i := by
  simp only [State.nibArrive]
  split
  · rw [State.th, State.nib_setNib]
    split
    · next huv =>
      subst huv
      exact Nib.admitFrame_th _ _ _ _
    · rfl
  · exact State.th_of_nibs (State.lostSend_nibs _ _) u i

theorem State.excToken_nibs : (s.excToken h).1.nibs = s.nibs := by
  simp only [State.excToken]
  exact s.onHalf_nibs h _

theorem State.toException_th (f : Frame) (r d u i : Nat) : (s.toException h f r d).th u i = s.th u i := by
  have hnibs : ((s.lostSend f).excToken h).1.nibs = s.nibs := (State.excToken_nibs _ h).trans (s.lostSend_nibs f)
  simp only [State.toException]
  split
  · exact State.th_of_nibs hnibs u i
  · split
    · exact State.th_of_nibs hnibs u i
    · rw [State.nibArrive_th]
      exact State.th_of_nibs hnibs u i

/-! ### Counters -/

/-- A counter with another number in its object. -/
theorem State.cnt_count_of_ne {c d : Nat} (hc : c < 256) (hd : d < 256) (hne : d ≠ c) (i j n : Nat) :
    (s.count i c n).cnt j d = s.cnt j d := by
  rw [State.cnt_count, if_neg (by omega), Nat.add_zero]

theorem State.cnt_countNib_self (u c n : Nat) : (s.countNib u c n).cnt (0x6400 + u) c = s.cnt (0x6400 + u) c + n := by
  rw [State.countNib, State.cnt_count, if_pos rfl]

theorem State.nibArrive_cnt_of_ne {d : Nat} (hd : d < 256) (hne : d ≠ 3) (v c : Nat) (f : Frame) (j : Nat) :
    (s.nibArrive v c f).cnt j d = s.cnt j d := by
  simp only [State.nibArrive]
  split
  · rfl
  · rw [State.cnt_of_besideQueues (State.lostSend_besideQueues _ f), State.countNib,
      State.cnt_count_of_ne _ (by decide) hd hne]

/-- The exception pool counts a frame in counters 1, 3 and 0x15 alone. -/
theorem State.toException_cnt_of_ne {d : Nat} (hd : d < 256) (h1 : d ≠ 1) (h3 : d ≠ 3) (h15 : d ≠ 0x15)
    (f : Frame) (r e j : Nat) :
    (s.toException h f r e).cnt j d = s.cnt j d := by
  have htoken : ((s.lostSend f).excToken h).1.cnt j d = s.cnt j d :=
    (State.onHalf_cnt _ _ _ _ _).trans (State.cnt_of_besideQueues (s.lostSend_besideQueues f) _ _)
  simp only [State.toException]
  split
  · rw [State.countCls, State.countH, State.cnt_count_of_ne _ (by decide) hd h15, htoken]
  · split
    · rw [State.countH, State.cnt_count_of_ne _ (by decide) hd h1, htoken]
    · rw [State.nibArrive_cnt_of_ne _ hd h3, htoken]

end

/-! ### The held frame ends (R223, R238) -/

section
variable {s : State} {t : Th} {rd ra rb : Reg} {f : Frame}

/-- The device once the held frame of a thread has left it. -/
def State.frameEnded (s : State) (t : Th) : State :=
  s.setNib t.unit.val ((((s.started t).nib t.unit.val).leave t.slot.val false).setTh t.slot.val
    { ((((s.started t).nib t.unit.val).leave t.slot.val false).th t.slot.val).next with frame := none, frameExc := false })

theorem State.frameEnded_cnt (i c : Nat) : (s.frameEnded t).cnt i c = s.cnt i c := rfl

theorem State.frameEnded_half (h : Half) : (s.frameEnded t).half h = s.half h := State.setNib_half _ _ _ _

/-- Leaving a queue keeps the registers and the address of the thread. -/
theorem Nib.leave_keeps {x : Nib} {i : Nat} {p : Bool} (hst : (x.th i).st ≠ .waitLock) :
    ((x.leave i p).th i).pc = (x.th i).pc ∧ ((x.leave i p).th i).regs = (x.th i).regs := by
  cases hf : (x.th i).frame with
  | none =>
    rw [Nib.leave_of_frame_none hf]
    exact ⟨rfl, rfl⟩
  | some f =>
    cases hl : x.lockOf f.arrival with
    | none =>
      rw [Nib.leave_of_lockOf_none hf hl]
      exact ⟨rfl, rfl⟩
    | some n =>
      rw [Nib.th_leave_self hf hl hst]
      exact ⟨rfl, rfl⟩

/-- The thread after PEND: without a frame, at its next instruction, with its registers. -/
def Thread.pendedFrom (x y : Thread) : Prop := x.frame = none ∧ x.pc = y.pc + 4 ∧ x.st = .running ∧ x.regs = y.regs

theorem State.frameEnded_thr {w : BitVec 32} (h : s.issues t w = true) : ((s.frameEnded t).thr t).pendedFrom (s.thr t) := by
  have hr := State.running_of_issues h
  obtain ⟨hpc, hregs⟩ := Nib.leave_keeps (x := (s.started t).nib t.unit.val) (i := t.slot.val) (p := false)
    (by rw [State.started_nib_th]; exact fun hw => absurd (hr.symm.trans hw) (by decide))
  rw [State.started_nib_th] at hpc hregs
  rw [State.thr, State.th, State.frameEnded, State.nib_setNib_self, Nib.th_setTh_self]
  refine ⟨rfl, ?_, rfl, hregs⟩
  change (Thread.pc _ + 4) % 4294967296 = _
  rw [hpc]
  exact State.next_pc_of_issues h

end

section
variable {s : State} {u i : Nat} {w : BitVec 32} {x : Nib} {f : Frame} {v : Nat}

theorem nibPend_none (hx : s.nib u = x) (hf : (x.th i).frame = none) : nibPend s u i w = .error 4 := by
  subst hx
  unfold nibPend State.th
  simp only [hf]

variable (hx : s.nib u = x) (hf : (x.th i).frame = some f) (hv : (s.nibRa u i w).toNat = v)
include hx hf hv

/-- PEND by its verdict: forward, exception, and every other a drop (R223). -/
theorem nibPend_forward (h0 : v % 256 = 0) : nibPend s u i w = .ok ((s.setNib u ((x.leave i false).setTh i
    { ((x.leave i false).th i).next with frame := none, frameExc := false })).pendForward u f) := by
  subst hx hv
  unfold nibPend State.th
  simp only [hf, if_pos h0]

theorem nibPend_exception (h2 : v % 256 = 2) (hreason : 0x20 ≤ v / 256 % 256) :
    nibPend s u i w = .ok ((s.setNib u ((x.leave i false).setTh i
      { ((x.leave i false).th i).next with frame := none, frameExc := false })).pendException u f (x.th i).frameExc v) := by
  subst hx hv
  unfold nibPend State.th
  have h0 : ¬ (s.nibRa u i w).toNat % 256 = 0 := by omega
  simp only [hf, if_neg h0, if_pos (And.intro h2 hreason)]

theorem nibPend_drop (h0 : v % 256 ≠ 0) (h2 : v % 256 ≠ 2) : nibPend s u i w = .ok (((s.setNib u ((x.leave i false).setTh i
    { ((x.leave i false).th i).next with frame := none, frameExc := false })).countNib u 5 1).lostSend f) := by
  subst hx hv
  unfold nibPend State.th
  simp only [hf, if_neg h0, if_neg fun h : _ ∧ _ => h2 h.1]

end

theorem usedBits_pend (rd ra rb : Reg) :
    usedBits (encR 0x31 rd.toNat ra.toNat rb.toNat 0) = some (mOp ||| mRa ||| mFunc) := by
  simp only [usedBits, fOp_encR (show 0x31 < 64 by decide) (show 0 < 2048 by decide),
    fFunc_encR (show 0x31 < 64 by decide) (show 0 < 2048 by decide)]
  rfl

theorem usedBits_plen (rd ra rb : Reg) :
    usedBits (encR 0x31 rd.toNat ra.toNat rb.toNat 1) = some (mOp ||| mRd ||| mFunc) := by
  simp only [usedBits, fOp_encR (show 0x31 < 64 by decide) (show 1 < 2048 by decide),
    fFunc_encR (show 0x31 < 64 by decide) (show 1 < 2048 by decide)]
  rfl

section
variable {s : State} {t : Th} {rd ra rb : Reg} {f : Frame}

section
variable (h : s.issues t (encR 0x31 rd.toNat ra.toNat rb.toNat 0) = true)
include h

theorem State.issue_pend_none (hf : (s.thr t).frame = none) :
    s.issue t (encR 0x31 rd.toNat ra.toNat rb.toNat 0) nibPend = s.faulted t 4 := by
  obtain ⟨c, hdo, -⟩ := State.issue_encR (by decide) (by decide) h (usedBits_pend rd ra rb) nibPend
  rw [hdo]
  exact State.nibDo_error (nibPend_none rfl (by rw [State.started_nib_th]; exact hf))

variable (hf : (s.thr t).frame = some f)
include hf

theorem State.issue_pend_forward (h0 : (s.rv t ra).toNat % 256 = 0) :
    s.issue t (encR 0x31 rd.toNat ra.toNat rb.toNat 0) nibPend = (s.frameEnded t).pendForward t.unit.val f := by
  obtain ⟨c, hdo, -, hra, -⟩ := State.issue_encR (by decide) (by decide) h (usedBits_pend rd ra rb) nibPend
  have hv : ((s.started t).nibRa t.unit.val t.slot.val c).toNat = (s.rv t ra).toNat := by
    rw [State.started_nibRa, hra (by decide), State.rv]
  rw [hdo, State.nibDo_ok (nibPend_forward rfl (State.started_frame hf) hv h0),
    State.started_setNib (State.running_of_issues h),
    State.frameEnded]

theorem State.issue_pend_exception (h2 : (s.rv t ra).toNat % 256 = 2) (hreason : 0x20 ≤ (s.rv t ra).toNat / 256 % 256) :
    s.issue t (encR 0x31 rd.toNat ra.toNat rb.toNat 0) nibPend
      = (s.frameEnded t).pendException t.unit.val f (s.thr t).frameExc (s.rv t ra).toNat := by
  obtain ⟨c, hdo, -, hra, -⟩ := State.issue_encR (by decide) (by decide) h (usedBits_pend rd ra rb) nibPend
  have hv : ((s.started t).nibRa t.unit.val t.slot.val c).toNat = (s.rv t ra).toNat := by
    rw [State.started_nibRa, hra (by decide), State.rv]
  rw [hdo, State.nibDo_ok (nibPend_exception rfl (State.started_frame hf) hv h2 hreason),
    State.started_setNib (State.running_of_issues h), State.started_nib_th, State.frameEnded]

theorem State.issue_pend_drop (h0 : (s.rv t ra).toNat % 256 ≠ 0) (h2 : (s.rv t ra).toNat % 256 ≠ 2) :
    s.issue t (encR 0x31 rd.toNat ra.toNat rb.toNat 0) nibPend = ((s.frameEnded t).countNib t.unit.val 5 1).lostSend f := by
  obtain ⟨c, hdo, -, hra, -⟩ := State.issue_encR (by decide) (by decide) h (usedBits_pend rd ra rb) nibPend
  have hv : ((s.started t).nibRa t.unit.val t.slot.val c).toNat = (s.rv t ra).toNat := by
    rw [State.started_nibRa, hra (by decide), State.rv]
  rw [hdo, State.nibDo_ok (nibPend_drop rfl (State.started_frame hf) hv h0 h2),
    State.started_setNib (State.running_of_issues h),
    State.frameEnded]

end

/-! ### PLEN -/

section
variable (h : s.issues t (encR 0x31 rd.toNat ra.toNat rb.toNat 1) = true)
include h

theorem State.issue_plen_none (hf : (s.thr t).frame = none) :
    s.issue t (encR 0x31 rd.toNat ra.toNat rb.toNat 1) nibPlen = s.faulted t 4 := by
  obtain ⟨c, hdo, -⟩ := State.issue_encR (by decide) (by decide) h (usedBits_plen rd ra rb) nibPlen
  rw [hdo]
  refine State.nibDo_error ?_
  simp only [nibPlen, State.started_th, hf]

theorem State.issue_plen (hf : (s.thr t).frame = some f) :
    s.issue t (encR 0x31 rd.toNat ra.toNat rb.toNat 1) nibPlen = s.wrote t rd (BitVec.ofNat 64 f.bytes.length) := by
  obtain ⟨c, hdo, hrd, -⟩ := State.issue_encR (by decide) (by decide) h (usedBits_plen rd ra rb) nibPlen
  rw [hdo]
  refine State.nibDo_ok ?_
  simp only [nibPlen, State.started_th, hf, State.started_nibRd (State.running_of_issues h) (hrd (by decide))]

end

/-! ### The verdicts (R223) -/

/-- A frame that is not forwarded to a slice with a queue is dropped. -/
theorem State.pendForward_dropped {r : State} {u : Nat} (hdir : f.dir = false) (hc : mdChosen f.pendWord = false) :
    r.pendForward u f = r.countNib u 5 1 := if_pos ⟨hdir, hc⟩

/-- A frame that passes its checks, and needs no further mirror, goes on. -/
theorem State.pendForward_passes {r : State} {u : Nat} {g : Frame} (hg : g = { f with md := f.pendWord, exc := false })
    (hd : g.dir = true ∨ mdChosen g.md = true) (hi : r.isolate (nibHalf u) g = none)
    (hm : mdMirror g.md = 0 ∨ mdMirror g.md = mdMirror f.mdIn) : r.pendForward u f
      = (r.countNib u 4 1).addFlight (nibHalf u) { g with stage := if g.dir then .espTx else .tmgr } := by
  subst hg
  have hdrop : ¬ (f.dir = false ∧ mdChosen f.pendWord = false) := fun ⟨h1, h2⟩ => by
    rcases hd with hd | hd
    · exact absurd (h1.symm.trans hd) (by decide)
    · exact absurd (h2.symm.trans hd) (by decide)
  have hmirror : ¬ (mdMirror f.pendWord ≠ 0 ∧ mdMirror f.pendWord ≠ mdMirror f.mdIn) := fun ⟨h1, h2⟩ => hm.elim h1 h2
  simp only [State.pendForward, if_neg hdrop, hi, if_neg hmirror]

end

/-! ### TQ (R231) -/

theorem usedBits_tq (rd ra : Reg) (imm : BitVec 16) :
    usedBits (encI 0x32 rd.toNat ra.toNat imm.toNat) = some (mOp ||| mRa ||| mImm) := by
  simp only [usedBits, fOp_encI (show 0x32 < 64 by decide)]
  rfl

theorem tqRun_le (k : Nat) : tqRun k ≤ 5 := by
  unfold tqRun
  split_ifs <;> decide

theorem runOk_eq_false_iff {r n : Nat} : runOk r n = false ↔ r = 0 ∨ 32 < r + n := by
  rw [← Bool.not_eq_true, runOk_iff]
  omega

/-- The key by its table, of the values `g` of the registers it takes (R231). -/
theorem Thread.tqKey_eq {x : Thread} {k r key : Nat} {g : Nat → Nat} (hg : g = fun i => (x.reg (r + i)).toNat)
    (h14 : (k = 1 ∨ k = 4) → key = g 0 * 2 ^ 256 + g 1 * 2 ^ 192 + g 2 * 2 ^ 128 + g 3 * 2 ^ 64 + g 4)
    (h2 : k = 2 → key = g 0 % 2 ^ 16 * 2 ^ 128 + g 1 % 2 ^ 32)
      (h3 : k = 3 → key = g 0 % 2 ^ 16 * 2 ^ 128 + g 1 * 2 ^ 64 + g 2)
    (h5 : k = 0 ∨ 5 ≤ k → key = g 0 % 2 ^ 16) : x.tqKey k r = key := by
  have h16 : (65536 : Nat) = 2 ^ 16 := rfl
  subst hg
  simp only [Thread.tqKey, h16]
  by_cases hk14 : k = 1 ∨ k = 4
  · rw [if_pos hk14, h14 hk14]
  · by_cases hk2 : k = 2
    · rw [if_neg hk14, if_pos hk2, h2 hk2]
    · by_cases hk3 : k = 3
      · rw [if_neg hk14, if_neg hk2, if_pos hk3, h3 hk3]
      · rw [if_neg hk14, if_neg hk2, if_neg hk3, h5 (by omega)]

section
variable {s : State} {u i k r : Nat} {w : BitVec 32} {x : Thread} (hk : fImm w % 16 = k) (hr : fRa w = r)
include hk hr

theorem nibTq_bad (h0 : tqRun k ≠ 0) (hb : r = 0 ∨ 32 < r + tqRun k) : nibTq s u i w = .error 7 := by
  subst hk hr
  exact if_pos ⟨h0, runOk_eq_false_iff.mpr hb⟩

variable (hx : s.th u i = x) (hlo : 1 ≤ r) (hhi : r ≤ 27)
include hx hlo hhi

omit hk in
theorem nibTq_stalls (hb : x.lookup.isSome = true ∨ x.result.isSome = true) :
    nibTq s u i w = .ok (s.setTh u i { x with st := .stallTq }) := by
  subst hr hx
  have hrun : ¬ (tqRun (fImm w % 16) ≠ 0 ∧ runOk (fRa w) (tqRun (fImm w % 16)) = false) := fun ⟨_, hf⟩ => by
    have := tqRun_le (fImm w % 16)
    have := runOk_eq_false_iff.mp hf
    omega
  simp only [nibTq, if_neg hrun, if_pos hb]

theorem nibTq_asks (hl : x.lookup = none) (hres : x.result = none) :
    nibTq s u i w = .ok (s.setTh u i { x.next with lookup := some (k, x.tqKey k r) }) := by
  subst hk hr hx
  have hrun : ¬ (tqRun (fImm w % 16) ≠ 0 ∧ runOk (fRa w) (tqRun (fImm w % 16)) = false) := fun ⟨_, hf⟩ => by
    have := tqRun_le (fImm w % 16)
    have := runOk_eq_false_iff.mp hf
    omega
  have hfree : ¬ ((s.th u i).lookup.isSome = true ∨ (s.th u i).result.isSome = true) := by simp [hl, hres]
  simp only [nibTq, if_neg hrun, if_neg hfree]

end

theorem State.issue_tq {s : State} {t : Th} {rd ra : Reg} {imm : BitVec 16}
    (h : s.issues t (encI 0x32 rd.toNat ra.toNat imm.toNat) = true) :
    ∃ c, s.issue t (encI 0x32 rd.toNat ra.toNat imm.toNat) nibTq = s.nibDo t.unit.val t.slot.val nibTq c
      ∧ fImm c = imm.toNat ∧ fRa c = ra.toNat := by
  obtain ⟨c, hc, hdo⟩ := State.issue_word h (usedBits_tq rd ra imm) nibTq
  exact ⟨c, hdo, (fld_eq_of_and_eq hc (by decide)).trans (fImm_encI (by decide) rd ra imm),
    (fld_eq_of_and_eq hc (by decide)).trans (fRa_encI (by decide) rd ra imm)⟩

/-! ### The obligation, part by part -/

section
variable {s : State} {t : Th} {rd ra rb : Reg} {f : Frame}

/-- A frame sent to the exception pool, once and again (R223). -/
theorem State.pendException_first {r : State} {u v : Nat} :
    r.pendException u f false v = (r.countNib u 6 1).toException (nibHalf u) f (v / 256 % 256) (v / 65536 % 256) :=
  if_neg (by decide)

theorem State.pendException_again {r : State} {u v : Nat} :
    r.pendException u f true v = (r.countNib u 5 1).lostSend f := if_pos rfl

/-- The PEND instructions are one word, told apart by the verdict. -/
theorem exec_pend {i : Instr} (hi : (i, true) ∈ [(Instr.pendForward t rd ra rb, (s.rv t ra).toNat % 256 == 0),
      (.pendDrop t rd ra rb, (s.rv t ra).toNat % 256 != 0 && (s.rv t ra).toNat % 256 != 2),
      (.pendException t rd ra rb, (s.rv t ra).toNat % 256 == 2)]) :
    exec i s = .next (s.issue t (encR 0x31 rd.toNat ra.toNat rb.toNat 0) nibPend) := by
  have hv : s.verdict t ra = (s.rv t ra).toNat % 256 := rfl
  simp only [List.mem_cons, Prod.mk.injEq, List.not_mem_nil, or_false] at hi
  obtain ⟨rfl, hc⟩ | ⟨rfl, hc⟩ | ⟨rfl, hc⟩ := hi
  · change execPendForward t rd ra rb s = _
    rw [execPendForward, hv, if_pos (by simpa using hc.symm)]
  · change execPendDrop t rd ra rb s = _
    rw [execPendDrop, hv, if_pos (by simpa using hc.symm)]
  · change execPendException t rd ra rb s = _
    rw [execPendException, hv, if_pos (by simpa using hc.symm)]

theorem State.frameEnded_flight (h : Half) : ((s.frameEnded t).half h).cls.flight = (s.half h).cls.flight := by
  rw [State.frameEnded_half]

variable {w : BitVec 32} (h : s.issues t w = true)
include h

theorem State.pendedFrom_of_nibs {r : State} (hn : r.nibs = (s.frameEnded t).nibs) : (r.thr t).pendedFrom (s.thr t) := by
  rw [State.thr, State.th_of_nibs hn]
  exact State.frameEnded_thr h

theorem State.pendForward_thr : (((s.frameEnded t).pendForward t.unit.val f).thr t).pendedFrom (s.thr t) :=
  State.pendedFrom_of_nibs h (State.pendForward_nibs _ _ _)

theorem State.pendDrop_thr : ((((s.frameEnded t).countNib t.unit.val 5 1).lostSend f).thr t).pendedFrom (s.thr t) :=
  State.pendedFrom_of_nibs h ((State.lostSend_nibs _ _).trans (State.countNib_nibs _ _ _ _))

theorem State.pendException_thr {exc : Bool} {v : Nat} :
    (((s.frameEnded t).pendException t.unit.val f exc v).thr t).pendedFrom (s.thr t) := by
  cases exc with
  | true =>
    rw [State.pendException_again]
    exact State.pendDrop_thr h
  | false =>
    rw [State.pendException_first, State.thr, State.toException_th]
    exact State.pendedFrom_of_nibs h (State.countNib_nibs _ _ _ _)

omit h in
theorem State.pendException_flight {exc : Bool} {v : Nat} (g : Half) :
    (((s.frameEnded t).pendException t.unit.val f exc v).half g).cls.flight = (s.half g).cls.flight := by
  cases exc with
  | true =>
    rw [State.pendException_again, State.flight_of_besideQueues (State.lostSend_besideQueues _ f), State.countNib,
      State.count_half,
      State.frameEnded_flight]
  | false =>
    rw [State.pendException_first, State.flight_of_ingress (State.toException_ingress _ _ g _ _ _), State.countNib,
      State.count_half,
      State.frameEnded_flight]

end

/-- Settles O32, by the verdict in ra, and by the table of the lookup. -/
theorem nibPacketsAndLookups : Obligations.NibPacketsAndLookups := by
  refine ⟨fun s t rd ra rb f g h hf hg h0 => ?_, fun s t rd ra rb f h hf => ⟨fun h0 h2 => ?_, fun h2 hreason => ?_⟩,
    fun s t rd ra rb i h hf hi => ?_,
    fun s t rd ra rb h => ⟨fun hf => congrArg Host.Outcome.next (State.issue_plen_none h hf),
      fun f hf => congrArg Host.Outcome.next (State.issue_plen h hf)⟩,
    fun s t rd ra imm k g h hk hg => ?_⟩
  · obtain ⟨hframe, hpc, hst, hregs⟩ := State.pendForward_thr (f := f) h
    refine ⟨_, (exec_pend (by simp [h0])).trans (congrArg Host.Outcome.next (State.issue_pend_forward h hf h0)),
      hframe, hpc, hst, hregs,
      fun hdir hc => ?_, fun hd hi hm => ?_⟩
    · subst hg
      rw [State.pendForward_dropped (f := f) hdir hc, State.cnt_countNib_self, State.frameEnded_cnt]
      exact ⟨rfl, rfl, rfl⟩
    · have hi' : (s.frameEnded t).isolate (nibHalf t.unit.val) g = none := by
        rw [← Option.isNone_iff_eq_none, State.frameEnded, State.isolate_setNib_isNone, hi]
        rfl
      rw [State.pendForward_passes hg hd hi' hm, State.addFlight_cnt, State.cnt_countNib_self, State.frameEnded_cnt,
        State.addFlight_flight, State.countNib,
        State.count_half, State.frameEnded_flight]
      exact ⟨rfl, rfl⟩
  · obtain ⟨hframe, hpc, -, hregs⟩ := State.pendDrop_thr (f := f) h
    refine ⟨_, (exec_pend (by simp [h0, h2])).trans (congrArg Host.Outcome.next (State.issue_pend_drop h hf h0 h2)),
      hframe, hpc, hregs,
      ?_, ?_⟩
    · rw [State.cnt_of_besideQueues (State.lostSend_besideQueues _ f), State.cnt_countNib_self,
        State.frameEnded_cnt]
    · rw [State.flight_of_besideQueues (State.lostSend_besideQueues _ f), State.countNib, State.count_half,
        State.frameEnded_flight]
  · obtain ⟨hframe, hpc, -, hregs⟩ := State.pendException_thr (f := f) (exc := (s.thr t).frameExc) (v := (s.rv t ra).toNat) h
    refine ⟨_, (exec_pend (by simp [h2])).trans (congrArg Host.Outcome.next (State.issue_pend_exception h hf h2 hreason)),
      hframe, hpc,
      hregs, fun hexc => ?_, fun hexc => ?_, State.pendException_flight _⟩
    · rw [hexc, State.pendException_first,
        State.toException_cnt_of_ne _ _ (by decide) (by decide) (by decide) (by decide), State.cnt_countNib_self,
        State.frameEnded_cnt]
    · rw [hexc, State.pendException_again, State.cnt_of_besideQueues (State.lostSend_besideQueues _ f),
        State.cnt_countNib_self,
        State.frameEnded_cnt]
  · rw [exec_pend hi, State.issue_pend_none h hf]
  · obtain ⟨c, hdo, himm, hra⟩ := State.issue_tq h
    have hk' : fImm c % 16 = k := by rw [himm, hk]
    have hr := State.running_of_issues h
    have he : exec (.tq t rd ra imm) s = .next (s.nibDo t.unit.val t.slot.val nibTq c) := congrArg Host.Outcome.next hdo
    have hbad : tqRun k ≠ 0 → ra.toNat = 0 ∨ 32 < ra.toNat + tqRun k → exec (.tq t rd ra imm) s = .next (s.faulted t 7) :=
      fun h0 hb => he.trans (congrArg Host.Outcome.next (State.nibDo_error (nibTq_bad hk' hra h0 hb)))
    refine ⟨fun hk14 hb => ?_, fun hk2 hb => ?_, fun hk3 hb => ?_, fun hlo hhi hb => ?_,
      fun key hl hres hlo hhi h14 h2 h3 h5 => ?_⟩
    · have hrun : tqRun k = 5 := if_pos hk14
      exact hbad (by omega) (by omega)
    · subst hk2
      have hrun : tqRun 2 = 2 := rfl
      exact hbad (by omega) (by omega)
    · subst hk3
      have hrun : tqRun 3 = 3 := rfl
      exact hbad (by omega) (by omega)
    · rw [he, State.nibDo_ok (nibTq_stalls hra State.started_th hlo hhi hb), State.started_setTh hr]
      rfl
    · rw [he, State.nibDo_ok (nibTq_asks hk' hra State.started_th hlo hhi hl hres), State.started_setTh hr,
        Thread.tqKey_eq (x := { s.thr t with skip := false }) hg h14 h2 h3 h5]
      rfl

end Sys2Proof.Machine
end

section
/-! SUPPORT. What reaches a nib thread from outside, and what its unit does at its time (09 R222, R230 to R232, R241,
R247). -/

namespace Sys2Proof.Machine
open Sys2Proof

/-! ### What an event leaves of a thread (R233) -/

/-- A thread without what an event can change: its state, its registers and address, and its pending events. -/
def Thread.besideWait (t : Thread) : Thread := { t with st := .idle, regs := [], pc := 0, pend := 0 }

@[simp] theorem Thread.setReg_besideWait (t : Thread) (r : Nat) (v : Word) : (t.setReg r v).besideWait = t.besideWait := by
  unfold Thread.setReg
  split <;> rfl

theorem Nib.wake_besideWait (x : Nib) (i j : Nat) : ((x.wake i).th j).besideWait = (x.th j).besideWait := by
  by_cases hji : j = i
  · subst hji
    by_cases h : (x.th j).st = .waiting ∧ (x.th j).halted = none ∧ x.events (x.th j) &&& (x.th j).mask ≠ 0
    · obtain ⟨hst, hh, hne⟩ := h
      rw [Nib.th_wake_self hst hh rfl hne]
      exact Thread.setReg_besideWait _ _ _
    · have hid : x.wake j = x := if_neg h
      rw [hid]
  · rw [Nib.th_wake_of_ne hji]

theorem Nib.event_besideWait (x : Nib) (i n : Nat) : ((x.event i n).th i).besideWait = (x.th i).besideWait := by
  rw [Nib.event_eq, Nib.wake_besideWait, Nib.th_setTh_self]
  rfl

section
variable {x y : Thread} (h : x.besideWait = y.besideWait)
include h

theorem Thread.frame_of_besideWait : x.frame = y.frame := (congrArg Thread.frame h :)
theorem Thread.subs_of_besideWait : x.subs = y.subs := (congrArg Thread.subs h :)
theorem Thread.scratch_of_besideWait : x.scratch = y.scratch := (congrArg Thread.scratch h :)
theorem Thread.lookup_of_besideWait : x.lookup = y.lookup := (congrArg Thread.lookup h :)
theorem Thread.result_of_besideWait : x.result = y.result := (congrArg Thread.result h :)
theorem Thread.timer_of_besideWait : x.timer = y.timer := (congrArg Thread.timer h :)

end

/-- An event of a thread that does not wait is pending, and the unit is else as it was. -/
theorem Nib.event_of_not_waiting {x : Nib} {i n : Nat} (h : (x.th i).st ≠ .waiting) :
    x.event i n = x.setTh i ((x.th i).pended n) := by
  rw [Nib.event_eq, Nib.wake_of_not_waiting (by rw [Nib.th_setTh_self]; exact h)]

/-! ### Delivery (R222) -/

section
variable (x : Nib) (c i : Nat) (f : Frame)

theorem Nib.th_deliver_self : (x.deliver c i f).th i = { ((x.th i).setReg 1 (BitVec.ofNat 64
      (if c = 1 then mdAprog f.md else f.reason % 256 * 256 + f.detail % 256))).setReg 2 (BitVec.ofNat 64 f.bytes.length) with
    st := .running, pc := if c = 1 then (x.entry (mdAprog f.md)).getD 0 else x.img 24 4, frame := some f,
    frameExc := c = 2 } :=
  Nib.th_setTh_fresh x i _ false

variable {i} in
theorem Nib.th_setTh_fresh_of_ne {j : Nat} (h : j ≠ i) (t : Thread) (b : Bool) :
    Nib.th { x.setTh i t with staleFired := b } j = x.th j := Nib.th_setTh_of_ne x t h

variable {i} in
theorem Nib.th_deliver_of_ne {j : Nat} (h : j ≠ i) : (x.deliver c i f).th j = x.th j := x.th_setTh_fresh_of_ne h _ false

/-- v1 and v2 of the thread that a frame reaches. -/
theorem Nib.deliver_regs : ((x.deliver c i f).th i).reg 1 = BitVec.ofNat 64
      (if c = 1 then mdAprog f.md else f.reason % 256 * 256 + f.detail % 256)
    ∧ ((x.deliver c i f).th i).reg 2 = BitVec.ofNat 64 f.bytes.length := by
  rw [Nib.th_deliver_self]
  constructor
  · change Thread.reg (Thread.setReg _ _ _) _ = _
    rw [Thread.reg_setReg (by decide), if_neg (by decide), Thread.reg_setReg (by decide), if_pos rfl]
  · change Thread.reg (Thread.setReg _ _ _) _ = _
    rw [Thread.reg_setReg (by decide), if_pos rfl]

end

section
variable {s : State} {u i : Nat} {f : Frame} {rest : List Frame} (hr : s.nibRuns u = true)
include hr

/-- The oldest frame of a class goes to the lowest thread that takes it. -/
theorem State.frameDeliver_dispatch (hw : (s.nib u).waitD = f :: rest)
    (ht : (List.range 64).find? ((s.nib u).takes 1) = some i) :
    s.frameDeliver u 1 = (s.setNib u (Nib.deliver { s.nib u with waitD := rest } 1 i f)).countNib u 1 1 := by
  simp only [State.frameDeliver, hr, hw, ht, if_true, Bool.true_eq_false, if_false]

theorem State.frameDeliver_exception (hw : (s.nib u).waitE = f :: rest)
    (ht : (List.range 64).find? ((s.nib u).takes 2) = some i) :
    s.frameDeliver u 2 = (s.setNib u (Nib.deliver { s.nib u with waitE := rest } 2 i f)).countNib u 2 1 := by
  simp only [State.frameDeliver, hr, hw, ht, Bool.true_eq_false, if_false, OfNat.ofNat_ne_one]

end

theorem State.nib_countNib (s : State) (u c n v : Nat) : (s.countNib u c n).nib v = s.nib v := rfl

theorem State.th_setNib_self (s : State) (u i : Nat) (x : Nib) : (s.setNib u x).th u i = x.th i := by
  rw [State.th, State.nib_setNib_self]

theorem State.th_countNib (s : State) (u c n v i : Nat) : (s.countNib u c n).th v i = s.th v i := rfl

/-- The device after a delivery, apart from its units and counters. -/
theorem State.setNib_countNib_beside (s : State) (u c : Nat) (x : Nib) :
    { (s.setNib u x).countNib u c 1 with nibs := s.nibs, stat := s.stat } = s := rfl

theorem State.cnt_setNib (s : State) (u i c : Nat) (x : Nib) : (s.setNib u x).cnt i c = s.cnt i c := rfl

/-! ### Lookup results (R231) -/

section
variable (s : State) (h : Half) (k key : Nat)

theorem State.tqResult_unknown (hk : k = 0 ∨ 8 < k) : (s.tqResult h k key).head? = some 2 := by
  simp only [State.tqResult, if_pos hk, List.head?_cons]

variable {k} (hlo : 1 ≤ k) (hhi : k ≤ 8)
include hlo hhi

theorem State.tqResult_miss (hm : (s.half h).cls.live.hit k key (key / 2 ^ 128) (key % 2 ^ 128) = none) :
    (s.tqResult h k key).head? = some 0 := by
  have hk : ¬ (k = 0 ∨ 8 < k) := by omega
  simp only [State.tqResult, if_neg hk, hm, List.head?_cons]

theorem State.tqResult_hit {a : BitVec 192} (hm : (s.half h).cls.live.hit k key (key / 2 ^ 128) (key % 2 ^ 128) = some a) :
    s.tqResult h k key = [1, BitVec.ofNat 64 (beAt (leBytes 24 a.toNat) 0 8), BitVec.ofNat 64 (beAt (leBytes 24 a.toNat) 8 8),
      BitVec.ofNat 64 (beAt (leBytes 24 a.toNat) 16 8)] := by
  have hk : ¬ (k = 0 ∨ 8 < k) := by omega
  simp only [State.tqResult, if_neg hk, hm]

end

/-- The thread whose lookup has its result. -/
def Thread.withResult (t : Thread) (w : List Word) : Thread := { t.unstall .stallTr with lookup := none, result := some w }

theorem State.tblReady_eq {s : State} {u i k key : Nat}
    (hl : (s.th u i).lookup = some (k, key)) (ha : s.active (nibHalf u) 7 = true) :
    s.tblReady u i
      = (s.setNib u (((s.nib u).setTh i ((s.th u i).withResult (s.tqResult (nibHalf u) k key))).event i 1)).fresher := by
  simp only [State.tblReady, hl, ha, Bool.true_eq_false, if_false, Thread.withResult]

theorem Thread.unstall_st_ne_waiting {t : Thread} {st : ThSt} (h : t.st ≠ .waiting) : (t.unstall st).st ≠ .waiting := by
  unfold Thread.unstall
  split
  · exact fun h0 => by cases h0
  · exact h

@[simp] theorem Thread.unstall_pend (t : Thread) (st : ThSt) : (t.unstall st).pend = t.pend := by
  unfold Thread.unstall
  split <;> rfl

@[simp] theorem Thread.unstall_besideWait (t : Thread) (st : ThSt) : (t.unstall st).besideWait = t.besideWait := by
  unfold Thread.unstall
  split <;> rfl

/-! ### Timers and stalemates (R230, R240, R241) -/

theorem State.timerFire_eq {s : State} {u i d : Nat} (ht : (s.th u i).timer = some d) : s.timerFire u i
    = (s.until (nibHalf u) d).setNib u (((s.nib u).setTh i { s.th u i with timer := none }).event i 4) := by
  simp only [State.timerFire, ht]
  rfl

theorem State.time_setNib (s : State) (u : Nat) (x : Nib) (h : Half) : (s.setNib u x).time h = s.time h := by
  rw [State.time, State.setNib_half, State.time]

/-- The largest of a list, by folding from the left. -/
theorem le_foldl_max {a : Nat} {l : List Nat} (h : a ∈ l) (b : Nat) : a ≤ l.foldl Nat.max b := by
  have grows : ∀ (l : List Nat) (b : Nat), b ≤ l.foldl Nat.max b := by
    intro l
    induction l with
    | nil => exact fun b => le_refl b
    | cons c l ih => exact fun b => (Nat.le_max_left b c).trans (ih _)
  induction l generalizing b with
  | nil => cases h
  | cons c l ih =>
    obtain rfl | hl := List.mem_cons.mp h
    · exact (Nat.le_max_right b a).trans (grows l _)
    · exact ih hl _

/-- The time from which every thread of a unit that is not left out has waited (R240). -/
def Nib.waitsSince (x : Nib) : Nat := ((x.threads.filter fun e => !e.2.leftOut).map (·.2.since)).foldl Nat.max 0

theorem Nib.since_le_waitsSince {x : Nib} {e : Nat × Thread} (he : e ∈ x.threads) (hl : e.2.leftOut = false) :
    e.2.since ≤ x.waitsSince := by
  have hmem : e ∈ x.threads.filter fun e => !e.2.leftOut := List.mem_filter.mpr ⟨he, by simp [hl]⟩
  exact le_foldl_max (List.mem_map_of_mem (f := fun e : Nat × Thread => e.2.since) hmem) 0

/-- A unit whose stalemate detector has fired. -/
def Nib.fired (x : Nib) : Nib := { x with staleFired := true }

theorem State.stalemate_eq {s : State} {u : Nat} (hr : s.nibRuns u = true) (hs : (s.nib u).stale = true)
    (hf : (s.nib u).staleFired = false) : s.stalemate u
      = ((((s.until (nibHalf u) ((s.nib u).waitsSince + 10000)).setNib u ((s.nib u).fired.event 0 8)).log
          0x8000 0 (unitId (nibHalf u) (u % 4)) 0 0).countNib u 9 1) :=
  if_pos ⟨hr, hs, hf⟩

/-! ### Bytes of a thread's memory -/

theorem memBytes_memPut_same {n : Nat} {bs : List Byte} (hn : bs.length = n) (m : Map Byte) (off : Nat) :
    memBytes (memPut m off bs) off n = bs := by
  subst hn
  refine List.ext_getElem (by simp [memBytes]) fun k hk hk' => ?_
  have hin : off ≤ off + k ∧ off + k < off + bs.length := by omega
  simp only [memBytes, List.getElem_map, List.getElem_range, mget_memPut, if_pos hin, Nat.add_sub_cancel_left]
  rw [List.getD_eq_getElem?_getD, List.getElem?_eq_getElem hk', Option.getD_some]

theorem memBytes_memPut_of_disjoint {m : Map Byte} {off a n : Nat} {bs : List Byte} (h : a + n ≤ off ∨ off + bs.length ≤ a) :
    memBytes (memPut m off bs) a n = memBytes m a n := by
  refine List.map_congr_left fun k hk => ?_
  have hlt : k < n := List.mem_range.mp hk
  rw [mget_memPut, if_neg (by omega)]

theorem memBytes_succ (m : Map Byte) (a n : Nat) : memBytes m a (n + 1) = memBytes m a 1 ++ memBytes m (a + 1) n := by
  have hshift : ∀ k, a + (k + 1) = a + 1 + k := fun k => by omega
  simp only [memBytes, List.range_succ_eq_map, List.map_cons, List.map_map, List.range_zero, List.map_nil,
    List.singleton_append]
  exact congrArg (_ :: ·) (List.map_congr_left fun k _ => congrArg (mget m · 0) (hshift k))

theorem mget_memPut_single (m : Map Byte) (off a : Nat) (b : Byte) :
    mget (memPut m off [b]) a 0 = if a = off then b else mget m a 0 := by
  rw [memPut, memPut, mget_mset]

/-! ### A copy within a thread's map (R232) -/

/-- A thread without its memory: what an access does not change. -/
def Thread.besideMem (t : Thread) : Thread := { t with scratch := [], frame := none }

section
variable {x y t : Thread} (h : x.besideMem = y.besideMem)
include h

theorem Thread.st_of_besideMem : x.st = y.st := (congrArg Thread.st h :)
theorem Thread.pend_of_besideMem : x.pend = y.pend := (congrArg Thread.pend h :)
theorem Thread.subs_of_besideMem : x.subs = y.subs := (congrArg Thread.subs h :)

end

section
variable {x y : Nib} {i : Nat}

theorem Nib.store_besideMem {a : Nat} {bs : List Byte} (h : x.store i a bs = .ok y) :
    (y.th i).besideMem = (x.th i).besideMem := by
  simp only [Nib.store] at h
  split at h
  · cases h
  · cases h
    rw [Nib.th_setTh_self]
    rfl
  · cases h
    rfl
  · cases h
    rfl
  · split at h
    · cases h
    · split at h
      · split at h
        · cases h
        · cases h
          rw [Nib.th_setTh_self]
          rfl
      · cases h
        rw [Nib.th_setTh_self]
        rfl
      · cases h

theorem Nib.scatter_besideMem {a : Nat} {bs : List Byte} (h : x.scatter i a bs = some y) :
    (y.th i).besideMem = (x.th i).besideMem := by
  induction bs generalizing x a with
  | nil =>
    cases h
    rfl
  | cons b bs ih =>
    rw [Nib.scatter] at h
    split at h
    · next z hz => exact (ih h).trans (Nib.store_besideMem hz)
    · cases h

theorem Nib.copyWithin_besideMem (x : Nib) (i : Nat) (b : Sub) :
    ((x.copyWithin i b).1.th i).besideMem = (x.th i).besideMem := by
  simp only [Nib.copyWithin]
  split
  · rfl
  · split
    · rfl
    · split
      · rfl
      · next z hz => exact Nib.scatter_besideMem hz

/-- Reads and writes byte by byte within the scratch of the thread. -/
theorem Nib.gather_scratch (t : Thread) {a n : Nat} (h : a + n ≤ 0x1000) :
    x.gather t a n = some (memBytes t.scratch a n) := by
  induction n generalizing a with
  | zero => rfl
  | succ n ih =>
    rw [Nib.gather, x.load_scratch t 1 (by omega), ih (by omega), memBytes_succ t.scratch a n]

theorem Nib.scatter_scratch {a : Nat} {bs : List Byte} (h : a + bs.length ≤ 0x1000) :
    ∃ y, x.scatter i a bs = some y ∧ (y.th i).scratch = memPut (x.th i).scratch a bs := by
  induction bs generalizing x a with
  | nil => exact ⟨x, rfl, rfl⟩
  | cons b bs ih =>
    rw [List.length_cons] at h
    obtain ⟨y, hy, hs⟩ := ih (x := x.setTh i { x.th i with scratch := memPut (x.th i).scratch a [b] }) (a := a + 1) (by omega)
    refine ⟨y, ?_, ?_⟩
    · rw [Nib.scatter, x.store_scratch i [b] (by omega)]
      exact hy
    · rw [hs, Nib.th_setTh_self]
      rfl

variable {b : Sub} {n src dst : Nat} (hn : n = beAt (memBytes (x.th i).scratch b.addr 64) 16 4)
include hn

theorem Nib.copyWithin_range (h : n = 0 ∨ 65536 < n) : x.copyWithin i b = (x, stRange) := by
  subst hn
  exact if_pos h

theorem Nib.copyWithin_ok (hs : src = beAt (memBytes (x.th i).scratch b.addr 64) 8 4)
    (hd : dst = beAt (memBytes (x.th i).scratch b.addr 64) 12 4) (h1 : 1 ≤ n) (h2 : src + n ≤ 0x1000)
    (h3 : dst + n ≤ 0x1000) :
    ∃ y, x.copyWithin i b = (y, stOk) ∧ (y.th i).scratch = memPut (x.th i).scratch dst (memBytes (x.th i).scratch src n) := by
  obtain ⟨y, hy, hscratch⟩ := Nib.scatter_scratch (x := x) (i := i) (a := dst) (bs := memBytes (x.th i).scratch src n)
    (by rw [memBytes, List.length_map, List.length_range]; exact h3)
  refine ⟨y, ?_, hscratch⟩
  have hin : ¬ (n = 0 ∨ 65536 < n) := by omega
  have hgather := Nib.gather_scratch (x := x) (x.th i) h2
  subst hn hs hd
  simp only [Nib.copyWithin, if_neg hin, hgather, hy]

end

/-! ### Ends of submissions (R232, R243) -/

/-- A thread with other submissions outstanding. -/
def Thread.withSubs (t : Thread) (l : List Sub) : Thread := { t with subs := l }

theorem Thread.oldestSub_eq {t : Thread} {k : Nat} {b : Sub} {rest : List Sub} (hd : takeSub k t.deadSubs = none)
    (hs : takeSub k t.subs = some (b, rest)) : t.oldestSub k = some (b, false, t.withSubs rest) := by
  simp only [Thread.oldestSub, hd, hs, Thread.withSubs]

section
variable (x : Nib) (i : Nat) (b : Sub) (status event : Nat)

/-- A submission that ends leaves its thread but its status and event. -/
theorem Nib.subEnd_besideWait : ((x.subEnd i b false status event).th i).besideWait
    = ({ x.th i with scratch := memPut (x.th i).scratch (b.addr + 1) [BitVec.ofNat 8 status] } : Thread).besideWait := by
  have hu := Thread.unstall_besideWait (x.th i) .stallCsub
  have hscratch : ((x.th i).unstall .stallCsub).scratch = (x.th i).scratch := Thread.scratch_of_besideWait hu
  change ((Nib.event _ i event).th i).besideWait = _
  rw [Nib.event_besideWait, Nib.th_setTh_self, hscratch]
  exact congrArg (fun t : Thread => { t with scratch := memPut (x.th i).scratch (b.addr + 1) [BitVec.ofNat 8 status] }) hu

theorem Nib.subEnd_scratch : ((x.subEnd i b false status event).th i).scratch
    = memPut (x.th i).scratch (b.addr + 1) [BitVec.ofNat 8 status] :=
  Thread.scratch_of_besideWait (x.subEnd_besideWait i b status event)

theorem Nib.subEnd_subs : ((x.subEnd i b false status event).th i).subs = (x.th i).subs :=
  (Thread.subs_of_besideWait (x.subEnd_besideWait i b status event)).trans rfl

theorem Nib.subEnd_frame : ((x.subEnd i b false status event).th i).frame = (x.th i).frame :=
  (Thread.frame_of_besideWait (x.subEnd_besideWait i b status event)).trans rfl

variable {x i} in
theorem Nib.subEnd_pend (h : (x.th i).st ≠ .waiting) :
    ((x.subEnd i b false status event).th i).pend = (x.th i).pend ||| BitVec.ofNat 32 (2 ^ event) := by
  have hself := x.th_setTh_self i { (x.th i).unstall .stallCsub with
    scratch := memPut ((x.th i).unstall .stallCsub).scratch (b.addr + 1) [BitVec.ofNat 8 status] }
  change ((Nib.event _ i event).th i).pend = _
  rw [Nib.th_event_of_not_waiting (by rw [hself]; exact Thread.unstall_st_ne_waiting h), hself]
  exact congrArg (· ||| BitVec.ofNat 32 (2 ^ event)) (Thread.unstall_pend _ _)

theorem Nib.subEnd_status : mget ((x.subEnd i b false status event).th i).scratch (b.addr + 1) 0 = BitVec.ofNat 8 status := by
  rw [Nib.subEnd_scratch, mget_memPut_single, if_pos rfl]

end

theorem State.copySubEnd_eq {s : State} {u i : Nat} {b : Sub} {t : Thread} {x : Nib} {st : Nat}
    (ho : (s.th u i).oldestSub 1 = some (b, false, t)) (hc : ((s.nib u).setTh i t).copyWithin i b = (x, st)) :
    s.copySubEnd u i = s.setNib u (x.subEnd i b false st 3) := by
  unfold State.th at ho
  simp only [State.copySubEnd, ho, hc]

/-! ### CIPHER beside the units (R264, R265) -/

section
variable (s : State) (u : Nat) (x : Nib) (h : Half)

theorem State.setNib_onHalf (f : HalfSt → HalfSt) : (s.setNib u x).onHalf h f = (s.onHalf h f).setNib u x := by
  cases h <;> rfl

theorem State.setNib_logOn {code cls unit sl action detail : Nat} (hc : cls < 3) :
    (s.setNib u x).logOn h code cls unit sl action detail = (s.logOn h code cls unit sl action detail).setNib u x := by
  simp only [State.logOn, if_pos hc, State.setNib_onHalf, State.setNib_half, State.time_setNib, State.setNib_nv]

theorem State.setNib_log {code cls unit action detail : Nat} (hc : cls < 3) :
    (s.setNib u x).log code cls unit action detail = (s.log code cls unit action detail).setNib u x :=
  State.setNib_logOn s u x _ hc

theorem State.setNib_setSa (i : Nat) (y : Sa) :
    (s.setNib u x).setSa h i y = (s.setSa h i y).setNib u x := State.setNib_onHalf _ _ _ _ _

theorem State.setNib_countCipher (c n : Nat) : (s.setNib u x).countCipher h c n = (s.countCipher h c n).setNib u x := rfl

theorem State.sa_setNib (i : Nat) : (s.setNib u x).sa h i = s.sa h i := by
  rw [State.sa, State.setNib_half, State.sa]

theorem State.saDenied_setNib (i : Nat) (f : Frame) : (s.setNib u x).saDenied h i f = s.saDenied h i f := rfl

theorem State.setNib_noteMark (i : Nat) : (s.setNib u x).noteMark h i = (s.noteMark h i).setNib u x := by
  have hmark : ∀ r, (s.setNib u x).rekeyMark h r = s.rekeyMark h r := fun r => rfl
  simp only [State.noteMark, State.sa_setNib, hmark, State.setNib_setSa, State.setNib_log _ _ _ (show 0 < 3 by decide),
    State.setNib_countCipher]
  split <;> rfl

theorem State.setNib_assign (i n : Nat) : (s.setNib u x).assign h i n = (s.assign h i n).setNib u x := by
  simp only [State.assign, State.sa_setNib, State.setNib_setSa, State.setNib_noteMark]

variable (i off : Nat) (f : Frame)

/-- ESP_OUT and ESP_IN neither read nor change a unit. -/
theorem State.espOut_setNib : (s.setNib u x).espOut h i off f
    = ((s.espOut h i off f).1.setNib u x, (s.espOut h i off f).2) := by
  simp only [State.espOut, State.sa_setNib, State.saDenied_setNib, State.setNib_countCipher, State.setNib_assign]
  split_ifs <;> rfl

theorem State.espIn_setNib (icvOk : Bool) :
    (s.setNib u x).espIn h i off f icvOk = ((s.espIn h i off f icvOk).1.setNib u x, (s.espIn h i off f icvOk).2) := by
  simp only [State.espIn, State.sa_setNib, State.saDenied_setNib, State.setNib_countCipher, State.setNib_setSa]
  split_ifs <;> rfl

end

/-! ### A kind 2 submission (R264, R265, R421) -/

section
variable {s : State} {u i : Nat} {b : Sub} {icvOk : Bool} {f : Frame}

/-- The operation by its code, on the frame that it was made for. -/
theorem State.cipherOp_undefined {rec : List Byte} (hr : rec = memBytes (s.th u i).scratch b.addr 64) (h1 : leAt rec 2 1 ≠ 1)
    (h2 : leAt rec 2 1 ≠ 2) : s.cipherOp u i b icvOk = (s, stMalformed, none) := by
  subst hr
  exact if_pos ⟨h1, h2⟩

section
variable {rec : List Byte} (hr : rec = memBytes (s.th u i).scratch b.addr 64) (hf : (s.th u i).frame = some f)
  (hb : b.frame = some f.arrival)
include hr hf hb

theorem State.cipherOp_out (h1 : leAt rec 2 1 = 1) :
    s.cipherOp u i b icvOk = s.espOut (nibHalf u) (leAt rec 4 2) (leAt rec 6 2) f := by
  subst hr
  simp only [State.cipherOp, hf, hb, h1, ne_eq, not_true_eq_false, false_and, if_false, if_true]

theorem State.cipherOp_in (h2 : leAt rec 2 1 = 2) :
    s.cipherOp u i b icvOk = s.espIn (nibHalf u) (leAt rec 4 2) (leAt rec 6 2) f icvOk := by
  subst hr
  simp only [State.cipherOp, hf, hb, h2, ne_eq, not_true_eq_false, and_false, if_false, OfNat.ofNat_ne_one]

end

/-- The operation reads the record and the frame of its thread, and changes no unit. -/
theorem State.cipherOp_setTh {t : Thread} (hs : t.scratch = (s.th u i).scratch) (hf : t.frame = (s.th u i).frame) :
    (s.setTh u i t).cipherOp u i b icvOk
      = ((s.cipherOp u i b icvOk).1.setNib u ((s.nib u).setTh i t), (s.cipherOp u i b icvOk).2) := by
  simp only [State.cipherOp, State.th_setTh_self, hs, hf]
  split
  · rfl
  · split
    · rfl
    · split
      · rfl
      · split
        · exact State.espOut_setNib _ _ _ _ _ _ _
        · exact State.espIn_setNib _ _ _ _ _ _ _ _

/-- How the operation of a submission ends: with CIPHER out of service, MEDIA. -/
def State.cipherEnd (s : State) (u i : Nat) (b : Sub) (icvOk : Bool) : State × Nat × Option (List Byte × Nat) :=
  if s.works (nibHalf u) 9 then s.cipherOp u i b icvOk else (s, stMedia, none)

/-- A unit with the frame and the record of an operation that ended OK. -/
def Nib.espWritten (x : Nib) (i : Nat) (b : Sub) (y : Option (List Byte × Nat)) : Nib :=
  match y with
  | none => x
  | some (bs, seq) => x.setTh i (Thread.wroteEsp { x.th i with
      frame := (x.th i).frame.map fun f => { f with bytes := bs } } b.addr bs.length seq)

theorem State.cipherSubEnd_eq {t : Thread} (ho : (s.th u i).oldestSub 2 = some (b, false, t))
    (hs : t.scratch = (s.th u i).scratch)
    (hf : t.frame = (s.th u i).frame) : s.cipherSubEnd u i icvOk
      = ((s.cipherEnd u i b icvOk).1.setNib u ((s.nib u).setTh i t)).setNib u
          ((((s.nib u).setTh i t).espWritten i b (s.cipherEnd u i b icvOk).2.2).subEnd i b
             false (s.cipherEnd u i b icvOk).2.1 2) := by
  have hend : (if s.works (nibHalf u) 9 then (s.setTh u i t).cipherOp u i b icvOk else (s.setTh u i t, stMedia, none))
      = ((s.cipherEnd u i b icvOk).1.setNib u ((s.nib u).setTh i t), (s.cipherEnd u i b icvOk).2) := by
    unfold State.cipherEnd
    split
    · exact State.cipherOp_setTh hs hf
    · rfl
  simp only [State.cipherSubEnd, ho, hend, State.nib_setNib_self]
  rfl

variable (x : Nib) (y : Option (List Byte × Nat))

theorem Nib.espWritten_besideMem : ((x.espWritten i b y).th i).besideMem = (x.th i).besideMem := by
  cases y with
  | none => rfl
  | some e =>
    rw [Nib.espWritten, Nib.th_setTh_self]
    rfl

theorem Nib.espWritten_some (bs : List Byte) (seq : Nat) : (x.espWritten i b (some (bs, seq))).th i
    = Thread.wroteEsp { x.th i with frame := (x.th i).frame.map fun f => { f with bytes := bs } } b.addr bs.length seq :=
  Nib.th_setTh_self _ _ _

end

/-- Where a record holds its status, NEW_LEN and SEQ after an operation that ended OK (R264). -/
theorem memBytes_esp (m : Map Byte) (a len seq : Nat) (st : Byte) :
    memBytes (memPut (memPut (memPut m (a + 8) (leBytes 2 len)) (a + 16) (leBytes 8 seq)) (a + 1) [st]) (a + 8) 2
      = leBytes 2 len
    ∧ memBytes (memPut (memPut (memPut m (a + 8) (leBytes 2 len)) (a + 16) (leBytes 8 seq)) (a + 1) [st]) (a + 16) 8
        = leBytes 8 seq := by
  constructor
  · rw [memBytes_memPut_of_disjoint (by simp), memBytes_memPut_of_disjoint (by omega),
      memBytes_memPut_same (length_leBytes _ _)]
  · rw [memBytes_memPut_of_disjoint (by simp), memBytes_memPut_same (length_leBytes _ _)]

/-! ### What the way to the exception pool leaves unchanged (R181, R220) -/

/-- A state without its counters, its nib units and its pipelines. -/
def State.frameless (s : State) : State :=
  { s with stat := [], nibs := [], k := { s.k with cls := {} }, q := { s.q with cls := {} } }

/-- The state without all that a frame on its way to the exception pool changes. -/
def State.besideFrames (s : State) : State := s.besideQueues.frameless

section
variable {r s : State}

theorem State.besideFrames_of_besideQueues (h : r.besideQueues = s.besideQueues) : r.besideFrames = s.besideFrames :=
  congrArg State.frameless h

theorem State.half_of_besideFrames (h : r.besideFrames = s.besideFrames) (g : Half) :
    ({ r.half g with cls := {} } : HalfSt).besideQueues = ({ s.half g with cls := {} } : HalfSt).besideQueues := by
  cases g
  · exact (congrArg State.k h :)
  · exact (congrArg State.q h :)

theorem State.time_of_besideFrames (h : r.besideFrames = s.besideFrames) (g : Half) : r.time g = s.time g :=
  (congrArg (fun x : HalfSt => x.gov.time) (State.half_of_besideFrames h g) :)

theorem State.unit_of_besideFrames (h : r.besideFrames = s.besideFrames) (g : Half) (i : Nat) : r.unit g i = s.unit g i :=
  (congrArg (fun x : HalfSt => mget x.units i {}) (State.half_of_besideFrames h g) :)

end

section
variable (s : State) (h : Half)

theorem State.setNib_besideFrames (u : Nat) (x : Nib) : (s.setNib u x).besideFrames = s.besideFrames := rfl

theorem State.count_besideFrames (i c n : Nat) : (s.count i c n).besideFrames = s.besideFrames := rfl

theorem State.lostSend_besideFrames (f : Frame) : (s.lostSend f).besideFrames = s.besideFrames :=
  State.besideFrames_of_besideQueues (s.lostSend_besideQueues f)

theorem State.nibArrive_besideFrames (u c : Nat) (f : Frame) : (s.nibArrive u c f).besideFrames = s.besideFrames := by
  simp only [State.nibArrive]
  split
  · rfl
  · rw [State.lostSend_besideFrames, State.countNib, State.count_besideFrames]

theorem State.onHalf_cls_besideFrames {f : HalfSt → HalfSt}
    (hf : ({ f (s.half h) with cls := {} } : HalfSt) = { s.half h with cls := {} }) :
    (s.onHalf h f).besideFrames = s.besideFrames := by
  cases h
  · exact congrArg (fun x : HalfSt => { s.besideFrames with k := x.besideQueues }) hf
  · exact congrArg (fun x : HalfSt => { s.besideFrames with q := x.besideQueues }) hf

theorem State.excToken_besideFrames : (s.excToken h).1.besideFrames = s.besideFrames := by
  simp only [State.excToken]
  exact s.onHalf_cls_besideFrames h rfl

theorem State.toException_besideFrames (f : Frame) (r d : Nat) : (s.toException h f r d).besideFrames = s.besideFrames := by
  have htoken : ((s.lostSend f).excToken h).1.besideFrames = s.besideFrames :=
    (State.excToken_besideFrames _ h).trans (s.lostSend_besideFrames f)
  simp only [State.toException]
  split
  · exact htoken
  · split
    · exact htoken
    · exact (State.nibArrive_besideFrames _ _ _ _).trans htoken

/-! ### A unit that drains gets no frame of the exception pool (R220, R412) -/

variable {h} in
theorem nibKey_eq {u i : Nat} (hi : i < 4) (hu : nibKey h i = u) : nibHalf u = h ∧ u % 4 = i := by
  subst hu
  cases h with
  | k => exact ⟨if_pos (show 4 * 0 + i < 4 by omega), show (4 * 0 + i) % 4 = i by omega⟩
  | q => exact ⟨if_neg (show ¬ 4 * 1 + i < 4 by omega), show (4 * 1 + i) % 4 = i by omega⟩

variable {s h} in
theorem State.active_of_chooseUnit {p : Nib → Bool} {f : Frame} {i : Nat} (hc : chooseUnit (s.nibsFor h p) f = some i) :
    i < 4 ∧ s.active h i = true := by
  have hmem : i ∈ s.nibsFor h p := List.mem_of_getElem? hc
  simp only [State.nibsFor, List.mem_filter, List.mem_range, Bool.and_eq_true] at hmem
  exact ⟨hmem.1, hmem.2.1⟩

theorem State.active_of_besideFrames {r s : State} (h : r.besideFrames = s.besideFrames) (g : Half) (i : Nat) :
    r.active g i = s.active g i := by
  rw [State.active, State.unit_of_besideFrames h, State.active]

theorem State.nib_of_nibs {r s : State} (h : r.nibs = s.nibs) (u : Nat) : r.nib u = s.nib u := by
  rw [State.nib, h, State.nib]

theorem State.nibArrive_nib_of_ne {u v : Nat} (hv : u ≠ v) (c : Nat) (f : Frame) : (s.nibArrive v c f).nib u = s.nib u := by
  simp only [State.nibArrive]
  split
  · exact State.nib_setNib_of_ne hv _ _
  · exact State.nib_of_nibs (State.lostSend_nibs _ _) u

variable {s} in
theorem State.toException_nib {u : Nat} (ha : s.active (nibHalf u) (u % 4) = false) (f : Frame) (r d : Nat) :
    (s.toException h f r d).nib u = s.nib u := by
  have hnibs : ((s.lostSend f).excToken h).1.nibs = s.nibs := (State.excToken_nibs _ h).trans (s.lostSend_nibs f)
  have hbeside : ((s.lostSend f).excToken h).1.besideFrames = s.besideFrames :=
    (State.excToken_besideFrames _ h).trans (s.lostSend_besideFrames f)
  simp only [State.toException]
  split
  · exact State.nib_of_nibs hnibs u
  · split
    · exact State.nib_of_nibs hnibs u
    · next i hi =>
      obtain ⟨hlt, hact⟩ := State.active_of_chooseUnit hi
      have hne : u ≠ nibKey h i := fun hu => by
        obtain ⟨hh, hm⟩ := nibKey_eq hlt hu.symm
        rw [State.active_of_besideFrames hbeside, ← hh, ← hm, ha] at hact
        cases hact
      rw [State.nibArrive_nib_of_ne _ hne]
      exact State.nib_of_nibs hnibs u

end

/-! ### Frames held and frames that wait (R222, R239, R247) -/

/-- The frames that wait for a thread. -/
def Nib.waits (x : Nib) : List Frame × List Frame := (x.waitD, x.waitE)

/-- What a thread keeps while others come and go: its frame, and its halt. -/
def Thread.kept (t : Thread) : Option Frame × Option Nat := (t.frame, t.halted)

@[simp] theorem Thread.setReg_kept (t : Thread) (r : Nat) (v : Word) : (t.setReg r v).kept = t.kept := by
  unfold Thread.setReg
  split <;> rfl

theorem Thread.kept_of_besideWait {x y : Thread} (h : x.besideWait = y.besideWait) :
    x.kept = y.kept := (congrArg Thread.kept h :)

section
variable (x : Nib) (i j n : Nat)

theorem Nib.setTh_kept {t : Thread} (ht : t.kept = (x.th i).kept) : ((x.setTh i t).th j).kept = (x.th j).kept := by
  by_cases h : j = i
  · subst h
    rw [Nib.th_setTh_self, ht]
  · rw [Nib.th_setTh_of_ne _ _ h]

theorem Nib.setSt_kept (st : ThSt) : ((x.setTh i { x.th i with st := st }).th j).kept = (x.th j).kept := x.setTh_kept i j rfl

theorem Nib.event_kept : ((x.event i n).th j).kept = (x.th j).kept := by
  by_cases h : j = i
  · subst h
    exact Thread.kept_of_besideWait (x.event_besideWait j n)
  · rw [Nib.th_event_of_ne h]

theorem Nib.grant_kept (rd : Nat) : ((x.grant i n rd).th j).kept = (x.th j).kept :=
  x.setTh_kept i j (Thread.setReg_kept _ _ _)

theorem Nib.newHead_kept : ((x.newHead n).th j).kept = (x.th j).kept := by
  simp only [Nib.newHead]
  split
  · rfl
  · split
    · rfl
    · split
      · exact x.grant_kept _ _ _ _
      · split
        · rw [Nib.event_kept]
          exact x.setTh_kept _ _ rfl
        · rfl

theorem Nib.leave_kept (p : Bool) : ((x.leave i p).th j).kept = (x.th j).kept := by
  simp only [Nib.leave]
  split
  · rfl
  · next f hf =>
    split
    · rfl
    · rw [Nib.newHead_kept]
      exact Nib.setTh_kept _ i j rfl

theorem Nib.forget_kept (f : Frame) : ((x.forget f).th j).kept = (x.th j).kept := by
  simp only [Nib.forget]
  split
  · rfl
  · exact Nib.newHead_kept _ _ _

theorem Nib.restart_kept (now : Nat) : ((x.restart i now).th j).kept = (x.th j).kept := by
  simp only [Nib.restart]
  split
  · exact x.setTh_kept _ _ rfl
  · split
    · exact x.setTh_kept _ _ rfl
    · exact x.setTh_kept _ _ rfl

theorem Nib.wake_waits : (x.wake i).waits = x.waits := by
  obtain hw | ⟨-, t, hw⟩ := x.wake_cases i
  · rw [hw]
  · rw [hw]
    rfl

theorem Nib.newHead_waits : (x.newHead n).waits = x.waits := by
  simp only [Nib.newHead]
  split
  · rfl
  · split
    · rfl
    · split
      · rfl
      · split
        · exact Nib.wake_waits _ _
        · rfl

theorem Nib.forget_waits (f : Frame) : (x.forget f).waits = x.waits := by
  simp only [Nib.forget]
  split
  · rfl
  · exact Nib.newHead_waits _ _

end

theorem Thread.clear_kept (t : Thread) : t.clear.kept = t.kept := rfl

section
variable (s : State) (u i a b : Nat)

theorem State.dropHeld_kept (j : Nat) :
    ((s.dropHeld u i a b).th u j).kept = (if j = i then none else (s.th u j).frame, (s.th u j).halted) := by
  simp only [State.dropHeld]
  split
  · next hf =>
    split
    · next h =>
      subst h
      exact Prod.ext hf rfl
    · rfl
  · next f hf =>
    have hth : ∀ y : Nib, (∀ k, (y.th k).kept = ((s.nib u).th k).kept) →
        ((y.setTh i { y.th i with frame := none, frameExc := false }).th j).kept
          = (if j = i then none else (s.th u j).frame, (s.th u j).halted) := by
      intro y hy
      split
      · next h =>
        subst h
        rw [Nib.th_setTh_self]
        exact Prod.ext rfl (congrArg Prod.snd (hy j) :)
      · next h =>
        rw [Nib.th_setTh_of_ne _ _ h]
        exact hy j
    have hleave := hth ((s.nib u).leave i ((s.nib u).th i).holds) fun k => (s.nib u).leave_kept i k _
    split
    · split
      · rw [State.th_of_nibs (State.lostSend_nibs _ _), State.th_countNib, State.th_countNib, State.th_setNib_self, hleave]
      · rw [State.th_of_nibs (State.lostSend_nibs _ _), State.th_countNib, State.th_setNib_self, hleave]
    · split
      · rw [State.toException_th, State.th_countNib, State.th_setNib_self, hleave]
      · rw [State.toException_th, State.th_setNib_self, hleave]

theorem State.dropHeld_besideFrames : (s.dropHeld u i a b).besideFrames = s.besideFrames := by
  simp only [State.dropHeld]
  split
  · rfl
  · split
    · split
      · exact State.lostSend_besideFrames _ _
      · exact State.lostSend_besideFrames _ _
    · split
      · exact State.toException_besideFrames _ _ _ _ _
      · exact State.toException_besideFrames _ _ _ _ _

/-- A thread that is restarted holds no frame, and is halted if it was. -/
theorem State.restartThread_kept (j : Nat) :
    ((s.restartThread u i a b).th u j).kept = (if j = i then none else (s.th u j).frame, (s.th u j).halted) := by
  have hrestart : ((Nib.restart (((s.dropHeld u i a b).nib u).setTh i (((s.dropHeld u i a b).nib u).th i).clear) i
      (s.time (nibHalf u))).th j).kept = (if j = i then none else (s.th u j).frame, (s.th u j).halted) := by
    rw [Nib.restart_kept, Nib.setTh_kept _ _ _ (Thread.clear_kept _), ← State.dropHeld_kept s u i a b j, State.th]
  rw [State.restartThread, State.th_setNib_self]
  split
  · rw [Nib.setSt_kept, hrestart]
  · rw [hrestart]

theorem State.restartThread_frame (j : Nat) :
    ((s.restartThread u i a b).th u j).frame = if j = i then none else (s.th u j).frame :=
  congrArg Prod.fst (s.restartThread_kept u i a b j)

theorem State.restartThread_besideFrames : (s.restartThread u i a b).besideFrames = s.besideFrames :=
  (State.setNib_besideFrames _ _ _).trans (s.dropHeld_besideFrames u i a b)

end

/-- One thread of a unit as its held frame is treated as a debugger reset. -/
def State.resetHolder (u : Nat) (s : State) (i : Nat) : State :=
  if (s.th u i).frame.isSome then s.restartThread u i 0x11 1 else s

theorem State.resetHolder_frame (u i j : Nat) (s : State) :
    ((s.resetHolder u i).th u j).frame = if j = i then none else (s.th u j).frame := by
  unfold State.resetHolder
  split
  · exact s.restartThread_frame u i 0x11 1 j
  · next h =>
    split
    · next hji =>
      subst hji
      simpa using h
    · rfl

theorem State.resetHolders_frame {u j : Nat} {l : List Nat} {s : State} (h : j ∈ l ∨ (s.th u j).frame = none) :
    ((l.foldl (State.resetHolder u) s).th u j).frame = none := by
  induction l generalizing s with
  | nil => exact h.resolve_left List.not_mem_nil
  | cons i l ih =>
    refine ih ?_
    rw [State.resetHolder_frame]
    by_cases hji : j = i
    · exact .inr (if_pos hji)
    · rw [if_neg hji]
      exact h.imp_left fun hm => (List.mem_cons.mp hm).resolve_left hji

theorem State.resetHolders_besideFrames (s : State) (u : Nat) : (s.resetHolders u).besideFrames = s.besideFrames := by
  refine State.foldl_unchanged (part := State.besideFrames) (fun a i => ?_) (List.range 64) s
  split
  · exact a.restartThread_besideFrames u i 0x11 1
  · rfl

/-- The unit after the frames that waited have left it (R247). -/
theorem State.dropWaiting_spec {s : State} {u : Nat} (ha : s.active (nibHalf u) (u % 4) = false) :
    (s.dropWaiting u).besideFrames = s.besideFrames ∧ ((s.dropWaiting u).nib u).waits = ([], [])
      ∧ ∀ j, ((s.dropWaiting u).th u j).frame = (s.th u j).frame := by
  let fs := (s.nib u).waitD ++ (s.nib u).waitE
  let y := fs.foldl Nib.forget { s.nib u with waitD := [], waitE := [] }
  have hy : y.waits = ([], []) ∧ ∀ j, (y.th j).frame = (s.th u j).frame := by
    refine List.foldlRecOn
      (motive := fun z : Nib => z.waits = ([], []) ∧ ∀ j, (z.th j).frame = (s.th u j).frame) fs Nib.forget
      ⟨rfl, fun j => rfl⟩ fun z ⟨hz, hzf⟩ f _ => ⟨(z.forget_waits f).trans hz,
        fun j => (congrArg Prod.fst (z.forget_kept j f)).trans (hzf j)⟩
  have hend : (s.dropWaiting u).besideFrames = s.besideFrames ∧ (s.dropWaiting u).nib u = y := by
    refine List.foldlRecOn (motive := fun r : State => r.besideFrames = s.besideFrames ∧ r.nib u = y) fs
      (fun a f => a.toException (nibHalf u) f 0x11 1) ⟨State.setNib_besideFrames _ _ _, State.nib_setNib_self _ _ _⟩
      fun r ⟨hr, hn⟩ f _ => ⟨(r.toException_besideFrames _ _ _ _).trans hr, ?_⟩
    rw [State.toException_nib _ ((State.active_of_besideFrames hr _ _).trans ha), hn]
  obtain ⟨hbeside, hnib⟩ := hend
  refine ⟨hbeside, by rw [hnib]; exact hy.1, fun j => ?_⟩
  rw [State.th, hnib]
  exact hy.2 j

/-! ### The obligation, part by part -/

section
variable {s : State} {u i : Nat} {b : Sub} {rest : List Sub} {x : Nib}

/-- A kind 1 submission that ends: the record and the event of its thread. -/
theorem State.copySubEnd_spec (hd : takeSub 1 (s.th u i).deadSubs = none)
    (hs : takeSub 1 (s.th u i).subs = some (b, rest)) (hx : (s.nib u).setTh i ((s.th u i).withSubs rest) = x) :
    ∃ r, s.copySubEnd u i = r ∧ (r.th u i).subs = rest
      ∧ ((s.th u i).st ≠ .waiting → (r.th u i).pend = (s.th u i).pend ||| 0x8#32)
      ∧ (r.th u i).scratch = memPut ((x.copyWithin i b).1.th i).scratch (b.addr + 1) [BitVec.ofNat 8 (x.copyWithin i b).2]
      ∧ { r with nibs := s.nibs } = s := by
  have hself : x.th i = (s.th u i).withSubs rest := by rw [← hx, Nib.th_setTh_self]
  have hbeside := (x.copyWithin_besideMem i b).trans (congrArg Thread.besideMem hself)
  have heq := State.copySubEnd_eq (st := (x.copyWithin i b).2) (x := (x.copyWithin i b).1)
      (Thread.oldestSub_eq hd hs) (by rw [hx])
  refine ⟨_, heq, ?_, fun hw => ?_, ?_, State.setNib_nibs_eq _ _ _⟩
  · rw [State.th_setNib_self, Nib.subEnd_subs]
    exact Thread.subs_of_besideMem hbeside
  · rw [State.th_setNib_self, Nib.subEnd_pend _ _ _ fun h => hw ((Thread.st_of_besideMem hbeside).symm.trans h)]
    exact congrArg (· ||| 0x8#32) ((Thread.pend_of_besideMem hbeside).trans rfl)
  · rw [State.th_setNib_self, Nib.subEnd_scratch]

/-- A kind 2 submission that ends as `e` says: the record, the frame and the event of its thread, and CIPHER. -/
theorem State.cipherSubEnd_spec {icvOk : Bool} {e : State × Nat × Option (List Byte × Nat)}
    (hd : takeSub 2 (s.th u i).deadSubs = none) (hs : takeSub 2 (s.th u i).subs = some (b, rest))
    (he : s.cipherEnd u i b icvOk = e) :
    ∃ r, s.cipherSubEnd u i icvOk = r ∧ (r.th u i).subs = rest
      ∧ ((s.th u i).st ≠ .waiting → (r.th u i).pend = (s.th u i).pend ||| 0x4#32)
      ∧ mget (r.th u i).scratch (b.addr + 1) 0 = BitVec.ofNat 8 e.2.1 ∧ r.k.cipher = e.1.k.cipher ∧ r.q.cipher = e.1.q.cipher
      ∧ (e.2.2 = none → (r.th u i).frame = (s.th u i).frame)
      ∧ ∀ bs seq, e.2.2 = some (bs, seq) → (r.th u i).frame = (s.th u i).frame.map (fun f => { f with bytes := bs })
          ∧ memBytes (r.th u i).scratch (b.addr + 8) 2 = leBytes 2 bs.length
          ∧ memBytes (r.th u i).scratch (b.addr + 16) 8 = leBytes 8 seq := by
  have heq := State.cipherSubEnd_eq (icvOk := icvOk) (Thread.oldestSub_eq hd hs) rfl rfl
  have hself := (s.nib u).th_setTh_self i ((s.th u i).withSubs rest)
  rw [he] at heq
  generalize (s.nib u).setTh i ((s.th u i).withSubs rest) = x at heq hself
  have hbeside : ((x.espWritten i b e.2.2).th i).besideMem = ((s.th u i).withSubs rest).besideMem := by
    rw [Nib.espWritten_besideMem, hself]
  refine ⟨_, heq, ?_, fun hw => ?_, ?_, rfl, rfl, fun hn => ?_, fun bs seq hy => ?_⟩
  · rw [State.th_setNib_self, Nib.subEnd_subs]
    exact Thread.subs_of_besideMem hbeside
  · rw [State.th_setNib_self, Nib.subEnd_pend _ _ _ fun h => hw ((Thread.st_of_besideMem hbeside).symm.trans h)]
    exact congrArg (· ||| 0x4#32) ((Thread.pend_of_besideMem hbeside).trans rfl)
  · rw [State.th_setNib_self, Nib.subEnd_status]
  · rw [State.th_setNib_self, Nib.subEnd_frame, hn, Nib.espWritten, hself]
    rfl
  · rw [State.th_setNib_self, Nib.subEnd_frame, Nib.subEnd_scratch, hy, Nib.espWritten_some, hself]
    exact ⟨rfl, memBytes_esp _ _ _ _ _⟩

end

section
variable {s : State} {u i : Nat}

/-- A frame delivered: the thread that takes it, the counter of its class, and nothing else. -/
theorem State.deliver_spec (y : Nib) (c : Nat) (f : Frame) (hy : ∀ j, y.th j = (s.nib u).th j) :
    ∃ r, (s.setNib u (y.deliver c i f)).countNib u c 1 = r ∧ (r.nib u).waits = y.waits
      ∧ (r.th u i).frame = some f ∧ (r.th u i).st = .running ∧ (r.th u i).frameExc = decide (c = 2)
      ∧ (r.th u i).pc = (if c = 1 then (y.entry (mdAprog f.md)).getD 0 else y.img 24 4)
      ∧ (r.th u i).reg 1 = BitVec.ofNat 64 (if c = 1 then mdAprog f.md else f.reason % 256 * 256 + f.detail % 256)
      ∧ (r.th u i).reg 2 = BitVec.ofNat 64 f.bytes.length ∧ r.cnt (0x6400 + u) c = s.cnt (0x6400 + u) c + 1
      ∧ (∀ j, j ≠ i → r.th u j = s.th u j) ∧ { r with nibs := s.nibs, stat := s.stat } = s := by
  obtain ⟨h1, h2⟩ := y.deliver_regs c i f
  refine ⟨_, rfl, ?_, ?_, ?_, ?_, ?_, ?_, ?_, ?_, fun j hj => ?_, State.setNib_countNib_beside _ _ _ _⟩
  · rw [State.nib_countNib, State.nib_setNib_self]
    rfl
  · rw [State.th_countNib, State.th_setNib_self, Nib.th_deliver_self]
  · rw [State.th_countNib, State.th_setNib_self, Nib.th_deliver_self]
  · rw [State.th_countNib, State.th_setNib_self, Nib.th_deliver_self]
  · rw [State.th_countNib, State.th_setNib_self, Nib.th_deliver_self]
  · rw [State.th_countNib, State.th_setNib_self, h1]
  · rw [State.th_countNib, State.th_setNib_self, h2]
  · rw [State.cnt_countNib_self, State.cnt_setNib]
  · rw [State.th_countNib, State.th_setNib_self, Nib.th_deliver_of_ne _ _ _ hj, hy, State.th]

/-- An event of a thread that has been changed: what becomes of it and of the others. -/
theorem Nib.event_spec (x : Nib) (t : Thread) (n : Nat) : (((x.setTh i t).event i n).th i).besideWait = t.besideWait
    ∧ (t.st ≠ .waiting → ((x.setTh i t).event i n).th i = t.pended n)
    ∧ ∀ j, j ≠ i → ((x.setTh i t).event i n).th j = x.th j := by
  have hself := x.th_setTh_self i t
  refine ⟨?_, fun hw => ?_, fun j hj => ?_⟩
  · rw [Nib.event_besideWait, hself]
  · rw [Nib.th_event_of_not_waiting (by rw [hself]; exact hw), hself]
  · rw [Nib.th_event_of_ne hj, Nib.th_setTh_of_ne _ _ hj]

theorem Thread.unstall_st {t : Thread} {st : ThSt} (h : t.st = st) : (t.unstall st).st = .running := by
  rw [Thread.unstall, if_pos h]

theorem State.setNib_fresher_beside (x : Nib) : { (s.setNib u x).fresher with nibs := s.nibs, fresh := s.fresh } = s := rfl

/-- A lookup that ends: its thread has the result and the event. -/
theorem State.tblReady_spec {k key : Nat} (hl : (s.th u i).lookup = some (k, key)) (ha : s.active (nibHalf u) 7 = true) :
    ∃ r, s.tblReady u i = r ∧ (r.th u i).lookup = none ∧ (r.th u i).result = some (s.tqResult (nibHalf u) k key)
      ∧ ((s.th u i).st = .stallTr → (r.th u i).st = .running)
      ∧ ((s.th u i).st ≠ .waiting → (r.th u i).pend = (s.th u i).pend ||| 0x2#32)
      ∧ (∀ j, j ≠ i → r.th u j = s.th u j) ∧ { r with nibs := s.nibs, fresh := s.fresh } = s := by
  obtain ⟨hbeside, hgoes, hothers⟩ := (s.nib u).event_spec (i := i) ((s.th u i).withResult (s.tqResult (nibHalf u) k key)) 1
  refine ⟨_, State.tblReady_eq hl ha, ?_, ?_, fun hw => ?_, fun hw => ?_, fun j hj => ?_, State.setNib_fresher_beside _⟩
  all_goals rw [State.th_of_nibs (State.fresher_nibs _), State.th_setNib_self]
  · exact (Thread.lookup_of_besideWait hbeside).trans rfl
  · exact (Thread.result_of_besideWait hbeside).trans rfl
  · rw [hgoes (Thread.unstall_st_ne_waiting (by rw [hw]; decide))]
    exact Thread.unstall_st hw
  · rw [hgoes (Thread.unstall_st_ne_waiting hw)]
    exact congrArg (· ||| 0x2#32) (Thread.unstall_pend _ _)
  · exact hothers j hj

theorem State.timerFire_spec {d : Nat} (ht : (s.th u i).timer = some d) :
    ∃ r, s.timerFire u i = r ∧ d ≤ r.time (nibHalf u) ∧ (r.th u i).timer = none
      ∧ ((s.th u i).st ≠ .waiting → (r.th u i).pend = (s.th u i).pend ||| 0x10#32)
      ∧ ((s.th u i).st = .waiting → (s.th u i).halted = none → (s.th u i).mask.getLsbD 4 = true → (r.th u i).st = .running)
      ∧ (∀ j, j ≠ i → r.th u j = s.th u j) ∧ r.out = s.out := by
  obtain ⟨hbeside, hgoes, hothers⟩ := (s.nib u).event_spec (i := i) { s.th u i with timer := none } 4
  have hself := (s.nib u).th_setTh_self i { s.th u i with timer := none }
  refine ⟨_, State.timerFire_eq ht, ?_, ?_, fun hw => ?_, fun hw hh hm => ?_, fun j hj => ?_, rfl⟩
  · rw [State.time_setNib]
    exact State.le_time_until _ _ _
  · rw [State.th_setNib_self]
    exact (Thread.timer_of_besideWait hbeside).trans rfl
  · rw [State.th_setNib_self, hgoes hw]
    rfl
  · rw [State.th_setNib_self]
    exact (Nib.event_wakes (by decide) (by decide) (by rw [hself]; exact hw)
      (by rw [hself]; exact hh) (by rw [hself]; exact hm)).1
  · rw [State.th_setNib_self]
    exact hothers j hj

/-- The stalemate detector: its event in thread 0, its counter and its time. -/
theorem State.stalemate_spec (hr : s.nibRuns u = true) (hs : (s.nib u).stale = true) (hf : (s.nib u).staleFired = false) :
    ∃ r, s.stalemate u = r ∧ r.nib u = (s.nib u).fired.event 0 8
      ∧ r.cnt (0x6400 + u) 9 = s.cnt (0x6400 + u) 9 + 1 ∧ (s.nib u).waitsSince + 10000 ≤ r.time (nibHalf u) := by
  have hlog := ((s.until (nibHalf u) ((s.nib u).waitsSince + 10000)).setNib u
    ((s.nib u).fired.event 0 8)).log_besideQueues (code := 0x8000) (unit := unitId (nibHalf u) (u % 4))
    (action := 0) (detail := 0) (show 0 < 3 by decide)
  refine ⟨_, State.stalemate_eq hr hs hf, ?_, ?_, ?_⟩
  · rw [State.nib_countNib, State.nib_of_nibs (State.nibs_of_besideQueues hlog), State.nib_setNib_self]
  · rw [State.cnt_countNib_self, State.cnt_of_besideQueues hlog, State.cnt_setNib, State.until_cnt]
  · rw [State.countNib, State.time, State.count_half, ← State.time, State.time_of_besideQueues hlog, State.time_setNib]
    exact State.le_time_until _ _ _

theorem State.unit_until (h g : Half) (d n : Nat) : (s.until h d).unit g n = s.unit g n := by
  cases g <;> rfl

/-- A unit that has drained for 1 ms holds no frame (R247). -/
theorem State.drainLimit_spec (hd : (s.unit (nibHalf u) (u % 4)).st = .draining) :
    ∃ r, s.drainLimit u = r ∧ (s.unit (nibHalf u) (u % 4)).since + 1000000 ≤ r.time (nibHalf u)
      ∧ (r.nib u).waits = ([], []) ∧ ∀ i, i < 64 → (r.th u i).frame = none := by
  have hreset := (s.until (nibHalf u) ((s.unit (nibHalf u) (u % 4)).since + 1000000)).resetHolders_besideFrames u
  have hact : ((s.until (nibHalf u) ((s.unit (nibHalf u) (u % 4)).since + 1000000)).resetHolders u).active (nibHalf u) (u % 4)
      = false := by
    rw [State.active_of_besideFrames hreset, State.active, State.unit_until, hd]
    decide
  obtain ⟨hbeside, hwaits, hframe⟩ := State.dropWaiting_spec hact
  refine ⟨_, if_pos hd, ?_, hwaits, fun i hi => ?_⟩
  · rw [State.time_of_besideFrames (hbeside.trans hreset)]
    exact State.le_time_until _ _ _
  · rw [hframe]
    exact State.resetHolders_frame (.inl (List.mem_range.mpr hi))

end

/-- Settles O34, by what each event finds in the thread that it reaches. -/
theorem nibUnitEvents : Obligations.NibUnitEvents := by
  refine ⟨fun s u f rest i hr => ⟨fun hw ht => ?_, fun hw ht => ?_⟩, fun s t k key hl ha => ?_,
    fun s t b rest n src dst hd hs hn hsrc hdst => ?_, fun s s2 t icvOk b rest f rec st y hd hs hrec => ?_,
    fun s t d ht => ?_, fun s u hr hs hf => ?_, fun s u hdr => ?_⟩
  · obtain ⟨r, he, hwaits, hframe, hst, hexc, hpc, h1, h2, hcnt, hothers, hrest⟩ :=
      State.deliver_spec (s := s) (u := u.val) (i := i) { s.nib u.val with waitD := rest } 1 f fun j => rfl
    exact ⟨r, congrArg Host.Outcome.next ((State.frameDeliver_dispatch hr hw ht).trans he), congrArg Prod.fst hwaits,
      hframe, hst, hexc,
      hpc, h1, h2, hcnt, hothers, hrest⟩
  · obtain ⟨r, he, hwaits, hframe, hst, hexc, hpc, h1, h2, hcnt, hothers, hrest⟩ :=
      State.deliver_spec (s := s) (u := u.val) (i := i) { s.nib u.val with waitE := rest } 2 f fun j => rfl
    exact ⟨r, congrArg Host.Outcome.next ((State.frameDeliver_exception hr hw ht).trans he), congrArg Prod.snd hwaits,
      hframe, hst, hexc,
      hpc, h1, h2, hcnt, hothers, hrest⟩
  · obtain ⟨r, he, hlookup, hresult, hstall, hpend, hothers, hrest⟩ := State.tblReady_spec hl ha
    exact ⟨r, _, congrArg Host.Outcome.next he, hlookup, hresult, s.tqResult_unknown _ _ _,
      fun hlo hhi hm => s.tqResult_miss _ _ hlo hhi hm, fun a hlo hhi hm => s.tqResult_hit _ _ hlo hhi hm, hstall,
        hpend, hothers, hrest⟩
  · simp only [State.thr] at hd hs hn hsrc hdst ⊢
    have hself := (s.nib t.unit.val).th_setTh_self t.slot.val ((s.th t.unit.val t.slot.val).withSubs rest)
    generalize hx : (s.nib t.unit.val).setTh t.slot.val ((s.th t.unit.val t.slot.val).withSubs rest) = x at hself
    have hscr : (x.th t.slot.val).scratch = (s.th t.unit.val t.slot.val).scratch := (congrArg Thread.scratch hself).trans rfl
    rw [← hscr] at hn hsrc hdst
    obtain ⟨r, he, hsubs, hpend, hscratch, hrest⟩ := State.copySubEnd_spec hd hs hx
    refine ⟨r, congrArg Host.Outcome.next he, hsubs, hpend, fun hr => ?_, fun h1 h2 h3 => ?_, hrest⟩
    · rw [hscratch, mget_memPut_single, if_pos rfl, Nib.copyWithin_range hn hr]
    · obtain ⟨y, hy, hys⟩ := Nib.copyWithin_ok hn hsrc hdst h1 h2 h3
      rw [hscratch, hy]
      refine ⟨by rw [mget_memPut_single, if_pos rfl], fun j hj hne => ?_⟩
      have hlen : (memBytes (x.th t.slot.val).scratch src n).length = n := by
        rw [memBytes, List.length_map, List.length_range]
      rw [mget_memPut_single, if_neg hne, hys, mget_memPut, if_pos (by omega), Nat.add_sub_cancel_left, hscr, memBytes,
        List.getD_eq_getElem?_getD, List.getElem?_map, List.getElem?_range hj]
      rfl
  · obtain ⟨r, he, hsubs, hpend, hst, hk, hq, hnone, hsome⟩ := State.cipherSubEnd_spec (icvOk := icvOk) hd hs rfl
    refine ⟨r, congrArg Host.Outcome.next he, hsubs, hpend, fun hw => ?_, fun hw h1 h2 => ?_, fun hw hf hb hop => ?_⟩
    · have hend : s.cipherEnd t.unit.val t.slot.val b icvOk = (s, stMedia, none) := if_neg (by rw [hw]; decide)
      rw [hend] at hst hnone
      exact ⟨hst, hnone rfl⟩
    · have hend : s.cipherEnd t.unit.val t.slot.val b icvOk = (s, stMalformed, none) :=
        (if_pos hw).trans (State.cipherOp_undefined hrec h1 h2)
      rw [hend] at hst hnone
      exact ⟨hst, hnone rfl⟩
    · have hend : s.cipherEnd t.unit.val t.slot.val b icvOk = (s2, st, y) := by
        rcases hop with ⟨h1, h2⟩ | ⟨h1, h2⟩
        · exact ((if_pos hw).trans (State.cipherOp_out hrec hf hb h1)).trans h2
        · exact ((if_pos hw).trans (State.cipherOp_in hrec hf hb h1)).trans h2
      rw [hend] at hst hk hq hnone hsome
      rw [show (s.th t.unit.val t.slot.val).frame = some f from hf] at hnone hsome
      exact ⟨hst, hk, hq, hnone, hsome⟩
  · obtain ⟨r, he, htime, htimer, hpend, hwakes, hothers, hout⟩ := State.timerFire_spec ht
    exact ⟨r, congrArg Host.Outcome.next he, htime, htimer, hpend, hwakes, hothers, hout⟩
  · obtain ⟨r, he, hnib, hcnt, htime⟩ := State.stalemate_spec hr hs hf
    have hth : ∀ j, r.th u.val j = ((s.nib u.val).fired.event 0 8).th j := fun j => congrArg (Nib.th · j) hnib
    refine ⟨r, congrArg Host.Outcome.next he, hcnt, fun e hm hl => ?_, fun hw hh hm => ?_, fun hw => ⟨?_, ?_⟩, fun j hj => ?_⟩
    · exact (Nat.add_le_add_right (Nib.since_le_waitsSince hm hl) _).trans htime
    · rw [hth]
      exact (Nib.event_wakes (x := (s.nib u.val).fired) (by decide) (by decide) hw hh hm).1
    · rw [hth, Nib.th_event_of_not_waiting (x := (s.nib u.val).fired) hw]
      rfl
    · rw [hnib, Nib.event_of_not_waiting (x := (s.nib u.val).fired) hw]
      rfl
    · rw [hth, Nib.th_event_of_ne hj]
      rfl
  · obtain ⟨r, he, htime, hwaits, hframe⟩ := State.drainLimit_spec hdr
    exact ⟨r, congrArg Host.Outcome.next he, htime, congrArg Prod.fst hwaits, congrArg Prod.snd hwaits, hframe⟩

end Sys2Proof.Machine
end

section
/-! SUPPORT. The load and install of an action image, and the debug commands (09 R244 to R250). -/

namespace Sys2Proof.Machine
open Sys2Proof

/-! ### Load commands (R250) -/

section
variable {s r : State} {w : Who} {v : Byte} {f : State → Load → Option State}

/-- A load command of the session that owns the load: done, or refused. -/
theorem State.loadCmd_done (hg : s.grants w 0xA700 3 [v] = true) (hb : s.mgmt.nibLoad.busy = false)
    (ho : s.mgmt.nibLoad.owner = some w.sess) (hf : f (s.accepted w) s.mgmt.nibLoad = some r) :
    s.loadCmd w v f = .next (r.emit (.resp w.sess rsOk [])) :=
  State.write_done hg hb rfl ((if_pos ho).trans hf)

theorem State.loadCmd_refused (hg : s.grants w 0xA700 3 [v] = true) (hb : s.mgmt.nibLoad.busy = false)
    (ho : s.mgmt.nibLoad.owner = some w.sess) (hf : f (s.accepted w) s.mgmt.nibLoad = none) :
    s.loadCmd w v f = .next ((s.accepted w).emit (.resp w.sess rsRefused [])) :=
  State.write_refused hg hb rfl ((if_pos ho).trans hf)

end

/-! ### Threads of a unit whose image is installed (R246) -/

/-- A thread without a frame, without staged words, with its scratch zero. -/
def Thread.bare (t : Thread) : Prop := t.frame = none ∧ t.staged = none ∧ t.scratch = []

theorem Thread.fresh_bare (t : Thread) : t.fresh.bare := ⟨rfl, rfl, rfl⟩

theorem mget_map_of {α : Type} {P : α → Prop} {g : α → α} {d : α} (hg : ∀ v, P (g v)) (hd : P d) (m : Map α) (k : Nat) :
    P (mget (m.map fun e => (e.1, g e.2)) k d) := by
  induction m with
  | nil => exact hd
  | cons e rest ih =>
    simp only [List.map_cons, mget]
    split
    · exact hg _
    · exact ih

section
variable (x : Nib) (i j now : Nat)

/-- A restart changes its own thread alone, and of it the registers and what it does. -/
theorem Nib.restart_eq : ∃ t, x.restart i now = x.setTh i t ∧ t.regs = [] ∧ t.frame = (x.th i).frame
    ∧ t.staged = (x.th i).staged ∧ t.scratch = (x.th i).scratch ∧ t.halted = (x.th i).halted ∧ t.timer = (x.th i).timer
    ∧ t.pend = (x.th i).pend := by
  simp only [Nib.restart]
  split
  · exact ⟨_, rfl, rfl, rfl, rfl, rfl, rfl, rfl, rfl⟩
  · split
    · exact ⟨_, rfl, rfl, rfl, rfl, rfl, rfl, rfl, rfl⟩
    · exact ⟨_, rfl, rfl, rfl, rfl, rfl, rfl, rfl, rfl⟩

/-- A thread slot of a unit whose image is installed: its start, with the registers it had. -/
def Nib.placed (now : Nat) (x : Nib) (i : Nat) : Nib :=
  (x.restart i now).setTh i { (x.restart i now).th i with regs := (x.th i).regs }

theorem Nib.placed_eq : ∃ t, x.placed now i = (x.restart i now).setTh i t ∧ (∃ y, x.restart i now = x.setTh i y)
    ∧ ((x.th i).bare → t.bare) := by
  obtain ⟨t, ht, -, hframe, hstaged, hscratch, -⟩ := x.restart_eq i now
  refine ⟨_, rfl, ⟨t, ht⟩, fun ⟨h1, h2, h3⟩ => ?_⟩
  rw [ht, Nib.th_setTh_self]
  exact ⟨hframe.trans h1, hstaged.trans h2, hscratch.trans h3⟩

/-- What the placing of a thread leaves of its unit. -/
def Nib.besideThreads (x : Nib) : Nib := { x with threads := [] }

theorem Nib.placed_spec (hx : ∀ j, (x.th j).bare) :
    (x.placed now i).besideThreads = x.besideThreads ∧ ∀ j, ((x.placed now i).th j).bare := by
  obtain ⟨t, ht, ⟨y, hy⟩, hbare⟩ := x.placed_eq i now
  rw [ht, hy]
  refine ⟨rfl, fun j => ?_⟩
  by_cases hj : j = i
  · subst hj
    rw [Nib.th_setTh_self]
    exact hbare (hx j)
  · rw [Nib.th_setTh_of_ne _ _ hj, Nib.th_setTh_of_ne _ _ hj]
    exact hx j

/-- A unit as an install leaves it before its threads take their places. -/
def Nib.imaged (x : Nib) (p : List Byte) : Nib :=
  { x with
    image := some (slice p 0 1152)
    digest := (Config.sha384 p).toNat
    code := wordMap (imCodeLen p / 4) (p.drop 1152) ++ x.code.filter fun e => imCodeLen p / 4 ≤ e.1
    shared := byteMap (slice p (1152 + imCodeLen p) (imDataLen p))
    overflow := if x.img 20 2 = imOverflow p then x.overflow else []
    lost := if x.img 20 2 = imOverflow p then x.lost else none
    threads := x.threads.map fun e => (e.1, e.2.fresh)
    chans := [], locks := [], waitD := [], waitE := [], staleFired := false }

theorem Nib.install_eq (p : List Byte) : x.install p now = (List.range 64).foldl (Nib.placed now) (x.imaged p) := rfl

theorem Nib.install_spec (p : List Byte) :
    (x.install p now).besideThreads = (x.imaged p).besideThreads ∧ ∀ j, ((x.install p now).th j).bare := by
  have hbare : ∀ j, ((x.imaged p).th j).bare := fun j =>
    mget_map_of (P := Thread.bare) (d := {}) Thread.fresh_bare ⟨rfl, rfl, rfl⟩ x.threads j
  rw [Nib.install_eq]
  refine List.foldlRecOn (motive := fun y : Nib => y.besideThreads = (x.imaged p).besideThreads ∧ ∀ j, (y.th j).bare) _ _
    ⟨rfl, hbare⟩ fun y ⟨hy, hyb⟩ i _ => ?_
  obtain ⟨h1, h2⟩ := y.placed_spec i now hyb
  exact ⟨h1.trans hy, h2⟩

end

/-! ### The code store of an image (R244, R246) -/

theorem mget_of_absent {α : Type} {m : Map α} {k : Nat} {d : α} (h : ∀ e ∈ m, e.1 ≠ k) : mget m k d = d := by
  induction m with
  | nil => rfl
  | cons e rest ih =>
    obtain ⟨a, v⟩ := e
    have ha : a ≠ k := h (a, v) List.mem_cons_self
    simp only [mget, if_neg ha]
    exact ih fun e he => h e (List.mem_cons_of_mem _ he)

theorem mget_append_of_absent {α : Type} {m n : Map α} {k : Nat} {d : α} (h : ∀ e ∈ n, e.1 ≠ k) :
    mget (m ++ n) k d = mget m k d := by
  induction m with
  | nil => exact mget_of_absent h
  | cons e rest ih =>
    obtain ⟨a, v⟩ := e
    simp only [List.cons_append, mget, ih]

/-- A table of the values of a function, those that are zero not listed. -/
theorem mget_filter_map {α : Type} [DecidableEq α] {d : α} (g : Nat → α) (l : List Nat) {k : Nat} (hk : k ∈ l) :
    mget ((l.map fun i => (i, g i)).filter fun e => e.2 ≠ d) k d = g k := by
  by_cases hd : g k = d
  · have habsent : ∀ e ∈ (l.map fun i => (i, g i)).filter fun e => e.2 ≠ d, e.1 ≠ k := by
      intro e he hek
      obtain ⟨hm, hne⟩ := List.mem_filter.mp he
      obtain ⟨i, -, rfl⟩ := List.mem_map.mp hm
      subst hek
      exact absurd hd (by simpa using hne)
    rw [hd, mget_of_absent habsent]
  · induction l with
    | nil => cases hk
    | cons i l ih =>
      by_cases hik : i = k
      · subst hik
        simp [hd, mget]
      · have hrec := ih ((List.mem_cons.mp hk).resolve_left (Ne.symm hik))
        by_cases hi : g i = d
        · simpa [hi] using hrec
        · simpa [hi, mget, hik] using hrec

theorem slice_drop (bs : List Byte) (n off len : Nat) : slice (bs.drop n) off len = slice bs (n + off) len := by
  refine List.map_congr_left fun i _ => ?_
  rw [List.getD_eq_getElem?_getD, List.getD_eq_getElem?_getD, List.getElem?_drop, Nat.add_assoc]

theorem Nib.imaged_code (x : Nib) (p : List Byte) {i : Nat} (hi : i < imCodeLen p / 4) :
    mget (x.imaged p).code i 0 = BitVec.ofNat 32 (beAt p (1152 + 4 * i) 4) := by
  have habsent : ∀ e ∈ x.code.filter fun e => imCodeLen p / 4 ≤ e.1, e.1 ≠ i := fun e he hei => by
    have hle := (List.mem_filter.mp he).2
    simp only [decide_eq_true_eq] at hle
    omega
  refine (mget_append_of_absent habsent).trans ?_
  refine (mget_filter_map (fun i => BitVec.ofNat 32 (beAt (p.drop 1152) (4 * i) 4)) _ (List.mem_range.mpr hi)).trans ?_
  rw [beAt, slice_drop, beAt]

/-! ### Debug commands (R248 to R250) -/

theorem State.dbgThread_accepted (s : State) (w : Who) (ss : Session) : (s.accepted w).dbgThread ss = s.dbgThread ss := by
  rw [State.dbgThread, State.sel_accepted, State.dbgThread]

section
variable {s r : State} {w : Who} {v : Byte} {u i : Nat} {f : State → Nat → Nat → Option State}
  (hg : s.grants w 0xA720 2 [v] = true) (hd : s.dbgThread w.sess = (u, i)) (hsp : s.cstl.split = false)
include hg hd hsp

/-- A debug command on the selected thread: done, or refused. -/
theorem State.dbgCmd_done (hf : f (s.accepted w) u i = some r) : s.dbgCmd w v f = .next (r.emit (.resp w.sess rsOk [])) := by
  have hreach : ¬ ((s.accepted w).cstl.split = true ∧ nibHalf u ≠ (s.accepted w).server w.sess) := fun h =>
    absurd (hsp.symm.trans h.1) (by decide)
  refine State.write_done hg rfl rfl ?_
  simp only [State.dbgThread_accepted, hd]
  exact (if_neg hreach).trans hf

theorem State.dbgCmd_refused (hf : f (s.accepted w) u i = none) :
    s.dbgCmd w v f = .next ((s.accepted w).emit (.resp w.sess rsRefused [])) := by
  have hreach : ¬ ((s.accepted w).cstl.split = true ∧ nibHalf u ≠ (s.accepted w).server w.sess) := fun h =>
    absurd (hsp.symm.trans h.1) (by decide)
  refine State.write_refused hg rfl rfl ?_
  simp only [State.dbgThread_accepted, hd]
  exact (if_neg hreach).trans hf

end

section
variable (s : State) (w : Who) (u i : Nat) (x : Thread) (o : Output)

/-- A debug command that replaces its thread: that thread, the others, and nothing else. -/
theorem State.setTh_emit_th_self : (((s.accepted w).setTh u i x).emit o).th u i = x := State.th_setTh_self _ _ _ _

variable {i} in
theorem State.setTh_emit_th_of_ne {j : Nat} (h : j ≠ i) : (((s.accepted w).setTh u i x).emit o).th u j = s.th u j :=
  State.th_setTh_of_ne _ _ _ h

theorem State.setTh_emit_quiet : { (((s.accepted w).setTh u i x).emit o).quiet with nibs := s.nibs } = s.quiet := rfl

end

/-- A thread as it resumes where it ran: it passes the breakpoint it stands at (R249). -/
def Thread.resumed (t : Thread) : Thread := { t with halted := none, skip := true }

theorem Nib.resume_of_running {x : Nib} {i : Nat} (hr : (x.th i).st = .running) :
    x.resume i = x.setTh i (x.th i).resumed := by
  have hself := x.th_setTh_self i (x.th i).resumed
  have hwake : (x.setTh i (x.th i).resumed).wake i = x.setTh i (x.th i).resumed :=
    Nib.wake_of_not_waiting (by rw [hself]; exact fun h => absurd (hr.symm.trans h) (by decide))
  have hlock : ((x.setTh i (x.th i).resumed).th i).st ≠ .waitLock := by
    rw [hself]
    exact fun h => absurd (hr.symm.trans h) (by decide)
  change (match ((x.setTh i (x.th i).resumed).wake i).heldLock i with
    | some (n, true) => if (((x.setTh i (x.th i).resumed).wake i).th i).st = ThSt.waitLock
        then ((x.setTh i (x.th i).resumed).wake i).newHead n else (x.setTh i (x.th i).resumed).wake i
    | _ => (x.setTh i (x.th i).resumed).wake i) = _
  rw [hwake]
  split
  · exact if_neg hlock
  · rfl

theorem State.nibDo_of_ok {s r : State} {u i : Nat} {f : NibFn} {c : BitVec 32}
    (h : f (s.setTh u i { s.th u i with skip := false }) u i c = .ok r) : s.nibDo u i f c = r := by
  simp only [State.nibDo, h]

theorem State.stepThread_eq {s : State} {u i : Nat} {c : BitVec 32} {f : NibFn} (hf : (s.nib u).fetch (s.th u i).pc = some c)
    (hm : nibMeaning c = some f) : s.stepThread u i = s.nibDo u i f c := by
  simp only [State.stepThread, hf, hm]

/-- One instruction of a thread that resumes (R249). -/
theorem State.step_resumed {s r : State} {u i : Nat} {c : BitVec 32} {f : NibFn} (hst : (s.th u i).st = .running)
    (hr : s.nibRuns u = true) (hf : (s.nib u).fetch (s.th u i).pc = some c) (hm : nibMeaning c = some f)
    (hdo : f (s.setTh u i { s.th u i with halted := none, skip := false }) u i c = .ok r) :
    (s.setTh u i (s.th u i).resumed).ready u i = true ∧ (s.setTh u i (s.th u i).resumed).stepThread u i = r := by
  have hself := s.th_setTh_self u i (s.th u i).resumed
  have hne : (s.th u i).resumed ≠ {} := Thread.ne_default_of_running hst
  constructor
  · have hruns : (s.setTh u i (s.th u i).resumed).nibRuns u = true := hr
    have hready : (s.th u i).resumed.st = .running := hst
    rw [State.ready, hself, hruns, decide_eq_true hready]
    rfl
  · have hfetch : ((s.setTh u i (s.th u i).resumed).nib u).fetch ((s.setTh u i (s.th u i).resumed).th u i).pc = some c := by
      rw [hself, State.nib_setTh_self]
      exact hf
    rw [State.stepThread_eq hfetch hm]
    refine State.nibDo_of_ok ?_
    rw [hself, State.setTh_setTh _ _ _ hne]
    exact hdo

/-- What a restart leaves of its thread (R243). -/
theorem State.restartThread_cleared (s : State) (u i a b : Nat) : ((s.restartThread u i a b).th u i).staged = none
    ∧ ((s.restartThread u i a b).th u i).timer = none ∧ ((s.restartThread u i a b).th u i).pend = 0
    ∧ ((s.restartThread u i a b).th u i).regs = [] := by
  obtain ⟨t, ht, hregs, -, hstaged, -, -, htimer, hpend⟩ :=
    Nib.restart_eq (((s.dropHeld u i a b).nib u).setTh i (((s.dropHeld u i a b).nib u).th i).clear) i (s.time (nibHalf u))
  rw [Nib.th_setTh_self] at hstaged htimer hpend
  rw [State.restartThread, State.th_setNib_self, ht]
  split
  · rw [Nib.th_setTh_self, Nib.th_setTh_self]
    exact ⟨hstaged, htimer, hpend, hregs⟩
  · rw [Nib.th_setTh_self]
    exact ⟨hstaged, htimer, hpend, hregs⟩

theorem Thread.reg_of_regs_nil {t : Thread} (h : t.regs = []) (r : Nat) : t.reg r = 0 := by
  rw [Thread.reg, h]
  split <;> rfl

/-! ### The load, command by command (R245, R246, R250) -/

section
variable (s : State) (w : Who) (l : Load) (o : Output)

theorem State.setNibLoad_emit_quiet :
    { (((s.accepted w).setNibLoad l).emit o).quiet with mgmt := s.quiet.mgmt } = s.quiet := rfl

theorem State.setNibLoad_nib (u : Nat) : (s.setNibLoad l).nib u = s.nib u := rfl

theorem State.loadTarget_accepted (ss : Session) : (s.accepted w).loadTarget ss = s.loadTarget ss := by
  rw [State.loadTarget, State.sel_accepted, State.loadTarget]

end

section
variable {s : State} {w : Who} (hb : s.mgmt.nibLoad.busy = false)
include hb

theorem exec_loadDataWrite {bs : List Byte} (hg : s.grants w 0xA700 2 bs = true) (hm : s.mgmt.nibLoad.mine w.sess = true)
    (hlen : s.mgmt.nibLoad.buf.length + bs.length ≤ 4194304) : exec (.loadDataWrite w bs) s = .next
      (((s.accepted w).setNibLoad { s.mgmt.nibLoad with
        owner := some w.sess, buf := s.mgmt.nibLoad.buf ++ bs, verified := false }).emit (.resp w.sess rsOk [])) := by
  have hfit : ¬ (s.mgmt.nibLoad.mine w.sess = false ∨ 4194304 < s.mgmt.nibLoad.buf.length + bs.length) := by
    rw [hm, Nat.not_lt.mpr hlen |> eq_false]
    decide
  exact State.write_done hg hb rfl (if_neg hfit)

theorem exec_loadBegin (hg : s.grants w 0xA700 3 [1] = true) (hm : s.mgmt.nibLoad.mine w.sess = true) :
    exec (.loadBegin w) s = .next
    (((s.accepted w).setNibLoad { owner := some w.sess, target := s.loadTarget w.sess }).emit (.resp w.sess rsOk [])) := by
  rw [← s.loadTarget_accepted w]
  exact State.write_done hg hb rfl (if_pos hm)

variable (ho : s.mgmt.nibLoad.owner = some w.sess)
include ho

theorem exec_loadVerify (hg : s.grants w 0xA700 3 [2] = true) : exec (.loadVerify w) s = .next
    (((s.accepted w).setNibLoad { s.mgmt.nibLoad with
      status := s.verifyAction s.mgmt.nibLoad.buf
      verified := decide (s.verifyAction s.mgmt.nibLoad.buf = stOk) }).emit (.resp w.sess rsOk [])) := by
  change execLoadVerify w s = _
  exact State.loadCmd_done hg hb ho rfl

theorem exec_loadCancel (hg : s.grants w 0xA700 3 [4] = true) : exec (.loadCancel w) s = .next
    (((s.accepted w).setNibLoad { status := s.mgmt.nibLoad.status }).emit (.resp w.sess rsOk [])) := by
  change execLoadCancel w s = _
  exact State.loadCmd_done hg hb ho rfl

section
variable (hg : s.grants w 0xA700 3 [3] = true)
include hg

theorem exec_loadInstall_unverified (hv : s.mgmt.nibLoad.verified = false) :
    exec (.loadInstall w) s = .next ((s.accepted w).emit (.resp w.sess rsRefused [])) := by
  change execLoadInstall w s = _
  exact State.loadCmd_refused hg hb ho (if_pos (.inl hv))

variable (hv : s.mgmt.nibLoad.verified = true) (hsp : s.cstl.split = false)
include hv hsp

omit hb ho hg in
/-- A load that is verified is not refused for its halves. -/
theorem State.install_reaches : ¬ (s.mgmt.nibLoad.verified = false
    ∨ ((s.accepted w).cstl.split = true ∧ nibHalf s.mgmt.nibLoad.target ≠ (s.accepted w).server w.sess)) := by
  rintro (h | ⟨h, -⟩)
  · exact absurd (hv.symm.trans h) (by decide)
  · exact absurd (hsp.symm.trans h) (by decide)

theorem exec_loadInstall_range (hi : s.installable s.mgmt.nibLoad.target = false) : exec (.loadInstall w) s = .next
    (((s.accepted w).setNibLoad { s.mgmt.nibLoad with status := stRange }).emit (.resp w.sess rsOk [])) := by
  change execLoadInstall w s = _
  exact State.loadCmd_done hg hb ho ((if_neg (State.install_reaches hv hsp)).trans (if_pos hi))

variable (hi : s.installable s.mgmt.nibLoad.target = true)
include hi

theorem exec_loadInstall_quota
    (hq : s.overflowFits s.mgmt.nibLoad.target (imOverflow (envPayload s.mgmt.nibLoad.buf)) = false) :
    exec (.loadInstall w) s = .next
      (((s.accepted w).setNibLoad { s.mgmt.nibLoad with status := stQuota }).emit (.resp w.sess rsOk [])) := by
  have hi' : ¬ (s.accepted w).installable s.mgmt.nibLoad.target = false := fun h => absurd (hi.symm.trans h) (by decide)
  change execLoadInstall w s = _
  exact State.loadCmd_done hg hb ho ((if_neg (State.install_reaches hv hsp)).trans ((if_neg hi').trans (if_pos hq)))

theorem exec_loadInstall_starts
    (hq : s.overflowFits s.mgmt.nibLoad.target (imOverflow (envPayload s.mgmt.nibLoad.buf)) = true) :
    exec (.loadInstall w) s = .next
      (((s.accepted w).setNibLoad { s.mgmt.nibLoad with busy := true, status := stOk }).emit (.resp w.sess rsOk [])) := by
  have hi' : ¬ (s.accepted w).installable s.mgmt.nibLoad.target = false := fun h => absurd (hi.symm.trans h) (by decide)
  have hq' : ¬ (s.accepted w).overflowFits s.mgmt.nibLoad.target (imOverflow (envPayload s.mgmt.nibLoad.buf)) = false :=
    fun h => absurd (hq.symm.trans h) (by decide)
  change execLoadInstall w s = _
  exact State.loadCmd_done hg hb ho ((if_neg (State.install_reaches hv hsp)).trans ((if_neg hi').trans (if_neg hq')))

end

end

theorem State.installDone_eq {s : State} {p : List Byte} (hb : s.mgmt.nibLoad.busy = true)
    (hi : s.installable s.mgmt.nibLoad.target = true) (hp : envPayload s.mgmt.nibLoad.buf = p) :
    s.installDone = (s.setNib s.mgmt.nibLoad.target ((s.nib s.mgmt.nibLoad.target).install p
      (s.time (nibHalf s.mgmt.nibLoad.target)))).setNibLoad { target := s.mgmt.nibLoad.target, status := stOk } := by
  simp only [State.installDone, hb, hi, hp, Bool.true_eq_false, if_false]

/-- An install that ends: the load, the image and the code, and the threads and queues of the unit (R246). -/
theorem State.installDone_spec {s : State} {p : List Byte} (hb : s.mgmt.nibLoad.busy = true)
    (hi : s.installable s.mgmt.nibLoad.target = true) (hp : p = envPayload s.mgmt.nibLoad.buf) :
    ∃ r, s.installDone = r ∧ r.mgmt.nibLoad = { target := s.mgmt.nibLoad.target, status := stOk }
      ∧ (r.nib s.mgmt.nibLoad.target).besideThreads = ((s.nib s.mgmt.nibLoad.target).imaged p).besideThreads
      ∧ (∀ j, (r.th s.mgmt.nibLoad.target j).bare) ∧ ∀ u, u ≠ s.mgmt.nibLoad.target → r.nib u = s.nib u := by
  obtain ⟨hbeside, hbare⟩ := (s.nib s.mgmt.nibLoad.target).install_spec (s.time (nibHalf s.mgmt.nibLoad.target)) p
  refine ⟨_, State.installDone_eq hb hi hp.symm, rfl, ?_, fun j => ?_, fun u hu => ?_⟩
  · rw [State.setNibLoad_nib, State.nib_setNib_self]
    exact hbeside
  · rw [State.th, State.setNibLoad_nib, State.nib_setNib_self]
    exact hbare j
  · rw [State.setNibLoad_nib, State.nib_setNib_of_ne hu]

/-! ### The debug commands, one by one (R249) -/

section
variable {s : State} {w : Who} {u i : Nat} (hd : s.dbgThread w.sess = (u, i)) (hsp : s.cstl.split = false)
include hd hsp

theorem exec_dbgHalt (hg : s.grants w 0xA720 2 [1] = true) (hh : (s.th u i).halted = none) : exec (.dbgHalt w) s
    = .next (((s.accepted w).setTh u i { s.th u i with halted := some 1 }).emit (.resp w.sess rsOk [])) := by
  have hn : ¬ ((s.accepted w).th u i).halted.isSome = true := fun h => by
    rw [show ((s.accepted w).th u i).halted = none from hh] at h
    cases h
  change execDbgHalt w s = _
  exact State.dbgCmd_done hg hd hsp (congrArg some (if_neg hn))

theorem exec_dbgResume (hg : s.grants w 0xA720 2 [2] = true) (hh : (s.th u i).halted.isSome = true)
    (hst : (s.th u i).st = .running) : exec (.dbgResume w) s
      = .next (((s.accepted w).setTh u i (s.th u i).resumed).emit (.resp w.sess rsOk [])) := by
  have hresume : ((s.accepted w).nib u).resume i = ((s.accepted w).nib u).setTh i (s.th u i).resumed :=
      Nib.resume_of_running hst
  change execDbgResume w s = _
  exact State.dbgCmd_done hg hd hsp (congrArg some ((if_pos hh).trans (congrArg ((s.accepted w).setNib u) hresume)))

theorem exec_dbgStep_refused (hg : s.grants w 0xA720 2 [3] = true) (hh : (s.th u i).halted = none) :
    exec (.dbgStep w) s = .next ((s.accepted w).emit (.resp w.sess rsRefused [])) := by
  have hn : ((s.accepted w).th u i).halted.isNone = true := Option.isNone_iff_eq_none.mpr hh
  change execDbgStep w s = _
  exact State.dbgCmd_refused hg hd hsp (if_pos hn)

theorem exec_dbgStep {c : BitVec 32} {f : NibFn} {r : State} (hg : s.grants w 0xA720 2 [3] = true)
    (hh : (s.th u i).halted.isSome = true) (hst : (s.th u i).st = .running) (hr : s.nibRuns u = true)
    (hf : (s.nib u).fetch (s.th u i).pc = some c) (hm : nibMeaning c = some f)
    (hdo : f ((s.accepted w).setTh u i { s.th u i with halted := none, skip := false }) u i c = .ok r)
    (hn : (r.th u i).halted = none) :
    exec (.dbgStep w) s = .next ((r.setTh u i { r.th u i with halted := some 4 }).emit (.resp w.sess rsOk [])) := by
  have hsome : ¬ ((s.accepted w).th u i).halted.isNone = true := fun h => by
    rw [Option.isNone_iff_eq_none.mp (show (s.th u i).halted.isNone = true from h)] at hh
    cases hh
  have hresume : (s.accepted w).setNib u (((s.accepted w).nib u).resume i) = (s.accepted w).setTh u i (s.th u i).resumed :=
    congrArg ((s.accepted w).setNib u) (Nib.resume_of_running hst)
  obtain ⟨hready, hstep⟩ := State.step_resumed (s := s.accepted w) (r := r) hst hr hf hm hdo
  have hcmd : (if ((s.accepted w).setTh u i (s.th u i).resumed).ready u i = true
      then ((s.accepted w).setTh u i (s.th u i).resumed).stepThread u i
        else (s.accepted w).setTh u i (s.th u i).resumed) = r :=
    (if_pos hready).trans hstep
  change execDbgStep w s = _
  refine State.dbgCmd_done hg hd hsp ((if_neg hsome).trans ?_)
  simp only [hresume, hcmd, hn, Option.getD_none]

theorem exec_dbgReset (hg : s.grants w 0xA720 2 [4] = true) : exec (.dbgReset w) s
    = .next ((((s.accepted w).setTh u i
      { s.th u i with halted := none }).restartThread u i 0x11 0).emit (.resp w.sess rsOk [])) := by
  change execDbgReset w s = _
  exact State.dbgCmd_done hg hd hsp rfl

theorem exec_dbgArm (hg : s.grants w 0xA720 2 [5] = true) : exec (.dbgArm w) s
    = .next (((s.accepted w).setTh u i { s.th u i with armed := true }).emit (.resp w.sess rsOk [])) := by
  change execDbgArm w s = _
  exact State.dbgCmd_done hg hd hsp rfl

theorem exec_dbgDisarm (hg : s.grants w 0xA720 2 [6] = true) : exec (.dbgDisarm w) s
    = .next (((s.accepted w).setTh u i { s.th u i with armed := false }).emit (.resp w.sess rsOk [])) := by
  change execDbgDisarm w s = _
  exact State.dbgCmd_done hg hd hsp rfl

end

/-- Settles O35, by the state of the load and of the selected thread. -/
theorem nibImagesAndDebug : Obligations.NibImagesAndDebug := by
  refine ⟨fun s w bs hg hb hm hlen => ⟨_, exec_loadDataWrite hb hg hm hlen, rfl, rfl, State.setNibLoad_emit_quiet _ _ _ _⟩,
    fun s w v hg hb => ⟨⟨_, rfl, fun hv => ?_⟩, ⟨_, rfl, fun hv => ?_⟩⟩,
    fun s w hb => ⟨fun hg hm => ⟨_, exec_loadBegin hb hg hm, rfl, rfl, State.setNibLoad_emit_quiet _ _ _ _⟩,
      fun hg ho => ⟨_, exec_loadVerify hb ho hg, rfl, rfl, State.setNibLoad_emit_quiet _ _ _ _⟩,
      fun hg ho hsp => ⟨_, rfl, fun hv => ?_, fun hv hi => ?_, fun hv hi hq => ?_, fun hv hi hq => ?_⟩,
      fun hg ho => ⟨_, exec_loadCancel hb ho hg, rfl, rfl, rfl, rfl⟩⟩,
    fun s p hb hi hp => ?_, fun s w u i hd hsp => ⟨fun hg hh => ?_, fun hg hh hst => ?_, fun hg hh => ?_,
      fun c f s2 hg hh hst hr hf hm hdo hn => ?_, fun hg => ?_, fun hg => ?_, fun hg => ?_⟩⟩
  · subst hv
    rw [exec_unique (i := .loadBegin w) rfl (State.write_busy hg hb)]
    exact ⟨rfl, State.countStatus_quiet _ _ _⟩
  · subst hv
    rw [exec_unique (i := .loadInstall w) rfl (State.write_busy hg hb)]
    exact ⟨rfl, State.countStatus_quiet _ _ _⟩
  · rw [exec_unique (i := .loadInstall w) rfl (exec_loadInstall_unverified hb ho hg hv)]
    exact ⟨rfl, rfl⟩
  · rw [exec_unique (i := .loadInstall w) rfl (exec_loadInstall_range hb ho hg hv hsp hi)]
    exact ⟨rfl, rfl⟩
  · rw [exec_unique (i := .loadInstall w) rfl (exec_loadInstall_quota hb ho hg hv hsp hi hq)]
    exact ⟨rfl, rfl⟩
  · rw [exec_unique (i := .loadInstall w) rfl (exec_loadInstall_starts hb ho hg hv hsp hi hq)]
    exact ⟨rfl, rfl⟩
  · obtain ⟨r, he, hload, hunit, hbare, hothers⟩ := State.installDone_spec hb hi hp
    refine ⟨r, congrArg Host.Outcome.next he, by rw [hload], by rw [hload], by rw [hload], congrArg Nib.image hunit,
      fun k hk => ?_,
      hbare, congrArg Nib.waitD hunit, congrArg Nib.waitE hunit, congrArg Nib.locks hunit, congrArg Nib.chans hunit, hothers⟩
    exact (congrArg (fun x : Nib => mget x.code k 0) hunit).trans (Nib.imaged_code _ _ hk)
  · exact ⟨_, exec_dbgHalt hd hsp hg hh, rfl, State.setTh_emit_th_self _ _ _ _ _ _,
      fun j hj => State.setTh_emit_th_of_ne _ _ _ _ _ hj, State.setTh_emit_quiet _ _ _ _ _ _⟩
  · exact ⟨_, exec_dbgResume hd hsp hg hh hst, rfl, State.setTh_emit_th_self _ _ _ _ _ _,
      fun j hj => State.setTh_emit_th_of_ne _ _ _ _ _ hj, State.setTh_emit_quiet _ _ _ _ _ _⟩
  · exact ⟨_, exec_dbgStep_refused hd hsp hg hh, rfl, rfl⟩
  · exact ⟨_, exec_dbgStep hd hsp hg hh hst hr hf hm hdo hn, State.emit_answered _ _ _ _, State.th_setTh_self _ _ _ _, rfl⟩
  · have he := exec_dbgReset hd hsp hg
    have hkept := State.restartThread_kept ((s.accepted w).setTh u i { s.th u i with halted := none }) u i 0x11 0 i
    obtain ⟨hstaged, htimer, hpend, hregs⟩ :=
      State.restartThread_cleared ((s.accepted w).setTh u i { s.th u i with halted := none }) u i 0x11 0
    rw [if_pos rfl, State.th_setTh_self] at hkept
    generalize ((s.accepted w).setTh u i { s.th u i with halted := none }).restartThread u i 0x11 0 = r
      at he hkept hstaged htimer hpend hregs
    exact ⟨_, he, rfl, congrArg Prod.snd hkept, congrArg Prod.fst hkept, hstaged, htimer, hpend,
      Thread.reg_of_regs_nil hregs⟩
  · exact ⟨_, exec_dbgArm hd hsp hg, rfl, State.setTh_emit_th_self _ _ _ _ _ _,
      fun j hj => State.setTh_emit_th_of_ne _ _ _ _ _ hj, State.setTh_emit_quiet _ _ _ _ _ _⟩
  · exact ⟨_, exec_dbgDisarm hd hsp hg, rfl, State.setTh_emit_th_self _ _ _ _ _ _,
      fun j hj => State.setTh_emit_th_of_ne _ _ _ _ _ hj, State.setTh_emit_quiet _ _ _ _ _ _⟩

end Sys2Proof.Machine
end

section
/-! SUPPORT. Slot state records, key slots, the key-wrap key and the debug fuses (10 R255, 14 R363, R370, R371, R377, R379, R380). -/

namespace Sys2Proof.Machine
open Sys2Proof

/-! ### The record that gives a slot's state (R370, R371) -/

/-- Of the latest records of two lists, the one of the higher sequence, and of two of one sequence the second list's. -/
def laterRec (a b : Option SlotRec) : Option SlotRec :=
  match a, b with
  | some x, some y => if y.seq < x.seq then some x else some y
  | some x, none => some x
  | none, y => y

theorem laterRec_none (a : Option SlotRec) : laterRec a none = a := by cases a <;> rfl

theorem laterRec_cases {x : SlotRec} (a b : Option SlotRec) (h : laterRec a b = some x) : a = some x ∨ b = some x := by
  cases a with
  | none => exact .inr h
  | some y =>
    cases b with
    | none => exact .inl h
    | some z =>
      rw [laterRec] at h
      split at h
      · exact .inl h
      · exact .inr h

theorem laterRec_assoc (a b c : Option SlotRec) : laterRec (laterRec a b) c = laterRec a (laterRec b c) := by
  cases a with
  | none => rfl
  | some x =>
    cases b with
    | none => rfl
    | some y =>
      cases c with
      | none => rw [laterRec_none, laterRec_none]
      | some z => grind [laterRec]

theorem lastRec_cons (r : SlotRec) (l : List SlotRec) (slot : Nat) :
    lastRec (r :: l) slot = laterRec (if r.slot = slot then some r else none) (lastRec l slot) := by
  rw [lastRec]
  by_cases hr : r.slot = slot <;> cases lastRec l slot <;> simp [laterRec, hr]

theorem lastRec_append (l m : List SlotRec) (slot : Nat) :
    lastRec (l ++ m) slot = laterRec (lastRec l slot) (lastRec m slot) := by
  induction l with
  | nil => rfl
  | cons r l ih => rw [List.cons_append, lastRec_cons, ih, lastRec_cons, laterRec_assoc]

theorem lastRec_singleton (r : SlotRec) (slot : Nat) : lastRec [r] slot = if r.slot = slot then some r else none := rfl

/-- The latest record of a slot is one of the list, and of the slot. -/
theorem mem_of_lastRec {l : List SlotRec} {slot : Nat} {x : SlotRec} (h : lastRec l slot = some x) : x ∈ l ∧ x.slot = slot := by
  induction l with
  | nil => exact nomatch h
  | cons r l ih =>
    rw [lastRec_cons] at h
    rcases laterRec_cases _ _ h with h | h
    · obtain ⟨hr, rfl⟩ : r.slot = slot ∧ r = x := by simpa using h
      exact ⟨List.mem_cons_self, hr⟩
    · obtain ⟨hx, hs⟩ := ih h
      exact ⟨List.mem_cons_of_mem _ hx, hs⟩

/-- A list of the latest record of each slot has the latest records of the list (R371). -/
theorem lastRec_compacted {slot : Nat} (hs : slot = 0 ∨ slot = 1) (l : List SlotRec) :
    lastRec ((lastRec l 0).toList ++ (lastRec l 1).toList) slot = lastRec l slot := by
  have hone : ∀ k, lastRec (lastRec l k).toList slot = if k = slot then lastRec l slot else none := by
    intro k
    cases hk : lastRec l k with
    | none =>
      by_cases h : k = slot
      · rw [if_pos h, ← h, hk]; rfl
      · rw [if_neg h]; rfl
    | some x =>
      obtain ⟨-, hx⟩ := mem_of_lastRec hk
      rw [Option.toList_some, lastRec_singleton, hx]
      by_cases h : k = slot
      · rw [if_pos h, if_pos h, ← h, hk]
      · rw [if_neg h, if_neg h]
  rw [lastRec_append, hone, hone]
  rcases hs with rfl | rfl
  · exact laterRec_none _
  · rfl

theorem lastRec_sectorAdd {slot : Nat} (hs : slot = 0 ∨ slot = 1) (l : List SlotRec) (r : SlotRec) :
    lastRec (sectorAdd l r) slot = laterRec (lastRec l slot) (if r.slot = slot then some r else none) := by
  rw [sectorAdd, lastRec_append, lastRec_singleton]
  split
  · rfl
  · rw [lastRec_compacted hs]

section
variable (n : NonVol) {i j : Nat} (st : Nat)

/-- Every record of a slot comes before the next one. -/
theorem NonVol.seq_lt_nextSeq {x : SlotRec} (hx : x ∈ n.sector0 ++ n.sector1) : x.seq < n.nextSeq :=
  Nat.lt_succ_of_le (le_foldl_max (List.mem_map_of_mem hx) 0)

/-- The record that is appended for a slot gives its state. -/
theorem NonVol.slotState_record_self (hi : i = 0 ∨ i = 1) : (n.record i st).slotState i = st := by
  have hnew : ∀ {l : List SlotRec} {r : SlotRec}, (∀ x ∈ l, x.seq < r.seq) → r.slot = i →
      lastRec (sectorAdd l r) i = some r := by
    intro l r hl hr
    rw [lastRec_sectorAdd hi, if_pos hr]
    cases hx : lastRec l i with
    | none => rfl
    | some x => exact if_neg (Nat.not_lt.mpr (hl x (mem_of_lastRec hx).1).le)
  rw [NonVol.slotState, NonVol.slotRec, NonVol.record, lastRec_append,
    hnew (fun x hx => n.seq_lt_nextSeq (List.mem_append_left _ hx)) rfl,
    hnew (fun x hx => n.seq_lt_nextSeq (List.mem_append_right _ hx)) rfl]
  simp only [laterRec, ite_self]

theorem NonVol.slotState_record_of_ne (hj : j = 0 ∨ j = 1) (h : i ≠ j) : (n.record i st).slotState j = n.slotState j := by
  have hother : ∀ {l : List SlotRec} {r : SlotRec}, r.slot = i → lastRec (sectorAdd l r) j = lastRec l j := by
    intro l r hr
    rw [lastRec_sectorAdd hj, if_neg (hr ▸ h), laterRec_none]
  rw [NonVol.slotState, NonVol.slotRec, NonVol.record, lastRec_append, hother rfl, hother rfl, ← lastRec_append,
    NonVol.slotState, NonVol.slotRec]

end

/-! ### Key slots (R363, R377) -/

/-- REJECTED is appended for an image slot with an image under a key slot. -/
def NonVol.rejectUnder (n : NonVol) (i v : Nat) : NonVol := if n.underKey i v then n.record i slRejected else n

/-- The entry of a key slot, revoked. -/
def NonVol.revokedKey (n : NonVol) (v : Nat) : KeySlot :=
  { (mfind n.keySlots v).getD { hash := 0, usage := 0 } with revoked := true }

section
variable (n : NonVol) (i v : Nat)

theorem NonVol.rejectUnder_cases : n.rejectUnder i v = n.record i slRejected ∨ n.rejectUnder i v = n := by
  unfold NonVol.rejectUnder
  split
  · exact .inl rfl
  · exact .inr rfl

/-- A rejection reaches the slot state records alone. -/
theorem NonVol.rejectUnder_besideRecords : { n.rejectUnder i v with sector0 := n.sector0, sector1 := n.sector1 } = n := by
  rcases n.rejectUnder_cases i v with h | h
  · rw [h]
    rfl
  · rw [h]

theorem NonVol.slotState_rejectUnder_self (hi : i = 0 ∨ i = 1) (hu : n.underKey i v = true) :
    (n.rejectUnder i v).slotState i = slRejected := by
  rw [NonVol.rejectUnder, if_pos hu, n.slotState_record_self _ hi]

theorem NonVol.slotState_rejectUnder_of_ne {j : Nat} (hj : j = 0 ∨ j = 1) (h : i ≠ j) :
    (n.rejectUnder i v).slotState j = n.slotState j := by
  rcases n.rejectUnder_cases i v with hr | hr
  · rw [hr, n.slotState_record_of_ne _ hj h]
  · rw [hr]

theorem NonVol.underKey_rejectUnder_of_ne {j : Nat} (hj : j = 0 ∨ j = 1) (h : i ≠ j) (w : Nat) :
    (n.rejectUnder i v).underKey j w = n.underKey j w := by
  have hslot : (n.rejectUnder i v).slot j = n.slot j :=
    (congrArg (fun m : NonVol => m.slot j) (n.rejectUnder_besideRecords i v) :)
  rw [NonVol.underKey, n.slotState_rejectUnder_of_ne i v hj h, hslot, NonVol.underKey]

/-- A key slot revoked, before its images are rejected. -/
def NonVol.withRevoked (n : NonVol) (v : Nat) : NonVol := { n with keySlots := mput n.keySlots v (n.revokedKey v) }

theorem NonVol.revoke_eq : n.revoke v = ((n.withRevoked v).rejectUnder 0 v).rejectUnder 1 v := rfl

theorem NonVol.revoke_besideRecords :
    { n.revoke v with sector0 := n.sector0, sector1 := n.sector1 } = n.withRevoked v := by
  have h0 := (n.withRevoked v).rejectUnder_besideRecords 0 v
  have h1 := ((n.withRevoked v).rejectUnder 0 v).rejectUnder_besideRecords 1 v
  rw [← NonVol.revoke_eq] at h1
  exact ((congrArg (fun m : NonVol => { m with sector0 := n.sector0, sector1 := n.sector1 }) h1).trans h0 :)

theorem NonVol.mfind_revoke (j : Nat) :
    mfind (n.revoke v).keySlots j = if j = v then some (n.revokedKey v) else mfind n.keySlots j := by
  have hkeys : (n.revoke v).keySlots = mput n.keySlots v (n.revokedKey v) :=
    (congrArg NonVol.keySlots (n.revoke_besideRecords v) :)
  rw [hkeys, mfind_mput]

theorem NonVol.isRevoked_revoke : (n.revoke v).isRevoked v = true := by
  rw [NonVol.isRevoked, NonVol.mfind_revoke, if_pos rfl]
  rfl

/-- The images of both slots under a revoked key slot are rejected. -/
theorem NonVol.slotState_revoke (hi : i = 0 ∨ i = 1) (hu : n.underKey i v = true) : (n.revoke v).slotState i = slRejected := by
  have hu' : (n.withRevoked v).underKey i v = true := hu
  rw [NonVol.revoke_eq]
  rcases hi with rfl | rfl
  · rw [NonVol.slotState_rejectUnder_of_ne _ _ _ (.inl rfl) (by decide),
      NonVol.slotState_rejectUnder_self _ _ _ (.inl rfl) hu']
  · refine NonVol.slotState_rejectUnder_self _ _ _ (.inr rfl) ?_
    rw [NonVol.underKey_rejectUnder_of_ne _ _ _ (.inr rfl) (by decide)]
    exact hu'

end

/-! ### Objects of R382 that are written -/

/-- The record of a divergent change reaches the halves alone. -/
theorem State.diverge_besideHalves (s : State) (ss : Session) (i sub detail : Nat) :
    { s.diverge ss i sub detail with k := s.k, q := s.q } = s := by
  unfold State.diverge
  split
  · cases s.server ss <;> rfl
  · rfl

/-- The device once a write of device-wide state has had its effect: recorded where the halves are split, and answered. -/
def State.answeredWide (s : State) (w : Who) (i sub : Nat) : State := (s.diverge w.sess i sub 0).emit (.resp w.sess rsOk [])

section
variable (s : State) (w : Who) (i sub : Nat)

theorem State.answeredWide_frame : { s.answeredWide w i sub with k := s.k, q := s.q, out := s.out } = s :=
  (congrArg (fun t : State => { t with out := s.out }) (s.diverge_besideHalves w.sess i sub 0) :)

theorem State.answeredWide_nv : (s.answeredWide w i sub).nv = s.nv := (congrArg State.nv (s.answeredWide_frame w i sub) :)

theorem State.answeredWide_nibs : (s.answeredWide w i sub).nibs = s.nibs :=
  (congrArg State.nibs (s.answeredWide_frame w i sub) :)

theorem State.answeredWide_quiet : (s.answeredWide w i sub).quiet = s.quiet := s.diverge_quiet _ _ _ _

end

section
variable {s : State} {w : Who}

section
variable {rec : BitVec 392} {i : Nat} (hg : s.grants w 0x7000 4 (leBytes 49 rec.toNat) = true)
  (hi : i = s.sel w.sess (selKey 0x7000 2) 0)

/-- The key slot that a record programs. -/
def NonVol.keyTaken (n : NonVol) (i : Nat) (rec : BitVec 392) : NonVol :=
  let k : KeySlot := { hash := beNat (leBytes 48 (fld rec 8 384)), usage := fld rec 0 8, revoked := n.isRevoked i }
  { n with keySlots := mput n.keySlots i k }

include hg hi

theorem exec_keyProgramWrite_taken (hp : s.nv.programmed i = false) (h1 : 1 ≤ fld rec 0 8) (h3 : fld rec 0 8 ≤ 3) :
    exec (.keyProgramWrite w rec) s
      = .next ({ s.accepted w with nv := s.nv.keyTaken i rec }.answeredWide w 0x7000 4) := by
  refine State.write_done hg rfl rfl ?_
  rw [State.sel_accepted, ← hi]
  refine if_neg (c := s.nv.programmed i = true ∨ fld rec 0 8 < 1 ∨ 3 < fld rec 0 8) ?_
  rintro (h | h | h)
  · exact Bool.false_ne_true (hp.symm.trans h)
  · exact absurd h (Nat.not_lt.mpr h1)
  · exact absurd h (Nat.not_lt.mpr h3)

theorem exec_keyProgramWrite_refused (hr : s.nv.programmed i = true ∨ fld rec 0 8 < 1 ∨ 3 < fld rec 0 8) :
    exec (.keyProgramWrite w rec) s = .next ((s.accepted w).emit (.resp w.sess rsRefused [])) := by
  refine State.write_refused hg rfl rfl ?_
  rw [State.sel_accepted, ← hi]
  exact if_pos hr

end

section
variable {v : BitVec 8}

theorem exec_revokeWrite_taken (hg : s.grants w 0x7000 5 [v] = true) (hv : v.toNat < 8) (hr : s.nv.revokeRefused v.toNat = false) :
    exec (.revokeWrite w v) s = .next ({ s.accepted w with nv := s.nv.revoke v.toNat }.answeredWide w 0x7000 5) :=
  State.write_done hg rfl rfl (if_neg (not_or.mpr ⟨Nat.not_le.mpr hv, Bool.eq_false_iff.mp hr⟩))

theorem exec_revokeWrite_refused (hg : s.grants w 0x7000 5 [v] = true) (hr : 8 ≤ v.toNat ∨ s.nv.revokeRefused v.toNat = true) :
    exec (.revokeWrite w v) s = .next ((s.accepted w).emit (.resp w.sess rsRefused [])) :=
  State.write_refused hg rfl rfl (if_pos hr)

/-- A count of floor bits that FLOOR_RAISE refuses (R363, R379). -/
def State.floorRefused (s : State) (v : Nat) : Prop := v < 1 ∨ 64 < v ∨ v < s.nv.floorBits ∨ s.secVersion < 1024 * v

theorem exec_floorRaiseWrite_taken (hg : s.grants w 0x7000 6 [v] = true) (hr : ¬ s.floorRefused v.toNat) :
    exec (.floorRaiseWrite w v) s
      = .next ({ s.accepted w with nv := { s.nv with floorBits := v.toNat } }.answeredWide w 0x7000 6) :=
  State.write_done hg rfl rfl (if_neg hr)

theorem exec_floorRaiseWrite_refused (hg : s.grants w 0x7000 6 [v] = true) (hr : s.floorRefused v.toNat) :
    exec (.floorRaiseWrite w v) s = .next ((s.accepted w).emit (.resp w.sess rsRefused [])) :=
  State.write_refused hg rfl rfl (if_pos hr)

end

/-! ### The key-wrap key (R255, R379) -/

/-- The store's key-wrap key replaced. -/
def State.kwkTaken (s : State) (v : Nat) : State := s.ownWrite fun c => { c with kwk := some { v := s.secVersion, val := v } }

theorem exec_kwkWrite {key : BitVec 256} (hg : s.grants w 0x7000 8 (leBytes 32 key.toNat) = true) :
    exec (.kwkWrite w key) s = .next (((s.accepted w).kwkTaken key.toNat).answeredWide w 0x7000 8) :=
  State.write_done hg rfl rfl rfl

end

/-- A field of the store in force that the device writes of its own. -/
theorem State.ownWrite_store {β : Type} {f : StoreCopy → StoreCopy} {part : StoreCopy → β} (s : State)
    (hg : ∀ c, (f c).gen = c.gen) (hv : ∀ c, (f c).valid = c.valid)
    (hpart : ∀ (c : StoreCopy) g v, part { c with gen := g, valid := v } = part c) :
    part (s.ownWrite f).nv.store = part (f s.nv.store) := by
  unfold State.ownWrite
  split
  · exact congrArg part (s.nv.store_inForce hg hv)
  · exact (congrArg part (s.nv.store_next (c := { f s.nv.store with gen := s.nv.store.gen + 1, valid := true })
      (Nat.lt_succ_self _) rfl)).trans (hpart _ _ _)

/-- A write of the device's own leaves what is not in the store's copies. -/
theorem State.ownWrite_besideStore (s : State) (f : StoreCopy → StoreCopy) :
    { (s.ownWrite f).nv with copy0 := s.nv.copy0, copy1 := s.nv.copy1 } = s.nv := by
  unfold State.ownWrite
  split
  · cases s.nv.second <;> rfl
  · cases s.nv.second <;> rfl

section
variable (s : State) (v : Nat)

theorem State.kwkTaken_kwk : (s.kwkTaken v).nv.store.kwk = some { v := s.secVersion, val := v } :=
  s.ownWrite_store (fun _ => rfl) (fun _ => rfl) (fun _ _ _ => rfl)

theorem State.kwkTaken_keys : (s.kwkTaken v).nv.store.keys = s.nv.store.keys :=
  s.ownWrite_store (part := StoreCopy.keys) (fun _ => rfl) (fun _ => rfl) (fun _ _ _ => rfl)

theorem State.kwkTaken_floorBits : (s.kwkTaken v).nv.floorBits = s.nv.floorBits :=
  (congrArg NonVol.floorBits (s.ownWrite_besideStore _) :)

theorem State.kwkTaken_secVersion : (s.kwkTaken v).secVersion = s.secVersion := by
  have hrun : (s.kwkTaken v).runningSlot = s.runningSlot := (congrArg State.runningSlot (s.ownWrite_frame _) :)
  have hslot : (s.kwkTaken v).nv.slot s.runningSlot = s.nv.slot s.runningSlot :=
    (congrArg (fun n : NonVol => n.slot s.runningSlot) (s.ownWrite_besideStore _) :)
  rw [State.secVersion, hrun, hslot, State.secVersion]

theorem State.kwkTaken_keySlots : (s.kwkTaken v).nv.keySlots = s.nv.keySlots :=
  (congrArg NonVol.keySlots (s.ownWrite_besideStore _) :)

end
/-! ### The debug fuses (R380) -/

/-- A thread at which no breakpoint stands. -/
def Thread.unbroken (t : Thread) : Prop := t.armed = false ∧ t.bps = 0

/-- The breakpoints of a thread cleared. -/
def Nib.clearBps (x : Nib) (i : Nat) : Nib := x.setTh i { x.th i with bps := 0, armed := false }

theorem Nib.clearBps_unbroken {x : Nib} {i j : Nat} (h : j = i ∨ (x.th j).unbroken) : ((x.clearBps i).th j).unbroken := by
  by_cases hj : j = i
  · subst hj
    rw [Nib.clearBps, Nib.th_setTh_self]
    exact ⟨rfl, rfl⟩
  · rw [Nib.clearBps, Nib.th_setTh_of_ne _ _ hj]
    exact h.resolve_left hj

theorem Nib.foldl_clearBps_unbroken {j : Nat} {l : List Nat} :
    ∀ {x : Nib}, j ∈ l ∨ (x.th j).unbroken → ((l.foldl Nib.clearBps x).th j).unbroken := by
  induction l with
  | nil => exact fun h => h.resolve_left List.not_mem_nil
  | cons i rest ih =>
    intro x h
    refine ih ?_
    rcases h with h | h
    · exact (List.mem_cons.mp h).symm.imp_right fun hj => Nib.clearBps_unbroken (.inl hj)
    · exact .inr (Nib.clearBps_unbroken (.inr h))

/-- A thread that a unit does not list is a fresh one. -/
theorem Nib.closeDebug_unbroken (x : Nib) (j : Nat) : (x.closeDebug.th j).unbroken := by
  refine Nib.foldl_clearBps_unbroken (x := (x.threads.map Prod.fst).foldl _ x) ?_
  generalize (x.threads.map Prod.fst).foldl _ x = y
  by_cases hj : j ∈ y.threads.map Prod.fst
  · exact .inl hj
  · refine .inr ?_
    rw [Nib.th, mget_of_absent fun e he h => hj (List.mem_map.mpr ⟨e, he, h⟩)]
    exact ⟨rfl, rfl⟩

/-- Thread debug closed on a unit of the device. -/
def State.closeUnit (s : State) (u : Nat) : State := s.setNib u (s.nib u).closeDebug

theorem State.foldl_closeUnit_unbroken {u i : Nat} {l : List Nat} :
    ∀ {s : State}, u ∈ l ∨ (s.th u i).unbroken → ((l.foldl State.closeUnit s).th u i).unbroken := by
  induction l with
  | nil => exact fun h => h.resolve_left List.not_mem_nil
  | cons v rest ih =>
    intro s h
    refine ih ?_
    by_cases hu : u = v
    · subst hu
      refine .inr ?_
      rw [State.th, State.closeUnit, State.nib_setNib_self]
      exact Nib.closeDebug_unbroken _ _
    · refine (h.imp_left fun h => (List.mem_cons.mp h).resolve_left hu).imp_right fun h => ?_
      rw [State.th, State.closeUnit, State.nib_setNib_of_ne hu]
      exact h

section
variable (s : State)

theorem State.closeProgram_unbroken {u : Nat} (hu : u < 8) (i : Nat) : (s.closeProgram.th u i).unbroken :=
  State.foldl_closeUnit_unbroken (.inl (List.mem_range.mpr hu))

/-- PROGRAM_DEBUG reaches its fuse and the NIB units alone. -/
theorem State.closeProgram_frame :
    { s.closeProgram with nibs := s.nibs } = { s with nv := { s.nv with programBlown := true } } := by
  have hfold : ∀ (l : List Nat) (a : State), { l.foldl State.closeUnit a with nibs := s.nibs } = { a with nibs := s.nibs } := by
    intro l
    induction l with
    | nil => exact fun a => rfl
    | cons u rest ih => exact fun a => (ih (a.closeUnit u)).trans rfl
  exact hfold (List.range 8) { s with nv := { s.nv with programBlown := true } }

end

/-- The fuses that a DEBUG_CLOSE blows. -/
def State.debugClosed (s : State) (p d : Bool) : State :=
  let s1 := if p then s.closeProgram else s
  if d then s1.closeVendor else s1

/-- The fuses reach the NIB units and what is blown alone. -/
theorem State.debugClosed_frame (s : State) (p d : Bool) : { s.debugClosed p d with nibs := s.nibs }
    = { s with nv := { s.nv with programBlown := s.nv.programBlown || p, vendorBlown := s.nv.vendorBlown || d } } := by
  cases p with
  | false => cases d <;> simp [State.debugClosed, State.closeVendor]
  | true =>
    have hp := s.closeProgram_frame
    cases d with
    | false => simpa [State.debugClosed] using hp
    | true => simpa [State.debugClosed, State.closeVendor] using congrArg State.closeVendor hp

theorem State.debugClosed_unbroken (s : State) (d : Bool) {u : Nat} (hu : u < 8) (i : Nat) :
    ((s.debugClosed true d).th u i).unbroken := by
  have hnibs : (s.debugClosed true d).nibs = s.closeProgram.nibs := by
    cases d <;> simp [State.debugClosed, State.closeVendor]
  exact (congrArg Thread.unbroken (State.th_of_nibs hnibs u i)).mpr (s.closeProgram_unbroken hu i)

theorem State.debugClosed_nibs (s : State) (d : Bool) : (s.debugClosed false d).nibs = s.nibs := by cases d <;> rfl

theorem State.debugClose_done {s : State} {w : Who} {v : Byte} (hg : s.grants w 0x7000 7 [v] = true) (f : State → State) :
    s.debugClose w v f = .next ((f (s.accepted w)).answeredWide w 0x7000 7) :=
  State.write_done hg rfl rfl rfl

theorem exec_debugClose {s : State} {w : Who} {i : Instr} {v : Byte} {p d : Bool}
    (hi : (i, v, p, d) ∈ [(.debugCloseProgram w, 1, true, false), (.debugCloseVendor w, 2, false, true),
      (.debugCloseBoth w, 3, true, true)]) (hg : s.grants w 0x7000 7 [v] = true) :
    exec i s = .next (((s.accepted w).debugClosed p d).answeredWide w 0x7000 7) := by
  simp only [List.mem_cons, Prod.mk.injEq, List.not_mem_nil, or_false] at hi
  obtain ⟨rfl, rfl, rfl, rfl⟩ | ⟨rfl, rfl, rfl, rfl⟩ | ⟨rfl, rfl, rfl, rfl⟩ := hi
  · exact State.debugClose_done hg State.closeProgram
  · exact State.debugClose_done hg State.closeVendor
  · exact State.debugClose_done hg fun a => a.closeProgram.closeVendor

/-- Settles O49, a command at a time: what each fuse or secret becomes in the non-volatile state, and what is recorded of the change
while the halves are split. R380 clears the breakpoints; that the armed threads are disarmed too is the model's choice (log 88). -/
theorem keysAndFuses : Obligations.KeysAndFuses := by
  unfold Obligations.KeysAndFuses
  refine ⟨fun s w rec i hg hi => ?program, fun s w v hg => ?revoke, fun s w v hg => ?floor,
    fun s w key hg => ⟨_, exec_kwkWrite hg, rfl, ?kwk⟩, fun s w i v p d hi hg => ⟨_, exec_debugClose hi hg, rfl, ?debug⟩⟩
  case program =>
    by_cases hr : s.nv.programmed i = true ∨ fld rec 0 8 < 1 ∨ 3 < fld rec 0 8
    · refine ⟨_, exec_keyProgramWrite_refused hg hi hr, fun hp h1 h3 => ?_, fun _ => ⟨rfl, s.accepted_quiet w⟩⟩
      rcases hr with h | h | h
      · exact absurd (hp.symm.trans h) Bool.false_ne_true
      · omega
      · omega
    · obtain ⟨hp, h1, h3⟩ := not_or.mp hr |>.imp_right not_or.mp
      refine ⟨_, exec_keyProgramWrite_taken hg hi (Bool.eq_false_iff.mpr hp) (Nat.not_lt.mp h1) (Nat.not_lt.mp h3),
        fun _ _ _ => ⟨rfl, ?_, fun j hj => ?_, ?_⟩, fun h => ?_⟩
      · rw [State.answeredWide_nv]
        exact ⟨_, (mfind_mput _ _ _ _).trans (if_pos rfl), rfl, rfl, rfl⟩
      · rw [State.answeredWide_nv]
        exact (mfind_mput _ _ _ _).trans (if_neg hj)
      · rw [State.answeredWide_nv, State.answeredWide_quiet]
        rfl
      · exact absurd (h.imp_right (.imp_left fun h0 => Nat.lt_one_iff.mpr h0)) hr
  case revoke =>
    by_cases hr : 8 ≤ v.toNat ∨ s.nv.revokeRefused v.toNat = true
    · refine ⟨_, exec_revokeWrite_refused hg hr, fun hv hn => ?_, fun _ => ⟨rfl, s.accepted_quiet w⟩⟩
      rcases hr with h | h
      · exact absurd hv (Nat.not_lt.mpr h)
      · exact absurd (hn.symm.trans h) Bool.false_ne_true
    · obtain ⟨hv, hn⟩ := not_or.mp hr
      refine ⟨_, exec_revokeWrite_taken hg (Nat.not_le.mp hv) (Bool.eq_false_iff.mpr hn), fun _ _ => ⟨rfl, ?_⟩,
        fun h => absurd h hr⟩
      rw [State.answeredWide_nv, State.answeredWide_quiet]
      exact ⟨s.nv.isRevoked_revoke _, s.nv.slotState_revoke _ _ (.inl rfl), s.nv.slotState_revoke _ _ (.inr rfl),
        fun j hj => (s.nv.mfind_revoke _ _).trans (if_neg hj), (congrArg NonVol.slotA (s.nv.revoke_besideRecords _) :),
        (congrArg NonVol.slotB (s.nv.revoke_besideRecords _) :), rfl⟩
  case floor =>
    by_cases hr : s.floorRefused v.toNat
    · refine ⟨_, exec_floorRaiseWrite_refused hg hr, fun h1 h64 hf hs => ?_, fun _ => ⟨rfl, s.accepted_quiet w⟩⟩
      simp only [State.floorRefused] at hr
      omega
    · refine ⟨_, exec_floorRaiseWrite_taken hg hr, fun _ _ _ _ => ⟨rfl, ?_⟩, fun h => ?_⟩
      · rw [State.answeredWide_nv, State.answeredWide_quiet]
        exact ⟨rfl, rfl⟩
      · exact absurd (h.imp_left fun h0 => Nat.lt_one_iff.mpr h0) hr
  case kwk =>
    have hframe := (s.accepted w).ownWrite_frame
      fun c => { c with kwk := some { v := (s.accepted w).secVersion, val := key.toNat } }
    rw [State.answeredWide_nv, State.answeredWide_quiet, State.kwkTaken_kwk, State.kwkTaken_keys, State.kwkTaken_floorBits,
      State.kwkTaken_keySlots]
    refine ⟨if_pos (Nat.le_of_eq ?_), rfl, rfl, rfl, (congrArg (fun t : State => { t.quiet with mgmt := s.quiet.mgmt }) hframe :)⟩
    have hver : (((s.accepted w).kwkTaken key.toNat).answeredWide w 0x7000 8).secVersion
        = ((s.accepted w).kwkTaken key.toNat).secVersion := (congrArg State.secVersion (State.answeredWide_frame _ _ _ _) :)
    rw [hver, State.kwkTaken_secVersion]
  case debug =>
    have hframe := (State.answeredWide_frame ((s.accepted w).debugClosed p d) w 0x7000 7)
    have hclosed := (s.accepted w).debugClosed_frame p d
    rw [State.answeredWide_nv]
    refine ⟨(congrArg (·.nv.programBlown) hclosed :), (congrArg (·.nv.vendorBlown) hclosed :),
      (congrArg (·.nv.floorBits) hclosed :), (congrArg (·.nv.keySlots) hclosed :), fun hp u j hu => ?_, fun hp => ?_,
      (congrArg State.wqs hframe :).trans (congrArg State.wqs hclosed :), 
      (congrArg State.storage hframe :).trans (congrArg State.storage hclosed :),
      (congrArg State.slices hframe :).trans (congrArg State.slices hclosed :)⟩
    · subst hp
      rw [State.th_of_nibs (State.answeredWide_nibs _ _ _ _)]
      exact (s.accepted w).debugClosed_unbroken d hu j
    · subst hp
      exact (State.answeredWide_nibs _ _ _ _).trans ((s.accepted w).debugClosed_nibs d)

end Sys2Proof.Machine
end

section
/-! SUPPORT. The SA slots of the key store, the protection records of the ports and the hardening level (10 R254 to R259, R267, R269,
R272). -/

namespace Sys2Proof.Machine
open Sys2Proof

/-! ### SA slots (R254) -/

section
variable (s : State) (h : Half) (i : Nat) (x : Sa)

@[simp] theorem State.sa_setSa_self : (s.setSa h i x).sa h i = x := by
  rw [State.sa, State.setSa, State.onHalf_half]
  exact mget_mset_same _ _ _ _

theorem State.sa_setSa_of_ne {j : Nat} (hj : j ≠ i) : (s.setSa h i x).sa h j = s.sa h j := by
  rw [State.sa, State.setSa, State.onHalf_half]
  exact mget_mset_of_ne hj _ _ _ _

theorem State.setSa_other : (s.setSa h i x).half h.other = s.half h.other := State.onHalf_other _ _ _

theorem State.setSa_cls (g : Half) : ((s.setSa h i x).half g).cls = (s.half g).cls := by
  cases h <;> cases g <;> rfl

theorem State.setSa_param : (s.setSa h i x).param = s.param := State.param_of_params (State.params_of_mgmt (s.onHalf_mgmt h _))

end

/-- A slot is read from its half's key store. -/
theorem State.sa_of_cipher {t s : State} {h : Half} (hc : (t.half h).cipher = (s.half h).cipher) (i : Nat) :
    t.sa h i = s.sa h i := by
  rw [State.sa, hc, State.sa]

theorem State.cipher_of_besideQueues {t s : State} (h : t.besideQueues = s.besideQueues) (g : Half) :
    (t.half g).cipher = (s.half g).cipher :=
  (congrArg HalfSt.cipher (State.half_of_besideQueues h g) :)

/-- A state that differs from another in one SA slot of a half, in what a half's log holds, and in what a request touches, alone. -/
structure State.onlySa (t s : State) (h : Half) (i : Nat) : Prop where
  slots : ∀ j, j ≠ i → t.sa h j = s.sa h j
  other : (t.half h.other).cipher = (s.half h.other).cipher
  frame : { t.quiet with k := s.quiet.k, q := s.quiet.q } = s.quiet

theorem State.onlySa_refl (s : State) (h : Half) (i : Nat) : s.onlySa s h i := ⟨fun _ _ => rfl, rfl, rfl⟩

theorem State.onlySa.trans {t u s : State} {h : Half} {i : Nat} (h1 : t.onlySa u h i) (h2 : u.onlySa s h i) : t.onlySa s h i :=
  ⟨fun j hj => (h1.slots j hj).trans (h2.slots j hj), h1.other.trans h2.other,
    (congrArg (fun a : State => { a with k := s.quiet.k, q := s.quiet.q }) h1.frame).trans h2.frame⟩

theorem State.setSa_onlySa (s : State) (h : Half) (i : Nat) (x : Sa) : (s.setSa h i x).onlySa s h i where
  slots _ hj := s.sa_setSa_of_ne h i x hj
  other := congrArg HalfSt.cipher (s.setSa_other h i x)
  frame := by cases h <;> rfl

/-! ### The rekey mark (R267) -/

/-- An outbound SA whose next value has reached its mark. -/
def State.saDue (s : State) (h : Half) (i : Nat) : Prop :=
  (s.sa h i).st = .ready ∧ (saKind (s.sa h i).record = 1 ∨ saKind (s.sa h i).record = 3)
    ∧ s.rekeyMark h (s.sa h i).record ≤ (s.sa h i).next

/-- A record of class 0 to 2 reaches the halves alone. -/
theorem State.log_besideHalves (s : State) {code cls : Nat} (hc : cls < 3) (unit action detail : Nat) :
    { s.log code cls unit action detail with k := s.k, q := s.q } = s := s.logOn_frame _ hc

/-- The device once an SA reads MARKED and the event is logged. -/
def State.saMarked (s : State) (h : Half) (i : Nat) : State :=
  ((s.setSa h i { s.sa h i with st := .marked }).log 0x4001 0 (unitId h 9) 0 i).countCipher h 5 1

section
variable {s : State} {h : Half} {i : Nat}

theorem State.noteMark_due (hd : s.saDue h i) : s.noteMark h i = s.saMarked h i := if_pos hd
theorem State.noteMark_not_due (hd : ¬ s.saDue h i) : s.noteMark h i = s := if_neg hd

theorem State.noteMark_cases (s : State) (h : Half) (i : Nat) : s.noteMark h i = s.saMarked h i ∨ s.noteMark h i = s := by
  by_cases hd : s.saDue h i
  · exact .inl (State.noteMark_due hd)
  · exact .inr (State.noteMark_not_due hd)

theorem State.saMarked_besideQueues (s : State) (h : Half) (i : Nat) : (s.saMarked h i).besideQueues
    = ((s.setSa h i { s.sa h i with st := .marked }).countCipher h 5 1).besideQueues :=
  congrArg (fun a : State => a.countCipher h 5 1)
    (State.log_besideQueues (s.setSa h i { s.sa h i with st := .marked }) (code := 0x4001) (by decide))

theorem State.sa_saMarked (s : State) (h : Half) (i : Nat) : (s.saMarked h i).sa h i = { s.sa h i with st := .marked } :=
  (State.sa_of_cipher (State.cipher_of_besideQueues (s.saMarked_besideQueues h i) h) i).trans (s.sa_setSa_self h i _)

theorem State.saMarked_onlySa (s : State) (h : Half) (i : Nat) : (s.saMarked h i).onlySa s h i := by
  have hset := s.setSa_onlySa h i { s.sa h i with st := .marked }
  have hc := fun g => State.cipher_of_besideQueues (s.saMarked_besideQueues h i) g
  refine ⟨fun j hj => (State.sa_of_cipher (hc h) j).trans (hset.slots j hj), (hc h.other).trans hset.other, ?_⟩
  have hlog := (s.setSa h i { s.sa h i with st := .marked }).log_besideHalves (code := 0x4001) (cls := 0) (by decide)
  exact (congrArg (fun a : State => { a.quiet with k := s.quiet.k, q := s.quiet.q }) (hlog (unitId h 9) 0 i)).trans hset.frame

theorem State.noteMark_onlySa (s : State) (h : Half) (i : Nat) : (s.noteMark h i).onlySa s h i := by
  rcases s.noteMark_cases h i with he | he
  · rw [he]
    exact s.saMarked_onlySa h i
  · rw [he]
    exact s.onlySa_refl h i

/-- The mark changes nothing of the SA but its state. -/
theorem State.sa_noteMark (s : State) (h : Half) (i : Nat) : ∃ st, (s.noteMark h i).sa h i = { s.sa h i with st := st } := by
  rcases s.noteMark_cases h i with he | he
  · rw [he]
    exact ⟨_, s.sa_saMarked h i⟩
  · rw [he]
    exact ⟨_, rfl⟩

end

/-! ### Records (R255) -/

section
variable (r : BitVec 640) (key : BitVec 256)

/-- The record of an installed SA keeps every field but the key. -/
theorem fld_saNew {lo w : Nat} (hlo : lo + w ≤ 16 ∨ 32 ≤ lo ∧ lo + w ≤ 256) : fld (saNew r key).record lo w = fld r lo w :=
  (fld_setFld_of_disjoint (by decide) (by omega) _ _).trans (fld_setFld_of_disjoint (by decide) (by omega) _ _)

theorem bit_saNew {i : Nat} (hi : i < 16) : bit (saNew r key).record i = bit r i :=
  (bit_setFld_of_disjoint (by decide) (by omega) _ _).trans (bit_setFld_of_disjoint (by decide) (by omega) _ _)

/-- The key of an installed SA is not in its record. -/
theorem fld_saNew_key : fld (saNew r key).record 256 320 = 0 := by
  rw [saNew, fld_setFld_of_disjoint (by decide) (by omega), fld_setFld_self (by decide), Nat.zero_mod]

theorem saKind_saNew : saKind (saNew r key).record = saKind r := fld_saNew r key (by decide)

theorem saNew_fields : saKind (saNew r key).record = saKind r ∧ saSpi (saNew r key).record = saSpi r
    ∧ saEnable (saNew r key).record = saEnable r ∧ saWin (saNew r key).record = saWin r ∧ saSalt (saNew r key).record = saSalt r :=
  ⟨saKind_saNew r key, fld_saNew r key (by decide), bit_saNew r key (by decide), fld_saNew r key (by decide),
    fld_saNew r key (by decide)⟩

theorem saWide_saNew : saWide (saNew r key).record = saWide r := by
  rw [saWide, saKind_saNew, saEsn, bit_saNew r key (by decide), saWide, saEsn]

theorem State.rekeyMark_saNew (s : State) (h : Half) : s.rekeyMark h (saNew r key).record = s.rekeyMark h r := by
  rw [State.rekeyMark, saWide_saNew, State.rekeyMark]

variable (x : Sa)

theorem Sa.saEnable_change : saEnable (x.change r).record = saEnable r :=
  (bit_setFld_of_disjoint (by decide) (by decide) _ _).trans (bit_setFld_self (by decide) _ _)

theorem Sa.saWin_change : saWin (x.change r).record = saWin r :=
  (fld_setFld_self (by decide) _ _).trans (fld_mod _ _ _)

theorem Sa.change_bit {b : Nat} (h9 : b ≠ 9) (hb : b < 224 ∨ 240 ≤ b) : (x.change r).record.getLsbD b = x.record.getLsbD b :=
  (bit_setFld_of_disjoint (by decide) hb _ _).trans (bit_setFld_of_disjoint (by decide) (by omega) _ _)

theorem Sa.change_besideRecord : { x.change r with record := x.record } = x := by
  cases x
  rfl

end

/-! ### Writes to a slot (R256 to R258) -/

section
variable {s : State} {h : Half} {i : Nat} {r : BitVec 640} {key : BitVec 256}

theorem State.saWrite_deletes (hk : saKind r = 0) : s.saWrite h i r
    = if (s.sa h i).st = .empty ∨ (s.sa h i).st = .fencing then some s else some (s.setSa h i { s.sa h i with st := .fencing }) :=
  if_pos hk

theorem State.saWrite_unkeyed (hk : saKind r ≠ 0) (hkey : s.saKey r = none) : s.saWrite h i r = none := by
  simp only [State.saWrite, if_neg hk, hkey]

theorem State.saWrite_out_of_range (hk : saKind r ≠ 0) (hok : s.saOk h i r = false) : s.saWrite h i r = none := by
  simp only [State.saWrite, if_neg hk, hok, if_true]
  cases s.saKey r <;> rfl

variable (hk : saKind r ≠ 0) (hkey : s.saKey r = some key) (hok : s.saOk h i r = true)
include hk hkey hok

theorem State.saWrite_installs (he : (s.sa h i).st = .empty) : s.saWrite h i r = some (s.saInstall h i r key) := by
  simp only [State.saWrite, if_neg hk, hkey, hok, Bool.true_eq_false, if_false, he, if_true]

theorem State.saWrite_changes (he : (s.sa h i).st ≠ .empty) (hf : (s.sa h i).st ≠ .fencing) : s.saWrite h i r
    = if saKind r ≠ saKind (s.sa h i).record ∨ key ≠ (s.sa h i).key ∨ saSpi r ≠ saSpi (s.sa h i).record then none
      else some (s.setSa h i ((s.sa h i).change r)) := by
  simp only [State.saWrite, if_neg hk, hkey, hok, Bool.true_eq_false, if_false, he, hf]

end

theorem State.sa_accepted (s : State) (w : Who) (h : Half) (i : Nat) : (s.accepted w).sa h i = s.sa h i :=
  State.sa_of_cipher (congrArg HalfSt.cipher (s.accepted_half w h)) i

theorem State.saOk_accepted (s : State) (w : Who) (h : Half) (i : Nat) (r : BitVec 640) :
    (s.accepted w).saOk h i r = s.saOk h i r := rfl

theorem State.saKey_accepted (s : State) (w : Who) (r : BitVec 640) : (s.accepted w).saKey r = s.saKey r := rfl

theorem State.rekeyMark_accepted (s : State) (w : Who) (h : Half) (r : BitVec 640) :
    (s.accepted w).rekeyMark h r = s.rekeyMark h r := rfl

section
variable {s : State} {w : Who} {rec : BitVec 640} {h : Half} {i : Nat} (hg : s.grants w 0xA200 4 (leBytes 80 rec.toNat) = true)
  (hh : h = halfOf (s.sel w.sess (obj 0xA200 3) 0 / 65536)) (hi : i = s.sel w.sess (obj 0xA200 3) 0 % 16384)
include hg hh hi

/-- A write of SA_RECORD to a slot that the serving half reaches ends as the key store takes it (R431). -/
theorem State.saRecordWrite_done {t : State} (hs : s.cstl.split = true → h = s.server w.sess)
    (ht : (s.accepted w).saWrite h i rec = some t) :
    (s.saRecordWrite w rec).out w = .next (t.emit (.resp w.sess rsOk [])) := by
  refine State.write_done hg rfl rfl ?_
  simp only [State.sel_accepted, ← hh, ← hi]
  exact (if_neg fun ⟨hsplit, hne⟩ => hne (hs hsplit)).trans ht

theorem State.saRecordWrite_refused
    (hr : (s.cstl.split = true ∧ h ≠ s.server w.sess) ∨ (s.accepted w).saWrite h i rec = none) :
    (s.saRecordWrite w rec).out w = .next ((s.accepted w).emit (.resp w.sess rsRefused [])) := by
  refine State.write_refused hg rfl rfl ?_
  simp only [State.sel_accepted, ← hh, ← hi]
  rcases hr with h | h
  · exact if_pos h
  · rw [h, ite_self]

end

/-! ### An install (R255, R256, R267) -/

section
variable (s : State) (h : Half) (i : Nat) (r : BitVec 640) (key : BitVec 256)

theorem State.saInstall_onlySa : (s.saInstall h i r key).onlySa s h i :=
  (State.noteMark_onlySa _ h i).trans (s.setSa_onlySa h i _)

theorem State.sa_saInstall : ∃ st, (s.saInstall h i r key).sa h i = { saNew r key with st := st } := by
  obtain ⟨st, hst⟩ := (s.setSa h i (saNew r key)).sa_noteMark h i
  rw [State.sa_setSa_self] at hst
  exact ⟨st, hst⟩

/-- A new SA is due where its first value has reached the mark. -/
theorem State.saDue_setSa_saNew : (s.setSa h i (saNew r key)).saDue h i
    ↔ (saKind r = 1 ∨ saKind r = 3) ∧ s.rekeyMark h r ≤ saPn r := by
  have hmark : (s.setSa h i (saNew r key)).rekeyMark h (saNew r key).record = s.rekeyMark h r := by
    rw [State.rekeyMark_saNew, State.rekeyMark, State.setSa_param, State.rekeyMark]
  rw [State.saDue, State.sa_setSa_self, saKind_saNew, hmark]
  exact and_iff_right rfl

theorem State.saInstall_marked (hk : saKind r = 1 ∨ saKind r = 3) (hm : s.rekeyMark h r ≤ saPn r) :
    ((s.saInstall h i r key).sa h i).st = .marked := by
  rw [State.saInstall, State.noteMark_due ((s.saDue_setSa_saNew h i r key).mpr ⟨hk, hm⟩), State.sa_saMarked]

theorem State.saInstall_ready (hk : saKind r = 2 ∨ saKind r = 4 ∨ saPn r < s.rekeyMark h r) :
    ((s.saInstall h i r key).sa h i).st = .ready := by
  rw [State.saInstall, State.noteMark_not_due (mt (s.saDue_setSa_saNew h i r key).mp (by omega)), State.sa_setSa_self]
  rfl

end

/-! ### A deletion and the end of its fence (R258) -/

/-- A slot whose SA is being deleted: an SA in it is fenced. -/
def State.saFenced (s : State) (h : Half) (i : Nat) : State :=
  if (s.sa h i).st = .empty ∨ (s.sa h i).st = .fencing then s else s.setSa h i { s.sa h i with st := .fencing }

section
variable {s : State} {h : Half} {i : Nat}

theorem State.saWrite_fences {r : BitVec 640} (hk : saKind r = 0) : s.saWrite h i r = some (s.saFenced h i) :=
  (State.saWrite_deletes hk).trans (apply_ite some _ _ _).symm

theorem State.saFenced_onlySa (s : State) (h : Half) (i : Nat) : (s.saFenced h i).onlySa s h i := by
  unfold State.saFenced
  split
  · exact s.onlySa_refl h i
  · exact s.setSa_onlySa h i _

theorem State.sa_saFenced (hst : (s.sa h i).st ≠ .empty) : (s.saFenced h i).sa h i = { s.sa h i with st := .fencing } := by
  unfold State.saFenced
  split
  · next hc => rw [← hc.resolve_left hst]
  · exact s.sa_setSa_self h i _

theorem State.sa_saFenced_empty (hst : (s.sa h i).st = .empty) : (s.saFenced h i).sa h i = s.sa h i := by
  rw [State.saFenced, if_pos (.inl hst)]

/-- A slot emptied, and an install that waited for it forgotten. -/
def State.saEmptied (s : State) (h : Half) (i : Nat) : State :=
  s.onHalf h fun y =>
    { y with cipher := { y.cipher with sas := merase y.cipher.sas i, waitInstall := merase y.cipher.waitInstall i } }

theorem State.saFenceEnd_empties (hst : (s.sa h i).st = .fencing) (hw : mfind (s.half h).cipher.waitInstall i = none) :
    s.saFenceEnd h i = s.saEmptied h i := by
  simp only [State.saFenceEnd, if_pos hst, hw]
  rfl

theorem State.sa_saEmptied (s : State) (h : Half) (i j : Nat) : (s.saEmptied h i).sa h j = if j = i then {} else s.sa h j := by
  rw [State.sa, State.saEmptied, State.onHalf_half]
  exact mget_merase _ _ _ _

end

/-! ### Port records and the hardening level (R259, R269) -/

section
variable {s : State} {w : Who}

section
variable {n : Fin 16} {rec : BitVec 704} (hg : s.grants w 0xA210 (n.val + 1) (leBytes 88 rec.toNat) = true)

/-- A port's record set. -/
def State.macsecTaken (s : State) (w : Who) (n : Nat) (rec : BitVec 704) : State :=
  (s.accepted w).setParams (s.server w.sess) 0xA210 (n + 1) 0 rec.toNat

theorem State.macsecOk_accepted (s : State) (w : Who) (n : Nat) (rec : BitVec 704) :
    (s.accepted w).macsecOk n rec = s.macsecOk n rec := rfl

include hg

theorem exec_macsecConfigWrite_taken (hok : s.macsecOk n.val rec = true) :
    exec (.macsecConfigWrite w n rec) s = .next ((s.macsecTaken w n.val rec).emit (.resp w.sess rsOk [])) :=
  State.write_done hg rfl rfl (if_pos hok)

theorem exec_macsecConfigWrite_refused (hok : s.macsecOk n.val rec = false) :
    exec (.macsecConfigWrite w n rec) s = .next ((s.accepted w).emit (.resp w.sess rsRefused [])) :=
  State.write_refused hg rfl rfl (if_neg (Bool.eq_false_iff.mp hok))

end

/-- A record set while the halves are joined, or by the port's own half, is the port's. -/
theorem State.macsecRec_macsecTaken {n : Nat} {rec : BitVec 704} (hs : s.cstl.split = false ∨ s.server w.sess = ethHalf n) :
    (s.macsecTaken w n rec).macsecRec n = rec := by
  have hparam : (s.macsecTaken w n rec).param (ethHalf n) 0xA210 (n + 1) 0 0 = rec.toNat := by
    rcases hs with hj | hh
    · exact State.param_setParams_joined (s := s.accepted w) hj _ _ _ _ _ _ _
    · rw [State.macsecTaken, hh]
      exact State.param_setParams_self _ _ _ _ _ _ _
  rw [State.macsecRec, hparam, BitVec.ofNat_toNat, BitVec.setWidth_eq]

theorem State.macsecRec_macsecTaken_of_ne {n m : Nat} (hm : m ≠ n) (rec : BitVec 704) :
    (s.macsecTaken w n rec).macsecRec m = s.macsecRec m := by
  have hkey : okey 0xA210 (m + 1) 0 ≠ okey 0xA210 (n + 1) 0 := by
    simp only [okey]
    omega
  rw [State.macsecRec, State.macsecTaken, State.param_setParams_of_ne hkey, State.param_accepted, State.macsecRec]

/-- A value set changes the management state alone, of what a request does not touch anyway. -/
theorem State.setParams_besideMgmt (s : State) (h : Half) (i sub sel v : Nat) :
    { (s.setParams h i sub sel v).quiet with mgmt := s.quiet.mgmt } = s.quiet :=
  (congrArg (fun a : State => { a with mgmt := s.quiet.mgmt }) (s.setParams_quiet h i sub sel v) :)

section
variable {v : BitVec 8} (hg : s.grants w 0xA200 1 (leBytes 1 v.toNat) = true)
include hg

theorem exec_hardenWrite_taken (hv : v.toNat ≤ 2) : exec (.hardenWrite w v) s
    = .next (((s.accepted w).setParams (s.server w.sess) 0xA200 1 0 v.toNat).answeredWide w 0xA200 1) :=
  State.write_done hg rfl rfl (if_pos hv)

theorem exec_hardenWrite_refused (hv : 2 < v.toNat) :
    exec (.hardenWrite w v) s = .next ((s.accepted w).emit (.resp w.sess rsRefused [])) :=
  State.write_refused hg rfl rfl (if_neg (Nat.not_le.mpr hv))

end
end

/-! ### The counters of CIPHER (R272, R273) -/

/-- An SA with its counters cleared. -/
def Sa.uncounted (x : Sa) : Sa := { x with frames := 0, octets := 0, integrity := 0, late := 0 }

/-- The counters of CIPHER of a half cleared, with those of its SAs. -/
def State.clearCipher (s : State) (h : Half) : State := (s.clearIndex (0x6500 + h.num)).clearSas h

theorem State.cnt_clearCipher (s : State) (h : Half) (j : Nat) {i : Nat} (hi : i < 256) :
    (s.clearCipher h).cnt j i = if j = 0x6500 + h.num then 0 else s.cnt j i := by
  rw [State.clearCipher, State.clearSas, State.onHalf_cnt, State.cnt_clearIndex _ _ _ hi]

theorem State.sa_clearCipher (s : State) (h : Half) (i : Nat) : (s.clearCipher h).sa h i = (s.sa h i).uncounted := by
  rw [State.sa, State.clearCipher, State.clearSas, State.onHalf_half]
  cases h <;> exact mget_mmap (f := fun _ => Sa.uncounted) (fun _ => rfl) _ _

theorem State.sa_clearCipher_other (s : State) (h : Half) (i : Nat) : (s.clearCipher h.other).sa h i = s.sa h i := by
  cases h <;> rfl

/-- What no clear of the other half changes stays where a mask does not name the half. -/
theorem State.forMask_view_unnamed {β : Type} {view : State → β} {f : State → Half → State} {h : Half}
    (hother : ∀ a, view (f a h.other) = view a) {v : Nat} (hm : inMask v h = false) (s : State) :
    view (s.forMask v f) = view s := by
  unfold State.forMask
  cases h with
  | k =>
    rw [if_neg (Bool.eq_false_iff.mp hm)]
    split
    · exact hother _
    · rfl
  | q =>
    rw [if_neg (Bool.eq_false_iff.mp hm)]
    split
    · exact hother _
    · rfl

/-- The counters of CIPHER of the halves that a mask names, cleared. -/
def State.cipherCleared (s : State) (v : Nat) : State := s.forMask v State.clearCipher

theorem exec_cipherCntClear {s : State} {w : Who} {v : BitVec 8} (hg : s.grants w 0xA200 0x0B (leBytes 1 v.toNat) = true)
    (hv : s.maskOk w.sess v.toNat = true) :
    exec (.cipherCntClear w v) s = .next (((s.accepted w).cipherCleared v.toNat).emit (.resp w.sess rsOk [])) :=
  State.write_done hg rfl rfl (if_pos hv)

section
variable (s : State) {v : Nat} {h : Half}

theorem State.cnt_cipherCleared (hm : inMask v h = true) {i : Nat} (hi : i < 256) :
    (s.cipherCleared v).cnt (0x6500 + h.num) i = 0 :=
  State.forMask_view (view := fun a => a.cnt (0x6500 + h.num) i) (g := fun _ => 0)
    (fun a => (a.cnt_clearCipher h _ hi).trans (if_pos rfl))
    (fun a => (a.cnt_clearCipher h.other _ hi).trans (if_neg (by cases h <;> decide))) hm s

theorem State.sa_cipherCleared (hm : inMask v h = true) (i : Nat) : (s.cipherCleared v).sa h i = (s.sa h i).uncounted :=
  State.forMask_view (view := fun a => a.sa h i) (fun a => a.sa_clearCipher h i) (fun a => a.sa_clearCipher_other h i) hm s

theorem State.sa_cipherCleared_unnamed (hm : inMask v h = false) (i : Nat) : (s.cipherCleared v).sa h i = s.sa h i :=
  State.forMask_view_unnamed (view := fun a => a.sa h i) (fun a => a.sa_clearCipher_other h i) hm s

end

theorem State.emit_sa (s : State) (o : Output) (h : Half) (i : Nat) : (s.emit o).sa h i = s.sa h i :=
  State.sa_of_cipher (congrArg HalfSt.cipher (s.emit_half o h)) i

/-- Settles O22, a command at a time: what the write leaves of its slot, and that no other slot or half of the key store changes. -/
theorem keyStoreWrites : Obligations.KeyStoreWrites := by
  unfold Obligations.KeyStoreWrites
  refine ⟨fun s w rec key h i hg hh hi hs hk hkey hok he => ?install, fun s w rec hg hk hr => ?installRefused,
    fun s w rec h i hg hh hi hs hk => ?delete, fun s w rec key h i hg hh hi hs hk hkey hok he hf => ?change,
    fun s h i hst hw => ?fenceEnd, fun s w n rec hg => ?macsec, fun s w v hg => ?harden,
    fun s w v hg hv => ⟨_, exec_cipherCntClear hg hv, rfl, fun h i hm hi => ?cleared, fun h i hm => ?uncounted,
      fun h i hm => ?unnamed⟩⟩
  case install =>
    have hst : ((s.accepted w).sa h i).st = .empty := (congrArg Sa.st (s.sa_accepted w h i)).trans he
    have ht := State.saWrite_installs hk ((s.saKey_accepted w rec).trans hkey) ((s.saOk_accepted w h i rec).trans hok) hst
    have honly := (s.accepted w).saInstall_onlySa h i rec key
    obtain ⟨st, hsa⟩ := (s.accepted w).sa_saInstall h i rec key
    refine ⟨_, State.saRecordWrite_done hg hh hi hs ht, rfl, ?_⟩
    simp only [State.emit_sa, State.emit_half]
    rw [← s.rekeyMark_accepted w]
    obtain ⟨hkind, hspi, henable, hwin, hsalt⟩ := saNew_fields rec key
    exact ⟨(congrArg Sa.key hsa :), (congrArg Sa.next hsa :), (congrArg (fun x : Sa => saKind x.record) hsa).trans hkind,
      (congrArg (fun x : Sa => saSpi x.record) hsa).trans hspi, (congrArg (fun x : Sa => saEnable x.record) hsa).trans henable,
      (congrArg (fun x : Sa => saWin x.record) hsa).trans hwin, (congrArg (fun x : Sa => saSalt x.record) hsa).trans hsalt,
      (congrArg Sa.frames hsa :), (congrArg (fun x : Sa => fld x.record 256 320) hsa).trans (fld_saNew_key rec key),
      State.saInstall_ready _ _ _ _ _, State.saInstall_marked _ _ _ _ _,
      fun j hj => (honly.slots j hj).trans (s.sa_accepted w h j),
      honly.other.trans (congrArg HalfSt.cipher (s.accepted_half w _)), honly.frame⟩
  case installRefused =>
    refine ⟨_, State.saRecordWrite_refused hg rfl rfl ?_, rfl, s.accepted_quiet w⟩
    rcases hr with hkey | hs | hok
    · exact .inr (State.saWrite_unkeyed hk hkey)
    · exact .inl hs
    · exact .inr (State.saWrite_out_of_range hk hok)
  case delete =>
    have honly := (s.accepted w).saFenced_onlySa h i
    refine ⟨_, State.saRecordWrite_done hg hh hi hs (State.saWrite_fences hk), rfl, ?_⟩
    simp only [State.emit_sa, State.emit_half]
    rw [← s.sa_accepted w]
    exact ⟨State.sa_saFenced, State.sa_saFenced_empty, fun j hj => (honly.slots j hj).trans (s.sa_accepted w h j),
      honly.other.trans (congrArg HalfSt.cipher (s.accepted_half w _)), honly.frame⟩
  case change =>
    rw [← s.sa_accepted w] at he hf
    have ht := State.saWrite_changes hk ((s.saKey_accepted w rec).trans hkey) ((s.saOk_accepted w h i rec).trans hok) he hf
    rw [s.sa_accepted w] at ht
    by_cases hd : saKind rec ≠ saKind (s.sa h i).record ∨ key ≠ (s.sa h i).key ∨ saSpi rec ≠ saSpi (s.sa h i).record
    · refine ⟨_, State.saRecordWrite_refused hg hh hi (.inr (ht.trans (if_pos hd))), fun h1 h2 h3 => ?_,
        fun _ => ⟨rfl, s.accepted_quiet w⟩, fun j _ => s.sa_accepted w h j⟩
      exact absurd hd (by simp [h1, h2, h3])
    · refine ⟨_, State.saRecordWrite_done hg hh hi hs (ht.trans (if_neg hd)), fun _ _ _ => ⟨rfl, ?_⟩, fun h => absurd h hd,
        fun j hj => (State.sa_setSa_of_ne _ h i _ hj).trans (s.sa_accepted w h j)⟩
      simp only [State.emit_sa, State.sa_setSa_self]
      exact ⟨Sa.saEnable_change _ _, Sa.saWin_change _ _, Sa.change_besideRecord _ _, fun b h9 hb => Sa.change_bit _ _ h9 hb⟩
  case fenceEnd =>
    refine ⟨_, congrArg Host.Outcome.next (State.saFenceEnd_empties hst hw), ?_, fun j hj => ?_, State.onHalf_other _ _ _, ?_⟩
    · exact (s.sa_saEmptied h i i).trans (if_pos rfl)
    · exact (s.sa_saEmptied h i j).trans (if_neg hj)
    · cases h <;> rfl
  case macsec =>
    cases hok : s.macsecOk n.val rec with
    | true =>
      exact ⟨_, exec_macsecConfigWrite_taken hg hok, fun _ => ⟨rfl, State.macsecRec_macsecTaken,
        fun m _ hm => State.macsecRec_macsecTaken_of_ne hm rec, (s.accepted w).setParams_besideMgmt _ _ _ _ _⟩, fun h => nomatch h⟩
    | false => exact ⟨_, exec_macsecConfigWrite_refused hg hok, fun h => (nomatch h), fun _ => ⟨rfl, s.accepted_quiet w⟩⟩
  case harden =>
    by_cases hv : v.toNat ≤ 2
    · refine ⟨_, exec_hardenWrite_taken hg hv, fun _ => ⟨rfl, ?_, ?_⟩, fun h => absurd hv (Nat.not_le.mpr h)⟩
      · exact (State.diverge_param _ _ _ _ _ _ _ _ _ _).trans (State.param_setParams_self _ _ _ _ _ _ _)
      · rw [State.answeredWide_quiet]
        exact (s.accepted w).setParams_besideMgmt _ _ _ _ _
    · exact ⟨_, exec_hardenWrite_refused hg (Nat.not_le.mp hv), fun h => absurd h hv, fun _ => ⟨rfl, s.accepted_quiet w⟩⟩
  case cleared => exact (s.accepted w).cnt_cipherCleared hm hi
  case uncounted => rw [State.emit_sa, State.sa_cipherCleared _ hm, State.sa_accepted, Sa.uncounted]
  case unnamed => rw [State.emit_sa, State.sa_cipherCleared_unnamed _ hm, State.sa_accepted]

end Sys2Proof.Machine
end

section
/-! SUPPORT. Frames at CIPHER, the values that its SAs assign, and the failure of a lane (10 R260 to R263, R266, R267, R271, 16 R412,
R420, R421). -/

namespace Sys2Proof.Machine
open Sys2Proof

/-! ### Frames taken at CIPHER -/

theorem takeFirst_holds {α : Type} {p : α → Bool} {x : α} :
    ∀ {l rest : List α}, takeFirst p l = some (x, rest) → p x = true := by
  intro l
  induction l with
  | nil => exact fun ht => nomatch ht
  | cons y l ih =>
    intro rest ht
    unfold takeFirst at ht
    split at ht
    · next hy =>
      obtain ⟨rfl, -⟩ := Prod.mk.inj (Option.some.inj ht)
      exact hy
    · split at ht
      · next hr =>
        obtain ⟨rfl, -⟩ := Prod.mk.inj (Option.some.inj ht)
        exact ih hr
      · exact nomatch ht

section
variable {s s1 : State} {h : Half} {p : Frame → Bool} {f : Frame} (ht : s.takeFlight h p = some (f, s1))
include ht

/-- The frame that is taken is one that waits for the step. -/
theorem State.takeFlight_holds : p f = true := by
  obtain ⟨rest, hrest, -⟩ := State.takeFlight_first ht
  exact takeFirst_holds hrest

theorem State.takeFlight_cipher (g : Half) : (s1.half g).cipher = (s.half g).cipher := by
  obtain ⟨rest, rfl⟩ := State.takeFlight_eq ht
  cases h <;> cases g <;> rfl

theorem State.takeFlight_other : s1.half h.other = s.half h.other := by
  obtain ⟨rest, rfl⟩ := State.takeFlight_eq ht
  exact State.onHalf_other _ _ _

theorem State.takeFlight_sa (g : Half) (i : Nat) : s1.sa g i = s.sa g i := State.sa_of_cipher (State.takeFlight_cipher ht g) i

theorem State.takeFlight_macsecRec (n : Nat) : s1.macsecRec n = s.macsecRec n := by
  rw [State.macsecRec, State.takeFlight_param ht, State.macsecRec]

theorem State.takeFlight_macsecOn (n : Nat) : s1.macsecOn n = s.macsecOn n := by
  rw [State.macsecOn, State.takeFlight_macsecRec ht, State.macsecOn]

theorem State.takeFlight_cipherOut (g : Half) : s1.cipherOut g = s.cipherOut g := by
  obtain ⟨rest, rfl⟩ := State.takeFlight_eq ht
  cases h <;> cases g <;> rfl

theorem State.takeFlight_rxSa (g : Half) (r : BitVec 704) (bs : List Byte) : s1.rxSa g r bs = s.rxSa g r bs := by
  simp only [State.rxSa, State.takeFlight_sa ht]

theorem State.takeFlight_espSa (g : Half) (spi id : Nat) : s1.espSa g spi id = s.espSa g spi id := by
  have howner : s1.saOwner g = s.saOwner g := funext fun i => by
    simp only [State.saOwner, State.takeFlight_slices ht]
  rw [State.espSa, State.takeFlight_cipher ht, howner, State.espSa]

theorem State.takeFlight_rekeyMark (g : Half) (r : BitVec 640) : s1.rekeyMark g r = s.rekeyMark g r := by
  rw [State.rekeyMark, State.takeFlight_param ht, State.takeFlight_param ht, State.rekeyMark]

end

/-! ### What stays of the key store and of the frames -/

section
variable (s : State) (h g : Half)

theorem State.addFlight_cipher (f : Frame) : ((s.addFlight h f).half g).cipher = (s.half g).cipher := by
  cases h <;> cases g <;> rfl

theorem State.sa_addFlight (f : Frame) (i : Nat) : (s.addFlight h f).sa g i = s.sa g i :=
  State.sa_of_cipher (s.addFlight_cipher h g f) i

theorem State.addFlight_other (f : Frame) : (s.addFlight h f).half h.other = s.half h.other := State.onHalf_other _ _ _

theorem State.countCipher_half (c n : Nat) : (s.countCipher h c n).half g = s.half g := s.count_half _ _ _ g

theorem State.sa_countCipher (c n i : Nat) : (s.countCipher h c n).sa g i = s.sa g i :=
  State.sa_of_cipher (congrArg HalfSt.cipher (s.countCipher_half h g c n)) i

theorem State.cnt_countCipher_self (c n : Nat) :
    (s.countCipher h c n).cnt (0x6500 + h.num) c = s.cnt (0x6500 + h.num) c + n := s.cnt_countH_self _ h c n

theorem State.cnt_setSa (i : Nat) (x : Sa) (j c : Nat) : (s.setSa h i x).cnt j c = s.cnt j c := s.onHalf_cnt h _ j c

end

/-- A frame goes on, and counters differ alone. -/
theorem State.addFlight_restat {s s1 a : State} (ha : { a with stat := s.stat } = s1) (h : Half) (f : Frame) :
    { a.addFlight h f with stat := s.stat } = s1.addFlight h f := by
  subst ha
  cases h <;> rfl

/-- A late frame is counted, in its SA's slot and on its half, and reaches no other slot, half or frame. -/
theorem State.late_kept {s a : State} {h : Half} {i : Nat} {x : Sa}
    (ha : a = (s.setSa h i { x with late := (s.sa h i).late + 1 }).countCipher h 2 1) :
    a.cnt (0x6500 + h.num) 2 = s.cnt (0x6500 + h.num) 2 + 1 ∧ (a.sa h i).late = (s.sa h i).late + 1
      ∧ (∀ j, j ≠ i → a.sa h j = s.sa h j) ∧ a.half h.other = s.half h.other ∧ (a.half h).cls = (s.half h).cls := by
  subst ha
  refine ⟨?_, ?_, fun j hj => ?_, ?_, ?_⟩
  · rw [State.cnt_countCipher_self, State.cnt_setSa]
  · rw [State.sa_countCipher, State.sa_setSa_self]
  · rw [State.sa_countCipher, State.sa_setSa_of_ne _ _ _ _ hj]
  · rw [State.countCipher_half, State.setSa_other]
  · rw [State.countCipher_half, State.setSa_cls]

theorem State.cls_of_besideQueues {t s : State} (h : t.besideQueues = s.besideQueues) (g : Half) :
    (t.half g).cls = (s.half g).cls :=
  (congrArg HalfSt.cls (State.half_of_besideQueues h g) :)

/-! ### The check of a received frame (R261) -/

/-- An SA that has received a frame with a packet number. -/
def Sa.opened (x : Sa) (replay pn octets : Nat) : Sa :=
  { x with next := Nat.max x.next (pn + 1 - replay), frames := x.frames + 1, octets := x.octets + octets }

section
variable {s : State} {f : Frame} {n : Nat} {h : Half} (hport : f.port = n) (hh : h = ethHalf n)
include hport hh

theorem State.macsecCheck_untagged (htag : beAt f.bytes 12 2 ≠ 0x88E5) (ok : Bool) : s.macsecCheck f ok
    = (s.countCipher h 4 1, if mcValidate (s.macsecRec n) = 2 then none else some f) := by
  subst hport hh
  exact if_pos htag

variable (htag : beAt f.bytes 12 2 = 0x88E5)
include htag

theorem State.macsecCheck_unassigned (hno : badTag f.bytes = true ∨ s.rxSa h (s.macsecRec n) f.bytes = none) (ok : Bool) :
    s.macsecCheck f ok = (s.countCipher h 3 1, none) := by
  subst hport hh
  simp only [State.macsecCheck, htag, ne_eq, not_true_eq_false, if_false]
  split
  · rfl
  · next hbad => rw [hno.resolve_left hbad]

variable {i : Nat} (hbad : badTag f.bytes = false) (hsa : s.rxSa h (s.macsecRec n) f.bytes = some i)
include hbad hsa

theorem State.macsecCheck_badIcv : s.macsecCheck f false
    = ((s.countCipher h 1 1).setSa h i { s.sa h i with integrity := (s.sa h i).integrity + 1 }, none) := by
  subst hport hh
  simp only [State.macsecCheck, htag, hbad, hsa, ne_eq, not_true_eq_false, Bool.false_eq_true, if_false, if_true]

variable {pn : Nat} (hpn : pn = fullPn (s.sa h i).next (beAt f.bytes 16 4))
include hpn

/-- A frame within the replay window goes on, opened (R262). -/
theorem State.macsecCheck_received (hle : (s.sa h i).next ≤ pn) : s.macsecCheck f true
    = (s.setSa h i ((s.sa h i).opened (mcReplay (s.macsecRec n)) pn f.bytes.length),
      some { f with bytes := openTag (s.sa h i) pn f.bytes, macsec := true }) := by
  subst hport hh hpn
  simp only [State.macsecCheck, htag, hbad, hsa, ne_eq, not_true_eq_false, Bool.true_eq_false, Bool.false_eq_true, if_false,
    if_neg (Nat.not_lt.mpr hle), Sa.opened]

theorem State.macsecCheck_late (hlt : pn < (s.sa h i).next) : s.macsecCheck f true
    = ((s.setSa h i { (s.sa h i).opened (mcReplay (s.macsecRec n)) pn f.bytes.length with
        late := (s.sa h i).late + 1 }).countCipher h 2 1,
      if mcValidate (s.macsecRec n) = 2 then none
      else some { f with bytes := openTag (s.sa h i) pn f.bytes, macsec := true }) := by
  subst hport hh hpn
  simp only [State.macsecCheck, htag, hbad, hsa, ne_eq, not_true_eq_false, Bool.true_eq_false, Bool.false_eq_true, if_false,
    if_pos hlt, Sa.opened]

end

section
variable {s s1 : State} {n : Fin 16} {f : Frame} (hf : s.forwards (ethHalf n.val) = true)
  (ht : s.takeFlight (ethHalf n.val) (fun x => x.stage = .cipherRx && x.port = n.val) = some (f, s1))
include ht

theorem port_of_cipherRx : f.port = n.val := by
  have hp := State.takeFlight_holds ht
  simp only [Bool.and_eq_true, decide_eq_true_eq] at hp
  exact hp.2

include hf

theorem exec_macsecRx_unprotected (ok : Bool) (hm : s.macsecOn n.val = false) :
    exec (.macsecRx n ok) s = .next (s1.addFlight (ethHalf n.val) { f with stage := .parse }) := by
  refine congrArg Host.Outcome.next ?_
  simp only [State.macsecRx, hf, if_true, ht, State.takeFlight_macsecOn ht, hm, Bool.false_eq_true, if_false]

variable (ok : Bool) (hm : s.macsecOn n.val = true)
include hm

theorem exec_macsecRx_out (ho : s.cipherOut (ethHalf n.val) = true) :
    exec (.macsecRx n ok) s = .next (s1.cipherLoss (ethHalf n.val) f) := by
  refine congrArg Host.Outcome.next ?_
  simp only [State.macsecRx, hf, if_true, ht, State.takeFlight_macsecOn ht, hm, State.takeFlight_cipherOut ht, ho]

variable (ho : s.cipherOut (ethHalf n.val) = false)
include ho

theorem exec_macsecRx_passed {a : State} {g : Frame} (hc : s1.macsecCheck f ok = (a, some g)) :
    exec (.macsecRx n ok) s = .next (a.addFlight (ethHalf n.val) { g with stage := .parse }) := by
  refine congrArg Host.Outcome.next ?_
  simp only [State.macsecRx, hf, if_true, ht, State.takeFlight_macsecOn ht, hm, State.takeFlight_cipherOut ht, ho,
    Bool.false_eq_true, if_false, hc]

theorem exec_macsecRx_dropped {a : State} (hc : s1.macsecCheck f ok = (a, none)) : exec (.macsecRx n ok) s = .next a := by
  refine congrArg Host.Outcome.next ?_
  simp only [State.macsecRx, hf, if_true, ht, State.takeFlight_macsecOn ht, hm, State.takeFlight_cipherOut ht, ho,
    Bool.false_eq_true, if_false, hc]

end

/-! ### Values that an SA assigns (R260, R263, R266, R267) -/

/-- An outbound SA once it has assigned its value. -/
def Sa.assigned (x : Sa) (octets : Nat) : Sa :=
  { x with
    next := if x.next = saLast x.record then x.next else x.next + 1
    st := if x.next = saLast x.record then .exhausted else x.st
    frames := x.frames + 1, octets := x.octets + octets }

section
variable (s : State) (h : Half) (i n : Nat)

theorem State.assign_eq : s.assign h i n = (s.setSa h i ((s.sa h i).assigned n)).noteMark h i := rfl

theorem State.assign_onlySa : (s.assign h i n).onlySa s h i :=
  (State.noteMark_onlySa _ h i).trans (s.setSa_onlySa h i _)

/-- An assignment counts the frame, and leaves the state to the mark. -/
theorem State.sa_assign : ∃ st, (s.assign h i n).sa h i = { (s.sa h i).assigned n with st := st } := by
  obtain ⟨st, hst⟩ := (s.setSa h i ((s.sa h i).assigned n)).sa_noteMark h i
  rw [State.sa_setSa_self] at hst
  exact ⟨st, hst⟩

theorem State.frames_assign : ((s.assign h i n).sa h i).frames = (s.sa h i).frames + 1 := by
  obtain ⟨st, hst⟩ := s.sa_assign h i n
  rw [hst]
  rfl

theorem State.next_assign (hl : (s.sa h i).next ≠ saLast (s.sa h i).record) :
    ((s.assign h i n).sa h i).next = (s.sa h i).next + 1 := by
  obtain ⟨st, hst⟩ := s.sa_assign h i n
  rw [hst]
  exact if_neg hl

/-- The last value exhausts the SA, which no mark undoes. -/
theorem State.assign_last (hl : (s.sa h i).next = saLast (s.sa h i).record) : ((s.assign h i n).sa h i).st = .exhausted := by
  have hst : ((s.sa h i).assigned n).st = .exhausted := if_pos hl
  have hdue : ¬ (s.setSa h i ((s.sa h i).assigned n)).saDue h i := by
    rw [State.saDue, State.sa_setSa_self, hst]
    exact fun hd => nomatch hd.1
  rw [State.assign_eq, State.noteMark_not_due hdue, State.sa_setSa_self, hst]

theorem State.assign_marks (hst : (s.sa h i).st = .ready) (hl : (s.sa h i).next ≠ saLast (s.sa h i).record)
    (hk : saKind (s.sa h i).record = 1 ∨ saKind (s.sa h i).record = 3)
    (hm : s.rekeyMark h (s.sa h i).record ≤ (s.sa h i).next + 1) : ((s.assign h i n).sa h i).st = .marked := by
  have hdue : (s.setSa h i ((s.sa h i).assigned n)).saDue h i := by
    rw [State.saDue, State.sa_setSa_self, State.rekeyMark, State.setSa_param, ← State.rekeyMark]
    exact ⟨(if_neg hl).trans hst, hk, le_of_le_of_eq hm (if_neg hl).symm⟩
  rw [State.assign_eq, State.noteMark_due hdue, State.sa_saMarked]

theorem State.noteMark_cls (g : Half) : ((s.noteMark h i).half g).cls = (s.half g).cls := by
  rcases s.noteMark_cases h i with he | he
  · rw [he, State.cls_of_besideQueues (s.saMarked_besideQueues h i), State.countCipher_half, State.setSa_cls]
  · rw [he]

theorem State.assign_cls (g : Half) : ((s.assign h i n).half g).cls = (s.half g).cls :=
  (State.noteMark_cls _ h i g).trans (s.setSa_cls h i _ g)

end

/-! ### Protected frames that CIPHER sends (R260, R267) -/

/-- MACsec carries 64-bit values (R267). -/
theorem saWide_of_macsec {r : BitVec 640} (hk : saKind r = 1) : saWide r = true := by simp [saWide, hk]

section
variable {s s1 : State} {n : Fin 16} {f : Frame} (hf : s.forwards (ethHalf n.val) = true)
  (ht : s.takeFlight (ethHalf n.val) (fun x => x.stage = .macsecTx && x.port = n.val) = some (f, s1))
include hf ht

theorem exec_macsecTxAssign_unprotected (hm : s.macsecOn n.val = false) :
    exec (.macsecTxAssign n) s = .next (s1.addFlight (ethHalf n.val) { f with stage := .tmgr }) := by
  refine congrArg Host.Outcome.next ?_
  simp only [State.macsecTx, hf, if_true, ht, State.takeFlight_macsecOn ht, hm, Bool.false_eq_true, if_false]

variable {i : Nat} (hm : s.macsecOn n.val = true) (ho : s.cipherOut (ethHalf n.val) = false)
  (hi : mcTxSa (s.macsecRec n.val) (mcTxAn (s.macsecRec n.val)) = i) (hlt : i < 16384)
  (hserves : (s.sa (ethHalf n.val) i).serves 1 = true)
include hm ho hi hlt hserves

theorem exec_macsecTxAssign_sealed (hst : (s.sa (ethHalf n.val) i).st ≠ .exhausted) : exec (.macsecTxAssign n) s
    = .next ((s1.assign (ethHalf n.val) i f.bytes.length).addFlight (ethHalf n.val) { f with isSealed := true, stage := .tmgr }) := by
  refine congrArg Host.Outcome.next ?_
  simp only [State.macsecTx, hf, if_true, ht, State.takeFlight_macsecOn ht, hm, State.takeFlight_cipherOut ht, ho,
    Bool.false_eq_true, if_false, State.macsecSeal, State.takeFlight_macsecRec ht, hi, State.takeFlight_sa ht, hserves, hst,
    Bool.true_eq_false, or_false, Nat.not_le.mpr hlt]

theorem exec_macsecTxAssign_exhausted (hst : (s.sa (ethHalf n.val) i).st = .exhausted) : exec (.macsecTxAssign n) s
    = .next ((s1.countCipher (ethHalf n.val) 6 1).endSend f stNonceExhausted 0 0 true) := by
  refine congrArg Host.Outcome.next ?_
  simp only [State.macsecTx, hf, if_true, ht, State.takeFlight_macsecOn ht, hm, State.takeFlight_cipherOut ht, ho,
    Bool.false_eq_true, if_false, State.macsecSeal, State.takeFlight_macsecRec ht, hi, State.takeFlight_sa ht, hserves, hst,
    Bool.true_eq_false, or_false, Nat.not_le.mpr hlt]

end

/-! ### ESP of host-transmit frames (R263) -/

section
variable {s s1 : State} {h : Half} {f : Frame} (hf : s.forwards h = true)
  (ht : s.takeFlight h (fun x => x.stage = .espTx) = some (f, s1))
include hf ht

theorem exec_espOutApply_plain (he : f.espHeader = none) :
    exec (.espOutApply h) s = .next (s1.addFlight h { f with stage := .macsecTx }) := by
  refine congrArg Host.Outcome.next ?_
  simp only [State.espTx, hf, if_true, ht, he, Option.isSome_none, Bool.false_eq_true, and_false, if_false, State.espApply]

variable {hdr : Nat} (he : f.espHeader = some hdr) (ho : s.cipherOut h = false)
include he ho

theorem exec_espOutApply_unassigned (hsa : s.espSa h (beAt f.bytes hdr 4) (mdSlice f.md) = none) :
    exec (.espOutApply h) s = .next (s1.addFlight h { f with stage := .macsecTx }) := by
  refine congrArg Host.Outcome.next ?_
  simp only [State.espTx, hf, if_true, ht, he, State.takeFlight_cipherOut ht, ho, Bool.false_eq_true, false_and, if_false,
    State.espApply, State.takeFlight_espSa ht, hsa]

theorem exec_espOutApply_sealed {i : Nat} (hsa : s.espSa h (beAt f.bytes hdr 4) (mdSlice f.md) = some i)
    (hst : (s.sa h i).st ≠ .exhausted) : exec (.espOutApply h) s = .next ((s1.assign h i f.bytes.length).addFlight h
      { f with stage := .macsecTx, bytes := espSeal (s.sa h i) (s.sa h i).next hdr f }) := by
  refine congrArg Host.Outcome.next ?_
  simp only [State.espTx, hf, if_true, ht, he, State.takeFlight_cipherOut ht, ho, Bool.false_eq_true, false_and, if_false,
    State.espApply, State.takeFlight_espSa ht, hsa, State.takeFlight_sa ht, hst]

end

/-! ### The failure of a lane (R271, R420, R421) -/

/-- A half's key store with its lanes, and its frames between two steps. -/
def HalfSt.cipherWork (x : HalfSt) : Cipher × List Frame := (x.cipher, x.cls.flight)

/-- A half without its log. -/
def HalfSt.besideLog (x : HalfSt) : HalfSt := { x with log := {} }

theorem State.onHalf_view {β : Type} {view : HalfSt → β} {s : State} {h : Half} {f : HalfSt → HalfSt}
    (hf : view (f (s.half h)) = view (s.half h)) (g : Half) : view ((s.onHalf h f).half g) = view (s.half g) := by
  cases h <;> cases g
  · exact hf
  · rfl
  · rfl
  · exact hf

theorem State.ownWrite_half (s : State) (f : StoreCopy → StoreCopy) (g : Half) : (s.ownWrite f).half g = s.half g :=
  (congrArg (fun a : State => a.half g) (s.ownWrite_frame f) :)

/-- Of a half, an event reaches its log alone. -/
theorem State.log_besideLog (s : State) (code cls unit action detail : Nat) (g : Half) :
    ((s.log code cls unit action detail).half g).besideLog = (s.half g).besideLog := by
  have hrec : ∀ (a : State) h (f : HalfSt → Log), ((a.onHalf h fun x => { x with log := f x }).half g).besideLog
      = (a.half g).besideLog := fun a h f => State.onHalf_view (f := fun x => { x with log := f x }) rfl g
  simp only [State.log, State.logOn]
  split
  · exact hrec _ _ _
  · rw [State.emit_half, State.ownWrite_half]
    exact hrec _ _ _

theorem State.log_cipherWork (s : State) (code cls unit action detail : Nat) (g : Half) :
    ((s.log code cls unit action detail).half g).cipherWork = (s.half g).cipherWork :=
  (congrArg HalfSt.cipherWork (s.log_besideLog code cls unit action detail g) :)

theorem State.unit_log (s : State) (code cls unit action detail : Nat) (g : Half) (j : Nat) :
    (s.log code cls unit action detail).unit g j = s.unit g j :=
  (congrArg (fun x : HalfSt => mget x.units j {}) (s.log_besideLog code cls unit action detail g) :)

section
variable (s : State) (h : Half) (i : Nat) (g : Half)

theorem State.setUnit_cipherWork (u : UnitS) : ((s.setUnit h i u).half g).cipherWork = (s.half g).cipherWork :=
  State.onHalf_view rfl g

theorem State.visitOver_cipherWork : ((s.visitOver h).half g).cipherWork = (s.half g).cipherWork := State.onHalf_view rfl g

theorem State.toUnit_cipherWork (st : UnitSt) (cause : Nat) :
    ((s.toUnit h i st cause).half g).cipherWork = (s.half g).cipherWork := by
  simp only [State.toUnit]
  split
  · rfl
  · rw [State.log_cipherWork, State.setUnit_cipherWork]

theorem State.cutUnitCmd_cipherWork : ((s.cutUnitCmd h i).half g).cipherWork = (s.half g).cipherWork := by
  unfold State.cutUnitCmd
  split
  · exact s.setUnit_cipherWork h i g _
  · rfl

/-- CIPHER has no peers, so its fault ends a rotation visit of its own alone. -/
theorem State.peerFault_cipher : s.peerFault h 9 = s.visitOver h ∨ s.peerFault h 9 = s := by
  unfold State.peerFault
  split
  · split
    · exact .inl rfl
    · exact .inr (if_neg (by simp [peers]))
  · exact .inr rfl

theorem State.unit_setUnit_self (u : UnitS) : (s.setUnit h i u).unit h i = u := by rw [State.unit_setUnit, if_pos ⟨rfl, rfl⟩]

theorem State.toUnit_st (st : UnitSt) (cause : Nat) : ((s.toUnit h i st cause).unit h i).st = st := by
  simp only [State.toUnit]
  split
  · next hst => exact hst
  · rw [State.unit_log, State.unit_setUnit_self]

theorem State.cutUnitCmd_st : ((s.cutUnitCmd h i).unit h i).st = (s.unit h i).st := by
  unfold State.cutUnitCmd
  split
  · rw [State.endUnitCmd, State.unit_setUnit_self]
  · rfl

/-- CIPHER FAILED, before its key store is zeroised. -/
def State.cipherFailed : State :=
  ((((s.setUnit h 9 { s.unit h 9 with fatal := (s.unit h 9).fatal + 1 }).toUnit h 9 .failed 3).cutUnitCmd h 9).log 0x13 3
    (unitId h 9) (failAction 9) 0).peerFault h 9

theorem State.failUnit_cipher : s.failUnit h 9 = (s.cipherFailed h).zeroise h := rfl

theorem State.cipherFailed_cipherWork : ((s.cipherFailed h).half g).cipherWork = (s.half g).cipherWork := by
  have hpeer : ∀ a : State, ((a.peerFault h 9).half g).cipherWork = (a.half g).cipherWork := by
    intro a
    rcases a.peerFault_cipher h with hp | hp
    · rw [hp, State.visitOver_cipherWork]
    · rw [hp]
  rw [State.cipherFailed, hpeer, State.log_cipherWork, State.cutUnitCmd_cipherWork, State.toUnit_cipherWork,
    State.setUnit_cipherWork]

theorem State.cipherFailed_st : ((s.cipherFailed h).unit h 9).st = .failed := by
  have hpeer : ∀ a : State, (a.peerFault h 9).unit h 9 = a.unit h 9 := by
    intro a
    rcases a.peerFault_cipher h with hp | hp
    · rw [hp]
      cases h <;> rfl
    · rw [hp]
  rw [State.cipherFailed, hpeer, State.unit_log, State.cutUnitCmd_st, State.toUnit_st]

/-- The failure of CIPHER empties its half's key store, and loses no frame. -/
theorem State.failUnit_cipher_spec : ((s.failUnit h 9).unit h 9).st = .failed ∧ ((s.failUnit h 9).half h).cipher.sas = []
    ∧ ((s.failUnit h 9).half h).cipher.xts = [] ∧ ((s.failUnit h 9).half h).cls.flight = (s.half h).cls.flight
    ∧ ((s.failUnit h 9).half h.other).cipher = (s.half h.other).cipher := by
  have hst := s.cipherFailed_st h
  have hflight := congrArg Prod.snd (s.cipherFailed_cipherWork h h)
  have hother := congrArg Prod.fst (s.cipherFailed_cipherWork h h.other)
  rw [State.failUnit_cipher]
  generalize s.cipherFailed h = a at hst hflight hother
  cases h <;> exact ⟨hst, rfl, rfl, hflight, hother⟩

/-- CIPHER's key store replaced on a half. -/
def State.setCipher (x : Cipher) : State := s.onHalf h fun y => { y with cipher := x }

theorem State.cipher_setCipher_self (x : Cipher) : ((s.setCipher h x).half h).cipher = x := by rw [State.setCipher, State.onHalf_half]

theorem State.setCipher_other (x : Cipher) : (s.setCipher h x).half h.other = s.half h.other := State.onHalf_other _ _ _

theorem State.setCipher_cls (x : Cipher) : ((s.setCipher h x).half g).cls = (s.half g).cls :=
  State.onHalf_view (view := HalfSt.cls) (f := fun y => { y with cipher := x }) rfl g

theorem State.setCipher_unit (x : Cipher) : (s.setCipher h x).unit g i = s.unit g i :=
  congrArg (fun m : Map UnitS => mget m i {})
    (State.onHalf_view (view := HalfSt.units) (f := fun y => { y with cipher := x }) (s := s) (h := h) rfl g)

/-- The last spare lane in service: CIPHER is degraded, and nothing is lost. -/
theorem State.noteSpare_cipher_spec (hn : (s.half h).cipher.spares = 0) :
    ((s.noteSpare h 9).unit h 9).degraded = true ∧ ((s.noteSpare h 9).unit h 9).st = (s.unit h 9).st
      ∧ ∀ g, ((s.noteSpare h 9).half g).cipherWork = (s.half g).cipherWork := by
  have hspares : s.sparesOf h 9 = 0 := hn
  simp only [State.noteSpare, hspares, if_true, State.unit_log, State.unit_setUnit_self, State.log_cipherWork,
    State.setUnit_cipherWork, implies_true, and_self]

/-- A lane that fails with no work inside is counted as having lost none. -/
theorem State.failLane_nil : s.failLane h [] =
    if 0 < (s.half h).cipher.spares then
      ((s.countCipher h 9 0).setCipher h { (s.half h).cipher with spares := 0 }).noteSpare h 9
    else if (s.half h).cipher.lanes = 5 then (s.countCipher h 9 0).setCipher h { (s.half h).cipher with lanes := 4 }
    else (s.countCipher h 9 0).failUnit h 9 := by
  have hall : (s.half h).cls.flight.zipIdx.filter (fun _ => true) = (s.half h).cls.flight.zipIdx := List.filter_true _
  have hflight : s.setFlight h (s.half h).cls.flight = s := by cases h <;> rfl
  have hset : ∀ f : Cipher → Cipher, ((s.countCipher h 9 0).onHalf h fun x => { x with cipher := f x.cipher })
      = (s.countCipher h 9 0).setCipher h (f (s.half h).cipher) := fun _ => by cases h <;> rfl
  simp only [State.failLane, List.contains_nil, Bool.false_and, Bool.not_false, hall, List.zipIdx_map_fst, hflight,
    List.filter_false, List.filter_nil, List.map_nil, List.length_nil, List.foldl_nil, State.lostSends,
    hset fun c => { c with spares := 0 }, hset fun c => { c with lanes := 4 }]

end

/-- Settles O21, a step at a time: what a frame taken at CIPHER comes to, by its port, its tag and its SA, and what a failed lane leaves.
The model's choices that it rests on: the checks of a SecTAG, the channel of a frame without an SCI and the recovery of its PN (log 35),
whose slot an SA is (log 75), and that frames which need CIPHER while it is out are dropped (log 76). -/
theorem cipherLanesProtectFrames : Obligations.CipherLanesProtectFrames := by
  unfold Obligations.CipherLanesProtectFrames
  refine ⟨fun s s1 n ok f hf ht => ⟨exec_macsecRx_unprotected hf ht ok, fun hm ho hdir => ?rxOut, fun hm ho htag => ?untagged,
      fun hm ho htag hno => ?unassigned, fun i hm ho htag hbad hsa => ?assigned⟩,
    fun s s1 n f hf ht => ⟨exec_macsecTxAssign_unprotected hf ht, fun i hm ho hi hlt hserves => ?sends⟩,
    fun s s1 h f hf ht => ⟨exec_espOutApply_plain hf ht, fun hdr i he ho hsa hst => ?esp,
      fun hdr he ho hsa => exec_espOutApply_unassigned hf ht he ho hsa⟩,
    fun s h hp => ?lane⟩
  case rxOut =>
    refine ⟨_, exec_macsecRx_out hf ht ok hm ho, ?_, ?_⟩
    all_goals rw [State.cipherLoss, State.lostSend_of_received hdir]
    · rw [State.cnt_countH_self, State.takeFlight_cnt ht]
    · exact State.takeFlight_restat ht _
  case untagged =>
    have hc := State.macsecCheck_untagged (s := s1) (port_of_cipherRx ht) rfl htag ok
    rw [State.takeFlight_macsecRec ht] at hc
    by_cases hv : mcValidate (s.macsecRec n.val) = 2
    · rw [if_pos hv] at hc
      refine ⟨_, exec_macsecRx_dropped hf ht ok hm ho hc, ?_, fun _ => State.takeFlight_restat ht _, (absurd hv ·)⟩
      rw [State.cnt_countCipher_self, State.takeFlight_cnt ht]
    · rw [if_neg hv] at hc
      refine ⟨_, exec_macsecRx_passed hf ht ok hm ho hc, ?_, (absurd · hv), fun _ => ?_⟩
      · rw [State.addFlight_cnt, State.cnt_countCipher_self, State.takeFlight_cnt ht]
      · exact State.addFlight_restat (State.takeFlight_restat ht _) _ _
  case unassigned =>
    have hno1 := hno.imp_right (State.takeFlight_rxSa ht _ _ _).trans
    rw [← State.takeFlight_macsecRec ht] at hno1
    refine ⟨_, exec_macsecRx_dropped hf ht ok hm ho (State.macsecCheck_unassigned (port_of_cipherRx ht) rfl htag hno1 ok), ?_, ?_⟩
    · rw [State.cnt_countCipher_self, State.takeFlight_cnt ht]
    · exact State.takeFlight_restat ht _
  case assigned =>
    have hport := port_of_cipherRx ht
    have hsa1 : s1.rxSa (ethHalf n.val) (s1.macsecRec n.val) f.bytes = some i := by
      rw [State.takeFlight_rxSa ht, State.takeFlight_macsecRec ht, hsa]
    simp only [← State.takeFlight_sa ht, ← State.takeFlight_macsecRec ht, ← State.takeFlight_cnt ht, ← State.takeFlight_other ht]
    cases ok with
    | false =>
      refine ⟨_, exec_macsecRx_dropped hf ht false hm ho (State.macsecCheck_badIcv hport rfl htag hbad hsa1), ?_⟩
      refine ⟨fun _ => ⟨?_, ?_, ?_⟩, nofun, nofun, fun j hj => ?_, ?_⟩
      · rw [State.cnt_setSa, State.cnt_countCipher_self]
      · rw [State.sa_setSa_self]
      · rw [State.setSa_cls, State.countCipher_half]
      · rw [State.sa_setSa_of_ne _ _ _ _ hj, State.sa_countCipher]
      · rw [State.setSa_other, State.countCipher_half]
    | true =>
      rcases Nat.lt_or_ge (fullPn (s1.sa (ethHalf n.val) i).next (beAt f.bytes 16 4)) (s1.sa (ethHalf n.val) i).next with hpn | hpn
      · have hc := State.macsecCheck_late hport rfl htag hbad hsa1 rfl hpn
        generalize hlate : State.countCipher _ _ 2 1 = a at hc
        obtain ⟨hcnt, hlate, hslots, hother, hcls⟩ := State.late_kept hlate.symm
        by_cases hv : mcValidate (s1.macsecRec n.val) = 2
        · rw [if_pos hv] at hc
          refine ⟨_, exec_macsecRx_dropped hf ht true hm ho hc, ?_⟩
          exact ⟨nofun, fun _ hle => absurd hpn (Nat.not_lt.mpr hle), fun _ _ => ⟨hcnt, hlate, fun _ => hcls⟩, hslots, hother⟩
        · rw [if_neg hv] at hc
          refine ⟨_, exec_macsecRx_passed hf ht true hm ho hc, ?_⟩
          refine ⟨nofun, fun _ hle => absurd hpn (Nat.not_lt.mpr hle), fun _ _ => ⟨?_, ?_, (absurd · hv)⟩, fun j hj => ?_, ?_⟩
          · rw [State.addFlight_cnt, hcnt]
          · rw [State.sa_addFlight, hlate]
          · rw [State.sa_addFlight, hslots j hj]
          · rw [State.addFlight_other, hother]
      · refine ⟨_, exec_macsecRx_passed hf ht true hm ho (State.macsecCheck_received hport rfl htag hbad hsa1 rfl hpn), ?_⟩
        refine ⟨nofun, fun _ _ => ⟨?_, ?_⟩, fun _ hlt => absurd hlt (Nat.not_lt.mpr hpn), fun j hj => ?_, ?_⟩
        · rw [State.sa_addFlight, State.sa_setSa_self, Sa.opened]
        · rw [State.addFlight_flight, State.setSa_cls]
        · rw [State.sa_addFlight, State.sa_setSa_of_ne _ _ _ _ hj]
        · rw [State.addFlight_other, State.setSa_other]
  case sends =>
    have hkind : saKind (s.sa (ethHalf n.val) i).record = 1 := by
      simp only [Sa.serves, Bool.and_eq_true, decide_eq_true_eq] at hserves
      exact hserves.1.2
    have hwide := saWide_of_macsec hkind
    have hlast : saLast (s.sa (ethHalf n.val) i).record = 18446744073709551615 := if_pos hwide
    have hmark : s.rekeyMark (ethHalf n.val) (s.sa (ethHalf n.val) i).record
        = s.param (ethHalf n.val) 0xA200 2 0 0x4000000000000000 := if_pos hwide
    rw [← hlast, ← hmark, ← State.takeFlight_rekeyMark ht]
    by_cases hst : (s.sa (ethHalf n.val) i).st = .exhausted
    · refine ⟨_, exec_macsecTxAssign_exhausted hf ht hm ho hi hlt hserves hst, (absurd hst ·), fun _ => ⟨?_, ?_⟩⟩
      · rw [State.cnt_of_besideQueues (State.endSend_besideQueues _ _ _ _ _ _), State.cnt_countCipher_self, State.takeFlight_cnt ht]
      · rw [State.flight_of_besideQueues (State.endSend_besideQueues _ _ _ _ _ _), State.countCipher_half]
    · refine ⟨_, exec_macsecTxAssign_sealed hf ht hm ho hi hlt hserves hst,
        fun _ => ⟨?_, ?_, fun hl => ?_, fun hl => ?_, fun hready hl hle => ?_⟩, fun he => absurd he hst⟩
      all_goals simp only [← State.takeFlight_sa ht] at *
      · rw [State.addFlight_flight, State.assign_cls]
      · rw [State.sa_addFlight, State.frames_assign]
      · rw [State.sa_addFlight, State.next_assign _ _ _ _ hl]
      · rw [State.sa_addFlight, State.assign_last _ _ _ _ hl]
      · rw [State.sa_addFlight, State.assign_marks _ _ _ _ hready hl (.inl hkind) hle]
  case esp =>
    refine ⟨_, exec_espOutApply_sealed hf ht he ho hsa hst, ?_, ?_, fun hl => ?_, fun hl => ?_, fun j hj => ?_⟩
    all_goals simp only [← State.takeFlight_sa ht] at *
    · rw [State.addFlight_flight, State.assign_cls]
    · rw [State.sa_addFlight, State.frames_assign]
    · rw [State.sa_addFlight, State.next_assign _ _ _ _ hl]
    · rw [State.sa_addFlight, State.assign_last _ _ _ _ hl]
    · rw [State.sa_addFlight, (s1.assign_onlySa h i _).slots j hj]
  case lane =>
    refine ⟨_, congrArg Host.Outcome.next ((if_pos hp).trans (s.failLane_nil h)), ?_⟩
    have hhalf := fun g => s.countCipher_half h g 9 0
    have hunit : (s.countCipher h 9 0).unit h 9 = s.unit h 9 := by rw [State.unit, hhalf, State.unit]
    generalize s.countCipher h 9 0 = a at hhalf hunit
    rw [← hhalf h, ← hhalf h.other, ← hunit]
    split_ifs with hspare hlanes
    · obtain ⟨hdeg, hst, hwork⟩ := (a.setCipher h { (a.half h).cipher with spares := 0 }).noteSpare_cipher_spec h
        (by rw [State.cipher_setCipher_self])
      refine ⟨fun _ => ⟨?_, hdeg, ?_⟩, fun h0 => absurd h0 (Nat.pos_iff_ne_zero.mp hspare),
        fun h0 => absurd h0 (Nat.pos_iff_ne_zero.mp hspare), ?_, ?_⟩
      · exact (congrArg Prod.fst (hwork h)).trans (a.cipher_setCipher_self h _)
      · rw [hst, State.setCipher_unit]
      · exact (congrArg Prod.snd (hwork h)).trans (congrArg Cls.flight (a.setCipher_cls h h _))
      · exact (congrArg Prod.fst (hwork h.other)).trans (congrArg HalfSt.cipher (a.setCipher_other h _))
    · exact ⟨(absurd · hspare), fun _ _ => ⟨a.cipher_setCipher_self h _, a.setCipher_unit h 9 h _⟩, fun _ hne => absurd hlanes hne,
        congrArg Cls.flight (a.setCipher_cls h h _), congrArg HalfSt.cipher (a.setCipher_other h _)⟩
    · obtain ⟨hst, hsas, hxts, hflight, hother⟩ := a.failUnit_cipher_spec h
      exact ⟨(absurd · hspare), fun _ hl => absurd hl hlanes, fun _ _ => ⟨hst, hsas, hxts⟩, hflight, hother⟩

end Sys2Proof.Machine
end

section
/-! SUPPORT. Windows: the commands of their frames, the end of a revocation, and the counters of the RDMA transport (11 R293, R294, R296,
R307). -/

namespace Sys2Proof.Machine
open Sys2Proof

theorem State.half_onHalf_of_ne {g h : Half} (hg : g ≠ h) (s : State) (f : HalfSt → HalfSt) :
    (s.onHalf h f).half g = s.half g := by
  cases g <;> cases h
  · exact absurd rfl hg
  · rfl
  · rfl
  · exact absurd rfl hg

/-! ### A window replaced -/

section
variable (s : State) (h : Half) (e : Nat) (x : Win)

@[simp] theorem State.win_setWin_self : (s.setWin h e x).win h e = x := by
  rw [State.win, State.setWin, State.onHalf_half, mget_mset_same]

theorem State.win_setWin_of_ne {g : Half} {i : Nat} (hne : ¬ (g = h ∧ i = e)) : (s.setWin h e x).win g i = s.win g i := by
  by_cases hg : g = h
  · rw [State.win, State.setWin, hg, State.onHalf_half, State.win]
    exact (mget_mset _ _ _ _ _).trans (if_neg fun hi => hne ⟨hg, hi⟩)
  · rw [State.win, State.setWin, State.half_onHalf_of_ne hg, State.win]

/-- A window replaced leaves every other window and the rest of the state. -/
theorem State.setWin_frame :
    (∀ g i, ¬ (g = h ∧ i = e) → (s.setWin h e x).win g i = s.win g i) ∧ (s.setWin h e x).withWinsOf s h = s :=
  ⟨fun _ _ => s.win_setWin_of_ne h e x, by cases h <;> rfl⟩

end

/-! ### Commands of a window's frame (R294, R296) -/

/-- A command that reaches a window's frame changes that window, and names the function that it came through. -/
theorem State.onWin_eq {s : State} {q : QRef} {h : Half} {e sl : Nat} (hr : s.reachesFrame q 3 h e sl = true) (f : Win → Win) :
    s.onWin q f = s.setWin h e { f (s.win h e) with fn := s.frameFn q sl } :=
  State.onFrame_eq hr _

section
variable {x : Win}

theorem Win.quiet_iff : x.quiet = true ↔ x.st = .closed ∨ x.st = .revoked := by simp [Win.quiet]

theorem Win.not_quiet_iff : ¬ x.quiet = true ↔ x.st = .opened ∨ x.st = .revoking := by
  rw [Win.quiet_iff]
  cases x.st <;> simp

theorem Win.openWith_opens {rights : BitVec 3} (hq : x.quiet = true) (hl : 0 < x.len.toNat)
    (he : x.base.toNat + x.len.toNat ≤ 2 ^ 64) :
    x.openWith rights = { x with gen := if x.gen = 255 then 1 else x.gen + 1, rights := rights, st := .opened } :=
  if_pos ⟨hq, hl, he⟩

theorem Win.openWith_refused {rights : BitVec 3} (hr : ¬ x.quiet = true ∨ x.len = 0 ∨ 2 ^ 64 < x.base.toNat + x.len.toNat) :
    x.openWith rights = { x with cmdErr := true } := by
  refine if_neg fun ⟨hq, hl, he⟩ => ?_
  rcases hr with h | h | h
  · exact h hq
  · simp [h] at hl
  · omega

/-- OPEN leaves the range. -/
theorem Win.openWith_range (rights : BitVec 3) : (x.openWith rights).base = x.base ∧ (x.openWith rights).len = x.len := by
  unfold Win.openWith
  split <;> exact ⟨rfl, rfl⟩

/-- REVOKE leaves the range and the generation. -/
theorem Win.revoke_range : x.revoke.base = x.base ∧ x.revoke.len = x.len ∧ x.revoke.gen = x.gen := by
  unfold Win.revoke
  split <;> exact ⟨rfl, rfl, rfl⟩

/-- A write of the range leaves the state and the generation. -/
theorem Win.setRange_st (base : BitVec 64) (len : BitVec 40) :
    (x.setRange base len).st = x.st ∧ (x.setRange base len).gen = x.gen := by
  unfold Win.setRange
  split <;> exact ⟨rfl, rfl⟩

end

/-! ### The counters of the RDMA transport (R307) -/

/-- The counters of the RDMA transport of the halves that a mask names, cleared. -/
def State.rdmaCleared (s : State) (v : Nat) : State := s.forMask v fun a h => a.clearIndex (0x6600 + h.num)

theorem exec_rdmaCntClear {s : State} {w : Who} {v : BitVec 8} (hg : s.grants w 0xA300 0x0B [v] = true)
    (hv : s.maskOk w.sess v.toNat = true) :
    exec (.rdmaCntClear w v) s = .next (((s.accepted w).rdmaCleared v.toNat).emit (.resp w.sess rsOk [])) := by
  have hbyte : leBytes 1 v.toNat = [v] := by simp [leBytes]
  exact State.write_done (hbyte ▸ hg) rfl rfl (if_pos hv)

theorem State.cnt_rdmaCleared (s : State) {v i : Nat} {h : Half} (hm : inMask v h = true) (hi : i < 256) :
    (s.rdmaCleared v).cnt (0x6600 + h.num) i = 0 :=
  State.forMask_view (view := fun a => a.cnt (0x6600 + h.num) i) (g := fun _ => 0)
    (fun a => (a.cnt_clearIndex _ _ hi).trans (if_pos rfl))
    (fun a => (a.cnt_clearIndex _ _ hi).trans (if_neg (by cases h <;> decide))) hm s

theorem State.rdmaCleared_quiet (s : State) (v : Nat) : (s.rdmaCleared v).quiet = s.quiet := by
  simp only [State.rdmaCleared, State.forMask]
  split
  · split <;> rfl
  · split <;> rfl

/-- Settles O41: each command of a window's frame replaces that window alone. -/
theorem rdmaWindows : Obligations.RdmaWindows := by
  unfold Obligations.RdmaWindows
  refine ⟨fun s q rights h e sl hr => ⟨_, congrArg Host.Outcome.next (State.onWin_eq hr _), ?opens⟩,
    fun s q h e sl hr => ⟨_, congrArg Host.Outcome.next (State.onWin_eq hr _), ?revokes⟩,
    fun s i => ⟨_, rfl, ?revoked⟩,
    fun s q base len h e sl hr => ⟨_, congrArg Host.Outcome.next (State.onWin_eq hr _), ?range⟩,
    fun s w v hg hv => ⟨_, exec_rdmaCntClear hg hv, rfl, State.rdmaCleared_quiet _ _, fun h i hm hi => ?cleared⟩⟩
  case opens =>
    obtain ⟨hbase, hlen⟩ := (s.win h e).openWith_range rights
    rw [State.win_setWin_self]
    refine ⟨fun hst hl he => ?_, fun hbad => ?_, hbase, hlen, State.setWin_frame _ _ _ _⟩
    · rw [Win.openWith_opens (Win.quiet_iff.mpr hst) hl he]
      exact ⟨rfl, rfl, rfl, rfl⟩
    · rw [Win.openWith_refused (by rw [Win.not_quiet_iff]; tauto)]
      exact ⟨rfl, rfl, rfl, rfl⟩
  case revokes =>
    obtain ⟨hbase, hlen, hgen⟩ := (s.win h e).revoke_range
    rw [State.win_setWin_self]
    refine ⟨fun hst => ?_, fun hst => ?_, hbase, hlen, hgen, State.setWin_frame _ _ _ _⟩
    · rw [Win.revoke, if_pos hst]
      exact ⟨rfl, rfl⟩
    · rw [Win.revoke, if_neg hst]
      exact ⟨rfl, rfl⟩
  case revoked =>
    by_cases hst : (s.win (halfOf (i / 131072)) (i % 131072)).st = .revoking
    · rw [State.revokeDone, if_pos hst]
      exact ⟨fun _ => State.win_setWin_self _ _ _ _, (absurd hst ·), State.setWin_frame _ _ _ _⟩
    · rw [State.revokeDone, if_neg hst]
      exact ⟨(absurd · hst), fun _ => rfl, fun _ _ _ => rfl, by cases halfOf (i / 131072) <;> rfl⟩
  case range =>
    obtain ⟨hst, hgen⟩ := (s.win h e).setRange_st base len
    rw [State.win_setWin_self]
    refine ⟨fun hq => ?_, fun hq => ?_, hst, hgen, State.setWin_frame _ _ _ _⟩
    · rw [Win.setRange, if_pos (Win.quiet_iff.mpr hq)]
      exact ⟨rfl, rfl, rfl⟩
    · rw [Win.setRange, if_neg (Win.not_quiet_iff.mpr hq)]
      exact ⟨rfl, rfl, rfl⟩
  case cleared => exact State.cnt_rdmaCleared _ hm hi

end Sys2Proof.Machine
end

section
/-! SUPPORT. Queue pairs by number, a queue pair replaced, and what stays beside the queue pairs (11 R275, R283, R291, R300). -/

namespace Sys2Proof.Machine
open Sys2Proof

/-! ### The queues of a queue pair by number (R275) -/

theorem qpBase_le_sqOf (k : Nat) : qpBase ≤ sqOf k := Nat.le_add_right _ _
theorem qpBase_le_rqOf (k : Nat) : qpBase ≤ rqOf k := Nat.le_succ_of_le (Nat.le_add_right _ _)

@[simp] theorem qQp_sqOf (k : Nat) : qQp (sqOf k) = k := by
  simp only [qQp, sqOf]
  omega

@[simp] theorem qQp_rqOf (k : Nat) : qQp (rqOf k) = k := by
  simp only [qQp, rqOf]
  omega

theorem sqOf_even (k : Nat) : sqOf k % 2 = 0 := by
  simp only [sqOf, qpBase]
  omega

theorem rqOf_odd (k : Nat) : ¬ rqOf k % 2 = 0 := by
  simp only [rqOf, qpBase]
  omega

/-- A queue number names a work queue, or the send or the receive queue of a queue pair. -/
theorem queue_cases (q : Nat) : q < qpBase ∨ (∃ k, q = sqOf k) ∨ ∃ k, q = rqOf k := by
  simp only [sqOf, rqOf]
  rcases Nat.lt_or_ge q qpBase with hq | hq
  · exact .inl hq
  · rcases Nat.mod_two_eq_zero_or_one (q - qpBase) with h | h
    · exact .inr (.inl ⟨(q - qpBase) / 2, by omega⟩)
    · exact .inr (.inr ⟨(q - qpBase) / 2, by omega⟩)

/-! ### A queue pair replaced -/

theorem State.qp_setQp (s : State) (h g : Half) (i j : Nat) (x : Qp) :
    (s.setQp h i x).qp g j = if g = h ∧ j = i then x else s.qp g j := by
  by_cases hg : g = h
  · rw [State.qp, State.setQp, hg, State.onHalf_half, State.qp]
    simp only [true_and]
    exact mget_mset _ _ _ _ _
  · rw [State.qp, State.setQp, State.half_onHalf_of_ne hg, State.qp, if_neg fun hi => hg hi.1]

theorem State.otherQps.trans {t u s : State} {k : Nat} (h1 : t.otherQps u k) (h2 : u.otherQps s k) : t.otherQps s k :=
  fun h i hi => (h1 h i hi).trans (h2 h i hi)

theorem State.otherQps_of_qp {t s : State} (hq : ∀ h i, t.qp h i = s.qp h i) (k : Nat) : t.otherQps s k := fun h i _ => hq h i

section
variable (s : State) (k : Nat)

@[simp] theorem State.queue_sqOf : s.queue (sqOf k) = (s.qpk k).sq := by
  rw [State.queue, if_neg (Nat.not_lt.mpr (qpBase_le_sqOf k)), qQp_sqOf]
  exact if_pos (sqOf_even k)

@[simp] theorem State.queue_rqOf : s.queue (rqOf k) = (s.qpk k).rq := by
  rw [State.queue, if_neg (Nat.not_lt.mpr (qpBase_le_rqOf k)), qQp_rqOf]
  exact if_neg (rqOf_odd k)

@[simp] theorem State.setQueue_sqOf (w : Wq) : s.setQueue (sqOf k) w = s.setQpk k { s.qpk k with sq := w } := by
  rw [State.setQueue, if_neg (Nat.not_lt.mpr (qpBase_le_sqOf k)), qQp_sqOf]
  simp only [if_pos (sqOf_even k)]
  rfl

@[simp] theorem State.setQueue_rqOf (w : Wq) : s.setQueue (rqOf k) w = s.setQpk k { s.qpk k with rq := w } := by
  rw [State.setQueue, if_neg (Nat.not_lt.mpr (qpBase_le_rqOf k)), qQp_rqOf]
  simp only [if_neg (rqOf_odd k)]
  rfl

@[simp] theorem State.qpk_setQpk (x : Qp) : (s.setQpk k x).qpk k = x := by
  rw [State.qpk, State.setQpk, State.qp_setQp, if_pos ⟨rfl, rfl⟩]

/-- A queue pair put back leaves every queue pair as it reads. -/
theorem State.qp_setQpk_same (h : Half) (i : Nat) : (s.setQpk k (s.qpk k)).qp h i = s.qp h i := by
  rw [State.setQpk, State.qp_setQp]
  split
  · next hi => rw [hi.1, hi.2, State.qpk]
  · rfl

theorem State.setQpk_otherQps (x : Qp) : (s.setQpk k x).otherQps s k := fun h i hi => by
  rw [State.setQpk, State.qp_setQp, if_neg hi]

@[simp] theorem State.otherQps_refl : s.otherQps s k := fun _ _ _ => rfl

end

/-! ### Updates that leave every queue pair -/

section
variable (s : State)

@[simp] theorem State.qp_emit (o : Output) (h : Half) (i : Nat) : (s.emit o).qp h i = s.qp h i := by
  rw [State.qp, State.emit_half, State.qp]

@[simp] theorem State.qp_count (j sub n : Nat) (h : Half) (i : Nat) : (s.count j sub n).qp h i = s.qp h i := by
  rw [State.qp, State.count_half, State.qp]

@[simp] theorem State.qp_countH (j : Nat) (g : Half) (sub n : Nat) (h : Half) (i : Nat) : (s.countH j g sub n).qp h i = s.qp h i :=
  s.qp_count _ _ _ _ _

@[simp] theorem State.qp_countRdma (g : Half) (sub n : Nat) (h : Half) (i : Nat) : (s.countRdma g sub n).qp h i = s.qp h i :=
  s.qp_count _ _ _ _ _

@[simp] theorem State.qp_setFn (f : Nat) (x : Fn) (h : Half) (i : Nat) : (s.setFn f x).qp h i = s.qp h i := by cases h <;> rfl
@[simp] theorem State.qp_setCq (c : Nat) (x : Cq) (h : Half) (i : Nat) : (s.setCq c x).qp h i = s.qp h i := by cases h <;> rfl
@[simp] theorem State.qp_setPort (p : Nat) (x : Port) (h : Half) (i : Nat) : (s.setPort p x).qp h i = s.qp h i := by cases h <;> rfl
@[simp] theorem State.qp_until (g : Half) (t : Nat) (h : Half) (i : Nat) : (s.until g t).qp h i = s.qp h i := by cases h <;> rfl

/-- A change of a half that spares its queue pairs. -/
theorem State.qp_onHalf {s : State} {g : Half} {f : HalfSt → HalfSt} (hf : (f (s.half g)).rdma.qps = (s.half g).rdma.qps)
    (h : Half) (i : Nat) : (s.onHalf g f).qp h i = s.qp h i := by
  by_cases hg : h = g
  · rw [State.qp, hg, State.onHalf_half, hf, State.qp]
  · rw [State.qp, State.half_onHalf_of_ne hg, State.qp]

@[simp] theorem State.qp_pruneGroups (g : Half) (h : Half) (i : Nat) : (s.pruneGroups g).qp h i = s.qp h i := State.qp_onHalf rfl h i

@[simp] theorem State.qp_joinGroup (k : Nat) (h : Half) (i : Nat) : (s.joinGroup k).qp h i = s.qp h i := by
  simp only [State.joinGroup]
  split
  · rfl
  · exact State.qp_onHalf rfl h i

@[simp] theorem State.qp_roceOut (k sl txMeta : Nat) (o : Output) (h : Half) (i : Nat) :
    (s.roceOut k sl txMeta o).qp h i = s.qp h i := by
  simp only [State.roceOut]
  split
  · rfl
  · split <;> simp

@[simp] theorem State.qp_answerRoce (k : Nat) (psn : BitVec 24) (a : RoceAnswer) (h : Half) (i : Nat) :
    (s.answerRoce k psn a).qp h i = s.qp h i := s.qp_roceOut _ _ _ _ _ _

@[simp] theorem State.qp_rdqStatus (fk page : Nat) (st : QpSt) (v : Nat) (h : Half) (i : Nat) :
    (s.rdqStatus fk page st v).qp h i = s.qp h i := s.qp_setFn _ _ _ _

end

end Sys2Proof.Machine
end

section
/-! SUPPORT. What the ends of entries, of aborts and of fetches leave of the queue pairs and of the states of slices (04 R105, R108, R118,
R119, 11 R303, R304). -/

namespace Sys2Proof.Machine
open Sys2Proof

/-! ### What lasts of queue pairs and slices -/

/-- A queue but for its state and its open abort. -/
def Wq.lasting (w : Wq) : Wq := { w with st := .disabled, abort := none }

/-- A queue pair but for the states and the open aborts of its queues. -/
def Qp.lasting (x : Qp) : Qp := { x with sq := x.sq.lasting, rq := x.rq.lasting }

/-- Every queue pair is as in another state but for the states and the open aborts of its queues, and every slice has its state. -/
def State.lasts (t s : State) : Prop :=
  (∀ h i, (t.qp h i).lasting = (s.qp h i).lasting) ∧ ∀ id, (t.slice id).st = (s.slice id).st

section
variable {t s : State} (h : t.lasts s)
include h

theorem State.lasts.qp (g : Half) (i : Nat) : (t.qp g i).lasting = (s.qp g i).lasting := by
  obtain ⟨hq, -⟩ := h
  exact hq g i

theorem State.lasts.qpk (k : Nat) : (t.qpk k).lasting = (s.qpk k).lasting := h.qp _ _

theorem State.lasts.sliceSt (id : Nat) : (t.slice id).st = (s.slice id).st := by
  obtain ⟨-, hs⟩ := h
  exact hs id

end

@[simp] theorem State.lasts_refl (s : State) : s.lasts s := ⟨fun _ _ => rfl, fun _ => rfl⟩

theorem State.lasts.trans {t u s : State} (h1 : t.lasts u) (h2 : u.lasts s) : t.lasts s :=
  ⟨fun g i => (h1.qp g i).trans (h2.qp g i), fun id => (h1.sliceSt id).trans (h2.sliceSt id)⟩

theorem State.qp_of_halves {t s : State} (hk : t.k = s.k) (hq : t.q = s.q) (h : Half) (i : Nat) : t.qp h i = s.qp h i := by
  cases h
  · rw [State.qp, State.half, hk]
    rfl
  · rw [State.qp, State.half, hq]
    rfl

/-- Steps that each leave what lasts, taken one after another. -/
theorem State.foldl_lasts {α : Type} {s : State} {f : State → α → State} (hf : ∀ a x, a.lasts s → (f a x).lasts s) (l : List α) :
    ∀ {a : State}, a.lasts s → (l.foldl f a).lasts s := by
  induction l with
  | nil => exact fun h => h
  | cons x rest ih => exact fun h => ih (hf _ x h)

section
variable {a s : State} (h : a.lasts s)
include h

/-- A state with the halves and the slices of another. -/
theorem State.lasts_of_same {t : State} (hk : t.k = a.k := by rfl) (hq : t.q = a.q := by rfl) (hs : t.slices = a.slices := by rfl) :
    t.lasts s :=
  State.lasts.trans (u := a) ⟨fun g i => by rw [State.qp_of_halves hk hq], fun id => by rw [State.slice_of_slices hs]⟩ h

theorem State.lasts_ite {b : State} (c : Prop) [Decidable c] (hb : b.lasts s) : (if c then a else b).lasts s := by
  split
  · exact h
  · exact hb

@[simp] theorem State.emit_lasts (o : Output) : (a.emit o).lasts s := State.lasts_of_same h
@[simp] theorem State.setCq_lasts (k : Nat) (x : Cq) : (a.setCq k x).lasts s := State.lasts_of_same h
@[simp] theorem State.setFn_lasts (k : Nat) (x : Fn) : (a.setFn k x).lasts s := State.lasts_of_same h
@[simp] theorem State.setChan_lasts (k : Nat) (x : Chan) : (a.setChan k x).lasts s := State.lasts_of_same h
@[simp] theorem State.setStq_lasts (k : Nat) (x : Stq) : (a.setStq k x).lasts s := State.lasts_of_same h

theorem State.setSlice_lasts {id : Nat} {x : Slice} (hx : x.st = (a.slice id).st := by rfl) : (a.setSlice id x).lasts s := by
  refine State.lasts.trans (u := a) ⟨fun g i => State.qp_of_halves rfl rfl g i ▸ rfl, fun j => ?_⟩ h
  rw [State.slice_setSlice]
  split
  · next hj => rw [hx, hj]
  · rfl

theorem State.setQp_lasts {g : Half} {i : Nat} {x : Qp} (hx : x.lasting = (a.qp g i).lasting) : (a.setQp g i x).lasts s := by
  refine State.lasts.trans (u := a) ⟨fun g' j => ?_, fun id => by rw [State.slice_of_slices (State.setQp_slices _ _ _ _)]⟩ h
  rw [State.qp_setQp]
  split
  · next hj => rw [hx, hj.1, hj.2]
  · rfl

/-- A queue replaced by one that differs in its state and its open abort. -/
theorem State.setQueue_lasts {q : Nat} {w : Wq} (hw : w.lasting = (a.queue q).lasting) : (a.setQueue q w).lasts s := by
  rcases queue_cases q with hq | ⟨k, rfl⟩ | ⟨k, rfl⟩
  · rw [State.setQueue_of_lt hq]
    exact State.lasts_of_same h
  · rw [State.queue_sqOf] at hw
    rw [State.setQueue_sqOf]
    exact State.setQp_lasts h (by rw [Qp.lasting, hw]; rfl)
  · rw [State.queue_rqOf] at hw
    rw [State.setQueue_rqOf]
    exact State.setQp_lasts h (by rw [Qp.lasting, hw]; rfl)

theorem State.onHalf_lasts {g : Half} {f : HalfSt → HalfSt} (hf : (f (a.half g)).rdma.qps = (a.half g).rdma.qps := by rfl) :
    (a.onHalf g f).lasts s :=
  State.lasts.trans (u := a)
    ⟨fun g' i => by rw [State.qp_onHalf hf], fun id => by rw [State.slice_of_slices (State.onHalf_slices _ _ _)]⟩ h

/-! ### Interrupts (R47, R50 to R52, R60, R77, R114 to R116) -/

@[simp] theorem State.sendMsg_lasts (fk sl v : Nat) : (a.sendMsg fk sl v).lasts s := by
  simp only [State.sendMsg]
  exact State.lasts_ite (State.setSlice_lasts (State.emit_lasts h _)) _ (State.emit_lasts h _)

@[simp] theorem State.holdIrq_lasts (fk sl v : Nat) : (a.holdIrq fk sl v).lasts s := by
  simp only [State.holdIrq]
  split <;> simp [h]

@[simp] theorem State.holdVector_lasts (sl v : Nat) : (a.holdVector sl v).lasts s := by
  simp only [State.holdVector]
  exact State.lasts_ite h _ (State.setSlice_lasts h)

@[simp] theorem State.passVector_lasts (fk sl v : Nat) : (a.passVector fk sl v).lasts s := by
  simp only [State.passVector]
  split
  · simp [h]
  · split
    · split <;> simp [h]
    · split
      · split <;> simp [h]
      · simp [h]

@[simp] theorem State.sendPme_lasts (fk : Nat) : (a.sendPme fk).lasts s := State.emit_lasts (State.setFn_lasts h _ _) _

@[simp] theorem State.vectorDue_lasts (fk sl v : Nat) : (a.vectorDue fk sl v).lasts s := by
  simp only [State.vectorDue]
  split
  · exact h
  · split
    · exact State.sendPme_lasts h fk
    · split <;> simp [h]

@[simp] theorem State.cqDue_lasts (k : Nat) : (a.cqDue k).lasts s := by
  simp only [State.cqDue]
  split
  · split <;> simp [h]
  · split <;> simp [h]

@[simp] theorem State.blotter_lasts (k : Nat) : (a.blotter k).lasts s := by
  simp only [State.blotter]
  split
  · split
    · simp [h]
    · split <;> simp [h]
  · exact h

@[simp] theorem State.raiseFault_lasts (fk i kind n : Nat) : (a.raiseFault fk i kind n).lasts s := by
  simp only [State.raiseFault]
  split <;> simp [h]

@[simp] theorem State.logOn_lasts (g : Half) {cls : Nat} (hc : cls < 3) (code unit sl action detail : Nat) :
    (a.logOn g code cls unit sl action detail).lasts s := by
  simp only [State.logOn, if_pos hc]
  exact State.onHalf_lasts h

/-! ### Completions (R61, R105, R108, R110, R118, R119) -/

@[simp] theorem State.closeAbort_lasts (q : Nat) : (a.closeAbort q).lasts s := by
  simp only [State.closeAbort]
  split
  · exact State.setQueue_lasts h rfl
  · split <;> simp [h]

@[simp] theorem State.writeCpl_lasts (x : HeldCpl) : (a.writeCpl x).lasts s := by
  simp only [State.writeCpl]
  have hb := State.blotter_lasts (State.emit_lasts (State.setCq_lasts h x.cq
    { a.cq x.cq with tail := (a.cq x.cq).tail + 1, reserved := (a.cq x.cq).reserved - 1 })
    (.cqe x.cq (a.cq x.cq).tail (cqPhase (a.cq x.cq)) x.e (a.time (portHalf (keyPort (a.cq x.cq).fn))))) x.cq
  exact State.lasts_ite (State.closeAbort_lasts hb x.queue) _ hb

/-- A completion whose write can be issued is held or written. -/
@[simp] theorem State.produce_lasts (x : HeldCpl) : (a.produce x true).lasts s := by
  simp only [State.produce, State.holdInCq]
  split
  · simp [h]
  · split <;> simp [h]

end

theorem State.drainDue_lasts {s : State} (fk : Nat) (todo : List HeldCpl) :
    ∀ {a : State} (_ : a.lasts s) (kept : List HeldCpl), (a.drainDue fk todo kept).lasts s := by
  induction todo with
  | nil => exact fun h kept => State.setFn_lasts h _ _
  | cons x rest ih =>
    intro a h kept
    unfold State.drainDue
    split
    · exact ih (State.produce_lasts (a := a.reserve x.cq) (State.setCq_lasts h _ _) x) kept
    · exact ih h _

section
variable {a s : State} (h : a.lasts s)
include h

@[simp] theorem State.pushDue_lasts (fk : Nat) (x : HeldCpl) : (a.pushDue fk x).lasts s :=
  State.drainDue_lasts fk _ (State.setFn_lasts h _ _) []

@[simp] theorem State.endAbort_lasts (q status : Nat) : (a.endAbort q status).lasts s := by
  simp only [State.endAbort]
  split
  · exact h
  · split <;> simp [h]

@[simp] theorem State.shadow_lasts (fk q : Nat) (head : BitVec 16) (st : Nat) : (a.shadow fk q head st).lasts s := by
  simp only [State.shadow]
  split <;> simp [h]

@[simp] theorem State.leaveWait_lasts (q : Nat) : (a.leaveWait q).lasts s := by
  simp only [State.leaveWait]
  split <;> simp [h]

@[simp] theorem State.drained_lasts (q : Nat) : (a.drained q).lasts s := by
  simp only [State.drained]
  split
  · exact h
  · split
    · exact State.shadow_lasts (State.setQueue_lasts (State.endAbort_lasts h q _) (by rfl)) _ _ _ _
    · split <;> simp [h]

@[simp] theorem State.unstartedCpl_lasts (q : Nat) (e : Entry) (status : Nat) : (a.unstartedCpl q e status).lasts s :=
  State.pushDue_lasts h _ _

end

/-! ### The end of a started entry (R105, R107, R118) -/

/-- A queue without a started entry, which was its last to end. -/
def Wq.ended (w : Wq) (e : Entry) : Wq :=
  { w with started := w.started.filter (fun x => x.index != e.index), lastDone := some e.index }

/-- The completion of a started entry. -/
def State.entryCqe (s : State) (q : Nat) (e : Entry) (status bytes qflags data : Nat) : Cqe :=
  { tag := e.tag, status := BitVec.ofNat 8 status, source := s.sourceOf q,
    queue := BitVec.ofNat 20 (s.queueNumber q), qflags := BitVec.ofNat 12 qflags, index := e.index,
    bytes := BitVec.ofNat 32 bytes, data := BitVec.ofNat 64 data }

section
variable (s : State) (q : Nat) (e : Entry) (status bytes qflags data : Nat)

/-- The state once an entry has left the started ones and its completion has been produced. -/
def State.produced : State :=
  (s.setQueue q ((s.queue q).ended e)).produce { cq := s.queueCq q, e := s.entryCqe q e status bytes qflags data, queue := q } true

/-- An entry ends with its completion, an abort that waited for it, and a drain. -/
theorem State.finish_eq :
    s.finish q e status bytes qflags data true
      = (match (s.queue q).abort with
          | some a => if a.index = e.index ∧ a.tag = e.tag then (s.produced q e status bytes qflags data).endAbort q stNotFound
              else s.produced q e status bytes qflags data
          | none => s.produced q e status bytes qflags data).drained q := rfl

theorem State.finish_lasts :
    (s.finish q e status bytes qflags data true).lasts (s.setQueue q ((s.queue q).ended e)) := by
  have hp : (s.produced q e status bytes qflags data).lasts (s.setQueue q ((s.queue q).ended e)) :=
    State.produce_lasts (State.lasts_refl _) _
  rw [State.finish_eq]
  refine State.drained_lasts ?_ q
  split
  · exact State.lasts_ite (State.endAbort_lasts hp q _) _ hp
  · exact hp

end

end Sys2Proof.Machine
end

section
/-! SUPPORT. Completions that are written for an entry, the queue pairs beside the one whose entry ends, and the error state of a queue
pair (04 R104, R105, R111, R118, 11 R303). -/

namespace Sys2Proof.Machine
open Sys2Proof

/-! ### A slice that may work has nothing to settle (R83) -/

theorem State.sliceOn_of_st {t s : State} (h : ∀ id, (t.slice id).st = (s.slice id).st) (sl : Nat) : t.sliceOn sl = s.sliceOn sl := by
  rw [State.sliceOn, h, State.sliceOn]

theorem State.settle_of_enabled {s : State} {id : Nat} (h : (s.slice id).st = .enabled) : s.settle id = s := by
  simp [State.settle, h]

theorem State.settleQueue_of_sliceOn {s : State} {q : Nat} (h : s.sliceOn (s.queue q).slice = true) : s.settleQueue q = s := by
  simp only [State.sliceOn, Bool.or_eq_true, decide_eq_true_eq] at h
  rw [State.settleQueue]
  split
  · exact State.settle_of_enabled (h.resolve_left (by omega))
  · rfl

/-! ### Queue pairs that nothing reaches -/

theorem State.onlyIrq.qp {t s : State} (h : t.onlyIrq s) (g : Half) (i : Nat) : t.qp g i = s.qp g i :=
  State.qp_of_halves (congrArg State.k h.eq :) (congrArg State.q h.eq :) g i

theorem State.queue_of_qp {t s : State} (h : ∀ g i, t.qp g i = s.qp g i) {q : Nat} (hq : qpBase ≤ q) : t.queue q = s.queue q := by
  simp only [State.queue, if_neg (Nat.not_lt.mpr hq), h]

theorem State.qpk_of_qp {t s : State} (h : ∀ g i, t.qp g i = s.qp g i) (k : Nat) : t.qpk k = s.qpk k := h _ _

theorem State.queue_setQueue_self (s : State) (q : Nat) (w : Wq) : (s.setQueue q w).queue q = w := by
  rcases queue_cases q with hq | ⟨k, rfl⟩ | ⟨k, rfl⟩
  · rw [State.setQueue_of_lt hq, State.queue_of_lt hq, State.wq_setWq_self]
  · simp
  · simp

/-- A queue put back leaves every queue pair as it reads. -/
theorem State.qp_setQueue_same (s : State) (q : Nat) (h : Half) (i : Nat) : (s.setQueue q (s.queue q)).qp h i = s.qp h i := by
  rcases queue_cases q with hq | ⟨k, rfl⟩ | ⟨k, rfl⟩
  · rw [State.setQueue_of_lt hq, State.qp_setWq]
  · rw [State.setQueue_sqOf, State.queue_sqOf]
    exact State.qp_setQpk_same s k h i
  · rw [State.setQueue_rqOf, State.queue_rqOf]
    exact State.qp_setQpk_same s k h i

theorem State.setQueue_otherQps (s : State) (q : Nat) (w : Wq) : (s.setQueue q w).otherQps s (qQp q) := by
  rcases queue_cases q with hq | ⟨k, rfl⟩ | ⟨k, rfl⟩
  · rw [State.setQueue_of_lt hq]
    exact State.otherQps_of_qp (State.qp_setWq s q w) _
  · rw [State.setQueue_sqOf, qQp_sqOf]
    exact State.setQpk_otherQps _ _ _
  · rw [State.setQueue_rqOf, qQp_rqOf]
    exact State.setQpk_otherQps _ _ _

/-- A completion that is not an abort's closes no abort. -/
theorem State.qp_produce {x : HeldCpl} (hx : x.abort = false) (s : State) (h : Half) (i : Nat) :
    (s.produce x true).qp h i = s.qp h i := by
  simp only [State.produce, State.holdInCq, State.writeCpl, hx, if_true, Bool.false_eq_true, if_false]
  split
  · exact s.qp_setFn _ _ _ _
  · split
    · exact s.qp_setCq _ _ _ _
    · rw [(State.blotter_onlyIrq _ _).qp, State.qp_emit, State.qp_setCq]

theorem State.endAbort_of_none {s : State} {q : Nat} (ha : (s.queue q).abort = none) (status : Nat) : s.endAbort q status = s := by
  simp only [State.endAbort, ha]

/-- A queue without an open abort drains alone. -/
theorem State.drained_otherQps {s : State} {q : Nat} (ha : (s.queue q).abort = none) : (s.drained q).otherQps s (qQp q) := by
  have hshadow := fun (a : State) fk head st => State.otherQps_of_qp (State.shadow_onlyIrq a fk q head st).qp (qQp q)
  simp only [State.drained, State.endAbort_of_none ha]
  split
  · exact s.otherQps_refl _
  · split
    · exact (hshadow _ _ _ _).trans (s.setQueue_otherQps q _)
    · split
      · exact hshadow _ _ _ _
      · exact s.otherQps_refl _

section
variable (s : State) (q : Nat) (e : Entry) (status bytes qflags data : Nat)

/-- The end of an entry of a queue without an open abort reaches its queue pair alone. -/
theorem State.finish_otherQps (hq : qpBase ≤ q) (ha : (s.queue q).abort = none) :
    (s.finish q e status bytes qflags data true).otherQps s (qQp q) := by
  have hqp : ∀ g i, (s.produced q e status bytes qflags data).qp g i = (s.setQueue q ((s.queue q).ended e)).qp g i :=
    State.qp_produce rfl _
  have hp : ((s.produced q e status bytes qflags data).queue q).abort = none := by
    rw [State.queue_of_qp hqp hq, State.queue_setQueue_self]
    exact ha
  rw [State.finish_eq, ha]
  exact (State.drained_otherQps hp).trans ((State.otherQps_of_qp hqp _).trans (s.setQueue_otherQps q _))

/-! ### Completions written (R104, R105) -/

theorem State.completed.mono {t u r : State} {s : State} {c st : Nat} {e : Entry} (h : t.completed s c e st)
    (ht : t.out <:+ u.out) (hs : r.out <:+ s.out) : u.completed r c e st := by
  obtain ⟨l, i, ph, x, tm, hout, hmem, hx⟩ := h
  obtain ⟨l1, h1⟩ := ht
  obtain ⟨l2, h2⟩ := hs
  exact ⟨l1 ++ l ++ l2, i, ph, x, tm, by rw [← h1, hout, ← h2]; simp, by simp [hmem], hx⟩

/-- The completion that a state writes for what a queue holds ready (R104, R105). -/
def State.cqeOut (s : State) (x : HeldCpl) : Output :=
  .cqe x.cq (s.cq x.cq).tail (cqPhase (s.cq x.cq)) x.e (s.time (portHalf (keyPort (s.cq x.cq).fn)))

theorem State.writeCpl_out (s : State) (x : HeldCpl) : (s.cqeOut x :: s.out) <:+ (s.writeCpl x).out := by
  unfold State.writeCpl
  extract_lets c s1 s2
  have h2 : (s.cqeOut x :: s.out) <:+ s2.out := (State.blotter_keeps (State.keeps_refl (s1.emit (s.cqeOut x))) x.cq).out
  split
  · exact h2.trans (State.closeAbort_keeps (State.keeps_refl s2) x.queue).out
  · exact h2

/-- A CQ that takes completions has one written at once. -/
theorem State.produce_out {s : State} {x : HeldCpl} (hc : s.cqTakes x.cq = true) : (s.cqeOut x :: s.out) <:+ (s.produce x true).out := by
  simp only [State.cqTakes, Bool.and_eq_true, Bool.not_eq_true'] at hc
  obtain ⟨hm, hf⟩ := hc
  simp only [State.produce, hm, hf, Bool.true_eq_false, Bool.false_eq_true, if_false, if_true]
  exact s.writeCpl_out x

theorem State.cqTakes_setQueue {w : Wq} (hw : (s.queue q).off → w.off) (c : Nat) : (s.setQueue q w).cqTakes c = s.cqTakes c := by
  have hk : (s.setQueue q w).keeps s := State.setQueue_keeps (State.keeps_refl s) hw
  have hcq : (s.setQueue q w).cq c = s.cq c := by rw [State.cq, State.setQueue_cqs, State.cq]
  rw [State.cqTakes, hcq, hk.mastering, State.cqTakes]

/-- An entry that ends is completed with its status in a CQ that takes completions. -/
theorem State.finish_completed (hc : s.cqTakes (s.queueCq q) = true) :
    (s.finish q e status bytes qflags data true).completed s (s.queueCq q) e status := by
  have hset : (s.setQueue q ((s.queue q).ended e)).keeps s := State.setQueue_keeps (State.keeps_refl s) (by exact fun h => h)
  have hw : (s.setQueue q ((s.queue q).ended e)).cqTakes (s.queueCq q) = true :=
    (s.cqTakes_setQueue q (by exact fun h => h) _).trans hc
  have hp : (s.finish q e status bytes qflags data true).keeps (s.produced q e status bytes qflags data) := by
    rw [State.finish_eq]
    refine State.drained_keeps ?_ q
    split
    · exact State.keeps_ite (State.endAbort_keeps (State.keeps_refl _) q _) _ (State.keeps_refl _)
    · exact State.keeps_refl _
  obtain ⟨l, hl⟩ := (State.produce_out (x := { cq := s.queueCq q, e := s.entryCqe q e status bytes qflags data, queue := q }) hw).trans
    hp.out
  obtain ⟨l', hl'⟩ := hset.out
  rw [← hl', ← List.cons_append, ← List.append_assoc] at hl
  exact ⟨_, _, _, _, _, hl.symm, List.mem_append_right _ List.mem_cons_self, rfl, rfl, rfl⟩

end

/-! ### The contexts of queue pairs -/

/-- A queue without its progress. -/
def Wq.owner (w : Wq) : Wq := { fn := w.fn, slice := w.slice }

/-- A queue pair without the progress of its queues. -/
def Qp.context (x : Qp) : Qp := { x with sq := x.sq.owner, rq := x.rq.owner }

/-- Every queue pair is as in another state but for the progress of its queues, and every slice has its state. -/
def State.sameContexts (t s : State) : Prop :=
  (∀ h i, (t.qp h i).context = (s.qp h i).context) ∧ ∀ id, (t.slice id).st = (s.slice id).st

theorem State.sameContexts.trans {t u s : State} (h1 : t.sameContexts u) (h2 : u.sameContexts s) : t.sameContexts s := by
  obtain ⟨hq1, hs1⟩ := h1
  obtain ⟨hq2, hs2⟩ := h2
  exact ⟨fun g i => (hq1 g i).trans (hq2 g i), fun id => (hs1 id).trans (hs2 id)⟩

@[simp] theorem State.sameContexts_refl (s : State) : s.sameContexts s := ⟨fun _ _ => rfl, fun _ => rfl⟩

theorem State.lasts.sameContexts {t s : State} (h : t.lasts s) : t.sameContexts s :=
  ⟨fun g i => (congrArg Qp.context (h.qp g i) :), h.sliceSt⟩

theorem State.sameContexts.qpk {t s : State} (h : t.sameContexts s) (k : Nat) : (t.qpk k).context = (s.qpk k).context := by
  obtain ⟨hq, -⟩ := h
  exact hq _ _

theorem State.sameContexts.sliceOn {t s : State} (h : t.sameContexts s) (sl : Nat) : t.sliceOn sl = s.sliceOn sl := by
  obtain ⟨-, hs⟩ := h
  exact State.sliceOn_of_st hs sl

theorem State.foldl_sameContexts {α : Type} {f : State → α → State} (hf : ∀ a x, (f a x).sameContexts a) (l : List α) :
    ∀ s : State, (l.foldl f s).sameContexts s := by
  induction l with
  | nil => exact State.sameContexts_refl
  | cons x rest ih => exact fun s => (ih (f s x)).trans (hf s x)

theorem State.setQpk_sameContexts {s : State} {k : Nat} {x : Qp} (hx : x.context = (s.qpk k).context) :
    (s.setQpk k x).sameContexts s := by
  refine ⟨fun g i => ?_, fun id => by rw [State.setQpk, State.slice_of_slices (State.setQp_slices _ _ _ _)]⟩
  rw [State.setQpk, State.qp_setQp]
  split
  · next hi => rw [hx, hi.1, hi.2, State.qpk]
  · rfl

theorem State.setQueue_sameContexts {s : State} {q : Nat} {w : Wq} (hw : w.owner = (s.queue q).owner) :
    (s.setQueue q w).sameContexts s := by
  rcases queue_cases q with hq | ⟨k, rfl⟩ | ⟨k, rfl⟩
  · rw [State.setQueue_of_lt hq]
    exact ⟨fun g i => by rw [State.qp_setWq], fun _ => rfl⟩
  · rw [State.queue_sqOf] at hw
    rw [State.setQueue_sqOf]
    exact State.setQpk_sameContexts (by rw [Qp.context, hw]; rfl)
  · rw [State.queue_rqOf] at hw
    rw [State.setQueue_rqOf]
    exact State.setQpk_sameContexts (by rw [Qp.context, hw]; rfl)

theorem State.finish_sameContexts (s : State) (q : Nat) (e : Entry) (status bytes qflags data : Nat) :
    (s.finish q e status bytes qflags data true).sameContexts s :=
  (State.finish_lasts s q e status bytes qflags data).sameContexts.trans (State.setQueue_sameContexts rfl)

theorem State.flushQueue_sameContexts (s : State) (q : Nat) : (s.flushQueue q).sameContexts s := by
  unfold State.flushQueue
  extract_lets s0 w s1 s2
  have h0 : s0.sameContexts s := (State.leaveWait_lasts s.lasts_refl q).sameContexts
  have h1 : s1.sameContexts s := State.sameContexts.trans (State.setQueue_sameContexts (s := s0) rfl) h0
  have hstarted : (s1.flushStarted q w.started).sameContexts s :=
    (State.foldl_sameContexts (fun a e => State.finish_sameContexts a q e _ _ _ _) _ s1).trans h1
  have h2 : s2.sameContexts s := by
    refine (State.foldl_sameContexts (fun a e => ?_) _ _).trans hstarted
    exact (State.unstartedCpl_lasts (State.lasts_refl _) q e _).sameContexts.trans (State.setQueue_sameContexts rfl)
  exact (State.shadow_lasts (State.lasts_refl s2) _ _ _ _).sameContexts.trans h2

/-- A queue with no entry in hand has none to flush. -/
theorem State.qp_flushQueue_of_idle {s : State} {q : Nat} (hq : qpBase ≤ q) (hs : (s.queue q).started = [])
    (hf : (s.queue q).fetched = []) (h : Half) (i : Nat) : (s.flushQueue q).qp h i = s.qp h i := by
  unfold State.flushQueue
  extract_lets s0 w s1 s2
  have h0 := (State.leaveWait_onlyIrq s q).qp
  have hw : w = s.queue q := State.queue_of_qp h0 hq
  have hsame : { w with fetched := [] } = s0.queue q := by rw [hw, ← hf, ← hw]
  have h1 : s1.qp h i = s.qp h i := by
    unfold s1
    rw [hsame, State.qp_setQueue_same]
    exact h0 h i
  have h2 : s2 = s1 := by rw [← hw] at hs hf; simp only [s2, hs, hf, State.flushStarted, State.flushFetched, List.foldl_nil]
  rw [(State.shadow_onlyIrq _ _ _ _ _).qp, h2, h1]

end Sys2Proof.Machine
end

section
/-! SUPPORT. A queue pair that enters ERROR, its context in the cache, and the fields of its record (11 R282, R291, R303). -/

namespace Sys2Proof.Machine
open Sys2Proof

/-! ### The error state (R303) -/

/-- A queue pair in ERROR, before its entries are flushed. -/
def Qp.failed (x : Qp) : Qp := { x with st := .error, outst := [], rnrAt := none, recv := none, writeVa := none, parked := [] }

/-- A queue pair in ERROR with the entries of its queues flushed. -/
def State.flushedQp (s : State) (k : Nat) : State :=
  (((s.setQpk k (s.qpk k).failed).flushQueue (sqOf k)).flushQueue (rqOf k)).pruneGroups (qpHalf k)

/-- The fault that a queue pair raises as it enters ERROR other than by MODIFY. -/
def State.failedQp (s : State) (k : Nat) (byModify : Bool) : State :=
  if byModify then s.flushedQp k else (s.flushedQp k).raiseFault (s.qpk k).sq.fn 3 2 (s.localQp k)

section
variable {s : State} {k : Nat}

theorem State.failedQp_sameContexts (b : Bool) : (s.failedQp k b).sameContexts (s.setQpk k (s.qpk k).failed) := by
  have h1 : (s.flushedQp k).sameContexts (s.setQpk k (s.qpk k).failed) :=
    (State.onHalf_lasts (State.lasts_refl _)).sameContexts.trans
      ((State.flushQueue_sameContexts _ _).trans (State.flushQueue_sameContexts _ _))
  unfold State.failedQp
  split
  · exact h1
  · exact (State.raiseFault_lasts (State.lasts_refl _) _ _ _ _).sameContexts.trans h1

/-- The context of a queue pair in ERROR. -/
theorem State.context_failedQp (b : Bool) : ((s.failedQp k b).qpk k).context = (s.qpk k).failed.context := by
  rw [(State.failedQp_sameContexts b).qpk, State.qpk_setQpk]

theorem State.qpError_eq (he : (s.qpk k).st ≠ .error) (hr : (s.qpk k).st ≠ .reset)
    (hs : s.sliceOn (s.qpk k).sq.slice = true) (b : Bool) : s.qpError k b = s.failedQp k b := by
  have hslice : ((s.failedQp k b).qpk k).sq.slice = (s.qpk k).sq.slice :=
    (congrArg (fun x : Qp => x.sq.slice) (State.context_failedQp b) :)
  have hon : (s.failedQp k b).sliceOn ((s.failedQp k b).queue (sqOf k)).slice = true := by
    rw [State.queue_sqOf, hslice, (State.failedQp_sameContexts b).sliceOn]
    exact (State.sliceOn_of_st (fun id => by rw [State.setQpk, State.slice_of_slices (State.setQp_slices _ _ _ _)]) _).trans hs
  refine Eq.trans ?_ (State.settleQueue_of_sliceOn hon)
  exact if_neg (by simp [he, hr])

theorem State.qp_raiseFault (s : State) (fk i kind n : Nat) (h : Half) (j : Nat) : (s.raiseFault fk i kind n).qp h j = s.qp h j := by
  simp only [State.raiseFault]
  split
  · rw [(State.vectorDue_onlyIrq _ _ _ _).qp, State.qp_setFn]
  · exact s.qp_setFn _ _ _ _

/-- A queue pair with no entry in hand enters ERROR alone. -/
theorem State.failedQp_otherQps (b : Bool) (hss : (s.qpk k).sq.started = []) (hsf : (s.qpk k).sq.fetched = [])
    (hrs : (s.qpk k).rq.started = []) (hrf : (s.qpk k).rq.fetched = []) : (s.failedQp k b).otherQps s k := by
  have h1 := State.qp_flushQueue_of_idle (s := s.setQpk k (s.qpk k).failed) (qpBase_le_sqOf k)
    (by simpa [Qp.failed] using hss) (by simpa [Qp.failed] using hsf)
  have hrq : ((s.setQpk k (s.qpk k).failed).flushQueue (sqOf k)).queue (rqOf k) = (s.qpk k).rq := by
    rw [State.queue_of_qp h1 (qpBase_le_rqOf k), State.queue_rqOf, State.qpk_setQpk, Qp.failed]
  have h2 := State.qp_flushQueue_of_idle (qpBase_le_rqOf k) ((congrArg Wq.started hrq).trans hrs) ((congrArg Wq.fetched hrq).trans hrf)
  have hf : (s.flushedQp k).otherQps s k := fun h i hi => by
    rw [State.flushedQp, State.qp_pruneGroups, h2, h1, s.setQpk_otherQps k _ h i hi]
  unfold State.failedQp
  split
  · exact hf
  · exact (State.otherQps_of_qp (State.qp_raiseFault _ _ _ _ _) k).trans hf

/-! ### What the error state leaves beside the queues -/

theorem State.unstartedCpl_besideQueues (s : State) (q : Nat) (e : Entry) (status : Nat) :
    (s.unstartedCpl q e status).besideQueues = s.besideQueues :=
  State.drainDue_besideQueues _ _ _ _

theorem State.flushQueue_besideQueues (s : State) (q : Nat) : (s.flushQueue q).besideQueues = s.besideQueues := by
  unfold State.flushQueue
  extract_lets s0 w s1 s2
  have h1 : s1.besideQueues = s.besideQueues :=
    (State.setQueue_besideQueues s0 q _).trans (State.leaveWait_onlyIrq s q).besideQueues
  have h2 : s2.besideQueues = (s1.flushStarted q w.started).besideQueues :=
    State.foldl_unchanged
      (fun a e => (State.unstartedCpl_besideQueues _ _ _ _).trans (State.setQueue_besideQueues a q _)) _ _
  have hstarted : (s1.flushStarted q w.started).besideQueues = s1.besideQueues :=
    State.foldl_unchanged (fun a e => State.finish_besideQueues a q e _ _ _ _ _) _ _
  exact (State.shadow_onlyIrq s2 _ _ _ _).besideQueues.trans (h2.trans (hstarted.trans h1))

theorem State.failedQp_besideQueues (b : Bool) : (s.failedQp k b).besideQueues = s.besideQueues := by
  have h1 : (s.flushedQp k).besideQueues = s.besideQueues := by
    refine (State.onHalf_besideQueues rfl).trans ?_
    rw [State.flushQueue_besideQueues, State.flushQueue_besideQueues]
    exact State.setQp_besideQueues _ _ _ _
  unfold State.failedQp
  split
  · exact h1
  · exact (State.raiseFault_besideQueues _ _ _ _ _).trans h1

theorem State.failedQp_keeps {r : State} (h : s.keeps r) (b : Bool) : (s.failedQp k b).keeps r := by
  have h1 : (s.flushedQp k).keeps r :=
    State.onHalf_keeps (State.flushQueue_keeps (State.flushQueue_keeps (State.setQp_keeps h _ _ _) _) _)
  exact State.keeps_ite h1 _ (State.raiseFault_keeps h1 _ _ _ _)

/-! ### Fault summaries (R47) -/

theorem State.holdIrq_faultSummary (s : State) (fk sl v j : Nat) :
    ((s.holdIrq fk sl v).fn j).faultSummary = (s.fn j).faultSummary := by
  simp only [State.holdIrq]
  split
  · rfl
  · rw [State.fn_setFn]
    split
    · next hj => rw [hj]
    · rfl

theorem State.passVector_faultSummary (s : State) (fk sl v j : Nat) :
    ((s.passVector fk sl v).fn j).faultSummary = (s.fn j).faultSummary := by
  have hpba : ∀ m, ((s.setFn fk { s.fn fk with pba := m }).fn j).faultSummary = (s.fn j).faultSummary := fun m => by
    rw [State.fn_setFn]
    split
    · next hj => rw [hj]
    · rfl
  simp only [State.passVector]
  split
  · exact s.holdIrq_faultSummary fk sl v j
  · split
    · split
      · exact hpba _
      · rw [State.sendMsg_fn]
    · split
      · split
        · exact hpba _
        · rw [State.sendMsg_fn]
      · exact s.holdIrq_faultSummary fk sl v j

theorem State.vectorDue_faultSummary (s : State) (fk sl v j : Nat) :
    ((s.vectorDue fk sl v).fn j).faultSummary = (s.fn j).faultSummary := by
  simp only [State.vectorDue]
  split
  · rfl
  · split
    · rw [State.emit_fn, State.fn_setFn]
      split
      · next hj => rw [hj]
      · rfl
    · split
      · rw [State.holdVector_fn]
      · exact s.passVector_faultSummary fk sl v j

/-- A fault sets its bit of the summary. -/
theorem State.raiseFault_bit (s : State) (fk kind n : Nat) {i : Nat} (hi : i < 4) :
    bit ((s.raiseFault fk i kind n).fn fk).faultSummary i = true := by
  have hset : ∀ v : BitVec 4, bit (v ||| BitVec.ofNat 4 (2 ^ i)) i = true := fun v => by
    rw [bit, BitVec.getLsbD_or, BitVec.getLsbD_ofNat, Nat.testBit_two_pow_self]
    simp [hi]
  simp only [State.raiseFault]
  split
  · rw [State.vectorDue_faultSummary, State.fn_setFn_self]
    exact hset _
  · rw [State.fn_setFn_self]
    exact hset _

theorem State.failedQp_bit : bit ((s.failedQp k false).fn (s.qpk k).sq.fn).faultSummary 3 = true :=
  State.raiseFault_bit _ _ _ _ (by decide)

end

/-! ### Contexts in the cache (R291) -/

section
variable (s : State) (k : Nat)

theorem State.qpk_useQp : (s.useQp k).qpk k = { s.qpk k with lastUse := (s.half (qpHalf k)).rdma.uses + 1 } := by
  simp only [State.useQp, State.qpk_setQpk]
  rw [State.qpk_of_qp (State.qp_onHalf rfl)]

theorem State.useQp_otherQps : (s.useQp k).otherQps s k := by
  simp only [State.useQp]
  exact (State.setQpk_otherQps _ _ _).trans (State.otherQps_of_qp (State.qp_onHalf rfl) k)

theorem State.qpk_fetchQp (hst : (s.qpk k).st ≠ .reset) :
    (s.fetchQp k).qpk k = { s.qpk k with fetching := (s.qpk k).fetching || !(s.qpk k).cached } := by
  simp only [State.fetchQp, hst, or_false]
  by_cases hc : (s.qpk k).cached = true ∨ (s.qpk k).fetching = true
  · have hf : ((s.qpk k).fetching || !(s.qpk k).cached) = (s.qpk k).fetching := by rcases hc with h | h <;> simp [h]
    rw [if_pos hc, hf]
  · have hf : ((s.qpk k).fetching || !(s.qpk k).cached) = true := by
      cases h : (s.qpk k).cached
      · simp
      · exact absurd (.inl h) hc
    rw [if_neg hc, State.qpk_of_qp (State.qp_countH _ _ _ _ _), State.qpk_setQpk, hf]

theorem State.fetchQp_otherQps : (s.fetchQp k).otherQps s k := by
  simp only [State.fetchQp]
  split
  · exact s.otherQps_refl k
  · exact (State.otherQps_of_qp (State.qp_countH _ _ _ _ _) k).trans (s.setQpk_otherQps k _)

theorem length_filter_mput_le {α : Type} {p : α → Bool} {v : α} (hv : p v = false) (m : Map α) (i : Nat) :
    ((mput m i v).filter fun e => p e.2).length ≤ (m.filter fun e => p e.2).length := by
  induction m with
  | nil => simp [mput, hv]
  | cons e rest ih =>
    obtain ⟨j, w⟩ := e
    simp only [mput]
    split
    · simp [hv]
    · split
      · cases hw : p w <;> simp [hv, hw]
      · cases hw : p w <;> simpa [hw] using ih

theorem length_filter_merase_le {α : Type} (p : α → Bool) (m : Map α) (i : Nat) :
    ((merase m i).filter fun e => p e.2).length ≤ (m.filter fun e => p e.2).length := by
  induction m with
  | nil => simp [merase]
  | cons e rest ih =>
    obtain ⟨j, w⟩ := e
    simp only [merase]
    split
    · cases hw : p w <;> simp [hw] <;> omega
    · cases hw : p w <;> simpa [hw] using ih

/-- A context that is not cached takes no place in the cache. -/
theorem State.cached_setQpk_le {x : Qp} (hx : x.cached = false) :
    (((s.setQpk k x).half (qpHalf k)).rdma.qps.filter fun e => e.2.cached).length
      ≤ ((s.half (qpHalf k)).rdma.qps.filter fun e => e.2.cached).length := by
  rw [State.setQpk, State.setQp, State.onHalf_half]
  simp only [mset]
  split
  · exact length_filter_merase_le Qp.cached _ _
  · exact length_filter_mput_le (p := Qp.cached) hx _ _

/-- With room left, a context enters the cache and no other leaves it. -/
theorem State.cacheQp_eq (hroom : ((s.half (qpHalf k)).rdma.qps.filter fun e => e.2.cached).length < 16384) :
    s.cacheQp k = (s.setQpk k { s.qpk k with cached := true, fetching := false }).useQp k := by
  simp only [State.cacheQp, State.makeRoom, if_pos hroom, ite_self]

theorem State.uses_setQpk (x : Qp) : ((s.setQpk k x).half (qpHalf k)).rdma.uses = (s.half (qpHalf k)).rdma.uses := by
  rw [State.setQpk, State.setQp, State.onHalf_half]

theorem State.qpk_cacheQp (hroom : ((s.half (qpHalf k)).rdma.qps.filter fun e => e.2.cached).length < 16384) :
    (s.cacheQp k).qpk k
      = { s.qpk k with cached := true, fetching := false, lastUse := (s.half (qpHalf k)).rdma.uses + 1 } := by
  rw [State.cacheQp_eq s k hroom, State.qpk_useQp, State.qpk_setQpk, State.uses_setQpk]

theorem State.cacheQp_otherQps (hroom : ((s.half (qpHalf k)).rdma.qps.filter fun e => e.2.cached).length < 16384) :
    (s.cacheQp k).otherQps s k := by
  rw [State.cacheQp_eq s k hroom]
  exact (State.useQp_otherQps _ k).trans (s.setQpk_otherQps k _)

end

/-! ### Fields taken by MODIFY (R282) -/

section
variable {n lo w : Nat} (h : lo + w ≤ n) (v u : BitVec n)
include h

/-- A field that a record takes, or a part of it, is the new one. -/
theorem fld_takeBits {lo' w' : Nat} (hlo : lo ≤ lo') (hw : lo' + w' ≤ lo + w) : fld (takeBits v u lo w) lo' w' = fld u lo' w' := by
  refine Nat.eq_of_testBit_eq fun i => ?_
  rw [testBit_fld, testBit_fld, takeBits, testBit_setFld h]
  by_cases hi : i < w'
  · rw [if_pos (by omega), testBit_fld]
    have he : lo + (lo' + i - lo) = lo' + i := by omega
    simp [he, show lo' + i - lo < w by omega]
  · simp [hi]

theorem fld_takeBits_of_disjoint {lo' w' : Nat} (hd : lo' + w' ≤ lo ∨ lo + w ≤ lo') : fld (takeBits v u lo w) lo' w' = fld v lo' w' :=
  fld_setFld_of_disjoint h hd v _

theorem bit_takeBits {i : Nat} (hlo : lo ≤ i) (hw : i < lo + w) : bit (takeBits v u lo w) i = bit u i := by
  rw [bit_eq_testBit, bit_eq_testBit, takeBits, testBit_setFld h, if_pos ⟨hlo, hw⟩, testBit_fld]
  simp [show lo + (i - lo) = i by omega, show i - lo < w by omega]

theorem bit_takeBits_of_disjoint {i : Nat} (hd : i < lo ∨ lo + w ≤ i) : bit (takeBits v u lo w) i = bit v i :=
  bit_setFld_of_disjoint h hd v _

end

end Sys2Proof.Machine
end

section
/-! SUPPORT. Doorbells, MODIFY and ABORT of a queue pair, and the fetches of its context (11 R278 to R283, R291, R292, R304). -/

namespace Sys2Proof.Machine
open Sys2Proof

/-! ### The state beside the RDMA of a half -/

section
variable (a s : State) (k : Nat)

theorem State.withRdmaOf_self (h : Half) : s.withRdmaOf s h = s := by cases h <;> rfl

theorem State.withRdmaOf_setQpk (x : Qp) : (a.setQpk k x).withRdmaOf s (qpHalf k) = a.withRdmaOf s (qpHalf k) := by
  rw [State.setQpk]
  cases qpHalf k <;> rfl

theorem State.withRdmaOf_useQp : (a.useQp k).withRdmaOf s (qpHalf k) = a.withRdmaOf s (qpHalf k) := by
  simp only [State.useQp, State.withRdmaOf_setQpk]
  cases qpHalf k <;> rfl

theorem State.withRdmaOf_joinGroup : (a.joinGroup k).withRdmaOf s (qpHalf k) = a.withRdmaOf s (qpHalf k) := by
  simp only [State.joinGroup]
  split
  · rfl
  · cases qpHalf k <;> rfl

theorem State.withQpsOf_setQpk (x : Qp) : (s.setQpk k x).withQpsOf s (qpHalf k) = s := by
  rw [State.setQpk]
  cases qpHalf k <;> rfl

end

/-! ### Doorbell blocks (R277 to R280) -/

section
variable {s : State} {q : QRef}

theorem State.onBlock_eq (hb : s.reachesBlock q = true) (f : State → State) : s.onBlock q f = f s := by
  simp only [State.reachesBlock, Bool.and_eq_true, Bool.not_eq_true', Bool.or_eq_true, Nat.ble_eq, Nat.blt_eq] at hb
  obtain ⟨⟨⟨hp, hd⟩, hn⟩, hf⟩ := hb
  rw [State.onBlock, if_pos ⟨hn, hf⟩, State.access_eq hp hd]

theorem State.reachesQp_iff {n k : Nat} :
    s.reachesQp q n k = true ↔ s.reachesBlock q = true ∧ s.localKey q (s.rdqBlock q).1 n = some k := by
  simp [State.reachesQp]

/-- A command that is ignored is counted by its block, and changes nothing else. -/
theorem State.rdqIgnored_spec (fk page : Nat) :
    ({ s.rdqIgnored fk page with fns := s.fns } : State) = s
      ∧ mget ((s.rdqIgnored fk page).fn fk).dbIgnored page 0 = sat31 (mget (s.fn fk).dbIgnored page 0) := by
  refine ⟨rfl, ?_⟩
  rw [State.rdqIgnored, State.fn_setFn_self]
  exact mget_mput_same _ _ _ _

/-- A doorbell of 4 bytes is ignored (R279). -/
theorem State.rdqDoorbell_narrow (hb : s.reachesBlock q = true) (i qp : Nat) (pi : BitVec 16) :
    s.rdqDoorbell q i qp pi false = s.rdqIgnored (fkey q.fn) (s.rdqBlock q).2 := by
  rw [State.rdqDoorbell, State.onBlock_eq hb]
  cases h : s.localKey q (s.rdqBlock q).1 qp <;> simp [h]

theorem exec_rdqDbIgnoredRead (hb : s.reachesBlock q = true) :
    exec (.rdqDbIgnoredRead q) s = .next ((s.setFn (fkey q.fn)
      { s.fn (fkey q.fn) with dbIgnored := merase (s.fn (fkey q.fn)).dbIgnored (s.rdqBlock q).2 }).emit
        (.read (mget (s.fn (fkey q.fn)).dbIgnored (s.rdqBlock q).2 0))) :=
  congrArg Host.Outcome.next (State.onBlock_eq hb _)

section
variable {k : Nat}

theorem State.rdqDoorbell_wide {qp : Nat} (hr : s.reachesQp q qp k = true) (i : Nat) (pi : BitVec 16) :
    s.rdqDoorbell q i qp pi true = s.rdqBell (fkey q.fn) (s.rdqBlock q).2 k i pi := by
  obtain ⟨hb, hk⟩ := State.reachesQp_iff.mp hr
  rw [State.rdqDoorbell, State.onBlock_eq hb]
  simp [hk]

theorem State.rdqBell_reset (hst : (s.qpk k).st = .reset) (fk page i : Nat) (pi : BitVec 16) :
    s.rdqBell fk page k i pi = s.rdqIgnored fk page :=
  if_neg fun hc => hc.1 hst

theorem Wq.resume_of_running {w : Wq} (hw : w.st = .running) : w.resume = w := if_neg (by simp [hw])

/-- A doorbell that is taken moves its queue's index, and has the context fetched (R90, R279, R291). -/
theorem State.rdqBell_taken {i : Nat} {pi : BitVec 16} (hst : (s.qpk k).st ≠ .reset) (hw : (s.queue (sqOf k + i)).st = .running)
    (hs : s.sliceOn (s.queue (sqOf k + i)).slice = true) (hok : (s.queue (sqOf k + i)).doorbellOk pi = true) (fk page : Nat) :
    s.rdqBell fk page k i pi = (s.setQueue (sqOf k + i) { s.queue (sqOf k + i) with doorbell := pi }).fetchQp k := by
  simp only [State.rdqBell, Wq.resume_of_running hw, ite_self]
  exact if_pos ⟨hst, hw, hs, hok⟩

/-- What the fetch of a context that a doorbell asks for leaves, where the doorbell has changed `x`. -/
theorem State.fetch_of_doorbell {x : Qp} (hst : x.st = (s.qpk k).st) (hc : x.cached = (s.qpk k).cached)
    (hf : x.fetching = (s.qpk k).fetching) (hr : (s.qpk k).st ≠ .reset) :
    ((s.setQpk k x).fetchQp k).otherQps s k
      ∧ ((s.qpk k).cached = true → ((s.setQpk k x).fetchQp k).withQpsOf s (qpHalf k) = s)
      ∧ ((s.qpk k).cached = false → (((s.setQpk k x).fetchQp k).qpk k).fetching = true
          ∧ ((s.qpk k).fetching = false → ((s.setQpk k x).fetchQp k).cnt (0x6600 + (qpHalf k).num) 0x10
              = s.cnt (0x6600 + (qpHalf k).num) 0x10 + 1)) := by
  refine ⟨(State.fetchQp_otherQps _ k).trans (s.setQpk_otherQps k x), fun hcached => ?_, fun hcached => ⟨?_, fun hfetch => ?_⟩⟩
  · have he : (s.setQpk k x).fetchQp k = s.setQpk k x := if_pos (by simp [hc, hcached])
    rw [he, State.withQpsOf_setQpk]
  · rw [State.qpk_fetchQp _ _ (by simpa [hst] using hr)]
    simp [hc, hcached]
  · have he : (s.setQpk k x).fetchQp k = ((s.setQpk k x).setQpk k { x with fetching := true }).countH 0x6600 (qpHalf k) 0x10 1 := by
      refine (if_neg ?_).trans (by rw [State.qpk_setQpk])
      simp [hc, hf, hst, hcached, hfetch, hr]
    rw [he, State.cnt_countH_self, State.setQpk, State.setQp, State.onHalf_cnt, State.setQpk, State.setQp, State.onHalf_cnt]

end

/-! ### The end of a command (R278) -/

section
variable {a : State} {st : QpSt} {v : Nat}

theorem State.rdqStatus_cmdEnds (hf : a.fns = s.fns) :
    (a.rdqStatus (fkey q.fn) (s.rdqBlock q).2 st v).cmdEnds s q (st.code * 256 + v) := by
  have hfn : ∀ j, a.fn j = s.fn j := fun j => by rw [State.fn, hf, State.fn]
  refine ⟨?_, fun j hj => ?_, ?_⟩
  · rw [State.rdqStatus, State.fn_setFn_self]
    exact mget_mput_same _ _ _ _
  · rw [State.rdqStatus, State.fn_setFn_of_ne hj, hfn]
  · rw [State.rdqStatus, State.fn_setFn_self, ← hfn]

theorem State.rdqStatus_frame {h : Half} (ha : a.withRdmaOf s h = s) (fk page : Nat) :
    ({ (a.rdqStatus fk page st v).withRdmaOf s h with fns := s.fns } : State) = s := by
  cases h <;> exact congrArg (fun b : State => { b with fns := s.fns }) ha

theorem State.rdqStatus_qpsFrame {h : Half} (ha : a.withQpsOf s h = s) (fk page : Nat) :
    ({ (a.rdqStatus fk page st v).withQpsOf s h with fns := s.fns } : State) = s := by
  cases h <;> exact congrArg (fun b : State => { b with fns := s.fns }) ha

@[simp] theorem State.qpk_rdqStatus (fk page k : Nat) : (a.rdqStatus fk page st v).qpk k = a.qpk k :=
  State.qpk_of_qp (State.qp_rdqStatus _ _ _ _ _) k

theorem State.rdqStatus_otherQps {k : Nat} (ha : a.otherQps s k) (fk page : Nat) : (a.rdqStatus fk page st v).otherQps s k :=
  (State.otherQps_of_qp (State.qp_rdqStatus _ _ _ _ _) k).trans ha

end

/-! ### MODIFY (R282) -/

section
variable {r : BitVec 1024} {k : Nat} (hr : s.reachesQp q (qrQp r) k = true) (hop : qrOp r = 1)
include hr hop

theorem exec_qpModify_taken {a : State} (hm : s.modify k (fkey q.fn) ((s.rdqBlock q).1.getD 4096) r = some a) :
    exec (.qpModify q r) s = .next (a.rdqStatus (fkey q.fn) (s.rdqBlock q).2 (a.qpk k).st stOk) := by
  obtain ⟨hb, hk⟩ := State.reachesQp_iff.mp hr
  refine congrArg Host.Outcome.next ((State.onBlock_eq hb _).trans ?_)
  simp [hk, hop, hm]

theorem exec_qpModify_refused (hm : s.modify k (fkey q.fn) ((s.rdqBlock q).1.getD 4096) r = none) :
    exec (.qpModify q r) s = .next (s.rdqStatus (fkey q.fn) (s.rdqBlock q).2 (s.qpk k).st stRange) := by
  obtain ⟨hb, hk⟩ := State.reachesQp_iff.mp hr
  refine congrArg Host.Outcome.next ((State.onBlock_eq hb _).trans ?_)
  simp [hk, hop, hm]

/-- What every MODIFY that changes its queue pair alone leaves: its status, the other queue pairs, and the rest of the device. -/
theorem exec_qpModify_frame {a : State} (hm : s.modify k (fkey q.fn) ((s.rdqBlock q).1.getD 4096) r = some a)
    {st : QpSt} (hst : (a.qpk k).st = st) (hf : a.withRdmaOf s (qpHalf k) = s) (ho : a.otherQps s k) :
    ∃ t, exec (.qpModify q r) s = .next t ∧ t.qpk k = a.qpk k ∧ t.cmdEnds s q (st.code * 256 + stOk) ∧ t.otherQps s k
      ∧ ({ t.withRdmaOf s (qpHalf k) with fns := s.fns } : State) = s := by
  have hfns : a.fns = s.fns := by
    have h := congrArg State.fns hf
    rwa [State.withRdmaOf, State.onHalf_fns] at h
  exact ⟨_, exec_qpModify_taken hr hop hm, State.qpk_rdqStatus _ _ _, hst ▸ State.rdqStatus_cmdEnds hfns,
    State.rdqStatus_otherQps ho _ _, State.rdqStatus_frame hf _ _⟩

end

end

section
variable {s : State} {r : BitVec 1024} {k : Nat}

/-- The record of a queue pair in INIT (R282). -/
def initRecord (r : BitVec 1024) : BitVec 1024 :=
  takeBits (takeBits (takeBits (takeBits (takeBits (takeBits (0#1024) r 64 8) r 72 8) r 80 8) r 96 32) r 224 32) r 672 192

/-- A queue pair in INIT (R281, R282). -/
def initQp (fk sl : Nat) (r : BitVec 1024) : Qp :=
  { st := .init, record := initRecord r, slice := sl
    sq := qpQueue (qrSqBase r) (qrSqLog r) (qrShadow r) fk sl (qrSqCq r) false
    rq := qpQueue (qrRqBase r) (qrRqLog r) (qrShadow r + 8) fk sl (qrRqCq r) true }

theorem initRecord_fields (r : BitVec 1024) : qrUd (initRecord r) = qrUd r ∧ qrQKey (initRecord r) = qrQKey r := by
  refine ⟨?_, ?_⟩
  · simp (disch := omega) only [qrUd, initRecord, bit_takeBits_of_disjoint, bit_takeBits]
  · simp (disch := omega) only [qrQKey, initRecord, fld_takeBits_of_disjoint, fld_takeBits]

theorem State.modify_init {fk sl : Nat} (hst : (s.qpk k).st = .reset) (hq : qrState r = 1) (hok : s.initOk k sl r = true) :
    s.modify k fk sl r = some ((s.setQpk k (initQp fk sl r)).cacheQp k) := by
  simp only [State.modify, hst, hq, hok]
  rfl

/-- RESET to INIT: the queue pair takes its fields and enters the cache. -/
theorem State.qpInit_spec {fk sl : Nat} (hroom : ((s.half (qpHalf k)).rdma.qps.filter fun e => e.2.cached).length < 16384) :
    ((s.setQpk k (initQp fk sl r)).cacheQp k).qpk k
        = { initQp fk sl r with cached := true, fetching := false, lastUse := (s.half (qpHalf k)).rdma.uses + 1 }
      ∧ ((s.setQpk k (initQp fk sl r)).cacheQp k).withRdmaOf s (qpHalf k) = s
      ∧ ((s.setQpk k (initQp fk sl r)).cacheQp k).otherQps s k := by
  have hroom1 := Nat.lt_of_le_of_lt (s.cached_setQpk_le k (x := initQp fk sl r) rfl) hroom
  refine ⟨?_, ?_, ?_⟩
  · rw [State.qpk_cacheQp _ _ hroom1, State.qpk_setQpk, State.uses_setQpk]
  · rw [State.cacheQp_eq _ _ hroom1, State.withRdmaOf_useQp, State.withRdmaOf_setQpk, State.withRdmaOf_setQpk, State.withRdmaOf_self]
  · exact (State.cacheQp_otherQps _ k hroom1).trans (s.setQpk_otherQps k _)

/-- The record of a queue pair in RTR, whose path has been given (R282). -/
def rtrRecord (x r : BitVec 1024) : BitVec 1024 :=
  if qrUd x then takeBits x r 256 416 else takeBits (takeBits (takeBits x r 256 416) r 128 24) r 192 24

theorem rtrRecord_path (x r : BitVec 1024) : fld (rtrRecord x r) 256 416 = fld r 256 416 := by
  unfold rtrRecord
  split
  · exact fld_takeBits (by decide) _ _ (by decide) (by decide)
  · simp (disch := omega) only [fld_takeBits_of_disjoint, fld_takeBits]

theorem rtrRecord_dest {x : BitVec 1024} (hx : qrUd x = false) (r : BitVec 1024) : qrDestQpn (rtrRecord x r) = qrDestQpn r := by
  rw [rtrRecord, if_neg (by simp [hx])]
  simp (disch := omega) only [qrDestQpn, fld_takeBits_of_disjoint, fld_takeBits]

theorem State.modify_rtr {fk sl : Nat} (hst : (s.qpk k).st = .init) (hq : qrState r = 2) :
    s.modify k fk sl r = some (s.setQpk k { s.qpk k with
      st := .rtr, record := rtrRecord (s.qpk k).record r
      ePsn := if qrUd (s.qpk k).record then (s.qpk k).ePsn else qrRqPsn r }) := by
  simp only [State.modify, hst, hq]
  rfl

/-- The record of a queue pair in RTS, with its retries and timers (R282). -/
def rtsRecord (x r : BitVec 1024) : BitVec 1024 :=
  takeBits (takeBits (takeBits (takeBits x r 160 24) r 592 16) r 608 4) r 616 8

theorem rtsRecord_timeout (x r : BitVec 1024) : qrTimeout (rtsRecord x r) = qrTimeout r := by
  simp (disch := omega) only [qrTimeout, rtsRecord, fld_takeBits_of_disjoint, fld_takeBits]

/-- A queue pair in RTS (R282). -/
def Qp.toRts (x : Qp) (r : BitVec 1024) : Qp :=
  { x with st := .rts, record := rtsRecord x.record r, nextPsn := qrSqPsn r, unacked := qrSqPsn r, retries := qrRetry r,
           rnrLeft := qrRnrRetry r }

theorem State.modify_rts {fk sl : Nat} (hst : (s.qpk k).st = .rtr) (hq : qrState r = 3) (ht : timersOk r = true) :
    s.modify k fk sl r = some ((s.setQpk k ((s.qpk k).toRts r)).joinGroup k) := by
  simp only [State.modify, hst, hq, ht]
  rfl

/-- The record of a queue pair that changes in RTS (R282). -/
def changedRecord (x r : BitVec 1024) : BitVec 1024 := takeBits (takeBits (takeBits x r 75 4) r 592 16) r 616 8

theorem changedRecord_fields (x r : BitVec 1024) :
    qrRetry (changedRecord x r) = qrRetry r ∧ qrMinRnr (changedRecord x r) = qrMinRnr r
      ∧ qrWriteEn (changedRecord x r) = qrWriteEn r ∧ qrDestQpn (changedRecord x r) = qrDestQpn x := by
  refine ⟨?_, ?_, ?_, ?_⟩
  · simp (disch := omega) only [qrRetry, changedRecord, fld_takeBits_of_disjoint, fld_takeBits]
  · simp (disch := omega) only [qrMinRnr, changedRecord, fld_takeBits]
  · simp (disch := omega) only [qrWriteEn, changedRecord, bit_takeBits_of_disjoint, bit_takeBits]
  · simp (disch := omega) only [qrDestQpn, changedRecord, fld_takeBits_of_disjoint]

/-- A queue pair with another record. -/
def Qp.withRecord (x : Qp) (r : BitVec 1024) : Qp := { x with record := r }

theorem Qp.withRecord_st (x : Qp) (r : BitVec 1024) : (x.withRecord r).st = x.st := rfl
theorem Qp.withRecord_record (x : Qp) (r : BitVec 1024) : (x.withRecord r).record = r := rfl
theorem Qp.withRecord_beside (x : Qp) (r : BitVec 1024) : { x.withRecord r with record := x.record } = x := rfl

theorem State.modify_change {fk sl : Nat} (hst : (s.qpk k).st = .rts) (hq : qrState r = 3) (ht : timersOk r = true) :
    s.modify k fk sl r = some (s.setQpk k ((s.qpk k).withRecord (changedRecord (s.qpk k).record r))) := by
  simp only [State.modify, hst, hq, ht]
  rfl

/-- A transition that the table does not permit. -/
theorem State.modify_refused {fk sl : Nat} (h0 : qrState r ≠ 0) (h4 : qrState r ≠ 4)
    (hst : (s.qpk k).st = .error ∨ (s.qpk k).st = .reset ∧ qrState r ≠ 1 ∨ (s.qpk k).st = .init ∧ qrState r ≠ 2
      ∨ (s.qpk k).st = .rtr ∧ qrState r ≠ 3 ∨ (s.qpk k).st = .rts ∧ qrState r ≠ 3) : s.modify k fk sl r = none := by
  simp only [State.modify, if_neg h0, if_neg h4]
  rcases hst with h | ⟨h, hq⟩ | ⟨h, hq⟩ | ⟨h, hq⟩ | ⟨h, hq⟩
  · simp [h]
  all_goals simp [h, hq]

theorem State.leaveWait_fns (s : State) (q : Nat) : (s.leaveWait q).fns = s.fns := by
  simp only [State.leaveWait]
  split <;> rfl

theorem State.leaveWait_out (s : State) (q : Nat) : (s.leaveWait q).out = s.out := by
  simp only [State.leaveWait]
  split <;> rfl

theorem State.leaveWait_slices (s : State) (q : Nat) : (s.leaveWait q).slices = s.slices := by
  simp only [State.leaveWait]
  split <;> rfl

/-! ### To RESET and to ERROR (R282, R303) -/

/-- A queue pair with no started entry and no open abort is zeroed. -/
theorem State.qpToReset_eq (hs : (s.qpk k).sq.started = []) (hr : (s.qpk k).rq.started = []) (ha : (s.qpk k).sq.abort = none)
    (hon : s.sliceOn (s.qpk k).slice = true) :
    s.qpToReset k = (((s.leaveWait (sqOf k)).leaveWait (rqOf k)).setQpk k {}).pruneGroups (qpHalf k) := by
  have hqp : ∀ h i, ((s.leaveWait (sqOf k)).leaveWait (rqOf k)).qp h i = s.qp h i := fun h i => by
    rw [(State.leaveWait_onlyIrq _ _).qp, (State.leaveWait_onlyIrq _ _).qp]
  have hnone : (((s.leaveWait (sqOf k)).leaveWait (rqOf k)).queue (sqOf k)).abort = none := by
    rw [State.queue_of_qp hqp (qpBase_le_sqOf k), State.queue_sqOf, ha]
  have hst : ((((s.leaveWait (sqOf k)).leaveWait (rqOf k)).setQpk k {}).pruneGroups (qpHalf k)).slices = s.slices := by
    rw [State.pruneGroups, State.onHalf_slices, State.setQpk, State.setQp_slices, State.leaveWait_slices, State.leaveWait_slices]
  simp only [State.qpToReset, hs, hr, State.flushStarted, List.foldl_nil, State.endAbort_of_none hnone]
  split
  · next hsl =>
    refine State.settle_of_enabled ?_
    rw [State.slice_of_slices hst]
    simp only [State.sliceOn, Bool.or_eq_true, decide_eq_true_eq] at hon
    exact hon.resolve_left (by omega)
  · rfl

end

/-! ### Commands of a block -/

section
variable {s : State} {q : QRef} {r : BitVec 1024} {k : Nat}

/-- The abort that a command asks for (R281). -/
def qrAbort (r : BitVec 1024) : Abort :=
  { index := BitVec.ofNat 16 (fld r 80 16), tag := BitVec.ofNat 16 (fld r 64 16), atag := BitVec.ofNat 16 (fld r 96 16) }

theorem exec_qpAbort_refused (hr : s.reachesQp q (qrQp r) k = true) (hst : (s.qpk k).st ≠ .rts ∨ (s.qpk k).sq.abort ≠ none) :
    exec (.qpAbort q r) s = .next (s.rdqStatus (fkey q.fn) (s.rdqBlock q).2 (s.qpk k).st stRange) := by
  obtain ⟨hb, hk⟩ := State.reachesQp_iff.mp hr
  refine congrArg Host.Outcome.next ((State.onBlock_eq hb _).trans ?_)
  simp only [hk]
  exact if_pos hst

/-- An abort of a started entry that is on its way stays open (R118, R304). -/
theorem State.qpAbort_started {a : Abort} (hf : (s.qpk k).sq.fetched.any a.hits = false)
    (hs : (s.qpk k).sq.started.any a.hits = true)
    (ho : ∀ e ∈ (s.qpk k).sq.started, a.hits e = true → (s.qpk k).outst.any (fun o => o.entry.index = e.index) = true) :
    s.qpAbort k a = s.setQpk k { s.qpk k with sq := { (s.qpk k).sq with abort := some a } } := by
  have hunsent : (s.qpk k).sq.started.find? (fun e => a.hits e && !(s.qpk k).outst.any fun o => o.entry.index = e.index) = none := by
    rw [List.find?_eq_none]
    intro e he hc
    simp only [Bool.and_eq_true, Bool.not_eq_true'] at hc
    simp [ho e he hc.1] at hc
  have hfetched : (s.qpk k).sq.fetched.find? a.hits = none := by simpa using hf
  simp only [State.qpAbort, State.queue_sqOf, hunsent, State.setQueue_sqOf, State.settleAbort, State.qpk_setQpk, hfetched, hs, if_true]

theorem exec_qpAbort_started (hr : s.reachesQp q (qrQp r) k = true) (hst : (s.qpk k).st = .rts) (ha : (s.qpk k).sq.abort = none)
    (hf : (s.qpk k).sq.fetched.any (qrAbort r).hits = false) (hs : (s.qpk k).sq.started.any (qrAbort r).hits = true)
    (ho : ∀ e ∈ (s.qpk k).sq.started, (qrAbort r).hits e = true →
      (s.qpk k).outst.any (fun o => o.entry.index = e.index) = true) :
    exec (.qpAbort q r) s = .next ((s.setQpk k { s.qpk k with sq := { (s.qpk k).sq with abort := some (qrAbort r) } }).rdqStatus
      (fkey q.fn) (s.rdqBlock q).2 .rts stOk) := by
  obtain ⟨hb, hk⟩ := State.reachesQp_iff.mp hr
  refine congrArg Host.Outcome.next ((State.onBlock_eq hb _).trans ?_)
  simp only [hk]
  refine (if_neg (by simp [hst, ha])).trans ?_
  exact congrArg (fun b : State => b.rdqStatus _ _ _ _) (State.qpAbort_started hf hs ho)

end

/-! ### Fetches of a context, and packets that wait for it (R283, R291, R292) -/

section
variable (s : State) (k : Nat)

theorem State.cnt_setQpk (x : Qp) (i c : Nat) : (s.setQpk k x).cnt i c = s.cnt i c :=
  State.cnt_of_besideQueues (State.setQp_besideQueues _ _ _ _) i c

theorem State.time_setQpk (x : Qp) (h : Half) : (s.setQpk k x).time h = s.time h :=
  State.time_of_besideQueues (State.setQp_besideQueues _ _ _ _) h

theorem State.time_countRdma (g : Half) (sub n : Nat) (h : Half) : (s.countRdma g sub n).time h = s.time h := by cases h <;> rfl

/-- The packets that waited are dropped and counted. -/
theorem State.dropParked_spec :
    (s.dropParked k).qpk k = { s.qpk k with parked := [] } ∧ (s.dropParked k).otherQps s k
      ∧ (s.dropParked k).cnt (0x6600 + (qpHalf k).num) 5 = s.cnt (0x6600 + (qpHalf k).num) 5 + (s.qpk k).parked.length
      ∧ (s.dropParked k).time (qpHalf k) = s.time (qpHalf k) ∧ (s.dropParked k).out = s.out := by
  refine ⟨?_, ?_, ?_, ?_, ?_⟩
  · exact (State.qpk_of_qp (State.qp_countRdma _ _ _ _) k).trans (State.qpk_setQpk _ _ _)
  · exact (State.otherQps_of_qp (State.qp_countRdma _ _ _ _) k).trans (State.setQpk_otherQps _ _ _)
  · rw [State.dropParked, State.countRdma, State.cnt_countH_self, State.cnt_setQpk]
  · rw [State.dropParked, State.time_countRdma, State.time_setQpk]
  · exact State.setQp_out _ _ _ _

/-- The device once the fetch of a context has failed and is logged. -/
def State.contextLost : State :=
  ((s.setQpk k { s.qpk k with fetching := false }).dropParked k).logOn (qpHalf k) 0x4002 2 (unitId (qpHalf k) 10)
    (if (s.qpk k).slice < 4096 then (s.qpk k).slice else 65535) 0 (k + 0x100000)

theorem State.qp_logOn {cls : Nat} (hc : cls < 3) (g : Half) (code unit sl action detail : Nat) (h : Half) (i : Nat) :
    (s.logOn g code cls unit sl action detail).qp h i = s.qp h i := by
  simp only [State.logOn, if_pos hc]
  exact State.qp_onHalf rfl h i

theorem State.contextLost_spec :
    (s.contextLost k).qpk k = { s.qpk k with fetching := false, parked := [] } ∧ (s.contextLost k).otherQps s k := by
  obtain ⟨hx, ho, -⟩ := (s.setQpk k { s.qpk k with fetching := false }).dropParked_spec k
  have hlog := State.qp_logOn ((s.setQpk k { s.qpk k with fetching := false }).dropParked k) (cls := 2) (by decide) (qpHalf k) 0x4002
    (unitId (qpHalf k) 10) (if (s.qpk k).slice < 4096 then (s.qpk k).slice else 65535) 0 (k + 0x100000)
  refine ⟨(State.qpk_of_qp hlog k).trans ?_, (State.otherQps_of_qp hlog k).trans (ho.trans (s.setQpk_otherQps k _))⟩
  rw [hx, State.qpk_setQpk]

variable {s k}

/-- A fetch that fails takes a queue pair with nothing in hand to ERROR. -/
theorem State.contextDone_failed (hf : (s.qpk k).fetching = true) (hst : (s.qpk k).st = .rts) (hsf : (s.qpk k).sq.fetched = [])
    (hsl : 4096 ≤ (s.qpk k).sq.slice) : s.contextDone k false = (s.contextLost k).failedQp k false := by
  obtain ⟨hx, -⟩ := s.contextLost_spec k
  have hnext : (s.contextLost k).failNext k = s.contextLost k := by
    simp only [State.failNext, State.queue_sqOf, hx, hsf]
  have herr : (s.contextLost k).qpError k false = (s.contextLost k).failedQp k false :=
    State.qpError_eq (by simp [hx, hst]) (by simp [hx, hst]) (by simp [hx, State.sliceOn, hsl]) false
  simp only [State.contextDone, hf, Bool.true_eq_false, Bool.false_eq_true, if_false]
  exact (congrArg (fun a : State => a.qpError k false) hnext).trans herr

/-- A fetch that brings the context, with no packet that waited for it. -/
theorem State.contextDone_fetched (hf : (s.qpk k).fetching = true) (hp : (s.qpk k).parked = []) :
    s.contextDone k true = (s.setQpk k { s.qpk k with parked := [] }).cacheQp k := by
  simp only [State.contextDone, hf, hp, Bool.true_eq_false, if_false, if_true, List.foldl_nil]

end

/-- Settles O38, a command at a time. That a doorbell which the rules refuse is counted, the commands' status and the order of their
checks are the model's choice (log 77). -/
theorem queuePairCommands : Obligations.QueuePairCommands := by
  unfold Obligations.QueuePairCommands
  refine ⟨fun s q qp pi k i c hr hc => ?doorbell, fun s q qp pi c hb hc => ?narrow,
    fun s q hb => ⟨_, exec_rdqDbIgnoredRead hb, rfl, ?read, rfl⟩,
    fun s q r k hr hop => ⟨fun hst hq hok hroom => ?init, fun hst hq => ?rtr, fun hst hq ht => ?rts, fun hst hq ht => ?change,
      fun h0 h4 hst => ?refused, fun hq hss hrs ha hon => ?toReset, fun hq hst hss hsf hrs hrf hon => ?toError⟩,
    fun s q r k hr => ⟨fun hst => ?abortRefused, fun a hi htag hatag hst ha hf hs ho => ?aborts⟩,
    fun s k hf hc hp => ⟨fun hroom => ?fetched, fun hst hsf hss hrf hrs hsl => ?lost⟩,
    fun s k hp => ?parked⟩
  case doorbell =>
    have ht : exec c s = .next (s.rdqBell (fkey q.fn) (s.rdqBlock q).2 k i pi) := by
      simp only [List.mem_cons, Prod.mk.injEq, List.not_mem_nil, or_false] at hc
      rcases hc with ⟨rfl, rfl⟩ | ⟨rfl, rfl⟩
      · exact congrArg Host.Outcome.next (State.rdqDoorbell_wide hr 0 pi)
      · exact congrArg Host.Outcome.next (State.rdqDoorbell_wide hr 1 pi)
    refine ⟨_, ht, fun hst hw hs hok => ?_, fun hst => ?_⟩
    · have hi : i = 0 ∨ i = 1 := by
        simp only [List.mem_cons, Prod.mk.injEq, List.not_mem_nil, or_false] at hc
        exact hc.imp And.right And.right
      rw [State.rdqBell_taken hst hw hs hok]
      rcases hi with rfl | rfl
      · rw [show sqOf k + 0 = sqOf k from rfl, State.queue_sqOf, State.setQueue_sqOf]
        refine ⟨?_, ?_, State.fetch_of_doorbell rfl rfl rfl hst⟩
        · rw [State.queue_sqOf, State.qpk_fetchQp _ _ (by simpa using hst), State.qpk_setQpk]
        · show State.queue _ (rqOf k) = s.queue (rqOf k)
          rw [State.queue_rqOf, State.qpk_fetchQp _ _ (by simpa using hst), State.qpk_setQpk, State.queue_rqOf]
      · rw [show sqOf k + 1 = rqOf k from rfl, State.queue_rqOf, State.setQueue_rqOf]
        refine ⟨?_, ?_, State.fetch_of_doorbell rfl rfl rfl hst⟩
        · rw [State.queue_rqOf, State.qpk_fetchQp _ _ (by simpa using hst), State.qpk_setQpk]
        · show State.queue _ (sqOf k) = s.queue (sqOf k)
          rw [State.queue_sqOf, State.qpk_fetchQp _ _ (by simpa using hst), State.qpk_setQpk, State.queue_sqOf]
    · rw [State.rdqBell_reset hst]
      exact State.rdqIgnored_spec _ _
  case narrow =>
    have ht : exec c s = .next (s.rdqIgnored (fkey q.fn) (s.rdqBlock q).2) := by
      simp only [List.mem_cons, List.not_mem_nil, or_false] at hc
      rcases hc with rfl | rfl
      · exact congrArg Host.Outcome.next (State.rdqDoorbell_narrow hb 0 _ pi)
      · exact congrArg Host.Outcome.next (State.rdqDoorbell_narrow hb 1 _ pi)
    exact ⟨_, ht, State.rdqIgnored_spec _ _⟩
  case read =>
    rw [State.emit_fn, State.fn_setFn_self, mget_merase, if_pos rfl]
  case init =>
    obtain ⟨hx, hframe, hothers⟩ := State.qpInit_spec (r := r) (fk := fkey q.fn) (sl := (s.rdqBlock q).1.getD 4096) hroom
    obtain ⟨hud, hkey⟩ := initRecord_fields r
    obtain ⟨t, ht, htx, hend, ho, hfr⟩ :=
      exec_qpModify_frame hr hop (State.modify_init hst hq hok) (congrArg Qp.st hx) hframe hothers
    rw [hx] at htx
    refine ⟨t, ht, ?_⟩
    rw [htx]
    exact ⟨rfl, rfl, rfl, rfl, rfl, rfl, rfl, rfl, hud, hkey, hend, ho, hfr⟩
  case rtr =>
    obtain ⟨t, ht, htx, hend, ho, hfr⟩ := exec_qpModify_frame hr hop (State.modify_rtr hst hq) (st := .rtr)
      (by rw [State.qpk_setQpk]) (by rw [State.withRdmaOf_setQpk, State.withRdmaOf_self]) (s.setQpk_otherQps k _)
    rw [State.qpk_setQpk] at htx
    refine ⟨t, ht, ?_⟩
    rw [htx]
    exact ⟨rfl, rtrRecord_path _ _, fun hud => ⟨if_neg (by simp [hud]), rtrRecord_dest hud r⟩, rfl, rfl, hend, ho, hfr⟩
  case rts =>
    have hx : ((s.setQpk k ((s.qpk k).toRts r)).joinGroup k).qpk k = (s.qpk k).toRts r :=
      (State.qpk_of_qp (State.qp_joinGroup _ k) k).trans (State.qpk_setQpk _ _ _)
    obtain ⟨t, ht, htx, hend, ho, hfr⟩ := exec_qpModify_frame hr hop (State.modify_rts hst hq ht) (st := .rts)
      (congrArg Qp.st hx) (by rw [State.withRdmaOf_joinGroup, State.withRdmaOf_setQpk, State.withRdmaOf_self])
      ((State.otherQps_of_qp (State.qp_joinGroup _ k) k).trans (s.setQpk_otherQps k _))
    rw [hx] at htx
    refine ⟨t, ht, ?_⟩
    rw [htx]
    exact ⟨rfl, rfl, rfl, rfl, rfl, rtsRecord_timeout _ _, rfl, rfl, hend, ho, hfr⟩
  case change =>
    obtain ⟨t, ht, htx, hend, ho, hfr⟩ := exec_qpModify_frame hr hop (State.modify_change hst hq ht) (st := .rts)
      (by rw [State.qpk_setQpk, Qp.withRecord_st, hst]) (by rw [State.withRdmaOf_setQpk, State.withRdmaOf_self]) (s.setQpk_otherQps k _)
    rw [State.qpk_setQpk] at htx
    obtain ⟨hretry, hrnr, hwrite, hdest⟩ := changedRecord_fields (s.qpk k).record r
    refine ⟨t, ht, ?_⟩
    rw [htx, Qp.withRecord_beside, Qp.withRecord_record]
    exact ⟨rfl, hretry, hrnr, hwrite, hdest, hend, ho, hfr⟩
  case refused =>
    exact ⟨_, exec_qpModify_refused hr hop (State.modify_refused h0 h4 hst), State.rdqStatus_cmdEnds rfl, rfl⟩
  case toReset =>
    have hm : s.modify k (fkey q.fn) ((s.rdqBlock q).1.getD 4096) r = some (s.qpToReset k) := if_pos hq
    have hleave : ∀ h i, ((s.leaveWait (sqOf k)).leaveWait (rqOf k)).qp h i = s.qp h i := fun h i => by
      rw [(State.leaveWait_onlyIrq _ _).qp, (State.leaveWait_onlyIrq _ _).qp]
    have he := State.qpToReset_eq hss hrs ha hon
    have hx : (s.qpToReset k).qpk k = {} := by
      rw [he, State.qpk_of_qp (State.qp_pruneGroups _ _), State.qpk_setQpk]
    have hfns : (s.qpToReset k).fns = s.fns := by
      rw [he, State.pruneGroups, State.onHalf_fns, State.setQpk, State.setQp_fns, State.leaveWait_fns, State.leaveWait_fns]
    have hout : (s.qpToReset k).out = s.out := by
      rw [he, State.pruneGroups, State.onHalf_out, State.setQpk, State.setQp_out, State.leaveWait_out, State.leaveWait_out]
    have ho : (s.qpToReset k).otherQps s k := by
      rw [he]
      exact (State.otherQps_of_qp (State.qp_pruneGroups _ _) k).trans
        ((State.setQpk_otherQps _ k _).trans (State.otherQps_of_qp hleave k))
    refine ⟨_, exec_qpModify_taken hr hop hm, (State.qpk_rdqStatus _ _ _).trans hx, ?_, State.rdqStatus_otherQps ho _ _, hout⟩
    rw [hx]
    exact (Nat.zero_add stOk) ▸ State.rdqStatus_cmdEnds hfns
  case toError =>
    have hm : s.modify k (fkey q.fn) ((s.rdqBlock q).1.getD 4096) r = some (s.failedQp k true) := by
      rw [← State.qpError_eq (by simp [hst]) (by simp [hst]) hon true]
      simp [State.modify, hq, State.qpToError, hst]
    have hctx := State.context_failedQp (s := s) (k := k) true
    refine ⟨_, exec_qpModify_taken hr hop hm, ?_, ?_, State.rdqStatus_otherQps (State.failedQp_otherQps true hss hsf hrs hrf) _ _⟩
    all_goals rw [State.qpk_rdqStatus]
    · exact (congrArg Qp.st hctx :)
    · exact (congrArg Qp.outst hctx :)
  case abortRefused =>
    exact ⟨_, exec_qpAbort_refused hr hst, State.rdqStatus_cmdEnds rfl, rfl⟩
  case aborts =>
    obtain rfl : a = qrAbort r := by
      cases a
      simp only at hi htag hatag
      subst hi htag hatag
      rfl
    refine ⟨_, exec_qpAbort_started hr hst ha hf hs ho, ?_, State.rdqStatus_cmdEnds (State.setQp_fns _ _ _ _),
      State.rdqStatus_otherQps (s.setQpk_otherQps k _) _ _, State.rdqStatus_qpsFrame (s.withQpsOf_setQpk k _) _ _⟩
    rw [State.qpk_rdqStatus, State.qpk_setQpk]
  case fetched =>
    have hroom1 := Nat.lt_of_le_of_lt (s.cached_setQpk_le k (x := { s.qpk k with parked := [] }) hc) hroom
    refine ⟨_, congrArg Host.Outcome.next (State.contextDone_fetched hf hp), ?_⟩
    rw [State.qpk_cacheQp _ _ hroom1, State.qpk_setQpk]
    refine ⟨rfl, rfl, rfl, rfl, rfl, (State.cacheQp_otherQps _ k hroom1).trans (s.setQpk_otherQps k _), ?_⟩
    rw [State.cacheQp_eq _ _ hroom1, State.withRdmaOf_useQp, State.withRdmaOf_setQpk, State.withRdmaOf_setQpk, State.withRdmaOf_self]
  case lost =>
    obtain ⟨hx, ho⟩ := s.contextLost_spec k
    have hctx := State.context_failedQp (s := s.contextLost k) (k := k) false
    have hbit := State.failedQp_bit (s := s.contextLost k) (k := k)
    have hoth := State.failedQp_otherQps (s := s.contextLost k) (k := k) false
      (by rw [hx]; exact hss) (by rw [hx]; exact hsf) (by rw [hx]; exact hrs) (by rw [hx]; exact hrf)
    rw [hx] at hctx hbit
    exact ⟨_, congrArg Host.Outcome.next (State.contextDone_failed hf hst hsf hsl), (congrArg Qp.st hctx :),
      (congrArg Qp.fetching hctx :), hbit, hoth.trans ho⟩
  case parked =>
    obtain ⟨hx, ho, hcnt, htime, hout⟩ := (s.until (qpHalf k) ((s.qpk k).parkedAt + 20000)).dropParked_spec k
    have hq := State.qpk_of_qp (State.qp_until s (qpHalf k) ((s.qpk k).parkedAt + 20000)) k
    refine ⟨_, congrArg Host.Outcome.next (if_neg hp), ?_, ho.trans (State.otherQps_of_qp (State.qp_until s _ _) k), ?_, ?_, hout⟩
    · rw [hx, hq]
    · rw [hcnt, hq, State.until_cnt]
    · exact htime.symm ▸ State.le_time_until _ _ _

end Sys2Proof.Machine
end

section
/-! SUPPORT. What a requester and a responder leave of the host's side, the frames a queue pair sends, and the start and end of its
entries (11 R276, R285, R290, R300, R303). -/

namespace Sys2Proof.Machine
open Sys2Proof

/-! ### The host's side -/

/-- The functions, ports, slices and settings are as in another state, each CQ has its owner and its fault, and what was sent stands. -/
structure State.sameHost (t s : State) : Prop where
  mgmt : t.mgmt = s.mgmt
  ports : t.ports = s.ports
  fns : t.fns = s.fns
  slices : t.slices = s.slices
  cqFn : ∀ c, (t.cq c).fn = (s.cq c).fn
  cqFault : ∀ c, (t.cq c).faulted = (s.cq c).faulted
  out : s.out <:+ t.out

theorem State.sameHost.trans {t u s : State} (h1 : t.sameHost u) (h2 : u.sameHost s) : t.sameHost s :=
  ⟨h1.mgmt.trans h2.mgmt, h1.ports.trans h2.ports, h1.fns.trans h2.fns, h1.slices.trans h2.slices,
    fun c => (h1.cqFn c).trans (h2.cqFn c), fun c => (h1.cqFault c).trans (h2.cqFault c), h2.out.trans h1.out⟩

@[simp] theorem State.sameHost_refl (s : State) : s.sameHost s :=
  ⟨rfl, rfl, rfl, rfl, fun _ => rfl, fun _ => rfl, List.suffix_refl _⟩

section
variable {t s : State} (h : t.sameHost s)
include h

theorem State.sameHost.fn (f : Nat) : t.fn f = s.fn f := by rw [State.fn, h.fns, State.fn]
theorem State.sameHost.port (p : Nat) : t.port p = s.port p := by rw [State.port, h.ports, State.port]
theorem State.sameHost.slice (id : Nat) : t.slice id = s.slice id := State.slice_of_slices h.slices id

theorem State.sameHost.sliceOn (sl : Nat) : t.sliceOn sl = s.sliceOn sl := State.sliceOn_of_st (fun id => by rw [h.slice]) sl

theorem State.sameHost.mastering (f : Nat) : t.mastering f = s.mastering f := by
  rw [State.mastering, h.fn, h.port, State.mastering]

theorem State.sameHost.cqTakes (c : Nat) : t.cqTakes c = s.cqTakes c := by
  rw [State.cqTakes, h.cqFn, h.cqFault, h.mastering, State.cqTakes]

theorem State.sameHost.freeTag (f : Nat) : t.freeTag f = s.freeTag f := by
  simp only [State.freeTag, h.fn, h.port]

theorem State.sameHost.param (g : Half) (index sub sel d : Nat) : t.param g index sub sel d = s.param g index sub sel d := by
  cases g <;> simp only [State.param, State.params, h.mgmt]

theorem State.sameHost.slicePort (g : Half) (sl txMeta : Nat) : t.slicePort g sl txMeta = s.slicePort g sl txMeta := by
  simp only [State.slicePort, State.txSteer, h.param]

/-- A queue bound as before is bound to the same CQ. -/
theorem State.sameHost.queueCq {q : Nat} (hs : (t.queue q).slice = (s.queue q).slice) (hc : (t.queue q).cq = (s.queue q).cq) :
    t.queueCq q = s.queueCq q := by
  rw [State.queueCq, hs, hc, State.cqKey, h.slice, State.queueCq, State.cqKey]

/-- An entry that ends after steps which leave the host's side and the queue's binding is completed with its status. -/
theorem State.sameHost.completes {q : Nat} (hs : (t.queue q).slice = (s.queue q).slice) (hc : (t.queue q).cq = (s.queue q).cq)
    (hk : s.cqTakes (s.queueCq q) = true) {u : State} {e : Entry} {status bytes qflags data : Nat}
    (hu : (t.finish q e status bytes qflags data true).out <:+ u.out) : u.completed s (s.queueCq q) e status := by
  have hq := h.queueCq hs hc
  have hf := t.finish_completed q e status bytes qflags data (by rw [hq, h.cqTakes, hk])
  exact hq ▸ hf.mono hu h.out

end

section
variable {a s : State} (h : a.sameHost s) (k : Nat)
include h

theorem State.emit_sameHost (o : Output) : (a.emit o).sameHost s :=
  State.sameHost.trans (u := a) ⟨rfl, rfl, rfl, rfl, fun _ => rfl, fun _ => rfl, List.suffix_cons o a.out⟩ h

theorem State.count_sameHost (i sub n : Nat) : (a.count i sub n).sameHost s :=
  State.sameHost.trans (u := a) ⟨rfl, rfl, rfl, rfl, fun _ => rfl, fun _ => rfl, List.suffix_refl _⟩ h

theorem State.until_sameHost (g : Half) (d : Nat) : (a.until g d).sameHost s :=
  State.sameHost.trans (u := a) ⟨rfl, rfl, rfl, rfl, fun _ => rfl, fun _ => rfl, List.suffix_refl _⟩ h

theorem State.onHalf_sameHost (g : Half) (f : HalfSt → HalfSt) : (a.onHalf g f).sameHost s := by
  cases g <;>
  exact State.sameHost.trans (u := a) ⟨rfl, rfl, rfl, rfl, fun _ => rfl, fun _ => rfl, List.suffix_refl _⟩ h

theorem State.setQpk_sameHost (x : Qp) : (a.setQpk k x).sameHost s := by
  simp only [State.setQpk, State.setQp]
  exact State.onHalf_sameHost h _ _

theorem State.roceOut_sameHost (sl txMeta : Nat) (o : Output) : (a.roceOut k sl txMeta o).sameHost s := by
  simp only [State.roceOut]
  split
  · exact h
  · split
    · exact State.count_sameHost h _ _ _
    · exact State.emit_sameHost h o

theorem State.sendPackets_sameHost (txMeta : Nat) (os : List Output) : (a.sendPackets k txMeta os).sameHost s := by
  induction os generalizing a with
  | nil => exact h
  | cons o os ih => exact ih (State.roceOut_sameHost h k _ _ o)

theorem State.takeSlot_sameHost (c q : Nat) : (a.takeSlot c q).sameHost s := by
  have hcq : ∀ c', ((a.takeSlot c q).cq c').fn = (a.cq c').fn ∧ ((a.takeSlot c q).cq c').faulted = (a.cq c').faulted := fun c' => by
    rw [State.takeSlot, State.cq_setCq]
    split
    · next hc => exact hc ▸ ⟨rfl, rfl⟩
    · exact ⟨rfl, rfl⟩
  exact State.sameHost.trans (u := a) ⟨rfl, rfl, rfl, rfl, fun c' => (hcq c').1, fun c' => (hcq c').2, List.suffix_refl _⟩ h

end

/-! ### The frames of a queue pair (R276, R431) -/

section
variable {s : State} {k n sl txMeta : Nat} (hn : s.slicePort (qpHalf k) sl txMeta = some n) (hh : ethHalf n = qpHalf k)
include hn hh

/-- A frame steered to a port of the queue pair's half goes out. -/
theorem State.roceOut_eq (o : Output) : s.roceOut k sl txMeta o = s.emit o := by
  simp only [State.roceOut, hn, hh, ne_eq, not_true_eq_false, false_and, if_false]

theorem State.sendPackets_eq (hsl : sl = (s.qpk k).slice) (os : List Output) :
    s.sendPackets k txMeta os = { s with out := os.reverse ++ s.out } := by
  induction os generalizing s with
  | nil => rfl
  | cons o os ih =>
    have he : (s.emit o).slicePort (qpHalf k) sl txMeta = some n := (State.emit_sameHost s.sameHost_refl o).slicePort _ _ _ ▸ hn
    have hx : sl = ((s.emit o).qpk k).slice := by rw [State.qpk_of_qp (s.qp_emit o), hsl]
    have hout : (s.roceOut k (s.qpk k).slice txMeta o) = s.emit o := hsl ▸ State.roceOut_eq hn hh o
    have hstep : s.sendPackets k txMeta (o :: os) = (s.emit o).sendPackets k txMeta os :=
      congrArg (fun a : State => a.sendPackets k txMeta os) hout
    rw [hstep, ih he hx]
    simp [State.emit]

end

section
variable (s : State) (k txMeta : Nat) (os : List Output)

@[simp] theorem State.qp_sendPackets (h : Half) (i : Nat) : (s.sendPackets k txMeta os).qp h i = s.qp h i :=
  State.foldl_unchanged (part := fun a : State => a.qp h i) (fun a _ => a.qp_roceOut _ _ _ _ _ _) os s

/-- Only the frames lost to the other half are counted (R431). -/
theorem State.cnt_roceOut {i c : Nat} (hc : i * 256 + c ≠ (0x6A00 + (qpHalf k).num) * 256 + 2) (sl : Nat) (o : Output) :
    (s.roceOut k sl txMeta o).cnt i c = s.cnt i c := by
  simp only [State.roceOut]
  split
  · rfl
  · split
    · rw [State.countH, State.cnt_count, if_neg hc, Nat.add_zero]
    · rfl

theorem State.cnt_sendPackets {i c : Nat} (hc : i * 256 + c ≠ (0x6A00 + (qpHalf k).num) * 256 + 2) :
    (s.sendPackets k txMeta os).cnt i c = s.cnt i c :=
  State.foldl_unchanged (part := fun a : State => a.cnt i c) (fun a o => a.cnt_roceOut k txMeta hc _ o) os s

theorem State.time_roceOut (sl : Nat) (o : Output) (h : Half) : (s.roceOut k sl txMeta o).time h = s.time h := by
  simp only [State.roceOut]
  split
  · rfl
  · split <;> cases h <;> rfl

theorem State.time_sendPackets (h : Half) : (s.sendPackets k txMeta os).time h = s.time h :=
  State.foldl_unchanged (part := fun a : State => a.time h) (fun a o => a.time_roceOut k txMeta _ o h) os s

end

end Sys2Proof.Machine
end

section
/-! SUPPORT. The start of an entry of a queue pair and the packets of a requester (11 R285, R286, R290, R300). -/

namespace Sys2Proof.Machine
open Sys2Proof

/-! ### An entry starts (R108) -/

/-- A queue with one of its entries started. -/
def Wq.begun (w : Wq) (e : Entry) : Wq :=
  { w with fetched := w.fetched.filter (fun x => x.index != e.index), started := w.started ++ [e] }

theorem Wq.mem_started_begun (w : Wq) (e : Entry) : e ∈ (w.begun e).started := List.mem_append_right _ List.mem_cons_self

theorem Wq.index_ne_of_mem_fetched_begun (w : Wq) (e : Entry) : ∀ x ∈ (w.begun e).fetched, x.index ≠ e.index := fun _ hx =>
  bne_iff_ne.mp (List.mem_filter.mp hx).2

theorem Wq.index_ne_of_mem_started_ended (w : Wq) (e : Entry) : ∀ x ∈ (w.ended e).started, x.index ≠ e.index := fun _ hx =>
  bne_iff_ne.mp (List.mem_filter.mp hx).2

section
variable (s : State) (k : Nat) (e : Entry)

theorem State.qp_takeSlot (c q : Nat) (h : Half) (i : Nat) : (s.takeSlot c q).qp h i = s.qp h i := s.qp_setCq _ _ _ _

theorem State.startEntry_sqOf :
    s.startEntry (sqOf k) e = (s.takeSlot (s.queueCq (sqOf k)) (sqOf k)).setQpk k { s.qpk k with sq := (s.qpk k).sq.begun e } := by
  simp only [State.startEntry, State.queue_sqOf, State.setQueue_sqOf, State.qpk_of_qp (s.qp_takeSlot _ _), Wq.begun]

theorem State.startEntry_rqOf :
    s.startEntry (rqOf k) e = (s.takeSlot (s.queueCq (rqOf k)) (rqOf k)).setQpk k { s.qpk k with rq := (s.qpk k).rq.begun e } := by
  simp only [State.startEntry, State.queue_rqOf, State.setQueue_rqOf, State.qpk_of_qp (s.qp_takeSlot _ _), Wq.begun]

@[simp] theorem State.qpk_startEntry_sqOf : (s.startEntry (sqOf k) e).qpk k = { s.qpk k with sq := (s.qpk k).sq.begun e } := by
  rw [State.startEntry_sqOf, State.qpk_setQpk]

@[simp] theorem State.qpk_startEntry_rqOf : (s.startEntry (rqOf k) e).qpk k = { s.qpk k with rq := (s.qpk k).rq.begun e } := by
  rw [State.startEntry_rqOf, State.qpk_setQpk]

theorem State.startEntry_sqOf_otherQps : (s.startEntry (sqOf k) e).otherQps s k := by
  rw [State.startEntry_sqOf]
  exact (State.setQpk_otherQps _ k _).trans (State.otherQps_of_qp (s.qp_takeSlot _ _) k)

theorem State.startEntry_rqOf_otherQps : (s.startEntry (rqOf k) e).otherQps s k := by
  rw [State.startEntry_rqOf]
  exact (State.setQpk_otherQps _ k _).trans (State.otherQps_of_qp (s.qp_takeSlot _ _) k)

theorem State.startEntry_sqOf_sameHost : (s.startEntry (sqOf k) e).sameHost s := by
  rw [State.startEntry_sqOf]
  exact State.setQpk_sameHost (State.takeSlot_sameHost s.sameHost_refl _ _) k _

theorem State.startEntry_rqOf_sameHost : (s.startEntry (rqOf k) e).sameHost s := by
  rw [State.startEntry_rqOf]
  exact State.setQpk_sameHost (State.takeSlot_sameHost s.sameHost_refl _ _) k _

theorem State.startEntry_sqOf_out : (s.startEntry (sqOf k) e).out = s.out := by
  rw [State.startEntry_sqOf, State.setQpk, State.setQp_out]
  rfl

theorem State.cq_setQpk (x : Qp) (c : Nat) : (s.setQpk k x).cq c = s.cq c := by
  rw [State.cq, State.setQpk, State.setQp_cqs, State.cq]

theorem State.reserved_startEntry :
    ((s.startEntry (sqOf k) e).cq (s.queueCq (sqOf k))).reserved = (s.cq (s.queueCq (sqOf k))).reserved + 1 := by
  rw [State.startEntry_sqOf, State.cq_setQpk, State.takeSlot, State.cq_setCq, if_pos rfl]

theorem State.useQp_out : (s.useQp k).out = s.out := by
  simp only [State.useQp, State.setQpk, State.setQp_out, State.onHalf_out]

theorem State.cq_useQp (c : Nat) : (s.useQp k).cq c = s.cq c := by
  simp only [State.useQp, State.cq_setQpk]
  rw [State.cq, State.onHalf_cqs, State.cq]

end

/-! ### The next entry of a send queue -/

section
variable {s : State} {k : Nat} {e : Entry} (hnext : s.sqNext k = some e)
include hnext

/-- The slice of a send queue that starts an entry may work. -/
theorem State.sliceOn_of_sqNext : s.sliceOn (s.qpk k).sq.slice = true := by
  simp only [State.sqNext, State.nextStart, State.queue_sqOf] at hnext
  split at hnext
  · split at hnext
    · cases hnext
    · split at hnext
      · next hc =>
        obtain ⟨-, -, hon, -⟩ := hc
        exact hon
      · cases hnext
  · cases hnext

variable {op : Nat} (hop : e.opcode = op) (hbad : e.sqBad (qrUd (s.qpk k).record) (qrMtu (s.qpk k).record) = false)
  (hslot : s.slotFor (s.queueCq (sqOf k)) (sqOf k) = true)
include hop hbad hslot

/-- A start finds its slot, and the entry is transmitted with the data at hand. -/
theorem State.rdmaStart_transmits {data : Option (List Byte)} {ds : List Byte}
    (hdepth : 0x14 ≤ op → (s.qpk k).readsOut < qrReqDepth (s.qpk k).record)
    (hread : 0x14 ≤ op → ds = [])
    (hinline : ¬ 0x14 ≤ op → (e.rdmaInline ∨ e.rdmaLen = 0) → ds = e.rdmaInlineData (qrUd (s.qpk k).record))
    (hdata : ¬ 0x14 ≤ op → ¬ (e.rdmaInline ∨ e.rdmaLen = 0) → ∃ bs, data = some bs ∧ ds = fit e.rdmaLen bs) :
    s.rdmaStart k op data = ((s.startEntry (sqOf k) e).rdmaTransmit k e ds).useQp k := by
  simp only [State.rdmaStart, hnext, hop, hbad, ne_eq, not_true_eq_false, Bool.false_eq_true, or_self, if_false]
  have hstart : ∀ go, s.start (sqOf k) e go = go (s.startEntry (sqOf k) e) := fun go => if_pos hslot
  by_cases hr : 0x14 ≤ op
  · rw [if_pos hr, if_pos (hdepth hr), hstart, hread hr]
  · rw [if_neg hr]
    by_cases hi : e.rdmaInline = true ∨ e.rdmaLen = 0
    · rw [if_pos hi, hstart, hinline hr hi]
    · obtain ⟨bs, rfl, rfl⟩ := hdata hr hi
      rw [if_neg hi]
      exact hstart _

/-- A start whose data is still to be read asks for it under a tag (R53, R54, R286). -/
theorem State.rdmaStart_reads {v : Nat} (hlt : op < 0x14) (hin : e.rdmaInline = false) (hlen : e.rdmaLen ≠ 0)
    (htag : s.freeTag (s.qpk k).sq.fn = some v) :
    s.rdmaStart k op none
      = ((s.startEntry (sqOf k) e).issueRead (s.qpk k).sq.fn (s.qpk k).slice 2 (sqOf k) e.index).getD (s.startEntry (sqOf k) e) := by
  simp only [State.rdmaStart, hnext, hop, hbad, ne_eq, not_true_eq_false, Bool.false_eq_true, or_self, if_false,
    if_neg (Nat.not_le.mpr hlt), hin, hlen, htag, Option.isNone_some]
  exact if_pos hslot

end

/-! ### An entry ends (R105, R107) -/

section
variable (a : State) (k : Nat) (e : Entry) (status bytes qflags data : Nat)

theorem State.lasting_finish_sqOf :
    ((a.finish (sqOf k) e status bytes qflags data true).qpk k).lasting
      = ({ a.qpk k with sq := (a.qpk k).sq.ended e } : Qp).lasting := by
  have h := (a.finish_lasts (sqOf k) e status bytes qflags data).qpk k
  rwa [State.queue_sqOf, State.setQueue_sqOf, State.qpk_setQpk] at h

theorem State.lasting_finish_rqOf :
    ((a.finish (rqOf k) e status bytes qflags data true).qpk k).lasting
      = ({ a.qpk k with rq := (a.qpk k).rq.ended e } : Qp).lasting := by
  have h := (a.finish_lasts (rqOf k) e status bytes qflags data).qpk k
  rwa [State.queue_rqOf, State.setQueue_rqOf, State.qpk_setQpk] at h

/-- The end of an entry of a send queue whose slice may work leaves its slice as it is. -/
theorem State.settle_finish_sqOf (hon : a.sliceOn (a.qpk k).sq.slice = true) :
    (a.finish (sqOf k) e status bytes qflags data true).settleQueue (sqOf k) = a.finish (sqOf k) e status bytes qflags data true := by
  have hs := congrArg (fun x : Qp => x.sq.slice) (a.lasting_finish_sqOf k e status bytes qflags data)
  refine State.settleQueue_of_sliceOn ?_
  rw [(a.finish_sameContexts _ _ _ _ _ _).sliceOn, State.queue_sqOf]
  exact (congrArg (fun sl => a.sliceOn sl = true) hs).mpr hon

end

/-! ### Packets sent (R285, R286, R290) -/

/-- The packets of an RC entry. -/
def Entry.rcPackets (e : Entry) (mtu : Nat) : Nat := if 0x15 ≤ e.opcode then 1 else packets e.rdmaLen mtu

/-- A queue pair once an entry on RC is transmitted. -/
def Qp.transmitted (x : Qp) (e : Entry) (now : Nat) : Qp :=
  { x with
    outst := x.outst ++ [{ entry := e, psn := x.nextPsn, npkts := e.rcPackets (qrMtu x.record) }]
    nextPsn := psnAdd x.nextPsn (e.rcPackets (qrMtu x.record))
    ackFrom := if x.outst = [] then now else x.ackFrom }

section
variable {s : State} {k : Nat}

theorem State.rdmaTransmit_rc {n : Nat} (e : Entry) (bs : List Byte) (hrc : qrUd (s.qpk k).record = false)
    (hn : s.slicePort (qpHalf k) (s.qpk k).slice (qrTxMeta (s.qpk k).record) = some n) (hh : ethHalf n = qpHalf k) :
    s.rdmaTransmit k e bs
      = { s.setQpk k ((s.qpk k).transmitted e (s.time (qpHalf k))) with
          out := (reqPackets k (s.qpk k).nextPsn e.opcode (qrMtu (s.qpk k).record) e.rdmaLen bs).reverse ++ s.out } := by
  have hx : (s.setQpk k ((s.qpk k).transmitted e (s.time (qpHalf k)))).slicePort (qpHalf k) (s.qpk k).slice
      (qrTxMeta (s.qpk k).record) = some n :=
    ((State.setQpk_sameHost s.sameHost_refl k _).slicePort _ _ _).trans hn
  have hsend := State.sendPackets_eq hx hh (by rw [State.qpk_setQpk, Qp.transmitted])
    (reqPackets k (s.qpk k).nextPsn e.opcode (qrMtu (s.qpk k).record) e.rdmaLen bs)
  rw [State.setQpk, State.setQp_out] at hsend
  simp only [State.rdmaTransmit, hrc, Bool.false_eq_true, if_false]
  exact hsend

/-- A queue pair on UD once a packet is sent. -/
def Qp.sentUd (x : Qp) : Qp := { x with nextPsn := psnAdd x.nextPsn 1 }

theorem State.rdmaTransmit_ud (e : Entry) (bs : List Byte) (hud : qrUd (s.qpk k).record = true)
    (hon : s.sliceOn (s.qpk k).sq.slice = true) :
    s.rdmaTransmit k e bs = ((s.roceOut k (s.qpk k).slice (leAt e.bytes 100 4) (.roceReq k (s.qpk k).nextPsn e.opcode bs)).setQpk k
      (s.qpk k).sentUd).finish (sqOf k) e stOk e.rdmaLen 0 0 true := by
  simp only [State.rdmaTransmit, hud, if_true]
  rw [State.qpk_of_qp (s.qp_roceOut _ _ _ _)]
  refine State.settle_finish_sqOf _ k e _ _ _ _ ?_
  rw [State.qpk_setQpk]
  exact ((State.setQpk_sameHost (State.roceOut_sameHost s.sameHost_refl k _ _ _) k _).sliceOn _).trans hon

end

end Sys2Proof.Machine
end

section
/-! SUPPORT. Responses, NAKs and timers of a requester (11 R290, R295, R300 to R303). -/

namespace Sys2Proof.Machine
open Sys2Proof

/-! ### PSNs (R302) -/

theorem psnDist_self (a : BitVec 24) : psnDist a a = 0 := by simp [psnDist]

/-- The PSN before another is the farthest from it. -/
theorem psnDist_pred (a : BitVec 24) : psnDist a (a - 1) = 16777215 := by
  have ha := a.isLt
  have h1 : (1 : BitVec 24).toNat = 1 := rfl
  simp only [psnDist, BitVec.toNat_sub, h1]
  omega

/-- The last PSN of some packets lies after the PSNs of those before it. -/
theorem psnAtOrAfter_last {a p : BitVec 24} {n : Nat} (hd : psnDist a p + 1 < n) (hn : n ≤ 8388608) :
    psnAtOrAfter (psnAdd a (n - 1)) p = false := by
  have ha := a.isLt
  have hp := p.isLt
  refine decide_eq_false ?_
  simp only [psnAdd, psnDist, BitVec.toNat_sub, BitVec.toNat_add, BitVec.toNat_ofNat] at hd ⊢
  omega

/-- The last PSN of some packets lies after the PSN before the first. -/
theorem psnAtOrAfter_last_pred {a : BitVec 24} {n : Nat} (h0 : 0 < n) (hn : n ≤ 8388608) :
    psnAtOrAfter (psnAdd a (n - 1)) (a - 1) = false := by
  have ha := a.isLt
  have h1 : (1 : BitVec 24).toNat = 1 := rfl
  refine decide_eq_false ?_
  simp only [psnAdd, psnDist, BitVec.toNat_sub, BitVec.toNat_add, BitVec.toNat_ofNat, h1]
  omega

/-! ### Acknowledgements (R290, R300) -/

/-- A queue pair once its oldest outstanding entry has ended well. -/
def Qp.ackedFirst (x : Qp) (o : Outst) (rest : List Outst) (now : Nat) : Qp :=
  { x with
    outst := rest, unacked := psnAdd o.psn o.npkts, ackFrom := now, retries := qrRetry x.record, rnrLeft := qrRnrRetry x.record }

/-- A queue pair once packets of its oldest outstanding entry up to a PSN are acknowledged. -/
def Qp.ackedPart (x : Qp) (psn : BitVec 24) (now : Nat) : Qp :=
  { x with unacked := psn + 1, ackFrom := now, retries := qrRetry x.record, rnrLeft := qrRnrRetry x.record }

section
variable {s : State} {k : Nat} {o : Outst} {rest : List Outst} {psn : BitVec 24}

theorem State.ackFirst_eq (ho : (s.qpk k).outst = o :: rest) (data : Nat) :
    s.ackFirst k data = (s.setQpk k ((s.qpk k).ackedFirst o rest (s.time (qpHalf k)))).finish (sqOf k) o.entry stOk
      o.entry.rdmaLen 0 data true := by
  simp only [State.ackFirst, ho]
  rfl

/-- An ACK of the last packet of the one outstanding entry completes it. -/
theorem State.acked_last (ho : (s.qpk k).outst = [o]) (hop : o.entry.opcode < 0x14)
    (hlast : psnAtOrAfter (psnAdd o.psn (o.npkts - 1)) psn = true) : s.acked k psn = s.ackFirst k 0 := by
  have hx := s.setQpk k ((s.qpk k).ackedFirst o [] (s.time (qpHalf k))) |>.lasting_finish_sqOf k o.entry stOk o.entry.rdmaLen 0 0
  have hnone : ((s.ackFirst k 0).qpk k).outst = [] := by
    rw [State.ackFirst_eq ho]
    exact (congrArg Qp.outst hx).trans (by rw [State.qpk_setQpk]; rfl)
  have hup : s.ackUpTo k psn (s.qpk k).outst.length = s.ackFirst k 0 := by
    simp only [ho, List.length_singleton, State.ackUpTo, hop, hlast, and_self, if_true]
  simp only [State.acked, hup, hnone]

theorem State.ackUpTo_of_not (ho : (s.qpk k).outst = o :: rest)
    (hlast : ¬ (o.entry.opcode < 0x14 ∧ psnAtOrAfter (psnAdd o.psn (o.npkts - 1)) psn = true)) (fuel : Nat) :
    s.ackUpTo k psn fuel = s := by
  cases fuel with
  | zero => rfl
  | succ n => simp only [State.ackUpTo, ho, if_neg hlast]

/-- A PSN before those of the oldest outstanding entry acknowledges nothing, and a READ or an atomic is never acknowledged by one. -/
theorem State.acked_none (ho : (s.qpk k).outst = o :: rest)
    (hlast : o.entry.opcode < 0x14 → psnAtOrAfter (psnAdd o.psn (o.npkts - 1)) psn = false)
    (hpart : o.entry.opcode < 0x14 → o.npkts ≤ psnDist o.psn psn) : s.acked k psn = s := by
  have hup := State.ackUpTo_of_not (psn := psn) ho (fun hc => by simp [hlast hc.1] at hc)
  simp only [State.acked, hup, ho]
  exact if_neg fun ⟨hop, hd, _⟩ => Nat.not_lt.mpr (hpart hop) hd

theorem State.acked_pred (ho : (s.qpk k).outst = o :: rest) (h0 : 0 < o.npkts) (hn : o.npkts ≤ 8388608) :
    s.acked k (o.psn - 1) = s :=
  State.acked_none ho (fun _ => psnAtOrAfter_last_pred h0 hn) fun _ => by rw [psnDist_pred]; omega

theorem State.acked_response (ho : (s.qpk k).outst = o :: rest) (hop : 0x14 ≤ o.entry.opcode) : s.acked k psn = s :=
  State.acked_none ho (fun h => absurd h (Nat.not_lt.mpr hop)) fun h => absurd h (Nat.not_lt.mpr hop)

/-- An ACK of packets of the oldest outstanding entry before its last moves the oldest unacknowledged PSN. -/
theorem State.acked_part (ho : (s.qpk k).outst = o :: rest) (hop : o.entry.opcode < 0x14) (hd : psnDist o.psn psn + 1 < o.npkts)
    (hn : o.npkts ≤ 8388608) (hu : psnAtOrAfter (s.qpk k).unacked psn = true) :
    s.acked k psn = s.setQpk k ((s.qpk k).ackedPart psn (s.time (qpHalf k))) := by
  have hup := State.ackUpTo_of_not (psn := psn) ho (fun hc => by simp [psnAtOrAfter_last hd hn] at hc)
  have hc : o.entry.opcode < 0x14 ∧ psnDist o.psn psn < o.npkts ∧ psnAtOrAfter (s.qpk k).unacked psn = true := ⟨hop, by omega, hu⟩
  simp only [State.acked, hup, ho, if_pos hc, Qp.ackedPart]

/-! ### Resending (R300, R301) -/

theorem State.qpk_resend : (s.resend k psn).qpk k
    = { s.qpk k with ackFrom := s.time (qpHalf k), outst := (s.qpk k).outst.map fun o => { o with got := 0 } } := by
  simp only [State.resend]
  rw [State.qpk_of_qp (State.qp_sendPackets _ _ _ _), State.qpk_setQpk]

theorem State.resend_otherQps : (s.resend k psn).otherQps s k := by
  simp only [State.resend]
  exact (State.otherQps_of_qp (State.qp_sendPackets _ _ _ _) k).trans
    ((State.setQpk_otherQps _ k _).trans (State.otherQps_of_qp (s.qp_countH _ _ _ _) k))

/-- Resending counts the retries alone among the counters of its object. -/
theorem State.cnt_resend {c : Nat} (hc : c < 0x0A ∨ 0x0A < c ∧ c < 256) :
    (s.resend k psn).cnt (0x6600 + (qpHalf k).num) c = s.cnt (0x6600 + (qpHalf k).num) c := by
  have hnum : (qpHalf k).num ≤ 1 := by cases qpHalf k <;> decide
  simp only [State.resend]
  rw [State.cnt_sendPackets _ _ _ _ (by omega), State.cnt_setQpk, State.countH, State.cnt_count, if_neg (by omega), Nat.add_zero]

theorem State.time_resend (h : Half) : (s.resend k psn).time h = s.time h := by
  simp only [State.resend]
  rw [State.time_sendPackets, State.time_setQpk]
  exact State.time_countRdma _ _ _ _ h

/-! ### An entry that fails (R303) -/

/-- An entry that fails leaves its queue pair in ERROR, with the fault raised, and is completed with its status. -/
theorem State.failEntry_spec {a : State} (ha : a.sameHost s) (hx : a.qpk k = s.qpk k) (hst : (s.qpk k).st = .rts)
    (hon : s.sliceOn (s.qpk k).sq.slice = true) (e : Entry) (status : Nat) :
    (a.failEntry k e status).settleQueue (sqOf k) = a.failEntry k e status
      ∧ ((a.failEntry k e status).qpk k).st = .error ∧ ((a.failEntry k e status).qpk k).outst = []
      ∧ bit ((a.failEntry k e status).fn (s.qpk k).sq.fn).faultSummary 3 = true
      ∧ (a.failEntry k e status).besideQueues = a.besideQueues
      ∧ (s.cqTakes (s.queueCq (sqOf k)) = true →
          (a.failEntry k e status).completed s (s.queueCq (sqOf k)) e status) := by
  have hl := a.lasting_finish_sqOf k e status 0 0 0
  rw [hx] at hl
  generalize hb : a.finish (sqOf k) e status 0 0 0 true = b at hl
  have hbst : (b.qpk k).st = .rts := (congrArg Qp.st hl :).trans hst
  have hbsl : (b.qpk k).sq.slice = (s.qpk k).sq.slice := (congrArg (fun x : Qp => x.sq.slice) hl :)
  have hbfn : (b.qpk k).sq.fn = (s.qpk k).sq.fn := (congrArg (fun x : Qp => x.sq.fn) hl :)
  have hbon : b.sliceOn (b.qpk k).sq.slice = true := by
    rw [hbsl, ← hb, (a.finish_sameContexts _ _ _ _ _ _).sliceOn, ha.sliceOn, hon]
  have hf : a.failEntry k e status = b.failedQp k false := by
    rw [State.failEntry, hb, State.qpError_eq (by simp [hbst]) (by simp [hbst]) hbon]
  have hctx := State.context_failedQp (s := b) (k := k) false
  have hfsl : ((b.failedQp k false).qpk k).sq.slice = (b.qpk k).sq.slice := (congrArg (fun x : Qp => x.sq.slice) hctx :)
  rw [hf]
  refine ⟨?settled, (congrArg Qp.st hctx :), (congrArg Qp.outst hctx :), hbfn ▸ State.failedQp_bit, ?beside, fun hc => ?completed⟩
  case settled =>
    refine State.settleQueue_of_sliceOn ?_
    rw [State.queue_sqOf, hfsl, (State.failedQp_sameContexts false).sliceOn]
    exact ((State.setQpk_sameHost b.sameHost_refl k _).sliceOn _).trans hbon
  case beside =>
    rw [State.failedQp_besideQueues, ← hb, State.finish_besideQueues]
  case completed =>
    refine ha.completes (by rw [State.queue_sqOf, State.queue_sqOf, hx]) (by rw [State.queue_sqOf, State.queue_sqOf, hx]) hc
      (bytes := 0) (qflags := 0) (data := 0) ?_
    rw [hb]
    exact (State.failedQp_keeps (State.keeps_refl b) false).out

/-- The oldest outstanding entry that ends well leaves its queue pair's retries restored, and is completed. -/
theorem State.ackFirst_spec {a : State} (ha : a.sameHost s) (hq : ∀ h i, a.qp h i = s.qp h i) (hst : (s.qpk k).st = .rts)
    (hon : s.sliceOn (s.qpk k).sq.slice = true) (ho : (s.qpk k).outst = o :: rest) (data : Nat) :
    (a.ackFirst k data).settleQueue (sqOf k) = a.ackFirst k data ∧ ((a.ackFirst k data).qpk k).outst = rest
      ∧ ((a.ackFirst k data).qpk k).st = .rts ∧ ((a.ackFirst k data).qpk k).unacked = psnAdd o.psn o.npkts
      ∧ ((a.ackFirst k data).qpk k).retries = qrRetry (s.qpk k).record
      ∧ ((a.ackFirst k data).qpk k).rnrLeft = qrRnrRetry (s.qpk k).record
      ∧ ((a.ackFirst k data).qpk k).sq.lastDone = some o.entry.index
      ∧ ((s.qpk k).sq.abort = none → (a.ackFirst k data).otherQps s k)
      ∧ (s.cqTakes (s.queueCq (sqOf k)) = true → (a.ackFirst k data).completed s (s.queueCq (sqOf k)) o.entry stOk)
      ∧ a.out <:+ (a.ackFirst k data).out := by
  have hx : a.qpk k = s.qpk k := State.qpk_of_qp hq k
  rw [State.ackFirst_eq (by rw [hx, ho]), hx]
  generalize hy : (s.qpk k).ackedFirst o rest (a.time (qpHalf k)) = y
  have hysq : y.sq = (s.qpk k).sq := by rw [← hy, Qp.ackedFirst]
  have hset : (a.setQpk k y).sameHost s := State.setQpk_sameHost ha k y
  have hl := (a.setQpk k y).lasting_finish_sqOf k o.entry stOk o.entry.rdmaLen 0 data
  rw [State.qpk_setQpk] at hl
  have hfield {β : Type} (f : Qp → β) (hf : ∀ x : Qp, f x.lasting = f x) :
      f (((a.setQpk k y).finish (sqOf k) o.entry stOk o.entry.rdmaLen 0 data true).qpk k) = f { y with sq := y.sq.ended o.entry } := by
    rw [← hf, hl, hf]
  refine ⟨?_, ?_, ?_, ?_, ?_, ?_, ?_, fun hab => ?_, fun hc => ?_, ?_⟩
  · refine State.settle_finish_sqOf _ _ _ _ _ _ _ ?_
    rw [State.qpk_setQpk, hysq, hset.sliceOn, hon]
  · exact (hfield Qp.outst fun _ => rfl).trans (hy ▸ rfl)
  · exact (hfield Qp.st fun _ => rfl).trans (hy ▸ hst)
  · exact (hfield Qp.unacked fun _ => rfl).trans (hy ▸ rfl)
  · exact (hfield Qp.retries fun _ => rfl).trans (hy ▸ rfl)
  · exact (hfield Qp.rnrLeft fun _ => rfl).trans (hy ▸ rfl)
  · exact hfield (fun x => x.sq.lastDone) fun _ => rfl
  · have hf := State.finish_otherQps (a.setQpk k y) (sqOf k) o.entry stOk o.entry.rdmaLen 0 data (qpBase_le_sqOf k)
      (by rw [State.queue_sqOf, State.qpk_setQpk, hysq, hab])
    rw [qQp_sqOf] at hf
    exact hf.trans ((a.setQpk_otherQps k y).trans (State.otherQps_of_qp hq k))
  · exact hset.completes (by rw [State.queue_sqOf, State.queue_sqOf, State.qpk_setQpk, hysq])
      (by rw [State.queue_sqOf, State.queue_sqOf, State.qpk_setQpk, hysq]) hc (List.suffix_refl _)
  · have hk := State.finish_keeps (State.keeps_refl (a.setQpk k y)) (sqOf k) o.entry stOk o.entry.rdmaLen 0 data true
    have hout : (a.setQpk k y).out = a.out := State.setQp_out _ _ _ _
    exact hout ▸ hk.out

end

end Sys2Proof.Machine
end

section
/-! SUPPORT. What a requester queue pair sends, and how its entries end (11 R285, R286, R290, R300, R301, R303). -/

namespace Sys2Proof.Machine
open Sys2Proof

section
variable {s : State} {k : Nat}

/-- The state in which an entry on RC has been started and its packets have left. -/
theorem State.startEntry_transmit_rc {n : Nat} (e : Entry) (ds : List Byte) (hrc : qrUd (s.qpk k).record = false)
    (hn : s.slicePort (qpHalf k) (s.qpk k).slice (qrTxMeta (s.qpk k).record) = some n) (hh : ethHalf n = qpHalf k) :
    ∃ now, ((s.startEntry (sqOf k) e).rdmaTransmit k e ds)
      = { (s.startEntry (sqOf k) e).setQpk k (({ s.qpk k with sq := (s.qpk k).sq.begun e } : Qp).transmitted e now) with
          out := (reqPackets k (s.qpk k).nextPsn e.opcode (qrMtu (s.qpk k).record) e.rdmaLen ds).reverse ++ s.out } := by
  have hp := ((s.startEntry_sqOf_sameHost k e).slicePort (qpHalf k) (s.qpk k).slice (qrTxMeta (s.qpk k).record)).trans hn
  have h := State.rdmaTransmit_rc (s := s.startEntry (sqOf k) e) (k := k) (n := n) e ds
    (by rw [State.qpk_startEntry_sqOf, hrc]) (by rw [State.qpk_startEntry_sqOf, hp]) hh
  rw [State.qpk_startEntry_sqOf, State.startEntry_sqOf_out] at h
  exact ⟨_, h⟩

/-- A packet on UD leaves with the next PSN, and its entry has ended (R286, R290). -/
theorem State.datagram_spec (e : Entry) (ds : List Byte) (hud : qrUd (s.qpk k).record = true)
    (hon : s.sliceOn (s.qpk k).sq.slice = true) :
    ((((s.startEntry (sqOf k) e).rdmaTransmit k e ds).useQp k).qpk k).nextPsn = psnAdd (s.qpk k).nextPsn 1
      ∧ ((((s.startEntry (sqOf k) e).rdmaTransmit k e ds).useQp k).qpk k).outst = (s.qpk k).outst
      ∧ ((((s.startEntry (sqOf k) e).rdmaTransmit k e ds).useQp k).qpk k).sq.lastDone = some e.index
      ∧ (∀ x ∈ ((((s.startEntry (sqOf k) e).rdmaTransmit k e ds).useQp k).qpk k).sq.started, x.index ≠ e.index)
      ∧ ((s.qpk k).sq.abort = none → (((s.startEntry (sqOf k) e).rdmaTransmit k e ds).useQp k).otherQps s k) := by
  have hsent := State.rdmaTransmit_ud (s := s.startEntry (sqOf k) e) (k := k) e ds (by rw [State.qpk_startEntry_sqOf, hud])
    (by rw [State.qpk_startEntry_sqOf]; exact ((s.startEntry_sqOf_sameHost k e).sliceOn _).trans hon)
  rw [State.qpk_startEntry_sqOf] at hsent
  generalize hb : ((s.startEntry (sqOf k) e).roceOut k (s.qpk k).slice (leAt e.bytes 100 4)
    (.roceReq k (s.qpk k).nextPsn e.opcode ds)) = b at hsent
  generalize hy : ({ s.qpk k with sq := (s.qpk k).sq.begun e } : Qp).sentUd = y at hsent
  have hl := (b.setQpk k y).lasting_finish_sqOf k e stOk e.rdmaLen 0 0
  rw [State.qpk_setQpk, ← hsent] at hl
  refine ⟨?_, ?_, ?_, ?_, fun hab => ?others⟩
  case others =>
    have hf := (b.setQpk k y).finish_otherQps (sqOf k) e stOk e.rdmaLen 0 0 (qpBase_le_sqOf k)
      (by rw [State.queue_sqOf, State.qpk_setQpk, ← hy]; exact hab)
    have hstarted : b.otherQps s k := by
      rw [← hb]
      exact (State.otherQps_of_qp (State.qp_roceOut _ _ _ _ _) k).trans (s.startEntry_sqOf_otherQps k e)
    rw [qQp_sqOf, ← hsent] at hf
    exact (State.useQp_otherQps _ k).trans (hf.trans ((b.setQpk_otherQps k y).trans hstarted))
  all_goals rw [State.qpk_useQp]
  · exact (congrArg Qp.nextPsn hl :).trans (hy ▸ rfl)
  · exact (congrArg Qp.outst hl :).trans (hy ▸ rfl)
  · exact (congrArg (fun x : Qp => x.sq.lastDone) hl :)
  · have hs := (congrArg (fun x : Qp => x.sq.started) hl :)
    exact (congrArg (fun l : List Entry => ∀ x ∈ l, x.index ≠ e.index) hs).mpr (Wq.index_ne_of_mem_started_ended _ e)

/-- A response that a queue pair takes acts on it (R300). -/
theorem exec_roceResponse {h : Half} {r : RoceResp} (hr : s.takesResp h k r = true) (ho : (s.qpk k).outst ≠ []) :
    qpHalf k = h ∧ (s.qpk k).st = .rts ∧ s.sliceOn (s.qpk k).sq.slice = true
      ∧ exec (.roceResponseReceive h r) s = .next ((s.response k r.psn r.answer).settleQueue (sqOf k)) := by
  simp only [State.takesResp, Bool.and_eq_true, beq_iff_eq, Bool.not_eq_true', Nat.blt_eq] at hr
  obtain ⟨⟨⟨⟨⟨⟨⟨⟨hfw, hk⟩, hqp⟩, hh⟩, hst⟩, hud⟩, hm⟩, hon⟩, hpsn⟩ := hr
  have hkey : r.qp - 0x100000 = k := by omega
  refine ⟨hh, hst, hon, congrArg Host.Outcome.next ?_⟩
  simp only [State.roceResponse, hkey]
  refine if_neg ?_
  simp only [hfw, hh, hst, hud, hm, ho, ne_eq, not_true_eq_false, Bool.true_eq_false, Bool.false_eq_true, false_or]
  omega

/-- A response that ends the one outstanding entry places its data, then acknowledges the entry. -/
theorem State.response_ends {r : RoceResp} {o : Outst} (ho : (s.qpk k).outst = [o])
    (hends : r.answer = .ack ∧ o.entry.opcode < 0x14 ∧ psnAtOrAfter (psnAdd o.psn (o.npkts - 1)) r.psn = true
      ∨ (∃ d, r.answer = .readData d true ∧ o.entry.opcode = 0x14 ∧ r.psn = o.psn ∧ o.got = 0)
      ∨ ∃ v, r.answer = .atomicData v ∧ 0x15 ≤ o.entry.opcode ∧ r.psn = o.psn) :
    ∃ (a : State) (data : Nat), a.sameHost s ∧ (∀ h i, a.qp h i = s.qp h i) ∧ s.response k r.psn r.answer = a.ackFirst k data
      ∧ (∀ d, r.answer = .readData d true → .dma (sqOf k) d ∈ a.out)
      ∧ ∀ v, r.answer = .atomicData v → .dma (sqOf k) (leBytes 8 v.toNat) ∈ a.out := by
  rcases hends with ⟨ha, hop, hlast⟩ | ⟨d, ha, hop, hpsn, hgot⟩ | ⟨v, ha, hop, hpsn⟩
  · exact ⟨s, 0, s.sameHost_refl, fun _ _ => rfl, ha ▸ State.acked_last ho hop hlast, by simp [ha], by simp [ha]⟩
  · refine ⟨s.emit (.dma (sqOf k) d), 0, State.emit_sameHost s.sameHost_refl _, s.qp_emit _, ?_, by simp [ha], by simp [ha]⟩
    rw [ha, hpsn]
    simp only [State.response, State.gotRead, State.acked_response ho (Nat.le_of_eq hop.symm), ho, hop, psnDist_self, hgot,
      Nat.zero_mul, ne_eq, not_true_eq_false, or_self, if_false, if_true]
  · refine ⟨s.emit (.dma (sqOf k) (leBytes 8 v.toNat)), v.toNat, State.emit_sameHost s.sameHost_refl _, s.qp_emit _, ?_,
      by simp [ha], by simp [ha]⟩
    rw [ha, hpsn]
    simp only [State.response, State.gotAtomic, State.acked_response ho (Nat.le_of_succ_le hop), ho, hop, and_self, if_true]

/-- A queue pair that waits for an RNR timer. -/
def Qp.rnrWait (x : Qp) (due : Nat) : Qp :=
  { x with rnrLeft := if qrRnrRetry x.record = 7 then 7 else x.rnrLeft - 1, rnrAt := some due }

theorem State.sliceOn_resend (psn : BitVec 24) (sl : Nat) : (s.resend k psn).sliceOn sl = s.sliceOn sl := by
  simp only [State.resend]
  exact (State.sendPackets_sameHost (State.setQpk_sameHost (State.count_sameHost s.sameHost_refl _ _ _) k _) k _ _).sliceOn sl

theorem State.qpk_with_out (l : List Output) (j : Nat) : ({ s with out := l } : State).qpk j = s.qpk j :=
  State.qp_of_halves rfl rfl _ _

end

end Sys2Proof.Machine
end

section
namespace Sys2Proof.Machine
open Sys2Proof

/-- Settles O39, a command at a time. That an entry's packets all leave as it starts and the times of the RNR timer's codes are the
model's choice (log 33). -/
theorem rdmaRequester : Obligations.RdmaRequester := by
  unfold Obligations.RdmaRequester
  refine ⟨fun s k n op e bs c hc hnext hop hbad hrc hslot hdepth hn hh => ?sends,
    fun s k op v e c hc hnext hop hbad hin hlen hslot htag => ?reads,
    fun s k op e bs c hc hnext hop hbad hud hslot => ?datagrams,
    fun s h k r o hr ho => ?responses,
    fun s k o rest hst ho hrnr hon => ?timeout,
    fun s k a ha => ?rnrExpiry⟩
  case sends =>
    obtain ⟨data, ht, hdata⟩ : ∃ data, exec c s = .next (s.rdmaStart k op data) ∧ (¬ 0x14 ≤ op → data = some bs) := by
      simp only [List.mem_cons, Prod.mk.injEq, List.not_mem_nil, or_false] at hc
      rcases hc with ⟨rfl, rfl⟩ | ⟨rfl, rfl⟩ | ⟨rfl, rfl⟩ | ⟨rfl, rfl⟩ | ⟨rfl, rfl⟩ | ⟨rfl, rfl⟩ | ⟨rfl, rfl⟩
      all_goals exact ⟨_, rfl, by simp⟩
    generalize hds : (if 0x14 ≤ op then [] else if e.rdmaInline = true ∨ e.rdmaLen = 0 then e.rdmaInlineData false
      else fit e.rdmaLen bs) = ds
    have hstart : s.rdmaStart k op data = ((s.startEntry (sqOf k) e).rdmaTransmit k e ds).useQp k := by
      refine State.rdmaStart_transmits hnext hop hbad hslot hdepth (fun hr => ?_) (fun hr hi => ?_)
        fun hr hi => ⟨bs, hdata hr, ?_⟩
      · rw [← hds, if_pos hr]
      · rw [← hds, if_neg hr, if_pos hi, hrc]
      · rw [← hds, if_neg hr, if_neg hi]
    obtain ⟨now, hsent⟩ := State.startEntry_transmit_rc e ds hrc hn hh
    have hx := congrArg (fun a : State => a.qpk k) hsent
    simp only [State.qpk_with_out, State.qpk_setQpk] at hx
    have hothers : ((s.startEntry (sqOf k) e).rdmaTransmit k e ds).otherQps s k := by
      rw [hsent]
      exact (State.otherQps_of_qp (State.qp_of_halves rfl rfl) k).trans
        ((State.setQpk_otherQps _ k _).trans (s.startEntry_sqOf_otherQps k e))
    refine ⟨_, ds, ht.trans (congrArg Host.Outcome.next hstart), rfl, ?_, ?_, ?_, ?_, ?_, ?_,
      (State.useQp_otherQps _ k).trans hothers⟩
    · rw [State.useQp_out, hsent, hop]
    · rw [State.qpk_useQp, hx]
      exact Wq.mem_started_begun _ _
    · rw [State.qpk_useQp, hx]
      exact Wq.index_ne_of_mem_fetched_begun _ _
    · rw [State.qpk_useQp, hx]
      refine ⟨_, rfl, rfl, rfl, rfl, ?_⟩
      rw [← hop]
      rfl
    · rw [State.qpk_useQp, hx, ← hop]
      rfl
    · rw [State.cq_useQp, hsent]
      exact (congrArg Cq.reserved (State.cq_setQpk _ k _ _)).trans (s.reserved_startEntry k e)
  case reads =>
    have hlt : op < 0x14 ∧ exec c s = .next (s.rdmaStart k op none) := by
      simp only [List.mem_cons, Prod.mk.injEq, List.not_mem_nil, or_false] at hc
      rcases hc with ⟨rfl, rfl⟩ | ⟨rfl, rfl⟩ | ⟨rfl, rfl⟩ | ⟨rfl, rfl⟩
      all_goals exact ⟨by decide, rfl⟩
    obtain ⟨hlt, ht⟩ := hlt
    have hfree := ((s.startEntry_sqOf_sameHost k e).freeTag (s.qpk k).sq.fn).trans htag
    have hstart := State.rdmaStart_reads hnext hop hbad hslot hlt hin hlen htag
    simp only [State.issueRead, hfree, Option.getD_some] at hstart
    refine ⟨_, ht.trans (congrArg Host.Outcome.next hstart), ?_, ?_, ?_, ?_⟩
    · rw [State.qpk_of_qp (State.qp_setPort _ _ _), State.qpk_startEntry_sqOf]
      exact Wq.mem_started_begun _ _
    · rw [State.qpk_of_qp (State.qp_setPort _ _ _), State.qpk_startEntry_sqOf]
    · rw [State.setPort_out, State.startEntry_sqOf_out]
    · rw [State.port_setPort_self]
      exact ⟨_, (mfind_mput _ _ _ _).trans (if_pos rfl), rfl, rfl, rfl⟩
  case datagrams =>
    obtain ⟨hlt, ht⟩ : op < 0x14 ∧ exec c s = .next (s.rdmaStart k op (some bs)) := by
      simp only [List.mem_cons, Prod.mk.injEq, List.not_mem_nil, or_false] at hc
      rcases hc with ⟨rfl, rfl⟩ | ⟨rfl, rfl⟩
      all_goals exact ⟨by decide, rfl⟩
    have hnr : ¬ 0x14 ≤ op := Nat.not_le.mpr hlt
    obtain ⟨ds, hstart⟩ : ∃ ds, s.rdmaStart k op (some bs) = ((s.startEntry (sqOf k) e).rdmaTransmit k e ds).useQp k := by
      refine ⟨if e.rdmaInline = true ∨ e.rdmaLen = 0 then e.rdmaInlineData (qrUd (s.qpk k).record) else fit e.rdmaLen bs,
        State.rdmaStart_transmits hnext hop (hud ▸ hbad) hslot (fun hr => absurd hr hnr) (fun hr => absurd hr hnr)
          (fun _ hi => if_pos hi) fun _ hi => ⟨bs, rfl, if_neg hi⟩⟩
    rw [hstart] at ht
    exact ⟨_, ht, State.datagram_spec e ds hud (State.sliceOn_of_sqNext hnext)⟩
  case responses =>
    obtain ⟨rfl, hst, hon, ht⟩ := exec_roceResponse hr (by simp [ho])
    refine ⟨fun hends => ?ends, fun ha hop hd hn hu => ?part, fun hpsn h0 hn => ⟨fun ha => ?sequence, fun c ha => ?rnr, fun st ha => ?nak⟩⟩
    case ends =>
      obtain ⟨a, data, hsame, hq, hresp, hread, hatomic⟩ := State.response_ends ho hends
      obtain ⟨hsettle, hout, hst', hun, hre, hrnr, hdone, hoth, hcpl, hsent⟩ := State.ackFirst_spec hsame hq hst hon ho data
      rw [hresp, hsettle] at ht
      exact ⟨_, ht, hout, hst', hun, hre, hrnr, hdone, hoth, hcpl, fun d hd => hsent.mem (hread d hd),
        fun v hv => hsent.mem (hatomic v hv)⟩
    case part =>
      have hresp : s.response k r.psn r.answer = s.setQpk k ((s.qpk k).ackedPart r.psn (s.time (qpHalf k))) := by
        rw [ha]
        exact State.acked_part ho hop hd hn hu
      rw [hresp, State.settleQueue_of_sliceOn] at ht
      · refine ⟨_, ht, ?_, ?_, ?_, ?_, s.setQpk_otherQps k _, State.withQpsOf_setQpk _ _ _⟩
        all_goals rw [State.qpk_setQpk]
        · exact ho
        · rfl
        · rfl
        · rfl
      · rw [State.queue_sqOf, State.qpk_setQpk]
        exact ((State.setQpk_sameHost s.sameHost_refl k _).sliceOn _).trans hon
    case sequence =>
      have hresp : s.response k r.psn r.answer = s.resend k o.psn := by
        rw [ha, hpsn]
        exact congrArg (fun a : State => a.resend k o.psn) (State.acked_pred ho h0 hn)
      have hx := State.qpk_resend (s := s) (k := k) (psn := o.psn)
      rw [hresp, State.settleQueue_of_sliceOn] at ht
      · refine ⟨_, ht, ?_, ?_, ?_, ?_, State.resend_otherQps⟩
        all_goals rw [hx]
        rw [ho, List.map_singleton]
      · rw [State.queue_sqOf, hx, State.sliceOn_resend, hon]
    case rnr =>
      obtain ⟨hsettle, hst', -, -, -, hdone⟩ := State.failEntry_spec s.sameHost_refl rfl hst hon o.entry stRetryExceeded
      refine ⟨_, ht, fun hleft => ?_, fun hleft => ?_⟩
      · have hresp : s.response k r.psn r.answer = s.failEntry k o.entry stRetryExceeded := by
          rw [ha, hpsn]
          simp only [State.response, State.gotRnr, State.acked_pred ho h0 hn, hleft, if_true, State.retryOut, ho]
        rw [hresp, hsettle]
        exact ⟨hst', hdone⟩
      · have hresp : s.response k r.psn r.answer = s.setQpk k ((s.qpk k).rnrWait (s.time (qpHalf k) + rnrTime c)) := by
          rw [ha, hpsn]
          simp only [State.response, State.gotRnr, State.acked_pred ho h0 hn, if_neg hleft]
          rfl
        rw [hresp, State.settleQueue_of_sliceOn]
        · rw [State.qpk_setQpk]
          exact ⟨rfl, ho, rfl⟩
        · rw [State.queue_sqOf, State.qpk_setQpk]
          exact ((State.setQpk_sameHost s.sameHost_refl k _).sliceOn _).trans hon
    case nak =>
      obtain ⟨hsettle, hst', hout, hbit, -, hdone⟩ := State.failEntry_spec s.sameHost_refl rfl hst hon o.entry st
      have hresp : s.response k r.psn r.answer = s.failEntry k o.entry st := by
        have hfail : s.nakFail k r.psn st = s.failEntry k o.entry st := by
          rw [State.nakFail, hpsn, State.acked_pred ho h0 hn]
          simp only [ho]
        simp only [List.mem_cons, Prod.mk.injEq, List.not_mem_nil, or_false] at ha
        rcases ha with ⟨ha, rfl⟩ | ⟨ha, rfl⟩ | ⟨ha, rfl⟩
        all_goals exact ha ▸ hfail
      rw [hresp, hsettle] at ht
      exact ⟨_, ht, hst', hout, hbit, hdone⟩
  case timeout =>
    have hguard : ¬ ((s.qpk k).st ≠ .rts ∨ (s.qpk k).outst = [] ∨ (s.qpk k).rnrAt ≠ none) := by simp [hst, ho, hrnr]
    generalize hb : (s.until (qpHalf k) ((s.qpk k).ackFrom + 4096 * 2 ^ qrTimeout (s.qpk k).record)).countRdma (qpHalf k) 0x0B 1 = b
    have hq : ∀ h i, b.qp h i = s.qp h i := fun h i => by rw [← hb, State.qp_countRdma, State.qp_until]
    have hx : b.qpk k = s.qpk k := State.qpk_of_qp hq k
    have hsame : b.sameHost s := by
      rw [← hb]
      exact State.count_sameHost (State.until_sameHost s.sameHost_refl _ _) _ _ _
    have htime : (s.qpk k).ackFrom + 4096 * 2 ^ qrTimeout (s.qpk k).record ≤ b.time (qpHalf k) := by
      rw [← hb, State.time_countRdma]
      exact State.le_time_until _ _ _
    have hcnt : b.cnt (0x6600 + (qpHalf k).num) 0x0B = s.cnt (0x6600 + (qpHalf k).num) 0x0B + 1 := by
      rw [← hb, State.countRdma, State.cnt_countH_self, State.until_cnt]
    by_cases hre : (s.qpk k).retries = 0
    · obtain ⟨hsettle, hst', -, -, hbeside, hdone⟩ := State.failEntry_spec hsame hx hst hon o.entry stRetryExceeded
      have hretry : b.retryOut k = b.failEntry k o.entry stRetryExceeded := by simp only [State.retryOut, hx, ho]
      have ht : s.ackTimeout k = b.failEntry k o.entry stRetryExceeded := by
        simp only [State.ackTimeout, if_neg hguard, hb, if_pos hre, hretry, hsettle]
      refine ⟨_, congrArg Host.Outcome.next ht, ?_, ?_, fun h => absurd hre h, fun _ => ⟨hst', hdone⟩⟩
      · rw [State.time_of_besideQueues hbeside]
        exact htime
      · rw [State.cnt_of_besideQueues hbeside, hcnt]
    · have ht : s.ackTimeout k = (b.setQpk k { s.qpk k with retries := (s.qpk k).retries - 1 }).resend k (s.qpk k).unacked := by
        simp only [State.ackTimeout, if_neg hguard, hb, if_neg hre, hx]
      refine ⟨_, congrArg Host.Outcome.next ht, ?_, ?_, fun _ => ⟨?_, ?_, ?_, ?_, ?_⟩, fun h => absurd h hre⟩
      · rw [State.time_resend, State.time_setQpk]
        exact htime
      · rw [State.cnt_resend (.inr (by decide)), State.cnt_setQpk, hcnt]
      · rw [State.qpk_resend, State.qpk_setQpk]
      · rw [State.qpk_resend, State.qpk_setQpk, hst]
      · rw [State.qpk_resend, State.qpk_setQpk]
      · rw [State.qpk_resend, State.qpk_setQpk]
      · exact State.resend_otherQps.trans ((State.setQpk_otherQps b k _).trans (State.otherQps_of_qp hq k))
  case rnrExpiry =>
    have hq := State.qp_until s (qpHalf k) a
    have ht : s.rnrExpiry k = ((s.until (qpHalf k) a).setQpk k { s.qpk k with rnrAt := none }).resend k (s.qpk k).unacked := by
      simp only [State.rnrExpiry, ha]
      rw [State.qpk_of_qp hq]
    refine ⟨_, congrArg Host.Outcome.next ht, ?_, ?_, ?_, ?_, ?_,
      State.resend_otherQps.trans ((State.setQpk_otherQps _ k _).trans (State.otherQps_of_qp hq k))⟩
    · rw [State.time_resend, State.time_setQpk]
      exact State.le_time_until _ _ _
    all_goals rw [State.qpk_resend, State.qpk_setQpk]

end Sys2Proof.Machine
end

section
/-! SUPPORT. Packets that a responder takes, in order, ahead and again (11 R276, R280, R290 to R292, R295, R298 to R302). -/

namespace Sys2Proof.Machine
open Sys2Proof

/-! ### Steps that change one queue pair -/

/-- But for one queue pair, the count of uses of its half and what was sent, the device is as in another state. -/
structure State.qpOnly (t s : State) (k : Nat) : Prop where
  beside : ({ t.withRdmaOf s (qpHalf k) with out := s.out } : State) = s
  wins : (t.half (qpHalf k)).rdma.wins = (s.half (qpHalf k)).rdma.wins
  others : t.otherQps s k

theorem State.qpOnly_refl (s : State) (k : Nat) : s.qpOnly s k :=
  ⟨by rw [State.withRdmaOf_self], rfl, s.otherQps_refl k⟩

section
variable {a s : State} {k : Nat} (h : a.qpOnly s k)
include h

theorem State.qpOnly.setQpk (x : Qp) : (a.setQpk k x).qpOnly s k := by
  refine ⟨?_, ?_, (a.setQpk_otherQps k x).trans h.others⟩
  · rw [State.withRdmaOf_setQpk]
    exact h.beside
  · rw [State.setQpk, State.setQp, State.onHalf_half]
    exact h.wins

theorem State.qpOnly.useQp : (a.useQp k).qpOnly s k := by
  refine ⟨?_, ?_, (a.useQp_otherQps k).trans h.others⟩
  · rw [State.withRdmaOf_useQp]
    exact h.beside
  · rw [State.useQp, State.setQpk, State.setQp, State.onHalf_half, State.onHalf_half]
    exact h.wins

theorem State.qpOnly.emit (o : Output) : (a.emit o).qpOnly s k := by
  refine ⟨?_, ?_, (State.otherQps_of_qp (a.qp_emit o) k).trans h.others⟩
  · refine Eq.trans ?_ h.beside
    simp only [State.withRdmaOf]
    cases qpHalf k <;> rfl
  · rw [State.emit_half]
    exact h.wins

theorem State.qpOnly.mgmt : a.mgmt = s.mgmt := by simpa [State.withRdmaOf] using congrArg State.mgmt h.beside
theorem State.qpOnly.ports : a.ports = s.ports := by simpa [State.withRdmaOf] using congrArg State.ports h.beside
theorem State.qpOnly.fns : a.fns = s.fns := by simpa [State.withRdmaOf] using congrArg State.fns h.beside
theorem State.qpOnly.slices : a.slices = s.slices := by simpa [State.withRdmaOf] using congrArg State.slices h.beside
theorem State.qpOnly.cqs : a.cqs = s.cqs := by simpa [State.withRdmaOf] using congrArg State.cqs h.beside
theorem State.qpOnly.stat : a.stat = s.stat := by simpa [State.withRdmaOf] using congrArg State.stat h.beside

theorem State.qpOnly.cnt (i c : Nat) : a.cnt i c = s.cnt i c := by rw [State.cnt, h.stat, State.cnt]
theorem State.qpOnly.cq (c : Nat) : a.cq c = s.cq c := by rw [State.cq, h.cqs, State.cq]

theorem State.qpOnly.sameHost (hout : s.out <:+ a.out) : a.sameHost s :=
  ⟨h.mgmt, h.ports, h.fns, h.slices, fun c => by rw [h.cq], fun c => by rw [h.cq], hout⟩

/-- The check point of a window sees the device as before (R295). -/
theorem State.qpOnly.windowOk (hsl : (a.qpk k).slice = (s.qpk k).slice) (key : BitVec 32) (va len right : Nat) :
    a.windowOk k key va len right = s.windowOk k key va len right := by
  have hh : ∀ e, a.holder (qpHalf k) 3 e = s.holder (qpHalf k) 3 e := fun e => by rw [State.holder, h.slices, State.holder]
  simp only [State.windowOk, h.wins, hh, hsl]

/-- The next receive entry is found as before (R109, R301). -/
theorem State.qpOnly.rqNext (hout : a.out = s.out) (hrq : (a.qpk k).rq = (s.qpk k).rq) : a.rqNext k = s.rqNext k := by
  have hs : a.sameHost s := h.sameHost (hout ▸ List.suffix_refl _)
  have hq : a.queue (rqOf k) = s.queue (rqOf k) := by rw [State.queue_rqOf, State.queue_rqOf, hrq]
  have hcq : a.queueCq (rqOf k) = s.queueCq (rqOf k) := hs.queueCq (by rw [hq]) (by rw [hq])
  have hslot : ∀ c, a.arrivalSlot c = s.arrivalSlot c := fun c => by rw [State.arrivalSlot, h.cq, State.arrivalSlot]
  simp only [State.rqNext, hq, hs.sliceOn, hs.mastering, hcq, hslot]

end

/-! ### The packets taken (R276, R280, R291, R292) -/

section
variable {s : State} {h : Half} {k : Nat} {p : RocePkt}

/-- A packet on the transport's queue pairs, and what becomes of it. -/
theorem State.roce_eq (hf : s.forwards h = true) (hp : p.roce = true) (hk : k < 1048576) (hd : p.destQp = k + 0x100000) :
    s.roce h p = if qpHalf k ≠ h ∨ s.qpHolder k ≠ p.slice then s.countRdma h 1 1
      else if p.icrcOk = false then s.countRdma h 3 1
      else if (s.qpk k).st = .reset ∨ (s.qpk k).st = .init ∨ (s.qpk k).st = .error then s.countRdma h 2 1
      else if s.mastering (s.qpk k).rq.fn = false then s
      else if (s.qpk k).cached = false then s.park k p
      else s.respond k p := by
  have hkey : p.destQp - 0x100000 = k := by omega
  simp only [State.roce, hkey]
  refine if_neg ?_
  simp only [hf, hp, Bool.true_eq_false, false_or]
  omega

/-- A count and nothing else. -/
theorem State.countRdma_spec (sub : Nat) :
    (s.countRdma h sub 1).cnt (0x6600 + h.num) sub = s.cnt (0x6600 + h.num) sub + 1
      ∧ ({ s.countRdma h sub 1 with stat := s.stat } : State) = s :=
  ⟨State.cnt_countH_self _ _ _ _ _, rfl⟩

theorem State.roce_taken (hr : s.takesRoce h k p = true) :
    qpHalf k = h ∧ ((s.qpk k).st = .rtr ∨ (s.qpk k).st = .rts)
      ∧ s.roce h p = if (s.qpk k).cached = false then s.park k p else s.respond k p := by
  simp only [State.takesRoce, Bool.and_eq_true, Bool.or_eq_true, beq_iff_eq, Nat.blt_eq] at hr
  obtain ⟨⟨⟨⟨⟨⟨⟨⟨hf, hp⟩, hk⟩, hd⟩, hh⟩, hsl⟩, hic⟩, hst⟩, hm⟩ := hr
  refine ⟨hh, hst, ?_⟩
  rw [State.roce_eq hf hp hk hd, if_neg (by simp [hh, hsl]), if_neg (by simp [hic]), if_neg (by rcases hst with h | h <;> simp [h]),
    if_neg (by simp [hm])]

/-- A packet parked, with the fetch of its context (R292). -/
theorem State.park_spec (hst : (s.qpk k).st ≠ .reset) (hc : (s.qpk k).cached = false)
    (hroom : s.parkedBytes (qpHalf k) + p.payload.length ≤ 2097152) :
    ((s.park k p).qpk k).parked = (s.qpk k).parked ++ [p] ∧ ((s.park k p).qpk k).fetching = true
      ∧ ((s.park k p).qpk k).ePsn = (s.qpk k).ePsn ∧ (s.park k p).otherQps s k ∧ (s.park k p).out = s.out := by
  have hpark : s.park k p = (s.setQpk k { s.qpk k with
      parked := (s.qpk k).parked ++ [p]
      parkedAt := if (s.qpk k).parked = [] then s.time (qpHalf k) else (s.qpk k).parkedAt }).fetchQp k :=
    if_neg (Nat.not_lt.mpr hroom)
  rw [hpark]
  refine ⟨?_, ?_, ?_, (State.fetchQp_otherQps _ k).trans (s.setQpk_otherQps k _), ?_⟩
  · rw [State.qpk_fetchQp _ _ (by simpa using hst), State.qpk_setQpk]
  · rw [State.qpk_fetchQp _ _ (by simpa using hst), State.qpk_setQpk]
    simp [hc]
  · rw [State.qpk_fetchQp _ _ (by simpa using hst), State.qpk_setQpk]
  · have hout : ∀ a : State, (a.fetchQp k).out = a.out := fun a => by
      simp only [State.fetchQp]
      split
      · rfl
      · exact State.setQp_out _ _ _ _
    rw [hout]
    exact State.setQp_out _ _ _ _

/-- A packet without CE for a queue pair on RC whose context is present. -/
theorem State.respond_rc (hst : (s.qpk k).st = .rtr ∨ (s.qpk k).st = .rts) (hud : qrUd (s.qpk k).record = false) (hce : p.ce = false) :
    s.respond k p = (s.useQp k).respRc k p := by
  have hcnp : (s.useQp k).sendCnp k p = s.useQp k := if_neg (by simp [hce])
  simp only [State.respond, hud, hcnp, Bool.false_eq_true, if_false]
  exact if_neg (by rcases hst with h | h <;> simp [h])

end

/-! ### Packets in order (R298, R300) -/

/-- A queue pair as it takes the first packet of a message. -/
def Qp.taking (x : Qp) (use : Nat) : Qp := { x with lastUse := use, nakSent := false, dropMsg := false }

/-- The device as a queue pair takes the first packet of a message. -/
def State.taking (s : State) (k : Nat) : State :=
  (((s.useQp k).setQpk k { (s.useQp k).qpk k with nakSent := false }).setQpk k
    { (s.useQp k).qpk k with nakSent := false, dropMsg := false })

section
variable {s : State} {k : Nat} {p : RocePkt}

theorem State.qpk_taking (s : State) (k : Nat) : ∃ use, (s.taking k).qpk k = (s.qpk k).taking use := by
  refine ⟨(s.half (qpHalf k)).rdma.uses + 1, ?_⟩
  rw [State.taking, State.qpk_setQpk, State.qpk_useQp, Qp.taking]

theorem State.taking_qpOnly (s : State) (k : Nat) : (s.taking k).qpOnly s k :=
  ((s.qpOnly_refl k).useQp.setQpk _).setQpk _

theorem State.taking_out (s : State) (k : Nat) : (s.taking k).out = s.out := by
  rw [State.taking, State.setQpk, State.setQp_out, State.setQpk, State.setQp_out, State.useQp_out]

theorem State.respRc_first (hpsn : p.psn = (s.qpk k).ePsn) (hfirst : p.first = true) :
    (s.useQp k).respRc k p = (s.taking k).respOp k p := by
  simp only [State.respRc, State.qpk_useQp, hpsn, if_true, hfirst, not_true_eq_false, and_false, if_false, State.qpk_setQpk]
  rw [State.taking, State.qpk_useQp]

end

end Sys2Proof.Machine
end

section
/-! SUPPORT. What a responder executes and answers (11 R290, R295, R298 to R302). -/

namespace Sys2Proof.Machine
open Sys2Proof

section
variable {s : State} {k n : Nat} {p : RocePkt}

/-! ### Answers (R276, R300) -/

section
variable (hn : s.slicePort (qpHalf k) (s.qpk k).slice (qrTxMeta (s.qpk k).record) = some n) (hh : ethHalf n = qpHalf k)
include hn hh

/-- An answer goes out where steering sends the queue pair's frames to a port of its half. -/
theorem State.answerRoce_eq {a : State} (ha : a.sameHost s) (hs : (a.qpk k).slice = (s.qpk k).slice)
    (hr : (a.qpk k).record = (s.qpk k).record) (psn : BitVec 24) (ans : RoceAnswer) :
    a.answerRoce k psn ans = a.emit (.roceTx (qpHalf k) (qrDestQpn (s.qpk k).record) psn ans) := by
  simp only [State.answerRoce, hs, hr]
  exact State.roceOut_eq ((ha.slicePort _ _ _).trans hn) hh _

/-- A queue pair that changes and answers. -/
theorem State.answered_spec {b : State} (hb : b.qpOnly s k) (hout : s.out <:+ b.out) {y : Qp} (hs : y.slice = (s.qpk k).slice)
    (hr : y.record = (s.qpk k).record) (psn : BitVec 24) (ans : RoceAnswer) :
    ((b.setQpk k y).answerRoce k psn ans).out = .roceTx (qpHalf k) (qrDestQpn (s.qpk k).record) psn ans :: b.out
      ∧ ((b.setQpk k y).answerRoce k psn ans).qpk k = y ∧ ((b.setQpk k y).answerRoce k psn ans).qpOnly s k := by
  have hset : (b.setQpk k y).out = b.out := State.setQp_out _ _ _ _
  rw [State.answerRoce_eq hn hh ((hb.setQpk y).sameHost (hset ▸ hout)) (by rw [State.qpk_setQpk, hs]) (by rw [State.qpk_setQpk, hr])]
  refine ⟨congrArg _ hset, ?_, (hb.setQpk y).emit _⟩
  rw [State.qpk_of_qp (State.qp_emit _ _), State.qpk_setQpk]

/-- A queue pair that answers after an event is counted. -/
theorem State.countedAnswer_spec {b : State} (hb : b.qpOnly s k) (hout : b.out = s.out) {y : Qp} (hs : y.slice = (s.qpk k).slice)
    (hr : y.record = (s.qpk k).record) (sub : Nat) (psn : BitVec 24) (ans : RoceAnswer) :
    ∃ t, ((b.countRdma (qpHalf k) sub 1).setQpk k y).answerRoce k psn ans = t
      ∧ t.out = .roceTx (qpHalf k) (qrDestQpn (s.qpk k).record) psn ans :: s.out ∧ t.qpk k = y
      ∧ t.cnt (0x6600 + (qpHalf k).num) sub = s.cnt (0x6600 + (qpHalf k).num) sub + 1 ∧ t.otherQps s k := by
  have hset : ((b.countRdma (qpHalf k) sub 1).setQpk k y).out = s.out := (State.setQp_out _ _ _ _).trans hout
  have hsame : ((b.countRdma (qpHalf k) sub 1).setQpk k y).sameHost s :=
    State.setQpk_sameHost (State.count_sameHost (hb.sameHost (hout ▸ List.suffix_refl _)) _ _ _) k y
  refine ⟨_, State.answerRoce_eq hn hh hsame (by rw [State.qpk_setQpk, hs]) (by rw [State.qpk_setQpk, hr]) psn ans,
    congrArg _ hset, ?_, ?_, ?_⟩
  · rw [State.qpk_of_qp (State.qp_emit _ _), State.qpk_setQpk]
  · rw [State.emit_cnt, State.cnt_setQpk, State.countRdma, State.cnt_countH_self, hb.cnt]
  · exact (State.otherQps_of_qp (State.qp_emit _ _) k).trans ((State.setQpk_otherQps _ k y).trans
      ((State.otherQps_of_qp (State.qp_countRdma b _ _ _) k).trans hb.others))

end

/-! ### Operations (R295, R299) -/

section
variable {b : State}

theorem State.respRead_ok (hen : qrReadEn (b.qpk k).record = true) (hwin : b.windowOk k p.rkey p.va.toNat p.total 0 = true) :
    b.respRead k p = (b.setQpk k { b.qpk k with
        ePsn := psnAdd p.psn (packets p.total (qrMtu (b.qpk k).record)), msn := (b.qpk k).msn + 1, unackedPkts := 0 }).answerRoce k
      p.psn (.readData (fit p.total p.payload) true) := by
  simp only [State.respRead, hen, hwin, Bool.true_eq_false, if_false]

theorem State.respRead_refused (hen : qrReadEn (b.qpk k).record = true) (hwin : b.windowOk k p.rkey p.va.toNat p.total 0 = false) :
    b.respRead k p = b.winFail k p (packets p.total (qrMtu (b.qpk k).record)) := by
  simp only [State.respRead, hen, hwin, Bool.true_eq_false, if_false, if_true]

theorem State.respAtomic_ok {old : BitVec 64} (hen : qrAtomicEn (b.qpk k).record = true)
    (hwin : b.windowOk k p.rkey p.va.toNat 8 2 = true) (hold : p.atomicResult = some old) :
    b.respAtomic k p = (b.setQpk k { b.qpk k with
        ePsn := p.psn + 1, msn := (b.qpk k).msn + 1, unackedPkts := 0
        atomics := ((p.psn, old) :: (b.qpk k).atomics).take 32 }).answerRoce k p.psn (.atomicData old) := by
  simp only [State.respAtomic, hen, hwin, hold, Bool.true_eq_false, if_false]

theorem State.respWrite_refused (hfirst : p.first = true) (hen : qrWriteEn (b.qpk k).record = true)
    (hwin : b.windowOk k p.rkey p.va.toNat p.total 1 = false) : b.respWrite k p = b.winFail k p 1 := by
  simp only [State.respWrite, Qp.writeTarget, hfirst, hen, hwin, Bool.true_eq_false, if_false, if_true]

/-- A WRITE of one packet that asks for an ACK is placed and acknowledged. -/
theorem State.respWrite_ok (hfirst : p.first = true) (hlast : p.last = true) (himm : p.imm = none) (hack : p.ackReq = true)
    (hen : qrWriteEn (b.qpk k).record = true) (hwin : b.windowOk k p.rkey p.va.toNat p.total 1 = true) :
    ∃ b' : State, b'.qpk k = { b.qpk k with writeVa := none } ∧ b'.out = .dma (rqOf k) p.payload :: b.out
      ∧ (∀ s : State, b.qpOnly s k → b'.qpOnly s k)
      ∧ b.respWrite k p = (b'.setQpk k { b.qpk k with
          writeVa := none, ePsn := p.psn + 1, unackedPkts := 0, msn := (b.qpk k).msn + 1 }).answerRoce k p.psn .ack := by
  refine ⟨(b.emit (.dma (rqOf k) p.payload)).setQpk k { b.qpk k with writeVa := none }, State.qpk_setQpk _ _ _,
    State.setQp_out _ _ _ _, fun s hb => (hb.emit _).setQpk _, ?_⟩
  simp only [State.respWrite, Qp.writeTarget, hfirst, hen, hwin, himm, Bool.true_eq_false, if_false, if_true,
    Option.isSome_none, Bool.false_eq_true, and_false, State.placeWrite, hlast, State.qpk_of_qp (State.qp_emit _ _), State.inOrder, State.qpk_setQpk, hack,
    Bool.true_or]

/-- The device once a packet is counted and moves the expected PSN. -/
theorem State.inOrder_spec (a : State) (k : Nat) (p : RocePkt) :
    (∃ u, (a.inOrder k p).qpk k = { a.qpk k with
        ePsn := p.psn + 1, unackedPkts := u, msn := if p.last then (a.qpk k).msn + 1 else (a.qpk k).msn })
      ∧ (a.inOrder k p).otherQps a k ∧ (a.inOrder k p).sameHost a := by
  simp only [State.inOrder]
  split
  · refine ⟨⟨0, ?_⟩, ?_, State.roceOut_sameHost (State.setQpk_sameHost a.sameHost_refl k _) k _ _ _⟩
    · rw [State.qpk_of_qp (State.qp_answerRoce _ _ _ _), State.qpk_setQpk]
    · exact (State.otherQps_of_qp (State.qp_answerRoce _ _ _ _) k).trans (a.setQpk_otherQps k _)
  · exact ⟨⟨_, State.qpk_setQpk _ _ _⟩, a.setQpk_otherQps k _, State.setQpk_sameHost a.sameHost_refl k _⟩

end

/-! ### SENDs (R290) -/

theorem State.sliceOn_of_rqNext {e : Entry} (hnext : s.rqNext k = some e) : s.sliceOn (s.qpk k).rq.slice = true := by
  simp only [State.rqNext, State.queue_rqOf] at hnext
  split at hnext
  · next hc => exact hc.1
  · cases hnext

/-- The device with a message of one packet placed in an entry and the entry ended. -/
def State.received (b : State) (k : Nat) (p : RocePkt) (e : Entry) : State :=
  (((b.startEntry (rqOf k) e).emit (.dma (rqOf k) p.payload)).setQpk k
    { b.qpk k with rq := (b.qpk k).rq.begun e, recv := none }).finish (rqOf k) e stOk p.payload.length
      (respFlags p.imm.isSome false false false) (immNat p) true

theorem State.respSend_last {b : State} {e : Entry} (hfirst : p.first = true) (hlast : p.last = true) (hnext : b.rqNext k = some e)
    (hroom : p.payload.length ≤ e.recvRoom) :
    b.respSend k p = ((b.received k p e).inOrder k p).settleQueue (rqOf k) := by
  have hlen : ¬ e.recvRoom < p.payload.length := Nat.not_lt.mpr hroom
  simp only [State.respSend, hfirst, if_true, hnext, State.placeSend, Nat.zero_add, if_neg hlen, hlast, State.qpk_of_qp (State.qp_emit _ _),
    State.qpk_startEntry_rqOf]
  rfl

theorem State.received_spec {b : State} {e : Entry} (hb : b.sameHost s) (hoth : b.otherQps s k) (hrq : (b.qpk k).rq = (s.qpk k).rq) :
    ((b.received k p e).qpk k).lasting = ({ b.qpk k with rq := ((b.qpk k).rq.begun e).ended e, recv := none } : Qp).lasting
      ∧ (∀ sl, (b.received k p e).sliceOn sl = s.sliceOn sl)
      ∧ .dma (rqOf k) p.payload ∈ (b.received k p e).out
      ∧ ((s.qpk k).rq.abort = none → (b.received k p e).otherQps s k)
      ∧ (s.cqTakes (s.queueCq (rqOf k)) = true → (b.received k p e).completed s (s.queueCq (rqOf k)) e stOk) := by
  unfold State.received
  generalize hc : ((b.startEntry (rqOf k) e).emit (.dma (rqOf k) p.payload)).setQpk k
    { b.qpk k with rq := (b.qpk k).rq.begun e, recv := none } = c
  have hx : c.qpk k = { b.qpk k with rq := (b.qpk k).rq.begun e, recv := none } := by rw [← hc, State.qpk_setQpk]
  have hcrq : c.queue (rqOf k) = (s.qpk k).rq.begun e := by rw [State.queue_rqOf, hx, hrq]
  have hsame : c.sameHost s := by
    rw [← hc]
    exact State.setQpk_sameHost (State.emit_sameHost ((b.startEntry_rqOf_sameHost k e).trans hb) _) k _
  have hothc : c.otherQps s k := by
    rw [← hc]
    exact (State.setQpk_otherQps _ k _).trans ((State.otherQps_of_qp (State.qp_emit _ _) k).trans
      ((b.startEntry_rqOf_otherQps k e).trans hoth))
  have hdma : .dma (rqOf k) p.payload ∈ c.out := by
    rw [← hc, State.setQpk, State.setQp_out]
    exact List.mem_cons_self
  refine ⟨?_, fun sl => ?_, ?_, fun hab => ?_, fun htakes => ?_⟩
  · rw [State.lasting_finish_rqOf, hx]
  · rw [(c.finish_sameContexts _ _ _ _ _ _).sliceOn, hsame.sliceOn]
  · exact (State.finish_keeps (State.keeps_refl c) (rqOf k) e stOk _ _ _ true).out.mem hdma
  · have hf := fun bytes flags data => c.finish_otherQps (rqOf k) e stOk bytes flags data (qpBase_le_rqOf k) (by rw [hcrq]; exact hab)
    simp only [qQp_rqOf] at hf
    exact (hf _ _ _).trans hothc
  · exact hsame.completes (by rw [hcrq, State.queue_rqOf]; rfl) (by rw [hcrq, State.queue_rqOf]; rfl) htakes (List.suffix_refl _)

end

end Sys2Proof.Machine
end

section
/-! SUPPORT. Rate groups (11 R306), and what a responder queue pair executes, answers, drops and counts (11 R276, R280, R291, R292,
R295, R298 to R302). -/

namespace Sys2Proof.Machine
open Sys2Proof

/-! ### Rate groups (R306) -/

section
variable (g : Group) (gain beta : Rat) (full recover : Nat) (ai minRate : Rat)

theorem Group.cnps_windowEnd : (g.windowEnd gain beta full recover ai minRate).cnps = 0 := by
  simp only [Group.windowEnd]
  split
  · rfl
  · split <;> rfl

/-- A window with CNPs lowers the rate of its group. -/
theorem Group.windowEnd_congested (hc : 0 < g.cnps) :
    (g.windowEnd gain beta full recover ai minRate).calm = 0
      ∧ (g.windowEnd gain beta full recover ai minRate).ceiling = g.rate
      ∧ (g.windowEnd gain beta full recover ai minRate).level = g.level + (Min.min 1 ((g.cnps : Rat) / (full : Rat)) - g.level) * gain
      ∧ (g.windowEnd gain beta full recover ai minRate).rate
        = Max.max minRate (g.rate * (1 - (g.windowEnd gain beta full recover ai minRate).level * beta)) := by
  simp only [Group.windowEnd, if_pos hc, and_self]

/-- A window without CNPs lets the rate of its group recover toward its ceiling. -/
theorem Group.windowEnd_calm (hc : g.cnps = 0) :
    (g.windowEnd gain beta full recover ai minRate).calm = g.calm + 1
      ∧ (g.windowEnd gain beta full recover ai minRate).level = g.level * (1 - gain)
      ∧ ((g.windowEnd gain beta full recover ai minRate).calm ≤ recover →
          (g.windowEnd gain beta full recover ai minRate).ceiling = g.ceiling
            ∧ (g.windowEnd gain beta full recover ai minRate).rate = g.rate + (g.ceiling - g.rate) / 4) := by
  simp only [Group.windowEnd, hc, Nat.lt_irrefl, if_false]
  by_cases hr : g.calm + 1 ≤ recover
  · simp [hr]
  · simp [hr]

end

section
variable {s : State} {h : Half}

/-- A CNP for a queue pair is counted, and its group notes it. -/
theorem State.cnpReceive_spec {k : Nat} (hf : s.forwards h = true) (hk : k < 1048576) (hh : qpHalf k = h) :
    ∃ t, s.cnpReceive h (k + 0x100000) = t ∧ t.cnt (0x6600 + h.num) 0x0E = s.cnt (0x6600 + h.num) 0x0E + 1
      ∧ (t.half h).rdma.qps = (s.half h).rdma.qps
      ∧ ∀ g x, mfind (s.half h).rdma.groups g = some x →
          mfind (t.half h).rdma.groups g = some (if s.ccEn h = true ∧ (s.qpk k).st = .rts ∧ qrUd (s.qpk k).record = false
            ∧ g = qpGroup (s.qpk k).record then { x with cnps := x.cnps + 1 } else x) := by
  have hguard : ¬ (s.forwards h = false ∨ k + 0x100000 < 0x100000 ∨ 0x1FFFFF < k + 0x100000 ∨ qpHalf k ≠ h) := by
    simp only [hf, hh, Bool.true_eq_false, ne_eq, not_true_eq_false, or_false, false_or]
    omega
  have hcnt := State.cnt_countH_self s 0x6600 h 0x0E 1
  have hhalf : (s.countRdma h 0x0E 1).half h = s.half h := State.count_half _ _ _ _ _
  refine ⟨_, rfl, ?_⟩
  simp only [State.cnpReceive, Nat.add_sub_cancel, if_neg hguard]
  split
  · next hc =>
    obtain ⟨hcc, hst, hud⟩ := hc
    refine ⟨?_, ?_, fun g x hx => ?_⟩
    · rw [State.groupCnp, State.onHalf_cnt]
      exact hcnt
    · rw [State.groupCnp, State.onHalf_half, hhalf]
    · rw [State.groupCnp, State.onHalf_half, hhalf, mfind_mmap, hx]
      simp [hcc, hst, hud]
  · next hc =>
    refine ⟨hcnt, by rw [hhalf], fun g x hx => ?_⟩
    rw [hhalf, hx, if_neg fun ⟨hcc, hst, hud, _⟩ => hc ⟨hcc, hst, by simp [hud]⟩]

/-- The windows of a half end together, at the next multiple of their length. -/
theorem State.ccWindow_spec (hrun : s.running = true) (hcc : s.ccEn h = true) (hw : 0 < s.param h 0xA300 4 0 40) :
    (s.ccWindow h).time h = (s.time h / (s.param h 0xA300 4 0 40 * 1000) + 1) * (s.param h 0xA300 4 0 40 * 1000)
      ∧ ((s.ccWindow h).half h).rdma.qps = (s.half h).rdma.qps
      ∧ ∀ g x, mfind (s.half h).rdma.groups g = some x → mfind ((s.ccWindow h).half h).rdma.groups g
          = some (x.windowEnd ((s.param h 0xA300 3 0 16384 : Rat) / 65536) ((s.param h 0xA300 5 0 32768 : Rat) / 65536)
              (s.param h 0xA300 0x0C 0 4) (s.param h 0xA300 0x0D 0 3) (s.param h 0xA300 6 0 40 : Rat) (s.param h 0xA300 7 0 100 : Rat)) := by
  generalize hT : (s.time h / (s.param h 0xA300 4 0 40 * 1000) + 1) * (s.param h 0xA300 4 0 40 * 1000) = T
  have hle : s.time h ≤ T := by
    rw [← hT, Nat.mul_comm]
    exact (Nat.lt_mul_div_succ _ (by omega)).le
  have he : s.ccWindow h = (s.until h T).groupsEnd h := by
    simp only [State.ccWindow, hrun, hcc, and_self, if_true, hT]
  have hp := (State.until_sameHost s.sameHost_refl h T).param
  have hhalf : ((s.until h T).half h).rdma = (s.half h).rdma := by cases h <;> rfl
  rw [he]
  simp only [State.groupsEnd, hp]
  refine ⟨?_, ?_, fun g x hx => ?_⟩
  · rw [State.time, State.onHalf_half]
    exact (s.time_until h h T).trans (by omega)
  · rw [State.onHalf_half, hhalf]
  · rw [State.onHalf_half]
    simp only [hhalf, mfind_mmap, hx, Option.map_some]

end

end Sys2Proof.Machine
end

section
/-! SUPPORT. The packets that a responder queue pair takes, and the family's statement (11 R276, R280, R291, R292, R295, R298 to R302,
R306). -/

namespace Sys2Proof.Machine
open Sys2Proof

section
variable {s : State} {k n : Nat} {p : RocePkt}

/-- The frame that a queue pair's step leaves. -/
theorem State.qpOnly.frame {t : State} (h : t.qpOnly s k) :
    t.otherQps s k ∧ ({ t.withRdmaOf s (qpHalf k) with out := s.out } : State) = s := ⟨h.others, h.beside⟩

theorem exec_roceReceive_rc {h : Half} (hr : s.takesRoce h k p = true) (hc : (s.qpk k).cached = true)
    (hud : qrUd (s.qpk k).record = false) (hce : p.ce = false) :
    qpHalf k = h ∧ exec (.roceReceive h p) s = .next ((s.useQp k).respRc k p) := by
  obtain ⟨hh, hst, hroce⟩ := State.roce_taken hr
  refine ⟨hh, congrArg Host.Outcome.next (hroce.trans ?_)⟩
  rw [if_neg (by simp [hc]), State.respond_rc hst hud hce]

section
variable (hn : s.slicePort (qpHalf k) (s.qpk k).slice (qrTxMeta (s.qpk k).record) = some n) (hh : ethHalf n = qpHalf k)
include hn hh

/-- A queue pair that answers as it is after an event is counted. -/
theorem State.countRdma_answerRoce {b : State} (hb : b.qpOnly s k) (hout : b.out = s.out) (hs : (b.qpk k).slice = (s.qpk k).slice)
    (hr : (b.qpk k).record = (s.qpk k).record) (sub : Nat) (psn : BitVec 24) (ans : RoceAnswer) :
    ∃ t, (b.countRdma (qpHalf k) sub 1).answerRoce k psn ans = t ∧ t.qpk k = b.qpk k
      ∧ t.out = .roceTx (qpHalf k) (qrDestQpn (s.qpk k).record) psn ans :: s.out
      ∧ t.cnt (0x6600 + (qpHalf k).num) sub = s.cnt (0x6600 + (qpHalf k).num) sub + 1 ∧ t.otherQps s k := by
  have hsame : (b.countRdma (qpHalf k) sub 1).sameHost s :=
    State.count_sameHost (hb.sameHost (hout ▸ List.suffix_refl _)) _ _ _
  have hq := State.qp_countRdma b (qpHalf k) sub 1
  have hx : (b.countRdma (qpHalf k) sub 1).qpk k = b.qpk k := State.qpk_of_qp hq k
  refine ⟨_, State.answerRoce_eq hn hh hsame (by rw [hx, hs]) (by rw [hx, hr]) psn ans, ?_, congrArg _ hout, ?_, ?_⟩
  · rw [State.qpk_of_qp (State.qp_emit _ _), hx]
  · rw [State.emit_cnt, State.countRdma, State.cnt_countH_self, hb.cnt]
  · exact (State.otherQps_of_qp (State.qp_emit _ _) k).trans ((State.otherQps_of_qp hq k).trans hb.others)

/-- A failed check of a window is counted and draws a NAK (R295). -/
theorem State.winFail_spec {b : State} (hb : b.qpOnly s k) (hout : b.out = s.out) (hs : (b.qpk k).slice = (s.qpk k).slice)
    (hr : (b.qpk k).record = (s.qpk k).record) (hst : (b.qpk k).st = (s.qpk k).st) (m : Nat) :
    (b.winFail k p m).out = .roceTx (qpHalf k) (qrDestQpn (s.qpk k).record) p.psn .nakAccess :: s.out
      ∧ ((b.winFail k p m).qpk k).st = (s.qpk k).st
      ∧ (b.winFail k p m).cnt (0x6600 + (qpHalf k).num) 6 = s.cnt (0x6600 + (qpHalf k).num) 6 + 1
      ∧ (b.winFail k p m).otherQps s k := by
  have hx : (b.countRdma (qpHalf k) 6 1).qpk k = b.qpk k := State.qpk_of_qp (b.qp_countRdma _ _ _) k
  have hw : b.winFail k p m = ((b.countRdma (qpHalf k) 6 1).setQpk k { b.qpk k with
      ePsn := psnAdd p.psn m, dropMsg := !p.last, writeVa := none, unackedPkts := 0 }).answerRoce k p.psn .nakAccess := by
    rw [State.winFail, State.nakAccess, hx]
  obtain ⟨t, ht, hto, htx, htc, htq⟩ := State.countedAnswer_spec hn hh hb hout
    (y := { b.qpk k with ePsn := psnAdd p.psn m, dropMsg := !p.last, writeVa := none, unackedPkts := 0 }) hs hr 6 p.psn .nakAccess
  rw [hw, ht, htx]
  exact ⟨hto, hst, htc, htq⟩

end

end

end Sys2Proof.Machine
end

section
namespace Sys2Proof.Machine
open Sys2Proof

/-- Settles O40, a packet at a time. -/
theorem rdmaResponder : Obligations.RdmaResponder := by
  unfold Obligations.RdmaResponder
  refine ⟨fun s h k p hf hp hk hd => ⟨fun hsl => ?misplaced, fun hh hsl => ⟨fun hic => ?icrc, fun hic hst => ?state⟩⟩,
    fun s h k p hr hc => ⟨fun hroom => ?parked, fun hfull => ?full⟩,
    fun s h k n p hr hc hud hce hn hh => ?packets,
    fun s h k hf hk hh => ?cnp,
    fun s h hrun hcc hw => ?window⟩
  case misplaced =>
    refine ⟨_, congrArg Host.Outcome.next ((State.roce_eq hf hp hk hd).trans (if_pos hsl)), s.countRdma_spec 1⟩
  case icrc =>
    have hr : s.roce h p = s.countRdma h 3 1 := by
      rw [State.roce_eq hf hp hk hd, if_neg (by simp [hh, hsl]), if_pos hic]
    exact ⟨_, congrArg Host.Outcome.next hr, s.countRdma_spec 3⟩
  case state =>
    have hr : s.roce h p = s.countRdma h 2 1 := by
      rw [State.roce_eq hf hp hk hd, if_neg (by simp [hh, hsl]), if_neg (by simp [hic]), if_pos hst]
    exact ⟨_, congrArg Host.Outcome.next hr, s.countRdma_spec 2⟩
  case parked =>
    obtain ⟨rfl, hst, hroce⟩ := State.roce_taken hr
    rw [if_pos hc] at hroce
    exact ⟨_, congrArg Host.Outcome.next hroce, State.park_spec (by rcases hst with h | h <;> simp [h]) hc hroom⟩
  case full =>
    obtain ⟨rfl, -, hroce⟩ := State.roce_taken hr
    rw [if_pos hc] at hroce
    exact ⟨_, congrArg Host.Outcome.next (hroce.trans (if_pos hfull)), s.countRdma_spec 4⟩
  case cnp =>
    obtain ⟨t, ht, hspec⟩ := State.cnpReceive_spec hf hk hh
    exact ⟨t, congrArg Host.Outcome.next ht, hspec⟩
  case window =>
    obtain ⟨htime, hqps, hgroups⟩ := State.ccWindow_spec hrun hcc hw
    exact ⟨_, rfl, htime, hqps, fun g x hx => ⟨_, hgroups g x hx, Group.cnps_windowEnd _ _ _ _ _ _ _,
      Group.windowEnd_congested _ _ _ _ _ _ _, Group.windowEnd_calm _ _ _ _ _ _ _⟩⟩
  case packets =>
    obtain ⟨rfl, ht⟩ := exec_roceReceive_rc hr hc hud hce
    have huse := (s.qpOnly_refl k).useQp
    have huseout := s.useQp_out k
    have husex := s.qpk_useQp k
    refine ⟨fun hpsn hfirst => ?first, fun hne hd => ?ahead, fun hd => ?again⟩
    case first =>
      rw [State.respRc_first hpsn hfirst] at ht
      generalize hb : s.taking k = b at ht
      have hbs : b.qpOnly s k := hb ▸ s.taking_qpOnly k
      have hbo : b.out = s.out := hb ▸ s.taking_out k
      obtain ⟨use, hbx⟩ : ∃ use, b.qpk k = (s.qpk k).taking use := hb ▸ s.qpk_taking k
      have hrec : (b.qpk k).record = (s.qpk k).record := by rw [hbx, Qp.taking]
      have hslice : (b.qpk k).slice = (s.qpk k).slice := by rw [hbx, Qp.taking]
      have hmsn : (b.qpk k).msn = (s.qpk k).msn := by rw [hbx, Qp.taking]
      have hrq : (b.qpk k).rq = (s.qpk k).rq := by rw [hbx, Qp.taking]
      have hwin := hbs.windowOk hslice
      have hout : s.out <:+ b.out := hbo ▸ List.suffix_refl _
      have hrnext := hbs.rqNext hbo hrq
      refine ⟨fun hop hen hw => ?read, fun right hop hw hren hwen => ?refused, fun hop hlast himm hack hen hw => ?write,
        fun old hop hen hw hold => ?atomic, fun hop hnext => ?rnr, fun e hop hlast hnext hroom => ?send⟩
      case read =>
        have hresp : b.respOp k p = b.respRead k p := by simp only [State.respOp, hop]
        rw [hresp, State.respRead_ok (hrec ▸ hen) ((hwin _ _ _ _).trans hw)] at ht
        obtain ⟨hto, htx, hq⟩ := State.answered_spec hn hh hbs hout
          (y := { b.qpk k with
            ePsn := psnAdd p.psn (packets p.total (qrMtu (b.qpk k).record)), msn := (b.qpk k).msn + 1, unackedPkts := 0 })
          hslice hrec p.psn (.readData (fit p.total p.payload) true)
        refine ⟨_, ht, hbo ▸ hto, ?_, ?_, hq.frame⟩
        · rw [htx, hrec]
        · rw [htx, hmsn]
      case refused =>
        obtain ⟨m, hresp⟩ : ∃ m, b.respOp k p = b.winFail k p m := by
          simp only [List.mem_cons, Prod.mk.injEq, List.not_mem_nil, or_false] at hop
          rcases hop with ⟨hop, rfl⟩ | ⟨hop, rfl⟩
          all_goals simp only [State.respOp, hop]
          · exact ⟨_, State.respRead_refused (hrec ▸ hren) ((hwin _ _ _ _).trans hw)⟩
          · exact ⟨_, State.respWrite_refused hfirst (hrec ▸ hwen) ((hwin _ _ _ _).trans hw)⟩
        rw [hresp] at ht
        exact ⟨_, ht, State.winFail_spec hn hh hbs hbo hslice hrec (by rw [hbx, Qp.taking]) m⟩
      case write =>
        have hresp : b.respOp k p = b.respWrite k p := by simp only [State.respOp, hop]
        obtain ⟨b', hbx', hbo', hbs', hw'⟩ := State.respWrite_ok hfirst hlast himm hack (hrec ▸ hen) ((hwin _ _ _ _).trans hw)
        rw [hresp, hw'] at ht
        obtain ⟨hto, htx, hq⟩ := State.answered_spec hn hh (hbs' s hbs) (hbo' ▸ hout.trans (List.suffix_cons _ _))
          (y := { b.qpk k with writeVa := none, ePsn := p.psn + 1, unackedPkts := 0, msn := (b.qpk k).msn + 1 })
          hslice hrec p.psn .ack
        refine ⟨_, ht, ?_, ?_, ?_, ?_, hq.frame⟩
        · rw [hto, hbo', hbo]
        all_goals rw [htx]
        · rw [hmsn]
        · exact hrq
      case atomic =>
        have hresp : b.respOp k p = b.respAtomic k p := by rcases hop with hop | hop <;> simp only [State.respOp, hop]
        rw [hresp, State.respAtomic_ok (hrec ▸ hen) ((hwin _ _ _ _).trans hw) hold] at ht
        obtain ⟨hto, htx, hq⟩ := State.answered_spec hn hh hbs hout
          (y := { b.qpk k with
            ePsn := p.psn + 1, msn := (b.qpk k).msn + 1, unackedPkts := 0
            atomics := ((p.psn, old) :: (b.qpk k).atomics).take 32 })
          hslice hrec p.psn (.atomicData old)
        refine ⟨_, ht, hbo ▸ hto, ?_, ?_, hq.frame⟩
        · rw [htx]
        · rw [htx, hbx, Qp.taking]
      case rnr =>
        have hresp : b.respOp k p = b.sendRnr k p := by
          simp only [State.respOp, hop, State.respSend, hfirst, if_true, hrnext.trans hnext]
        obtain ⟨t, he, htx, hto, htc, -⟩ := State.countRdma_answerRoce hn hh hbs hbo hslice hrec 0x0C p.psn
          (.nakRnr (rnrCode (qrMinRnr (s.qpk k).record)))
        rw [hresp, State.sendRnr, hrec, he] at ht
        refine ⟨_, ht, ?_, ?_, hto, htc⟩
        · rw [htx, hbx, Qp.taking]
        · rw [htx, hrq]
      case send =>
        have hresp : b.respOp k p = b.respSend k p := by simp only [State.respOp, hop]
        rw [hresp, State.respSend_last hfirst hlast (hrnext.trans hnext) hroom] at ht
        obtain ⟨hrl, hron, hrdma, hroth, hrcpl⟩ := State.received_spec (p := p) (e := e) (hbs.sameHost hout) hbs.others hrq
        obtain ⟨⟨u, hix⟩, hioth, hisame⟩ := (b.received k p e).inOrder_spec k p
        have hsettle : ((b.received k p e).inOrder k p).settleQueue (rqOf k) = (b.received k p e).inOrder k p := by
          refine State.settleQueue_of_sliceOn ?_
          have hsl : ((b.received k p e).qpk k).rq.slice = (b.qpk k).rq.slice := (congrArg (fun x : Qp => x.rq.slice) hrl :)
          rw [State.queue_rqOf, hisame.sliceOn, hron, hix, hsl, hrq]
          exact State.sliceOn_of_rqNext hnext
        rw [hsettle] at ht
        refine ⟨_, ht, ?_, ?_, ?_, hisame.out.mem hrdma, fun hab => hioth.trans (hroth hab),
          fun hc => (hrcpl hc).mono hisame.out (List.suffix_refl _)⟩
        · rw [hix]
        · have hm : ((b.received k p e).qpk k).msn = (b.qpk k).msn := (congrArg Qp.msn hrl :)
          rw [hix, hm, hlast, if_pos rfl, hmsn]
        · rw [hix]
          exact (congrArg (fun x : Qp => x.rq.lastDone) hrl :)
    case ahead =>
      by_cases hsent : (s.qpk k).nakSent = true
      · have hresp : (s.useQp k).respRc k p = s.useQp k := by
          simp only [State.respRc, husex, if_neg hne, if_pos hd, hsent, if_true]
        rw [hresp] at ht
        refine ⟨_, ht, ?_, ?_, fun _ => huseout, fun h => absurd hsent (by simp [h]), huse.frame⟩
        · rw [husex]
        · rw [husex]
          exact hsent
      · have hresp : (s.useQp k).respRc k p = ((s.useQp k).setQpk k { (s.useQp k).qpk k with nakSent := true }).answerRoce k
            (s.qpk k).ePsn .nakSequence := by
          simp only [State.respRc, husex, if_neg hne, if_pos hd, if_neg hsent]
        rw [hresp] at ht
        obtain ⟨hto, htx, hq⟩ := State.answered_spec hn hh huse (huseout ▸ List.suffix_refl _)
          (y := { (s.useQp k).qpk k with nakSent := true }) (by rw [husex]) (by rw [husex]) (s.qpk k).ePsn .nakSequence
        refine ⟨_, ht, ?_, ?_, fun h => absurd h hsent, fun _ => huseout ▸ hto, hq.frame⟩
        · rw [htx, husex]
        · rw [htx]
    case again =>
      have hresp : (s.useQp k).respRc k p = (s.useQp k).duplicate k p := by
        have hne : p.psn ≠ (s.qpk k).ePsn := fun h => by
          rw [h, psnDist_self] at hd
          exact absurd hd (by decide)
        simp only [State.respRc, husex, if_neg hne, if_neg (Nat.not_lt.mpr hd)]
      rw [hresp] at ht
      refine ⟨fun hop => ?acknowledged, fun v hop hv => ?cached⟩
      case acknowledged =>
        have hdup : (s.useQp k).duplicate k p
            = ((s.useQp k).countRdma (qpHalf k) 7 1).answerRoce k ((s.qpk k).ePsn - 1) .ack := by
          rcases hop with hop | hop <;> simp only [State.duplicate, hop, husex]
        obtain ⟨t, he, htx, hto, htc, htq⟩ := State.countRdma_answerRoce hn hh huse huseout (by rw [husex]) (by rw [husex]) 7
          ((s.qpk k).ePsn - 1) .ack
        rw [hdup, he] at ht
        refine ⟨_, ht, ?_, ?_, hto, htc, htq⟩
        all_goals rw [htx, husex]
      case cached =>
        have hdup : (s.useQp k).duplicate k p = (s.useQp k).answerRoce k p.psn (.atomicData v.2) := by
          rcases hop with hop | hop <;> simp only [State.duplicate, hop, husex, hv]
        rw [hdup, State.answerRoce_eq hn hh (huse.sameHost (huseout ▸ List.suffix_refl _)) (by rw [husex]) (by rw [husex])] at ht
        refine ⟨_, ht, congrArg _ huseout, ?_, ?_, (huse.emit _).others⟩
        all_goals rw [State.qpk_of_qp (State.qp_emit _ _), husex]

end Sys2Proof.Machine
end
